-- ==== Sys2Proof/Word.lean ====
section
/-! DEFINITION. The word types of the TVK-9216 (00 "Notation": byte 8 bits, memory word 64 bits, numeric word
72 bits, line 128 bytes) and the plain constants of its layout. -/
namespace Sys2Proof

/-- A byte (00, term table). -/
abbrev Byte := BitVec 8
/-- A memory word, a g register, a C_ register (00, 03 R57). -/
abbrev Word := BitVec 64
/-- A physical address: 56 bits (01 R23). -/
abbrev PAddr := BitVec 56
/-- A line of 128 bytes as one bit vector, byte 0 in the low bits (00 R2: little-endian). -/
abbrev LineData := BitVec 1024

/-- Cores of the package (01 R15). -/
abbrev CoreNo := Fin 216
/-- Compute-die sites (01 R14). -/
abbrev SiteNo := Fin 12
/-- Home agents, channels and system-cache slices (01 R30). -/
abbrev HomeNo := Fin 16
/-- Praline slots (05). -/
abbrev SlotNo := Fin 32
/-- DMA channels (14 R368): 16 d + c channel c of die d, 192 + c hub channel c. -/
abbrev DmaNo := Fin 208

end Sys2Proof
end

