-- ==== Sys2Proof/Syntax.lean ====
section
/-! DEFINITION. The commands of the TVK-9216: one constructor of `Instr` for every row of spec/opcode_table.json, with
the operands the spec gives it, and the operand types. A core instruction carries the fields of its encoding format
(03 R73, 04 R125) and the core that executes it at its program counter; a register command carries its initiator; a
message carries the fields of its packet; an event on a contact or the end of a timed action carries what it brings. -/
namespace Sys2Proof

/-- RRR format (03 R73): predicate, destination, two sources; the function code is fixed by the row. -/
structure RRR where
  core : CoreNo
  pred : BitVec 3
  pn : Bool
  d : BitVec 5
  s1 : BitVec 5
  s2 : BitVec 5
deriving DecidableEq, Repr

/-- RRR format with the 7 function bits as an operand (CMP, LDX, STX, VLDF, VSTF, ARND). -/
structure RRRF where
  core : CoreNo
  pred : BitVec 3
  pn : Bool
  d : BitVec 5
  s1 : BitVec 5
  s2 : BitVec 5
  f : BitVec 7
deriving DecidableEq, Repr

/-- RRR format of ATOM (03 R80): size (function bit 4) and PLACE (bits [6:5]) are operands. -/
structure AtomF where
  core : CoreNo
  pred : BitVec 3
  pn : Bool
  d : BitVec 5
  s1 : BitVec 5
  s2 : BitVec 5
  dbl : Bool
  place : BitVec 2
deriving DecidableEq, Repr

/-- RRI format, and the M format of the same shape (03 R73): destination or data register, source or base, 12 bits. -/
structure RRI where
  core : CoreNo
  pred : BitVec 3
  pn : Bool
  d : BitVec 5
  s : BitVec 5
  imm : BitVec 12
deriving DecidableEq, Repr

/-- SHI (03 R75): imm[5:0]; imm[7:6] is fixed by the row and imm[11:8] must be 0. -/
structure ShiF where
  core : CoreNo
  pred : BitVec 3
  pn : Bool
  d : BitVec 5
  s : BitVec 5
  sh : BitVec 6
  hi : BitVec 4
deriving DecidableEq, Repr

/-- B format (03 R73): hint and 21-bit displacement. -/
structure BF where
  core : CoreNo
  pred : BitVec 3
  pn : Bool
  h : Bool
  disp : BitVec 21
deriving DecidableEq, Repr

/-- LI format (03 R73): destination and 17-bit immediate. -/
structure LIF where
  core : CoreNo
  pred : BitVec 3
  pn : Bool
  d : BitVec 5
  imm : BitVec 17
deriving DecidableEq, Repr

/-- V layout (04 R125): vector registers, shape SZ and rounding mode; OP is fixed by the row. -/
structure VF where
  core : CoreNo
  pred : BitVec 3
  pn : Bool
  vd : BitVec 5
  vs1 : BitVec 5
  vs2 : BitVec 5
  sz : Bool
  rm : BitVec 3
deriving DecidableEq, Repr

/-- ACC operations (04 R134): function bits [5:0] are fixed by the row, bit [6] is SZ. -/
structure AccF where
  core : CoreNo
  pred : BitVec 3
  pn : Bool
  d : BitVec 5
  s1 : BitVec 5
  s2 : BitVec 5
  sz : Bool
deriving DecidableEq, Repr

/-- MCALL (03 R84) with the choice of 17 R449: `svc` false, the call traps to the monitor, whose own commands follow;
`svc` true, the monitor's whole service as its call interface gives it. -/
structure McallF where
  core : CoreNo
  pred : BitVec 3
  pn : Bool
  d : BitVec 5
  s1 : BitVec 5
  s2 : BitVec 5
  svc : Bool
deriving DecidableEq, Repr

/-- Who sends a register access: node ID (09 R236), world (17 R439) and slice (0xFF: none); generation and tag of the
request (09 R239). -/
structure Init where
  node : Nat
  sec : Bool
  slice : Nat
  gen : Nat
  tag : Nat
deriving DecidableEq, Repr

/-- Completion status of an access (09 R240). -/
inductive Status where
  | ok | decerr | targetReset | targetOff | tout | ur | masterOff | retry | stale
deriving DecidableEq, Repr

/-- An accepted or offered contribution record (05 R152): header fields and the words LO to HI, word LO in the low
72 bits. -/
structure Record where
  slot : Nat
  epoch : Nat
  lo : Nat
  hi : Nat
  neg : Bool
  flags : BitVec 4
  zero : Bool
  words : BitVec 4608
  /-- Every header bit that must be 0 is 0. -/
  mbz : Bool
deriving DecidableEq, Repr

/-- A coherence request as a packet carries it (10 R272, 09 R239): requester node, generation, tag, world, slice, line
number (PA >> 7), byte mask of WRP and NCWR, data with poison marks, and the atomic's operation and size bits (R80),
byte offset, operand and compare value. -/
structure CohReq where
  node : Nat
  gen : Nat
  tag : Nat
  sec : Bool
  slice : Nat
  line : Nat
  mask : BitVec 128
  data : LineData
  poison : BitVec 16
  aop : Nat
  aoff : Nat
  operand : Word
  compare : Word
deriving DecidableEq, Repr

/-- One side of a die-to-die port (09 R259): hub side or die side, site, and hub direction. -/
structure PortRef where
  hub : Bool
  site : SiteNo
  dir : Fin 4
deriving DecidableEq, Repr

/-- A flit as received (09 R260): header fields, whether a unit fails its CRC, and its packets. -/
structure FlitIn where
  seq : Nat
  ack : Nat
  nak : Bool
  /-- Sender's width: 0 for 4 blocks, 1 for 8, 2 for 16. -/
  wstamp : Fin 3
  ctrl : Bool
  /-- The virtual channel whose credits are returned, and how many. -/
  crVc : Fin 8
  credits : Nat
  crcBad : Bool
  body : Nat
deriving DecidableEq, Repr

/-- What the ends of a die-to-die port find in training (09 R262, R266): the lanes that failed the die's lane test, in the
die's own lane numbers (01 R19), those that failed the hub's, and the protocol level, features and stepping that the compute
die offers. -/
structure TrainInfo where
  dieFail : List Nat
  hubFail : List Nat
  major : Nat
  minor : Nat
  feat : Nat
  base : Nat
  metal : Nat
deriving DecidableEq, Repr

/-- What a target outside the package answers to a read or write of a DMA channel (12 R327, 13 R353). -/
structure ExtReply where
  status : Status
  data : LineData
  poison : BitVec 16
deriving DecidableEq, Repr

/-- An outbound access to a host-bus window (13 R345): address, bytes, write or read, atomic operation if any. -/
structure OutReq where
  addr : Nat
  size : Nat
  write : Bool
  data : LineData
  /-- Waits for a completion (reads, atomics); a posted write does not. -/
  posted : Bool
  tag : Nat
  pasid : Option Nat
deriving DecidableEq, Repr

/-- An inbound TLP (13 R335, R347, R348): controller and port it reached, Requester ID, kind (0 memory read, 1 posted memory
write, 2 atomic), bus address, length, data of up to 512 bytes, EP bit, PASID, atomic operation. -/
structure Tlp where
  ctl : Fin 8
  port : Fin 4
  rid : BitVec 16
  kind : Fin 3
  addr : Nat
  len : Nat
  data : BitVec 4096
  ep : Bool
  pasid : Option Nat
  aop : Nat
deriving DecidableEq, Repr

/-- What a device answers to a configuration request (13 R337, R338): a value, UR or CA, Request Retry Status, or
nothing within the limit. -/
inductive CfgAnswer where
  | value (v : BitVec 64)
  | ur
  | rrs
  | none
deriving DecidableEq, Repr

/-- A received Ethernet frame, as far as the filter of 15 R394 and R383 looks at it. -/
structure EthFrame where
  /-- Untagged IPv6 (Ethertype 0x86DD, no VLAN tag). -/
  ipv6 : Bool
  pauseFrame : Bool
  dstOk : BitVec 128
  src : BitVec 128
  /-- ICMPv6 Neighbor Solicitation or Echo Request for the port. -/
  icmp : Bool
  udp : Nat
  /-- The Lyseb header (R384). -/
  major : Nat
  typ : Nat
  srcpkg : Nat
  dstpkg : Nat
  /-- The frame carries an ECN CE mark. -/
  ce : Bool
  /-- The GCM tag verifies. -/
  tagOk : Bool
  /-- Bytes of the frame (R381). -/
  len : Nat
deriving DecidableEq, Repr

/-- A fabric message (15 R386), with the payloads of R272 for RD, WRF, WRP and ATOM, and the record of COLLUP and
COLLDOWN. -/
structure FabMsg where
  mop : Nat
  tag : Nat
  ctx : Nat
  status : Status
  offset : Nat
  psnmap : BitVec 16
  seq : Nat
  mask : BitVec 128
  data : LineData
  aop : Nat
  aoff : Nat
  operand : Word
  compare : Word
  eclass : Bool
  crec : Option Record
deriving DecidableEq, Repr

/-- A received DATA packet (15 R384): PSN, key slot, acknowledgement fields and its messages. -/
structure FabIn where
  psn : Nat
  keyid : Bool
  ece : Bool
  ackpsn : Nat
  sack : BitVec 32
  eclass : Bool
  msgs : List FabMsg
deriving DecidableEq, Repr

/-- A received handshake packet (15 R390): sender, the offers of R389, whether its identity key has the hash of
FAB_PEER_IDHASH, and whether the signature verifies. -/
structure Offer where
  srcpkg : Nat
  /-- Majors 1 and 2 offered. -/
  maj1 : Bool
  maj2 : Bool
  minor : Nat
  feat : Nat
  idOk : Bool
deriving DecidableEq, Repr

/-- A pair-link message (16 R420): the fields behind TYPE. -/
structure PairIn where
  entry : Fin 16
  psn : BitVec 16
  frame : Nat
  arg : Nat
  data : LineData
  /-- OPEN: GBASE, SIZE and number of cores (R423). -/
  gbase : Nat
  size : Nat
  cores : Nat
deriving DecidableEq, Repr

/-- A CAPS message (16 R419): protocol level, features, side, package number, identity as checked. -/
structure CapsIn where
  major : Nat
  minor : Nat
  feat : Nat
  side : Bool
  pkg : Nat
  idOk : Bool
deriving DecidableEq, Repr

/-- What a boot stage finds (19 R477): the fuse array's integrity, whether the flash answers, the dies' revisions, each
channel's DIMM and training, and whether COARSE was reached. The image itself is read from the flash or the buffer. -/
structure BootWork where
  fuseOk : Bool
  flashOk : Bool
  /-- Per site: REV bits [7:0] of the die. -/
  dieRev : List Nat
  /-- Per channel: 0 empty, else capacity in units of 8 GiB; type (0 RDIMM, 1 MRDIMM); highest rate; trained. -/
  dimmCap : List Nat
  dimmType : List Nat
  dimmRate : List Nat
  trained : List Bool
  coarse : Bool
deriving DecidableEq, Repr

/-- The commands, in the order of spec/opcode_table.json. -/
inductive Instr where
  /-- REGISTER_WRITE (R3): A write to a register field that has no row of its own acts by its access type and change class: RW, W1C, W1S, RWO, SRW, L, T shadow or Q. -/
  | registerWrite (i : Init) (off width : Nat) (data : Word)
  /-- SWARM_ACCESS (R38): An access to a group or all-instance slot samples the group masks, fans out through MGT and completes once. -/
  | swarmAccess (i : Init) (off width : Nat) (write : Bool) (data : Word)
  /-- SWARM_HOLD_RELEASE (R53): A swarm write carrying T fields held within 2 us of an edge is delivered after the edge passes. -/
  | swarmHoldRelease
  /-- SITE_CODE_SAMPLE (R16): At power-good a compute die samples and validates its site code into D2D_SITE. -/
  | siteCodeSample (site : SiteNo) (raw : BitVec 16)
  /-- TICK_EDGE (R45): When package time reaches TCK_NEXT the frame number increments, TCK shadows apply, TCK_NEXT advances, a pending step starts and the strobe is sent. -/
  | tickEdge
  /-- TICK_STROBE_ARRIVAL (R46): A block receives the tick strobe and applies its T shadows in its first cycle after arrival. -/
  | tickStrobeArrival (block : Nat)
  /-- EVENT_CROSSING (R43): An event crossing transfer completes into the receiving domain, merging events and setting XOVR if a second arrived. -/
  | eventCrossing (dom : Fin 6)
  /-- TCK_RUN (R49): Setting TCK_CTL.RUN starts the counter from TCK_TIME and fires the first edge at once if TCK_NEXT has passed. -/
  | tckRun
  /-- TCK_PERIOD_WRITE (R51): An in-range TCK_PERIOD write is checked by the Luna controller against the E-class load before it completes. -/
  | tckPeriodWrite (data : BitVec 32)
  /-- SCHEDULE_CHECK_DONE (R257): The Luna controller finishes a period or schedule check and the waiting write completes, shadowed or with PREJ. -/
  | scheduleCheckDone
  /-- TCK_RATE_WRITE (R50): A software write to TCK_RATE is applied when TSRC is 0, otherwise ignored with SRCERR. -/
  | tckRateWrite (data : BitVec 32)
  /-- TCK_TIME_NS_READ (R6): A read of TCK_TIME_NS latches the fraction into TCK_TIME_FRAC. -/
  | tckTimeNsRead (i : Init) (off width : Nat)
  /-- NEGATIVE_STEP_ABSORBED (R48): Half-rate counting ends when a negative step is used up. -/
  | negativeStepAbsorbed
  /-- TICK_IN_EDGE (R55): An active TICK_IN edge with IEN set is captured into TCK_IN_STAMP and sets INEV, or is ignored with INOVR. -/
  | tickInEdge
  /-- TICK_IN_LOCK_LOSS (R56): Four periods without an accepted TICK_IN edge clear LOCK. -/
  | tickInLockLoss
  /-- TICK_OUT_SECOND_PULSE (R54): In mode 3 TICK_OUT rises when package time passes a whole second. -/
  | tickOutSecondPulse
  /-- TICK_OUT_PULSE_END (R54): TICK_OUT falls when OWIDTH has elapsed. -/
  | tickOutPulseEnd
  /-- ADD (R75): g[d] gets a plus b. -/
  | add (o : RRR)
  /-- SUB (R75): g[d] gets a minus b. -/
  | sub (o : RRR)
  /-- AND (R75): g[d] gets a and b. -/
  | and (o : RRR)
  /-- OR (R75): g[d] gets a or b. -/
  | or (o : RRR)
  /-- XOR (R75): g[d] gets a xor b. -/
  | xor (o : RRR)
  /-- ANDN (R75): g[d] gets a and not b. -/
  | andn (o : RRR)
  /-- SLL (R75): Logical left shift by b[5:0]. -/
  | sll (o : RRR)
  /-- SRL (R75): Logical right shift by b[5:0]. -/
  | srl (o : RRR)
  /-- SRA (R75): Arithmetic right shift by b[5:0]. -/
  | sra (o : RRR)
  /-- ROR (R75): Rotate right by b[5:0]. -/
  | ror (o : RRR)
  /-- MIN (R75): Signed minimum. -/
  | min (o : RRR)
  /-- MAX (R75): Signed maximum. -/
  | max (o : RRR)
  /-- MINU (R75): Unsigned minimum. -/
  | minu (o : RRR)
  /-- MAXU (R75): Unsigned maximum. -/
  | maxu (o : RRR)
  /-- ADDW (R75): 32-bit add, sign-extended. -/
  | addw (o : RRR)
  /-- SUBW (R75): 32-bit subtract, sign-extended. -/
  | subw (o : RRR)
  /-- MUL (R75): Low 64 bits of the product. -/
  | mul (o : RRR)
  /-- MULH (R75): High 64 bits of the signed product. -/
  | mulh (o : RRR)
  /-- MULHU (R75): High 64 bits of the unsigned product. -/
  | mulhu (o : RRR)
  /-- DIV (R75): Signed division with the defined results for zero and overflow. -/
  | div (o : RRR)
  /-- DIVU (R75): Unsigned division. -/
  | divu (o : RRR)
  /-- REM (R75): Signed remainder. -/
  | rem (o : RRR)
  /-- REMU (R75): Unsigned remainder. -/
  | remu (o : RRR)
  /-- CLZ (R75): Count of leading zeros. -/
  | clz (o : RRR)
  /-- CTZ (R75): Count of trailing zeros. -/
  | ctz (o : RRR)
  /-- POPC (R75): Count of ones. -/
  | popc (o : RRR)
  /-- BSWAP (R75): Byte reversal. -/
  | bswap (o : RRR)
  /-- SEXTB (R75): Sign-extend a byte. -/
  | sextb (o : RRR)
  /-- SEXTH (R75): Sign-extend a half word. -/
  | sexth (o : RRR)
  /-- SEXTW (R75): Sign-extend a 32-bit word. -/
  | sextw (o : RRR)
  /-- ZEXTW (R75): Zero-extend a 32-bit word. -/
  | zextw (o : RRR)
  /-- ADDI (R75): g[d] gets g[s] plus the sign-extended immediate. -/
  | addi (o : RRI)
  /-- ANDI (R75): AND with the zero-extended immediate. -/
  | andi (o : RRI)
  /-- ORI (R75): OR with the zero-extended immediate. -/
  | ori (o : RRI)
  /-- XORI (R75): XOR with the zero-extended immediate. -/
  | xori (o : RRI)
  /-- SHI_SLL (R75): Immediate logical left shift. -/
  | shiSll (o : ShiF)
  /-- SHI_SRL (R75): Immediate logical right shift. -/
  | shiSrl (o : ShiF)
  /-- SHI_SRA (R75): Immediate arithmetic right shift. -/
  | shiSra (o : ShiF)
  /-- SHI_ROR (R75): Immediate rotate right. -/
  | shiRor (o : ShiF)
  /-- CMP (R77): Register compare writes the predicate pair. -/
  | cmp (o : RRRF)
  /-- CMPI (R77): Signed compare with an immediate writes the predicate pair. -/
  | cmpi (o : RRI)
  /-- CMPIU (R77): Unsigned compare with an immediate writes the predicate pair. -/
  | cmpiu (o : RRI)
  /-- LI (R75): Loads a sign-extended 17-bit immediate. -/
  | li (o : LIF)
  /-- LSI (R75): Shifts g[d] left 16 and inserts a 16-bit immediate. -/
  | lsi (o : LIF)
  /-- ADDPC (R75): g[d] gets PC plus the shifted immediate. -/
  | addpc (o : LIF)
  /-- PAND (R77): Predicate AND. -/
  | pand (o : RRR)
  /-- POR (R77): Predicate OR. -/
  | por (o : RRR)
  /-- PXOR (R77): Predicate XOR. -/
  | pxor (o : RRR)
  /-- PANDN (R77): Predicate AND NOT. -/
  | pandn (o : RRR)
  /-- PORN (R77): Predicate OR NOT. -/
  | porn (o : RRR)
  /-- PNOT (R77): Predicate NOT. -/
  | pnot (o : RRR)
  /-- MFP (R77): Copies the predicates into a g register. -/
  | mfp (o : RRR)
  /-- MTP (R77): Copies g bits into p1-p7. -/
  | mtp (o : RRR)
  /-- LDB (R78): Loads a byte, zero-extended. -/
  | ldb (o : RRI)
  /-- LDBS (R78): Loads a byte, sign-extended. -/
  | ldbs (o : RRI)
  /-- LDH (R78): Loads 2 bytes, zero-extended. -/
  | ldh (o : RRI)
  /-- LDHS (R78): Loads 2 bytes, sign-extended. -/
  | ldhs (o : RRI)
  /-- LDW (R78): Loads 4 bytes, zero-extended. -/
  | ldw (o : RRI)
  /-- LDWS (R78): Loads 4 bytes, sign-extended. -/
  | ldws (o : RRI)
  /-- LDD (R78): Loads 8 bytes. -/
  | ldd (o : RRI)
  /-- STB (R78): Stores a byte. -/
  | stb (o : RRI)
  /-- STH (R78): Stores 2 bytes. -/
  | sth (o : RRI)
  /-- STW (R78): Stores 4 bytes. -/
  | stw (o : RRI)
  /-- STD (R78): Stores 8 bytes. -/
  | std (o : RRI)
  /-- LDX (R79): Indexed load with optional scaling. -/
  | ldx (o : RRRF)
  /-- STX (R79): Indexed store with optional scaling. -/
  | stx (o : RRRF)
  /-- ATOM_SWAP (R80): Atomic swap returning the old value. -/
  | atomSwap (o : AtomF)
  /-- ATOM_ADD (R80): Atomic add. -/
  | atomAdd (o : AtomF)
  /-- ATOM_AND (R80): Atomic AND. -/
  | atomAnd (o : AtomF)
  /-- ATOM_OR (R80): Atomic OR. -/
  | atomOr (o : AtomF)
  /-- ATOM_XOR (R80): Atomic XOR. -/
  | atomXor (o : AtomF)
  /-- ATOM_SMIN (R80): Atomic signed minimum. -/
  | atomSmin (o : AtomF)
  /-- ATOM_SMAX (R80): Atomic signed maximum. -/
  | atomSmax (o : AtomF)
  /-- ATOM_UMIN (R80): Atomic unsigned minimum. -/
  | atomUmin (o : AtomF)
  /-- ATOM_UMAX (R80): Atomic unsigned maximum. -/
  | atomUmax (o : AtomF)
  /-- ATOM_CAS (R80): Atomic compare-and-swap. -/
  | atomCas (o : AtomF)
  /-- BR (R83): Branch to PC plus the displacement. -/
  | br (o : BF)
  /-- CALL (R83): Writes g31 with PC plus 4 and branches. -/
  | call (o : BF)
  /-- JR (R83): Indirect jump. -/
  | jr (o : RRR)
  /-- RET (R83): Indirect jump marked as a return. -/
  | ret (o : RRR)
  /-- JALR (R83): Indirect call writing the link. -/
  | jalr (o : RRR)
  /-- NOP (R84): Does nothing. -/
  | nop (o : RRR)
  /-- SYSCALL (R84): Completes, then raises SYSCALL. -/
  | syscall (o : RRR)
  /-- HCALL (R84): Completes, then raises HCALL to H. -/
  | hcall (o : RRR)
  /-- MCALL (R84): Completes, then traps to the Chrysalis monitor. -/
  | mcall (o : McallF)
  /-- BRK (R84): Completes, then halts in debug or raises BRK. -/
  | brk (o : RRR)
  /-- ERET (R66): Returns from a trap to the level, world and PC of the bank. -/
  | eret (o : RRR)
  /-- WFI (R72): Waits until an interrupt is pending that could be taken; may enter IDLE. -/
  | wfi (o : RRR)
  /-- WFI_WAKE (R72): A qualifying interrupt becomes pending and a waiting WFI completes. -/
  | wfiWake (core : CoreNo)
  /-- FENCE (R88): Orders earlier accesses before later ones. -/
  | fence (o : RRR)
  /-- FENCE_G (R401): As FENCE, and waits for WACK of every earlier remote write. -/
  | fenceG (o : RRR)
  /-- ISYNC (R84): Discards fetched instructions. -/
  | isync (o : RRR)
  /-- GCALL (R442): Enters a secure gate, or resumes a preempted call, or is refused with GATE. -/
  | gcall (o : RRR)
  /-- GRET (R444): Returns from a gate call, scrubbing state. -/
  | gret (o : RRR)
  /-- TLBI_VA (R229): Invalidates translations for a VA and ASID and broadcasts. -/
  | tlbiVa (o : RRR)
  /-- TLBI_AS (R229): Invalidates translations for an ASID and broadcasts. -/
  | tlbiAs (o : RRR)
  /-- TLBI_ALL (R229): Invalidates all translations of the current stage and world and broadcasts. -/
  | tlbiAll (o : RRR)
  /-- TLBI_S2 (R229): Invalidates every entry of a GID and broadcasts. -/
  | tlbiS2 (o : RRR)
  /-- TLBSYNC (R230): Waits until every target has acknowledged earlier TLBIs. -/
  | tlbsync (o : RRR)
  /-- TLBI_RECEIVE (R231): A target removes matching entries, waits for older walks and acknowledges. -/
  | tlbiReceive (id : Nat) (target : Fin 217)
  /-- TLBIACK (R230): A TLBI acknowledgement reaches the issuing core. -/
  | tlbiAck (id : Nat) (target : Fin 217)
  /-- TLBSYNC_TIMEOUT (R232): A TLBI target fails to acknowledge in time; TLBSYNC raises BUSERR TOUT. -/
  | tlbsyncTimeout (core : CoreNo)
  /-- MFC (R59): Copies a control register into g. -/
  | mfc (o : RRI)
  /-- MTC (R59): Copies g into a control register with no row of its own. -/
  | mtc (o : RRI)
  /-- CACHEOP_CLEANINV (R201): MTC to C_CACHEOP cleans and invalidates L1D and L2. -/
  | cacheopCleaninv (o : RRI)
  /-- CLEANINV_DONE (R201): Every dirty line is acknowledged and the CLEANINV MTC completes. -/
  | cleaninvDone (core : CoreNo)
  /-- CACHEOP_INVL1I (R201): MTC to C_CACHEOP invalidates L1I. -/
  | cacheopInvl1i (o : RRI)
  /-- CACHE_ENABLE_CHANGE (R200): MTC changing L1DEN or L2EN waits for earlier accesses and may set DIRTY_ABANDONED or STALE_RISK. -/
  | cacheEnableChange (o : RRI)
  /-- ACCST_WRITE (R110): MTC to C_ACCST takes effect after pending accumulations. -/
  | accstWrite (o : RRI)
  /-- PRINV_ITT (R183): MTC to C_PRINV invalidates ITT entries in scope. -/
  | prinvItt (o : RRI)
  /-- PRINV_RS (R183): MTC to C_PRINV invalidates return-stack entries in scope. -/
  | prinvRs (o : RRI)
  /-- IEOI (R457): MTC to C_IEOI clears ACTIVE of the named source. -/
  | ieoi (o : RRI)
  /-- LFLUSH (R202): Cleans and invalidates a line everywhere. -/
  | lflush (o : RRR)
  /-- LCLEAN (R202): Writes back dirty data of a line. -/
  | lclean (o : RRR)
  /-- LDROP (R202): Invalidates a line; discards only own non-coherent dirty data. -/
  | ldrop (o : RRR)
  /-- LZERO (R204): Zeros a line without fetching. -/
  | lzero (o : RRR)
  /-- IDROP (R202): Invalidates a line in own L1I. -/
  | idrop (o : RRR)
  /-- IDROPALL (R202): Invalidates own L1I. -/
  | idropall (o : RRR)
  /-- SWFLUSH (R203): Cleans and invalidates one set and way of L1D or L2. -/
  | swflush (o : RRR)
  /-- PREFETCH_R (R202): Hint to fill a line for reading. -/
  | prefetchR (o : RRR)
  /-- PREFETCH_W (R202): Hint to fill a line for ownership. -/
  | prefetchW (o : RRR)
  /-- HW_PREFETCH (R195): A hardware prefetcher issues a fill. -/
  | hwPrefetch (core : CoreNo) (va : Word) (level2 : Bool)
  /-- STORE_STATUS_RETURN (R94): A non-OK status for a store that left the core is recorded as a deferred BUSERR. -/
  | storeStatusReturn (core : CoreNo)
  /-- DEFERRED_BUSERR (R94): A pending deferred BUSERR is taken at an instruction boundary. -/
  | deferredBuserr (core : CoreNo)
  /-- SINGLE_STEP_TRAP (R70): STEP is taken after the completed instruction when SS is set. -/
  | singleStepTrap (core : CoreNo)
  /-- INTERRUPT_TAKEN (R71): The core takes an IRT offer at a boundary, traps and sends IRQACK. -/
  | interruptTaken (core : CoreNo)
  /-- GATE_PREEMPT (R446): A normal-world interrupt preempts an open gate call with PRE set. -/
  | gatePreempt (core : CoreNo)
  /-- RELEASE (R96): C_RUN.RELEASE starts a HELD core at C_START. -/
  | coreRelease (core : CoreNo)
  /-- HALTREQ (R96): C_RUN.HALTREQ requests a debug halt. -/
  | haltreq (core : CoreNo)
  /-- DEBUG_HALT (R450): A pending halt request is honoured at a boundary where the debug level allows it. -/
  | debugHalt (core : CoreNo)
  /-- RESUME (R96): C_RUN.RESUME resumes a HALTED core. -/
  | resume (core : CoreNo)
  /-- CRESET (R97): C_RUN.CRESET fences the core, cleans its caches and resets it. -/
  | creset (core : CoreNo)
  /-- CORE_RESET_DONE (R97): A core reset ends; the core returns to HELD with its generation incremented. -/
  | coreResetDone (core : CoreNo)
  /-- C_DBGINST (R99): A write to C_DBGINST executes one instruction on a HALTED core. -/
  | cDbginst (core : CoreNo) (insn : BitVec 32)
  /-- FADD (R127): Lane-wise add. -/
  | fadd (o : VF)
  /-- FSUB (R127): Lane-wise subtract. -/
  | fsub (o : VF)
  /-- FMUL (R127): Lane-wise multiply. -/
  | fmul (o : VF)
  /-- FDIV (R127): Lane-wise divide. -/
  | fdiv (o : VF)
  /-- FMIN (R127): Lane-wise minimum. -/
  | fmin (o : VF)
  /-- FMAX (R127): Lane-wise maximum. -/
  | fmax (o : VF)
  /-- FSQRT (R127): Lane-wise square root. -/
  | fsqrt (o : VF)
  /-- FRINT (R127): Lane-wise round to integral. -/
  | frint (o : VF)
  /-- FMA (R128): Fused multiply-add. -/
  | fma (o : VF)
  /-- FMS (R128): Fused multiply-subtract. -/
  | fms (o : VF)
  /-- FNMA (R128): Negated fused multiply-add. -/
  | fnma (o : VF)
  /-- FNMS (R128): Negated fused multiply-subtract. -/
  | fnms (o : VF)
  /-- FEQ (R129): Equality compare to a lane mask. -/
  | feq (o : VF)
  /-- FLT (R129): Less-than compare to a lane mask. -/
  | flt (o : VF)
  /-- FLE (R129): Less-or-equal compare to a lane mask. -/
  | fle (o : VF)
  /-- FUN (R129): Unordered compare to a lane mask. -/
  | funord (o : VF)
  /-- FNE (R129): Not-equal compare to a lane mask. -/
  | fne (o : VF)
  /-- VCVT_NATIVE (R130): Converts between F72 and F36 lanes. -/
  | vcvtNative (o : VF)
  /-- VCVT_TO_SIGNED (R130): Converts floats to signed integers. -/
  | vcvtToSigned (o : VF)
  /-- VCVT_TO_UNSIGNED (R130): Converts floats to unsigned integers. -/
  | vcvtToUnsigned (o : VF)
  /-- VCVT_FROM_SIGNED (R130): Converts signed integers to floats. -/
  | vcvtFromSigned (o : VF)
  /-- VCVT_FROM_UNSIGNED (R130): Converts unsigned integers to floats. -/
  | vcvtFromUnsigned (o : VF)
  /-- VMOV (R131): Vector register copy. -/
  | vmov (o : VF)
  /-- VSEL (R131): Lane select by a g mask. -/
  | vsel (o : VF)
  /-- VBCAST (R131): Broadcasts a widened g value to every lane. -/
  | vbcast (o : VF)
  /-- VGET (R131): Rounds one lane into a g register. -/
  | vget (o : VF)
  /-- VNEG (R131): Inverts every sign bit. -/
  | vneg (o : VF)
  /-- VABS (R131): Clears every sign bit. -/
  | vabs (o : VF)
  /-- VZERO (R131): Zeros a vector register. -/
  | vzero (o : VF)
  /-- VLD (R132): Loads B64 form into a vector register. -/
  | vld (o : RRI)
  /-- VST (R132): Stores a vector register in B64 form. -/
  | vst (o : RRI)
  /-- VLDF (R132): Loads a vector register in any memory form. -/
  | vldf (o : RRRF)
  /-- VSTF (R132): Stores a vector register in any memory form. -/
  | vstf (o : RRRF)
  /-- ASAVE (R133): Stores the 576-byte image of an accumulator. -/
  | asave (o : RRR)
  /-- ALOAD (R133): Loads an accumulator value from an image. -/
  | aload (o : RRR)
  /-- ACLR (R134): Clears an accumulator and its flags. -/
  | aclr (o : AccF)
  /-- AADD (R134): Adds vector lanes exactly into an accumulator. -/
  | aadd (o : AccF)
  /-- ASUB (R134): Subtracts vector lanes exactly from an accumulator. -/
  | asub (o : AccF)
  /-- ADOT (R134): Adds exact lane products into an accumulator. -/
  | adot (o : AccF)
  /-- ADOTN (R134): Subtracts exact lane products from an accumulator. -/
  | adotn (o : AccF)
  /-- AMOV (R134): Copies one accumulator to another. -/
  | amov (o : AccF)
  /-- AACC (R134): Adds one accumulator into another. -/
  | aacc (o : AccF)
  /-- ASUBA (R134): Subtracts one accumulator from another. -/
  | asuba (o : AccF)
  /-- AADDG (R134): Adds a g-register float exactly. -/
  | aaddg (o : AccF)
  /-- AINFO (R139): Writes the span of an accumulator to g. -/
  | ainfo (o : AccF)
  /-- APOST (R143): Posts an accumulator span to a Praline slot and writes the status. -/
  | apost (o : AccF)
  /-- ARND (R141): Rounds an accumulator once to the target, optionally clearing it. -/
  | arnd (o : RRRF)
  /-- CONTRIBUTION_RECORD (R153): A whole record taken in at a slot is checked and accepted or refused. -/
  | contributionRecord (slot : SlotNo) (r : Record) (i : Init) (port : Bool)
  /-- RECORD_ADDED (R154): The slot adder finishes adding an accepted record. -/
  | recordAdded (slot : SlotNo)
  /-- PORT_WRITE (R156): A write to a contribution port starts, continues or discards a record assembly. -/
  | portWrite (i : Init) (slot : SlotNo) (off width : Nat) (data : Word)
  /-- PRL_GRANT (R161): A grant request is checked and granted, refused or queued. -/
  | prlGrant (i : Init) (data : Word)
  /-- GRANT_CANCEL (R161): PRL_GREST.CANCEL withdraws a WAITING request. -/
  | grantCancel (tag : Fin 16)
  /-- GRANT_ACK (R161): PRL_GREST.ACK returns a status to IDLE. -/
  | grantAck (tag : Fin 16)
  /-- SEAL (R168): Puts an OPEN slot in COMPLETE. -/
  | slotSeal (slot : SlotNo) (i : Init)
  /-- CLEAR (R168): Zeros a slot's value, flags and COUNT. -/
  | slotClear (slot : SlotNo) (i : Init)
  /-- ROUND (R170): Rounds a slot value into RES after queued records are added. -/
  | slotRound (slot : SlotNo) (i : Init) (rm : BitVec 3) (tgt : BitVec 2)
  /-- ROUND_RESULT (R170): RVALID sets when the ROUND result is ready. -/
  | roundResult (slot : SlotNo)
  /-- DUMP (R171): Writes the slot image to DADDR. -/
  | slotDump (slot : SlotNo) (i : Init)
  /-- DUMP_DONE (R171): Every dump write is answered; DEV sets, with DERR on failure. -/
  | dumpDone (slot : SlotNo)
  /-- RENEW (R165): Extends a slot lease, refused past its end. -/
  | slotRenew (slot : SlotNo) (i : Init) (lease : BitVec 16)
  /-- SLOT_RELEASE (R168): Puts a slot in CLOSING to be freed without waiting for an edge. -/
  | slotRelease (slot : SlotNo) (i : Init)
  /-- LEASE_EXPIRY (R166): At an edge, slots whose lease frame ended enter CLOSING and set LEV. -/
  | leaseExpiry
  /-- SLOT_WIPED (R166): A CLOSING slot finishes its queued adds, is wiped and becomes FREE. -/
  | slotWiped (slot : SlotNo)
  /-- WAITER_GRANT (R164): At an edge FREE slots are granted to queued waiters. -/
  | waiterGrant
  /-- DUMP_ABANDON (R167): A CLOSING slot not FREE by the next edge abandons its dump, sets LOVR and DERR, and is freed. -/
  | dumpAbandon (slot : SlotNo)
  /-- BRANCH_MISPREDICT (R185): A resolved branch or jump that was mispredicted cancels the wrong path. -/
  | branchMispredict (core : CoreNo)
  /-- CDA_FLUSH (R210): CDA_CTL.FLUSH starts cleaning the die cache. -/
  | cdaFlush (site : SiteNo)
  /-- CDA_FLUSH_DONE (R210): Every die-cache write-back is acknowledged and FLUSHBUSY clears. -/
  | cdaFlushDone (site : SiteNo)
  /-- ATS_TRANSLATION_REQUEST (R235): An ATS Translation Request is answered from an I/O walk. -/
  | atsTranslationRequest (t : Tlp)
  /-- TRANSACTION_TIMEOUT (R249): A tag timer expires; a TOUT reply is synthesised and the tag quarantined. -/
  | transactionTimeout (node tag : Nat)
  /-- QUARANTINE_END (R249): Twice the limit passes and a quarantined tag becomes reusable. -/
  | quarantineEnd (node tag : Nat)
  /-- LATE_REPLY (R249): A reply after TOUT is dropped and counted in LATECNT. -/
  | lateReply (node tag : Nat)
  /-- STALE_REPLY (R251): A reply with an old generation is dropped and counted in STALECNT. -/
  | staleReply (node gen tag : Nat)
  /-- FENCE_ANSWER (R252): A request to a fenced node is answered at once with TARGET_OFF or TARGET_RESET. -/
  | fenceAnswer (dst src tag : Nat) (reply : Bool)
  /-- ROUTE_ARM (R255): NOC_RT_CTL.ARM requests a route-table switch, refused while not drained. -/
  | routeArm
  /-- ROUTE_DRAINED (R255): No old-version packet remains and DRAINED sets. -/
  | routeDrained
  /-- ESLOT_START (R256): An E-class slot becomes active START ns after the edge. -/
  | eslotStart (k : Fin 64)
  /-- FLIT_RECEIVE (R261): A received flit is accepted or, on CRC error or width mismatch, refused with NAK or retraining. -/
  | flitReceive (p : PortRef) (f : FlitIn)
  /-- NAK_RECEIVE (R261): A NAK makes the sender replay from the flit after ACK. -/
  | nakReceive (p : PortRef) (ack : Nat)
  /-- CONTROL_FLIT_TIMER (R261): A sender idle for 256 cycles emits a control flit. -/
  | controlFlitTimer (p : PortRef)
  /-- RETRAIN_PATTERN_DETECT (R263): An end detects the retrain pattern and starts retraining. -/
  | retrainPatternDetect (p : PortRef)
  /-- TRAINING_DONE (R262): Training completes and the port comes UP at its width. -/
  | trainingDone (site : SiteNo) (dir : Fin 4) (t : TrainInfo)
  /-- TRAINING_FAIL (R264): Training fails or times out; after three the port is DEAD. -/
  | trainingFail (site : SiteNo) (dir : Fin 4)
  /-- D2D_PORT_ENABLE (R265): D2D_PCTL.EN takes a port down or retrains it. -/
  | d2dPortEnable (p : PortRef) (en : Bool)
  /-- D2D_RETRAIN (R263): D2D_PCTL.RETRAIN requests retraining. -/
  | d2dRetrain (p : PortRef)
  /-- PHYRST (R260): D2D_PCTL.PHYRST resets this side's PHY to width 16. -/
  | phyrst (p : PortRef)
  /-- CORE_REQUEST_AT_CDA (R284): The CDA serves a core coherent request locally or sends it to the home. -/
  | coreRequestAtCda (core : CoreNo) (op : Fin 6) (line : Nat) (sec : Bool) (slice : Nat)
  /-- RDS (R281): Home serves a read to share. -/
  | cohRds (h : HomeNo) (r : CohReq)
  /-- RDO (R281): Home serves a read for ownership. -/
  | cohRdo (h : HomeNo) (r : CohReq)
  /-- UPG (R281): Home serves an upgrade. -/
  | cohUpg (h : HomeNo) (r : CohReq)
  /-- OWNZ (R281): Home grants ownership without data. -/
  | cohOwnz (h : HomeNo) (r : CohReq)
  /-- RDC (R281): Home serves an uncached read. -/
  | cohRdc (h : HomeNo) (r : CohReq)
  /-- WRF (R281): Home performs a full-line write. -/
  | cohWrf (h : HomeNo) (r : CohReq)
  /-- WRP (R281): Home performs a partial write. -/
  | cohWrp (h : HomeNo) (r : CohReq)
  /-- CLN (R281): Home cleans a line everywhere. -/
  | cohCln (h : HomeNo) (r : CohReq)
  /-- FLS (R281): Home cleans and invalidates a line everywhere. -/
  | cohFls (h : HomeNo) (r : CohReq)
  /-- ATOMF (R291): Home performs a far atomic. -/
  | cohAtomf (h : HomeNo) (r : CohReq)
  /-- ATOMM (R291): Home passes a memory atomic to the channel. -/
  | cohAtomm (h : HomeNo) (r : CohReq)
  /-- WB (R281): Home accepts a dirty eviction. -/
  | cohWb (h : HomeNo) (r : CohReq)
  /-- WBK (R281): Home accepts a write-back that keeps the line. -/
  | cohWbk (h : HomeNo) (r : CohReq)
  /-- EVC (R281): Home accepts a clean eviction. -/
  | cohEvc (h : HomeNo) (r : CohReq)
  /-- NCRD (R281): Home reads a non-coherent line. -/
  | cohNcrd (h : HomeNo) (r : CohReq)
  /-- NCWR (R281): Home writes a non-coherent line. -/
  | cohNcwr (h : HomeNo) (r : CohReq)
  /-- SNPS (R285): CDA answers a snoop to share. -/
  | cohSnps (site : SiteNo) (h : HomeNo) (tag line : Nat)
  /-- SNPI (R285): CDA answers a snoop to invalidate. -/
  | cohSnpi (site : SiteNo) (h : HomeNo) (tag line : Nat)
  /-- SNPC (R285): CDA answers a snoop for a copy. -/
  | cohSnpc (site : SiteNo) (h : HomeNo) (tag line : Nat)
  /-- SNPCL (R285): CDA answers a snoop to clean. -/
  | cohSnpcl (site : SiteNo) (h : HomeNo) (tag line : Nat)
  /-- BINV (R285): CDA answers a back-invalidation. -/
  | cohBinv (site : SiteNo) (h : HomeNo) (tag line : Nat)
  /-- SNOOP_ANSWER (R287): A SACK or SDAT reaches the home, which may tie a write-back and close or reply. -/
  | snoopAnswer (h : HomeNo) (site : SiteNo) (line : Nat) (st : Fin 4) (wbx : Bool) (dat : Option (LineData × BitVec 16))
  /-- ACK (R280): The requester's ACK closes a read transaction. -/
  | cohAck (h : HomeNo) (node tag line : Nat)
  /-- DAT_RECEIVE (R284): Line data reaches the CDA, which fills and sends ACK. -/
  | datReceive (site : SiteNo) (tag : Nat) (st : Fin 4) (data : LineData) (poison : BitVec 16)
  /-- CMP_RECEIVE (R286): A completion reaches the requester; for a write-back it frees the buffer entry. -/
  | cmpReceive (site : SiteNo) (tag : Nat) (status : Status)
  /-- CMP_RSV (R289): A RETRY with reservation reaches the requester, which waits for GNT. -/
  | cmpRsv (site : SiteNo) (tag : Nat)
  /-- GNT (R289): A granted reservation makes the requester reissue. -/
  | gnt (site : SiteNo) (tag : Nat)
  /-- RESERVATION_GRANT (R289): A blocking condition clears and the home sends GNT to the oldest reservation. -/
  | reservationGrant (h : HomeNo)
  /-- RESERVATION_LAPSE (R289): No reissue within the limit after GNT; the reservation lapses. -/
  | reservationLapse (h : HomeNo) (node : Nat)
  /-- COH_DIRQ (R276): A write starts a directory lookup into COH_DIRR. -/
  | cohDirq (h : HomeNo) (line : Nat)
  /-- MERGE_WRITE (R305): A write or ATOMM enters the channel merge buffer. -/
  | mergeWrite (h : HomeNo) (r : CohReq) (atomic : Bool)
  /-- MERGE_RETIRE_TIMEOUT (R306): An entry idle 256 MCCLK cycles retires by read-modify-write. -/
  | mergeRetireTimeout (h : HomeNo) (line : Nat)
  /-- CHANNEL_READ (R307): A channel read returns DRAM data merged with buffered writes. -/
  | channelRead (h : HomeNo) (line : Nat)
  /-- SCRUB_READ (R310): A scrub read completes and is decoded. -/
  | scrubRead (h : HomeNo)
  /-- CHANNEL_ENABLE (R298): MEM_CFG.EN starts channel training. -/
  | channelEnable (h : HomeNo)
  /-- CHANNEL_TRAINED (R298): Training succeeds or fails and TRAINED or TFAIL sets. -/
  | channelTrained (h : HomeNo) (ok : Bool) (step : BitVec 4)
  /-- MEM_INJ_ARM (R312): Arms error injection for the next codeword written. -/
  | memInjArm (h : HomeNo) (i : Init) (data : BitVec 32)
  /-- MSC_DISABLE (R314): Writing MSC_CTL.EN 0 invalidates every line of the slice. -/
  | mscDisable (h : HomeNo)
  /-- MRAM_ACCESS (R316): The MRAM target reads or writes a line, classifying and rewriting words. -/
  | mramAccess (r : CohReq) (write : Bool)
  /-- DMA_START (R325): START reads the descriptor at DMA_NEXT and enters RUN. -/
  | dmaStart (ch : DmaNo)
  /-- DMA_STOP (R325): STOP enters STOPPING, or IDLE from EMPTY. -/
  | dmaStop (ch : DmaNo)
  /-- DOORBELL (R326): DOORBELL rereads the tail from EMPTY or is remembered in RUN. -/
  | dmaDoorbell (ch : DmaNo)
  /-- CLRHALT (R325): Moves a HALTED channel to IDLE. -/
  | dmaClrhalt (ch : DmaNo)
  /-- DMA_CRESET (R328): Resets a channel, abandoning its transactions. -/
  | dmaCreset (ch : DmaNo)
  /-- DESCRIPTOR_FETCH (R318): A descriptor read returns and is started, found not ready, or marked BAD. -/
  | descriptorFetch (ch : DmaNo) (ext : ExtReply)
  /-- DMA_READ_COMPLETE (R320): A source read returns and its destination writes are issued, or the channel fails. -/
  | dmaReadComplete (ch : DmaNo) (ext : ExtReply)
  /-- DMA_WRITE_ACK (R322): A destination write is acknowledged; when all are, the descriptor is written back. -/
  | dmaWriteAck (ch : DmaNo) (ext : ExtReply)
  /-- DESCRIPTOR_WRITEBACK_ACK (R322): The descriptor write-back is acknowledged and the channel goes on or stops. -/
  | descriptorWritebackAck (ch : DmaNo) (ext : ExtReply)
  /-- DMA_BURST_ADMIT (R330): A burst is admitted once the budget covers it. -/
  | dmaBurstAdmit (ch : DmaNo)
  /-- OUTBOUND_ACCESS (R345): An access to the host-bus range is claimed by a root port or the endpoint and sent. -/
  | outboundAccess (i : Init) (r : OutReq)
  /-- COMPLETION_RECEIVE (R353): A host-bus completion returns its status or poisoned data to the initiator. -/
  | completionReceive (ctl : Fin 8) (tag : Nat) (good ep : Bool) (data : LineData)
  /-- INBOUND_REQUEST (R347): An inbound TLP is decoded as interrupt message or translated and performed. -/
  | inboundRequest (t : Tlp)
  /-- CONFIG_ACCESS (R337): A configuration-segment access performs configuration requests. -/
  | configAccess (i : Init) (off width : Nat) (write : Bool) (data : Word) (ans : CfgAnswer)
  /-- LINK_DOWN (R355): A link leaves DL_Active; outstanding and queued requests end with DECERR. -/
  | linkDown (ctl : Fin 8) (port : Fin 4)
  /-- BUS_MASTER_DISABLE (R356): The host clears Bus Master Enable; the function stops initiating. -/
  | busMasterDisable (func : Nat)
  /-- VF_FLR (R358): A VF function-level reset ends its requests, resets it and destroys its slice. -/
  | vfFlr (s : Fin 240)
  /-- PF_RESET (R359): A PF FLR, hot reset or upstream link loss resets every function and destroys every slice. -/
  | pfReset (linkLoss : Bool)
  /-- D3HOT_ENTRY (R360): A function enters D3hot and its BARs answer UR. -/
  | d3hotEntry (func : Nat)
  /-- RESIZABLE_BAR_WRITE (R350): A Resizable BAR Control write changes the BAR size. -/
  | resizableBarWrite (vf : Bool) (size : BitVec 6)
  /-- HPS_FRAME (R362): Every 10 us a hot-plug serial frame latches inputs and outputs. -/
  | hpsFrame (ins : BitVec 256)
  /-- PRESENCE_CHANGE (R363): A stable presence change sets Presence Detect Changed. -/
  | presenceChange (p : Fin 32) (present : Bool)
  /-- ATTENTION_BUTTON (R363): A stable button press sets Attention Button Pressed. -/
  | attentionButton (p : Fin 32)
  /-- POWER_FAULT (R363): A power fault asserts PERST_N and drops slot power. -/
  | powerFault (p : Fin 32)
  /-- POWER_CONTROLLER_CONTROL (R364): A Power Controller Control write powers the slot on or off. -/
  | powerControllerControl (p : Fin 32) (turnOff : Bool)
  /-- INDICATOR_CONTROL (R363): A Slot Control indicator write drives the LED. -/
  | indicatorControl (p : Fin 32) (power : Bool) (v : BitVec 2)
  /-- COMMAND_COMPLETED (R363): The frame carrying a Slot Control change is sent and Command Completed sets. -/
  | commandCompleted (p : Fin 32)
  /-- PERST_RELEASE (R364): 100 ms after power-on PERST_N is released and training begins. -/
  | perstRelease (p : Fin 32)
  /-- ATS_INVALIDATE (R365): HBU_ATSCMD.GO sends an Invalidate Request. -/
  | atsInvalidate (ctl : Fin 8) (data : Word)
  /-- INVALIDATE_COMPLETION (R365): The last Invalidate Completion arrives and DONE sets. -/
  | invalidateCompletion (ctl : Fin 8)
  /-- ATS_TIMEOUT (R365): Completions missing after 60 s set TOUT. -/
  | atsTimeout (ctl : Fin 8)
  /-- CREATE (R371): VSF CREATE checks and builds a slice. -/
  | vsfCreate (i : Init) (s : BitVec 8)
  /-- DESTROY (R372): VSF DESTROY ends a slice and frees its resources. -/
  | vsfDestroy (i : Init) (s : BitVec 8)
  /-- SLICE_COMMAND_DONE (R371): A slice command or destruction finishes and DONE or STATE updates. -/
  | sliceCommandDone
  /-- VSF_PGRAN_WRITE (R368): Setting a granule eligibility bit makes the granule dirty. -/
  | vsfPgranWrite (i : Init) (j : Fin 64) (data : Word)
  /-- GRANULE_ZERO (R368): The manager starts zeroing a dirty eligible granule. -/
  | granuleZero
  /-- GRANULE_CLEAN (R368): A granule's zeroing writes finish and it becomes clean. -/
  | granuleClean (g : Fin 4096)
  /-- VSF_VRUN (R375): Releases every HELD core of the slice. -/
  | vsfVrun (i : Init) (s : Fin 240)
  /-- VSF_PGRANT (R375): A slice-owned Praline grant request. -/
  | vsfPgrant (i : Init) (s : Fin 240) (data : Word)
  /-- VSF_HDB (R376): Host-to-slice doorbell sets pending bits. -/
  | vsfHdb (i : Init) (s : Fin 240) (bits : Word)
  /-- VSF_SDB (R376): Slice-to-host doorbell sends an MSI-X vector. -/
  | vsfSdb (i : Init) (s : Fin 240) (n : BitVec 11)
  /-- SLOT_PROXY_ACCESS (R377): An access through a slice slot proxy reaches an owned slot or counts a spoof. -/
  | slotProxyAccess (i : Init) (s : Fin 240) (n : SlotNo) (off width : Nat) (write : Bool) (data : Word)
  /-- ETH_FRAME_RECEIVE (R394): A received frame is filtered and dispatched or dropped. -/
  | ethFrameReceive (q : Fin 16) (f : EthFrame)
  /-- NEIGHBOR_SOLICITATION (R383): Answers ICMPv6 Neighbor Solicitation and Echo Request in hardware. -/
  | neighborSolicitation (q : Fin 16) (target : BitVec 128)
  /-- PTP_MESSAGE (R413): A timestamped IEEE 1588 message goes to the Luna controller. -/
  | ptpMessage (q : Fin 16) (t1 t2 t3 t4 : Nat)
  /-- DATA (R395): A DATA packet is acknowledged and its messages delivered in PSN order. -/
  | fabData (peer : Fin 512) (p : FabIn)
  /-- LYSEB_ACK (R396): An ACK frees acknowledged packets and may trigger SACK resends. -/
  | lysebAck (peer : Fin 512) (ackpsn : Nat) (sack : BitVec 32) (ece : Bool)
  /-- HELLO (R390): A HELLO starts the responder side of the handshake. -/
  | fabHello (peer : Fin 512) (o : Offer)
  /-- ACCEPT (R390): An ACCEPT is checked and answered with FINISH. -/
  | fabAccept (peer : Fin 512) (o : Offer)
  /-- FINISH (R390): A FINISH completes the handshake and opens the link. -/
  | fabFinish (peer : Fin 512) (o : Offer)
  /-- REKEY (R392): A REKEY carries the next key exchange. -/
  | fabRekey (peer : Fin 512) (psn : Nat)
  /-- CLOSE (R388): A CLOSE closes the link in order. -/
  | fabClose (peer : Fin 512) (psn : Nat)
  /-- PROBE (R414): A parent answers a PROBE with PROBEREP. -/
  | fabProbe (peer : Fin 512) (n : Nat)
  /-- PROBEREP (R414): A PROBEREP yields one offset and round-trip sample. -/
  | fabProbeRep (peer : Fin 512) (t1 t2 t3 t4 : Nat)
  /-- RNR_RESEND (R398): 10 us after RNR the message is resent. -/
  | rnrResend (peer : Fin 512)
  /-- PEER_ENABLE (R388): Setting EN opens a link; clearing it closes it. -/
  | peerEnable (peer : Fin 512) (en : Bool)
  /-- HELLO_RESEND (R390): An unanswered HELLO is resent every 1 ms. -/
  | helloResend (peer : Fin 512)
  /-- HANDSHAKE_TIMEOUT (R388): An OPENING link fails after 100 ms. -/
  | handshakeTimeout (peer : Fin 512)
  /-- FAILED_RETRY (R388): A FAILED link with EN set retries every 1 s. -/
  | failedRetry (peer : Fin 512)
  /-- CLOSING_TIMEOUT (R388): A CLOSING link closes after 1 ms. -/
  | closingTimeout (peer : Fin 512)
  /-- ACK_TIMER (R395): After 2 us or 8 packets an ACK is sent. -/
  | ackTimer (peer : Fin 512)
  /-- RTO_EXPIRY (R396): RTO passes; the packet is resent and the window falls to 1. -/
  | rtoExpiry (peer : Fin 512)
  /-- LINK_FAILURE (R399): A packet unacknowledged for half the fabric limit fails the link. -/
  | linkFailure (peer : Fin 512) (portLost : Bool)
  /-- FABRIC_TRANSACTION_TOUT (R399): An outbound transaction older than 3/4 of the fabric limit ends with TOUT. -/
  | fabricTransactionTout (tag : Nat)
  /-- ALT_PORT_MOVE (R399): The link moves to its alternate port when its port goes down. -/
  | altPortMove (peer : Fin 512)
  /-- REKEY_TRIGGER (R392): TXC or the rekey interval starts a new key exchange. -/
  | rekeyTrigger (peer : Fin 512)
  /-- OLD_KEY_ERASE (R392): After 2 RTO without old-key packets the old slot is erased. -/
  | oldKeyErase (peer : Fin 512)
  /-- FAB_ESLOT_START (R406): A fabric E-class slot becomes active at its START. -/
  | fabEslotStart (k : Fin 256)
  /-- FAB_ESLOT_SPILL (R408): Unsent E-class data moves to B-class at slot end and OVR sets. -/
  | fabEslotSpill (k : Fin 256)
  /-- COLL_START (R410): START requests a Praline slot for a collective. -/
  | collStart (n : Fin 256)
  /-- COLL_GRANTED (R410): The grant arrives and the context enters GATHER, or fails. -/
  | collGranted (n : Fin 256)
  /-- COLL_END (R410): END releases the slot and returns the context to IDLE. -/
  | collEnd (n : Fin 256)
  /-- COLL_ABORT (R411): ABORT fails the collective. -/
  | collAbort (n : Fin 256)
  /-- ATLAS_LOCK_LOSS (R415): Eight frames with too few good probes clear LOCK and set LOSTEV. -/
  | atlasLockLoss
  /-- CAPTURE_CUT (R424): All images and sweeps done; marking switches bitmaps and cores resume. -/
  | captureCut (n : Fin 16)
  /-- CAPTURE_ABANDON (R424): CAPLIM passes; the capture is abandoned and MOVR sets. -/
  | captureAbandon (n : Fin 16)
  /-- SHIP_LINE (R427): The shipper reads a marked line and sends it as SHIP. -/
  | shipLine (n : Fin 16) (line : Nat)
  /-- SEAL_SEND (R427): Every bit clear, the primary sends SEAL. -/
  | sealSend (n : Fin 16)
  /-- SHIP (R429): The partner logs the old line and writes the shipped one. -/
  | pairShip (m : PairIn)
  /-- PAIR_SEAL (R430): The partner commits the frame or breaks the entry. -/
  | pairSeal (m : PairIn)
  /-- COMMIT (R431): COMMIT releases held output of the frame. -/
  | pairCommit (m : PairIn)
  /-- OPEN (R423): OPEN is matched and both entries enter SYNC or BROKEN. -/
  | pairOpen (m : PairIn)
  /-- STOP (R434): STOP from the peer resumes mirrored partitions. -/
  | pairStop
  /-- HB (R420): A heartbeat refreshes the silence timer. -/
  | pairHb
  /-- HB_SEND (R420): After 1 us of no sending, HB is sent. -/
  | pairHbSend
  /-- CAPS (R419): Capabilities are exchanged and the link accepted or refused. -/
  | pairCaps (c : CapsIn)
  /-- SWITCH (R437): The partner resumes for a planned switchover and answers SWACK. -/
  | pairSwitchMsg (m : PairIn)
  /-- SWACK (R437): The old primary releases output and becomes partner. -/
  | pairSwack (m : PairIn)
  /-- PAIR_SILENCE (R434): SILTO without reception suspends the primary or resumes the partner. -/
  | pairSilence
  /-- RESUMPTION (R434): The partner rolls back the undo log and starts the partition cores. -/
  | resumption (n : Fin 16)
  /-- PAIR_START (R423): PAIR_CMD START sends OPEN for an entry. -/
  | pairStart (n : Fin 16)
  /-- PAIR_SWITCH (R437): PAIR_CMD SWITCH requests a switchover. -/
  | pairSwitch (n : Fin 16)
  /-- BREAK (R436): Releases held output and sets the entry OFF. -/
  | pairBreak (n : Fin 16)
  /-- PAIR_RESUME (R434): Forces a resumption. -/
  | pairResume (n : Fin 16)
  /-- PAIR_CLEAR (R438): Returns a BROKEN or RESUMED entry to OFF. -/
  | pairClear (n : Fin 16)
  /-- PAIR_LINK_TRAINED (R418): The pair link finishes training. -/
  | pairLinkTrained (lanes : Fin 17)
  /-- QUERY (R452): WLD_HCMD QUERY reports a resource's state. -/
  | wldQuery (i : Init) (cls : BitVec 2) (idx : BitVec 12)
  /-- HANDOVER_RELEASE (R452): WLD_HCMD RELEASE puts a resource in RESETTING. -/
  | handoverRelease (i : Init) (cls : BitVec 2) (idx : BitVec 12)
  /-- CLAIM (R452): WLD_HCMD CLAIM takes a FREE resource for a world. -/
  | wldClaim (i : Init) (cls : BitVec 2) (idx : BitVec 12) (secure : Bool)
  /-- HANDOVER_RESET_DONE (R451): A released resource finishes its reset and becomes FREE. -/
  | handoverResetDone (cls : BitVec 2) (idx : BitVec 12)
  /-- TRIG (R455): IRT_SRCn.TRIG makes an edge source pending. -/
  | irtTrig (i : Init) (n : Fin 4096)
  /-- CLRP (R455): IRT_SRCn.CLRP clears a pending edge source. -/
  | irtClrp (i : Init) (n : Fin 4096)
  /-- SOURCE_EVENT (R455): A block condition or event makes a source pending or not. -/
  | sourceEvent (n : Fin 4096)
  /-- IRQ_OFFER (R456): The IRT offers the best eligible source to a core. -/
  | irqOffer (core : CoreNo)
  /-- PWR_VOTE_WRITE (R463): A vote slot write changes a domain target; shallower targets exit at once. -/
  | pwrVoteWrite (i : Init) (k : Fin 1024) (data : Word)
  /-- DOMAIN_CLEAN_DONE (R466): A core's clean finishes and its fence enters CLOSING. -/
  | domainCleanDone (core : CoreNo)
  /-- FENCE_DRAINED (R465): All the domain's transactions end and the fence enters OFF. -/
  | fenceDrained (d : Fin 263)
  /-- DOMAIN_ENTRY_DONE (R465): A domain reaches its new deeper state. -/
  | domainEntryDone (d : Fin 263)
  /-- DOMAIN_EXIT_DONE (R466): A domain reaches its shallower state; an OFF core returns to HELD. -/
  | domainExitDone (d : Fin 263)
  /-- PKG_SLEEP (R468): PWR_PKGCMD SLEEP requests package SLEEP. -/
  | pkgSleep (i : Init)
  /-- PKG_DEEP (R468): PWR_PKGCMD DEEP requests package DEEP. -/
  | pkgDeep (i : Init)
  /-- PKG_OFF (R468): PWR_PKGCMD OFF requests package OFF. -/
  | pkgOff (i : Init)
  /-- PKG_CANCEL (R468): PWR_PKGCMD CANCEL withdraws a waiting command. -/
  | pkgCancel (i : Init)
  /-- PKG_ENTRY (R468): The conditions hold and the package enters the commanded state. -/
  | pkgEntry
  /-- PKG_WAKE (R472): An enabled wake source wakes the package. -/
  | pkgWake (src : Fin 4)
  /-- WAKE_N (R472): WAKE_N low for 1 us wakes the package or cold-boots it from OFF. -/
  | wakeN
  /-- POWER_SAMPLE (R471): Every 10 us power is measured and clocks cut if a limit is threatened. -/
  | powerSample (watts avg : BitVec 16)
  /-- FREQ_RAISE (R471): Every 100 us a core below its ceiling is raised while headroom lasts. -/
  | freqRaise (core : CoreNo)
  /-- PROCHOT_N (R471): PROCHOT_N low with PHEN drops every clock to 0.8 GHz. -/
  | prochotN (low : Bool)
  /-- JUNCTION_HOT (R536): A sensor at 105 C throttles as PROCHOT and sets HOTEV. -/
  | junctionHot
  /-- THERMTRIP (R536): A sensor at 125 C stops every clock and drives THERMTRIP_N. -/
  | thermtrip
  /-- COLD_RESET (R474): RESET_N rises after PWROK and a cold boot begins. -/
  | coldReset
  /-- WARM_RESET (R475): A warm reset stops the package, sends STOP and restarts boot. -/
  | warmReset
  /-- PWROK_FALL (R476): PWROK falls and every domain stops. -/
  | pwrokFall
  /-- RAIL_UNDERVOLTAGE (R520): A rail below 90 percent acts as a PWROK fall. -/
  | railUndervoltage
  /-- RESET_HOLD_END (R526): A RESET_N rise held until 10 ms after PWROK takes effect. -/
  | resetHoldEnd
  /-- REFCLK_LOSS (R523): REFCLK0 loss switches AOCLK to the internal oscillator and holds PLLs. -/
  | refclkLoss
  /-- BOOT_STAGE_DONE (R477): A boot stage completes and the next begins. -/
  | bootStageDone (w : BootWork)
  /-- WARM (R474): BOOT_CTL.WARM starts a warm reset. -/
  | bootWarm (i : Init)
  /-- SVNCOMMIT (R487): Burns SVNFUSE to the running image's SVN. -/
  | svncommit (i : Init)
  /-- REVOKE (R487): Burns revocation of the named key slots. -/
  | bootRevoke (i : Init) (slots : BitVec 4)
  /-- BOOT_SPICMD (R481): GO issues one flash command after DONE. -/
  | bootSpicmd (i : Init) (data : Word)
  /-- SPI_COMMAND_DONE (R481): The flash command finishes and BUSY clears. -/
  | spiCommandDone (ok : Bool) (bytes : List Byte)
  /-- IDN_EXTEND (R491): Extends a measurement register with IDN_EXTDATA. -/
  | idnExtend (i : Init) (index : BitVec 4)
  /-- LUNA_WATCHDOG (R489): An unserviced watchdog resets the Luna controller alone. -/
  | lunaWatchdog
  /-- SPDM_REQUEST (R492): An SPDM request is answered by a responder. -/
  | spdmRequest (mctp : Bool) (code : BitVec 8)
  /-- GO (R494): REC_CTL.GO checks and boots the buffer from stage 3. -/
  | recGo
  /-- PROGRAM (R494): REC_CTL.PROGRAM also writes the image to flash copy 0. -/
  | recProgram
  /-- REC_RESET (R494): REC_CTL.RESET starts a warm reset. -/
  | recReset
  /-- RECOVERY_GO_DONE (R494): A recovery GO finishes and REC_RESULT is set. -/
  | recoveryGoDone
  /-- ERB_ACKNOWLEDGE (R500): W1C of ERB_REC.VALID clears the record. -/
  | erbAcknowledge (bank : Fin 326)
  /-- FORCE (R508): ERB_DSTOP.FORCE starts a domain stop with cause 7. -/
  | dstopForce (i : Init)
  /-- DOMAIN_STOP (R509): The stop line halts cores and NIs, freezes agents and raises CATERR_N. -/
  | domainStop
  /-- DSTOP_CHANNEL_FLUSH (R509): Channels write out merge buffers and enter self-refresh. -/
  | dstopChannelFlush
  /-- DSTOP_LOG (R509): The Luna controller writes the domain-stop records. -/
  | dstopLog
  /-- LOG_RECORD_WRITE (R507): The Luna controller writes a record to the hardware error log. -/
  | logRecordWrite
  /-- REGRD (R531): I3C register read over the sideband path. -/
  | i3cRegrd (off width : Nat)
  /-- REGWR (R531): I3C register write, effective only as ERB_REC.VALID W1C. -/
  | i3cRegwr (off width : Nat) (data : Word)
  /-- MCTP_PACKET (R530): An MCTP packet on I3C carries SPDM. -/
  | mctpPacket (code : BitVec 8)
  /-- EXTEST (R532): JTAG boundary-scan external test. -/
  | jtagExtest (cells : Nat)
  /-- SAMPLE_PRELOAD (R532): JTAG boundary-scan sample and preload. -/
  | jtagSamplePreload (cells : Nat)
  /-- IDCODE (R532): JTAG IDCODE read. -/
  | jtagIdcode
  /-- CLAMP (R532): JTAG CLAMP. -/
  | jtagClamp
  /-- HIGHZ (R532): JTAG HIGHZ. -/
  | jtagHighz
  /-- REGACC (R532): JTAG register-space access over the sideband path. -/
  | jtagRegacc (dr : BitVec 72)
  /-- DIESEL (R532): JTAG selects a site for STANDALONE. -/
  | jtagDiesel (site : BitVec 4)
  /-- STANDALONE (R532): JTAG puts the selected die in stand-alone test mode. -/
  | jtagStandalone
  /-- BYPASS (R532): JTAG BYPASS. -/
  | jtagBypass
  /-- DMA_RESET_DONE (R328): A DMA channel's CRESET ends, its fence returns to OPEN and the channel enters IDLE. -/
  | dmaResetDone (ch : DmaNo)
  /-- HB_LINK_UP (R355): A host-bus link reaches DL_Active, HBU_STATUS.LINK sets and Data Link Layer State Changed sets. -/
  | hbLinkUp (ctl : Fin 8) (port : Fin 4)
  /-- PORT_LINK_UP (R381): An Ethernet port finishes auto-negotiation and link training and FAB_PSTAT.LINK sets. -/
  | portLinkUp (q : Fin 16)
  /-- PAIR_LINK_DOWN (R418): The pair link drops lanes, retrains, or goes DOWN or DEAD, and PAIR_LINK.STATE changes with LINKEV. -/
  | pairLinkDown (st : Fin 3) (lanes : Fin 17)
  /-- PKG_EXIT_DONE (R468): The package finishes its exit from SLEEP or DEEP, PWR_STATUS.PKG returns to RUN and CMDEV sets. -/
  | pkgExitDone
  /-- VCC_AO_LOSS (R520): VCC_AO falls below 0.70 V and the package loses every state except the MRAM and the fuses. -/
  | vccAoLoss
  /-- REFCLK_RETURN (R523): REFCLK0 returns; AOCLK leaves the internal oscillator and the discipline pulls package time back. -/
  | refclkReturn
  /-- DRAM_HOT (R298): A DRAM device reports a temperature above 85 C, or drops back below it, and the refresh rate doubles or returns. -/
  | dramHot (h : HomeNo) (hot : Bool)
deriving DecidableEq, Repr

end Sys2Proof
end

