-- ==== Sys2Proof/Decode.lean ====
section
/-! DEFINITION. The encoding of the core instructions (03 R73-R85, 04 R125-R135): the encoder, and the decoder, which
answers none for every word that no instruction takes (R75). The opcode table of the block gives its rows no bits, so
`decodeTableWord` answers none. -/
namespace Sys2Proof

/-! Formats (R73, R125). -/

/-- RRR format. -/
def wRRR (opc : BitVec 6) (f : BitVec 7) (o : RRR) : BitVec 32 :=
  o.pred ++ BitVec.ofBool o.pn ++ opc ++ o.d ++ o.s1 ++ o.s2 ++ f
/-- RRR format with the function bits as an operand. -/
def wRRRF (opc : BitVec 6) (o : RRRF) : BitVec 32 :=
  o.pred ++ BitVec.ofBool o.pn ++ opc ++ o.d ++ o.s1 ++ o.s2 ++ o.f
/-- ATOM (R80): PLACE, size, operation. -/
def wAtom (op : BitVec 4) (o : AtomF) : BitVec 32 :=
  o.pred ++ BitVec.ofBool o.pn ++ (0x1E : BitVec 6) ++ o.d ++ o.s1 ++ o.s2 ++ o.place ++ BitVec.ofBool o.dbl ++ op
/-- RRI and M formats. -/
def wRRI (opc : BitVec 6) (o : RRI) : BitVec 32 :=
  o.pred ++ BitVec.ofBool o.pn ++ opc ++ o.d ++ o.s ++ o.imm
/-- SHI (R75). -/
def wShi (k : BitVec 2) (o : ShiF) : BitVec 32 :=
  o.pred ++ BitVec.ofBool o.pn ++ (0x06 : BitVec 6) ++ o.d ++ o.s ++ o.hi ++ k ++ o.sh
/-- B format. -/
def wB (opc : BitVec 6) (o : BF) : BitVec 32 :=
  o.pred ++ BitVec.ofBool o.pn ++ opc ++ BitVec.ofBool o.h ++ o.disp
/-- LI format. -/
def wLI (opc : BitVec 6) (o : LIF) : BitVec 32 :=
  o.pred ++ BitVec.ofBool o.pn ++ opc ++ o.d ++ o.imm
/-- V layout (R125). -/
def wV (opc : BitVec 6) (op : BitVec 3) (o : VF) : BitVec 32 :=
  o.pred ++ BitVec.ofBool o.pn ++ opc ++ o.vd ++ o.vs1 ++ o.vs2 ++ BitVec.ofBool o.sz ++ o.rm ++ op
/-- ACC (04 R134). -/
def wAcc (op : BitVec 6) (o : AccF) : BitVec 32 :=
  o.pred ++ BitVec.ofBool o.pn ++ (0x2A : BitVec 6) ++ o.d ++ o.s1 ++ o.s2 ++ BitVec.ofBool o.sz ++ op
/-- The RRR part of MCALL. -/
def McallF.rrr (o : McallF) : RRR := ⟨o.core, o.pred, o.pn, o.d, o.s1, o.s2⟩

/-- The word of a core instruction, none for a command that is not one. A row that is an MTC to one register
(R59) encodes that MTC. -/
def encode (i : Instr) : Option (BitVec 32) :=
  match i with
  | .add o => some (wRRR 0x01 0x00 o)
  | .sub o => some (wRRR 0x01 0x01 o)
  | .and o => some (wRRR 0x01 0x02 o)
  | .or o => some (wRRR 0x01 0x03 o)
  | .xor o => some (wRRR 0x01 0x04 o)
  | .andn o => some (wRRR 0x01 0x05 o)
  | .sll o => some (wRRR 0x01 0x06 o)
  | .srl o => some (wRRR 0x01 0x07 o)
  | .sra o => some (wRRR 0x01 0x08 o)
  | .ror o => some (wRRR 0x01 0x09 o)
  | .min o => some (wRRR 0x01 0x0A o)
  | .max o => some (wRRR 0x01 0x0B o)
  | .minu o => some (wRRR 0x01 0x0C o)
  | .maxu o => some (wRRR 0x01 0x0D o)
  | .addw o => some (wRRR 0x01 0x0E o)
  | .subw o => some (wRRR 0x01 0x0F o)
  | .mul o => some (wRRR 0x01 0x10 o)
  | .mulh o => some (wRRR 0x01 0x11 o)
  | .mulhu o => some (wRRR 0x01 0x12 o)
  | .div o => some (wRRR 0x01 0x13 o)
  | .divu o => some (wRRR 0x01 0x14 o)
  | .rem o => some (wRRR 0x01 0x15 o)
  | .remu o => some (wRRR 0x01 0x16 o)
  | .clz o => some (wRRR 0x01 0x17 o)
  | .ctz o => some (wRRR 0x01 0x18 o)
  | .popc o => some (wRRR 0x01 0x19 o)
  | .bswap o => some (wRRR 0x01 0x1A o)
  | .sextb o => some (wRRR 0x01 0x1B o)
  | .sexth o => some (wRRR 0x01 0x1C o)
  | .sextw o => some (wRRR 0x01 0x1D o)
  | .zextw o => some (wRRR 0x01 0x1E o)
  | .pand o => some (wRRR 0x0D 0x00 o)
  | .por o => some (wRRR 0x0D 0x01 o)
  | .pxor o => some (wRRR 0x0D 0x02 o)
  | .pandn o => some (wRRR 0x0D 0x03 o)
  | .porn o => some (wRRR 0x0D 0x04 o)
  | .pnot o => some (wRRR 0x0D 0x05 o)
  | .mfp o => some (wRRR 0x0D 0x10 o)
  | .mtp o => some (wRRR 0x0D 0x11 o)
  | .jr o => some (wRRR 0x32 0x00 o)
  | .ret o => some (wRRR 0x32 0x01 o)
  | .jalr o => some (wRRR 0x33 0x00 o)
  | .nop o => some (wRRR 0x38 0x00 o)
  | .syscall o => some (wRRR 0x38 0x01 o)
  | .hcall o => some (wRRR 0x38 0x02 o)
  | .mcall o => some (wRRR 0x38 0x03 o.rrr)
  | .brk o => some (wRRR 0x38 0x04 o)
  | .eret o => some (wRRR 0x38 0x05 o)
  | .wfi o => some (wRRR 0x38 0x06 o)
  | .fence o => some (wRRR 0x38 0x07 o)
  | .fenceG o => some (wRRR 0x38 0x08 o)
  | .isync o => some (wRRR 0x38 0x09 o)
  | .gcall o => some (wRRR 0x38 0x0A o)
  | .gret o => some (wRRR 0x38 0x0B o)
  | .tlbiVa o => some (wRRR 0x38 0x0C o)
  | .tlbiAs o => some (wRRR 0x38 0x0D o)
  | .tlbiAll o => some (wRRR 0x38 0x0E o)
  | .tlbiS2 o => some (wRRR 0x38 0x0F o)
  | .tlbsync o => some (wRRR 0x38 0x10 o)
  | .lflush o => some (wRRR 0x3B 0x00 o)
  | .lclean o => some (wRRR 0x3B 0x01 o)
  | .ldrop o => some (wRRR 0x3B 0x02 o)
  | .lzero o => some (wRRR 0x3B 0x03 o)
  | .idrop o => some (wRRR 0x3B 0x04 o)
  | .idropall o => some (wRRR 0x3B 0x05 o)
  | .swflush o => some (wRRR 0x3B 0x06 o)
  | .prefetchR o => some (wRRR 0x3B 0x07 o)
  | .prefetchW o => some (wRRR 0x3B 0x08 o)
  | .asave o => some (wRRR 0x29 0x00 o)
  | .aload o => some (wRRR 0x29 0x01 o)
  | .cmp o => some (wRRRF 0x0C o)
  | .ldx o => some (wRRRF 0x1C o)
  | .stx o => some (wRRRF 0x1D o)
  | .vldf o => some (wRRRF 0x27 o)
  | .vstf o => some (wRRRF 0x28 o)
  | .arnd o => some (wRRRF 0x2B o)
  | .atomSwap o => some (wAtom 0 o)
  | .atomAdd o => some (wAtom 1 o)
  | .atomAnd o => some (wAtom 2 o)
  | .atomOr o => some (wAtom 3 o)
  | .atomXor o => some (wAtom 4 o)
  | .atomSmin o => some (wAtom 5 o)
  | .atomSmax o => some (wAtom 6 o)
  | .atomUmin o => some (wAtom 7 o)
  | .atomUmax o => some (wAtom 8 o)
  | .atomCas o => some (wAtom 15 o)
  | .addi o => some (wRRI 0x02 o)
  | .andi o => some (wRRI 0x03 o)
  | .ori o => some (wRRI 0x04 o)
  | .xori o => some (wRRI 0x05 o)
  | .cmpi o => some (wRRI 0x07 o)
  | .cmpiu o => some (wRRI 0x08 o)
  | .ldb o => some (wRRI 0x10 o)
  | .ldbs o => some (wRRI 0x11 o)
  | .ldh o => some (wRRI 0x12 o)
  | .ldhs o => some (wRRI 0x13 o)
  | .ldw o => some (wRRI 0x14 o)
  | .ldws o => some (wRRI 0x15 o)
  | .ldd o => some (wRRI 0x16 o)
  | .stb o => some (wRRI 0x18 o)
  | .sth o => some (wRRI 0x19 o)
  | .stw o => some (wRRI 0x1A o)
  | .std o => some (wRRI 0x1B o)
  | .vld o => some (wRRI 0x25 o)
  | .vst o => some (wRRI 0x26 o)
  | .mfc o => some (wRRI 0x39 o)
  | .mtc o => some (wRRI 0x3A o)
  | .shiSll o => some (wShi 0 o)
  | .shiSrl o => some (wShi 1 o)
  | .shiSra o => some (wShi 2 o)
  | .shiRor o => some (wShi 3 o)
  | .br o => some (wB 0x30 o)
  | .call o => some (wB 0x31 o)
  | .li o => some (wLI 0x09 o)
  | .lsi o => some (wLI 0x0A o)
  | .addpc o => some (wLI 0x0B o)
  | .fadd o => some (wV 0x20 0 o)
  | .fsub o => some (wV 0x20 1 o)
  | .fmul o => some (wV 0x20 2 o)
  | .fdiv o => some (wV 0x20 3 o)
  | .fmin o => some (wV 0x20 4 o)
  | .fmax o => some (wV 0x20 5 o)
  | .fsqrt o => some (wV 0x20 6 o)
  | .frint o => some (wV 0x20 7 o)
  | .fma o => some (wV 0x21 0 o)
  | .fms o => some (wV 0x21 1 o)
  | .fnma o => some (wV 0x21 2 o)
  | .fnms o => some (wV 0x21 3 o)
  | .feq o => some (wV 0x22 0 o)
  | .flt o => some (wV 0x22 1 o)
  | .fle o => some (wV 0x22 2 o)
  | .funord o => some (wV 0x22 3 o)
  | .fne o => some (wV 0x22 4 o)
  | .vcvtNative o => some (wV 0x23 0 o)
  | .vcvtToSigned o => some (wV 0x23 1 o)
  | .vcvtToUnsigned o => some (wV 0x23 2 o)
  | .vcvtFromSigned o => some (wV 0x23 3 o)
  | .vcvtFromUnsigned o => some (wV 0x23 4 o)
  | .vmov o => some (wV 0x24 0 o)
  | .vsel o => some (wV 0x24 1 o)
  | .vbcast o => some (wV 0x24 2 o)
  | .vget o => some (wV 0x24 3 o)
  | .vneg o => some (wV 0x24 4 o)
  | .vabs o => some (wV 0x24 5 o)
  | .vzero o => some (wV 0x24 6 o)
  | .aclr o => some (wAcc 0x00 o)
  | .aadd o => some (wAcc 0x01 o)
  | .asub o => some (wAcc 0x02 o)
  | .adot o => some (wAcc 0x03 o)
  | .adotn o => some (wAcc 0x04 o)
  | .amov o => some (wAcc 0x05 o)
  | .aacc o => some (wAcc 0x06 o)
  | .asuba o => some (wAcc 0x07 o)
  | .aaddg o => some (wAcc 0x08 o)
  | .ainfo o => some (wAcc 0x09 o)
  | .apost o => some (wAcc 0x0A o)
  | .cacheopCleaninv o => some (wRRI 0x3A { o with imm := 0x092 })
  | .cacheopInvl1i o => some (wRRI 0x3A { o with imm := 0x092 })
  | .cacheEnableChange o => some (wRRI 0x3A { o with imm := 0x090 })
  | .accstWrite o => some (wRRI 0x3A { o with imm := 0x0C2 })
  | .prinvItt o => some (wRRI 0x3A { o with imm := 0x081 })
  | .prinvRs o => some (wRRI 0x3A { o with imm := 0x081 })
  | .ieoi o => some (wRRI 0x3A { o with imm := 0x0D4 })
  | _ => none

/-- The word of a core instruction; 0 for a command that is not one. -/
def wordOf (i : Instr) : BitVec 32 := (encode i).getD 0

/-! Fields of a word. -/

def fPred (w : BitVec 32) : BitVec 3 := w.extractLsb' 29 3
def fPn (w : BitVec 32) : Bool := w.getLsbD 28
def fOpc (w : BitVec 32) : BitVec 6 := w.extractLsb' 22 6
def fD (w : BitVec 32) : BitVec 5 := w.extractLsb' 17 5
def fS1 (w : BitVec 32) : BitVec 5 := w.extractLsb' 12 5
def fS2 (w : BitVec 32) : BitVec 5 := w.extractLsb' 7 5
def fF (w : BitVec 32) : BitVec 7 := w.extractLsb' 0 7
def fImm (w : BitVec 32) : BitVec 12 := w.extractLsb' 0 12

/-- The operands of each format. -/
def dRRR (c : CoreNo) (w : BitVec 32) : RRR := ⟨c, fPred w, fPn w, fD w, fS1 w, fS2 w⟩
def dRRRF (c : CoreNo) (w : BitVec 32) : RRRF := ⟨c, fPred w, fPn w, fD w, fS1 w, fS2 w, fF w⟩
def dAtom (c : CoreNo) (w : BitVec 32) : AtomF :=
  ⟨c, fPred w, fPn w, fD w, fS1 w, fS2 w, w.getLsbD 4, w.extractLsb' 5 2⟩
def dRRI (c : CoreNo) (w : BitVec 32) : RRI := ⟨c, fPred w, fPn w, fD w, fS1 w, fImm w⟩
def dShi (c : CoreNo) (w : BitVec 32) : ShiF :=
  ⟨c, fPred w, fPn w, fD w, fS1 w, w.extractLsb' 0 6, w.extractLsb' 8 4⟩
def dB (c : CoreNo) (w : BitVec 32) : BF := ⟨c, fPred w, fPn w, w.getLsbD 21, w.extractLsb' 0 21⟩
def dLI (c : CoreNo) (w : BitVec 32) : LIF := ⟨c, fPred w, fPn w, fD w, w.extractLsb' 0 17⟩
def dV (c : CoreNo) (w : BitVec 32) : VF :=
  ⟨c, fPred w, fPn w, fD w, fS1 w, fS2 w, w.getLsbD 6, w.extractLsb' 3 3⟩
def dAcc (c : CoreNo) (w : BitVec 32) : AccF := ⟨c, fPred w, fPn w, fD w, fS1 w, fS2 w, w.getLsbD 6⟩
def dMcall (c : CoreNo) (w : BitVec 32) : McallF := ⟨c, fPred w, fPn w, fD w, fS1 w, fS2 w, false⟩

/-- The integer group (03, OPC 0x01). -/
def decodeInt (c : CoreNo) (w : BitVec 32) : Option Instr :=
  match (fF w).toNat with
  | 0x00 => some (.add (dRRR c w))
  | 0x01 => some (.sub (dRRR c w))
  | 0x02 => some (.and (dRRR c w))
  | 0x03 => some (.or (dRRR c w))
  | 0x04 => some (.xor (dRRR c w))
  | 0x05 => some (.andn (dRRR c w))
  | 0x06 => some (.sll (dRRR c w))
  | 0x07 => some (.srl (dRRR c w))
  | 0x08 => some (.sra (dRRR c w))
  | 0x09 => some (.ror (dRRR c w))
  | 0x0A => some (.min (dRRR c w))
  | 0x0B => some (.max (dRRR c w))
  | 0x0C => some (.minu (dRRR c w))
  | 0x0D => some (.maxu (dRRR c w))
  | 0x0E => some (.addw (dRRR c w))
  | 0x0F => some (.subw (dRRR c w))
  | 0x10 => some (.mul (dRRR c w))
  | 0x11 => some (.mulh (dRRR c w))
  | 0x12 => some (.mulhu (dRRR c w))
  | 0x13 => some (.div (dRRR c w))
  | 0x14 => some (.divu (dRRR c w))
  | 0x15 => some (.rem (dRRR c w))
  | 0x16 => some (.remu (dRRR c w))
  | 0x17 => some (.clz (dRRR c w))
  | 0x18 => some (.ctz (dRRR c w))
  | 0x19 => some (.popc (dRRR c w))
  | 0x1A => some (.bswap (dRRR c w))
  | 0x1B => some (.sextb (dRRR c w))
  | 0x1C => some (.sexth (dRRR c w))
  | 0x1D => some (.sextw (dRRR c w))
  | 0x1E => some (.zextw (dRRR c w))
  | _ => none

/-- The predicate group (R77). -/
def decodePred (c : CoreNo) (w : BitVec 32) : Option Instr :=
  match (fF w).toNat with
  | 0x00 => some (.pand (dRRR c w))
  | 0x01 => some (.por (dRRR c w))
  | 0x02 => some (.pxor (dRRR c w))
  | 0x03 => some (.pandn (dRRR c w))
  | 0x04 => some (.porn (dRRR c w))
  | 0x05 => some (.pnot (dRRR c w))
  | 0x10 => some (.mfp (dRRR c w))
  | 0x11 => some (.mtp (dRRR c w))
  | _ => none

/-- JR and RET (R83). -/
def decodeJump (c : CoreNo) (w : BitVec 32) : Option Instr :=
  match (fF w).toNat with
  | 0x00 => some (.jr (dRRR c w))
  | 0x01 => some (.ret (dRRR c w))
  | _ => none

/-- JALR (R83). -/
def decodeJalr (c : CoreNo) (w : BitVec 32) : Option Instr :=
  match (fF w).toNat with
  | 0x00 => some (.jalr (dRRR c w))
  | _ => none

/-- The system group (R84). -/
def decodeSys (c : CoreNo) (w : BitVec 32) : Option Instr :=
  match (fF w).toNat with
  | 0x00 => some (.nop (dRRR c w))
  | 0x01 => some (.syscall (dRRR c w))
  | 0x02 => some (.hcall (dRRR c w))
  | 0x03 => some (.mcall (dMcall c w))
  | 0x04 => some (.brk (dRRR c w))
  | 0x05 => some (.eret (dRRR c w))
  | 0x06 => some (.wfi (dRRR c w))
  | 0x07 => some (.fence (dRRR c w))
  | 0x08 => some (.fenceG (dRRR c w))
  | 0x09 => some (.isync (dRRR c w))
  | 0x0A => some (.gcall (dRRR c w))
  | 0x0B => some (.gret (dRRR c w))
  | 0x0C => some (.tlbiVa (dRRR c w))
  | 0x0D => some (.tlbiAs (dRRR c w))
  | 0x0E => some (.tlbiAll (dRRR c w))
  | 0x0F => some (.tlbiS2 (dRRR c w))
  | 0x10 => some (.tlbsync (dRRR c w))
  | _ => none

/-- Cache maintenance (R85). -/
def decodeCmo (c : CoreNo) (w : BitVec 32) : Option Instr :=
  match (fF w).toNat with
  | 0x00 => some (.lflush (dRRR c w))
  | 0x01 => some (.lclean (dRRR c w))
  | 0x02 => some (.ldrop (dRRR c w))
  | 0x03 => some (.lzero (dRRR c w))
  | 0x04 => some (.idrop (dRRR c w))
  | 0x05 => some (.idropall (dRRR c w))
  | 0x06 => some (.swflush (dRRR c w))
  | 0x07 => some (.prefetchR (dRRR c w))
  | 0x08 => some (.prefetchW (dRRR c w))
  | _ => none

/-- AMEM (04 R133). -/
def decodeAmem (c : CoreNo) (w : BitVec 32) : Option Instr :=
  match (fF w).toNat with
  | 0x00 => some (.asave (dRRR c w))
  | 0x01 => some (.aload (dRRR c w))
  | _ => none

/-- ATOM (R80). -/
def decodeAtom (c : CoreNo) (w : BitVec 32) : Option Instr :=
  match (w.extractLsb' 0 4).toNat with
  | 0 => some (.atomSwap (dAtom c w))
  | 1 => some (.atomAdd (dAtom c w))
  | 2 => some (.atomAnd (dAtom c w))
  | 3 => some (.atomOr (dAtom c w))
  | 4 => some (.atomXor (dAtom c w))
  | 5 => some (.atomSmin (dAtom c w))
  | 6 => some (.atomSmax (dAtom c w))
  | 7 => some (.atomUmin (dAtom c w))
  | 8 => some (.atomUmax (dAtom c w))
  | 15 => some (.atomCas (dAtom c w))
  | _ => none

/-- SHI (R75). -/
def decodeShi (c : CoreNo) (w : BitVec 32) : Option Instr :=
  match (w.extractLsb' 6 2).toNat with
  | 0 => some (.shiSll (dShi c w))
  | 1 => some (.shiSrl (dShi c w))
  | 2 => some (.shiSra (dShi c w))
  | _ => some (.shiRor (dShi c w))

/-- VARITH (04 R127). -/
def decodeVarith (c : CoreNo) (w : BitVec 32) : Option Instr :=
  match (w.extractLsb' 0 3).toNat with
  | 0 => some (.fadd (dV c w))
  | 1 => some (.fsub (dV c w))
  | 2 => some (.fmul (dV c w))
  | 3 => some (.fdiv (dV c w))
  | 4 => some (.fmin (dV c w))
  | 5 => some (.fmax (dV c w))
  | 6 => some (.fsqrt (dV c w))
  | _ => some (.frint (dV c w))

/-- VFMA (04 R128). -/
def decodeVfma (c : CoreNo) (w : BitVec 32) : Option Instr :=
  match (w.extractLsb' 0 3).toNat with
  | 0 => some (.fma (dV c w))
  | 1 => some (.fms (dV c w))
  | 2 => some (.fnma (dV c w))
  | 3 => some (.fnms (dV c w))
  | _ => none

/-- VCMP (04 R129). -/
def decodeVcmp (c : CoreNo) (w : BitVec 32) : Option Instr :=
  match (w.extractLsb' 0 3).toNat with
  | 0 => some (.feq (dV c w))
  | 1 => some (.flt (dV c w))
  | 2 => some (.fle (dV c w))
  | 3 => some (.funord (dV c w))
  | 4 => some (.fne (dV c w))
  | _ => none

/-- VCVT (04 R130). -/
def decodeVcvt (c : CoreNo) (w : BitVec 32) : Option Instr :=
  match (w.extractLsb' 0 3).toNat with
  | 0 => some (.vcvtNative (dV c w))
  | 1 => some (.vcvtToSigned (dV c w))
  | 2 => some (.vcvtToUnsigned (dV c w))
  | 3 => some (.vcvtFromSigned (dV c w))
  | 4 => some (.vcvtFromUnsigned (dV c w))
  | _ => none

/-- VMOV (04 R131). -/
def decodeVmov (c : CoreNo) (w : BitVec 32) : Option Instr :=
  match (w.extractLsb' 0 3).toNat with
  | 0 => some (.vmov (dV c w))
  | 1 => some (.vsel (dV c w))
  | 2 => some (.vbcast (dV c w))
  | 3 => some (.vget (dV c w))
  | 4 => some (.vneg (dV c w))
  | 5 => some (.vabs (dV c w))
  | 6 => some (.vzero (dV c w))
  | _ => none

/-- ACC (04 R134). -/
def decodeAcc (c : CoreNo) (w : BitVec 32) : Option Instr :=
  match (w.extractLsb' 0 6).toNat with
  | 0x00 => some (.aclr (dAcc c w))
  | 0x01 => some (.aadd (dAcc c w))
  | 0x02 => some (.asub (dAcc c w))
  | 0x03 => some (.adot (dAcc c w))
  | 0x04 => some (.adotn (dAcc c w))
  | 0x05 => some (.amov (dAcc c w))
  | 0x06 => some (.aacc (dAcc c w))
  | 0x07 => some (.asuba (dAcc c w))
  | 0x08 => some (.aaddg (dAcc c w))
  | 0x09 => some (.ainfo (dAcc c w))
  | 0x0A => some (.apost (dAcc c w))
  | _ => none

/-- The instruction that core `c` reads from a word, none where no instruction takes it (R75, 04 R126). A field that must
be zero is kept: the instruction is then ill-formed and raises ILLEGAL. -/
def decodeWord (c : CoreNo) (w : BitVec 32) : Option Instr :=
  match (fOpc w).toNat with
  | 0x01 => decodeInt c w
  | 0x02 => some (.addi (dRRI c w))
  | 0x03 => some (.andi (dRRI c w))
  | 0x04 => some (.ori (dRRI c w))
  | 0x05 => some (.xori (dRRI c w))
  | 0x06 => decodeShi c w
  | 0x07 => some (.cmpi (dRRI c w))
  | 0x08 => some (.cmpiu (dRRI c w))
  | 0x09 => some (.li (dLI c w))
  | 0x0A => some (.lsi (dLI c w))
  | 0x0B => some (.addpc (dLI c w))
  | 0x0C => some (.cmp (dRRRF c w))
  | 0x0D => decodePred c w
  | 0x10 => some (.ldb (dRRI c w))
  | 0x11 => some (.ldbs (dRRI c w))
  | 0x12 => some (.ldh (dRRI c w))
  | 0x13 => some (.ldhs (dRRI c w))
  | 0x14 => some (.ldw (dRRI c w))
  | 0x15 => some (.ldws (dRRI c w))
  | 0x16 => some (.ldd (dRRI c w))
  | 0x18 => some (.stb (dRRI c w))
  | 0x19 => some (.sth (dRRI c w))
  | 0x1A => some (.stw (dRRI c w))
  | 0x1B => some (.std (dRRI c w))
  | 0x1C => some (.ldx (dRRRF c w))
  | 0x1D => some (.stx (dRRRF c w))
  | 0x1E => decodeAtom c w
  | 0x20 => decodeVarith c w
  | 0x21 => decodeVfma c w
  | 0x22 => decodeVcmp c w
  | 0x23 => decodeVcvt c w
  | 0x24 => decodeVmov c w
  | 0x25 => some (.vld (dRRI c w))
  | 0x26 => some (.vst (dRRI c w))
  | 0x27 => some (.vldf (dRRRF c w))
  | 0x28 => some (.vstf (dRRRF c w))
  | 0x29 => decodeAmem c w
  | 0x2A => decodeAcc c w
  | 0x2B => some (.arnd (dRRRF c w))
  | 0x30 => some (.br (dB c w))
  | 0x31 => some (.call (dB c w))
  | 0x32 => decodeJump c w
  | 0x33 => decodeJalr c w
  | 0x38 => decodeSys c w
  | 0x39 => some (.mfc (dRRI c w))
  | 0x3A => some (.mtc (dRRI c w))
  | 0x3B => decodeCmo c w
  | _ => none

/-- The command that a word spells by the bits of spec/opcode_table.json: its rows give none. -/
def decodeTableWord (_nbits _w : Nat) : Option Instr := none

end Sys2Proof
end

