-- ==== Sys2Proof/Config.lean ====
section
/-! DEFINITION. What an implementation fixes and the spec leaves open: constants with no body, so that nothing can be
proved about their values. -/
namespace Sys2Proof.Config

/-- A free number for each value of the counter `State.fresh`: a value or a choice the spec leaves open. -/
opaque freeNat : Nat → Nat

/-- A free bit for each value of the counter. -/
opaque freeBit : Nat → Bool

/-- A free 64-bit word for each value of the counter. -/
opaque freeWord : Nat → Word

/-- A free line for each value of the counter. -/
opaque freeLine : Nat → LineData

/-- Data and check bits of a word of DRAM that nothing has written since a training (11 R304): channel epoch, word number.
Data in the low 64 bits, check bits above. -/
opaque undefWord : Nat → Nat → BitVec 80

/-- The contents of the boot ROM (01 R23), by word number; the spec does not give them. -/
opaque romWord : Nat → Word

/-- Die-cache slice of a line number (07 R190 "slice by address hash"); the spec does not give the hash. -/
opaque dcSlice : Nat → Nat

/-- Snoop-filter set of a line number (07 R196: 16,384 sets); the spec does not give the index. -/
opaque filterSet : Nat → Nat

/-- Set of a page (first page number and number of pages) in the L2 TLB of a core and in the hub IOTLB (08 R228, R235); the spec
does not give the index. -/
opaque tlbSet : Nat → Nat → Nat

/-- The SECDED code over bits [55:0] of a directory entry (10 R276); the spec does not give the code. -/
opaque dirCode : Nat → BitVec 8

/-- SHA-384 of a sequence of bytes (19 R491); the model computes no hash. -/
opaque sha384 : List Byte → BitVec 384

/-- Whether the bytes of an image in the buffer pass the key-hash and signature checks of 19 R486 with the key slot it names. -/
opaque imageSigned : List Byte → Nat → Bool

/-- The words of the identity: serial number (index 0), public key (1-12), IDN_IDHASH (13, 14) (19 R490),
and the mask ROM version (15) (19 R491). -/
opaque identity : Nat → Word

/-- Configuration-space dwords of the package's functions that the spec leaves to the standard (13 R341, R343), by offset
from the first segment. -/
opaque cfgWord : Nat → BitVec 32

end Sys2Proof.Config
end

