-- ==== Sys2Proof/Machine/Bits.lean ====
section
/-! DEFINITION. Bit fields of registers and words: a field is a low bit and a length (00 R2, notation [hi:lo]). -/
namespace Sys2Proof.Machine

/-- A field [lo + len - 1 : lo] of a register. -/
structure Fld where
  /-- The lowest bit. -/
  lo : Nat
  /-- The number of bits. -/
  len : Nat
deriving DecidableEq, Repr

/-- The value of a field (00 R2). -/
def getF (w : Word) (f : Fld) : Nat := (w.toNat >>> f.lo) % 2 ^ f.len

/-- The bits of a field as a mask. -/
def maskF (f : Fld) : Word := BitVec.ofNat 64 ((2 ^ f.len - 1) <<< f.lo)

/-- The word with one field replaced; `v` is cut to the field's length. -/
def setF (w : Word) (f : Fld) (v : Nat) : Word :=
  (w &&& ~~~ maskF f) ||| BitVec.ofNat 64 ((v % 2 ^ f.len) <<< f.lo)

/-- One bit of a word. -/
def bitAt (w : Word) (n : Nat) : Bool := w.getLsbD n

/-- A Bool as the number 0 or 1. -/
def b2n (b : Bool) : Nat := if b then 1 else 0

/-- Sign extension of an `n`-bit field to 64 bits. -/
def sext {n : Nat} (x : BitVec n) : Word := x.signExtend 64

/-- Zero extension of an `n`-bit field to 64 bits. -/
def zext {n : Nat} (x : BitVec n) : Word := x.setWidth 64

/-- Saturating increment of an `n`-bit counter (counters of the spec that saturate). -/
def satInc (n v : Nat) : Nat := if v + 1 < 2 ^ n then v + 1 else 2 ^ n - 1

/-- Wrapping increment of an `n`-bit counter. -/
def wrapInc (n v : Nat) : Nat := (v + 1) % 2 ^ n

end Sys2Proof.Machine
end

