-- ==== Sys2Proof/Machine/RegMap.lean ====
section
/-! DEFINITION. The memory-mapped registers of the package: one constructor of `RegKind` for every register of the
spec's register lists, its place, its width, and for every field its bits, access type, reset value and change class
(00 R3-R11, 01 R29-R32); the field constants carry the manual's names. -/
namespace Sys2Proof.Machine

/-- Access types (00 R3). -/
inductive FTy where
  | rw | ro | w1c | w1s | wo | rwo | srw
deriving DecidableEq, Repr

/-- Change classes (00 R7, R8, R10). -/
inductive Cls where
  | l | t | q
deriving DecidableEq, Repr

/-- A field of a register. -/
structure FSpec where
  f : Fld
  ty : FTy
  rst : Nat
  cls : Cls
deriving DecidableEq, Repr

/-- The blocks of 01 R30-R32. `d2d` numbers the hub sides 0-11 and the die sides 12-23; `dma` numbers the channels as
`DmaNo`; `erbx` is the bank array of the dies 0-11 and of the hub, 12; `core` numbers cores 0-215; `recov` is the
recovery device of 19 R494, which is reached through BAR0 and I3C and not through the register space. -/
inductive Blk where
  | tck
  | noc
  | d2d
  | coh
  | msc
  | mem
  | dma
  | hbu
  | fabm
  | fab
  | prl
  | vsf
  | pair
  | wld
  | irt
  | pwr
  | boot
  | idn
  | erb
  | erbx
  | mgt
  | cda
  | dnoc
  | dd2d
  | derb
  | core
  | recov
deriving DecidableEq, Repr

/-- A register kind: block, offset in the instance, width, the two index dimensions (count, stride) and the fields. -/
structure RSpec where
  blk : Blk
  off : Nat
  wide : Bool
  n1 : Nat
  s1 : Nat
  n2 : Nat
  s2 : Nat
  fields : List FSpec
deriving DecidableEq, Repr

/-- The base of instance `x` of a block, as an offset in the register space (01 R30-R32). -/
def Blk.base (b : Blk) (x : Nat) : Nat :=
  match b with
  | .tck => 0x0
  | .noc => 0x200000
  | .d2d => if x < 12 then 0x400000 + x * 0x10000 else 0x10200000 + (x - 12) * 0x1000000
  | .coh => 0x600000 + x * 0x10000
  | .msc => 0x800000 + x * 0x10000
  | .mem => 0xA00000 + x * 0x10000
  | .dma => if x < 192 then 0x10300000 + (x / 16) * 0x1000000 + (x % 16) * 0x8000 else 0xC00000 + (x - 192) * 0x10000
  | .hbu => 0xE00000 + x * 0x10000
  | .fabm => 0x1000000 + x * 0x10000
  | .fab => 0x1200000
  | .prl => 0x1400000
  | .vsf => 0x1600000
  | .pair => 0x1800000
  | .wld => 0x1A00000
  | .irt => 0x1C00000
  | .pwr => 0x1E00000
  | .boot => 0x2000000
  | .idn => 0x2200000
  | .erb => 0x2400000
  | .erbx => if x < 12 then 0x10400000 + x * 0x1000000 else 0x2400000
  | .mgt => 0x2600000
  | .cda => 0x10000000 + x * 0x1000000
  | .dnoc => 0x10100000 + x * 0x1000000
  | .dd2d => 0x10200000 + x * 0x1000000
  | .derb => 0x10400000 + x * 0x1000000
  | .core => 0x40000000 + (x / 18) * 0x2000000 + (x % 18) * 0x100000
  | .recov => 0x100000000

/-- Registers of the register space, in the order of the chapters that define them. -/
inductive RegKind where
  /-- 01 R19 -/
  | D2D_SITE
  /-- 01 R20 -/
  | BOOT_STRAP
  /-- 01 R22 -/
  | IDN_DIE_REV
  /-- 01 R39 -/
  | MGT_SWSTAT
  /-- 01 R34 -/
  | MGT_GRPMASK
  /-- 11 R316 -/
  | MGT_MRAM_OWN
  /-- 11 R316 -/
  | MGT_MRAM_WCNT
  /-- 02 R50 -/
  | TCK_CTL
  /-- 02 R50 -/
  | TCK_STATUS
  /-- 02 R51 -/
  | TCK_PERIOD
  /-- 02 R51 -/
  | TCK_TIME_NS
  /-- 02 R51 -/
  | TCK_TIME_FRAC
  /-- 02 R51 -/
  | TCK_FRAME
  /-- 02 R51 -/
  | TCK_NEXT
  /-- 02 R51 -/
  | TCK_RATE
  /-- 02 R51 -/
  | TCK_STEP
  /-- 02 R51 -/
  | TCK_MATCH
  /-- 02 R52 -/
  | TCK_OVR
  /-- 02 R52 -/
  | TCK_XOVR
  /-- 02 R53 -/
  | TCK_IO
  /-- 02 R55 -/
  | TCK_IN_STAMP
  /-- 02 R55 -/
  | TCK_IN_FRAC
  /-- 03 R96 -/
  | C_RSTAT
  /-- 03 R96 -/
  | C_START
  /-- 03 R96 -/
  | C_RUN
  /-- 03 R99 -/
  | C_DBGINST
  /-- 03 R96 -/
  | C_CYCLE_ALIAS
  /-- 03 R96 -/
  | C_INSTRET_ALIAS
  /-- 03 R96 -/
  | C_PMC_ALIAS
  /-- 05 R172 -/
  | PRL_CTL
  /-- 05 R172 -/
  | PRL_STATUS
  /-- 05 R160 -/
  | PRL_GRANT
  /-- 05 R172 -/
  | PRL_PQUOTA
  /-- 05 R161 -/
  | PRL_GREST
  /-- 05 R172 -/
  | PRL_LASTREF
  /-- 05 R173 -/
  | PRL_SLOT_CTL
  /-- 05 R173 -/
  | PRL_SLOT_STAT
  /-- 05 R173 -/
  | PRL_SLOT_LEASE
  /-- 05 R173 -/
  | PRL_SLOT_CNT
  /-- 05 R173 -/
  | PRL_SLOT_CMD
  /-- 05 R173 -/
  | PRL_SLOT_RES
  /-- 05 R173 -/
  | PRL_SLOT_RESX
  /-- 05 R173 -/
  | PRL_SLOT_DADDR
  /-- 05 R173 -/
  | PRL_SLOT_SPAN
  /-- 07 R209 -/
  | CDA_CTL
  /-- 07 R209 -/
  | CDA_STATUS
  /-- 09 R246 -/
  | NOC_DSTATUS
  /-- 09 R246 -/
  | NOC_DIRR
  /-- 09 R253 -/
  | NOC_DRT
  /-- 09 R250 -/
  | NOC_TOUT
  /-- 09 R255 -/
  | NOC_RT_CTL
  /-- 09 R255 -/
  | NOC_RT_STATUS
  /-- 09 R258 -/
  | NOC_ECTL
  /-- 09 R258 -/
  | NOC_ESTATUS
  /-- 09 R246 -/
  | NOC_IRR
  /-- 09 R253 -/
  | NOC_RT
  /-- 09 R256 -/
  | NOC_ESLOT
  /-- 09 R252 -/
  | NOC_AGENT
  /-- 09 R267 -/
  | D2D_PEER
  /-- 09 R267 -/
  | D2D_PCTL
  /-- 09 R267 -/
  | D2D_PSTAT
  /-- 09 R267 -/
  | D2D_BLK
  /-- 09 R267 -/
  | D2D_ERRCNT
  /-- 10 R294 -/
  | COH_CTL
  /-- 10 R294 -/
  | COH_STATUS
  /-- 10 R294 -/
  | COH_CNT
  /-- 10 R294 -/
  | COH_DCNT
  /-- 10 R294 -/
  | COH_DIRQ
  /-- 10 R294 -/
  | COH_DIRR
  /-- 11 R298 -/
  | MEM_CFG
  /-- 11 R298 -/
  | MEM_STATUS
  /-- 11 R311 -/
  | MEM_SCRUB
  /-- 11 R311 -/
  | MEM_SLIMIT
  /-- 11 R311 -/
  | MEM_SPTR
  /-- 11 R311 -/
  | MEM_ECCCNT
  /-- 11 R311 -/
  | MEM_ELAST
  /-- 11 R312 -/
  | MEM_INJ
  /-- 11 R314 -/
  | MSC_CTL
  /-- 11 R314 -/
  | MSC_CNT
  /-- 11 R314 -/
  | MSC_ECNT
  /-- 12 R330 -/
  | DMA_CTL
  /-- 12 R330 -/
  | DMA_CFG
  /-- 12 R330 -/
  | DMA_IOCTX
  /-- 12 R330 -/
  | DMA_NEXT
  /-- 12 R330 -/
  | DMA_STATUS
  /-- 12 R330 -/
  | DMA_ERR
  /-- 12 R330 -/
  | DMA_EADDR
  /-- 12 R330 -/
  | DMA_PROG
  /-- 12 R330 -/
  | DMA_CNT
  /-- 13 R365 -/
  | HBU_CTL
  /-- 13 R365 -/
  | HBU_STATUS
  /-- 13 R365 -/
  | HBU_CTXBASE
  /-- 13 R365 -/
  | HBU_MSIADDR
  /-- 13 R365 -/
  | HBU_UPOFF
  /-- 13 R365 -/
  | HBU_ATSADDR
  /-- 13 R365 -/
  | HBU_ATSCMD
  /-- 13 R365 -/
  | HBU_ATSSTAT
  /-- 13 R365 -/
  | HBU_ERR
  /-- 13 R365 -/
  | HBU_EADDR
  /-- 13 R365 -/
  | HBU_CNT
  /-- 14 R369 -/
  | VSF_ARG0
  /-- 14 R369 -/
  | VSF_ARG1
  /-- 14 R369 -/
  | VSF_CMD
  /-- 14 R369 -/
  | VSF_CMDSTAT
  /-- 14 R379 -/
  | VSF_SPLOG
  /-- 14 R379 -/
  | VSF_SPADDR
  /-- 14 R379 -/
  | VSF_RSTAT
  /-- 14 R379 -/
  | VSF_RAMT
  /-- 14 R379 -/
  | VSF_RARG1
  /-- 14 R379 -/
  | VSF_RTBL
  /-- 14 R379 -/
  | VSF_RCORE
  /-- 14 R379 -/
  | VSF_RDMA
  /-- 14 R379 -/
  | VSF_RFCTX
  /-- 14 R379 -/
  | VSF_SPOOF
  /-- 14 R368 -/
  | VSF_CTL
  /-- 14 R368 -/
  | VSF_ENTRY
  /-- 14 R368 -/
  | VSF_TBLBASE
  /-- 14 R368 -/
  | VSF_PVEC
  /-- 14 R368 -/
  | VSF_PSTAT
  /-- 14 R368 -/
  | VSF_PCORE
  /-- 14 R368 -/
  | VSF_PGRAN
  /-- 14 R368 -/
  | VSF_PDMA
  /-- 14 R368 -/
  | VSF_PFCTX
  /-- 14 R375 -/
  | VSF_VSTAT
  /-- 14 R375 -/
  | VSF_VAMT
  /-- 14 R375 -/
  | VSF_VRUN
  /-- 14 R375 -/
  | VSF_PGRANT
  /-- 14 R375 -/
  | VSF_PGREST
  /-- 14 R375 -/
  | VSF_HDB
  /-- 14 R375 -/
  | VSF_HDBPEND
  /-- 14 R375 -/
  | VSF_SDB
  /-- 15 R383 -/
  | FAB_PCFG
  /-- 15 R383 -/
  | FAB_PSTAT
  /-- 15 R383 -/
  | FAB_PADDR_LO
  /-- 15 R383 -/
  | FAB_PADDR_HI
  /-- 15 R383 -/
  | FAB_LMAC
  /-- 15 R383 -/
  | FAB_NHMAC
  /-- 15 R383 -/
  | FAB_PCNT
  /-- 15 R383 -/
  | FAB_PCNTX
  /-- 15 R417 -/
  | FAB_CTL
  /-- 15 R417 -/
  | FAB_STATUS
  /-- 15 R408 -/
  | FAB_ESTATUS
  /-- 15 R417 -/
  | FAB_RSBASE
  /-- 15 R417 -/
  | FAB_ERR
  /-- 15 R417 -/
  | FAB_EADDR
  /-- 15 R389 -/
  | FAB_PEER_CTL
  /-- 15 R389 -/
  | FAB_PEER_STAT
  /-- 15 R389 -/
  | FAB_PEER_ADDR_LO
  /-- 15 R389 -/
  | FAB_PEER_ADDR_HI
  /-- 15 R389 -/
  | FAB_PEER_IDHASH_LO
  /-- 15 R389 -/
  | FAB_PEER_IDHASH_HI
  /-- 15 R389 -/
  | FAB_PEER_IWIN
  /-- 15 R389 -/
  | FAB_PEER_CNT
  /-- 15 R406 -/
  | FAB_ESLOT
  /-- 15 R409 -/
  | FAB_CCTL
  /-- 15 R409 -/
  | FAB_CPKG0
  /-- 15 R409 -/
  | FAB_CPKG1
  /-- 15 R409 -/
  | FAB_CCMD
  /-- 15 R409 -/
  | FAB_CSTAT
  /-- 15 R417 -/
  | FAB_ATLAS_CTL
  /-- 15 R417 -/
  | FAB_ATLAS_STAT
  /-- 16 R437 -/
  | PAIR_CTL
  /-- 16 R437 -/
  | PAIR_STATUS
  /-- 16 R437 -/
  | PAIR_LINK
  /-- 16 R437 -/
  | PAIR_PEERHASH_LO
  /-- 16 R437 -/
  | PAIR_PEERHASH_HI
  /-- 16 R437 -/
  | PAIR_ULOG
  /-- 16 R437 -/
  | PAIR_ULOGSZ
  /-- 16 R437 -/
  | PAIR_OHB
  /-- 16 R437 -/
  | PAIR_CMD
  /-- 16 R438 -/
  | PAIR_MP_CTL
  /-- 16 R438 -/
  | PAIR_MP_BM
  /-- 16 R438 -/
  | PAIR_MP_CORE
  /-- 16 R438 -/
  | PAIR_MP_DMA
  /-- 16 R438 -/
  | PAIR_MP_STAT
  /-- 16 R438 -/
  | PAIR_MP_CNT
  /-- 17 R453 -/
  | WLD_VIOL
  /-- 17 R454 -/
  | WLD_VADDR
  /-- 17 R449 -/
  | WLD_DBGEN
  /-- 17 R452 -/
  | WLD_HCMD
  /-- 17 R452 -/
  | WLD_HSTAT
  /-- 17 R460 -/
  | IRT_STATUS
  /-- 17 R458 -/
  | IRT_GRP
  /-- 17 R455 -/
  | IRT_SRC
  /-- 18 R472 -/
  | PWR_CTL
  /-- 18 R472 -/
  | PWR_STATUS
  /-- 18 R471 -/
  | PWR_LIMIT
  /-- 18 R471 -/
  | PWR_POWER
  /-- 18 R472 -/
  | PWR_PKGCMD
  /-- 18 R472 -/
  | PWR_WAKEEN
  /-- 18 R472 -/
  | PWR_WAKETIME
  /-- 18 R472 -/
  | PWR_WAKESRC
  /-- 18 R466 -/
  | PWR_DOM
  /-- 18 R466 -/
  | PWR_VOTE
  /-- 18 R467 -/
  | PWR_GATE
  /-- 19 R494 -/
  | BOOT_STATUS
  /-- 19 R494 -/
  | BOOT_CTL
  /-- 19 R494 -/
  | BOOT_SPICMD
  /-- 19 R494 -/
  | BOOT_SPIBUF
  /-- 19 R494 -/
  | IDN_SERIAL
  /-- 19 R494 -/
  | IDN_IDHASH
  /-- 19 R494 -/
  | IDN_KEYFUSE
  /-- 19 R494 -/
  | IDN_EXTEND
  /-- 19 R494 -/
  | IDN_EXTDATA
  /-- 19 R494 -/
  | IDN_PUBKEY
  /-- 19 R494 -/
  | IDN_MEAS
  /-- 20 R505 -/
  | ERB_PEND
  /-- 20 R505 -/
  | ERB_DIEPEND
  /-- 20 R505 -/
  | ERB_NEXT
  /-- 20 R512 -/
  | ERB_DSTOP
  /-- 20 R512 -/
  | ERB_DSTIME
  /-- 20 R507 -/
  | ERB_LOG
  /-- 20 R496 -/
  | ERB_REC
  /-- 20 R496 -/
  | ERB_ADDR
  /-- 20 R496 -/
  | ERB_MISC
  /-- 20 R496 -/
  | ERB_TIME
  /-- 20 R496 -/
  | ERB_CTL
  /-- 20 R505 -/
  | ERB_DPEND
  /-- 19 R494 -/
  | REC_CTL
  /-- 19 R494 -/
  | REC_WINOFF
  /-- 19 R494 -/
  | REC_RESULT
deriving DecidableEq, Repr

/-- Shorthand for a field specification. -/
def fs (lo len : Nat) (ty : FTy) (rst : Nat) (cls : Cls) : FSpec := ⟨⟨lo, len⟩, ty, rst, cls⟩

/-- What the chapters' register tables say of every register. -/
def RegKind.spec (k : RegKind) : RSpec :=
  match k with
  | .D2D_SITE => ⟨.dd2d, 0x0, false, 1, 0, 1, 0,
    [fs 0 16 .ro 0 .l, fs 16 4 .ro 0 .l, fs 20 2 .ro 0 .l, fs 22 1 .ro 0 .l]⟩
  | .BOOT_STRAP => ⟨.boot, 0x10, false, 1, 0, 1, 0,
    [fs 0 9 .ro 0 .l, fs 9 1 .ro 0 .l, fs 10 2 .ro 0 .l, fs 12 4 .ro 0 .l, fs 16 1 .ro 1 .l]⟩
  | .IDN_DIE_REV => ⟨.idn, 0x100, true, 13, 8, 1, 0,
    [fs 0 4 .ro 0 .l, fs 4 4 .ro 0 .l, fs 8 8 .ro 0 .l, fs 16 8 .ro 0 .l, fs 24 1 .ro 0 .l, fs 25 1 .ro 0 .l,
     fs 32 32 .ro 0 .l]⟩
  | .MGT_SWSTAT => ⟨.mgt, 0x100, false, 1, 0, 1, 0,
    [fs 0 24 .ro 0 .l, fs 24 4 .ro 0 .l, fs 28 1 .w1c 0 .l]⟩
  | .MGT_GRPMASK => ⟨.mgt, 0x10000, false, 10, 64, 7, 8,
    [fs 0 24 .rw 0 .l]⟩
  | .MGT_MRAM_OWN => ⟨.mgt, 0x20000, false, 1, 0, 1, 0,
    [fs 0 15 .srw 0x7fff .l, fs 16 15 .srw 0 .l]⟩
  | .MGT_MRAM_WCNT => ⟨.mgt, 0x20100, true, 16, 8, 1, 0,
    [fs 0 48 .ro 0 .l]⟩
  | .TCK_CTL => ⟨.tck, 0x0, false, 1, 0, 1, 0,
    [fs 0 1 .rwo 0 .l, fs 1 2 .rw 0 .l, fs 3 1 .rw 0 .l, fs 4 1 .rw 0 .t, fs 5 1 .rw 0 .l]⟩
  | .TCK_STATUS => ⟨.tck, 0x8, false, 1, 0, 1, 0,
    [fs 0 1 .ro 0 .l, fs 1 1 .w1c 0 .l, fs 2 1 .w1c 0 .l, fs 3 1 .w1c 0 .l, fs 4 1 .w1c 0 .l, fs 5 1 .w1c 0 .l,
     fs 6 1 .w1c 0 .l, fs 7 1 .w1c 0 .l, fs 8 1 .ro 0 .l, fs 9 1 .ro 0 .l]⟩
  | .TCK_PERIOD => ⟨.tck, 0x10, false, 1, 0, 1, 0,
    [fs 0 22 .rw 0x186a0 .t]⟩
  | .TCK_TIME_NS => ⟨.tck, 0x18, true, 1, 0, 1, 0,
    [fs 0 64 .rw 0 .q]⟩
  | .TCK_TIME_FRAC => ⟨.tck, 0x20, false, 1, 0, 1, 0,
    [fs 0 32 .rw 0 .q]⟩
  | .TCK_FRAME => ⟨.tck, 0x28, true, 1, 0, 1, 0,
    [fs 0 48 .rw 0 .q]⟩
  | .TCK_NEXT => ⟨.tck, 0x30, true, 1, 0, 1, 0,
    [fs 0 64 .rw 0 .q]⟩
  | .TCK_RATE => ⟨.tck, 0x38, false, 1, 0, 1, 0,
    [fs 0 32 .rw 0x80000000 .l]⟩
  | .TCK_STEP => ⟨.tck, 0x40, false, 1, 0, 1, 0,
    [fs 0 32 .rw 0 .t]⟩
  | .TCK_MATCH => ⟨.tck, 0x48, true, 1, 0, 1, 0,
    [fs 0 48 .rw 0 .l]⟩
  | .TCK_OVR => ⟨.tck, 0x50, false, 1, 0, 1, 0,
    [fs 0 7 .ro 0 .l]⟩
  | .TCK_XOVR => ⟨.tck, 0x58, false, 1, 0, 1, 0,
    [fs 0 1 .w1c 0 .l, fs 1 1 .w1c 0 .l, fs 2 1 .w1c 0 .l, fs 3 1 .w1c 0 .l, fs 4 1 .w1c 0 .l,
     fs 5 1 .w1c 0 .l]⟩
  | .TCK_IO => ⟨.tck, 0x60, false, 1, 0, 1, 0,
    [fs 0 2 .rw 0 .t, fs 2 4 .rw 0 .t, fs 6 16 .rw 0x64 .t, fs 22 1 .rw 0 .l, fs 23 1 .rw 0 .l]⟩
  | .TCK_IN_STAMP => ⟨.tck, 0x68, true, 1, 0, 1, 0,
    [fs 0 64 .ro 0 .l]⟩
  | .TCK_IN_FRAC => ⟨.tck, 0x70, false, 1, 0, 1, 0,
    [fs 0 32 .ro 0 .l]⟩
  | .C_RSTAT => ⟨.core, 0x0, true, 1, 0, 1, 0,
    [fs 0 3 .ro 0 .l, fs 3 1 .w1c 0 .l, fs 4 4 .ro 0 .l, fs 8 2 .ro 3 .l, fs 10 1 .ro 1 .l]⟩
  | .C_START => ⟨.core, 0x8, true, 1, 0, 1, 0,
    [fs 2 54 .rw 0x2000c0000000 .q]⟩
  | .C_RUN => ⟨.core, 0x40, true, 1, 0, 1, 0,
    [fs 0 1 .w1s 0 .l, fs 1 1 .w1s 0 .l, fs 2 1 .wo 0 .l, fs 3 1 .wo 0 .l]⟩
  | .C_DBGINST => ⟨.core, 0x80, true, 1, 0, 1, 0,
    [fs 0 32 .wo 0 .l]⟩
  | .C_CYCLE_ALIAS => ⟨.core, 0x100, true, 1, 0, 1, 0,
    [fs 0 64 .ro 0 .l]⟩
  | .C_INSTRET_ALIAS => ⟨.core, 0x108, true, 1, 0, 1, 0,
    [fs 0 64 .ro 0 .l]⟩
  | .C_PMC_ALIAS => ⟨.core, 0x110, true, 6, 8, 1, 0,
    [fs 0 64 .ro 0 .l]⟩
  | .PRL_CTL => ⟨.prl, 0x0, true, 1, 0, 1, 0,
    [fs 0 1 .rw 0 .q, fs 1 1 .rw 0 .l, fs 8 6 .rw 8 .t]⟩
  | .PRL_STATUS => ⟨.prl, 0x8, true, 1, 0, 1, 0,
    [fs 0 1 .ro 0 .l, fs 1 1 .w1c 0 .l, fs 2 1 .w1c 0 .l, fs 3 1 .w1c 0 .l, fs 8 5 .ro 0 .l,
     fs 32 32 .ro 0xffffffff .l]⟩
  | .PRL_GRANT => ⟨.prl, 0x10, true, 1, 0, 1, 0,
    [fs 0 4 .wo 0 .l, fs 4 2 .wo 0 .l, fs 6 1 .wo 0 .l, fs 8 8 .wo 0 .l, fs 16 16 .wo 0 .l, fs 32 16 .wo 0 .l]⟩
  | .PRL_PQUOTA => ⟨.prl, 0x40, true, 8, 8, 1, 0,
    [fs 0 6 .rw 0 .t, fs 8 6 .rw 0 .t, fs 16 6 .rw 0 .t, fs 24 6 .rw 0 .t, fs 32 6 .rw 0 .t, fs 40 6 .rw 0 .t,
     fs 48 6 .rw 0 .t, fs 56 6 .rw 0 .t]⟩
  | .PRL_GREST => ⟨.prl, 0x100, true, 16, 8, 1, 0,
    [fs 0 3 .ro 0 .l, fs 8 5 .ro 0 .l, fs 16 8 .ro 0 .l, fs 24 1 .wo 0 .l, fs 25 1 .wo 0 .l]⟩
  | .PRL_LASTREF => ⟨.prl, 0x200, true, 1, 0, 1, 0,
    [fs 0 38 .ro 0 .l, fs 40 3 .ro 0 .l, fs 48 1 .w1c 0 .l]⟩
  | .PRL_SLOT_CTL => ⟨.prl, 0x1000, true, 32, 256, 1, 0,
    [fs 0 1 .rw 0 .l, fs 1 1 .rw 0 .l, fs 2 1 .rw 0 .l]⟩
  | .PRL_SLOT_STAT => ⟨.prl, 0x1008, true, 32, 256, 1, 0,
    [fs 0 2 .ro 0 .l, fs 2 2 .ro 0 .l, fs 8 8 .ro 0 .l, fs 16 1 .ro 0 .l, fs 24 8 .ro 0 .l, fs 32 4 .ro 0 .l,
     fs 40 1 .w1c 0 .l, fs 41 1 .w1c 0 .l, fs 42 1 .w1c 0 .l, fs 43 1 .w1c 0 .l, fs 44 1 .w1c 0 .l]⟩
  | .PRL_SLOT_LEASE => ⟨.prl, 0x1010, true, 32, 256, 1, 0,
    [fs 0 48 .ro 0 .l]⟩
  | .PRL_SLOT_CNT => ⟨.prl, 0x1018, true, 32, 256, 1, 0,
    [fs 0 16 .ro 0 .l, fs 16 16 .ro 0 .l, fs 32 16 .ro 0 .l]⟩
  | .PRL_SLOT_CMD => ⟨.prl, 0x1020, true, 32, 256, 1, 0,
    [fs 0 3 .wo 0 .l, fs 3 3 .wo 0 .l, fs 6 2 .wo 0 .l, fs 16 16 .wo 0 .l]⟩
  | .PRL_SLOT_RES => ⟨.prl, 0x1028, true, 32, 256, 1, 0,
    [fs 0 64 .ro 0 .l]⟩
  | .PRL_SLOT_RESX => ⟨.prl, 0x1030, true, 32, 256, 1, 0,
    [fs 0 8 .ro 0 .l, fs 8 5 .ro 0 .l, fs 16 1 .ro 0 .l]⟩
  | .PRL_SLOT_DADDR => ⟨.prl, 0x1038, true, 32, 256, 1, 0,
    [fs 7 49 .rw 0 .l]⟩
  | .PRL_SLOT_SPAN => ⟨.prl, 0x1040, true, 32, 256, 1, 0,
    [fs 0 6 .ro 0 .l, fs 8 6 .ro 0 .l, fs 16 1 .ro 0 .l, fs 17 1 .ro 0 .l, fs 20 4 .ro 0 .l]⟩
  | .CDA_CTL => ⟨.cda, 0x0, true, 1, 0, 1, 0,
    [fs 0 1 .rw 0 .l, fs 1 1 .wo 0 .l]⟩
  | .CDA_STATUS => ⟨.cda, 0x8, true, 1, 0, 1, 0,
    [fs 0 1 .ro 0 .l, fs 1 1 .w1c 0 .l]⟩
  | .NOC_DSTATUS => ⟨.dnoc, 0x8, false, 1, 0, 1, 0,
    [fs 0 1 .ro 0 .l]⟩
  | .NOC_DIRR => ⟨.dnoc, 0x1000, true, 256, 8, 1, 0,
    [fs 0 1 .rw 0 .t, fs 8 8 .rw 0 .t, fs 16 16 .rw 0x40 .t]⟩
  | .NOC_DRT => ⟨.dnoc, 0x2000, true, 2, 1024, 16, 8,
    [fs 0 2 .rw 0 .l, fs 8 2 .rw 0 .l, fs 16 2 .rw 0 .l, fs 24 2 .rw 0 .l, fs 32 2 .rw 0 .l, fs 40 2 .rw 0 .l,
     fs 48 2 .rw 0 .l, fs 56 2 .rw 0 .l]⟩
  | .NOC_TOUT => ⟨.noc, 0x40, true, 1, 0, 1, 0,
    [fs 0 8 .rw 4 .t, fs 8 10 .rw 0x32 .t, fs 18 10 .rw 0xa .t]⟩
  | .NOC_RT_CTL => ⟨.noc, 0x80, false, 1, 0, 1, 0,
    [fs 0 1 .w1s 0 .l]⟩
  | .NOC_RT_STATUS => ⟨.noc, 0x88, true, 1, 0, 1, 0,
    [fs 0 1 .ro 0 .l, fs 1 1 .ro 1 .l, fs 2 1 .w1c 0 .l, fs 3 1 .w1c 0 .l, fs 4 1 .w1c 0 .l, fs 16 32 .ro 0 .l]⟩
  | .NOC_ECTL => ⟨.noc, 0xC0, false, 1, 0, 1, 0,
    [fs 0 1 .rw 0 .t, fs 8 8 .rw 0 .t]⟩
  | .NOC_ESTATUS => ⟨.noc, 0xC8, false, 1, 0, 1, 0,
    [fs 0 1 .ro 0 .l, fs 1 1 .w1c 0 .l, fs 2 1 .w1c 0 .l, fs 3 1 .w1c 0 .l, fs 16 16 .rw 0 .l]⟩
  | .NOC_IRR => ⟨.noc, 0x1000, true, 256, 8, 1, 0,
    [fs 0 1 .rw 0 .t, fs 8 8 .rw 0 .t, fs 16 16 .rw 0x40 .t]⟩
  | .NOC_RT => ⟨.noc, 0x2000, true, 2, 1024, 12, 8,
    [fs 0 2 .rw 0 .l, fs 8 2 .rw 0 .l, fs 16 2 .rw 0 .l, fs 24 2 .rw 0 .l, fs 32 2 .rw 0 .l, fs 40 2 .rw 0 .l,
     fs 48 2 .rw 0 .l, fs 56 2 .rw 0 .l]⟩
  | .NOC_ESLOT => ⟨.noc, 0x4000, true, 64, 8, 1, 0,
    [fs 0 1 .rw 0 .t, fs 1 12 .rw 0 .t, fs 16 24 .rw 0 .t, fs 40 16 .rw 0 .t]⟩
  | .NOC_AGENT => ⟨.noc, 0x8000, true, 16, 2048, 256, 8,
    [fs 0 4 .ro 0 .l, fs 4 2 .ro 0 .l, fs 16 16 .rw 0 .l, fs 32 16 .rw 0 .l, fs 48 16 .rw 0 .l]⟩
  | .D2D_PEER => ⟨.d2d, 0x10, true, 1, 0, 1, 0,
    [fs 0 8 .ro 0 .l, fs 8 8 .ro 0 .l, fs 16 4 .ro 0 .l, fs 20 1 .ro 0 .l, fs 32 16 .ro 0 .l,
     fs 48 16 .ro 0 .l]⟩
  | .D2D_PCTL => ⟨.d2d, 0x100, false, 4, 256, 1, 0,
    [fs 0 1 .rw 1 .l, fs 1 1 .wo 0 .l, fs 2 1 .wo 0 .l, fs 3 2 .rw 0 .q, fs 5 1 .rw 0 .q]⟩
  | .D2D_PSTAT => ⟨.d2d, 0x108, false, 4, 256, 1, 0,
    [fs 0 3 .ro 0 .l, fs 3 5 .ro 0 .l, fs 8 2 .ro 0 .l, fs 10 2 .ro 0 .l, fs 12 2 .ro 0 .l, fs 14 6 .ro 0 .l,
     fs 20 1 .w1c 0 .l, fs 21 1 .w1c 0 .l, fs 24 8 .rw 0 .l]⟩
  | .D2D_BLK => ⟨.d2d, 0x110, true, 4, 256, 1, 0,
    [fs 0 32 .ro 0 .l, fs 32 16 .ro 0 .l]⟩
  | .D2D_ERRCNT => ⟨.d2d, 0x118, true, 4, 256, 1, 0,
    [fs 0 16 .rw 0 .l, fs 16 16 .rw 0 .l, fs 32 16 .rw 0 .l, fs 48 16 .rw 0 .l]⟩
  | .COH_CTL => ⟨.coh, 0x0, true, 1, 0, 1, 0,
    [fs 0 2 .rw 0 .t]⟩
  | .COH_STATUS => ⟨.coh, 0x8, true, 1, 0, 1, 0,
    [fs 0 1 .ro 0 .l, fs 2 1 .w1c 0 .l, fs 16 9 .ro 0 .l, fs 32 10 .ro 0 .l]⟩
  | .COH_CNT => ⟨.coh, 0x10, true, 1, 0, 1, 0,
    [fs 0 16 .rw 0 .l, fs 16 16 .rw 0 .l, fs 32 16 .rw 0 .l, fs 48 16 .rw 0 .l]⟩
  | .COH_DCNT => ⟨.coh, 0x18, true, 1, 0, 1, 0,
    [fs 0 32 .rw 0 .l, fs 32 32 .rw 0 .l]⟩
  | .COH_DIRQ => ⟨.coh, 0x20, true, 1, 0, 1, 0,
    [fs 7 49 .wo 0 .l]⟩
  | .COH_DIRR => ⟨.coh, 0x28, true, 1, 0, 1, 0,
    [fs 0 45 .ro 0 .l, fs 48 1 .ro 0 .l, fs 49 1 .ro 0 .l, fs 50 1 .ro 0 .l, fs 51 1 .ro 0 .l,
     fs 52 1 .ro 0 .l]⟩
  | .MEM_CFG => ⟨.mem, 0x0, false, 1, 0, 1, 0,
    [fs 0 2 .rw 0 .q, fs 2 1 .rw 0 .q, fs 8 6 .rw 0 .q, fs 16 1 .rw 0 .q]⟩
  | .MEM_STATUS => ⟨.mem, 0x8, false, 1, 0, 1, 0,
    [fs 0 1 .ro 0 .l, fs 1 1 .w1c 0 .l, fs 2 1 .ro 0 .l, fs 3 1 .ro 0 .l, fs 4 4 .ro 0 .l, fs 8 1 .ro 0 .l,
     fs 16 7 .ro 0 .l]⟩
  | .MEM_SCRUB => ⟨.mem, 0x10, false, 1, 0, 1, 0,
    [fs 0 1 .rw 0 .t, fs 1 1 .w1c 0 .l, fs 2 1 .w1c 0 .l, fs 16 16 .rw 0 .t]⟩
  | .MEM_SLIMIT => ⟨.mem, 0x18, true, 1, 0, 1, 0,
    [fs 0 32 .rw 0 .t]⟩
  | .MEM_SPTR => ⟨.mem, 0x20, true, 1, 0, 1, 0,
    [fs 0 32 .ro 0 .l, fs 32 32 .ro 0 .l]⟩
  | .MEM_ECCCNT => ⟨.mem, 0x28, true, 1, 0, 1, 0,
    [fs 0 16 .rw 0 .l, fs 16 16 .rw 0 .l, fs 32 16 .rw 0 .l, fs 48 16 .rw 0 .l]⟩
  | .MEM_ELAST => ⟨.mem, 0x30, true, 1, 0, 1, 0,
    [fs 0 31 .ro 0 .l, fs 31 4 .ro 0 .l, fs 35 3 .ro 0 .l, fs 38 15 .ro 0 .l, fs 63 1 .w1c 0 .l]⟩
  | .MEM_INJ => ⟨.mem, 0x38, false, 1, 0, 1, 0,
    [fs 0 7 .srw 0x7f .l, fs 8 7 .srw 0x7f .l, fs 16 7 .srw 0x7f .l, fs 24 1 .srw 0 .l]⟩
  | .MSC_CTL => ⟨.msc, 0x0, false, 1, 0, 1, 0,
    [fs 0 1 .rw 0 .l]⟩
  | .MSC_CNT => ⟨.msc, 0x8, true, 1, 0, 1, 0,
    [fs 0 32 .rw 0 .l, fs 32 32 .rw 0 .l]⟩
  | .MSC_ECNT => ⟨.msc, 0x10, true, 1, 0, 1, 0,
    [fs 0 16 .rw 0 .l, fs 16 16 .rw 0 .l, fs 32 16 .rw 0 .l]⟩
  | .DMA_CTL => ⟨.dma, 0x0, false, 1, 0, 1, 0,
    [fs 0 1 .wo 0 .l, fs 1 1 .wo 0 .l, fs 2 1 .wo 0 .l, fs 3 1 .wo 0 .l, fs 4 1 .wo 0 .l, fs 8 1 .rw 0 .l,
     fs 9 1 .rw 0 .l]⟩
  | .DMA_CFG => ⟨.dma, 0x8, true, 1, 0, 1, 0,
    [fs 0 11 .rw 0 .t, fs 16 1 .srw 0 .q, fs 17 1 .rw 0 .q, fs 24 8 .ro 0xff .l]⟩
  | .DMA_IOCTX => ⟨.dma, 0x10, true, 1, 0, 1, 0,
    [fs 5 51 .rw 0 .q]⟩
  | .DMA_NEXT => ⟨.dma, 0x18, true, 1, 0, 1, 0,
    [fs 5 51 .rw 0 .q]⟩
  | .DMA_STATUS => ⟨.dma, 0x20, false, 1, 0, 1, 0,
    [fs 0 1 .ro 0 .l, fs 1 1 .w1c 0 .l, fs 2 1 .ro 0 .l, fs 3 1 .ro 0 .l, fs 4 1 .ro 0 .l, fs 5 1 .w1c 0 .l,
     fs 6 1 .w1c 0 .l, fs 7 1 .w1c 0 .l, fs 8 1 .w1c 0 .l, fs 9 3 .ro 0 .l]⟩
  | .DMA_ERR => ⟨.dma, 0x28, true, 1, 0, 1, 0,
    [fs 0 3 .ro 0 .l, fs 3 2 .ro 0 .l, fs 5 4 .ro 0 .l, fs 16 10 .ro 0 .l, fs 63 1 .w1c 0 .l]⟩
  | .DMA_EADDR => ⟨.dma, 0x30, true, 1, 0, 1, 0,
    [fs 0 56 .ro 0 .l]⟩
  | .DMA_PROG => ⟨.dma, 0x38, true, 1, 0, 1, 0,
    [fs 0 32 .ro 0 .l]⟩
  | .DMA_CNT => ⟨.dma, 0x40, true, 1, 0, 1, 0,
    [fs 0 32 .rw 0 .l, fs 32 32 .rw 0 .l]⟩
  | .HBU_CTL => ⟨.hbu, 0x0, false, 1, 0, 1, 0,
    [fs 0 1 .rwo 0 .l, fs 1 1 .rwo 0 .l, fs 2 3 .rwo 0 .l, fs 5 2 .rwo 0 .l, fs 8 4 .rwo 0 .l]⟩
  | .HBU_STATUS => ⟨.hbu, 0x4, false, 1, 0, 1, 0,
    [fs 1 1 .w1c 0 .l, fs 2 4 .ro 0 .l, fs 6 1 .w1c 0 .l]⟩
  | .HBU_CTXBASE => ⟨.hbu, 0x8, true, 1, 0, 1, 0,
    [fs 0 1 .rw 0 .q, fs 21 35 .rw 0 .q]⟩
  | .HBU_MSIADDR => ⟨.hbu, 0x10, true, 1, 0, 1, 0,
    [fs 0 1 .rw 0 .l, fs 16 48 .rw 0 .l]⟩
  | .HBU_UPOFF => ⟨.hbu, 0x18, true, 1, 0, 1, 0,
    [fs 0 64 .rw 0 .l]⟩
  | .HBU_ATSADDR => ⟨.hbu, 0x20, true, 1, 0, 1, 0,
    [fs 11 1 .rw 0 .l, fs 12 52 .rw 0 .l]⟩
  | .HBU_ATSCMD => ⟨.hbu, 0x28, true, 1, 0, 1, 0,
    [fs 0 16 .rw 0 .l, fs 16 20 .rw 0 .l, fs 36 1 .rw 0 .l, fs 37 1 .wo 0 .l]⟩
  | .HBU_ATSSTAT => ⟨.hbu, 0x30, false, 1, 0, 1, 0,
    [fs 0 1 .ro 0 .l, fs 1 1 .w1c 0 .l, fs 2 1 .w1c 0 .l]⟩
  | .HBU_ERR => ⟨.hbu, 0x38, true, 1, 0, 1, 0,
    [fs 0 4 .ro 0 .l, fs 4 2 .ro 0 .l, fs 16 10 .ro 0 .l, fs 63 1 .w1c 0 .l]⟩
  | .HBU_EADDR => ⟨.hbu, 0x40, true, 1, 0, 1, 0,
    [fs 0 64 .ro 0 .l]⟩
  | .HBU_CNT => ⟨.hbu, 0x48, true, 1, 0, 1, 0,
    [fs 0 16 .rw 0 .l, fs 16 16 .rw 0 .l, fs 32 16 .rw 0 .l, fs 48 16 .rw 0 .l]⟩
  | .VSF_ARG0 => ⟨.vsf, 0x20, true, 1, 0, 1, 0,
    [fs 0 8 .rw 0 .l, fs 8 12 .rw 0 .l, fs 20 5 .rw 0 .l, fs 25 6 .rw 0 .l, fs 32 8 .rw 0 .l,
     fs 40 11 .rw 0 .l]⟩
  | .VSF_ARG1 => ⟨.vsf, 0x28, true, 1, 0, 1, 0,
    [fs 0 16 .rw 0 .l, fs 16 1 .rw 0 .l]⟩
  | .VSF_CMD => ⟨.vsf, 0x30, true, 1, 0, 1, 0,
    [fs 0 2 .wo 0 .l, fs 8 8 .wo 0 .l]⟩
  | .VSF_CMDSTAT => ⟨.vsf, 0x38, true, 1, 0, 1, 0,
    [fs 0 1 .ro 0 .l, fs 4 4 .ro 0 .l, fs 8 8 .ro 0 .l, fs 16 1 .w1c 0 .l, fs 17 1 .w1c 0 .l,
     fs 18 1 .w1c 0 .l]⟩
  | .VSF_SPLOG => ⟨.vsf, 0x40, true, 1, 0, 1, 0,
    [fs 0 8 .ro 0 .l, fs 8 3 .ro 0 .l, fs 12 12 .ro 0 .l, fs 63 1 .w1c 0 .l]⟩
  | .VSF_SPADDR => ⟨.vsf, 0x48, true, 1, 0, 1, 0,
    [fs 0 64 .ro 0 .l]⟩
  | .VSF_RSTAT => ⟨.vsf, 0x1000, true, 240, 256, 1, 0,
    [fs 0 2 .ro 0 .l, fs 2 1 .ro 0 .l]⟩
  | .VSF_RAMT => ⟨.vsf, 0x1008, true, 240, 256, 1, 0,
    [fs 0 8 .ro 0 .l, fs 8 12 .ro 0 .l, fs 20 5 .ro 0 .l, fs 25 6 .ro 0 .l, fs 32 8 .ro 0 .l,
     fs 40 11 .ro 0 .l]⟩
  | .VSF_RARG1 => ⟨.vsf, 0x1010, true, 240, 256, 1, 0,
    [fs 0 16 .ro 0 .l, fs 16 1 .ro 0 .l]⟩
  | .VSF_RTBL => ⟨.vsf, 0x1018, true, 240, 256, 1, 0,
    [fs 0 64 .ro 0 .l]⟩
  | .VSF_RCORE => ⟨.vsf, 0x1020, true, 240, 256, 4, 8,
    [fs 0 64 .ro 0 .l]⟩
  | .VSF_RDMA => ⟨.vsf, 0x1040, true, 240, 256, 4, 8,
    [fs 0 64 .ro 0 .l]⟩
  | .VSF_RFCTX => ⟨.vsf, 0x1060, true, 240, 256, 4, 8,
    [fs 0 64 .ro 0 .l]⟩
  | .VSF_SPOOF => ⟨.vsf, 0x1080, true, 240, 256, 1, 0,
    [fs 0 12 .rw 0 .l, fs 12 12 .rw 0 .l, fs 24 12 .rw 0 .l, fs 36 12 .rw 0 .l, fs 48 12 .rw 0 .l]⟩
  | .VSF_CTL => ⟨.vsf, 0x10000, true, 1, 0, 1, 0,
    [fs 0 1 .srw 0 .q, fs 1 1 .rw 0 .l, fs 2 1 .rw 0 .l, fs 16 11 .rw 0 .l, fs 32 11 .rw 0 .l]⟩
  | .VSF_ENTRY => ⟨.vsf, 0x10008, true, 1, 0, 1, 0,
    [fs 2 54 .srw 0 .l]⟩
  | .VSF_TBLBASE => ⟨.vsf, 0x10010, true, 1, 0, 1, 0,
    [fs 22 34 .srw 0 .q]⟩
  | .VSF_PVEC => ⟨.vsf, 0x10018, true, 1, 0, 1, 0,
    [fs 0 15 .srw 0 .l]⟩
  | .VSF_PSTAT => ⟨.vsf, 0x10020, true, 1, 0, 1, 0,
    [fs 0 8 .ro 0 .l, fs 8 13 .ro 0 .l, fs 21 13 .ro 0 .l, fs 34 8 .ro 0 .l, fs 42 15 .ro 0 .l]⟩
  | .VSF_PCORE => ⟨.vsf, 0x10100, true, 4, 8, 1, 0,
    [fs 0 64 .srw 0 .l]⟩
  | .VSF_PGRAN => ⟨.vsf, 0x10200, true, 64, 8, 1, 0,
    [fs 0 64 .srw 0 .l]⟩
  | .VSF_PDMA => ⟨.vsf, 0x10400, true, 4, 8, 1, 0,
    [fs 0 64 .srw 0 .l]⟩
  | .VSF_PFCTX => ⟨.vsf, 0x10500, true, 4, 8, 1, 0,
    [fs 0 64 .srw 0 .l]⟩
  | .VSF_VSTAT => ⟨.vsf, 0x20000, true, 240, 8192, 1, 0,
    [fs 0 2 .ro 0 .l, fs 2 1 .ro 0 .l]⟩
  | .VSF_VAMT => ⟨.vsf, 0x20008, true, 240, 8192, 1, 0,
    [fs 0 8 .ro 0 .l, fs 8 12 .ro 0 .l, fs 20 5 .ro 0 .l, fs 25 6 .ro 0 .l, fs 32 8 .ro 0 .l,
     fs 40 11 .ro 0 .l]⟩
  | .VSF_VRUN => ⟨.vsf, 0x20010, true, 240, 8192, 1, 0,
    [fs 0 1 .w1s 0 .l]⟩
  | .VSF_PGRANT => ⟨.vsf, 0x20100, true, 240, 8192, 1, 0,
    [fs 0 4 .wo 0 .l, fs 4 2 .wo 0 .l, fs 6 1 .wo 0 .l, fs 8 8 .wo 0 .l, fs 16 16 .wo 0 .l, fs 32 16 .wo 0 .l]⟩
  | .VSF_PGREST => ⟨.vsf, 0x20140, true, 240, 8192, 4, 8,
    [fs 0 3 .ro 0 .l, fs 8 5 .ro 0 .l, fs 16 8 .ro 0 .l, fs 24 1 .wo 0 .l, fs 25 1 .wo 0 .l]⟩
  | .VSF_HDB => ⟨.vsf, 0x20800, true, 240, 8192, 1, 0,
    [fs 0 64 .w1s 0 .l]⟩
  | .VSF_HDBPEND => ⟨.vsf, 0x20808, true, 240, 8192, 1, 0,
    [fs 0 64 .w1c 0 .l]⟩
  | .VSF_SDB => ⟨.vsf, 0x20810, true, 240, 8192, 1, 0,
    [fs 0 11 .wo 0 .l]⟩
  | .FAB_PCFG => ⟨.fabm, 0x0, false, 1, 0, 1, 0,
    [fs 0 2 .rw 0 .q, fs 2 2 .rw 0 .q]⟩
  | .FAB_PSTAT => ⟨.fabm, 0x8, false, 1, 0, 1, 0,
    [fs 0 2 .ro 0 .l, fs 2 1 .w1c 0 .l]⟩
  | .FAB_PADDR_LO => ⟨.fabm, 0x10, true, 2, 16, 1, 0,
    [fs 0 64 .rw 0 .q]⟩
  | .FAB_PADDR_HI => ⟨.fabm, 0x18, true, 2, 16, 1, 0,
    [fs 0 64 .rw 0 .q]⟩
  | .FAB_LMAC => ⟨.fabm, 0x30, true, 2, 8, 1, 0,
    [fs 0 48 .rw 0 .q]⟩
  | .FAB_NHMAC => ⟨.fabm, 0x40, true, 2, 8, 1, 0,
    [fs 0 48 .rw 0 .q]⟩
  | .FAB_PCNT => ⟨.fabm, 0x50, true, 2, 16, 1, 0,
    [fs 0 16 .rw 0 .l, fs 16 16 .rw 0 .l, fs 32 16 .rw 0 .l, fs 48 16 .rw 0 .l]⟩
  | .FAB_PCNTX => ⟨.fabm, 0x58, true, 2, 16, 1, 0,
    [fs 0 32 .rw 0 .l, fs 32 32 .rw 0 .l]⟩
  | .FAB_CTL => ⟨.fab, 0x0, true, 1, 0, 1, 0,
    [fs 0 1 .rw 0 .q, fs 1 2 .rw 2 .q, fs 3 1 .rw 0 .t, fs 4 6 .rw 0 .t, fs 10 6 .rw 0x2e .t,
     fs 16 6 .rw 0x30 .t, fs 32 16 .rw 0x3c .t, fs 48 16 .rw 0xc1a5 .q]⟩
  | .FAB_STATUS => ⟨.fab, 0x8, true, 1, 0, 1, 0,
    [fs 0 1 .ro 0 .l, fs 1 1 .w1c 0 .l, fs 2 1 .w1c 0 .l, fs 3 1 .w1c 0 .l, fs 4 1 .w1c 0 .l, fs 5 1 .w1c 0 .l,
     fs 16 9 .ro 0 .l]⟩
  | .FAB_ESTATUS => ⟨.fab, 0x10, false, 1, 0, 1, 0,
    [fs 0 1 .ro 0 .l, fs 1 1 .w1c 0 .l, fs 2 1 .w1c 0 .l, fs 3 1 .w1c 0 .l, fs 16 16 .rw 0 .l]⟩
  | .FAB_RSBASE => ⟨.fab, 0x18, true, 1, 0, 1, 0,
    [fs 28 28 .rw 0 .q]⟩
  | .FAB_ERR => ⟨.fab, 0x20, true, 1, 0, 1, 0,
    [fs 0 4 .ro 0 .l, fs 4 9 .ro 0 .l, fs 13 4 .ro 0 .l, fs 63 1 .w1c 0 .l]⟩
  | .FAB_EADDR => ⟨.fab, 0x28, true, 1, 0, 1, 0,
    [fs 0 56 .ro 0 .l]⟩
  | .FAB_PEER_CTL => ⟨.fab, 0x10000, true, 512, 64, 1, 0,
    [fs 0 1 .rw 0 .l, fs 1 4 .rw 0 .q, fs 5 4 .rw 0 .q, fs 9 1 .rw 0 .q]⟩
  | .FAB_PEER_STAT => ⟨.fab, 0x10008, true, 512, 64, 1, 0,
    [fs 0 3 .ro 0 .l, fs 3 4 .ro 0 .l, fs 7 4 .ro 0 .l, fs 11 8 .ro 0 .l, fs 19 4 .ro 0 .l, fs 23 1 .ro 0 .l,
     fs 24 1 .ro 0 .l]⟩
  | .FAB_PEER_ADDR_LO => ⟨.fab, 0x10010, true, 512, 64, 1, 0,
    [fs 0 64 .rw 0 .q]⟩
  | .FAB_PEER_ADDR_HI => ⟨.fab, 0x10018, true, 512, 64, 1, 0,
    [fs 0 64 .rw 0 .q]⟩
  | .FAB_PEER_IDHASH_LO => ⟨.fab, 0x10020, true, 512, 64, 1, 0,
    [fs 0 64 .rw 0 .q]⟩
  | .FAB_PEER_IDHASH_HI => ⟨.fab, 0x10028, true, 512, 64, 1, 0,
    [fs 0 64 .rw 0 .q]⟩
  | .FAB_PEER_IWIN => ⟨.fab, 0x10030, true, 512, 64, 1, 0,
    [fs 0 12 .rw 0 .t, fs 16 12 .rw 0 .t, fs 31 1 .rw 0 .t]⟩
  | .FAB_PEER_CNT => ⟨.fab, 0x10038, true, 512, 64, 1, 0,
    [fs 0 16 .rw 0 .l, fs 16 16 .rw 0 .l, fs 32 16 .ro 0 .l, fs 48 16 .ro 0 .l]⟩
  | .FAB_ESLOT => ⟨.fab, 0x20000, true, 256, 8, 1, 0,
    [fs 0 1 .rw 0 .t, fs 1 4 .rw 0 .t, fs 5 9 .rw 0 .t, fs 16 24 .rw 0 .t, fs 40 16 .rw 0 .t]⟩
  | .FAB_CCTL => ⟨.fab, 0x30000, true, 256, 64, 1, 0,
    [fs 0 1 .rw 0 .q, fs 1 2 .rw 0 .q, fs 3 1 .rw 0 .q, fs 4 4 .rw 0 .q, fs 8 1 .rw 0 .q, fs 9 1 .rw 0 .q,
     fs 16 8 .ro 0xff .l, fs 24 16 .rw 0 .q, fs 40 16 .rw 0 .q]⟩
  | .FAB_CPKG0 => ⟨.fab, 0x30008, true, 256, 64, 1, 0,
    [fs 0 64 .rw 0 .q]⟩
  | .FAB_CPKG1 => ⟨.fab, 0x30010, true, 256, 64, 1, 0,
    [fs 0 64 .rw 0 .q]⟩
  | .FAB_CCMD => ⟨.fab, 0x30018, true, 256, 64, 1, 0,
    [fs 0 2 .wo 0 .l]⟩
  | .FAB_CSTAT => ⟨.fab, 0x30020, true, 256, 64, 1, 0,
    [fs 0 3 .ro 0 .l, fs 3 5 .ro 0 .l, fs 8 8 .ro 0 .l, fs 16 16 .ro 0 .l, fs 32 4 .ro 0 .l, fs 36 1 .w1c 0 .l]⟩
  | .FAB_ATLAS_CTL => ⟨.fab, 0x40000, true, 1, 0, 1, 0,
    [fs 0 1 .rw 0 .t, fs 1 1 .rw 0 .t, fs 2 9 .rw 0 .t, fs 11 4 .rw 0 .t, fs 15 4 .rw 0 .t, fs 19 8 .rw 0 .t,
     fs 32 16 .rw 0 .t]⟩
  | .FAB_ATLAS_STAT => ⟨.fab, 0x40008, true, 1, 0, 1, 0,
    [fs 0 1 .ro 0 .l, fs 1 1 .ro 0 .l, fs 2 1 .w1c 0 .l, fs 8 8 .ro 0 .l, fs 32 32 .ro 0 .l]⟩
  | .PAIR_CTL => ⟨.pair, 0x0, true, 1, 0, 1, 0,
    [fs 0 1 .rw 0 .q, fs 1 1 .rw 1 .l, fs 2 1 .rw 0 .l, fs 3 1 .rw 0 .l, fs 8 8 .rw 0x14 .t,
     fs 16 16 .rw 0x7d0 .t]⟩
  | .PAIR_STATUS => ⟨.pair, 0x8, false, 1, 0, 1, 0,
    [fs 0 1 .ro 0 .l, fs 1 1 .w1c 0 .l, fs 2 1 .w1c 0 .l, fs 3 1 .w1c 0 .l, fs 4 1 .w1c 0 .l, fs 5 1 .w1c 0 .l,
     fs 6 1 .w1c 0 .l]⟩
  | .PAIR_LINK => ⟨.pair, 0x10, true, 1, 0, 1, 0,
    [fs 0 3 .ro 0 .l, fs 3 5 .ro 0 .l, fs 8 8 .ro 0 .l, fs 16 8 .ro 0 .l, fs 24 8 .ro 0 .l, fs 32 4 .ro 0 .l,
     fs 36 1 .ro 0 .l]⟩
  | .PAIR_PEERHASH_LO => ⟨.pair, 0x20, true, 1, 0, 1, 0,
    [fs 0 64 .rw 0 .q]⟩
  | .PAIR_PEERHASH_HI => ⟨.pair, 0x28, true, 1, 0, 1, 0,
    [fs 0 64 .rw 0 .q]⟩
  | .PAIR_ULOG => ⟨.pair, 0x30, true, 1, 0, 1, 0,
    [fs 21 35 .rw 0 .q]⟩
  | .PAIR_ULOGSZ => ⟨.pair, 0x38, true, 1, 0, 1, 0,
    [fs 0 16 .rw 0 .q]⟩
  | .PAIR_OHB => ⟨.pair, 0x40, true, 1, 0, 1, 0,
    [fs 0 16 .rw 0 .q, fs 21 35 .rw 0 .q]⟩
  | .PAIR_CMD => ⟨.pair, 0x50, true, 1, 0, 1, 0,
    [fs 0 3 .wo 0 .l, fs 4 4 .wo 0 .l]⟩
  | .PAIR_MP_CTL => ⟨.pair, 0x1000, true, 16, 128, 1, 0,
    [fs 0 1 .rw 0 .q, fs 1 1 .rw 0 .q, fs 2 6 .rw 0 .q, fs 8 12 .rw 0 .q, fs 20 12 .rw 0 .q, fs 32 28 .rw 0 .q]⟩
  | .PAIR_MP_BM => ⟨.pair, 0x1008, true, 16, 128, 1, 0,
    [fs 21 35 .rw 0 .q]⟩
  | .PAIR_MP_CORE => ⟨.pair, 0x1010, true, 16, 128, 4, 8,
    [fs 0 64 .rw 0 .q]⟩
  | .PAIR_MP_DMA => ⟨.pair, 0x1030, true, 16, 128, 4, 8,
    [fs 0 64 .rw 0 .q]⟩
  | .PAIR_MP_STAT => ⟨.pair, 0x1050, true, 16, 128, 1, 0,
    [fs 0 3 .ro 0 .l, fs 3 4 .ro 0 .l, fs 8 48 .ro 0 .l]⟩
  | .PAIR_MP_CNT => ⟨.pair, 0x1058, true, 16, 128, 1, 0,
    [fs 0 32 .rw 0 .l, fs 32 16 .rw 0 .l, fs 48 16 .rw 0 .l]⟩
  | .WLD_VIOL => ⟨.wld, 0x0, true, 1, 0, 1, 0,
    [fs 0 12 .srw 0 .l, fs 12 4 .srw 0 .l, fs 16 16 .srw 0 .l, fs 63 1 .srw 0 .l]⟩
  | .WLD_VADDR => ⟨.wld, 0x8, true, 1, 0, 1, 0,
    [fs 0 64 .srw 0 .l]⟩
  | .WLD_DBGEN => ⟨.wld, 0x10, false, 1, 0, 1, 0,
    [fs 0 2 .srw 2 .l, fs 2 2 .srw 0 .l, fs 4 1 .rwo 0 .l]⟩
  | .WLD_HCMD => ⟨.wld, 0x20, true, 1, 0, 1, 0,
    [fs 0 2 .wo 0 .l, fs 2 2 .wo 0 .l, fs 4 1 .wo 0 .l, fs 16 12 .wo 0 .l]⟩
  | .WLD_HSTAT => ⟨.wld, 0x28, true, 1, 0, 1, 0,
    [fs 0 3 .ro 0 .l, fs 3 3 .ro 0 .l]⟩
  | .IRT_STATUS => ⟨.irt, 0x0, true, 1, 0, 1, 0,
    [fs 0 16 .rw 0 .l, fs 16 16 .rw 0 .l]⟩
  | .IRT_GRP => ⟨.irt, 0x100, true, 8, 32, 4, 8,
    [fs 0 64 .rw 0 .l]⟩
  | .IRT_SRC => ⟨.irt, 0x10000, true, 4096, 8, 1, 0,
    [fs 0 1 .rw 0 .l, fs 1 1 .ro 0 .l, fs 2 2 .rw 1 .l, fs 4 4 .rw 8 .l, fs 8 1 .rw 0 .l, fs 16 8 .rw 0 .l,
     fs 24 1 .ro 0 .l, fs 32 1 .ro 0 .l, fs 33 1 .ro 0 .l, fs 34 1 .wo 0 .l, fs 35 1 .wo 0 .l]⟩
  | .PWR_CTL => ⟨.pwr, 0x0, false, 1, 0, 1, 0,
    [fs 0 5 .rw 0 .l]⟩
  | .PWR_STATUS => ⟨.pwr, 0x8, false, 1, 0, 1, 0,
    [fs 0 1 .ro 0 .l, fs 2 1 .w1c 0 .l, fs 3 1 .w1c 0 .l, fs 4 1 .w1c 0 .l, fs 5 1 .w1c 0 .l, fs 6 1 .w1c 0 .l,
     fs 7 1 .w1c 0 .l, fs 8 3 .ro 0 .l]⟩
  | .PWR_LIMIT => ⟨.pwr, 0x10, false, 1, 0, 1, 0,
    [fs 0 10 .rw 0x3e8 .t, fs 10 1 .rw 1 .l]⟩
  | .PWR_POWER => ⟨.pwr, 0x18, false, 1, 0, 1, 0,
    [fs 0 16 .ro 0 .l, fs 16 16 .ro 0 .l]⟩
  | .PWR_PKGCMD => ⟨.pwr, 0x20, false, 1, 0, 1, 0,
    [fs 0 3 .wo 0 .l, fs 4 2 .ro 0 .l]⟩
  | .PWR_WAKEEN => ⟨.pwr, 0x28, false, 1, 0, 1, 0,
    [fs 0 4 .rw 0 .l, fs 8 4 .rw 0 .l]⟩
  | .PWR_WAKETIME => ⟨.pwr, 0x30, true, 1, 0, 1, 0,
    [fs 0 64 .rw 0 .l]⟩
  | .PWR_WAKESRC => ⟨.pwr, 0x38, false, 1, 0, 1, 0,
    [fs 0 4 .w1c 0 .l]⟩
  | .PWR_DOM => ⟨.pwr, 0x4000, true, 263, 8, 1, 0,
    [fs 0 3 .rw 0 .t, fs 4 3 .ro 0 .l, fs 7 1 .ro 0 .l, fs 8 1 .ro 0 .l, fs 9 1 .ro 0 .l, fs 16 6 .rw 0x1e .t,
     fs 22 6 .ro 0x18 .l]⟩
  | .PWR_VOTE => ⟨.pwr, 0x8000, true, 1024, 8, 1, 0,
    [fs 0 1 .rw 0 .l, fs 1 3 .rw 0 .l, fs 4 9 .rw 0 .l, fs 13 1 .ro 0 .l]⟩
  | .PWR_GATE => ⟨.pwr, 0xA000, true, 261, 8, 1, 0,
    [fs 0 1 .rw 0 .l, fs 1 1 .ro 0 .l]⟩
  | .BOOT_STATUS => ⟨.boot, 0x0, true, 1, 0, 1, 0,
    [fs 0 4 .ro 0 .l, fs 4 1 .ro 0 .l, fs 5 1 .ro 0 .l, fs 6 1 .ro 0 .l, fs 7 1 .ro 0 .l, fs 8 8 .ro 0 .l,
     fs 16 16 .ro 0 .l, fs 32 6 .ro 0 .l, fs 38 2 .ro 0 .l, fs 40 4 .ro 0 .l, fs 44 1 .ro 0 .l,
     fs 45 8 .ro 0 .l]⟩
  | .BOOT_CTL => ⟨.boot, 0x8, false, 1, 0, 1, 0,
    [fs 0 1 .srw 0 .l, fs 1 1 .srw 0 .l, fs 4 4 .srw 0 .l]⟩
  | .BOOT_SPICMD => ⟨.boot, 0x20, true, 1, 0, 1, 0,
    [fs 0 8 .srw 0 .l, fs 8 32 .srw 0 .l, fs 40 9 .srw 0 .l, fs 49 1 .srw 0 .l, fs 50 1 .srw 0 .l,
     fs 51 1 .ro 0 .l, fs 52 1 .ro 0 .l]⟩
  | .BOOT_SPIBUF => ⟨.boot, 0x100, true, 32, 8, 1, 0,
    [fs 0 64 .srw 0 .l]⟩
  | .IDN_SERIAL => ⟨.idn, 0x0, true, 1, 0, 1, 0,
    [fs 0 64 .ro 0 .l]⟩
  | .IDN_IDHASH => ⟨.idn, 0x10, true, 2, 8, 1, 0,
    [fs 0 64 .ro 0 .l]⟩
  | .IDN_KEYFUSE => ⟨.idn, 0x20, false, 1, 0, 1, 0,
    [fs 0 4 .ro 0 .l, fs 4 4 .ro 0 .l, fs 8 6 .ro 0 .l]⟩
  | .IDN_EXTEND => ⟨.idn, 0x30, false, 1, 0, 1, 0,
    [fs 0 4 .srw 0 .l, fs 8 1 .srw 0 .l]⟩
  | .IDN_EXTDATA => ⟨.idn, 0x40, true, 6, 8, 1, 0,
    [fs 0 64 .srw 0 .l]⟩
  | .IDN_PUBKEY => ⟨.idn, 0x200, true, 12, 8, 1, 0,
    [fs 0 64 .ro 0 .l]⟩
  | .IDN_MEAS => ⟨.idn, 0x400, true, 32, 64, 6, 8,
    [fs 0 64 .ro 0 .l]⟩
  | .ERB_PEND => ⟨.erb, 0x0, true, 1, 0, 1, 0,
    [fs 0 62 .ro 0 .l]⟩
  | .ERB_DIEPEND => ⟨.erb, 0x8, false, 1, 0, 1, 0,
    [fs 0 12 .ro 0 .l, fs 16 12 .ro 0 .l]⟩
  | .ERB_NEXT => ⟨.erb, 0x10, false, 1, 0, 1, 0,
    [fs 0 12 .ro 0 .l, fs 12 2 .ro 0 .l, fs 15 1 .ro 1 .l]⟩
  | .ERB_DSTOP => ⟨.erb, 0x20, true, 1, 0, 1, 0,
    [fs 0 1 .ro 0 .l, fs 1 1 .srw 0 .l, fs 2 4 .ro 0 .l, fs 6 12 .ro 0 .l, fs 18 8 .ro 0 .l]⟩
  | .ERB_DSTIME => ⟨.erb, 0x28, true, 1, 0, 1, 0,
    [fs 0 64 .ro 0 .l]⟩
  | .ERB_LOG => ⟨.erb, 0x30, true, 1, 0, 1, 0,
    [fs 0 32 .ro 0 .l, fs 32 16 .ro 0 .l]⟩
  | .ERB_REC => ⟨.erbx, 0x1000, true, 62, 64, 1, 0,
    [fs 0 1 .w1c 0 .l, fs 1 2 .ro 0 .l, fs 3 1 .ro 0 .l, fs 4 1 .ro 0 .l, fs 5 1 .ro 0 .l, fs 6 6 .ro 0 .l,
     fs 12 12 .ro 0 .l, fs 24 16 .ro 0 .l, fs 40 1 .ro 0 .l]⟩
  | .ERB_ADDR => ⟨.erbx, 0x1008, true, 62, 64, 1, 0,
    [fs 0 56 .ro 0 .l]⟩
  | .ERB_MISC => ⟨.erbx, 0x1010, true, 62, 64, 1, 0,
    [fs 0 64 .ro 0 .l]⟩
  | .ERB_TIME => ⟨.erbx, 0x1018, true, 62, 64, 1, 0,
    [fs 0 64 .ro 0 .l]⟩
  | .ERB_CTL => ⟨.erbx, 0x1020, true, 62, 64, 1, 0,
    [fs 0 1 .rw 0 .l, fs 1 1 .rw 1 .l, fs 2 1 .rw 0 .l, fs 16 16 .rw 0 .l, fs 32 1 .w1c 0 .l]⟩
  | .ERB_DPEND => ⟨.derb, 0x0, false, 1, 0, 1, 0,
    [fs 0 22 .ro 0 .l]⟩
  | .REC_CTL => ⟨.recov, 0x8, false, 1, 0, 1, 0,
    [fs 0 1 .wo 0 .l, fs 1 1 .wo 0 .l, fs 2 1 .wo 0 .l]⟩
  | .REC_WINOFF => ⟨.recov, 0x10, false, 1, 0, 1, 0,
    [fs 20 3 .rw 0 .l]⟩
  | .REC_RESULT => ⟨.recov, 0x18, false, 1, 0, 1, 0,
    [fs 0 8 .ro 0 .l, fs 8 1 .ro 0 .l]⟩

/-- Register kinds, part 1. -/
def RegKind.all1 : List RegKind :=
  [.D2D_SITE, .BOOT_STRAP, .IDN_DIE_REV, .MGT_SWSTAT, .MGT_GRPMASK, .MGT_MRAM_OWN, .MGT_MRAM_WCNT, .TCK_CTL,
   .TCK_STATUS, .TCK_PERIOD, .TCK_TIME_NS, .TCK_TIME_FRAC, .TCK_FRAME, .TCK_NEXT, .TCK_RATE, .TCK_STEP,
   .TCK_MATCH, .TCK_OVR, .TCK_XOVR, .TCK_IO, .TCK_IN_STAMP, .TCK_IN_FRAC, .C_RSTAT, .C_START, .C_RUN,
   .C_DBGINST, .C_CYCLE_ALIAS, .C_INSTRET_ALIAS, .C_PMC_ALIAS, .PRL_CTL, .PRL_STATUS, .PRL_GRANT, .PRL_PQUOTA,
   .PRL_GREST, .PRL_LASTREF, .PRL_SLOT_CTL, .PRL_SLOT_STAT, .PRL_SLOT_LEASE, .PRL_SLOT_CNT, .PRL_SLOT_CMD]

/-- Register kinds, part 2. -/
def RegKind.all2 : List RegKind :=
  [.PRL_SLOT_RES, .PRL_SLOT_RESX, .PRL_SLOT_DADDR, .PRL_SLOT_SPAN, .CDA_CTL, .CDA_STATUS, .NOC_DSTATUS,
   .NOC_DIRR, .NOC_DRT, .NOC_TOUT, .NOC_RT_CTL, .NOC_RT_STATUS, .NOC_ECTL, .NOC_ESTATUS, .NOC_IRR, .NOC_RT,
   .NOC_ESLOT, .NOC_AGENT, .D2D_PEER, .D2D_PCTL, .D2D_PSTAT, .D2D_BLK, .D2D_ERRCNT, .COH_CTL, .COH_STATUS,
   .COH_CNT, .COH_DCNT, .COH_DIRQ, .COH_DIRR, .MEM_CFG, .MEM_STATUS, .MEM_SCRUB, .MEM_SLIMIT, .MEM_SPTR,
   .MEM_ECCCNT, .MEM_ELAST, .MEM_INJ, .MSC_CTL, .MSC_CNT, .MSC_ECNT]

/-- Register kinds, part 3. -/
def RegKind.all3 : List RegKind :=
  [.DMA_CTL, .DMA_CFG, .DMA_IOCTX, .DMA_NEXT, .DMA_STATUS, .DMA_ERR, .DMA_EADDR, .DMA_PROG, .DMA_CNT, .HBU_CTL,
   .HBU_STATUS, .HBU_CTXBASE, .HBU_MSIADDR, .HBU_UPOFF, .HBU_ATSADDR, .HBU_ATSCMD, .HBU_ATSSTAT, .HBU_ERR,
   .HBU_EADDR, .HBU_CNT, .VSF_ARG0, .VSF_ARG1, .VSF_CMD, .VSF_CMDSTAT, .VSF_SPLOG, .VSF_SPADDR, .VSF_RSTAT,
   .VSF_RAMT, .VSF_RARG1, .VSF_RTBL, .VSF_RCORE, .VSF_RDMA, .VSF_RFCTX, .VSF_SPOOF, .VSF_CTL, .VSF_ENTRY,
   .VSF_TBLBASE, .VSF_PVEC, .VSF_PSTAT, .VSF_PCORE]

/-- Register kinds, part 4. -/
def RegKind.all4 : List RegKind :=
  [.VSF_PGRAN, .VSF_PDMA, .VSF_PFCTX, .VSF_VSTAT, .VSF_VAMT, .VSF_VRUN, .VSF_PGRANT, .VSF_PGREST, .VSF_HDB,
   .VSF_HDBPEND, .VSF_SDB, .FAB_PCFG, .FAB_PSTAT, .FAB_PADDR_LO, .FAB_PADDR_HI, .FAB_LMAC, .FAB_NHMAC,
   .FAB_PCNT, .FAB_PCNTX, .FAB_CTL, .FAB_STATUS, .FAB_ESTATUS, .FAB_RSBASE, .FAB_ERR, .FAB_EADDR, .FAB_PEER_CTL,
   .FAB_PEER_STAT, .FAB_PEER_ADDR_LO, .FAB_PEER_ADDR_HI, .FAB_PEER_IDHASH_LO, .FAB_PEER_IDHASH_HI,
   .FAB_PEER_IWIN, .FAB_PEER_CNT, .FAB_ESLOT, .FAB_CCTL, .FAB_CPKG0, .FAB_CPKG1, .FAB_CCMD, .FAB_CSTAT,
   .FAB_ATLAS_CTL]

/-- Register kinds, part 5. -/
def RegKind.all5 : List RegKind :=
  [.FAB_ATLAS_STAT, .PAIR_CTL, .PAIR_STATUS, .PAIR_LINK, .PAIR_PEERHASH_LO, .PAIR_PEERHASH_HI, .PAIR_ULOG,
   .PAIR_ULOGSZ, .PAIR_OHB, .PAIR_CMD, .PAIR_MP_CTL, .PAIR_MP_BM, .PAIR_MP_CORE, .PAIR_MP_DMA, .PAIR_MP_STAT,
   .PAIR_MP_CNT, .WLD_VIOL, .WLD_VADDR, .WLD_DBGEN, .WLD_HCMD, .WLD_HSTAT, .IRT_STATUS, .IRT_GRP, .IRT_SRC,
   .PWR_CTL, .PWR_STATUS, .PWR_LIMIT, .PWR_POWER, .PWR_PKGCMD, .PWR_WAKEEN, .PWR_WAKETIME, .PWR_WAKESRC,
   .PWR_DOM, .PWR_VOTE, .PWR_GATE, .BOOT_STATUS, .BOOT_CTL, .BOOT_SPICMD, .BOOT_SPIBUF, .IDN_SERIAL]

/-- Register kinds, part 6. -/
def RegKind.all6 : List RegKind :=
  [.IDN_IDHASH, .IDN_KEYFUSE, .IDN_EXTEND, .IDN_EXTDATA, .IDN_PUBKEY, .IDN_MEAS, .ERB_PEND, .ERB_DIEPEND,
   .ERB_NEXT, .ERB_DSTOP, .ERB_DSTIME, .ERB_LOG, .ERB_REC, .ERB_ADDR, .ERB_MISC, .ERB_TIME, .ERB_CTL,
   .ERB_DPEND, .REC_CTL, .REC_WINOFF, .REC_RESULT]

/-- Every register kind, in the order of the constructors. -/
def RegKind.all : List RegKind :=
  RegKind.all1 ++ RegKind.all2 ++ RegKind.all3 ++ RegKind.all4 ++ RegKind.all5 ++ RegKind.all6

/-- Offset of register `k` of block instance `x` with indices `i` and `j` in the register space. -/
def RegKind.addr (k : RegKind) (x : Nat := 0) (i : Nat := 0) (j : Nat := 0) : Nat :=
  k.spec.blk.base x + k.spec.off + i * k.spec.s1 + j * k.spec.s2

/-- The reset value of a list of fields. -/
def resetOf (fl : List FSpec) : Word :=
  fl.foldl (fun w e => setF w e.f e.rst) 0

/-- The reset value of a register. -/
def RegKind.resetWord (k : RegKind) : Word := resetOf k.spec.fields

/-- Sources of the interrupt router that are assigned (17 R455). -/
def srcAssigned (n : Nat) : Bool :=
  n < 0xD8 || (0xE0 ≤ n && n ≤ 0xE2) || (0xF0 ≤ n && n ≤ 0xF8) || (0x100 ≤ n && n ≤ 0x1CF) ||
  (0x200 ≤ n && n ≤ 0x2CF) || (0x300 ≤ n && n ≤ 0x340) || (0x350 ≤ n && n ≤ 0x377) || n == 0x380 || n == 0x381 ||
  (0x390 ≤ n && n ≤ 0x392) || (0x398 ≤ n && n ≤ 0x39A) || (0x3A0 ≤ n && n ≤ 0x3A4) || (0x400 ≤ n && n ≤ 0x4EF) ||
  (0x500 ≤ n && n ≤ 0x6FF) || (0x800 ≤ n && n ≤ 0xFFF)

/-- Edge sources (17 R455); every other assigned source is a level source. -/
def srcEdge (n : Nat) : Bool :=
  (0xE0 ≤ n && n ≤ 0xE2) || n == 0xF8 || (0x600 ≤ n && n ≤ 0x6FF) || (0x800 ≤ n && n ≤ 0xFFF)

/-- The reset value of a register whose reset depends on its index: power domains (18 R466), interrupt sources (17
R455), the hub's own revision (01 R22). -/
def RegKind.resetAt (k : RegKind) (i : Nat) : Word :=
  match k with
  | .PWR_DOM => if i < 216 then 0x061E0001 else 0
  | .IRT_SRC => if srcAssigned i then k.resetWord ||| (if srcEdge i then 0x1000000 else 0) else 0
  | .IDN_DIE_REV => if i = 0 then 0x1F01010211 else 0
  | k => k.resetWord

/-! The fields by the names of the manual. -/

def D2D_SITE.RAW : Fld := ⟨0, 16⟩
def D2D_SITE.SITE : Fld := ⟨16, 4⟩
def D2D_SITE.ROT : Fld := ⟨20, 2⟩
def D2D_SITE.CODE_OK : Fld := ⟨22, 1⟩
def BOOT_STRAP.PKG_NUM : Fld := ⟨0, 9⟩
def BOOT_STRAP.PAIR_SIDE : Fld := ⟨9, 1⟩
def BOOT_STRAP.BOOT_SRC : Fld := ⟨10, 2⟩
def BOOT_STRAP.VARIANT : Fld := ⟨12, 4⟩
def BOOT_STRAP.PRIMARY : Fld := ⟨16, 1⟩
def IDN_DIE_REV.METAL : Fld := ⟨0, 4⟩
def IDN_DIE_REV.BASE : Fld := ⟨4, 4⟩
def IDN_DIE_REV.D2D_MAJOR : Fld := ⟨8, 8⟩
def IDN_DIE_REV.D2D_MINOR : Fld := ⟨16, 8⟩
def IDN_DIE_REV.PRESENT : Fld := ⟨24, 1⟩
def IDN_DIE_REV.REFUSED : Fld := ⟨25, 1⟩
def IDN_DIE_REV.FEAT : Fld := ⟨32, 32⟩
def MGT_SWSTAT.MISS : Fld := ⟨0, 24⟩
def MGT_SWSTAT.FAMILY : Fld := ⟨24, 4⟩
def MGT_SWSTAT.VALID : Fld := ⟨28, 1⟩
def MGT_GRPMASK.MASK : Fld := ⟨0, 24⟩
def MGT_MRAM_OWN.SEC : Fld := ⟨0, 15⟩
def MGT_MRAM_OWN.LOCK : Fld := ⟨16, 15⟩
def MGT_MRAM_WCNT.COUNT : Fld := ⟨0, 48⟩
def TCK_CTL.RUN : Fld := ⟨0, 1⟩
def TCK_CTL.TSRC : Fld := ⟨1, 2⟩
def TCK_CTL.ARM : Fld := ⟨3, 1⟩
def TCK_CTL.TIRQ : Fld := ⟨4, 1⟩
def TCK_CTL.OIRQ : Fld := ⟨5, 1⟩
def TCK_STATUS.TPEND : Fld := ⟨0, 1⟩
def TCK_STATUS.WERR : Fld := ⟨1, 1⟩
def TCK_STATUS.PERR : Fld := ⟨2, 1⟩
def TCK_STATUS.PREJ : Fld := ⟨3, 1⟩
def TCK_STATUS.SRCERR : Fld := ⟨4, 1⟩
def TCK_STATUS.MATCHED : Fld := ⟨5, 1⟩
def TCK_STATUS.INEV : Fld := ⟨6, 1⟩
def TCK_STATUS.INOVR : Fld := ⟨7, 1⟩
def TCK_STATUS.LOCK : Fld := ⟨8, 1⟩
def TCK_STATUS.RUNNING : Fld := ⟨9, 1⟩
def TCK_PERIOD.NS : Fld := ⟨0, 22⟩
def TCK_TIME_NS.NS : Fld := ⟨0, 64⟩
def TCK_TIME_FRAC.FRAC : Fld := ⟨0, 32⟩
def TCK_FRAME.FRAME : Fld := ⟨0, 48⟩
def TCK_NEXT.NS : Fld := ⟨0, 64⟩
def TCK_RATE.RATE : Fld := ⟨0, 32⟩
def TCK_STEP.STEP : Fld := ⟨0, 32⟩
def TCK_MATCH.FRAME : Fld := ⟨0, 48⟩
def TCK_OVR.OVR : Fld := ⟨0, 7⟩
def TCK_XOVR.CORE : Fld := ⟨0, 1⟩
def TCK_XOVR.HCLK : Fld := ⟨1, 1⟩
def TCK_XOVR.MCCLK : Fld := ⟨2, 1⟩
def TCK_XOVR.LCLK : Fld := ⟨3, 1⟩
def TCK_XOVR.MCLK : Fld := ⟨4, 1⟩
def TCK_XOVR.AOCLK : Fld := ⟨5, 1⟩
def TCK_IO.OMODE : Fld := ⟨0, 2⟩
def TCK_IO.ODIV : Fld := ⟨2, 4⟩
def TCK_IO.OWIDTH : Fld := ⟨6, 16⟩
def TCK_IO.IEN : Fld := ⟨22, 1⟩
def TCK_IO.IPOL : Fld := ⟨23, 1⟩
def TCK_IN_STAMP.NS : Fld := ⟨0, 64⟩
def TCK_IN_FRAC.FRAC : Fld := ⟨0, 32⟩
def C_RSTAT.STATE : Fld := ⟨0, 3⟩
def C_RSTAT.WERR : Fld := ⟨3, 1⟩
def C_RSTAT.GEN : Fld := ⟨4, 4⟩
def C_RSTAT.LVL : Fld := ⟨8, 2⟩
def C_RSTAT.SEC : Fld := ⟨10, 1⟩
def C_START.ADDR : Fld := ⟨2, 54⟩
def C_RUN.RELEASE : Fld := ⟨0, 1⟩
def C_RUN.HALTREQ : Fld := ⟨1, 1⟩
def C_RUN.RESUME : Fld := ⟨2, 1⟩
def C_RUN.CRESET : Fld := ⟨3, 1⟩
def C_DBGINST.INSN : Fld := ⟨0, 32⟩
def C_CYCLE_ALIAS.COUNT : Fld := ⟨0, 64⟩
def C_INSTRET_ALIAS.COUNT : Fld := ⟨0, 64⟩
def C_PMC_ALIAS.COUNT : Fld := ⟨0, 64⟩
def PRL_CTL.EN : Fld := ⟨0, 1⟩
def PRL_CTL.OIRQ : Fld := ⟨1, 1⟩
def PRL_CTL.FABQ : Fld := ⟨8, 6⟩
def PRL_STATUS.TPEND : Fld := ⟨0, 1⟩
def PRL_STATUS.WERR : Fld := ⟨1, 1⟩
def PRL_STATUS.LOVR : Fld := ⟨2, 1⟩
def PRL_STATUS.GERR : Fld := ⟨3, 1⟩
def PRL_STATUS.WAITN : Fld := ⟨8, 5⟩
def PRL_STATUS.FREE : Fld := ⟨32, 32⟩
def PRL_GRANT.TAG : Fld := ⟨0, 4⟩
def PRL_GRANT.OKIND : Fld := ⟨4, 2⟩
def PRL_GRANT.WAIT : Fld := ⟨6, 1⟩
def PRL_GRANT.OID : Fld := ⟨8, 8⟩
def PRL_GRANT.LEASE : Fld := ⟨16, 16⟩
def PRL_GRANT.EXPECT : Fld := ⟨32, 16⟩
def PRL_PQUOTA.Q0 : Fld := ⟨0, 6⟩
def PRL_PQUOTA.Q1 : Fld := ⟨8, 6⟩
def PRL_PQUOTA.Q2 : Fld := ⟨16, 6⟩
def PRL_PQUOTA.Q3 : Fld := ⟨24, 6⟩
def PRL_PQUOTA.Q4 : Fld := ⟨32, 6⟩
def PRL_PQUOTA.Q5 : Fld := ⟨40, 6⟩
def PRL_PQUOTA.Q6 : Fld := ⟨48, 6⟩
def PRL_PQUOTA.Q7 : Fld := ⟨56, 6⟩
def PRL_GREST.STATUS : Fld := ⟨0, 3⟩
def PRL_GREST.SLOT : Fld := ⟨8, 5⟩
def PRL_GREST.EPOCH : Fld := ⟨16, 8⟩
def PRL_GREST.CANCEL : Fld := ⟨24, 1⟩
def PRL_GREST.ACK : Fld := ⟨25, 1⟩
def PRL_LASTREF.HEADER : Fld := ⟨0, 38⟩
def PRL_LASTREF.CODE : Fld := ⟨40, 3⟩
def PRL_LASTREF.VALID : Fld := ⟨48, 1⟩
def PRL_SLOT_CTL.CIE : Fld := ⟨0, 1⟩
def PRL_SLOT_CTL.LIE : Fld := ⟨1, 1⟩
def PRL_SLOT_CTL.ADUMP : Fld := ⟨2, 1⟩
def PRL_SLOT_STAT.STATE : Fld := ⟨0, 2⟩
def PRL_SLOT_STAT.OKIND : Fld := ⟨2, 2⟩
def PRL_SLOT_STAT.OID : Fld := ⟨8, 8⟩
def PRL_SLOT_STAT.SEC : Fld := ⟨16, 1⟩
def PRL_SLOT_STAT.EPOCH : Fld := ⟨24, 8⟩
def PRL_SLOT_STAT.FLAGS : Fld := ⟨32, 4⟩
def PRL_SLOT_STAT.CEV : Fld := ⟨40, 1⟩
def PRL_SLOT_STAT.LEV : Fld := ⟨41, 1⟩
def PRL_SLOT_STAT.DEV : Fld := ⟨42, 1⟩
def PRL_SLOT_STAT.DERR : Fld := ⟨43, 1⟩
def PRL_SLOT_STAT.CERR : Fld := ⟨44, 1⟩
def PRL_SLOT_LEASE.EXPF : Fld := ⟨0, 48⟩
def PRL_SLOT_CNT.EXPECT : Fld := ⟨0, 16⟩
def PRL_SLOT_CNT.COUNT : Fld := ⟨16, 16⟩
def PRL_SLOT_CNT.REFUSED : Fld := ⟨32, 16⟩
def PRL_SLOT_CMD.OP : Fld := ⟨0, 3⟩
def PRL_SLOT_CMD.RM : Fld := ⟨3, 3⟩
def PRL_SLOT_CMD.TGT : Fld := ⟨6, 2⟩
def PRL_SLOT_CMD.ARG : Fld := ⟨16, 16⟩
def PRL_SLOT_RES.RES : Fld := ⟨0, 64⟩
def PRL_SLOT_RESX.TOP : Fld := ⟨0, 8⟩
def PRL_SLOT_RESX.FLAGS : Fld := ⟨8, 5⟩
def PRL_SLOT_RESX.RVALID : Fld := ⟨16, 1⟩
def PRL_SLOT_DADDR.ADDR : Fld := ⟨7, 49⟩
def PRL_SLOT_SPAN.LO : Fld := ⟨0, 6⟩
def PRL_SLOT_SPAN.HI : Fld := ⟨8, 6⟩
def PRL_SLOT_SPAN.NEG : Fld := ⟨16, 1⟩
def PRL_SLOT_SPAN.ZERO : Fld := ⟨17, 1⟩
def PRL_SLOT_SPAN.FLAGS : Fld := ⟨20, 4⟩
def CDA_CTL.DCEN : Fld := ⟨0, 1⟩
def CDA_CTL.FLUSH : Fld := ⟨1, 1⟩
def CDA_STATUS.FLUSHBUSY : Fld := ⟨0, 1⟩
def CDA_STATUS.DIRTY_ABANDONED : Fld := ⟨1, 1⟩
def NOC_DSTATUS.TPEND : Fld := ⟨0, 1⟩
def NOC_DIRR.EN : Fld := ⟨0, 1⟩
def NOC_DIRR.RATE : Fld := ⟨8, 8⟩
def NOC_DIRR.BURST : Fld := ⟨16, 16⟩
def NOC_DRT.E0 : Fld := ⟨0, 2⟩
def NOC_DRT.E1 : Fld := ⟨8, 2⟩
def NOC_DRT.E2 : Fld := ⟨16, 2⟩
def NOC_DRT.E3 : Fld := ⟨24, 2⟩
def NOC_DRT.E4 : Fld := ⟨32, 2⟩
def NOC_DRT.E5 : Fld := ⟨40, 2⟩
def NOC_DRT.E6 : Fld := ⟨48, 2⟩
def NOC_DRT.E7 : Fld := ⟨56, 2⟩
def NOC_TOUT.ONPKG : Fld := ⟨0, 8⟩
def NOC_TOUT.HB : Fld := ⟨8, 10⟩
def NOC_TOUT.FAB : Fld := ⟨18, 10⟩
def NOC_RT_CTL.ARM : Fld := ⟨0, 1⟩
def NOC_RT_STATUS.ACTIVE : Fld := ⟨0, 1⟩
def NOC_RT_STATUS.DRAINED : Fld := ⟨1, 1⟩
def NOC_RT_STATUS.ARMERR : Fld := ⟨2, 1⟩
def NOC_RT_STATUS.WERR : Fld := ⟨3, 1⟩
def NOC_RT_STATUS.SWITCHED : Fld := ⟨4, 1⟩
def NOC_RT_STATUS.OLDCNT : Fld := ⟨16, 32⟩
def NOC_ECTL.EN : Fld := ⟨0, 1⟩
def NOC_ECTL.ESHARE : Fld := ⟨8, 8⟩
def NOC_ESTATUS.TPEND : Fld := ⟨0, 1⟩
def NOC_ESTATUS.WERR : Fld := ⟨1, 1⟩
def NOC_ESTATUS.OVR : Fld := ⟨2, 1⟩
def NOC_ESTATUS.PREJ : Fld := ⟨3, 1⟩
def NOC_ESTATUS.SPILLCNT : Fld := ⟨16, 16⟩
def NOC_IRR.EN : Fld := ⟨0, 1⟩
def NOC_IRR.RATE : Fld := ⟨8, 8⟩
def NOC_IRR.BURST : Fld := ⟨16, 16⟩
def NOC_RT.E0 : Fld := ⟨0, 2⟩
def NOC_RT.E1 : Fld := ⟨8, 2⟩
def NOC_RT.E2 : Fld := ⟨16, 2⟩
def NOC_RT.E3 : Fld := ⟨24, 2⟩
def NOC_RT.E4 : Fld := ⟨32, 2⟩
def NOC_RT.E5 : Fld := ⟨40, 2⟩
def NOC_RT.E6 : Fld := ⟨48, 2⟩
def NOC_RT.E7 : Fld := ⟨56, 2⟩
def NOC_ESLOT.V : Fld := ⟨0, 1⟩
def NOC_ESLOT.OWNER : Fld := ⟨1, 12⟩
def NOC_ESLOT.START : Fld := ⟨16, 24⟩
def NOC_ESLOT.BYTES : Fld := ⟨40, 16⟩
def NOC_AGENT.GEN : Fld := ⟨0, 4⟩
def NOC_AGENT.FENCE : Fld := ⟨4, 2⟩
def NOC_AGENT.STALECNT : Fld := ⟨16, 16⟩
def NOC_AGENT.TOUTCNT : Fld := ⟨32, 16⟩
def NOC_AGENT.LATECNT : Fld := ⟨48, 16⟩
def D2D_PEER.MAJOR : Fld := ⟨0, 8⟩
def D2D_PEER.MINOR : Fld := ⟨8, 8⟩
def D2D_PEER.LIVE : Fld := ⟨16, 4⟩
def D2D_PEER.DEADDIE : Fld := ⟨20, 1⟩
def D2D_PEER.FEAT : Fld := ⟨32, 16⟩
def D2D_PEER.DISABLED : Fld := ⟨48, 16⟩
def D2D_PCTL.EN : Fld := ⟨0, 1⟩
def D2D_PCTL.RETRAIN : Fld := ⟨1, 1⟩
def D2D_PCTL.PHYRST : Fld := ⟨2, 1⟩
def D2D_PCTL.LB : Fld := ⟨3, 2⟩
def D2D_PCTL.PAT : Fld := ⟨5, 1⟩
def D2D_PSTAT.STATE : Fld := ⟨0, 3⟩
def D2D_PSTAT.WIDTH : Fld := ⟨3, 5⟩
def D2D_PSTAT.FAILS : Fld := ⟨8, 2⟩
def D2D_PSTAT.HDIR : Fld := ⟨10, 2⟩
def D2D_PSTAT.DPORT : Fld := ⟨12, 2⟩
def D2D_PSTAT.HPORT : Fld := ⟨14, 6⟩
def D2D_PSTAT.WERR : Fld := ⟨20, 1⟩
def D2D_PSTAT.MISMATCH : Fld := ⟨21, 1⟩
def D2D_PSTAT.RETRAINS : Fld := ⟨24, 8⟩
def D2D_BLK.BLOCKS : Fld := ⟨0, 32⟩
def D2D_BLK.USED : Fld := ⟨32, 16⟩
def D2D_ERRCNT.CRCERR : Fld := ⟨0, 16⟩
def D2D_ERRCNT.NAKS : Fld := ⟨16, 16⟩
def D2D_ERRCNT.REPLAYS : Fld := ⟨32, 16⟩
def D2D_ERRCNT.PRBSERR : Fld := ⟨48, 16⟩
def COH_CTL.AOVR : Fld := ⟨0, 2⟩
def COH_STATUS.TPEND : Fld := ⟨0, 1⟩
def COH_STATUS.PFAULT : Fld := ⟨2, 1⟩
def COH_STATUS.RSVN : Fld := ⟨16, 9⟩
def COH_STATUS.TRK : Fld := ⟨32, 10⟩
def COH_CNT.RETRY : Fld := ⟨0, 16⟩
def COH_CNT.GRANT : Fld := ⟨16, 16⟩
def COH_CNT.STALEWB : Fld := ⟨32, 16⟩
def COH_CNT.BINV : Fld := ⟨48, 16⟩
def COH_DCNT.OVFL : Fld := ⟨0, 32⟩
def COH_DCNT.VICTIM : Fld := ⟨32, 32⟩
def COH_DIRQ.LINE : Fld := ⟨7, 49⟩
def COH_DIRR.ENTRY : Fld := ⟨0, 45⟩
def COH_DIRR.HIT : Fld := ⟨48, 1⟩
def COH_DIRR.PINNED : Fld := ⟨49, 1⟩
def COH_DIRR.BUSY : Fld := ⟨50, 1⟩
def COH_DIRR.NOTHOME : Fld := ⟨51, 1⟩
def COH_DIRR.DONE : Fld := ⟨52, 1⟩
def MEM_CFG.RATE : Fld := ⟨0, 2⟩
def MEM_CFG.DTYPE : Fld := ⟨2, 1⟩
def MEM_CFG.CAP : Fld := ⟨8, 6⟩
def MEM_CFG.EN : Fld := ⟨16, 1⟩
def MEM_STATUS.TPEND : Fld := ⟨0, 1⟩
def MEM_STATUS.WERR : Fld := ⟨1, 1⟩
def MEM_STATUS.TRAINED : Fld := ⟨2, 1⟩
def MEM_STATUS.TFAIL : Fld := ⟨3, 1⟩
def MEM_STATUS.TSTEP : Fld := ⟨4, 4⟩
def MEM_STATUS.CAPCUT : Fld := ⟨8, 1⟩
def MEM_STATUS.MBN : Fld := ⟨16, 7⟩
def MEM_SCRUB.EN : Fld := ⟨0, 1⟩
def MEM_SCRUB.OVR : Fld := ⟨1, 1⟩
def MEM_SCRUB.PASS : Fld := ⟨2, 1⟩
def MEM_SCRUB.QUANTUM : Fld := ⟨16, 16⟩
def MEM_SLIMIT.SLIMIT : Fld := ⟨0, 32⟩
def MEM_SPTR.SPTR : Fld := ⟨0, 32⟩
def MEM_SPTR.PASSES : Fld := ⟨32, 32⟩
def MEM_ECCCNT.CE1 : Fld := ⟨0, 16⟩
def MEM_ECCCNT.CE2 : Fld := ⟨16, 16⟩
def MEM_ECCCNT.UE : Fld := ⟨32, 16⟩
def MEM_ECCCNT.POISON : Fld := ⟨48, 16⟩
def MEM_ELAST.LINE : Fld := ⟨0, 31⟩
def MEM_ELAST.WORD : Fld := ⟨31, 4⟩
def MEM_ELAST.CLASS : Fld := ⟨35, 3⟩
def MEM_ELAST.SYND : Fld := ⟨38, 15⟩
def MEM_ELAST.VALID : Fld := ⟨63, 1⟩
def MEM_INJ.B0 : Fld := ⟨0, 7⟩
def MEM_INJ.B1 : Fld := ⟨8, 7⟩
def MEM_INJ.B2 : Fld := ⟨16, 7⟩
def MEM_INJ.ARM : Fld := ⟨24, 1⟩
def MSC_CTL.EN : Fld := ⟨0, 1⟩
def MSC_CNT.HIT : Fld := ⟨0, 32⟩
def MSC_CNT.MISS : Fld := ⟨32, 32⟩
def MSC_ECNT.CORR : Fld := ⟨0, 16⟩
def MSC_ECNT.LINEINV : Fld := ⟨16, 16⟩
def MSC_ECNT.SETINV : Fld := ⟨32, 16⟩
def DMA_CTL.START : Fld := ⟨0, 1⟩
def DMA_CTL.STOP : Fld := ⟨1, 1⟩
def DMA_CTL.DOORBELL : Fld := ⟨2, 1⟩
def DMA_CTL.CLRHALT : Fld := ⟨3, 1⟩
def DMA_CTL.CRESET : Fld := ⟨4, 1⟩
def DMA_CTL.IE : Fld := ⟨8, 1⟩
def DMA_CTL.EIE : Fld := ⟨9, 1⟩
def DMA_CFG.RSHARE : Fld := ⟨0, 11⟩
def DMA_CFG.SEC : Fld := ⟨16, 1⟩
def DMA_CFG.XLAT : Fld := ⟨17, 1⟩
def DMA_CFG.SLICE : Fld := ⟨24, 8⟩
def DMA_IOCTX.ADDR : Fld := ⟨5, 51⟩
def DMA_NEXT.ADDR : Fld := ⟨5, 51⟩
def DMA_STATUS.TPEND : Fld := ⟨0, 1⟩
def DMA_STATUS.WERR : Fld := ⟨1, 1⟩
def DMA_STATUS.BUSY : Fld := ⟨2, 1⟩
def DMA_STATUS.EMPTY : Fld := ⟨3, 1⟩
def DMA_STATUS.HALTED : Fld := ⟨4, 1⟩
def DMA_STATUS.ROVR : Fld := ⟨5, 1⟩
def DMA_STATUS.DONEEV : Fld := ⟨6, 1⟩
def DMA_STATUS.ERREV : Fld := ⟨7, 1⟩
def DMA_STATUS.CERR : Fld := ⟨8, 1⟩
def DMA_STATUS.STATE : Fld := ⟨9, 3⟩
def DMA_ERR.KIND : Fld := ⟨0, 3⟩
def DMA_ERR.SIDE : Fld := ⟨3, 2⟩
def DMA_ERR.STATUS : Fld := ⟨5, 4⟩
def DMA_ERR.FCODE : Fld := ⟨16, 10⟩
def DMA_ERR.VALID : Fld := ⟨63, 1⟩
def DMA_EADDR.ADDR : Fld := ⟨0, 56⟩
def DMA_PROG.BYTES : Fld := ⟨0, 32⟩
def DMA_CNT.DONE : Fld := ⟨0, 32⟩
def DMA_CNT.BAD : Fld := ⟨32, 32⟩
def HBU_CTL.EN : Fld := ⟨0, 1⟩
def HBU_CTL.EP : Fld := ⟨1, 1⟩
def HBU_CTL.BIF : Fld := ⟨2, 3⟩
def HBU_CTL.OWN : Fld := ⟨5, 2⟩
def HBU_CTL.HPSLOT : Fld := ⟨8, 4⟩
def HBU_STATUS.WERR : Fld := ⟨1, 1⟩
def HBU_STATUS.LINK : Fld := ⟨2, 4⟩
def HBU_STATUS.ERREV : Fld := ⟨6, 1⟩
def HBU_CTXBASE.EN : Fld := ⟨0, 1⟩
def HBU_CTXBASE.ADDR : Fld := ⟨21, 35⟩
def HBU_MSIADDR.EN : Fld := ⟨0, 1⟩
def HBU_MSIADDR.ADDR : Fld := ⟨16, 48⟩
def HBU_UPOFF.OFF : Fld := ⟨0, 64⟩
def HBU_ATSADDR.S : Fld := ⟨11, 1⟩
def HBU_ATSADDR.ADDR : Fld := ⟨12, 52⟩
def HBU_ATSCMD.RID : Fld := ⟨0, 16⟩
def HBU_ATSCMD.PASID : Fld := ⟨16, 20⟩
def HBU_ATSCMD.PV : Fld := ⟨36, 1⟩
def HBU_ATSCMD.GO : Fld := ⟨37, 1⟩
def HBU_ATSSTAT.BUSY : Fld := ⟨0, 1⟩
def HBU_ATSSTAT.DONE : Fld := ⟨1, 1⟩
def HBU_ATSSTAT.TOUT : Fld := ⟨2, 1⟩
def HBU_ERR.KIND : Fld := ⟨0, 4⟩
def HBU_ERR.PORT : Fld := ⟨4, 2⟩
def HBU_ERR.FCODE : Fld := ⟨16, 10⟩
def HBU_ERR.VALID : Fld := ⟨63, 1⟩
def HBU_EADDR.ADDR : Fld := ⟨0, 64⟩
def HBU_CNT.PWDROP : Fld := ⟨0, 16⟩
def HBU_CNT.UCDROP : Fld := ⟨16, 16⟩
def HBU_CNT.URSENT : Fld := ⟨32, 16⟩
def HBU_CNT.LINKDN : Fld := ⟨48, 16⟩
def VSF_ARG0.CORES : Fld := ⟨0, 8⟩
def VSF_ARG0.GRAN : Fld := ⟨8, 12⟩
def VSF_ARG0.DMA : Fld := ⟨20, 5⟩
def VSF_ARG0.PRLQ : Fld := ⟨25, 6⟩
def VSF_ARG0.FCTX : Fld := ⟨32, 8⟩
def VSF_ARG0.VEC : Fld := ⟨40, 11⟩
def VSF_ARG1.PASID : Fld := ⟨0, 16⟩
def VSF_ARG1.PV : Fld := ⟨16, 1⟩
def VSF_CMD.OP : Fld := ⟨0, 2⟩
def VSF_CMD.SLICE : Fld := ⟨8, 8⟩
def VSF_CMDSTAT.BUSY : Fld := ⟨0, 1⟩
def VSF_CMDSTAT.STATUS : Fld := ⟨4, 4⟩
def VSF_CMDSTAT.SLICE : Fld := ⟨8, 8⟩
def VSF_CMDSTAT.DONE : Fld := ⟨16, 1⟩
def VSF_CMDSTAT.CERR : Fld := ⟨17, 1⟩
def VSF_CMDSTAT.WERR : Fld := ⟨18, 1⟩
def VSF_SPLOG.SLICE : Fld := ⟨0, 8⟩
def VSF_SPLOG.KIND : Fld := ⟨8, 3⟩
def VSF_SPLOG.SRC : Fld := ⟨12, 12⟩
def VSF_SPLOG.VALID : Fld := ⟨63, 1⟩
def VSF_SPADDR.ADDR : Fld := ⟨0, 64⟩
def VSF_RSTAT.STATE : Fld := ⟨0, 2⟩
def VSF_RSTAT.RUN : Fld := ⟨2, 1⟩
def VSF_RAMT.CORES : Fld := ⟨0, 8⟩
def VSF_RAMT.GRAN : Fld := ⟨8, 12⟩
def VSF_RAMT.DMA : Fld := ⟨20, 5⟩
def VSF_RAMT.PRLQ : Fld := ⟨25, 6⟩
def VSF_RAMT.FCTX : Fld := ⟨32, 8⟩
def VSF_RAMT.VEC : Fld := ⟨40, 11⟩
def VSF_RARG1.PASID : Fld := ⟨0, 16⟩
def VSF_RARG1.PV : Fld := ⟨16, 1⟩
def VSF_RTBL.ADDR : Fld := ⟨0, 64⟩
def VSF_RCORE.MASK : Fld := ⟨0, 64⟩
def VSF_RDMA.MASK : Fld := ⟨0, 64⟩
def VSF_RFCTX.MASK : Fld := ⟨0, 64⟩
def VSF_SPOOF.TAG : Fld := ⟨0, 12⟩
def VSF_SPOOF.HOST : Fld := ⟨12, 12⟩
def VSF_SPOOF.FABRIC : Fld := ⟨24, 12⟩
def VSF_SPOOF.PRALINE : Fld := ⟨36, 12⟩
def VSF_SPOOF.REG : Fld := ⟨48, 12⟩
def VSF_CTL.EN : Fld := ⟨0, 1⟩
def VSF_CTL.CIE : Fld := ⟨1, 1⟩
def VSF_CTL.SPIE : Fld := ⟨2, 1⟩
def VSF_CTL.CVEC : Fld := ⟨16, 11⟩
def VSF_CTL.SPVEC : Fld := ⟨32, 11⟩
def VSF_ENTRY.ADDR : Fld := ⟨2, 54⟩
def VSF_TBLBASE.ADDR : Fld := ⟨22, 34⟩
def VSF_PVEC.N : Fld := ⟨0, 15⟩
def VSF_PSTAT.FCORE : Fld := ⟨0, 8⟩
def VSF_PSTAT.CGRAN : Fld := ⟨8, 13⟩
def VSF_PSTAT.DGRAN : Fld := ⟨21, 13⟩
def VSF_PSTAT.FDMA : Fld := ⟨34, 8⟩
def VSF_PSTAT.FVEC : Fld := ⟨42, 15⟩
def VSF_PCORE.MASK : Fld := ⟨0, 64⟩
def VSF_PGRAN.MASK : Fld := ⟨0, 64⟩
def VSF_PDMA.MASK : Fld := ⟨0, 64⟩
def VSF_PFCTX.MASK : Fld := ⟨0, 64⟩
def VSF_VSTAT.STATE : Fld := ⟨0, 2⟩
def VSF_VSTAT.RUN : Fld := ⟨2, 1⟩
def VSF_VAMT.CORES : Fld := ⟨0, 8⟩
def VSF_VAMT.GRAN : Fld := ⟨8, 12⟩
def VSF_VAMT.DMA : Fld := ⟨20, 5⟩
def VSF_VAMT.PRLQ : Fld := ⟨25, 6⟩
def VSF_VAMT.FCTX : Fld := ⟨32, 8⟩
def VSF_VAMT.VEC : Fld := ⟨40, 11⟩
def VSF_VRUN.RELEASE : Fld := ⟨0, 1⟩
def VSF_PGRANT.TAG : Fld := ⟨0, 4⟩
def VSF_PGRANT.OKIND : Fld := ⟨4, 2⟩
def VSF_PGRANT.WAIT : Fld := ⟨6, 1⟩
def VSF_PGRANT.OID : Fld := ⟨8, 8⟩
def VSF_PGRANT.LEASE : Fld := ⟨16, 16⟩
def VSF_PGRANT.EXPECT : Fld := ⟨32, 16⟩
def VSF_PGREST.STATUS : Fld := ⟨0, 3⟩
def VSF_PGREST.SLOT : Fld := ⟨8, 5⟩
def VSF_PGREST.EPOCH : Fld := ⟨16, 8⟩
def VSF_PGREST.CANCEL : Fld := ⟨24, 1⟩
def VSF_PGREST.ACK : Fld := ⟨25, 1⟩
def VSF_HDB.BITS : Fld := ⟨0, 64⟩
def VSF_HDBPEND.BITS : Fld := ⟨0, 64⟩
def VSF_SDB.VECTOR : Fld := ⟨0, 11⟩
def FAB_PCFG.MODE : Fld := ⟨0, 2⟩
def FAB_PCFG.PMD : Fld := ⟨2, 2⟩
def FAB_PSTAT.LINK : Fld := ⟨0, 2⟩
def FAB_PSTAT.WERR : Fld := ⟨2, 1⟩
def FAB_PADDR_LO.ADDR : Fld := ⟨0, 64⟩
def FAB_PADDR_HI.ADDR : Fld := ⟨0, 64⟩
def FAB_LMAC.MAC : Fld := ⟨0, 48⟩
def FAB_NHMAC.MAC : Fld := ⟨0, 48⟩
def FAB_PCNT.STRANGER : Fld := ⟨0, 16⟩
def FAB_PCNT.AUTHFAIL : Fld := ⟨16, 16⟩
def FAB_PCNT.HSDROP : Fld := ⟨32, 16⟩
def FAB_PCNT.OTHER : Fld := ⟨48, 16⟩
def FAB_PCNTX.CESEEN : Fld := ⟨0, 32⟩
def FAB_PCNTX.RETX : Fld := ⟨32, 32⟩
def FAB_CTL.EN : Fld := ⟨0, 1⟩
def FAB_CTL.MTU : Fld := ⟨1, 2⟩
def FAB_CTL.EEN : Fld := ⟨3, 1⟩
def FAB_CTL.DSCP_B : Fld := ⟨4, 6⟩
def FAB_CTL.DSCP_E : Fld := ⟨10, 6⟩
def FAB_CTL.DSCP_T : Fld := ⟨16, 6⟩
def FAB_CTL.REKEYM : Fld := ⟨32, 16⟩
def FAB_CTL.UDP : Fld := ⟨48, 16⟩
def FAB_STATUS.TPEND : Fld := ⟨0, 1⟩
def FAB_STATUS.WERR : Fld := ⟨1, 1⟩
def FAB_STATUS.DUPPKG : Fld := ⟨2, 1⟩
def FAB_STATUS.IDFAIL : Fld := ⟨3, 1⟩
def FAB_STATUS.CERR : Fld := ⟨4, 1⟩
def FAB_STATUS.LINKEV : Fld := ⟨5, 1⟩
def FAB_STATUS.OPENN : Fld := ⟨16, 9⟩
def FAB_ESTATUS.TPEND : Fld := ⟨0, 1⟩
def FAB_ESTATUS.WERR : Fld := ⟨1, 1⟩
def FAB_ESTATUS.OVR : Fld := ⟨2, 1⟩
def FAB_ESTATUS.PREJ : Fld := ⟨3, 1⟩
def FAB_ESTATUS.SPILLCNT : Fld := ⟨16, 16⟩
def FAB_RSBASE.ADDR : Fld := ⟨28, 28⟩
def FAB_ERR.KIND : Fld := ⟨0, 4⟩
def FAB_ERR.PEER : Fld := ⟨4, 9⟩
def FAB_ERR.STATUS : Fld := ⟨13, 4⟩
def FAB_ERR.VALID : Fld := ⟨63, 1⟩
def FAB_EADDR.ADDR : Fld := ⟨0, 56⟩
def FAB_PEER_CTL.EN : Fld := ⟨0, 1⟩
def FAB_PEER_CTL.PORT : Fld := ⟨1, 4⟩
def FAB_PEER_CTL.ALTPORT : Fld := ⟨5, 4⟩
def FAB_PEER_CTL.ALTEN : Fld := ⟨9, 1⟩
def FAB_PEER_STAT.STATE : Fld := ⟨0, 3⟩
def FAB_PEER_STAT.MAJOR : Fld := ⟨3, 4⟩
def FAB_PEER_STAT.MINOR : Fld := ⟨7, 4⟩
def FAB_PEER_STAT.FEAT : Fld := ⟨11, 8⟩
def FAB_PEER_STAT.CAUSE : Fld := ⟨19, 4⟩
def FAB_PEER_STAT.KEYID : Fld := ⟨23, 1⟩
def FAB_PEER_STAT.ONALT : Fld := ⟨24, 1⟩
def FAB_PEER_ADDR_LO.ADDR : Fld := ⟨0, 64⟩
def FAB_PEER_ADDR_HI.ADDR : Fld := ⟨0, 64⟩
def FAB_PEER_IDHASH_LO.HASH : Fld := ⟨0, 64⟩
def FAB_PEER_IDHASH_HI.HASH : Fld := ⟨0, 64⟩
def FAB_PEER_IWIN.IBASE : Fld := ⟨0, 12⟩
def FAB_PEER_IWIN.ILIMIT : Fld := ⟨16, 12⟩
def FAB_PEER_IWIN.IWEN : Fld := ⟨31, 1⟩
def FAB_PEER_CNT.RETX : Fld := ⟨0, 16⟩
def FAB_PEER_CNT.RTO : Fld := ⟨16, 16⟩
def FAB_PEER_CNT.SRTT : Fld := ⟨32, 16⟩
def FAB_PEER_CNT.RNR : Fld := ⟨48, 16⟩
def FAB_ESLOT.V : Fld := ⟨0, 1⟩
def FAB_ESLOT.PORT : Fld := ⟨1, 4⟩
def FAB_ESLOT.PEER : Fld := ⟨5, 9⟩
def FAB_ESLOT.START : Fld := ⟨16, 24⟩
def FAB_ESLOT.BYTES : Fld := ⟨40, 16⟩
def FAB_CCTL.V : Fld := ⟨0, 1⟩
def FAB_CCTL.KIND : Fld := ⟨1, 2⟩
def FAB_CCTL.ROOT : Fld := ⟨3, 1⟩
def FAB_CCTL.NCH : Fld := ⟨4, 4⟩
def FAB_CCTL.ESCH : Fld := ⟨8, 1⟩
def FAB_CCTL.CIE : Fld := ⟨9, 1⟩
def FAB_CCTL.SLICE : Fld := ⟨16, 8⟩
def FAB_CCTL.LOCAL : Fld := ⟨24, 16⟩
def FAB_CCTL.LEASE : Fld := ⟨40, 16⟩
def FAB_CPKG0.TREE : Fld := ⟨0, 64⟩
def FAB_CPKG1.TREE : Fld := ⟨0, 64⟩
def FAB_CCMD.OP : Fld := ⟨0, 2⟩
def FAB_CSTAT.STATE : Fld := ⟨0, 3⟩
def FAB_CSTAT.SLOT : Fld := ⟨3, 5⟩
def FAB_CSTAT.EPOCH : Fld := ⟨8, 8⟩
def FAB_CSTAT.SEQ : Fld := ⟨16, 16⟩
def FAB_CSTAT.CAUSE : Fld := ⟨32, 4⟩
def FAB_CSTAT.CEV : Fld := ⟨36, 1⟩
def FAB_ATLAS_CTL.EN : Fld := ⟨0, 1⟩
def FAB_ATLAS_CTL.ROOT : Fld := ⟨1, 1⟩
def FAB_ATLAS_CTL.PARENT : Fld := ⟨2, 9⟩
def FAB_ATLAS_CTL.NPROBE : Fld := ⟨11, 4⟩
def FAB_ATLAS_CTL.PPORT : Fld := ⟨15, 4⟩
def FAB_ATLAS_CTL.DOMAIN : Fld := ⟨19, 8⟩
def FAB_ATLAS_CTL.ASYM : Fld := ⟨32, 16⟩
def FAB_ATLAS_STAT.COARSE : Fld := ⟨0, 1⟩
def FAB_ATLAS_STAT.LOCK : Fld := ⟨1, 1⟩
def FAB_ATLAS_STAT.LOSTEV : Fld := ⟨2, 1⟩
def FAB_ATLAS_STAT.GOOD : Fld := ⟨8, 8⟩
def FAB_ATLAS_STAT.OFFSET : Fld := ⟨32, 32⟩
def PAIR_CTL.EN : Fld := ⟨0, 1⟩
def PAIR_CTL.FABCHK : Fld := ⟨1, 1⟩
def PAIR_CTL.FOIE : Fld := ⟨2, 1⟩
def PAIR_CTL.MOIE : Fld := ⟨3, 1⟩
def PAIR_CTL.CAPLIM : Fld := ⟨8, 8⟩
def PAIR_CTL.SILTO : Fld := ⟨16, 16⟩
def PAIR_STATUS.TPEND : Fld := ⟨0, 1⟩
def PAIR_STATUS.WERR : Fld := ⟨1, 1⟩
def PAIR_STATUS.MOVR : Fld := ⟨2, 1⟩
def PAIR_STATUS.FOEV : Fld := ⟨3, 1⟩
def PAIR_STATUS.LINKEV : Fld := ⟨4, 1⟩
def PAIR_STATUS.OHFULL : Fld := ⟨5, 1⟩
def PAIR_STATUS.CERR : Fld := ⟨6, 1⟩
def PAIR_LINK.STATE : Fld := ⟨0, 3⟩
def PAIR_LINK.LANES : Fld := ⟨3, 5⟩
def PAIR_LINK.MAJOR : Fld := ⟨8, 8⟩
def PAIR_LINK.MINOR : Fld := ⟨16, 8⟩
def PAIR_LINK.FEAT : Fld := ⟨24, 8⟩
def PAIR_LINK.CAUSE : Fld := ⟨32, 4⟩
def PAIR_LINK.SILENT : Fld := ⟨36, 1⟩
def PAIR_PEERHASH_LO.HASH : Fld := ⟨0, 64⟩
def PAIR_PEERHASH_HI.HASH : Fld := ⟨0, 64⟩
def PAIR_ULOG.BASE : Fld := ⟨21, 35⟩
def PAIR_ULOGSZ.MIB : Fld := ⟨0, 16⟩
def PAIR_OHB.MIB : Fld := ⟨0, 16⟩
def PAIR_OHB.BASE : Fld := ⟨21, 35⟩
def PAIR_CMD.OP : Fld := ⟨0, 3⟩
def PAIR_CMD.ENTRY : Fld := ⟨4, 4⟩
def PAIR_MP_CTL.V : Fld := ⟨0, 1⟩
def PAIR_MP_CTL.ROLE : Fld := ⟨1, 1⟩
def PAIR_MP_CTL.PART : Fld := ⟨2, 6⟩
def PAIR_MP_CTL.SIZE : Fld := ⟨8, 12⟩
def PAIR_MP_CTL.GBASE : Fld := ⟨20, 12⟩
def PAIR_MP_CTL.SAVEOFF : Fld := ⟨32, 28⟩
def PAIR_MP_BM.BASE : Fld := ⟨21, 35⟩
def PAIR_MP_CORE.MASK : Fld := ⟨0, 64⟩
def PAIR_MP_DMA.MASK : Fld := ⟨0, 64⟩
def PAIR_MP_STAT.STATE : Fld := ⟨0, 3⟩
def PAIR_MP_STAT.CAUSE : Fld := ⟨3, 4⟩
def PAIR_MP_STAT.CFRAME : Fld := ⟨8, 48⟩
def PAIR_MP_CNT.LINES : Fld := ⟨0, 32⟩
def PAIR_MP_CNT.SKIPS : Fld := ⟨32, 16⟩
def PAIR_MP_CNT.COBW : Fld := ⟨48, 16⟩
def WLD_VIOL.SRC : Fld := ⟨0, 12⟩
def WLD_VIOL.KIND : Fld := ⟨12, 4⟩
def WLD_VIOL.COUNT : Fld := ⟨16, 16⟩
def WLD_VIOL.VALID : Fld := ⟨63, 1⟩
def WLD_VADDR.ADDR : Fld := ⟨0, 64⟩
def WLD_DBGEN.NLVL : Fld := ⟨0, 2⟩
def WLD_DBGEN.SLVL : Fld := ⟨2, 2⟩
def WLD_DBGEN.LOCK : Fld := ⟨4, 1⟩
def WLD_HCMD.OP : Fld := ⟨0, 2⟩
def WLD_HCMD.CLASS : Fld := ⟨2, 2⟩
def WLD_HCMD.WORLD : Fld := ⟨4, 1⟩
def WLD_HCMD.INDEX : Fld := ⟨16, 12⟩
def WLD_HSTAT.STATUS : Fld := ⟨0, 3⟩
def WLD_HSTAT.STATE : Fld := ⟨3, 3⟩
def IRT_STATUS.UNDELIV : Fld := ⟨0, 16⟩
def IRT_STATUS.BADMSI : Fld := ⟨16, 16⟩
def IRT_GRP.MEMBERS : Fld := ⟨0, 64⟩
def IRT_SRC.EN : Fld := ⟨0, 1⟩
def IRT_SRC.SEC : Fld := ⟨1, 1⟩
def IRT_SRC.TLVL : Fld := ⟨2, 2⟩
def IRT_SRC.PRIO : Fld := ⟨4, 4⟩
def IRT_SRC.GRP : Fld := ⟨8, 1⟩
def IRT_SRC.TARGET : Fld := ⟨16, 8⟩
def IRT_SRC.MODE : Fld := ⟨24, 1⟩
def IRT_SRC.PEND : Fld := ⟨32, 1⟩
def IRT_SRC.ACTIVE : Fld := ⟨33, 1⟩
def IRT_SRC.TRIG : Fld := ⟨34, 1⟩
def IRT_SRC.CLRP : Fld := ⟨35, 1⟩
def PWR_CTL.IE : Fld := ⟨0, 5⟩
def PWR_STATUS.TPEND : Fld := ⟨0, 1⟩
def PWR_STATUS.VOVR : Fld := ⟨2, 1⟩
def PWR_STATUS.LIMEV : Fld := ⟨3, 1⟩
def PWR_STATUS.HOTEV : Fld := ⟨4, 1⟩
def PWR_STATUS.WAKEEV : Fld := ⟨5, 1⟩
def PWR_STATUS.CMDEV : Fld := ⟨6, 1⟩
def PWR_STATUS.CMDREJ : Fld := ⟨7, 1⟩
def PWR_STATUS.PKG : Fld := ⟨8, 3⟩
def PWR_LIMIT.PL : Fld := ⟨0, 10⟩
def PWR_LIMIT.PHEN : Fld := ⟨10, 1⟩
def PWR_POWER.SAMPLE : Fld := ⟨0, 16⟩
def PWR_POWER.AVG : Fld := ⟨16, 16⟩
def PWR_PKGCMD.OP : Fld := ⟨0, 3⟩
def PWR_PKGCMD.STATUS : Fld := ⟨4, 2⟩
def PWR_WAKEEN.SRC : Fld := ⟨0, 4⟩
def PWR_WAKEEN.WPRI : Fld := ⟨8, 4⟩
def PWR_WAKETIME.NS : Fld := ⟨0, 64⟩
def PWR_WAKESRC.SRC : Fld := ⟨0, 4⟩
def PWR_DOM.FLOOR : Fld := ⟨0, 3⟩
def PWR_DOM.STATE : Fld := ⟨4, 3⟩
def PWR_DOM.TRAFFIC : Fld := ⟨7, 1⟩
def PWR_DOM.VOTED : Fld := ⟨8, 1⟩
def PWR_DOM.SECVOTE : Fld := ⟨9, 1⟩
def PWR_DOM.FREQ : Fld := ⟨16, 6⟩
def PWR_DOM.GFREQ : Fld := ⟨22, 6⟩
def PWR_VOTE.V : Fld := ⟨0, 1⟩
def PWR_VOTE.LVL : Fld := ⟨1, 3⟩
def PWR_VOTE.DOM : Fld := ⟨4, 9⟩
def PWR_VOTE.SEC : Fld := ⟨13, 1⟩
def PWR_GATE.OFF : Fld := ⟨0, 1⟩
def PWR_GATE.BLOCKED : Fld := ⟨1, 1⟩
def BOOT_STATUS.STAGE : Fld := ⟨0, 4⟩
def BOOT_STATUS.DONE : Fld := ⟨4, 1⟩
def BOOT_STATUS.STOPPED : Fld := ⟨5, 1⟩
def BOOT_STATUS.RECOVERY : Fld := ⟨6, 1⟩
def BOOT_STATUS.COPY : Fld := ⟨7, 1⟩
def BOOT_STATUS.CODE : Fld := ⟨8, 8⟩
def BOOT_STATUS.DETAIL : Fld := ⟨16, 16⟩
def BOOT_STATUS.SVN : Fld := ⟨32, 6⟩
def BOOT_STATUS.KEYSLOT : Fld := ⟨38, 2⟩
def BOOT_STATUS.LUNARST : Fld := ⟨40, 4⟩
def BOOT_STATUS.ATLASTO : Fld := ⟨44, 1⟩
def BOOT_STATUS.SKIPPED : Fld := ⟨45, 8⟩
def BOOT_CTL.WARM : Fld := ⟨0, 1⟩
def BOOT_CTL.SVNCOMMIT : Fld := ⟨1, 1⟩
def BOOT_CTL.REVOKE : Fld := ⟨4, 4⟩
def BOOT_SPICMD.OP : Fld := ⟨0, 8⟩
def BOOT_SPICMD.ADDR : Fld := ⟨8, 32⟩
def BOOT_SPICMD.LEN : Fld := ⟨40, 9⟩
def BOOT_SPICMD.WR : Fld := ⟨49, 1⟩
def BOOT_SPICMD.GO : Fld := ⟨50, 1⟩
def BOOT_SPICMD.BUSY : Fld := ⟨51, 1⟩
def BOOT_SPICMD.ERR : Fld := ⟨52, 1⟩
def BOOT_SPIBUF.DATA : Fld := ⟨0, 64⟩
def IDN_SERIAL.SERIAL : Fld := ⟨0, 64⟩
def IDN_IDHASH.HASH : Fld := ⟨0, 64⟩
def IDN_KEYFUSE.PROG : Fld := ⟨0, 4⟩
def IDN_KEYFUSE.REVOKED : Fld := ⟨4, 4⟩
def IDN_KEYFUSE.SVNFUSE : Fld := ⟨8, 6⟩
def IDN_EXTEND.INDEX : Fld := ⟨0, 4⟩
def IDN_EXTEND.GO : Fld := ⟨8, 1⟩
def IDN_EXTDATA.DATA : Fld := ⟨0, 64⟩
def IDN_PUBKEY.KEY : Fld := ⟨0, 64⟩
def IDN_MEAS.DIGEST : Fld := ⟨0, 64⟩
def ERB_PEND.PEND : Fld := ⟨0, 62⟩
def ERB_DIEPEND.ANY : Fld := ⟨0, 12⟩
def ERB_DIEPEND.UC : Fld := ⟨16, 12⟩
def ERB_NEXT.BANK : Fld := ⟨0, 12⟩
def ERB_NEXT.CLASS : Fld := ⟨12, 2⟩
def ERB_NEXT.NONE : Fld := ⟨15, 1⟩
def ERB_DSTOP.STOPPED : Fld := ⟨0, 1⟩
def ERB_DSTOP.FORCE : Fld := ⟨1, 1⟩
def ERB_DSTOP.CAUSE : Fld := ⟨2, 4⟩
def ERB_DSTOP.BANK : Fld := ⟨6, 12⟩
def ERB_DSTOP.MORE : Fld := ⟨18, 8⟩
def ERB_DSTIME.NS : Fld := ⟨0, 64⟩
def ERB_LOG.NEXTSEQ : Fld := ⟨0, 32⟩
def ERB_LOG.DROPPED : Fld := ⟨32, 16⟩
def ERB_REC.VALID : Fld := ⟨0, 1⟩
def ERB_REC.CLASS : Fld := ⟨1, 2⟩
def ERB_REC.PRIOR : Fld := ⟨3, 1⟩
def ERB_REC.ADDRV : Fld := ⟨4, 1⟩
def ERB_REC.MISCV : Fld := ⟨5, 1⟩
def ERB_REC.KIND : Fld := ⟨6, 6⟩
def ERB_REC.SRC : Fld := ⟨12, 12⟩
def ERB_REC.OVF : Fld := ⟨24, 16⟩
def ERB_REC.SEC : Fld := ⟨40, 1⟩
def ERB_ADDR.ADDR : Fld := ⟨0, 56⟩
def ERB_MISC.MISC : Fld := ⟨0, 64⟩
def ERB_TIME.NS : Fld := ⟨0, 64⟩
def ERB_CTL.CEIE : Fld := ⟨0, 1⟩
def ERB_CTL.UCIE : Fld := ⟨1, 1⟩
def ERB_CTL.CEPIN : Fld := ⟨2, 1⟩
def ERB_CTL.THRESH : Fld := ⟨16, 16⟩
def ERB_CTL.THEV : Fld := ⟨32, 1⟩
def ERB_DPEND.PEND : Fld := ⟨0, 22⟩
def REC_CTL.GO : Fld := ⟨0, 1⟩
def REC_CTL.PROGRAM : Fld := ⟨1, 1⟩
def REC_CTL.RESET : Fld := ⟨2, 1⟩
def REC_WINOFF.OFF : Fld := ⟨20, 3⟩
def REC_RESULT.CODE : Fld := ⟨0, 8⟩
def REC_RESULT.BUSY : Fld := ⟨8, 1⟩

end Sys2Proof.Machine
end

