-- ==== Sys2Proof/Machine/KMap.lean ====
section
/-! DEFINITION. A finite map from natural-number keys as a list of (key, value) pairs in one canonical form (keys
strictly rising): the sparse registers, the cores and the tables of the blocks are held in it. -/
namespace Sys2Proof.Machine

/-- A sparse map: key and value pairs, keys strictly rising (`KMap.wf`). -/
structure KMap (α : Type) where
  /-- The listed pairs. -/
  l : List (Nat × α)
deriving DecidableEq, Repr

/-- The empty map. -/
def KMap.empty {α : Type} : KMap α := ⟨[]⟩

/-- The value listed at a key of a pair list. -/
def kfind {α : Type} (k : Nat) : List (Nat × α) → Option α
  | [] => none
  | (a, v) :: t => if a = k then some v else kfind k t

/-- Insert or replace a pair, keeping the keys rising. -/
def kinsert {α : Type} (k : Nat) (v : α) : List (Nat × α) → List (Nat × α)
  | [] => [(k, v)]
  | (a, w) :: t =>
    if a = k then (k, v) :: t
    else if k < a then (k, v) :: (a, w) :: t
    else (a, w) :: kinsert k v t

/-- The value listed at `k`, if any. -/
def KMap.get? {α : Type} (m : KMap α) (k : Nat) : Option α := kfind k m.l

/-- The value at `k`, or `d` where none is listed. -/
def KMap.getD {α : Type} (m : KMap α) (k : Nat) (d : α) : α :=
  match m.get? k with
  | some v => v
  | none => d

/-- List `v` at `k`. -/
def KMap.set {α : Type} (m : KMap α) (k : Nat) (v : α) : KMap α := ⟨kinsert k v m.l⟩

/-- Keep the pairs whose key satisfies `p`. -/
def KMap.keep {α : Type} (m : KMap α) (p : Nat → Bool) : KMap α := ⟨m.l.filter (fun e => p e.1)⟩

/-- Take the pair at `k` out. -/
def KMap.erase {α : Type} (m : KMap α) (k : Nat) : KMap α := m.keep (fun a => a != k)

/-- Whether `k` is listed. -/
def KMap.has {α : Type} (m : KMap α) (k : Nat) : Bool := (m.get? k).isSome

/-- The keys rise strictly. -/
def kwf {α : Type} : List (Nat × α) → Bool
  | [] => true
  | [_] => true
  | (a, _) :: (b, w) :: t => decide (a < b) && kwf ((b, w) :: t)

/-- The canonical form of a map. -/
def KMap.wf {α : Type} (m : KMap α) : Bool := kwf m.l

/-- Apply `f` to every listed value. -/
def KMap.map {α : Type} (m : KMap α) (f : Nat → α → α) : KMap α := ⟨m.l.map (fun e => (e.1, f e.1 e.2))⟩

end Sys2Proof.Machine
end

