-- ==== Sys2Proof/Machine/State.lean ====
section
/-! DEFINITION. The state of the package as plain data: every piece of state the spec gives it, and the queue of waiting
commands. -/
namespace Sys2Proof.Machine

/-- Privilege level of a core: U, K, H, M in rising order (03 R63). -/
inductive Level where
  | u | k | h | m
deriving DecidableEq, Repr

/-- C_RSTAT.STATE, the run state of a core (03 R96): 0 HELD, 1 RUN, 2 WFI, 3 HALTED, 4 SLEEP, 5 DEEP (or OFF),
6 RESETTING, 7 STOPPED. -/
inductive RunState where
  | held | run | wfi | halted | sleep | deep | resetting | stopped
deriving DecidableEq, Repr

/-- State of a line in an L2 (10 R270), with the normal non-coherent lines of 07 R194 beside the coherent ones. -/
inductive CState where
  | m | e | s | nc
deriving DecidableEq, Repr

/-- One L2 line (07 R190-R192): its way, state, data, poison marks (10 R275) and, for a non-coherent line, whether it
is dirty. A coherent line is dirty exactly in state M. -/
structure L2Line where
  way : Nat
  st : CState
  data : LineData
  poison : BitVec 16
  ncDirty : Bool
deriving DecidableEq, Repr

/-- One L1I line: its way, data and poison marks. L1I is not coherent (03 R91), so it keeps its own copy. -/
structure L1ILine where
  way : Nat
  data : LineData
  poison : BitVec 16
deriving DecidableEq, Repr

/-- A cached translation (08 R228): the tags of R212, the page, the leaf rights and the output address. `big` is the
level of the leaf (1-4). A combined entry carries the rights of both stages. -/
structure TlbEntry where
  /-- 0: normal world U/K, 1: secure world U/K, 2: H regime. -/
  regime : Nat
  asid : Nat
  gid : Nat
  glob : Bool
  /-- Input page number: VA >> 12 of the first page of the mapping. -/
  vpn : Nat
  /-- Number of 4 KiB pages covered. -/
  pages : Nat
  /-- Output page number of the first page. -/
  ppn : Nat
  /-- Stage 1 was enabled (08 R213). -/
  st1 : Bool
  /-- Stage-1 leaf bits [11:0] and [63]; all rights where stage 1 is off. -/
  leaf1 : Word
  /-- Stage-2 leaf, where stage 2 is on. -/
  leaf2 : Option Word
deriving DecidableEq, Repr

/-- A walk-cache entry (08 R228): a table pointer of one level of one stage, tagged by regime and GID. -/
structure WalkEntry where
  stage : Nat
  regime : Nat
  gid : Nat
  level : Nat
  /-- The input bits above the level's index, with the index. -/
  pre : Nat
  /-- The next table. -/
  table : Nat
deriving DecidableEq, Repr

/-- The translation tag of an ITT or return-stack entry (06 R178). -/
structure PredTag where
  sec : Bool
  /-- Level class: 0 U, 1 K and H, 2 M. -/
  cls : Nat
  asid : Nat
  gid : Nat
deriving DecidableEq, Repr

/-- One ITT entry (06 R177): set and way are the key; partial tag, translation tag and target. -/
structure IttEntry where
  ptag : Nat
  tag : PredTag
  target : Word
deriving DecidableEq, Repr

/-- One return-stack entry (06 R177). -/
structure RsEntry where
  addr : Word
  tag : PredTag
deriving DecidableEq, Repr

/-- A deferred BUSERR waiting for the next boundary (03 R94): status code, VA and further errors. -/
structure DefErr where
  status : Nat
  va : Word
  dovf : Nat
deriving DecidableEq, Repr

/-- A store to normal memory that has left the core and whose non-OK status is on its way back (03 R94). -/
structure StoreOut where
  status : Nat
  va : Word
deriving DecidableEq, Repr

/-- The caller's tag of a gate call: level, normal C_TCTL.ASID, C_TTB.BASE and C_S2CTL.GID (17 R442). -/
structure GateTag where
  lvl : Level
  asid : Nat
  ttb : Nat
  gid : Nat
deriving DecidableEq, Repr

/-- The gate frame of an open call (17 R442), which the save area of C_SSA holds (R445). -/
structure GateFrame where
  preempted : Bool
  idx : Nat
  pre : Bool
  nres : Nat
  vres : Nat
  ret : Word
  lvl : Level
  ie : Bool
  ss : Bool
  g30 : Word
  g31 : Word
  nctl : Word
  nflags : Word
  tag : GateTag
deriving DecidableEq, Repr

/-- What an instruction that has been issued and has not completed waits for. The program counter still names it; no
other instruction of the core issues meanwhile. -/
inductive Wait where
  /-- No instruction waits. -/
  | none
  /-- TLBSYNC, until every earlier TLBI is acknowledged (08 R230). -/
  | tlbsync
  /-- FENCE.G, until every remote write has its WACK (15 R401). -/
  | fenceG
  /-- An MTC to C_CACHEOP with CLEANINV (07 R201). -/
  | cleaninv
  /-- A reply of another unit (fabric engine, host bus) to the access under this tag. -/
  | reply (tag : Nat)
deriving DecidableEq, Repr

/-- A reply that has reached a core (09 R240): tag, status, data with marks, and the old value of an ATOM. -/
structure Reply where
  tag : Nat
  status : Status
  data : LineData
  poison : BitVec 16
  old : Word
deriving DecidableEq, Repr

/-- A part of a store to normal coherent memory that the core has made and that no other observer sees yet (03 R86, R87): line,
world, bytes, and the VA for a deferred error. -/
structure SbEntry where
  line : Nat
  sec : Bool
  mask : BitVec 128
  data : LineData
  va : Word
deriving DecidableEq, Repr

/-- One core: the architectural registers of 03 R57 and 04, its control registers, and what the core's caches,
translation buffers, predictors and pending events hold. -/
structure Core where
  /-- C_RSTAT.STATE (R96). -/
  run : RunState
  /-- C_RUN.RELEASE as it reads (R96). -/
  release : Bool
  /-- C_RUN.HALTREQ (R96). -/
  haltReq : Bool
  /-- C_RSTAT.WERR (R96). -/
  werr : Bool
  /-- g0-g31 (R57); g0 is never written. -/
  g : Vector Word 32
  /-- p0-p7, p0 in bit 0, always 1 (R57). -/
  p : BitVec 8
  /-- The program counter (R57). -/
  pc : Word
  /-- C_STATUS.LVL, SEC, IE, SS, MCIP. -/
  lvl : Level
  sec : Bool
  ie : Bool
  ss : Bool
  mcip : Bool
  /-- v0-v31 (04 R106). -/
  v : Vector (BitVec 576) 32
  /-- a0-a3 (04 R136). -/
  a : Vector (BitVec 4608) 4
  /-- C_ registers by number; the secure copy of a register held per world is at number + 0x1000 (R61). -/
  creg : KMap Word
  /-- Values of fetch and translation registers written since the last ISYNC, trap entry or ERET: the old values, which
  may still govern (R60). -/
  creg60 : KMap Word
  /-- FREEZE_TRAP has stopped the counters (R101). -/
  frozen : Bool
  /-- The instruction under way, if it waits. -/
  wait : Wait
  /-- Its word: the last instruction issued. -/
  word : BitVec 32
  /-- The reply it waits for, once it is there, and the lines that earlier replies to it have brought, by line number. -/
  reply : Option Reply
  rbuf : KMap (LineData × BitVec 16)
  /-- A STEP trap is due (R70). -/
  stepDue : Bool
  /-- A deferred BUSERR is due (R94). -/
  defErr : Option DefErr
  /-- Stores whose non-OK status has not come back yet (R94). -/
  stq : List StoreOut
  /-- Remote global-window writes and ATOMs not acknowledged (15 R401). -/
  openW : Nat
  /-- Remote reads, ATOMs and CMOs under way (15 R402). -/
  openR : Nat
  /-- The IRT's present offers to the core, of normal and of secure sources (17 R456). -/
  offer : Option Nat
  offerS : Option Nat
  /-- L1I, L1D (way by line) and L2 by line number PA >> 7 (07 R190). -/
  l1i : KMap L1ILine
  l1d : KMap Nat
  l2 : KMap L2Line
  /-- Retired L1I and L1D entries, set * ways + way (R211). -/
  l1iRet : List Nat
  l1dRet : List Nat
  /-- CLEANINV or a hardware clean is under way: lines whose write-back is not acknowledged (R201, R97). -/
  cleaning : Bool
  /-- Instruction, data and second-level translation buffers and the walk cache (08 R228). -/
  itlb : List TlbEntry
  dtlb : List TlbEntry
  tlb2 : List TlbEntry
  tlb2big : List TlbEntry
  wcache : List WalkEntry
  /-- A pending full invalidation recorded in SLEEP (08 R231). -/
  tlbFlushDue : Bool
  /-- TLBI identifiers this core has issued and that are not acknowledged by every target (08 R230). -/
  tlbiOut : List Nat
  /-- A TLBI of this core has failed to be acknowledged in time (08 R232). -/
  tlbTout : Bool
  /-- Path history, ITT and return stack (06 R177): the top of the stack is the head of the list. -/
  hist : BitVec 16
  itt : KMap IttEntry
  rstack : List RsEntry
  /-- Mispredicted direction or target of the last resolved branch, until BRANCH_MISPREDICT cancels the wrong path. -/
  mispred : Bool
  /-- Invalidations of R181/R183 under way. -/
  clrBusy : Bool
  /-- The gate frame (17 R442). The preemption image is in memory at C_SSA.BASE + 0x400 (R445). -/
  gate : Option GateFrame
  /-- The instruction under way was placed in C_DBGINST (R99). -/
  dbg : Bool
  /-- Instructions that writes have placed in C_DBGINST and that have not been executed, oldest first, and whether a RESUME
  follows them (R99). -/
  dbgQ : List (BitVec 32)
  resumeDue : Bool
  /-- Stores that are not visible to others, oldest first (R86). -/
  sbuf : List SbEntry
  /-- Events of R102 that caches, translation buffers and homes have given since the core last counted, by number. -/
  pmEv : KMap Nat
  /-- What the access under way has found in a cache array (07 R211): 1 a second L1D error of one entry, 2 two error bits in a
  dirty line of L2 or die cache, 0 neither. -/
  arrErr : Nat
  /-- The 4 KiB pages that the streams of the L1D and the L2 prefetcher follow, the newest first (07 R195). -/
  pf1 : List Nat
  pf2 : List Nat
  /-- The limit of the timer of an APOST that waits for room in its slot (09 R248). -/
  apLimit : Nat
deriving DecidableEq, Repr

/-- A core right after its reset (03 R58, 04 R108): HELD, level M, secure, interrupts disabled, every register zero. The
generation is its NOC_AGENT.GEN (09 R251). -/
def Core.reset : Core :=
  { run := .held, release := false, haltReq := false, werr := false,
    g := Vector.replicate 32 0, p := 1, pc := 0x0000800300000000, lvl := .m, sec := true, ie := false, ss := false,
    mcip := false, v := Vector.replicate 32 0, a := Vector.replicate 4 0, creg := KMap.empty, creg60 := KMap.empty,
    frozen := false, wait := .none, word := 0, reply := none, rbuf := KMap.empty, stepDue := false, defErr := none, stq := [], openW := 0, openR := 0,
    offer := none, offerS := none, l1i := KMap.empty, l1d := KMap.empty, l2 := KMap.empty, l1iRet := [], l1dRet := [],
    cleaning := false, itlb := [], dtlb := [], tlb2 := [], tlb2big := [], wcache := [], tlbFlushDue := false,
    tlbiOut := [], tlbTout := false, hist := 0, itt := KMap.empty, rstack := [], mispred := false,
    clrBusy := false, gate := none, dbg := false, dbgQ := [], resumeDue := false, sbuf := [], pmEv := .empty, arrErr := 0, pf1 := [],
    pf2 := [], apLimit := 0 }

/-- A T_-register check that the Luna controller has not finished (02 R51, 09 R257, 15 R407). -/
structure SchedCheck where
  /-- The register written. -/
  off : Nat
  /-- The value written, as addressed bits. -/
  width : Nat
  data : Word
  /-- Who wrote it: the write completes with the check (02 R51). None where the row names no initiator. -/
  init : Option Init
  /-- The limit of its initiator's timer (09 R248). -/
  limit : Nat
deriving DecidableEq, Repr

/-- TCK: what the tick block holds besides its registers (02). -/
structure Tck where
  /-- The live 32-bit fraction of package time; the nanoseconds are TCK_TIME_NS (R45). -/
  frac : Nat
  /-- What is left of a negative step, in units of 2^-32 ns (R48). -/
  negLeft : Nat
  /-- The strobe of an edge is on its way (R46), and the blocks it has reached, by the base of their register window. -/
  strobe : Bool
  reached : List Nat
  /-- Events in a crossing transfer (R43): receiving domain (0 CORE, 1 HCLK, 2 MCCLK, 3 LCLK, 4 MCLK, 5 AOCLK) * 65536 +
  event (0 the strobe, n + 1 the interrupt source n), and the package time at which the transfer began, in units. -/
  xing : KMap Nat
  /-- HCLK cycles counted. -/
  cycles : Nat
  /-- Time (ns, fraction) of the last accepted TICK_IN edge (R55). -/
  inLast : Option (Nat × Nat)
  /-- Consecutive accepted edges with an offset below 1 ns (R56). -/
  inGood : Nat
  /-- TICK_OUT is high, and since which package time (R54). -/
  outHigh : Bool
  outRise : Nat
  /-- Checks of the Luna controller under way. -/
  checks : List SchedCheck
deriving DecidableEq, Repr

/-- A swarm write held at the hub until an edge has passed (02 R53): the registers it reaches were fixed when the hub
accepted it (01 R35). -/
structure HeldSwarm where
  offs : List Nat
  family : Nat
  width : Nat
  data : Word
  init : Init
  /-- The limit of its initiator's timer (09 R248). -/
  limit : Nat
deriving DecidableEq, Repr

/-- A merge-buffer entry of a channel (11 R305): line number PA >> 7, byte-valid mask, data, word poison marks. -/
structure MergeEntry where
  line : Nat
  mask : BitVec 128
  data : LineData
  poison : BitVec 16
deriving DecidableEq, Repr

/-- What a channel holds besides its registers (11). -/
structure Chan where
  /-- The merge buffer, oldest entry first (R305). -/
  mbuf : List MergeEntry
  /-- Scrub reads of this frame not yet issued (R310). -/
  scrubQ : List Nat
  /-- Trainings done: which free contents unwritten words have (R304). -/
  epoch : Nat
  /-- A DRAM device reports above 85 C: refresh is doubled (R298). -/
  hot : Bool
  /-- The DRAM is in self-refresh (18 R462, 20 R509). -/
  selfRefresh : Bool
deriving DecidableEq, Repr

/-- A die-cache line (07 R193): M, E or S, data and marks. -/
structure DcLine where
  st : CState
  data : LineData
  poison : BitVec 16
deriving DecidableEq, Repr

/-- A snoop-filter entry (07 R196): the die's state and the cores that hold the line. -/
structure FiltEntry where
  st : CState
  vec : BitVec 18
deriving DecidableEq, Repr

/-- A write-back buffer entry of a CDA (10 R286). -/
structure WbEntry where
  line : Nat
  dirty : Bool
  data : LineData
  poison : BitVec 16
  superseded : Bool
  tag : Nat
  /-- 0: under way; 1: waits for GNT; 2: held until the CDA's reservation at the home is used or has lapsed (R289). -/
  wait : Nat
  /-- The limit of its timer (09 R248). -/
  limit : Nat
deriving DecidableEq, Repr

/-- A core request held by a CDA until the home answers (10 R284): core, operation, line, tag; `wait` as in a write-back
buffer entry, and 3 while the line is in that buffer and no request has been sent (R286). -/
structure CdaReq where
  core : Nat
  op : Nat
  line : Nat
  tag : Nat
  wait : Nat
  sec : Bool
  slice : Nat
  /-- The limit of its timer (09 R248). -/
  limit : Nat
deriving DecidableEq, Repr

/-- One compute die: site code, CDA, die cache, snoop filter. -/
structure Die where
  /-- The site code has been sampled (01 R16). -/
  sampled : Bool
  dcache : KMap DcLine
  filt : KMap FiltEntry
  wb : List WbEntry
  reqs : List CdaReq
  /-- Lines whose flush write-back has not been acknowledged (07 R210). -/
  flushing : Bool
  nextTag : Nat
  /-- The die's replica of package time (02 R47), in units of 2^-32 ns: the hub's time when it was last taken, and what it
  was then. -/
  timeAt : Nat
  timeRepl : Nat
deriving DecidableEq, Repr

/-- A directory entry (10 R276): ST 1 SHR, 2 OWN, 3 BCAST; the pointed dies in order; `use` orders the entries of a set
by last use (R278). -/
structure DirEntry where
  st : Nat
  ptrs : List Nat
  use : Nat
deriving DecidableEq, Repr


/-- An open transaction of a home agent (10 R280). -/
structure Tracker where
  /-- The operation of R272, by number. -/
  op : Nat
  req : CohReq
  /-- Dies whose snoop answer is outstanding. -/
  snoops : List Nat
  /-- Dies whose write-back is tied and has not arrived (R287). -/
  ties : List Nat
  /-- Dies whose tied write-back has arrived (R287). -/
  wbIn : List Nat
  /-- Dirty data collected. -/
  got : Option (LineData × BitVec 16)
  /-- The die state answered by the owner (0 I, 1 S, 2 E, 3 M). -/
  ans : Nat
  /-- Waiting for the requester's ACK. -/
  waitAck : Bool
  /-- The back-invalidation of a victim entry for another request (R278): the request that needs the way. -/
  victimFor : Option (Nat × CohReq)
  /-- The tag of its snoops, and whether it runs on a tracker entry that a reservation held (R288). -/
  tag : Nat
  resv : Bool
  /-- The limit of its snoops' timers (09 R248). -/
  limit : Nat
deriving DecidableEq, Repr

/-- A reservation at a home agent (10 R289), oldest first in its list. -/
structure Rsv where
  node : Nat
  gen : Nat
  tag : Nat
  line : Nat
  granted : Bool
  /-- The operation of the request. -/
  op : Nat
  /-- The blocking condition (R288): 0 the line is busy, 1 it is held for a granted reservation, 2 every way of its set is
  pinned, 3 no general tracker entry is free. -/
  cond : Nat
  /-- The directory way held once it is granted: 0 none, 1 an unused way, v + 2 the way of line v's entry. -/
  way : Nat
  /-- Requests of the node that were answered RETRY without a reservation, by tag and line. -/
  behind : List (Nat × Nat)
deriving DecidableEq, Repr

/-- One home agent. -/
structure Home where
  dir : KMap DirEntry
  trk : List Tracker
  rsv : List Rsv
  clock : Nat
deriving DecidableEq, Repr

/-- A packet on the on-package network (09 R239, R241; 10 R272-R274): class 0 REQ, 1 SNP, 2 RSP, 3 DAT, 4 EPC, 5 MGT. -/
structure Msg where
  cls : Nat
  op : Nat
  dst : Nat
  src : Nat
  gen : Nat
  tag : Nat
  sec : Bool
  status : Status
  addr : Nat
  data : LineData
  poison : BitVec 16
  prio : Nat
  /-- Route version stamped by the injecting NI (R255). -/
  rv : Nat
  /-- Payload in 16-byte units. -/
  len : Nat
  /-- Slice number, 0xFF for none. -/
  slice : Nat
  /-- The link whose receiver's queue holds the packet, 0 in its NI (Machine/Packet.lean), and the HCLK cycle at which it came
  there. -/
  place : Nat
  since : Nat
deriving DecidableEq, Repr

/-- Owner state of a hand-over resource (17 R451). -/
inductive Owner where
  | n | s | resetting | free
deriving DecidableEq, Repr

/-- An interrupt source of the IRT (17 R455): pending (edge sources) and the core at which it is active. -/
structure Src where
  pend : Bool
  active : Option Nat
deriving DecidableEq, Repr

/-- A log record the Luna controller has not written yet (20 R507): RTYPE, bank, and the registers as recorded. -/
structure LogRec where
  rtype : Nat
  bank : Nat
  time : Word
  frame : Word
  erec : Word
  addr : Word
  misc : Word
  detail : Nat
deriving DecidableEq, Repr

/-- What the error hardware holds besides its registers (20). -/
structure Err where
  /-- A domain stop is in force: its trigger has come (R508). -/
  stopped : Bool
  /-- The stop line has reached every core and NI (R509, T + 20 ns). -/
  halted : Bool
  /-- The channels have been written out and are in self-refresh (R509, T + 10 us). -/
  flushed : Bool
  /-- The Luna controller has queued the records of the stop (R509, T + 1 ms). -/
  stopLogged : Bool
  /-- Log records to write, oldest first (R507). -/
  logq : List LogRec
  /-- The second of package time in which the last record was written, and how many were in it (R507). -/
  second : Nat
  written : Nat
  /-- Records dropped since the last one written, as the next record will carry. -/
  dropSince : Nat
  /-- ERB_LOG.DROPPED has risen since it was last read (source 0x0F5). -/
  dropRise : Bool
deriving DecidableEq, Repr



/-- Entries of a slot's queue in order of arrival (05 R158): accepted records and the commands behind them. -/
inductive SlotItem where
  | record (r : Record)
  | clear
  | round (rm tgt : Nat)
  | dump (addr : Nat)
  | seal
  | release
deriving DecidableEq, Repr

/-- A contribution port's assembly (05 R156, R157): the DMA channel that writes it, the header and the bytes received
after it, in order, with their count. -/
structure PortAsm where
  chan : Nat
  hdr : Word
  got : Nat
  bytes : BitVec 4672
deriving DecidableEq, Repr

/-- A DUMP in progress (05 R171): the image and its address. -/
structure DumpRun where
  image : BitVec 4608
  addr : Nat
deriving DecidableEq, Repr

/-- A Praline slot besides its registers (05). -/
structure Slot where
  /-- The exact value (R148); its flags are FLAGS of PRL_SLOT_STAT. -/
  value : BitVec 4608
  /-- Accepted records and commands waiting (R158, R159). -/
  queue : List SlotItem
  /-- How the last grant ended (R153): 0 never granted since reset, 1 lease expiry, 2 RELEASE. -/
  ended : Nat
  /-- The slot is CLOSING because of RELEASE rather than lease expiry (R153). -/
  released : Bool
  /-- The port's assembly (R156). -/
  port : Option PortAsm
  /-- A DUMP whose writes are outstanding (R171). -/
  dump : Option DumpRun
  /-- A ROUND result that RVALID will announce (R170): RES, top bits, flags. -/
  round : Option (Word × Nat × Nat)
deriving DecidableEq, Repr

/-- A grant request in the pool's wait queue (05 R164): the owner, lease and expected count, and where its outcome goes:
0 PRL_GREST tag, 1 a slice's tag (slice * 4 + tag), 2 a fabric context. -/
structure Waiter where
  okind : Nat
  oid : Nat
  lease : Nat
  expect : Nat
  sec : Bool
  dest : Nat
  tag : Nat
deriving DecidableEq, Repr

/-- Lease work of the pool at an edge that has reached it (05 R166, R167): expiry is due, the slots whose dump is
abandoned, granting to waiters is due, the slots that were FREE when the edge arrived. -/
structure PoolEdge where
  expire : Bool
  late : List Nat
  grant : Bool
  free : List Nat
deriving DecidableEq, Repr

/-- A flit of a die-to-die port (09 R260): sequence number, whether it is a control flit, and the packets it carries. -/
structure Flit where
  seq : Nat
  ctrl : Bool
  body : Nat
deriving DecidableEq, Repr

/-- The link header of a flit as a side has put it on the lanes (09 R260): SEQ, ACK, NAK, WSTAMP, CTRL, the virtual channel
whose credits are returned and their number. -/
structure LinkHdr where
  seq : Nat
  ack : Nat
  nak : Bool
  wstamp : Nat
  ctrl : Bool
  crVc : Nat
  credits : Nat
deriving DecidableEq, Repr

/-- One side of a die-to-die port (09): SEQ of the next flit sent, last flit received in good order, replay buffer,
consecutive NAKs naming one flit, reception stopped by a width mismatch. The state, width and counts are registers. -/
structure PortSide where
  nextSeq : Nat
  lastGood : Nat
  replay : List Flit
  naks : Nat
  nakSeq : Nat
  stopped : Bool
  /-- Flits accepted in good order, for the far queues. -/
  rx : List Flit
  /-- Headers of the flits sent, newest last (R260). -/
  sent : List LinkHdr
  /-- Credits of this side's input queues that are to be returned, and credits held toward the far queues, by virtual channel
  (R242, R260, R262). -/
  ret : KMap Nat
  cred : KMap Nat
  /-- A NAK waits for room in the replay buffer (R261); bodies of flits moved from a lost port, to be sent ahead of new traffic
  (R265). -/
  nakDue : Bool
  queue : List Nat
deriving DecidableEq, Repr

/-- A TLBI broadcast (08 R230): issuing core, what it names, and the targets that have not acknowledged (cores 0-215,
216 the hub IOTLB). -/
structure TlbiRun where
  id : Nat
  core : Nat
  /-- 0 VA, 1 AS, 2 ALL, 3 S2. -/
  kind : Nat
  /-- Regime: 0 normal U/K, 1 secure U/K, 2 H, 3 every regime. -/
  regime : Nat
  va : Word
  asid : Nat
  gid : Nat
  left : List Nat
deriving DecidableEq, Repr

/-- An outstanding tag's timer (09 R248): node, tag, and the limit in force when the transaction was issued, in ns. -/
structure Timer where
  node : Nat
  tag : Nat
  limit : Nat
deriving DecidableEq, Repr

/-- The network: packets, timers, quarantined tags, TLBI broadcasts and E-class slots (09). -/
structure Net where
  /-- Packets under way: in each queue the oldest first (R242). -/
  msgs : List Msg
  /-- Packets taken in the step that sent them, newest last. -/
  taken : List Msg
  /-- The queue that each link's arbiter served last (R243), and the credits it has served, all and of VC 4, since a slot
  became active (R256). -/
  rr : KMap Nat
  shr : KMap (Nat × Nat)
  /-- Reply space that initiators hold reserved for their requests, in credits by node (R244). -/
  space : KMap Nat
  /-- Buckets of the injection regulators by node (R246): bytes, and the cycle of the last account. -/
  buckets : KMap (Nat × Nat)
  /-- Quarantined tags, each with the limit of its transaction (R249). -/
  quar : List Timer
  tlbis : List TlbiRun
  /-- Identifier of the next TLBI. -/
  nextTlbi : Nat
  /-- The E-class slots that are active (R256): slot number and bytes still to inject. -/
  eslots : KMap Nat
  /-- E-class slots of the present frame that have started (R256). -/
  estarted : List Nat
  /-- Spilled bytes that an owner may send unscheduled in this frame (R258), by node. -/
  espill : KMap Nat
deriving DecidableEq, Repr

/-- DMA descriptor fields (12 R317): the four words as read. -/
structure Desc where
  w0 : Word
  w1 : Word
  w2 : Word
  w3 : Word
deriving DecidableEq, Repr

/-- A DMA channel besides its registers (12). -/
structure Dma where
  /-- The descriptor being processed. -/
  desc : Option Desc
  /-- A descriptor read is due or under way. -/
  fetching : Bool
  /-- The write-back of R322 is due or under way, and its DSTAT. -/
  writingBack : Bool
  dstat : Nat
  /-- A remembered doorbell (R326). -/
  bell : Bool
  /-- Source bytes read so far, and those read and not yet written, in order. -/
  issued : Nat
  bytes : List Byte
  /-- The I/O context read at START (R323): its four words. -/
  ctx : Option Desc
  /-- Remaining budget of the frame in lines, and lines of an admitted burst not yet written (R329, R330). -/
  budget : Nat
  burst : Nat
  /-- A register-space write that the hub holds (02 R51, R53): none, under way, or answered. -/
  held : Option (Option Status)
  /-- NOC_TOUT when the access under way was issued (09 R248). -/
  tout : Word
deriving DecidableEq, Repr

/-- An outbound host-bus request outstanding (13 R353): controller, port, initiator node, tag, read or write. -/
structure HbReq where
  ctl : Nat
  port : Nat
  node : Nat
  tag : Nat
  addr : Nat
  size : Nat
  isRead : Bool
  posted : Bool
  data : LineData
  func : Nat
  /-- Tag on the link. -/
  htag : Nat
  /-- Generation of the initiator (09 R251) and the limit of its timer (09 R248), at the issue. -/
  gen : Nat
  limit : Nat
  /-- The PASID that it carries, and whether its address is a translated one (R342). -/
  pasid : Option Nat
  xlat : Bool
  /-- 0 sent; 1 a posted write queued for its link (R355); 2 a queued write that has been sent and whose initiator has no status
  yet (R352); 3 answered already, its completion will be discarded (R356). -/
  phase : Nat
deriving DecidableEq, Repr

/-- A link that is DL_Active (R333, R335): its rate (1 to 6: 2.5 to 64 GT/s), its lanes, flit mode. -/
structure HbLink where
  rate : Nat
  width : Nat
  flit : Bool
deriving DecidableEq, Repr

/-- A hot-plug slot (13 R361-R364): stable inputs, outputs as the next frame carries them, changes the next frame
announces by Command Completed, and the timed releases under way. -/
structure HpSlot where
  present : Bool
  button : Bool
  fault : Bool
  pwren : Bool
  attnLed : Nat
  pwrLed : Nat
  perst : Bool
  /-- A Slot Control change that the next frame carries (R363). -/
  cmdPending : Bool
  /-- A frame that carries the change has been sent. -/
  cmdSent : Bool
  /-- PERST_N will be released 100 ms after power-on (R364). -/
  perstDue : Bool
  /-- PWREN drops 1 ms after PERST_N (R364). -/
  dropDue : Bool
  /-- The output bits of the last frame sent (R362). -/
  sent : BitVec 8
deriving DecidableEq, Repr

/-- An endpoint function of HB0 in the attached personality (13 R339, R341): its enables and whether a reset runs. -/
structure EpFunc where
  bme : Bool
  mse : Bool
  d3hot : Bool
  atsEn : Bool
  resetting : Bool
  /-- Pending MSI-X vectors held in the PBA (R356). -/
  pba : List Nat
  /-- BAR2 base and size as configured (R350). -/
  bar2 : Nat
  bar2size : Nat
  bar0 : Nat
deriving DecidableEq, Repr

/-- The host-bus unit besides its registers (13). -/
structure Hb where
  /-- Configuration space dwords of the functions the package holds (R336, R343): segment offset to 32-bit value. -/
  cfg : KMap (BitVec 32)
  /-- Outstanding and queued outbound requests in order (R352). -/
  out : List HbReq
  slots : KMap HpSlot
  /-- Input bits of the last hot-plug frame (R362). -/
  hpIn : BitVec 256
  funcs : KMap EpFunc
  /-- VF Enable and NumVFs of the SR-IOV capability (14 R370). -/
  vfEn : Bool
  numVfs : Nat
  /-- Memory Space Enable of the VFs (SR-IOV), PASID Enable of the PF (R342), the subsystem IDs of the image (R341). -/
  vfMse : Bool
  pasidEn : Bool
  ssid : BitVec 32
  /-- The links that are DL_Active: 4 * controller + port. -/
  links : KMap HbLink
  /-- VF BAR0 and BAR2 base, and the size of one VF BAR2 (R341). -/
  vfBar0 : Nat
  vfBar2 : Nat
  vfBar2size : Nat
  /-- TLPs sent to a link, newest last: what the outside sees. -/
  sent : List HbReq
  /-- MSI-X tables of the endpoint's functions (R341): function * 4096 + word of its table, 64 bits each. -/
  msixTab : KMap Word
  /-- Translation cache of ATS (R342). -/
  atc : KMap Nat
  /-- The hub IOTLB (08 R235). -/
  iotlb : List TlbEntry
  nextTag : Nat
deriving DecidableEq, Repr

/-- A slice as its record holds it (14 R379), with the sets of resources. State: 0 NONE, 1 CREATING, 2 LIVE,
3 DESTROYING. -/
structure Slice where
  st : Nat
  run : Bool
  amounts : Word
  arg1 : Word
  cores : List Nat
  grans : List Nat
  dmas : List Nat
  fctx : List Nat
  vec : Nat
deriving DecidableEq, Repr

/-- The slice manager besides its registers (14). -/
structure Vsf where
  slices : KMap Slice
  /-- The command under way: OP and slice (R369). -/
  cmd : Option (Nat × Nat)
  /-- Destructions that an FLR or a PF event has started or queued (R372). -/
  destroys : List Nat
  /-- Clean granules (R368), and granules being zeroed. -/
  clean : List Nat
  zeroing : List Nat
  /-- Slice owner tag of each core (R371). -/
  coreTag : KMap Nat
  /-- Cores for which the manager holds its vote at RUN (R373). -/
  votes : List Nat
  /-- Cores granted to the slice being created that have not begun their reset (they were in DEEP). -/
  toReset : List Nat
  /-- MSI-X vectors sent upstream: function and vector (R376). -/
  msix : List (Nat × Nat)
deriving DecidableEq, Repr


/-- A packet of a peer link in the retransmit store (15 R395). -/
structure FabPkt where
  psn : Nat
  typ : Nat
  keyid : Nat
  txc : Nat
  /-- ACKPSN, SACK, ECE and ECLASS of the header. -/
  ack : Nat
  sack : Nat
  ece : Bool
  eclass : Bool
  msgs : List FabMsg
  /-- The receive and send times of a PROBEREP (R414), in units of 2^-10 ns. -/
  times : List Nat
deriving DecidableEq, Repr

/-- The Ethernet, IPv6 and UDP headers of a frame that a port sends (15 R382). -/
structure FabFrame where
  port : Nat
  dmac : Nat
  smac : Nat
  etype : Nat
  src : BitVec 128
  dst : BitVec 128
  hop : Nat
  /-- The DSCP over the two ECN bits. -/
  tclass : Nat
  sport : Nat
  dport : Nat
  /-- The UDP checksum is computed. -/
  csum : Bool
  /-- The Lyseb header (R384), the headers of its messages (R386), and the offer of a HELLO or ACCEPT (R389): majors as a mask, the
  highest minor, the feature bitmap. -/
  lyseb : BitVec 256
  heads : List (BitVec 128)
  offer : Option (Nat × Nat × Nat)
deriving DecidableEq, Repr

/-- A peer link besides its record (15 R387-R399). -/
structure Link where
  /-- Next PSN to send; unacknowledged packets, oldest first. -/
  nextPsn : Nat
  unacked : List FabPkt
  /-- Highest PSN received with no gap (2^32 - 1 before the first), and packets held out of order (R395). -/
  rxPsn : Nat
  held : List FabPkt
  /-- Packets received since the last ACK, and whether CE marks were seen. -/
  sinceAck : Nat
  ece : Bool
  /-- Congestion window in packets times 65,536, alpha times 65,536, RTO in ns (R396, R397). -/
  cwnd : Nat
  alpha : Nat
  rto : Nat
  /-- Transmission counter of the present key; the present KEYID; the old key still accepted (R391, R392). -/
  txc : Nat
  oldKey : Bool
  /-- A REKEY exchange is under way. -/
  rekeying : Bool
  /-- HELLO sent and unanswered; CLOSE sent. -/
  helloOut : Bool
  closeSent : Bool
  /-- What the handshake has negotiated (R389): features + 256 * minor + 4,096 * major. -/
  feat : Nat
  /-- Messages that wait to be sent again after RNR (R398), and the E-class queue (R406). -/
  rnr : List FabMsg
  equeue : List FabMsg
  bqueue : List FabMsg
  /-- Inbound requests accepted and not performed yet, oldest first (R398, R403). -/
  inq : List FabMsg
deriving DecidableEq, Repr

/-- An outbound fabric transaction (15 R399-R402): link, tag, initiator node and its tag, and for a core's write the VA
the core holds. -/
structure FabTxn where
  peer : Nat
  tag : Nat
  node : Nat
  ntag : Nat
  /-- The request as it was sent, for a resend after RNR (R398). -/
  msg : FabMsg
  va : Word
  /-- The initiator has had its answer: a core's write (R401). -/
  answered : Bool
  /-- Generation of the initiator (09 R251) and the limit of its timer (09 R248), at the issue. -/
  gen : Nat
  limit : Nat
  /-- OK while it is under way; a core's write that has failed keeps its status until the next FENCE.G (R401). -/
  status : Status
deriving DecidableEq, Repr

/-- A collective context besides its record (15 R410). -/
structure Coll where
  /-- Children whose COLLUP has been taken for this SEQ. -/
  got : List Nat
  /-- The outcome of the slot request, once it is known (05 R161). -/
  outcome : Option Nat
  /-- The record sent to the parent (R410 step 4), for a resend after RNR. -/
  sentUp : Option Record
deriving DecidableEq, Repr

/-- The fabric engine besides its registers (15). -/
structure Fab where
  links : KMap Link
  txns : List FabTxn
  nextTag : Nat
  colls : KMap Coll
  /-- Frames sent by the ports and frames handed to the Luna controller, as counts per port: Neighbor Advertisements and
  Echo Replies (R383), IEEE 1588 messages (R413). -/
  ndSent : KMap Nat
  ptp : List (Nat × Nat)
  /-- Handshake packets taken this second per port (R394). -/
  hsCount : KMap Nat
  /-- Atlas (R413-R415): 1588 good exchanges, probes of this frame (offset in units of 1 / 2,048,000 ns, round trip in
  units of 2^-10 ns), the smallest round trip of each of the last 64 frames, consecutive frames below 100 ps and with
  fewer than 4 good probes. -/
  coarseGood : Nat
  probes : List (Int × Int)
  rttHist : List Int
  lockGood : Nat
  lockBad : Nat
  /-- E-class slots that have started in this frame: slot to bytes left, and to the messages queued at their START that
  are not sent (R406, R408). -/
  eslots : KMap Nat
  eleft : KMap Nat
  /-- Packets sent, newest last, as (peer, packet type): what the network sees. -/
  sent : List (Nat × FabPkt)
  /-- The headers of those packets, one for each (R382). -/
  frames : List FabFrame
deriving DecidableEq, Repr

/-- An undo record of a partner entry (16 R429). -/
structure Undo where
  line : Nat
  frame : Nat
  data : LineData
  poison : BitVec 16
deriving DecidableEq, Repr

/-- A held output access (16 R431): frame, entry, initiator, and the host-bus access or the global line with its
message. -/
structure HeldOut where
  frame : Nat
  entry : Nat
  init : Init
  host : Option OutReq
  globl : Option (Nat × FabMsg)
deriving DecidableEq, Repr

/-- A mirror entry besides its registers (16). -/
structure Mirror where
  /-- START has sent OPEN and no answer has come (R423). -/
  opening : Bool
  /-- Marked lines of the frame being recorded, and of the frame being shipped (R426, R427). -/
  marks : List Nat
  ship : List Nat
  /-- The frame that holds the whole range (R428): 1, every bit of the marking bitmap is set; 2, it is being shipped and
  `ship` lists the lines whose bits are clear; 0 otherwise. -/
  bulk : Nat
  /-- The frame being shipped, the number of SHIPs of it, SEAL sent, its COMMIT held (R424, R430). -/
  frame : Nat
  ships : Nat
  sealed : Bool
  committed : Bool
  /-- A capture is under way (R424). -/
  capturing : Bool
  /-- Cores that stay stopped after a cut because of SWITCH (R437). -/
  stopped : List Nat
  /-- The partner's side: SHIPs performed of the frame, the undo log, newest first. -/
  performed : Nat
  undo : List Undo
  /-- SWITCH has been requested (R437), and sent. -/
  switching : Bool
  switchSent : Bool
  /-- A resumption is under way (R434). -/
  resuming : Bool
deriving DecidableEq, Repr

/-- A message of the pair link (16 R420). -/
structure PairMsg where
  typ : Nat
  entry : Nat
  psn : BitVec 16
  frame : Nat
  arg : Nat
  data : LineData
deriving DecidableEq, Repr

/-- The mirror pair besides its registers (16). -/
structure Pair where
  entries : KMap Mirror
  /-- Messages sent, newest last, and their headers as they stand on the link (R420). -/
  sent : List PairMsg
  wire : List (BitVec 128)
  /-- The hold area in order (R431). -/
  hold : List HeldOut
  /-- WACKs of inbound global writes into a mirrored range that wait for a commit (R432): peer, tag, entry, frame. -/
  wacks : List (Nat × Nat × Nat × Nat)
  /-- PKG_NUM of the partner, from CAPS (R419). -/
  peerPkg : Nat
  /-- STOP has arrived (R434). -/
  stopSeen : Bool
deriving DecidableEq, Repr

/-- A domain transition of PWR (18 R464, R465): the state it goes to and its step: 0 none, 1 clean, 2 fence CLOSING,
3 entering, 4 exiting. -/
structure Trans where
  target : Nat
  step : Nat
deriving DecidableEq, Repr

/-- Power besides its registers (18). -/
structure Pwr where
  /-- Transitions under way by domain. -/
  trans : KMap Trans
  /-- Cores for which the IRT holds a wake vote (17 R460). -/
  wakes : List Nat
  /-- The package command waiting or entering: OP, and whether the normal world gave it (R468). -/
  cmd : Option (Nat × Bool)
  /-- The package is exiting SLEEP or DEEP. -/
  exiting : Bool
  /-- PROCHOT_N is low (R471). -/
  prochot : Bool
  /-- THERMTRIP has stopped every clock (21 R536). -/
  tripped : Bool
deriving DecidableEq, Repr

/-- A fuse array (19 R486, R487, R490). -/
structure Fuses where
  prog : BitVec 4
  revoked : BitVec 4
  svn : Nat
deriving DecidableEq, Repr

/-- The boot and identity logic besides its registers (19). -/
structure Boot where
  /-- Stage whose work is under way; 0 while in reset. -/
  stage : Nat
  fuses : Fuses
  /-- The image buffer of the Luna controller (8 MiB), listed bytes, and the flash bytes (R480). -/
  buf : KMap Byte
  flash : KMap Byte
  /-- The 4-byte-address fast-read commands that the flash's SFDP table declares for one, four and eight lanes; empty where the
  flash has no such table (R479). -/
  sfdp : List Nat
  /-- What the controller has sent to the flash at boot: command, lanes, address (R479). -/
  flashSent : List (Nat × Nat × Nat)
  /-- A flash command under way; a SVNCOMMIT or REVOKE burns at once. -/
  spi : Option Word
  /-- A GO of recovery is under way, with PROGRAM (R494). -/
  going : Option Bool
  /-- The code of copy 0 where copy 1 is being tried (R478). -/
  code0 : Nat
  /-- Boot runs from the buffer, with no flash read (R494). -/
  fromBuf : Bool
  /-- The personality: 1 attached (R485). -/
  attached : Bool
  /-- SPDM requests answered per responder (R492): 0 DOE, 1 MCTP. -/
  spdm : KMap Nat
  /-- Start PA and boot core of the START record. -/
  start : Nat × Nat
  /-- Rails within tolerance and reset contacts (21). -/
  pwrok : Bool
  resetN : Bool
  /-- PWROK has fallen and no rise of RESET_N has taken effect since: the next is held until 10 ms after PWROK (21 R526). -/
  held : Bool
  wakeN : Bool
  /-- REFCLK0 is present; AOCLK runs from the internal oscillator (21 R523). -/
  refclk : Bool
  /-- Strap contacts as the board drives them (01 R20). -/
  straps : BitVec 12
  /-- The straps changed inside the hold window: what a capture gives is undefined (21 R526). -/
  strapGlitch : Bool
deriving DecidableEq, Repr

/-- The JTAG port and I3C management port (21 R530-R532). -/
structure Tap where
  ir : BitVec 8
  dr : BitVec 72
  diesel : Nat
  /-- Dies in stand-alone test mode (09 R267). -/
  standalone : List Nat
  /-- Boundary cells preloaded, and outputs driven by EXTEST or CLAMP, or high-impedance. -/
  cells : Nat
  drive : Nat
  /-- Response bytes of the last I3C private write, low byte first, and their count. -/
  i3cResp : List Byte
  /-- Offset of target 0x3B (19 R494). -/
  recOff : Nat
deriving DecidableEq, Repr

/-- Output contacts (02 R54, 20 R505, 21 R536). CATERR_N, ERR_N and TICK_OUT follow from the records; THERMTRIP_N holds. -/
structure Pins where
  catErr : Bool
  thermTrip : Bool
deriving DecidableEq, Repr

/-- A shadow of a tick-latched field (00 R8): the field and the value that the next edge applies. -/
structure Shadow where
  f : Fld
  v : Nat
deriving DecidableEq, Repr

/-- The whole package (00-21). `regs` holds the memory-mapped registers by their offset in the register space (01 R29);
an unlisted register holds its reset value (Machine/RegMap.lean). -/
structure State where
  /-- The commands that wait, first in, first out. -/
  pending : List Instr
  /-- The counter that free values are applied to. -/
  fresh : Nat
  /-- Live values of the memory-mapped registers. -/
  regs : KMap Word
  /-- Shadows of tick-latched fields (00 R8): register offset * 64 + lowest bit of the field. -/
  shad : KMap Shadow
  /-- RWO fields written since the reset of their block (00 R3), keyed like the shadows. -/
  rwo : List Nat
  cores : KMap Core
  dies : KMap Die
  homes : KMap Home
  chans : KMap Chan
  /-- System-cache lines by line number (11 R313). -/
  msc : KMap DcLine
  /-- Entries of the protected arrays that may hold bits in error (07 R211, 10 R279, R294, 11 R314), by key (Machine/Ops.lean): the
  number of the free value that says whether one is, or two. -/
  upsets : KMap Nat
  /-- DRAM, MRAM, the Chrysalis SRAM and the boot ROM by byte address (01 R23). -/
  mem : List Host.Cell
  /-- Check bits of memory words whose stored codeword is not the plain encoding of its data with P = 0 (11 R299), by
  word number (address / 8). -/
  chk : KMap (BitVec 16)
  tck : Tck
  held : List HeldSwarm
  /-- Interrupt sources by number (17 R455). -/
  srcs : KMap Src
  /-- Core last offered an interrupt of each group and world (17 R458). -/
  grpLast : KMap Nat
  /-- Owner states (17 R451): class * 4096 + index. -/
  owners : KMap Owner
  err : Err
  slots : KMap Slot
  /-- The pool's wait queue, oldest first (05 R164). -/
  waitq : List Waiter
  /-- Lease work that an edge has left to do (05 R166). -/
  poolEdge : PoolEdge
  /-- Sides of die-to-die ports (09): hub side 4 * site + direction, die side 48 + 4 * site + direction. -/
  d2d : KMap PortSide
  net : Net
  dmas : KMap Dma
  hb : Hb
  vsf : Vsf
  fab : Fab
  pair : Pair
  pwr : Pwr
  boot : Boot
  tap : Tap
  pins : Pins
deriving DecidableEq, Repr

/-- A die before its power-good has risen (01 R16). -/
def Die.reset : Die :=
  { sampled := false, dcache := .empty, filt := .empty, wb := [], reqs := [], flushing := false, nextTag := 0, timeAt := 0,
    timeRepl := 0 }

/-- A home agent after reset: the directory holds nothing (10). -/
def Home.reset : Home := { dir := .empty, trk := [], rsv := [], clock := 0 }

/-- A channel before its first training. -/
def Chan.reset : Chan := { mbuf := [], scrubQ := [], epoch := 0, hot := false, selfRefresh := false }

/-- An interrupt source after reset (17 R455). -/
def Src.reset : Src := { pend := false, active := none }

/-- A Praline slot after reset (05 R151). -/
def Slot.reset : Slot :=
  { value := 0, queue := [], ended := 0, released := false, port := none, dump := none,
    round := none }

/-- No lease work is due. -/
def PoolEdge.reset : PoolEdge := { expire := false, late := [], grant := false, free := [] }

/-- A side of a die-to-die port before training (09). -/
def PortSide.reset : PortSide :=
  { nextSeq := 0, lastGood := 0xFFF, replay := [], naks := 0, nakSeq := 0, stopped := false, rx := [], sent := [],
    ret := .empty, cred := .empty, nakDue := false, queue := [] }

/-- A DMA channel after reset (12 R325). -/
def Dma.reset : Dma :=
  { desc := none, fetching := false, writingBack := false, dstat := 0, bell := false, issued := 0, bytes := [],
    ctx := none, budget := 0, burst := 0, held := none, tout := 0 }

/-- A hot-plug slot after reset (13 R361-R364). -/
def HpSlot.reset : HpSlot :=
  { present := false, button := false, fault := false, pwren := false, attnLed := 0, pwrLed := 0, perst := false,
    cmdPending := false, cmdSent := false, perstDue := false, dropDue := false, sent := 0 }

/-- An endpoint function after reset (13 R339, R341). -/
def EpFunc.reset : EpFunc :=
  { bme := false, mse := false, d3hot := false, atsEn := false, resetting := false, pba := [], bar2 := 0,
    bar2size := 0, bar0 := 0 }

/-- A slice that does not exist (14 R379). -/
def Slice.reset : Slice :=
  { st := 0, run := false, amounts := 0, arg1 := 0, cores := [], grans := [], dmas := [], fctx := [], vec := 0 }

/-- A collective context with nothing under way (15 R410). -/
def Coll.reset : Coll := { got := [], outcome := none, sentUp := none }

/-- A peer link that is DOWN (15 R388). -/
def Link.reset : Link :=
  { nextPsn := 0, unacked := [], rxPsn := 0, held := [], sinceAck := 0, ece := false, cwnd := 0, alpha := 0,
    rto := 0, txc := 0, oldKey := false, rekeying := false, helloOut := false, closeSent := false,
    feat := 0, rnr := [], equeue := [], bqueue := [], inq := [] }

/-- A mirror entry with nothing recorded (16). -/
def Mirror.reset : Mirror :=
  { opening := false, marks := [], ship := [], bulk := 0, frame := 0, ships := 0, sealed := false, committed := false,
    capturing := false, stopped := [], performed := 0, undo := [], switching := false, switchSent := false,
    resuming := false }

/-- TCK after reset (02). -/
def Tck.reset : Tck :=
  { frac := 0, negLeft := 0, strobe := false, reached := [], xing := .empty, cycles := 0, inLast := none, inGood := 0,
    outHigh := false, outRise := 0, checks := [] }

/-- The error hardware after a cold reset (20). -/
def Err.reset : Err :=
  { stopped := false, halted := false, flushed := false, stopLogged := false, logq := [], second := 0, written := 0,
    dropSince := 0, dropRise := false }

/-- The network after reset (09). -/
def Net.reset : Net :=
  { msgs := [], taken := [], rr := .empty, shr := .empty, space := .empty, buckets := .empty, quar := [], tlbis := [], nextTlbi := 0, eslots := .empty, estarted := [], espill := .empty }

/-- The host-bus unit after reset (13). -/
def Hb.reset : Hb :=
  { cfg := .empty, out := [], slots := .empty, hpIn := BitVec.allOnes 256,
    funcs := .empty, vfEn := false, numVfs := 0, vfMse := false, pasidEn := false, ssid := 0, links := .empty, vfBar0 := 0, vfBar2 := 0, vfBar2size := 0,
    sent := [], msixTab := .empty, atc := .empty, iotlb := [], nextTag := 0 }

/-- The slice manager after reset (14). -/
def Vsf.reset : Vsf :=
  { slices := .empty, cmd := none, destroys := [], clean := [], zeroing := [], coreTag := .empty, votes := [], toReset := [],
    msix := [] }

/-- The fabric engine after reset (15). -/
def Fab.reset : Fab :=
  { links := .empty, txns := [], nextTag := 0, colls := .empty, ndSent := .empty, ptp := [], hsCount := .empty,
    coarseGood := 0, probes := [], rttHist := [], lockGood := 0, lockBad := 0, eslots := .empty, eleft := .empty,
    sent := [], frames := [] }

/-- The mirror pair after reset (16). -/
def Pair.reset : Pair := { entries := .empty, sent := [], wire := [], hold := [], wacks := [], peerPkg := 0, stopSeen := false }

/-- Power after reset (18). -/
def Pwr.reset : Pwr :=
  { trans := .empty, wakes := [], cmd := none, exiting := false, prochot := false, tripped := false }

/-- Fuses of the model's package: nothing programmed (DESIGN CHOICE: the fuses of a package are what its maker burned). -/
def Fuses.reset : Fuses := { prog := 0, revoked := 0, svn := 0 }

/-- The boot logic right after a cold reset: stage 1 is under way, power is good, every reference clock runs, the strap
contacts and the flash are the model's (DESIGN CHOICE). -/
def Boot.reset : Boot :=
  { stage := 1, fuses := Fuses.reset, buf := .empty, flash := .empty, sfdp := [], flashSent := [], spi := none, going := none, code0 := 0,
    fromBuf := false, attached := false, spdm := .empty, start := (0, 0), pwrok := true, resetN := true, held := false,
    wakeN := true, refclk := true, straps := 0, strapGlitch := false }

/-- The JTAG and I3C ports: IDCODE is selected after Test-Logic-Reset (21 R532). -/
def Tap.reset : Tap :=
  { ir := 2, dr := 0, diesel := 0, standalone := [], cells := 0, drive := 0, i3cResp := [], recOff := 0 }

/-- The package right after a cold reset (19 R474, R477): stage 1 of boot is under way, BOOT_STRAP is captured, every
register holds its reset value, every core is HELD, memory lists nothing, no command waits. -/
def State.reset : State :=
  { pending := [], fresh := 0,
    regs := ⟨[(0x2000000, 1)]⟩,
    shad := .empty, rwo := [], cores := .empty, dies := .empty, homes := .empty, chans := .empty, msc := .empty,
    upsets := .empty, mem := [], chk := .empty, tck := Tck.reset, held := [], srcs := .empty, grpLast := .empty, owners := .empty,
    err := Err.reset, slots := .empty, waitq := [], poolEdge := PoolEdge.reset, d2d := .empty, net := Net.reset, dmas := .empty, hb := Hb.reset,
    vsf := Vsf.reset, fab := Fab.reset, pair := Pair.reset, pwr := Pwr.reset, boot := Boot.reset, tap := Tap.reset,
    pins := { catErr := false, thermTrip := false } }

/-- Why a step stops with a fault. There is no reason: the spec names no command after which the package has no next
state (what it leaves open are values, which are free). -/
inductive Fault where
deriving DecidableEq, Repr

/-- Why a command has no meaning. -/
inductive Refusal where
  /-- The command has no meaning in the model yet; raised by the refused arms of Machine/Dispatch.lean only. Safe. -/
  | notModelled (mnemonic : String)
deriving DecidableEq, Repr

end Sys2Proof.Machine
end

