-- ==== Sys2Proof/Machine/Regs.lean ====
section
/-! DEFINITION. Reading and writing the memory-mapped registers: live values, shadows, the placement of an offset in
the register space (01 R29-R32), the effect of a write on each field (00 R3-R12) and the reset of a block. -/
namespace Sys2Proof.Machine

/-- The live value of a register: as stored, or its reset value. -/
def State.rg (s : State) (k : RegKind) (x : Nat := 0) (i : Nat := 0) (j : Nat := 0) : Word :=
  s.regs.getD (k.addr x i j) (k.resetAt i)

/-- Store a register. -/
def State.setRg (s : State) (w : Word) (k : RegKind) (x : Nat := 0) (i : Nat := 0) (j : Nat := 0) : State :=
  { s with regs := s.regs.set (k.addr x i j) w }

/-- The live value of a field. -/
def State.fd (s : State) (k : RegKind) (f : Fld) (x : Nat := 0) (i : Nat := 0) (j : Nat := 0) : Nat :=
  getF (s.rg k x i j) f

/-- A field that is one bit, as a Bool. -/
def State.fb (s : State) (k : RegKind) (f : Fld) (x : Nat := 0) (i : Nat := 0) (j : Nat := 0) : Bool :=
  s.fd k f x i j != 0

/-- Store a field. -/
def State.setFd (s : State) (k : RegKind) (f : Fld) (v : Nat) (x : Nat := 0) (i : Nat := 0) (j : Nat := 0) : State :=
  s.setRg (setF (s.rg k x i j) f v) k x i j

/-- Add 1 to a field that saturates. -/
def State.satFd (s : State) (k : RegKind) (f : Fld) (x : Nat := 0) (i : Nat := 0) (j : Nat := 0) : State :=
  s.setFd k f (satInc f.len (s.fd k f x i j)) x i j

/-- A register of the space: its kind, the instance of its block and its indices. -/
structure RRef where
  k : RegKind
  x : Nat
  i : Nat
  j : Nat
deriving DecidableEq, Repr

/-- The offset of a register. -/
def RRef.addr (r : RRef) : Nat := r.k.addr r.x r.i r.j

/-- The key of a field's shadow and of its RWO mark. -/
def RRef.key (r : RRef) (f : Fld) : Nat := r.addr * 64 + f.lo

/-- The register as a read finds it: every field with a shadow reads the shadow (00 R8). -/
def State.rdSh (s : State) (r : RRef) : Word :=
  r.k.spec.fields.foldl (fun w e =>
    match s.shad.get? (r.key e.f) with
    | some h => setF w h.f h.v
    | none => w) (s.rg r.k r.x r.i r.j)

/-- The instance that an offset names in a family of `n` single slots of 64 KiB (01 R30, R33). -/
def slotInst (b : Blk) (n plus off : Nat) : List (Blk × Nat) :=
  if (off % 0x200000) / 0x10000 < n then [(b, plus + (off % 0x200000) / 0x10000)] else []

/-- The blocks whose window holds an offset (01 R29-R33), none for a reserved offset. -/
def blkAt (off : Nat) : List (Blk × Nat) :=
  if off < 0x10000000 then
    match off / 0x200000 with
    | 0 => [(.tck, 0)]
    | 1 => [(.noc, 0)]
    | 2 => slotInst .d2d 12 0 off
    | 3 => slotInst .coh 16 0 off
    | 4 => slotInst .msc 16 0 off
    | 5 => slotInst .mem 16 0 off
    | 6 => slotInst .dma 16 192 off
    | 7 => slotInst .hbu 8 0 off
    | 8 => slotInst .fabm 8 0 off
    | 9 => [(.fab, 0)]
    | 10 => [(.prl, 0)]
    | 11 => [(.vsf, 0)]
    | 12 => [(.pair, 0)]
    | 13 => [(.wld, 0)]
    | 14 => [(.irt, 0)]
    | 15 => [(.pwr, 0)]
    | 16 => [(.boot, 0)]
    | 17 => [(.idn, 0)]
    | 18 => [(.erb, 0), (.erbx, 12)]
    | 19 => [(.mgt, 0)]
    | _ => []
  else if off < 0x30000000 then
    let d := (off - 0x10000000) / 0x1000000
    let r := off % 0x1000000
    if d < 12 then
      match r / 0x100000 with
      | 0 => [(.cda, d)]
      | 1 => [(.dnoc, d)]
      | 2 => [(.dd2d, d), (.d2d, 12 + d)]
      | 3 => if (r - 0x300000) / 0x8000 < 16 then [(.dma, 16 * d + (r - 0x300000) / 0x8000)] else []
      | 4 => [(.derb, d), (.erbx, d)]
      | _ => []
    else []
  else if 0x40000000 ≤ off ∧ off < 0x80000000 then
    let d := (off - 0x40000000) / 0x2000000
    let c := (off % 0x2000000) / 0x100000
    if d < 12 ∧ c < 18 then [(.core, 18 * d + c)] else []
  else []

/-- Whether kind `k` of a block lies at offset `o` of instance `x`, and with which indices. -/
def matchKind (b : Blk) (x o : Nat) (k : RegKind) : Option RRef :=
  let p := k.spec
  if p.blk = b ∧ p.off ≤ o then
    let r := o - p.off
    let i := if p.n1 ≤ 1 then 0 else r / p.s1
    let r1 := r - i * p.s1
    let j := if p.n2 ≤ 1 then 0 else r1 / p.s2
    if r1 = j * p.s2 ∧ i < p.n1 ∧ j < p.n2 ∧ (b = .erbx → x = 12 ∨ i < 22) then some ⟨k, x, i, j⟩ else none
  else none

/-- The register at an offset, none where no table defines one (00 R4). -/
def findReg (off : Nat) : Option RRef :=
  (blkAt off).findSome? (fun p => RegKind.all.findSome? (matchKind p.1 p.2 (off - p.1.base p.2)))

/-- What an access reaches: a register, the bits of it that the access addresses, and their lowest bit (00 R6). -/
structure Hit where
  r : RRef
  mask : Word
  sh : Nat
deriving DecidableEq, Repr

/-- The register and the half that an access of 32 or 64 bits at an offset reaches (00 R6). -/
def hitOf (off width : Nat) : Option Hit :=
  match findReg off with
  | some r =>
    if r.k.spec.wide && width == 64 then some ⟨r, BitVec.allOnes 64, 0⟩
    else some ⟨r, 0xFFFFFFFF, 0⟩
  | none =>
    if off % 8 = 4 ∧ width = 32 then
      match findReg (off - 4) with
      | some r => if r.k.spec.wide then some ⟨r, 0xFFFFFFFF00000000, 32⟩ else none
      | none => none
    else none

/-- Whether an access has a width and an alignment that registers take (00 R6). -/
def regAccessOk (off width : Nat) : Bool :=
  (width == 32 && off % 4 == 0) || (width == 64 && off % 8 == 0)

/-- The bytes a block instance's window takes (01 R30-R32). -/
def Blk.size (b : Blk) : Nat :=
  match b with
  | .d2d | .coh | .msc | .mem | .hbu | .fabm => 0x10000
  | .dma => 0x8000
  | .cda | .dnoc | .dd2d | .derb => 0x100000
  | .core => 0x100000
  | .erbx => 0x200000
  | .tck | .noc | .fab | .prl | .vsf | .pair | .wld | .irt | .pwr | .boot | .idn | .erb | .mgt => 0x200000
  | .recov => 0x1000

/-- Whether a register offset lies in a block instance's window. -/
def inBlk (b : Blk) (x off : Nat) : Bool := b.base x ≤ off && off < b.base x + b.size

/-- TPEND of a block instance (00 R9): a shadow of it waits for an edge. -/
def State.tpend (s : State) (b : Blk) (x : Nat := 0) : Bool :=
  s.shad.l.any (fun e => inBlk b x (e.1 / 64))

/-- Copy the shadows of the registers for which `p` holds to their live fields (00 R8, 02 R46). -/
def State.applyShadows (s : State) (p : Nat → Bool) : State :=
  let due := s.shad.l.filter (fun e => p (e.1 / 64))
  { s with
    regs := due.foldl (fun m e => m.set (e.1 / 64) (setF (m.getD (e.1 / 64) 0) e.2.f e.2.v)) s.regs
    shad := s.shad.keep (fun key => !p (key / 64)) }

/-- Reset the registers for which `p` holds: live values, shadows and RWO marks (00 R3, 02 R53). -/
def State.resetRegs (s : State) (p : Nat → Bool) : State :=
  { s with
    regs := s.regs.keep (fun a => !p a)
    shad := s.shad.keep (fun key => !p (key / 64))
    rwo := s.rwo.filter (fun key => !p (key / 64)) }

/-- Reset every register of a block instance. -/
def State.resetBlk (s : State) (b : Blk) (x : Nat := 0) : State := s.resetRegs (inBlk b x)

/-- Write a shadow; the register is listed, so that the edge finds its other fields. -/
def State.setShadow (s : State) (r : RRef) (f : Fld) (v : Nat) : State :=
  { s with
    regs := s.regs.set r.addr (s.rg r.k r.x r.i r.j)
    shad := s.shad.set (r.key f) ⟨f, v⟩ }

/-- What the fields of one register do with a write: the state, whether a Q field was rejected (00 R10) and whether the
normal world wrote an SRW field (00 R3). -/
structure WOut where
  s : State
  werr : Bool
  viol : Bool

/-- One field of a register under a write (00 R3, R7, R8, R10, R11). `old` is the register as it read before, `quiet` that
the block is idle, `skip` names values a field ignores. -/
def writeField (r : RRef) (mask data old : Word) (sec quiet : Bool) (skip : Fld → Nat → Bool) (o : WOut) (e : FSpec) :
    WOut :=
  if maskF e.f &&& mask = 0 then o
  else
    let v := getF ((old &&& ~~~mask) ||| (data &&& mask)) e.f
    match e.ty with
    | .ro => o
    | .wo => o
    | .w1c =>
      let w := o.s.rg r.k r.x r.i r.j
      { o with s := o.s.setRg (w &&& ~~~(data &&& mask &&& maskF e.f)) r.k r.x r.i r.j }
    | .w1s =>
      let w := o.s.rg r.k r.x r.i r.j
      { o with s := o.s.setRg (w ||| (data &&& mask &&& maskF e.f)) r.k r.x r.i r.j }
    | .rwo =>
      if skip e.f v || o.s.rwo.contains (r.key e.f) then o
      else { o with s := { o.s.setFd r.k e.f v r.x r.i r.j with rwo := r.key e.f :: o.s.rwo } }
    | _ =>
      if e.ty = .srw && !sec then { o with viol := true }
      else if skip e.f v then o
      else
        match e.cls with
        | .l => { o with s := o.s.setFd r.k e.f v r.x r.i r.j }
        | .t => { o with s := o.s.setShadow r e.f v }
        | .q =>
          if quiet then { o with s := o.s.setFd r.k e.f v r.x r.i r.j }
          else { o with werr := true }

/-- Every field of a register under a write (00 R11). -/
def writeFields (s : State) (h : Hit) (data : Word) (sec quiet : Bool) (skip : Fld → Nat → Bool) : WOut :=
  let d := data <<< h.sh
  h.r.k.spec.fields.foldl (writeField h.r h.mask d (s.rdSh h.r) sec quiet skip) ⟨s, false, false⟩

/-- The value a read returns for a register's word: WO fields read zero; SRW fields read zero to the normal world unless
the reader may see them (00 R3, R4). -/
def readMask (fl : List FSpec) (sec : Bool) (w : Word) : Word :=
  fl.foldl (fun a e =>
    if e.ty = .wo || (e.ty = .srw && !sec) then a else a ||| (w &&& maskF e.f)) 0

/-- The value a hit returns from a register's read word. -/
def hitValue (h : Hit) (w : Word) : Word := (w &&& h.mask) >>> h.sh

end Sys2Proof.Machine
end

