-- ==== Sys2Proof/Machine/Packet.lean ====
section
/-! DEFINITION. Packets on their way through the network (09 R239-R246, R253-R255): classes, virtual channels, priorities
and credits, the route tables, the arbiters, the injection regulators. Links by number: 1 + 2 * (4 * site + direction) is a
die-to-die port toward the hub and that plus 1 toward the die; 1000 + node is a node's link into its mesh or spine; 6000 +
node is the link from there into the node's input queue. A packet's place is the link whose receiver's input queue holds
it, or 0 in its NI. -/
namespace Sys2Proof.Machine

/-- The STATUS code of R240 (09). -/
def Status.code : Status → Nat
  | .ok => 0
  | .decerr => 1
  | .targetReset => 2
  | .targetOff => 3
  | .tout => 4
  | .ur => 6
  | .masterOff => 7
  | .retry => 8
  | .stale => 9

/-- The virtual channel of a packet (R242): requests and replies of MGT travel apart. -/
def vcOf (cls op : Nat) : Nat :=
  if cls = 5 then (if op = 0x02 ∨ op = 0x09 ∨ op = 0x11 then 6 else 5) else cls

/-- Whether a node is a core or a CDA, whose requests are those of cores (R243). -/
def coreLike (node : Nat) : Bool := node / 256 < 12 && (node % 256 < 18 || node % 256 == 0x20)

/-- The default priority (R242, R243): demand requests of cores have 1, their write-backs and every other initiator's
requests 0. -/
def prioOf (cls op src : Nat) : Nat :=
  match cls with
  | 0 => if coreLike src && !(0x10 ≤ op && op ≤ 0x12) then 1 else 0
  | 1 => 2
  | 2 => 2
  | 3 => 1
  | 4 => 2
  | _ => 3

/-- Payload units of a packet (10 R272-R275): a line takes 8, a byte mask or a poison unit one more. -/
def unitsOf (cls op : Nat) (poison : BitVec 16) : Nat :=
  let p := if poison = 0 then 0 else 1
  match cls with
  | 0 => if op = 0x05 then 8 else if op = 0x06 ∨ op = 0x19 then 9 else if op = 0x09 ∨ op = 0x0A then 2
         else if op = 0x10 ∨ op = 0x11 then 8 + p else 0
  | 3 => if op = 0x20 then 1 else 8 + p
  | 4 => if op = 0x05 then 8 else 9
  | 5 => if op = 0x01 ∨ op = 0x02 then 1 else 0
  | _ => 0

/-- A packet with its default priority and length, not yet stamped with a route version. -/
def Msg.mk' (cls op dst src gen tag : Nat) (sec : Bool) (status : Status) (addr : Nat) (data : LineData)
    (poison : BitVec 16) (slice : Nat := 0xFF) : Msg :=
  { cls := cls, op := op, dst := dst, src := src, gen := gen, tag := tag, sec := sec, status := status, addr := addr,
    data := data, poison := poison, prio := prioOf cls op src, rv := 0, len := unitsOf cls op poison, slice := slice,
    place := 0, since := 0 }

/-- Bytes of a packet, its header included (R239). -/
def Msg.bytes (m : Msg) : Nat := 16 + 16 * m.len

/-- The credits a packet needs (R242): one for each 32 bytes. -/
def Msg.credits (m : Msg) : Nat := (m.bytes + 31) / 32

/-- The virtual channel of a packet. -/
def Msg.vc (m : Msg) : Nat := vcOf m.cls m.op

/-- The credits of a virtual channel on a die-to-die port direction (R242). -/
def vcCredits (vc : Nat) : Nat := [128, 96, 96, 512, 256, 64, 64].getD vc 0

/-- The credits of a virtual channel on a link: mesh and spine links have half of a die-to-die port's (R242). -/
def linkCredits (link vc : Nat) : Nat := if link ≤ 96 then vcCredits vc else vcCredits vc / 2

/-! Route tables (R253-R255). -/

/-- The hash class of an address (R253). -/
def hashClass (a : Nat) : Nat := ((a / 128) ^^^ (a / 1024) ^^^ (a / 8192)) % 8

/-- The next live port at or after hub direction `h`, clockwise (R254). -/
def State.liveFrom (s : State) (site : Nat) : Nat → Nat → Option Nat
  | 0, _ => none
  | n + 1, h =>
    if (s.fd .D2D_PEER D2D_PEER.LIVE site).testBit (h % 4) then some (h % 4) else s.liveFrom site n (h + 1)

/-- The hub direction by which a packet for site `site` leaves the hub spine (R253, R254). -/
def State.hubRoute (s : State) (bank site addr : Nat) : Option Nat :=
  s.liveFrom site 4 (getF (s.rg .NOC_RT 0 bank site) ⟨8 * hashClass addr, 2⟩)

/-- The hub direction by which a packet for die field `dst` leaves die `site` (R253, R254). -/
def State.dieRoute (s : State) (bank site dst addr : Nat) : Option Nat :=
  let p := getF (s.rg .NOC_DRT site bank dst) ⟨8 * hashClass addr, 2⟩
  s.liveFrom site 4 (s.fd .D2D_SITE D2D_SITE.ROT site + 4 - p)

/-- The link that a packet takes next (R253): none from its destination's input queue, or while no port is live. -/
def State.nextLink (s : State) (m : Msg) : Option Nat :=
  let sd := m.src / 256
  let dd := m.dst / 256
  let down := (s.hubRoute m.rv dd m.addr).map (fun h => 2 * (4 * dd + h) + 2)
  if m.place = 0 then some (1000 + m.src)
  else if 6000 ≤ m.place then none
  else if 1000 ≤ m.place then
    if sd = dd then some (6000 + m.dst)
    else if sd < 12 then (s.dieRoute m.rv sd dd m.addr).map (fun h => 2 * (4 * sd + h) + 1)
    else if dd < 12 then down else some (6000 + m.dst)
  else if m.place % 2 = 1 ∧ dd < 12 then down
  else some (6000 + m.dst)

/-! Queues and arbiters (R242-R244). -/

/-- Two packets share an input queue: the same place and virtual channel, and in an NI the same source. -/
def Msg.sameQueue (a b : Msg) : Bool := a.place == b.place && a.vc == b.vc && (a.place != 0 || a.src == b.src)

/-- The credits in use of a link's virtual channel: packets in its receiver's input queue. A reply in its destination's
queue takes none: its receiver has reserved the space and drains it at once (R244). -/
def State.usedCredits (s : State) (link vc : Nat) : Nat :=
  s.net.msgs.foldl (fun n m =>
    if m.place = link && m.vc == vc && !(6000 ≤ link && (vc == 2 || vc == 3 || vc == 6)) then n + m.credits else n) 0

/-- The regulator of a node's NI (R246): EN, RATE and BURST as they act, in bytes per cycle and bytes. -/
def State.regulator (s : State) (node : Nat) : Bool × Nat × Nat :=
  let d := node / 256
  let a := node % 256
  let w := if d < 12 then s.rg .NOC_DIRR d a else s.rg .NOC_IRR 0 a
  (getF w NOC_IRR.EN == 1, max 1 (getF w NOC_IRR.RATE), 64 * max 10 (getF w NOC_IRR.BURST))

/-- The bytes in a node's bucket (R246): credited in steps of 64 cycles, up to the limit. What a bucket holds when its
regulator first acts is free. -/
def State.bucket (s : State) (node : Nat) : Nat :=
  let (_, rate, limit) := s.regulator node
  match s.net.buckets.get? node with
  | some b => min limit (b.1 + rate * 64 * (s.tck.cycles / 64 - b.2 / 64))
  | none => Config.freeNat (s.fresh + node) % (limit + 1)

/-- A regulator lets a packet into its NI's link: REQ and DAT only are counted (R246). -/
def State.regulated (s : State) (m : Msg) : Bool := m.place == 0 && (m.cls == 0 || m.cls == 3) && (s.regulator m.src).1

/-- The credits of VC 0 on a node's first link that new requests leave free (10 R290): one for the reissue of a granted
reservation, while the node has a reservation at a home and the packet is not that reissue. -/
def State.reissueCredit (s : State) (m : Msg) : Nat :=
  let mine := s.homes.l.any (fun e => e.2.rsv.any (fun v => v.node == m.src))
  let this := s.homes.l.any (fun e => e.2.rsv.any (fun v => v.granted && v.node == m.src && v.gen == m.gen && v.tag == m.tag))
  if m.place = 0 ∧ m.vc = 0 ∧ mine ∧ !this then 1 else 0

/-- Whether a packet can move to a link: room for it, and the regulator's leave. -/
def State.canMove (s : State) (m : Msg) (link : Nat) : Bool :=
  s.usedCredits link m.vc + m.credits + s.reissueCredit m ≤ linkCredits link m.vc &&
    (!s.regulated m || decide (m.bytes ≤ s.bucket m.src))

/-- The packets at the head of their queues, with their indexes: no packet before them is in the same queue. -/
def headsFrom (seen : List Msg) (i : Nat) : List Msg → List (Nat × Msg)
  | [] => []
  | m :: t =>
    (if seen.any (Msg.sameQueue m) then [] else [(i, m)]) ++ headsFrom (m :: seen) (i + 1) t

/-- VC 4 is below its share of a link's cycles (R256): while a slot is active the arbiters give it ESHARE/256 at least. -/
def State.epcDue (s : State) (link : Nat) : Bool :=
  let c := s.net.shr.getD link (0, 0)
  !s.net.eslots.l.isEmpty && decide (c.2 * 256 < min 128 (s.fd .NOC_ECTL NOC_ECTL.ESHARE) * (c.1 + 1))

/-- The order in which an arbiter serves the head packets that can move (R243, R256): VC 4 below its share, then one that has
waited 512 cycles, then the higher priority; among equals the queue after the one served last. -/
def State.before (s : State) (link : Nat) (a b : Msg) : Bool :=
  let epc := fun (m : Msg) => s.epcDue link && m.vc == 4
  let old := fun (m : Msg) => decide (m.since + 512 ≤ s.tck.cycles)
  let key := fun (m : Msg) => (m.place * 4096 + m.src) * 8 + m.vc
  let turn := fun (m : Msg) => decide (s.net.rr.getD link 0 < key m)
  if epc a != epc b then epc a
  else if old a != old b then old a
  else if a.prio != b.prio then decide (b.prio < a.prio)
  else if turn a != turn b then turn a
  else decide (key a < key b)

/-- The packet that the arbiters serve next: its index, the packet and its link. -/
def State.serve (s : State) : Option (Nat × Msg × Nat) :=
  (headsFrom [] 0 s.net.msgs).foldl (fun best e =>
    match s.nextLink e.2 with
    | none => best
    | some l =>
      if !s.canMove e.2 l then best
      else
        match best with
        | none => some (e.1, e.2, l)
        | some b => if b.2.2 = l ∧ s.before l e.2 b.2.1 then some (e.1, e.2, l) else best) none

/-- The credits of a packet that leaves a die-to-die port's queue are its receiver's to return (R242, R260): the hub side's
for a link toward the hub. -/
def State.returnCredits (s : State) (m : Msg) : State :=
  if m.place = 0 ∨ 96 < m.place then s
  else
    let key := (if m.place % 2 = 1 then 0 else 48) + (m.place - 1) / 2
    let v := s.d2d.getD key PortSide.reset
    { s with d2d := s.d2d.set key { v with ret := v.ret.set m.vc (v.ret.getD m.vc 0 + m.credits) } }

/-- A side of a die-to-die port spends credits for a packet that it sends (R242): the die's side toward the hub. -/
def State.spendCredits (s : State) (m : Msg) (link : Nat) : State :=
  if 96 < link then s
  else
    let key := (if link % 2 = 1 then 48 else 0) + (link - 1) / 2
    let v := s.d2d.getD key PortSide.reset
    { s with d2d := s.d2d.set key { v with cred := v.cred.set m.vc (v.cred.getD m.vc 0 - m.credits) } }

/-- A packet moves to a link's receiver, behind those already there. -/
def State.moveTo (s : State) (i : Nat) (m : Msg) (link : Nat) : State :=
  let s1 := (s.returnCredits m).spendCredits m link
  let c := s.net.shr.getD link (0, 0)
  { s1 with net := { s1.net with
      msgs := s1.net.msgs.eraseIdx i ++ [{ m with place := link, since := s.tck.cycles }]
      rr := s1.net.rr.set link ((m.place * 4096 + m.src) * 8 + m.vc)
      shr := if s.net.eslots.l.isEmpty then s1.net.shr
             else s1.net.shr.set link (c.1 + m.credits, c.2 + (if m.vc = 4 then m.credits else 0))
      buckets := if s.regulated m then s.net.buckets.set m.src (s.bucket m.src - m.bytes, s.tck.cycles)
                 else s1.net.buckets } }

/-- The packets move as far as credits let them. -/
def State.netMoves : Nat → State → State
  | 0, s => s
  | n + 1, s =>
    match s.serve with
    | none => s
    | some (i, m, l) => State.netMoves n (s.moveTo i m l)

/-- The network works until nothing can move: every packet takes at most four links. -/
def State.netRun (s : State) : State :=
  if s.net.msgs.all (fun m => 6000 ≤ m.place) then s else State.netMoves (4 * s.net.msgs.length) s

/-- A packet as its NI injects it (R255): stamped with the active route version. -/
def State.stamp (s : State) (m : Msg) : Msg :=
  { m with rv := s.fd .NOC_RT_STATUS NOC_RT_STATUS.ACTIVE, place := 0, since := s.tck.cycles }

/-- The credits of the largest reply that a request can draw (R244; 10 R281): a line with a poison unit, an atomic's old value, or a
packet without payload. -/
def replyCredits (cls op : Nat) : Nat :=
  match cls with
  | 0 => if op = 0x00 ∨ op = 0x01 ∨ op = 0x02 ∨ op = 0x04 ∨ op = 0x18 then 5 else 1
  | 1 => 5
  | 5 => 1
  | _ => 0

/-- Whether a packet is a request, for whose replies its source holds space (R244). -/
def Msg.isRequest (m : Msg) : Bool := m.cls == 0 || m.cls == 1 || m.vc == 5

/-- The space for a request's replies is reserved as it is issued, and free again when its reply is taken (R244). -/
def State.reserve (s : State) (m : Msg) : State :=
  if m.isRequest then { s with net := { s.net with space := s.net.space.set m.src (s.net.space.getD m.src 0 + replyCredits m.cls m.op) } }
  else s
def State.unreserve (s : State) (m : Msg) : State :=
  if m.isRequest then s
  else { s with net := { s.net with space := s.net.space.set m.dst (s.net.space.getD m.dst 0 - m.credits) } }

/-- An NI injects a packet (R239), a request with space reserved for its replies (R244). -/
def State.send (s : State) (m : Msg) : State :=
  let s1 := s.reserve m
  State.netRun { s1 with net := { s1.net with msgs := s1.net.msgs ++ [s.stamp m] } }

/-- A packet that its receiver has taken in the step that sent it; `net.taken` records it. -/
def State.deliver (s : State) (m : Msg) : State := { s with net := { s.net with taken := s.net.taken ++ [s.stamp m] } }

/-- The list without its first element of which `p` holds. -/
def dropFirst {α : Type} (p : α → Bool) : List α → List α
  | [] => []
  | a :: t => if p a then t else a :: dropFirst p t

/-- The packet that a row brings leaves the network, if it is there (R239): its credits are free again. -/
def State.consume (s : State) (p : Msg → Bool) : State :=
  match s.net.msgs.find? p with
  | none => s
  | some m =>
    let s1 := (s.returnCredits m).unreserve m
    State.netRun { s1 with net := { s1.net with msgs := dropFirst p s1.net.msgs } }

/-- Packets of the route version that is not active (R255). -/
def State.oldPackets (s : State) : Nat :=
  (s.net.msgs.filter (fun m => m.rv != s.fd .NOC_RT_STATUS NOC_RT_STATUS.ACTIVE)).length

end Sys2Proof.Machine
end

