-- ==== Sys2Proof/Machine/Ops.lean ====
section
/-! DEFINITION. The named operations over the state that the families share: free values, the parts of the state by
number, node IDs, package time, interrupt events, world violations (17 R454), error records (20 R499) and the trigger
of a domain stop (20 R508). -/
namespace Sys2Proof.Machine

/-- What a meaning that always has a next state answers. -/
abbrev Out := Host.Outcome State Fault Refusal

/-- A fresh free bit, and the counter advanced. -/
def State.drawBit (s : State) : Bool × State := (Config.freeBit s.fresh, { s with fresh := s.fresh + 1 })

/-- A fresh free number. -/
def State.drawNat (s : State) : Nat × State := (Config.freeNat s.fresh, { s with fresh := s.fresh + 1 })

/-- A fresh free word. -/
def State.drawWord (s : State) : Word × State := (Config.freeWord s.fresh, { s with fresh := s.fresh + 1 })

/-- A fresh free line. -/
def State.drawLine (s : State) : LineData × State := (Config.freeLine s.fresh, { s with fresh := s.fresh + 1 })

/-! Parts of the state by number. -/

def State.core (s : State) (n : Nat) : Core := s.cores.getD n Core.reset
def State.setCore (s : State) (n : Nat) (c : Core) : State := { s with cores := s.cores.set n c }
def State.modCore (s : State) (n : Nat) (f : Core → Core) : State := s.setCore n (f (s.core n))
def State.die (s : State) (d : Nat) : Die := s.dies.getD d Die.reset
def State.setDie (s : State) (d : Nat) (v : Die) : State := { s with dies := s.dies.set d v }
def State.home (s : State) (h : Nat) : Home := s.homes.getD h Home.reset
def State.setHome (s : State) (h : Nat) (v : Home) : State := { s with homes := s.homes.set h v }
def State.chan (s : State) (h : Nat) : Chan := s.chans.getD h Chan.reset
def State.setChan (s : State) (h : Nat) (v : Chan) : State := { s with chans := s.chans.set h v }
def State.dma (s : State) (i : Nat) : Dma := s.dmas.getD i Dma.reset
def State.setDma (s : State) (i : Nat) (v : Dma) : State := { s with dmas := s.dmas.set i v }
def State.slot (s : State) (n : Nat) : Slot := s.slots.getD n Slot.reset
def State.setSlot (s : State) (n : Nat) (v : Slot) : State := { s with slots := s.slots.set n v }
def State.src (s : State) (n : Nat) : Src := s.srcs.getD n Src.reset
def State.setSrc (s : State) (n : Nat) (v : Src) : State := { s with srcs := s.srcs.set n v }
def State.port (s : State) (p : Nat) : PortSide := s.d2d.getD p PortSide.reset
def State.setPort (s : State) (p : Nat) (v : PortSide) : State := { s with d2d := s.d2d.set p v }
def State.link (s : State) (n : Nat) : Link := s.fab.links.getD n Link.reset
def State.setLink (s : State) (n : Nat) (v : Link) : State := { s with fab := { s.fab with links := s.fab.links.set n v } }
def State.mirror (s : State) (n : Nat) : Mirror := s.pair.entries.getD n Mirror.reset
def State.setMirror (s : State) (n : Nat) (v : Mirror) : State :=
  { s with pair := { s.pair with entries := s.pair.entries.set n v } }
def State.slice (s : State) (n : Nat) : Slice := s.vsf.slices.getD n Slice.reset
def State.setSlice (s : State) (n : Nat) (v : Slice) : State :=
  { s with vsf := { s.vsf with slices := s.vsf.slices.set n v } }

/-! Node IDs (09 R236). -/

/-- The node ID of a core. -/
def coreNode (n : Nat) : Nat := (n / 18) * 256 + n % 18
/-- The node ID of a die's CDA. -/
def cdaNode (d : Nat) : Nat := d * 256 + 0x20
/-- The node ID of a home agent. -/
def homeNode (h : Nat) : Nat := 0xF00 + h
/-- The node ID of a system-cache slice. -/
def mscNode (h : Nat) : Nat := 0xF10 + h
/-- The node ID of a memory channel. -/
def memNode (h : Nat) : Nat := 0xF20 + h
/-- The node ID of a DMA channel. -/
def dmaNode (i : Nat) : Nat := if i < 192 then (i / 16) * 256 + 0x40 + i % 16 else 0xF30 + (i - 192)
/-- The node ID of a host-bus controller. -/
def hbNode (k : Nat) : Nat := 0xF40 + k
/-- The node ID of the fabric engine. -/
def fabNode : Nat := 0xF50
/-- The node ID of a hub block of the list VSF, PAIR, WLD, IRT, PWR, BOOT, IDN, ERB, MGT, TCK. -/
def hubNode (i : Nat) : Nat := 0xF60 + i
/-- The node ID of the Luna controller. -/
def lunaNode : Nat := 0xF80
/-- The node ID of the hub IOTLB. -/
def iotlbNode : Nat := 0xF81
/-- The core that a node ID names, if any. -/
def nodeCore (n : Nat) : Option Nat :=
  if n / 256 < 12 ∧ n % 256 < 18 then some ((n / 256) * 18 + n % 256) else none
/-- The DMA channel that a node ID names, if any. -/
def nodeDma (n : Nat) : Option Nat :=
  if n / 256 < 12 ∧ 0x40 ≤ n % 256 ∧ n % 256 < 0x50 then some ((n / 256) * 16 + (n % 256 - 0x40))
  else if 0xF30 ≤ n ∧ n < 0xF40 then some (192 + (n - 0xF30)) else none
/-- The agent fields that 09 R236 assigns on a compute die, and on the hub. -/
def dieAgents : List Nat :=
  List.range 18 ++ [0x20] ++ (List.range 16).map (fun k => 0x30 + k) ++ (List.range 16).map (fun k => 0x40 + k) ++ [0x60, 0x70, 0x78]
def hubAgents : List Nat :=
  List.range 0x51 ++ (List.range 4).map (fun k => 0x58 + k) ++ (List.range 11).map (fun k => 0x60 + k) ++
    (List.range 12).map (fun k => 0x70 + k) ++ [0x80, 0x81]

/-- Every node ID that 09 R236 assigns; the others are reserved. -/
def allNodes : List Nat :=
  (List.range 12).flatMap (fun d => dieAgents.map (fun a => d * 256 + a)) ++ hubAgents.map (fun a => 0xF00 + a)

/-- A node ID is assigned (09 R236). -/
def nodeAssigned (n : Nat) : Bool :=
  (decide (n / 256 < 12) && dieAgents.contains (n % 256)) || (n / 256 == 15 && hubAgents.contains (n % 256))

/-- The generation of a node (09 R252): a core's own, else NOC_AGENT.GEN of its die field and agent field. -/
def State.genOf (s : State) (node : Nat) : Nat := s.fd .NOC_AGENT NOC_AGENT.GEN 0 (node / 256) (node % 256)

/-! Package time (02). -/

/-- Whole nanoseconds of package time (R45). -/
def State.nowNs (s : State) : Nat := (s.rg .TCK_TIME_NS).toNat
/-- The frame number (R45). -/
def State.frameNo (s : State) : Nat := s.fd .TCK_FRAME TCK_FRAME.FRAME
/-- The tick runs (R49). -/
def State.ticking (s : State) : Bool := s.fb .TCK_STATUS TCK_STATUS.RUNNING

/-- Power is good and every clock runs: what goes on during a domain stop and in package SLEEP and DEEP (20 R510, 18
R469). -/
def State.powered (s : State) : Bool := s.boot.pwrok && !s.pwr.tripped && s.boot.resetN

/-- Package time in units of 2^-32 ns (R45). -/
def State.timeU (s : State) : Nat := s.nowNs * 2 ^ 32 + s.tck.frac

/-- Set package time and what is left of a negative step. -/
def State.setTimeU (s : State) (t neg : Nat) : State :=
  { s.setRg (BitVec.ofNat 64 (t / 2 ^ 32)) .TCK_TIME_NS with tck := { s.tck with frac := t % 2 ^ 32, negLeft := neg } }

/-- TICK_OUT after package time has moved on from `old` units (R54): a whole second raises it in mode 3, and it falls when OWIDTH has
elapsed. -/
def State.outTick (s : State) (old : Nat) : State :=
  let sec := s.nowNs / 1000000000
  let s1 := if s.fd .TCK_IO TCK_IO.OMODE = 3 ∧ old / 2 ^ 32 / 1000000000 < sec then
      { s with tck := { s.tck with outHigh := true, outRise := sec * 1000000000 } } else s
  if s1.tck.outRise + max 8 (s1.fd .TCK_IO TCK_IO.OWIDTH) ≤ s1.nowNs then { s1 with tck := { s1.tck with outHigh := false } } else s1

/-- `k` cycles of the counter have brought package time to `t` units. -/
def State.passTo (s : State) (t neg k : Nat) : State :=
  let s1 := (s.setTimeU t neg).outTick s.timeU
  { s1 with tck := { s1.tck with cycles := s1.tck.cycles + k } }

/-- Increment per cycle: TCK_RATE, or 40 ns of AOCLK in package SLEEP and DEEP (18 R469). -/
def State.timeInc (s : State) : Nat :=
  if s.fd .PWR_STATUS PWR_STATUS.PKG = 0 then s.fd .TCK_RATE TCK_RATE.RATE else 40 * 2 ^ 32

/-- One cycle of the counter; a negative step is absorbed at half rate (R48). -/
def State.cycle (s : State) : State :=
  let r := s.timeInc
  if s.tck.negLeft = 0 then s.passTo (s.timeU + r) 0 1
  else s.passTo (s.timeU + r / 2) (s.tck.negLeft - (r - r / 2)) 1

/-- `a` divided by `b`, rounded up. -/
def ceilDiv (a b : Nat) : Nat := (a + b - 1) / b

/-- Cycles until a negative step is used up. -/
def State.halfCycles (s : State) : Nat := ceilDiv s.tck.negLeft (s.timeInc - s.timeInc / 2)

/-- The cycles pass until package time first reaches or passes `target` units. -/
def State.advanceTo (s : State) (target : Nat) : State :=
  let r := s.timeInc
  let t := s.timeU
  if target ≤ t then s
  else
    let k := s.halfCycles
    let need := ceilDiv (target - t) (r / 2)
    if need ≤ k then s.passTo (t + need * (r / 2)) (s.tck.negLeft - need * (r - r / 2)) need
    else
      let t1 := t + k * (r / 2)
      s.passTo (t1 + ceilDiv (target - t1) r * r) 0 (k + ceilDiv (target - t1) r)

/-- The counter runs. -/
def State.counting (s : State) : Bool := s.powered && s.ticking

/-- Package time of the next edge, in units. -/
def State.nextU (s : State) : Nat := (s.rg .TCK_NEXT).toNat * 2 ^ 32

/-- The instant `start` ns after the edge that began the present frame (R45), in units. -/
def State.frameInstant (s : State) (start : Nat) : Nat :=
  ((s.rg .TCK_NEXT).toNat - s.fd .TCK_PERIOD TCK_PERIOD.NS + start) * 2 ^ 32

/-! Events that cross into another clock domain (02 R43). -/

/-- The cost of a transfer from HCLK into a domain in units (R42), at the domain's lowest frequency (R40): (N + 1) cycles of the
domain and 4 of HCLK. -/
def crossCost (d : Nat) : Nat := ([7000, 0, 5750, 5000, 9500, 122000].getD d 0) * 2 ^ 32 / 1000

/-- The transfer of event `e` into domain `d` has not been acknowledged (R42, R43). -/
def State.crossing (s : State) (d e : Nat) : Bool :=
  match s.tck.xing.get? (d * 65536 + e) with
  | some t => decide (s.timeU < t + crossCost d)
  | none => false

/-- Event `e` enters the crossing into domain `d`; one that is still in transfer merges with it, and TCK_XOVR sets (R43). -/
def State.crossInto (s : State) (d e : Nat) : State :=
  let s1 := if s.crossing d e then s.setRg (s.rg .TCK_XOVR ||| BitVec.ofNat 64 (2 ^ d)) .TCK_XOVR else s
  { s1 with tck := { s1.tck with xing := s1.tck.xing.set (d * 65536 + e) s.timeU } }

/-- An edge source of the interrupt router becomes pending (17 R455). -/
def State.raiseSrc (s : State) (n : Nat) : State :=
  if srcEdge n then s.setSrc n { s.src n with pend := true } else s

/-- Record a world violation (17 R454). -/
def State.violate (s : State) (node kind addr : Nat) : State :=
  let s1 := s.setFd .WLD_VIOL WLD_VIOL.SRC node
  let s2 := s1.setFd .WLD_VIOL WLD_VIOL.KIND kind
  let s3 := s2.satFd .WLD_VIOL WLD_VIOL.COUNT
  let s4 := s3.setFd .WLD_VIOL WLD_VIOL.VALID 1
  let s5 := s4.setFd .WLD_VADDR WLD_VADDR.ADDR addr
  s5.raiseSrc 0xF8

/-! Error banks (20). -/

/-- Bank instance and index in it of a bank number (R495). -/
def bankLoc (bank : Nat) : Nat × Nat :=
  if bank < 0x100 then (12, bank) else ((bank - 0x100) / 0x20, (bank - 0x100) % 0x20)

/-- The bank number of a bank's place: the inverse of `bankLoc`. -/
def bankNo (x b : Nat) : Nat := if x = 12 then b else 0x100 + 0x20 * x + b

/-- The bank of a core, of a die's CDA, die cache, mesh and DMA channels, of hub channels (R495). -/
def coreBank (n : Nat) : Nat := 0x100 + 0x20 * (n / 18) + n % 18
def cdaBank (d : Nat) : Nat := 0x100 + 0x20 * d + 18
def dieCacheBank (d : Nat) : Nat := 0x100 + 0x20 * d + 19
def meshBank (d : Nat) : Nat := 0x100 + 0x20 * d + 20
def dmaBank (i : Nat) : Nat := if i < 192 then 0x100 + 0x20 * (i / 16) + 21 else 0x31

/-- The class of an event kind (R498): 0 NOLOSS, 1 POIS, 2 CONS, 3 FATAL. -/
def kindClass (kind : Nat) : Nat :=
  if kind = 8 ∨ kind = 10 ∨ (15 ≤ kind ∧ kind ≤ 18) ∨ kind = 21 ∨ kind = 27 then 3
  else if kind = 4 ∨ kind = 7 ∨ kind = 12 ∨ kind = 25 then 1
  else if kind = 5 ∨ kind = 19 ∨ (22 ≤ kind ∧ kind ≤ 24) then 2
  else 0

/-- The cause of a domain stop that a FATAL kind starts (R508). -/
def kindCause (kind : Nat) : Nat :=
  if kind = 17 then 3 else if kind = 18 then 4 else if kind = 21 then 5 else if kind = 27 then 6 else 2

/-- Queue a log record for the Luna controller (R507). -/
def State.queueLog (s : State) (rtype bank detail : Nat) (erec addr misc : Word) : State :=
  { s with err := { s.err with logq := s.err.logq ++
      [⟨rtype, bank, BitVec.ofNat 64 s.nowNs, BitVec.ofNat 64 s.frameNo, erec, addr, misc, detail⟩] } }

/-- A trigger of a domain stop (R508): while the package is stopped it counts in MORE; else it is recorded and the stop
line is driven (R509 at T). -/
def State.stopTrigger (s : State) (cause bank : Nat) : State :=
  if s.err.stopped then s.satFd .ERB_DSTOP ERB_DSTOP.MORE
  else
    let s1 := s.setRg 0 .ERB_DSTOP
    let s2 := s1.setFd .ERB_DSTOP ERB_DSTOP.STOPPED 1
    let s3 := s2.setFd .ERB_DSTOP ERB_DSTOP.CAUSE cause
    let s4 := s3.setFd .ERB_DSTOP ERB_DSTOP.BANK bank
    let s5 := s4.setFd .ERB_DSTIME ERB_DSTIME.NS s.nowNs
    { s5 with err := { s5.err with stopped := true } }

/-- What an error event carries (R496). -/
structure ErrEvent where
  bank : Nat
  kind : Nat
  src : Nat
  addr : Option Nat
  misc : Option Nat
  sec : Bool
deriving DecidableEq, Repr

/-- Write an event into its bank's record (R496), keeping OVF at `ovf`, and queue its log record (R507). -/
def State.writeRec (s : State) (e : ErrEvent) (ovf : Nat) : State :=
  let x := (bankLoc e.bank).1
  let b := (bankLoc e.bank).2
  let w := setF (setF (setF (setF (setF (setF (setF (setF 0 ERB_REC.VALID 1) ERB_REC.CLASS (kindClass e.kind))
    ERB_REC.ADDRV (b2n e.addr.isSome)) ERB_REC.MISCV (b2n e.misc.isSome)) ERB_REC.KIND e.kind) ERB_REC.SRC e.src)
    ERB_REC.OVF ovf) ERB_REC.SEC (b2n e.sec)
  let a := BitVec.ofNat 64 (e.addr.getD 0)
  let m := BitVec.ofNat 64 (e.misc.getD 0)
  let s1 := s.setRg w .ERB_REC x b
  let s2 := s1.setRg a .ERB_ADDR x b
  let s3 := s2.setRg m .ERB_MISC x b
  let s4 := s3.setRg (BitVec.ofNat 64 s.nowNs) .ERB_TIME x b
  s4.queueLog 1 e.bank 0 w a m

/-- OVF + 1 in a bank's record; THEV sets when OVF reaches a nonzero THRESH while the record is NOLOSS (R499, R503). -/
def State.bumpOvf (s : State) (x b : Nat) : State :=
  let s1 := s.satFd .ERB_REC ERB_REC.OVF x b
  let th := s.fd .ERB_CTL ERB_CTL.THRESH x b
  if th ≠ 0 ∧ s1.fd .ERB_REC ERB_REC.OVF x b = th ∧ s1.fd .ERB_REC ERB_REC.CLASS x b = 0 then
    s1.setFd .ERB_CTL ERB_CTL.THEV 1 x b
  else s1

/-- Apply a detected event to its bank (R499, R508, R539). -/
def State.recordErr (s : State) (e : ErrEvent) : State :=
  let x := (bankLoc e.bank).1
  let b := (bankLoc e.bank).2
  let held := s.fb .ERB_REC ERB_REC.VALID x b
  let cls := s.fd .ERB_REC ERB_REC.CLASS x b
  let new := kindClass e.kind
  if s.err.stopped ∧ (new = 3 ∨ (new ≠ 0 ∧ held ∧ cls ≠ 0)) then s.satFd .ERB_DSTOP ERB_DSTOP.MORE
  else if !held then
    let s1 := s.writeRec e 0
    if new = 3 then s1.stopTrigger (kindCause e.kind) e.bank else s1
  else if new = 0 then s.bumpOvf x b
  else if cls = 0 then
    if new = 3 then (s.writeRec e (s.fd .ERB_REC ERB_REC.OVF x b)).stopTrigger (kindCause e.kind) e.bank
    else s.writeRec e (satInc 16 (s.fd .ERB_REC ERB_REC.OVF x b))
  else if new = 3 then s.stopTrigger (kindCause e.kind) e.bank
  else s.stopTrigger 1 e.bank

/-! Protected arrays (07 R211, 10 R279, R294, 11 R314). The key of an entry is the array's number, its instance and the line or
set: 0 L1I, 1 L1D, 2 L2 data, 3 L2 tag, 4 die-cache data, 5 die-cache tag, 6 snoop filter, 7 directory, 8 tracker and
reservation arrays of a home, 9 system-cache data, 10 system-cache tags. -/

/-- The key of an entry of a protected array. -/
def upKey (array inst line : Nat) : Nat := (array * 4096 + inst) * 2 ^ 52 + line

/-- Which bits of an array's entry are in error from now on is free: the entry gets the number of a free value that says so. -/
def State.expose (s : State) (key : Nat) : State := { s with upsets := s.upsets.set key s.fresh, fresh := s.fresh + 1 }

/-- The bits of an array's entry that are in error: none, one, or two. -/
def State.upsetOf (s : State) (key : Nat) : Nat :=
  match s.upsets.get? key with
  | some k => Config.freeNat k % 3
  | none => 0

/-- A read of an array's entry: the bits in error that it finds (0, 1 or 2). What it finds is then corrected, so that later
errors are new ones. -/
def State.readEntry (s : State) (key : Nat) : Nat × State := (s.upsetOf key, s.expose key)

/-- Record an event of a cache array: ERB_MISC carries way and set (20 R496, R498). -/
def State.arrayEvent (s : State) (bank kind node line way set : Nat) : State :=
  s.recordErr ⟨bank, kind, node, some (line * 128), some (way % 16 + set % 1024 * 16), false⟩

/-- The slice tag of a core: 0xFF outside every slice (14 R371). -/
def State.coreSlice (s : State) (n : Nat) : Nat := s.vsf.coreTag.getD n 0xFF

/-- Record a failed source-field check (14 R378, R379): kind 0 TAG, 1 HOST, 2 FABRIC, 3 PRALINE, 4 REG. -/
def State.spoof (s : State) (slice kind src addr : Nat) : State :=
  let w := setF (setF (setF (setF 0 VSF_SPLOG.SLICE slice) VSF_SPLOG.KIND kind) VSF_SPLOG.SRC src) VSF_SPLOG.VALID 1
  let s1 := (s.setRg w .VSF_SPLOG).setRg (BitVec.ofNat 64 addr) .VSF_SPADDR
  if slice < 240 then
    let f : Fld := match kind with
      | 0 => VSF_SPOOF.TAG | 1 => VSF_SPOOF.HOST | 2 => VSF_SPOOF.FABRIC | 3 => VSF_SPOOF.PRALINE | _ => VSF_SPOOF.REG
    s1.satFd .VSF_SPOOF f 0 slice
  else s1

/-! Fences and generations (09 R251, R252). -/

/-- The fence of a node: 0 OPEN, 1 CLOSING, 2 RESET, 3 OFF. -/
def State.fence (s : State) (node : Nat) : Nat := s.fd .NOC_AGENT NOC_AGENT.FENCE 0 (node / 256) (node % 256)

/-- A dropped reply counts in STALECNT of the node it is for (09 R251, R252). -/
def State.countStale (s : State) (node : Nat) : State :=
  s.satFd .NOC_AGENT NOC_AGENT.STALECNT 0 (node / 256) (node % 256)

/-- A reply passes to its node (09 R251, R252): the fence is OPEN or CLOSING, and GEN is the node's. -/
def State.replyPasses (s : State) (node gen : Nat) : Bool := decide (s.fence node ≤ 1) && gen % 16 == s.genOf node

/-- A reply packet reaches its node, or is dropped at the NI and counted (09 R251, R252). -/
def State.replyPacket (s : State) (m : Msg) : State :=
  if s.replyPasses m.dst m.gen then s.deliver m else s.countStale m.dst

/-- A register access as a packet (09 R241): REGRD or REGWR to the node that answers for the address. -/
def State.regRequest (s : State) (i : Init) (dst off : Nat) (write : Bool) (data : Word) : State :=
  s.deliver (Msg.mk' 5 (b2n write) dst i.node i.gen i.tag i.sec .ok (0x800000000000 + off)
    (if write then BitVec.setWidth 1024 data else 0) 0 i.slice)

/-- The completion of a register access (09 R239, R241 REGCPL): status and value under the request's GEN, TAG and ADDR. -/
def State.regReply (s : State) (i : Init) (src off : Nat) (st : Status) (v : Word) : State :=
  s.replyPacket (Msg.mk' 5 0x02 i.node src i.gen i.tag i.sec st (0x800000000000 + off) (BitVec.setWidth 1024 v) 0 i.slice)

/-- NOC_TOUT's limit for an address in ns (09 R248): host-bus tier, fabric tier, on-package tier. -/
def toutLimit (w : Word) (pkg a : Nat) : Nat :=
  if a / 2 ^ 46 = 1 then 1000000 * max 1 (min 1000 (getF w NOC_TOUT.HB))
  else if 2 ^ 55 ≤ a ∧ a / 2 ^ 46 % 512 ≠ pkg then 1000000 * max 1 (min 1000 (getF w NOC_TOUT.FAB))
  else 1000 * max 2 (getF w NOC_TOUT.ONPKG)

/-- The limit in force for a transaction issued now (09 R248). -/
def State.limitFor (s : State) (a : Nat) : Nat :=
  toutLimit (s.rg .NOC_TOUT) (s.fd .BOOT_STRAP BOOT_STRAP.PKG_NUM) a

/-- Whether a tag is quarantined (09 R249): it is not issued again until it leaves. -/
def State.quarantined (s : State) (node tag : Nat) : Bool := s.net.quar.any (fun q => q.node == node && q.tag == tag)

/-- The first tag of `n` from `base + k` on, taken in turn, that is not quarantined (09 R249). -/
def State.freeTag (s : State) (node base n k : Nat) : Nat :=
  match ((List.range n).map (fun j => base + (k + j) % n)).find? (fun t => !s.quarantined node t) with
  | some t => t
  | none => base + k % n

/-- The tag under which a core waits for a write that the hub holds (02 R51, R53). -/
def heldTag : Nat := 0x800

/-- TCK_OVR (02 R52): bit b is the OR over all instances of the flag in row b. -/
def State.ovrWord (s : State) : Nat :=
  b2n (s.fb .NOC_ESTATUS NOC_ESTATUS.OVR) + 2 * b2n (s.fb .FAB_ESTATUS FAB_ESTATUS.OVR) +
  4 * b2n ((List.range 208).any (fun c => s.fb .DMA_STATUS DMA_STATUS.ROVR c)) +
  8 * b2n ((List.range 16).any (fun h => s.fb .MEM_SCRUB MEM_SCRUB.OVR h)) +
  16 * b2n (s.fb .PRL_STATUS PRL_STATUS.LOVR) + 32 * b2n (s.fb .PWR_STATUS PWR_STATUS.VOVR) +
  64 * b2n (s.fb .PAIR_STATUS PAIR_STATUS.MOVR)

/-- The TCK overrun interrupt (02 R50): a bit of TCK_OVR has risen from state `old` and OIRQ is 1. -/
def State.ovrRise (s old : State) : State :=
  if s.fb .TCK_CTL TCK_CTL.OIRQ && (List.range 7).any (fun b => s.ovrWord.testBit b && !old.ovrWord.testBit b) then
    s.raiseSrc 0xE2
  else s


/-- Whether the stop line has halted the package's agents (R509), or every clock has stopped or power is not good (19
R476, 21 R536): then no command of an agent has an effect. -/
def State.dead (s : State) : Bool :=
  s.err.halted || s.pwr.tripped || !s.boot.pwrok

/-- Whether the package runs: clocks on, out of reset, in no package power state (18 R468). -/
def State.alive (s : State) : Bool := !s.dead && s.boot.resetN && s.fd .PWR_STATUS PWR_STATUS.PKG == 0

/-- A vote slot owned by the other world holds a domain at RUN: its gate is blocked (18 R467). -/
def State.gateBlocked (s : State) (d : Nat) : Bool :=
  let sec := decide (s.owners.getD (3 * 4096 + d) .n = .s)
  s.regs.l.any (fun e => decide (0x1E08000 ≤ e.1) && decide (e.1 < 0x1E0A000) && getF e.2 PWR_VOTE.V == 1 &&
    getF e.2 PWR_VOTE.LVL == 0 && getF e.2 PWR_VOTE.DOM == d && (getF e.2 PWR_VOTE.SEC == 1) != sec)

/-- A clock gate is closed (18 R467): traffic to the domain waits. -/
def State.gateClosed (s : State) (d : Nat) : Bool := s.fb .PWR_GATE PWR_GATE.OFF 0 d && !s.gateBlocked d

/-- The header of a message of the pair link (16 R420): LINE in SHIP, COUNT in SEAL, STATUS in COMMIT. -/
def PairMsg.head (m : PairMsg) : BitVec 128 :=
  let x := match m.typ with | 1 => m.arg % 2 ^ 49 | 2 => m.arg % 2 ^ 49 | 3 => m.arg % 16 | _ => 0
  BitVec.ofNat 128 (m.typ % 16 + m.entry % 16 * 2 ^ 4 + (if m.typ = 1 then m.psn.toNat else 0) * 2 ^ 8 + m.frame % 2 ^ 48 * 2 ^ 24 + x * 2 ^ 72)

/-- Send a message on the pair link (16 R420). -/
def State.pairSend (s : State) (m : PairMsg) : State :=
  { s with pair := { s.pair with sent := s.pair.sent ++ [m], wire := s.pair.wire ++ [m.head] } }

/-- The frame whose commit an output of an entry waits for (16 R431, R432): the one being captured until its cut, the present one
otherwise. -/
def State.outFrame (s : State) (n : Nat) : Nat :=
  let m := s.pair.entries.getD n Mirror.reset
  if m.capturing then m.frame else s.frameNo

end Sys2Proof.Machine
end

