-- ==== Sys2Proof/Machine/Operands.lean ====
section
/-! DEFINITION. Operand forms of the core instructions: registers, predicates (03 R57, R74), immediates and address
forms (03 R73, R78, R79). -/
namespace Sys2Proof.Machine

/-- Read a g register; g0 reads zero (03 R57). -/
def Core.rg (c : Core) (r : BitVec 5) : Word := if r = 0 then 0 else c.g[r.toNat]

/-- Write a g register; a write to g0 is discarded (03 R57). -/
def Core.wg (c : Core) (r : BitVec 5) (w : Word) : Core := if r = 0 then c else { c with g := c.g.set r.toNat w }

/-- Read a predicate; p0 reads 1 (03 R57). -/
def Core.rp (c : Core) (r : BitVec 3) : Bool := r = 0 || c.p.getLsbD r.toNat

/-- Write a predicate; a write to p0 is discarded (03 R57). -/
def Core.wp (c : Core) (r : BitVec 3) (b : Bool) : Core :=
  if r = 0 then c
  else { c with p := if b then c.p ||| (1 <<< r.toNat) else c.p &&& ~~~((1 : BitVec 8) <<< r.toNat) }

/-- Read a v register. -/
def Core.rv (c : Core) (r : BitVec 5) : BitVec 576 := c.v[r.toNat]
/-- Write a v register. -/
def Core.wv (c : Core) (r : BitVec 5) (x : BitVec 576) : Core := { c with v := c.v.set r.toNat x }
/-- Read an accumulator: the low two bits of its field (04 R125). -/
def Core.ra (c : Core) (r : BitVec 5) : BitVec 4608 := c.a[r.toNat % 4]
/-- Write an accumulator. -/
def Core.wa (c : Core) (r : BitVec 5) (x : BitVec 4608) : Core := { c with a := c.a.set (r.toNat % 4) x }
/-- A field that names an accumulator has its upper three bits zero (04 R125). -/
def accField (r : BitVec 5) : Bool := r.toNat < 4
/-- A field that names a predicate register has its upper two bits zero (03 R77). -/
def predField (r : BitVec 5) : Bool := r.toNat < 8
/-- The predicate register that a 5-bit field names. -/
def predOf (r : BitVec 5) : BitVec 3 := r.setWidth 3

/-- Whether an instruction executes (03 R74). -/
def Core.executes (c : Core) (pred : BitVec 3) (pn : Bool) : Bool := xor (c.rp pred) pn

/-- The address of the M format (03 R78): the offset counts accesses. -/
def Core.mAddr (c : Core) (o : RRI) (size : Nat) : Word := c.rg o.s + sext o.imm * BitVec.ofNat 64 size

/-- The address of LDX and STX (03 R79). -/
def Core.xAddr (c : Core) (o : RRRF) : Word :=
  c.rg o.s1 + (if o.f.getLsbD 3 then c.rg o.s2 <<< (o.f.toNat % 4) else c.rg o.s2)

/-- The size in bytes of LDX and STX (03 R79). -/
def xSize (o : RRRF) : Nat := 2 ^ (o.f.toNat % 4)

/-- The target of BR and CALL (03 R83). -/
def Core.bTarget (c : Core) (o : BF) : Word := c.pc + (sext o.disp <<< 2)

/-! Levels (03 R63). -/

/-- The number of a level. -/
def Level.num : Level → Nat
  | .u => 0
  | .k => 1
  | .h => 2
  | .m => 3

/-- The level of a number. -/
def Level.of (n : Nat) : Level :=
  match n % 4 with
  | 0 => .u
  | 1 => .k
  | 2 => .h
  | _ => .m

/-- The first level is below the second. -/
def Level.below (a b : Level) : Bool := a.num < b.num

end Sys2Proof.Machine
end

