-- ==== Sys2Proof/Machine/Flags.lean ====
section
/-! DEFINITION. Conditions and flags: the compares of the integer core (03 R76, R77) and the sticky flags of the numeric
engine (04, C_NFLAGS and C_ACCST). -/
namespace Sys2Proof.Machine

/-- The condition of CMP (03 R77). -/
def cmpCond (k : Nat) (a b : Word) : Bool :=
  match k with
  | 0 => a == b
  | 1 => a != b
  | 2 => a.slt b
  | 3 => !a.slt b
  | 4 => a.ult b
  | 5 => !a.ult b
  | 6 => a &&& b != 0
  | _ => a &&& b == 0

/-- A compare writes a predicate pair (03 R76). -/
def Core.cmpWrite (c : Core) (pt pf : BitVec 3) (b : Bool) : Core := (c.wp pf (!b)).wp pt b

/-- Set sticky flags in C_NFLAGS (04). -/
abbrev cNFLAGS : Nat := 0x0C1
/-- C_ACCST (04). -/
abbrev cACCST : Nat := 0x0C2

/-- OR exception flags into C_NFLAGS (04). -/
def Core.raiseFlags (c : Core) (f : Nat) : Core :=
  { c with creg := c.creg.set cNFLAGS (c.creg.getD cNFLAGS 0 ||| BitVec.ofNat 64 (f % 32)) }

/-- The four flags of an accumulator (04, C_ACCST): NAN, PINF, NINF, OV. -/
def Core.aflags (c : Core) (r : BitVec 5) : Nat := ((c.creg.getD cACCST 0).toNat >>> (4 * (r.toNat % 4))) % 16

/-- Write the flags of an accumulator and set its USED bit (04, C_ACCST). -/
def Core.setAflags (c : Core) (r : BitVec 5) (f : Nat) : Core :=
  let n := r.toNat % 4
  let w := setF (setF (c.creg.getD cACCST 0) ⟨4 * n, 4⟩ f) ⟨16 + n, 1⟩ 1
  { c with creg := c.creg.set cACCST w }

/-- Set VUSED (04, C_ACCST): a vector register has been written. -/
def Core.vused (c : Core) : Core := { c with creg := c.creg.set cACCST (c.creg.getD cACCST 0 ||| 0x100000) }

end Sys2Proof.Machine
end

