-- ==== Sys2Proof/Machine/HbCfg.lean ====
section
/-! DEFINITION. What configuration space of the host-bus unit's own functions reads after reset (13 R340, R341, R343): dword by dword,
the bits that the chapter states and their values. The bits that it does not state are those of the PCI Express standard (00 R13); they
are free. The places of the fields within a capability are the standard's (PRESUMED). -/
namespace Sys2Proof.Machine

/-- A dword of which the chapter states some bits: register, the bits, their value. -/
structure CfgFixed where
  reg : Nat
  mask : Nat
  value : Nat
deriving DecidableEq, Repr

/-- The stated bits of a register in a table: none where it is not listed. -/
def fixedAt (t : List CfgFixed) (reg : Nat) : CfgFixed := (t.find? (fun e => e.reg == reg)).getD ⟨reg, 0, 0⟩

/-- A dword that holds the stated bits of an entry and is `w` elsewhere. -/
def CfgFixed.on (e : CfgFixed) (w : BitVec 32) : BitVec 32 := (w &&& ~~~(BitVec.ofNat 32 e.mask)) ||| BitVec.ofNat 32 e.value

/-- Every function: no error is logged after reset (AER status, correctable and uncorrectable). -/
def aerFixed : List CfgFixed := [⟨0x104, 0xFFFFFFFF, 0⟩, ⟨0x110, 0xFFFFFFFF, 0⟩]

/-- A root port (R343): Type 1 header, Power Management with D0 only, the PCI Express capability (Root Port, 64 GT/s, no ASPM,
AtomicOp routing and completion of 32 and 64 bits, ARI forwarding), AER, ACS. -/
def rpFixed : List CfgFixed :=
  [⟨0x00, 0xFFFFFFFF, 0x92171F6B⟩, ⟨0x04, 0xFFFFFFFF, 0x00100000⟩, ⟨0x08, 0xFFFFFF00, 0x06040000⟩,
   ⟨0x0C, 0xFFFFFFFF, 0x00010000⟩, ⟨0x10, 0xFFFFFFFF, 0⟩, ⟨0x14, 0xFFFFFFFF, 0⟩, ⟨0x18, 0xFFFFFFFF, 0⟩, ⟨0x1C, 0xFFFFFFFF, 0⟩,
   ⟨0x20, 0xFFFFFFFF, 0⟩, ⟨0x24, 0xFFFFFFFF, 0x00010001⟩, ⟨0x28, 0xFFFFFFFF, 0⟩, ⟨0x2C, 0xFFFFFFFF, 0⟩,
   ⟨0x34, 0xFFFFFFFF, 0x40⟩, ⟨0x3C, 0xFFFFFFFF, 0⟩, ⟨0x40, 0x0600FFFF, 0x5001⟩, ⟨0x44, 3, 0⟩] ++
  [⟨0x50, 0x00F0FFFF, 0x00400010⟩, ⟨0x54, 7, 2⟩, ⟨0x5C, 0xC0F, 6⟩, ⟨0x64, 0xFFFFFFFF, 0⟩, ⟨0x68, 0xFFFFFFFF, 0⟩,
   ⟨0x6C, 0x1F, 0⟩, ⟨0x74, 0xBE0, 0x1E0⟩, ⟨0x78, 0x20, 0⟩, ⟨0x7C, 0xFE, 0x7E⟩, ⟨0x100, 0xFFF0FFFF, 0x14000001⟩,
   ⟨0x140, 0xFFFF, 0x000D⟩, ⟨0x144, 0x7F, 0x1F⟩] ++ aerFixed

/-- The PF of the attached personality, besides what other state holds (R341). -/
def pfFixed : List CfgFixed :=
  [⟨0x0C, 0xFF0000, 0⟩, ⟨0x3C, 0xFF00, 0⟩, ⟨0x40, 0xFE07FFFF, 0x00035001⟩, ⟨0x44, 0xB, 8⟩, ⟨0x50, 0x00FFFFFF, 0x00029010⟩,
   ⟨0x54, 0x10000027, 0x10000022⟩, ⟨0x5C, 0xFFF, 0x106⟩, ⟨0x60, 3, 0⟩, ⟨0x74, 0x00030B80, 0x00030180⟩, ⟨0x7C, 0xFE, 0x7E⟩,
   ⟨0x90, 0x07FFFFFF, 0x07FF0011⟩, ⟨0x94, 0xFFFFFFFF, 0x01000000⟩, ⟨0x98, 0xFFFFFFFF, 0x01010000⟩,
   ⟨0x100, 0xFFFFFFFF, 0x14020001⟩, ⟨0x140, 0xFFF0FFFF, 0x1500000E⟩, ⟨0x144, 0xFF00, 0⟩] ++
  [⟨0x150, 0xFFF0FFFF, 0x19000010⟩, ⟨0x190, 0xFFF0FFFF, 0x1A00000F⟩, ⟨0x1A0, 0xFFF0FFFF, 0x1B00001B⟩, ⟨0x1A4, 0x1F06, 0x1004⟩,
   ⟨0x1B0, 0xFFF0FFFF, 0x1C000015⟩, ⟨0x1B4, 0xFFFFFFF0, 0x07FFC000⟩, ⟨0x1C0, 0xFFF0FFFF, 0x1D000024⟩,
   ⟨0x1C4, 0xFFFFFFF0, 0x007FF000⟩, ⟨0x1D0, 0xFFF0FFFF, 0x1E000025⟩, ⟨0x1E0, 0xFFF0FFFF, 0x22000026⟩,
   ⟨0x220, 0xFFF0FFFF, 0x2600002A⟩, ⟨0x260, 0xFFF0FFFF, 0x28000031⟩, ⟨0x280, 0xFFF0FFFF, 0x0000002E⟩] ++ aerFixed

/-- A VF (R341), its capabilities at the PF's offsets (PRESUMED); `vec` is the size of its MSI-X table. -/
def vfFixed (vec : Nat) : List CfgFixed :=
  [⟨0x0C, 0xFFFFFFFF, 0⟩, ⟨0x34, 0xFF, 0x50⟩, ⟨0x50, 0x00FFFFFF, 0x00029010⟩, ⟨0x54, 0x10000007, 0x10000002⟩,
   ⟨0x90, 0x07FFFFFF, (vec - 1) % 2048 * 65536 + 0x11⟩, ⟨0x94, 0xFFFFFFFF, 0x8000⟩, ⟨0x98, 0xFFFFFFFF, 0xC000⟩,
   ⟨0x100, 0xFFFFFFFF, 0x14020001⟩, ⟨0x140, 0xFFF0FFFF, 0x1900000E⟩, ⟨0x190, 0xFFF0FFFF, 0x0000000F⟩] ++ aerFixed

/-- The recovery function (R340). -/
def recFixed : List CfgFixed :=
  [⟨0x0C, 0xFF0000, 0⟩, ⟨0x3C, 0xFF00, 0⟩, ⟨0x40, 0xFFFF, 0x5001⟩, ⟨0x50, 0x00F0FFFF, 0x10⟩, ⟨0x54, 7, 0⟩, ⟨0x5C, 0x3FF, 0x106⟩,
   ⟨0x100, 0xFFF0FFFF, 0x14000001⟩, ⟨0x140, 0xFFF0FFFF, 0x0000002E⟩] ++ aerFixed

/-- Bits that software writes, and bits that it clears by writing 1, in the dwords of a function's standard header and status
registers whose write the chapter or the standard's use in it needs. -/
structure CfgRw where
  rw : Nat
  w1c : Nat

/-- A write of a dword whose written bits are known: the rest keeps its value. -/
def CfgRw.apply (m : CfgRw) (old v : BitVec 32) : BitVec 32 :=
  (old &&& ~~~(BitVec.ofNat 32 m.rw) &&& ~~~(v &&& BitVec.ofNat 32 m.w1c)) ||| (v &&& BitVec.ofNat 32 m.rw)

end Sys2Proof.Machine
end

