-- ==== Sys2Proof/Machine/HbOut.lean ====
section
/-! DEFINITION. The outbound side of the host-bus unit (13 R333, R336, R345, R346, R352): root ports and their
configuration space, the endpoint's functions, and how an access to the host-bus range leaves. -/
namespace Sys2Proof.Machine

/-- A register of the event record is written (HBU_ERR, ERREV). -/
def State.hbErr (s : State) (k kind port fcode addr : Nat) : State :=
  let w := setF (setF (setF (setF 0 HBU_ERR.KIND kind) HBU_ERR.PORT port) HBU_ERR.FCODE fcode) HBU_ERR.VALID 1
  ((s.setRg w .HBU_ERR k).setRg (BitVec.ofNat 64 addr) .HBU_EADDR k).setFd .HBU_STATUS HBU_STATUS.ERREV 1 k

/-- The attached personality (R334). -/
def State.attachedHb (s : State) (k : Nat) : Bool := k == 0 && s.boot.attached

/-- Root port j exists under BIF (R333). -/
def bifPort (mode j : Nat) : Bool :=
  match mode with
  | 0 => j == 0
  | 1 => j == 0 || j == 2
  | 2 => j == 0 || j == 2 || j == 3
  | 3 => j == 0 || j == 1 || j == 2
  | 4 => j < 4
  | _ => false

/-- The lanes of root port j under BIF (R333). -/
def bifWidth (mode j : Nat) : Nat :=
  match mode with
  | 0 => 16
  | 1 => 8
  | 2 => if j = 0 then 8 else 4
  | 3 => if j = 2 then 8 else 4
  | _ => 4

/-- A controller is present: it owns octets and is in use (R332). -/
def State.hbPresent (s : State) (k : Nat) : Bool := s.fb .HBU_CTL HBU_CTL.EN k && s.fd .HBU_CTL HBU_CTL.OWN k != 0

/-- A controller whose octets the image gave to the Ethernet MACs is absent (R332). -/
def State.hbAbsent (s : State) (k : Nat) : Bool := 5 ≤ k && s.fd .HBU_CTL HBU_CTL.OWN k == 0

/-- Root port HBk.j exists (R333). -/
def State.rpExists (s : State) (k j : Nat) : Bool :=
  s.hbPresent k && !s.fb .HBU_CTL HBU_CTL.EP k && bifPort (s.fd .HBU_CTL HBU_CTL.BIF k) j

/-- The link of a port is DL_Active. -/
def State.hbLink (s : State) (k j : Nat) : Bool := (s.fd .HBU_STATUS HBU_STATUS.LINK k).testBit j

/-! Configuration space of root ports (R336, R343; the fields named are those of the PCI Express standard). -/

/-- Offset of a root port's configuration space from the first segment (R336). -/
def rpBase (k j : Nat) : Nat := k * 0x10000000 + j * 0x8000

/-- A dword of a root port as it reads when nothing has been written (R343). -/
def cfgResetDword (a : Nat) : BitVec 32 := (fixedAt rpFixed (a % 0x1000)).on (Config.cfgWord a)

/-- A dword of a root port. -/
def State.cfgD (s : State) (a : Nat) : BitVec 32 := s.hb.cfg.getD a (cfgResetDword a)
def State.setCfgD (s : State) (a : Nat) (v : BitVec 32) : State := { s with hb := { s.hb with cfg := s.hb.cfg.set a v } }
def State.rpD (s : State) (k j reg : Nat) : Nat := (s.cfgD (rpBase k j + reg)).toNat

/-- Set bits of a status dword whose reset value is 0: those of the AER registers. -/
def State.aerSet (s : State) (a m : Nat) : State := s.setCfgD a (s.hb.cfg.getD a 0 ||| BitVec.ofNat 32 m)

/-- Memory Space Enable and Bus Master Enable of a root port. -/
def State.rpMse (s : State) (k j : Nat) : Bool := (s.rpD k j 0x04).testBit 1
def State.rpBme (s : State) (k j : Nat) : Bool := (s.rpD k j 0x04).testBit 2

/-- The non-prefetchable and the prefetchable window contain a bus address (R345). -/
def State.inWindow (s : State) (k j a : Nat) : Bool :=
  let w := s.rpD k j 0x20
  let p := s.rpD k j 0x24
  let base := w / 16 % 4096 * 2 ^ 20
  let lim := w / 2 ^ 20 * 2 ^ 20 + 0xFFFFF
  let pbase := s.rpD k j 0x28 * 2 ^ 32 + p / 16 % 4096 * 2 ^ 20
  let plim := s.rpD k j 0x2C * 2 ^ 32 + p / 2 ^ 20 * 2 ^ 20 + 0xFFFFF
  (base ≤ a && a ≤ lim) || (pbase ≤ a && a ≤ plim)

/-- The root port that claims a bus address: the lowest k, then the lowest j (R345, R346). -/
def State.claimPort (s : State) (a : Nat) : Option (Nat × Nat) :=
  ((List.range 32).map (fun p => (p / 4, p % 4))).find? (fun e =>
    s.rpExists e.1 e.2 && !(s.boot.attached && decide (0x200000000000 ≤ a)) && s.rpMse e.1 e.2 && s.inWindow e.1 e.2 a)

/-! Endpoint functions (R341, R346, R356). -/

def State.epf (s : State) (f : Nat) : EpFunc := s.hb.funcs.getD f EpFunc.reset
def State.setEpf (s : State) (f : Nat) (e : EpFunc) : State := { s with hb := { s.hb with funcs := s.hb.funcs.set f e } }

/-- A function may issue requests (R356, R358, R360). -/
def State.epMaster (s : State) (f : Nat) : Bool :=
  let e := s.epf f
  e.bme && !e.d3hot && !e.resetting

/-- The configuration of the PF and the SR-IOV capability after a reset: BAR2 and VF BAR2 at their smallest size (DESIGN
CHOICE: the spec gives none), VF Enable clear. -/
def State.pfDefaults (s : State) : State :=
  let s1 := s.setEpf 0 { EpFunc.reset with bar2size := 2 ^ 30 }
  { s1 with hb := { s1.hb with vfEn := false, vfMse := false, pasidEn := false, numVfs := 0, vfBar0 := 0, vfBar2 := 0, vfBar2size := 2 ^ 28 } }

/-- A link that is DL_Active (R335), and how many tags its requests use: 14 bits in flit mode, 10 bits otherwise. -/
def State.hbPort (s : State) (k j : Nat) : HbLink := s.hb.links.getD (4 * k + j) ⟨1, 1, false⟩
def State.tagLimit (s : State) (k j : Nat) : Nat := if (s.hbPort k j).flit then 2 ^ 14 else 2 ^ 10

/-- The next tag of a controller that no outstanding request holds, at or after a number. -/
def State.tagFrom (s : State) (k lim : Nat) : Nat → Nat → Nat
  | 0, n => n % lim
  | f + 1, n => if s.hb.out.any (fun q => q.ctl == k && q.htag == n % lim) then s.tagFrom k lim f (n + 1) else n % lim
def State.linkTag (s : State) (k j : Nat) : Nat := s.tagFrom k (s.tagLimit k j) s.hb.out.length s.hb.nextTag

/-- A TLP goes out on a link, after every posted write that is queued for it (R352). -/
def State.hbTlp (s : State) (q : HbReq) : State :=
  let due := fun (x : HbReq) => x.phase == 1 && x.ctl == q.ctl && x.port == q.port
  { s with hb := { s.hb with
      sent := s.hb.sent ++ s.hb.out.filter due ++ [q]
      out := s.hb.out.map (fun x => if due x then { x with phase := 2 } else x)
      nextTag := s.hb.nextTag + 1 } }

/-- Whether a bus address falls in an enabled BAR of the endpoint's own functions (R346). -/
def State.ownBar (s : State) (a : Nat) : Bool :=
  let e := s.epf 0
  let within := fun (b n : Nat) => b ≤ a && decide (a < b + n)
  (e.mse && (within e.bar0 0x2000000 || within e.bar2 e.bar2size)) ||
    (s.hb.vfEn && s.hb.vfMse && (within s.hb.vfBar0 (0x10000 * s.hb.numVfs) || within s.hb.vfBar2 (s.hb.vfBar2size * s.hb.numVfs)))

/-! Outbound accesses (R345, R346, R352, R353). -/

/-- MASTER_OFF as an initiator sees it (R353). -/
def masterOffFor (node : Nat) : Status := if (nodeCore node).isSome then .decerr else .masterOff

/-- The PASID that requests of an initiator carry (R342, 14 R378 kind 1). -/
def State.pasidOk (s : State) (slice : Nat) (p : Option Nat) : Bool :=
  if slice = 0xFF then true
  else if s.fb .VSF_RARG1 VSF_RARG1.PV 0 slice then p == some (s.fd .VSF_RARG1 VSF_RARG1.PASID 0 slice) || p == none
  else p == none

/-- A request goes out on a link: a posted write is done when it is sent; the others wait for a completion. -/
def State.hbSend (s : State) (i : Init) (r : OutReq) (k j bus func : Nat) (pasid : Option Nat) (xlat : Bool) :
    Option Status × State :=
  let q : HbReq := ⟨k, j, i.node, r.tag, bus, r.size, !r.write, r.posted, r.data, func, s.linkTag k j, i.gen, s.limitFor r.addr,
    pasid, xlat, 0⟩
  let s1 := s.hbTlp q
  if r.posted then (some .ok, s1) else (none, { s1 with hb := { s1.hb with out := s1.hb.out ++ [q] } })

/-- The address with which a request of a function goes upstream (R342): with ATS enabled the translated one, from the translation
cache of 1,024 entries, or from the answer to a Translation Request, which is free. -/
def State.atcLook (s : State) (f bus : Nat) : Nat × Bool × State :=
  if (s.epf f).atsEn then
    let key := f * 2 ^ 52 + bus / 4096
    match s.hb.atc.get? key with
    | some p => (p * 4096 + bus % 4096, true, s)
    | none =>
      let (w, s1) := (s.hbTlp ⟨0, 0, hbNode 0, 0, bus / 4096 * 4096, 8, true, false, 0, f, s.linkTag 0 0, 0, 0, none, false, 0⟩).drawNat
      let m := if s1.hb.atc.l.length < 1024 then s1.hb.atc else ⟨s1.hb.atc.l.drop 1⟩
      (w % 2 ^ 52 * 4096 + bus % 4096, true, { s1 with hb := { s1.hb with atc := m.set key (w % 2 ^ 52) } })
  else (bus, false, s)

/-- The PASID that an upstream request of a slice carries: its record's, while PASID Enable is set (R342). -/
def State.pasidOf (s : State) (slice : Nat) : Option Nat :=
  if s.hb.pasidEn ∧ slice ≠ 0xFF ∧ s.fb .VSF_RARG1 VSF_RARG1.PV 0 slice then some (s.fd .VSF_RARG1 VSF_RARG1.PASID 0 slice) else none

/-- An upstream request of the endpoint (R346). -/
def State.hbUpstream (s : State) (i : Init) (r : OutReq) : Option Status × State :=
  let bus := (r.addr - 0x600000000000 + (s.rg .HBU_UPOFF 0).toNat) % 2 ^ 64
  let f := if i.slice = 0xFF then 0 else 16 + i.slice
  if !s.pasidOk i.slice r.pasid then (some .decerr, s.spoof i.slice 1 i.node bus)
  else if s.ownBar bus then (some .decerr, s)
  else if !s.hbLink 0 0 then (some .decerr, s)
  else if !s.epMaster f then (some (masterOffFor i.node), s.hbErr 0 6 0 0 bus)
  else
    let (a, x, s1) := s.atcLook f bus
    s1.hbSend i r 0 0 a f (s1.pasidOf i.slice) x

/-- The controller that an access to the host-bus range goes to is gated: the access waits (18 R467). -/
def State.hbGated (s : State) (a : Nat) : Bool :=
  decide (0x400000000000 ≤ a) && decide (a < 0x800000000000) &&
    match if s.boot.attached && decide (0x600000000000 ≤ a) then some (0, 0) else s.claimPort (a % 2 ^ 46) with
    | some (k, _) => s.gateClosed (244 + k)
    | none => false

/-- An outbound access to the host-bus range (R25, R345, R346): a status at once, or none while it waits. -/
def State.hbOut (s : State) (i : Init) (r : OutReq) : Option Status × State :=
  if s.boot.attached && decide (0x600000000000 ≤ r.addr) then s.hbUpstream i r
  else
    let bus := r.addr % 2 ^ 46
    match s.claimPort bus with
    | none => (some .decerr, s)
    | some (k, j) => if s.hbLink k j then s.hbSend i r k j bus 0 none false else (some .decerr, s)

end Sys2Proof.Machine
end

