-- ==== Sys2Proof/Machine/Ecc.lean ====
section
/-! DEFINITION. The memory code (11 R299-R301): a cyclic code of length 127 shortened to 80 bits, generator 0xC599. -/
namespace Sys2Proof.Machine

/-- Multiply a residue by x modulo g(x) = 0xC599 (R300). -/
def xstep (r : Nat) : Nat := if 2 ^ 15 ≤ r * 2 then (r * 2) ^^^ 0xC599 else r * 2

/-- x^i mod g(x). -/
def xpow : Nat → Nat
  | 0 => 1
  | i + 1 => xstep (xpow i)

/-- x^i mod g(x) for `n` positions from residue `r` on. -/
def xpows : Nat → Nat → List Nat
  | 0, _ => []
  | n + 1, r => r :: xpows n (xstep r)

/-- XOR of the residues whose bit of `w` is set, bit `i` first. -/
def xorSel (w : Nat) : Nat → List Nat → Nat
  | _, [] => 0
  | i, r :: t => (if w.testBit i then r else 0) ^^^ xorSel w (i + 1) t

/-- The check bits of data and poison bit (R300). -/
def checkBits (d : Word) (p : Bool) : Nat :=
  xorSel (d.toNat + (b2n p) * 2 ^ 64) 0 (xpows 65 (xpow 15))

/-- A channel word (R299): data in bits 63-0, check bits in 78-64, poison in 79. -/
abbrev ChWord := BitVec 80

/-- The channel word of data and poison bit, encoded (R300). -/
def encodeWordEcc (d : Word) (p : Bool) : ChWord :=
  BitVec.ofNat 80 (d.toNat + checkBits d p * 2 ^ 64 + (b2n p) * 2 ^ 79)

/-- The data of a channel word. -/
def cwData (c : ChWord) : Word := c.setWidth 64
/-- The poison bit of a channel word. -/
def cwPoison (c : ChWord) : Bool := c.getLsbD 79
/-- The polynomial of a channel word (R299): C below x^15, D at x^15, P at x^79. -/
def cwPoly (c : ChWord) : Nat :=
  (c.toNat >>> 64) % 2 ^ 15 + (c.toNat % 2 ^ 64) * 2 ^ 15 + (b2n (cwPoison c)) * 2 ^ 79

/-- The syndrome (R301). -/
def syndrome (c : ChWord) : Nat := xorSel (cwPoly c) 0 (xpows 80 1)

/-- Flip codeword position `i` (R299) of a channel word; positions at or above 80 flip nothing. -/
def flipPos (c : ChWord) (i : Nat) : ChWord :=
  if i < 15 then c ^^^ BitVec.ofNat 80 (2 ^ (64 + i))
  else if i < 79 then c ^^^ BitVec.ofNat 80 (2 ^ (i - 15))
  else if i = 79 then c ^^^ BitVec.ofNat 80 (2 ^ 79)
  else c

/-- The parity of the 15 syndrome bits. -/
def parity15 (s : Nat) : Bool := (List.range 15).foldl (fun p i => xor p (s.testBit i)) false

/-- The first position from `i` on whose residue is `s`. -/
def posOf (s : Nat) : Nat → List Nat → Option Nat
  | _, [] => none
  | i, r :: t => if r = s then some i else posOf s (i + 1) t

/-- The pair of positions whose residues sum to `s`. -/
def pairOf (s : Nat) : Nat → List Nat → Option (Nat × Nat)
  | _, [] => none
  | i, r :: t =>
    match posOf (s ^^^ r) (i + 1) t with
    | some j => some (i, j)
    | none => pairOf s (i + 1) t

/-- What a read finds in a word (R301): class, delivered data, poison mark, and the word to write back. -/
structure EccOut where
  cls : Nat
  data : Word
  poison : Bool
  back : ChWord
  synd : Nat
deriving DecidableEq, Repr

/-- Classify a received word (R301, R303): 0 CLEAN, 1 CE1, 2 CE2, 3 UE, 4 POISON. -/
def classify (c : ChWord) : EccOut :=
  let s := syndrome c
  let ue : EccOut := ⟨3, cwData c, true, encodeWordEcc (cwData c) true, s⟩
  if s = 0 then
    if cwPoison c then ⟨4, cwData c, true, c, s⟩ else ⟨0, cwData c, false, c, s⟩
  else if parity15 s then
    match posOf s 0 (xpows 80 1) with
    | some i =>
      let k := flipPos c i
      ⟨1, cwData k, cwPoison k, k, s⟩
    | none => ue
  else
    match pairOf s 0 (xpows 80 1) with
    | some p =>
      let k := flipPos (flipPos c p.1) p.2
      ⟨2, cwData k, cwPoison k, k, s⟩
    | none => ue

end Sys2Proof.Machine
end

