-- ==== Sys2Proof/Machine/Mem.lean ====
section
/-! DEFINITION. Memory: the physical address map (01 R23), the stored words with their check bits, the merge buffers
and channels (11 R305-R312), the system cache (R313) and the MRAM log store (R316). -/
namespace Sys2Proof.Machine

/-- The regions of the physical address map (01 R23). -/
inductive Region where
  | dram | hostBus | regs | sram | mram | rom | globl | reserved
deriving DecidableEq, Repr

/-- The region of a physical address (01 R23). -/
def region (a : Nat) : Region :=
  if a < 0x400000000000 then .dram
  else if a < 0x800000000000 then .hostBus
  else if a < 0x800100000000 then .regs
  else if a < 0x800100800000 then .sram
  else if 0x800200000000 ≤ a ∧ a < 0x800201000000 then .mram
  else if 0x800300000000 ≤ a ∧ a < 0x800300100000 then .rom
  else if 2 ^ 55 ≤ a ∧ a < 2 ^ 56 then .globl
  else .reserved

/-- What an unlisted address of memory reads as: the MRAM ships as zero (11 "MRAM log store"); elsewhere nothing says. -/
def unlisted (a : Nat) : Option Byte := if region a = .mram then some 0 else none

/-- The byte at an address, none where nothing has been written. -/
def State.byteAt (s : State) (a : Nat) : Option Byte :=
  match kfind a s.mem with
  | some b => some b
  | none => unlisted a

/-- Write one byte, keeping the canonical form. -/
def memPut (m : List Host.Cell) (a : Nat) (b : Byte) : List Host.Cell :=
  if unlisted a = some b then m.filter (fun c => c.1 != a) else kinsert a b m

/-- The canonical form of memory: addresses strictly rising, no entry equal to what an unlisted address reads as. -/
def Memory.wf (m : List Host.Cell) : Bool :=
  kwf m && m.all (fun c => unlisted c.1 != some c.2)

/-- The `i`-th byte of a word. -/
def wordByte (w : Word) (i : Nat) : Byte := (w >>> (8 * i)).setWidth 8

/-- The eight bytes of word number `wa`, low byte first, none where one is not known. -/
def State.wordBytes (s : State) (wa : Nat) : Nat → Option Nat
  | 0 => some 0
  | n + 1 =>
    match s.byteAt (wa * 8 + (7 - n)), s.wordBytes wa n with
    | some b, some r => some (b.toNat * 2 ^ (8 * (7 - n)) + r)
    | _, _ => none

/-- The home of a line number (10 R268): the XOR of the 4-bit groups of PA[55:7]. -/
def homeOf (line : Nat) : Nat :=
  (List.range 13).foldl (fun h i => h ^^^ ((line >>> (4 * i)) % 16)) 0

/-- The stored channel word of word number `wa` (11 R299): free where nothing has been written since the last training of
its channel (R304), the ROM's contents, else data with plain or recorded check bits. -/
def State.rawWord (s : State) (wa : Nat) : ChWord :=
  if region (wa * 8) = .rom then encodeWordEcc (Config.romWord wa) false
  else
    match s.wordBytes wa 8 with
    | none => Config.undefWord (s.chan (homeOf (wa / 16))).epoch wa
    | some n =>
      let d := BitVec.ofNat 64 n
      match s.chk.get? wa with
      | some c => BitVec.ofNat 80 (n + c.toNat * 2 ^ 64)
      | none => encodeWordEcc d false

/-- Store a channel word. -/
def State.putRaw (s : State) (wa : Nat) (c : ChWord) : State :=
  let d := cwData c
  let m := (List.range 8).foldl (fun m i => memPut m (wa * 8 + i) (wordByte d i)) s.mem
  { s with
    mem := m
    chk := if c = encodeWordEcc d false then s.chk.erase wa else s.chk.set wa (BitVec.ofNat 16 (c.toNat >>> 64)) }

/-- The codeword a channel stores: with injection armed, the positions of MEM_INJ inverted (11 R312). -/
def State.chanPut (s : State) (h wa : Nat) (c : ChWord) : State :=
  if s.fb .MEM_INJ MEM_INJ.ARM h then
    let k := flipPos (flipPos (flipPos c (s.fd .MEM_INJ MEM_INJ.B0 h)) (s.fd .MEM_INJ MEM_INJ.B1 h))
      (s.fd .MEM_INJ MEM_INJ.B2 h)
    (s.setFd .MEM_INJ MEM_INJ.ARM 0 h).putRaw wa k
  else s.putRaw wa c

/-- The `k`-th word of a line. -/
def lineWord (d : LineData) (k : Nat) : Word := (d >>> (64 * k)).setWidth 64

/-- A line with its `k`-th word replaced. -/
def setLineWord (d : LineData) (k : Nat) (w : Word) : LineData :=
  let m : LineData := BitVec.setWidth 1024 (BitVec.allOnes 64)
  let v : LineData := BitVec.setWidth 1024 w
  let ms : LineData := BitVec.shiftLeft m (64 * k)
  (d &&& ~~~ms) ||| BitVec.shiftLeft v (64 * k)

/-- Spread a byte mask of 128 bits to a bit mask of 1,024. -/
def spreadMask (m : BitVec 128) : LineData :=
  (List.range 128).foldl (fun (a : LineData) i =>
    if m.getLsbD i then a ||| ((255 : LineData) <<< (8 * i)) else a) 0

/-- Merge the masked bytes of `new` into `old`. -/
def mergeLine (old new : LineData) (mask : BitVec 128) : LineData :=
  let b := spreadMask mask
  (old &&& ~~~b) ||| (new &&& b)

/-- The byte mask of word `k` of a line. -/
def wordMask (m : BitVec 128) (k : Nat) : Nat := ((m >>> (8 * k)).setWidth 8 : BitVec 8).toNat

/-- Poison marks after a masked write (11 R305, R309): a poisoned word written marks, a clean write of all 8 bytes clears. -/
def mergePoison (old new : BitVec 16) (mask : BitVec 128) : BitVec 16 :=
  (List.range 16).foldl (fun (a : BitVec 16) k =>
    let w := wordMask mask k
    if w = 0 then a
    else if new.getLsbD k then a ||| (1 <<< k)
    else if w = 255 then a &&& ~~~((1 : BitVec 16) <<< k)
    else a) old

/-- The merge entry of a line in a channel. -/
def State.mergeOf (s : State) (h line : Nat) : Option MergeEntry :=
  (s.chan h).mbuf.find? (fun e => e.line == line)

/-- Count a read in its class (11 MEM_ECCCNT). -/
def State.countCls (s : State) (h cls : Nat) : State :=
  match cls with
  | 1 => s.satFd .MEM_ECCCNT MEM_ECCCNT.CE1 h
  | 2 => s.satFd .MEM_ECCCNT MEM_ECCCNT.CE2 h
  | 3 => s.satFd .MEM_ECCCNT MEM_ECCCNT.UE h
  | 4 => s.satFd .MEM_ECCCNT MEM_ECCCNT.POISON h
  | _ => s

/-- Count and record what a read of a word found (11 R303, 20 R498 KIND 11 and 12). -/
def State.noteRead (s : State) (h line k : Nat) (e : EccOut) : State :=
  let s1 := s.countCls h e.cls
  if e.cls = 1 ∨ e.cls = 2 ∨ e.cls = 3 then
    let w := setF (setF (setF (setF (setF 0 MEM_ELAST.LINE (line / 16)) MEM_ELAST.WORD k) MEM_ELAST.CLASS e.cls)
      MEM_ELAST.SYND e.synd) MEM_ELAST.VALID 1
    (s1.setRg w .MEM_ELAST h).recordErr
      ⟨0x20 + h, if e.cls = 3 then 12 else 11, memNode h, some (line * 128),
       some (k + e.synd * 16 + e.cls * 2 ^ 19), false⟩
  else s1

/-- A line being read word by word: data, marks and whether a word classed UE or POISON. -/
structure LineRead where
  s : State
  data : LineData
  poison : BitVec 16
  bad : Bool

/-- Read word `k` of a line in DRAM, record what was found, and hand the corrected or poisoned word to `fix` (11 R303). -/
def readWordInto (h line : Nat) (fix : State → Nat → EccOut → State) (a : LineRead) (k : Nat) : LineRead :=
  let e := classify (a.s.rawWord (line * 16 + k))
  let s1 := a.s.noteRead h line k e
  let s2 := if e.cls = 1 ∨ e.cls = 2 ∨ e.cls = 3 then fix s1 k e else s1
  ⟨s2, setLineWord a.data k e.data, if e.poison then a.poison ||| (1 <<< k) else a.poison,
   a.bad || e.cls == 3 || e.cls == 4⟩

/-- Write all 16 words of a line with their marks. -/
def State.putLine (s : State) (h line : Nat) (d : LineData) (p : BitVec 16) : State :=
  (List.range 16).foldl (fun s k => s.chanPut h (line * 16 + k) (encodeWordEcc (lineWord d k) (p.getLsbD k))) s

/-- Retire a merge entry (11 R306): written with no read when every byte is valid, else by read-modify-write. -/
def State.retire (s : State) (h : Nat) (e : MergeEntry) : State :=
  let c := s.chan h
  let s1 := s.setChan h { c with mbuf := c.mbuf.filter (fun x => x.line != e.line) }
  if e.mask = BitVec.allOnes 128 then s1.putLine h e.line e.data e.poison
  else
    let ks := (List.range 16).filter (fun k => wordMask e.mask k != 255)
    let r := ks.foldl (readWordInto h e.line (fun s _ _ => s)) ⟨s1, 0, 0, false⟩
    r.s.putLine h e.line (mergeLine r.data e.data e.mask) (mergePoison r.poison e.poison e.mask)

/-- The retirements that a merge starts at once (11 R306): a full entry, and the oldest while more than 48 are in use. -/
def State.retireDue (s : State) (h line : Nat) : State :=
  let s1 :=
    match s.mergeOf h line with
    | some e => if e.mask = BitVec.allOnes 128 then s.retire h e else s
    | none => s
  if 48 < (s1.chan h).mbuf.length then
    match (s1.chan h).mbuf with
    | e :: _ => s1.retire h e
    | [] => s1
  else s1

/-- Room for one more entry: while all 64 are taken, a write waits until the oldest has retired (11 R305, R306). -/
def State.mbufRoom (s : State) (h line : Nat) : State :=
  if (s.mergeOf h line).isSome || (s.chan h).mbuf.length < 64 then s
  else
    match (s.chan h).mbuf with
    | e :: _ => s.retire h e
    | [] => s

/-- Merge bytes into the entry of a line, allocating one at need (11 R305). -/
def State.mergeInto (s0 : State) (h line : Nat) (mask : BitVec 128) (d : LineData) (p : BitVec 16) : State :=
  let s := s0.mbufRoom h line
  let c := s.chan h
  match s.mergeOf h line with
  | some e =>
    let n : MergeEntry := ⟨line, e.mask ||| mask, mergeLine e.data d mask, mergePoison e.poison p mask⟩
    s.setChan h { c with mbuf := c.mbuf.map (fun x => if x.line = line then n else x) }
  | none => s.setChan h { c with mbuf := c.mbuf ++ [⟨line, mask, mergeLine 0 d mask, mergePoison 0 p mask⟩] }

/-- A write that the channel accepts (11 R305, R306). -/
def State.chanWrite (s : State) (h line : Nat) (mask : BitVec 128) (d : LineData) (p : BitVec 16) : State :=
  (s.mergeInto h line mask d p).retireDue h line

/-- The byte mask of one whole word. -/
def maskOfWord (k : Nat) : BitVec 128 := (255 : BitVec 128) <<< (8 * k)

/-- The rewrite of R303: a write through the merge buffer, so that it undoes no byte that an earlier write has there. -/
def State.rewriteWord (s : State) (h line k : Nat) (e : EccOut) : State :=
  let have_ : BitVec 128 := match s.mergeOf h line with | some m => m.mask | none => 0
  let mask := maskOfWord k &&& ~~~have_
  if mask = 0 then s
  else s.chanWrite h line mask (setLineWord 0 k e.data) (if e.poison || e.cls == 3 then 1 <<< k else 0)

/-- A read of a line at its channel (11 R307): DRAM words with the entry's valid bytes and marks merged in. A word that
the entry holds whole is not read. -/
def State.chanRead (s : State) (h line : Nat) : LineRead :=
  let have_ : BitVec 128 := match s.mergeOf h line with | some m => m.mask | none => 0
  let ks := (List.range 16).filter (fun k => wordMask have_ k != 255)
  let r := ks.foldl (readWordInto h line (fun s k e => s.rewriteWord h line k e)) ⟨s, 0, 0, false⟩
  match s.mergeOf h line with
  | some m => { r with data := mergeLine r.data m.data m.mask, poison := mergePoison r.poison m.poison m.mask }
  | none => r

/-! The MRAM log store (11 R316) and the Chrysalis SRAM. -/

/-- Write a word of the MRAM when its stored codeword changes, and count it (11 R316). -/
def State.mramPut (s : State) (wa : Nat) (c : ChWord) : State :=
  if s.rawWord wa = c then s
  else (s.putRaw wa c).satFd .MGT_MRAM_WCNT MGT_MRAM_WCNT.COUNT 0 ((wa * 8 / 0x100000) % 16)

/-- Read word `k` of an MRAM line (11 R316, 20 KIND 25 and 28). -/
def mramReadWord (line : Nat) (a : LineRead) (k : Nat) : LineRead :=
  let wa := line * 16 + k
  let e := classify (a.s.rawWord wa)
  let s1 :=
    if e.cls = 1 ∨ e.cls = 2 ∨ e.cls = 3 then
      (a.s.mramPut wa e.back).recordErr
        ⟨0x3D, if e.cls = 3 then 25 else 28, lunaNode, some (line * 128), some (k + e.synd * 16 + e.cls * 2 ^ 19), false⟩
    else a.s
  ⟨s1, setLineWord a.data k e.data, if e.poison then a.poison ||| (1 <<< k) else a.poison,
   a.bad || e.cls == 3 || e.cls == 4⟩

/-- Read word `k` of an SRAM or ROM line; these carry no code in the spec, a stored mark reads as a mark. -/
def plainReadWord (line : Nat) (a : LineRead) (k : Nat) : LineRead :=
  let c := a.s.rawWord (line * 16 + k)
  let p := (a.s.chk.get? (line * 16 + k)).isSome && cwPoison c
  ⟨a.s, setLineWord a.data k (cwData c), if p then a.poison ||| (1 <<< k) else a.poison, a.bad || p⟩

/-- Read a line from the target behind its home (10 R268): channel, SRAM, ROM or MRAM. -/
def State.tgtRead (s : State) (line : Nat) : LineRead :=
  match region (line * 128) with
  | .dram => s.chanRead (homeOf line) line
  | .mram => (List.range 16).foldl (mramReadWord line) ⟨s, 0, 0, false⟩
  | _ => (List.range 16).foldl (plainReadWord line) ⟨s, 0, 0, false⟩

/-- Write masked bytes of a line to the target behind its home. Words of the MRAM and the SRAM are merged with what they
hold. -/
def State.tgtWrite (s : State) (line : Nat) (mask : BitVec 128) (d : LineData) (p : BitVec 16) : State :=
  match region (line * 128) with
  | .dram => s.chanWrite (homeOf line) line mask d p
  | .rom => s
  | rg =>
    let r := s.tgtRead line
    let nd := mergeLine r.data d mask
    let np := mergePoison r.poison p mask
    (List.range 16).foldl (fun s k =>
      if wordMask mask k = 0 then s
      else
        let c := encodeWordEcc (lineWord nd k) (np.getLsbD k)
        if rg = .mram then s.mramPut (line * 16 + k) c else s.putRaw (line * 16 + k) c) r.s

/-! The system cache (11 R313). -/

/-- The set of a line in its slice: PA[23:11]. -/
def mscSet (line : Nat) : Nat := (line / 16) % 8192

/-- Allocate or update a line in its slice; the line that leaves a full set is a free choice. -/
def State.mscPut (s : State) (line : Nat) (v : DcLine) : State :=
  if s.msc.has line then { s with msc := s.msc.set line v }
  else
    let same := s.msc.l.filter (fun e => homeOf e.1 == homeOf line && mscSet e.1 == mscSet line)
    if same.length < 24 then { s with msc := s.msc.set line v }
    else
      let (n, s1) := s.drawNat
      let out := (same.getD (n % same.length) (line, v)).1
      { s1 with msc := (s1.msc.erase out).set line v }

/-- The system cache's record of an array error (11 R314, 20 R498 kind 13); way and set do not fit the layout of ERB_MISC, so
what it holds is free. -/
def State.mscEvent (s : State) (f : Fld) (h line : Nat) : State :=
  let (n, s1) := (s.satFd .MSC_ECNT f h).drawNat
  s1.recordErr ⟨0x10 + h, 13, mscNode h, some (line * 128), some (n % 2 ^ 64), false⟩

/-- A lookup of a line in its slice checks the set's tags and the line's data (11 R314): one error bit is corrected, two in the
tags invalidate the set, two in the data the line; each event is counted and recorded. -/
def State.mscCheck (s : State) (line : Nat) : State :=
  let h := homeOf line
  if (s.msc.l.any (fun e => homeOf e.1 == h && mscSet e.1 == mscSet line)) then
    let (t, s1) := s.readEntry (upKey 10 h (mscSet line))
    let s2 :=
      if t = 0 then s1
      else if t = 1 then s1.mscEvent MSC_ECNT.CORR h line
      else { s1 with msc := s1.msc.keep (fun l => !(homeOf l == h && mscSet l == mscSet line)) }.mscEvent MSC_ECNT.SETINV h line
    if s2.msc.has line then
      let (d, s3) := s2.readEntry (upKey 9 h line)
      if d = 0 then s3
      else if d = 1 then s3.mscEvent MSC_ECNT.CORR h line
      else { s3 with msc := s3.msc.erase line }.mscEvent MSC_ECNT.LINEINV h line
    else s2
  else s

/-- A read of memory by the home (R313): hit, or target read and allocation unless a word classed UE or POISON. -/
def State.memRead (s0 : State) (line : Nat) : LineRead :=
  let h := homeOf line
  if s0.fb .MSC_CTL MSC_CTL.EN h then
    let s := s0.mscCheck line
    match s.msc.get? line with
    | some v => ⟨s.satFd .MSC_CNT MSC_CNT.HIT h, v.data, v.poison, false⟩
    | none =>
      let r := (s.satFd .MSC_CNT MSC_CNT.MISS h).tgtRead line
      if r.bad then r else { r with s := r.s.mscPut line ⟨.s, r.data, r.poison⟩ }
  else s0.tgtRead line

/-! Dirty tracking of the mirror pair (16 R426, R427). -/

/-- The range of a mirror entry holds a line (16 R421). -/
def State.mirrorHolds (s : State) (n line : Nat) : Bool :=
  let g := line / 0x800000
  let b := s.fd .PAIR_MP_CTL PAIR_MP_CTL.GBASE 0 n
  b ≤ g && decide (g < b + s.fd .PAIR_MP_CTL PAIR_MP_CTL.SIZE 0 n)

/-- The primary entries in SYNC, MIRROR or SUSPENDED whose range holds a line. -/
def State.markers (s : State) (line : Nat) : List Nat :=
  (s.pair.entries.l.map (fun e => e.1)).filter (fun n =>
    let st := s.fd .PAIR_MP_STAT PAIR_MP_STAT.STATE 0 n
    decide (1 ≤ st) && decide (st ≤ 3) && !s.fb .PAIR_MP_CTL PAIR_MP_CTL.ROLE 0 n && s.mirrorHolds n line)

/-- The home sets a line's bit in the marking bitmap (16 R426). -/
def State.pairMark (s : State) (line : Nat) : State :=
  (s.markers line).foldl (fun s n =>
    let m := s.mirror n
    if m.bulk = 1 ∨ m.marks.contains line then s else s.setMirror n { m with marks := line :: m.marks }) s

/-- A line is still marked in B(F). -/
def Mirror.toShip (m : Mirror) (line : Nat) : Bool :=
  if m.bulk = 2 then !m.ship.contains line else m.ship.contains line

/-- Its bit is cleared. -/
def Mirror.shipped (m : Mirror) (line : Nat) : Mirror :=
  { m with ship := if m.bulk = 2 then line :: m.ship else m.ship.filter (fun x => x != line), ships := m.ships + 1 }

/-- A marked line is read from memory and sent as SHIP for its frame (16 R427). -/
def State.shipOut (s : State) (n line : Nat) : State :=
  let r := s.memRead line
  let m := r.s.mirror n
  let s1 := r.s.setMirror n (m.shipped line)
  s1.pairSend ⟨1, n, r.poison, m.frame, line, r.data⟩

/-- Copy-before-overwrite, then the mark (16 R426, R427): before the home writes a line still marked in B(F) it ships
it. -/
def State.pairTouch (s : State) (line : Nat) : State :=
  State.pairMark ((s.markers line).foldl (fun s n =>
    if (s.mirror n).toShip line then (s.shipOut n line).satFd .PAIR_MP_CNT PAIR_MP_CNT.COBW 0 n else s) s) line

/-- A write of memory by the home (R313): `whole` names the requests whose line is allocated or updated (WRF, WB, WBK, a
far-atomic result line; DESIGN CHOICE: a snoop's dirty data too, on which R313 is silent); WRP, NCWR and any write with a
mark invalidate the slice's copy. -/
def State.memWrite (s : State) (line : Nat) (whole : Bool) (mask : BitVec 128) (d : LineData) (p : BitVec 16) : State :=
  let s1 := (s.pairTouch line).tgtWrite line mask d p
  if whole && p == 0 && s.fb .MSC_CTL MSC_CTL.EN (homeOf line) then s1.mscPut line ⟨.s, d, 0⟩
  else { s1 with msc := s1.msc.erase line }

/-- The whole-line byte mask. -/
def fullMask : BitVec 128 := BitVec.allOnes 128

/-- The installed capacity in bytes (01 R24): 16 times the capacity of one channel. -/
def State.installed (s : State) : Nat := 16 * (s.fd .MEM_CFG MEM_CFG.CAP) * 0x200000000

end Sys2Proof.Machine
end

