-- ==== Sys2Proof/Machine/Coh.lean ====
section
/-! DEFINITION. Coherence (10): the directory, the home agents' handling of each request, the snoops at a die, and the
whole effect of a coherent access when nothing holds its line busy. -/
namespace Sys2Proof.Machine

/-- Request OP codes (10 R272). -/
abbrev opRDS : Nat := 0x00
abbrev opRDO : Nat := 0x01
abbrev opUPG : Nat := 0x02
abbrev opOWNZ : Nat := 0x03
abbrev opRDC : Nat := 0x04
abbrev opWRF : Nat := 0x05
abbrev opWRP : Nat := 0x06
abbrev opCLN : Nat := 0x07
abbrev opFLS : Nat := 0x08
abbrev opATOMF : Nat := 0x09
abbrev opATOMM : Nat := 0x0A
abbrev opWB : Nat := 0x10
abbrev opWBK : Nat := 0x11
abbrev opEVC : Nat := 0x12
abbrev opNCRD : Nat := 0x18
abbrev opNCWR : Nat := 0x19

/-- The compute die whose CDA a node is. -/
def dieOfNode (n : Nat) : Option Nat := if n / 256 < 12 ∧ n % 256 = 0x20 then some (n / 256) else none

/-! Atomic operations (03 R80, R81). -/

/-- The low `n` bytes of a word. -/
def lowBytes (n : Nat) (w : Word) : Word := BitVec.ofNat 64 (w.toNat % 2 ^ (8 * n))

/-- Sign-extend the low `n` bytes. -/
def signBytes (n : Nat) (w : Word) : Int :=
  let v : Nat := w.toNat % 2 ^ (8 * n)
  if v < 2 ^ (8 * n - 1) then (v : Int) else (v : Int) - (2 ^ (8 * n) : Nat)

/-- The new value an atomic stores (R80): operation, size in bytes, old value, operand, compare value. -/
def atomNew (op n : Nat) (old x cmp : Word) : Word :=
  let o := lowBytes n old
  let v := lowBytes n x
  match op with
  | 0 => v
  | 1 => lowBytes n (o + v)
  | 2 => o &&& v
  | 3 => o ||| v
  | 4 => o ^^^ v
  | 5 => if signBytes n v < signBytes n o then v else o
  | 6 => if signBytes n o < signBytes n v then v else o
  | 7 => if v.toNat < o.toNat then v else o
  | 8 => if o.toNat < v.toNat then v else o
  | 15 => if o = lowBytes n cmp then v else o
  | _ => o

/-- `n` bytes at byte `off` of a line, as a word. -/
def lineBytes (d : LineData) (off n : Nat) : Word := lowBytes n (BitVec.setWidth 64 (BitVec.ushiftRight d (8 * off)))

/-- A byte mask of `n` bytes at `off`. -/
def byteMask (off n : Nat) : BitVec 128 := BitVec.ofNat 128 ((2 ^ n - 1) * 2 ^ off)

/-- A line that holds the low bytes of `w` at byte `off`. -/
def lineAt (off : Nat) (w : Word) : LineData := BitVec.shiftLeft (BitVec.setWidth 1024 w) (8 * off)

/-- Whether a word of a line that an access of `n` bytes at `off` touches is marked. -/
def touched (p : BitVec 16) (off n : Nat) : Bool :=
  (List.range 16).any (fun k => p.getLsbD k && (off / 8 ≤ k) && (k ≤ (off + n - 1) / 8))

/-- Size in bytes of an atomic as its operation byte gives it (R80): bit 4 set for 8 bytes. -/
def atomSize (aop : Nat) : Nat := if (aop / 16) % 2 = 1 then 8 else 4

/-- The channel's atomic (11 R308): old value, poison, state. -/
def State.chanAtom (s : State) (r : CohReq) : Word × Bool × State :=
  let h := homeOf r.line
  let n := atomSize r.aop
  let k := r.aoff / 8
  let have_ : BitVec 128 := match s.mergeOf h r.line with | some m => m.mask | none => 0
  let rd :=
    if wordMask have_ k = 255 then ⟨s, 0, 0, false⟩
    else readWordInto h r.line (fun s k e => s.rewriteWord h r.line k e) ⟨s, 0, 0, false⟩ k
  let (d, p) :=
    match s.mergeOf h r.line with
    | some m => (mergeLine rd.data m.data m.mask, mergePoison rd.poison m.poison m.mask)
    | none => (rd.data, rd.poison)
  let old := lineBytes d r.aoff n
  if p.getLsbD k then (old, true, rd.s.chanWrite h r.line (maskOfWord k) d p)
  else
    let nw := atomNew (r.aop % 16) n old r.operand r.compare
    let d2 := mergeLine d (lineAt r.aoff nw) (byteMask r.aoff n)
    (old, false, rd.s.chanWrite h r.line (maskOfWord k) d2 0)

/-! The directory (10 R276-R278). -/

/-- The set of a line in its home's directory: PA[26:11]. -/
def dirSet (line : Nat) : Nat := (line / 16) % 65536

/-- The dies an entry points to: the named ones, or all twelve (R271, R281). -/
def DirEntry.holders (e : DirEntry) : List Nat := if e.st = 3 then List.range 12 else e.ptrs

/-- List an entry, marking it most recently used. -/
def State.dirPut (s : State) (h line : Nat) (st : Nat) (ptrs : List Nat) : State :=
  let a := s.home h
  s.setHome h { a with dir := a.dir.set line ⟨st, ptrs, a.clock⟩, clock := a.clock + 1 }

/-- Free a line's entry: the line is Absent. -/
def State.dirDrop (s : State) (h line : Nat) : State :=
  let a := s.home h
  s.setHome h { a with dir := a.dir.erase line }

/-- Add a pointer (R277): a fourth die makes the entry BCAST and OVFL counts. -/
def State.dirAdd (s : State) (h line d : Nat) : State :=
  match (s.home h).dir.get? line with
  | none => s.dirPut h line 1 [d]
  | some e =>
    if e.st = 3 then s.dirPut h line 3 []
    else if e.ptrs.contains d then s.dirPut h line 1 e.ptrs
    else if e.ptrs.length < 3 then s.dirPut h line 1 (e.ptrs ++ [d])
    else (s.dirPut h line 3 []).satFd .COH_DCNT COH_DCNT.OVFL h

/-- Take a die out of an entry (EVC, R281; BCAST entries stay, R277). -/
def State.dirRemove (s : State) (h line d : Nat) : State :=
  match (s.home h).dir.get? line with
  | none => s
  | some e =>
    if e.st = 3 then s
    else
      let ps := e.ptrs.filter (fun x => x != d)
      if ps = [] then s.dirDrop h line else s.dirPut h line e.st ps

/-! What a die holds, and snoops at it (10 R284, R285). -/

/-- Rank of a cache state: I 0, S 1, E 2, M 3. -/
def CState.rank : CState → Nat
  | .s => 1
  | .e => 2
  | .m => 3
  | .nc => 0

/-- The cores whose L2 holds a line, by the filter's vector (07 R196). -/
def State.holdersOf (s : State) (d line : Nat) : List Nat :=
  match (s.die d).filt.get? line with
  | some e => ((List.range 18).filter (fun c => e.vec.getLsbD c)).map (fun c => 18 * d + c)
  | none => []

/-- Rank of a core's copy of a line. -/
def Core.lineRank (c : Core) (line : Nat) : Nat :=
  match c.l2.get? line with
  | some e => e.st.rank
  | none => 0

/-- The die state of a line (10 R270): the strongest of the filter's record, the L2 copies and the die cache's. -/
def State.dieState (s : State) (d line : Nat) : Nat :=
  let f := match (s.die d).filt.get? line with | some e => e.st.rank | none => 0
  let c := match (s.die d).dcache.get? line with | some e => e.st.rank | none => 0
  (s.holdersOf d line).foldl (fun m n => max m ((s.core n).lineRank line)) (max f c)

/-- The dirty copy of a line in a die. -/
def State.dieDirty (s : State) (d line : Nat) : Option (LineData × BitVec 16) :=
  let fromCore := (s.holdersOf d line).findSome? (fun n =>
    match (s.core n).l2.get? line with
    | some e => if e.st = .m then some (e.data, e.poison) else none
    | none => none)
  match fromCore with
  | some v => some v
  | none =>
    match (s.die d).dcache.get? line with
    | some e => if e.st = .m then some (e.data, e.poison) else none
    | none => none

/-- Take a line out of a core's L2 and L1D (07 R191). -/
def Core.dropLine (c : Core) (line : Nat) : Core := { c with l2 := c.l2.erase line, l1d := c.l1d.erase line }

/-- Set the state of a core's copy. -/
def Core.setLineState (c : Core) (line : Nat) (st : CState) : Core :=
  match c.l2.get? line with
  | some e => { c with l2 := c.l2.set line { e with st := st } }
  | none => c

/-- Apply a change to every core of a list. -/
def State.modCores (s : State) (l : List Nat) (f : Core → Core) : State := l.foldl (fun s n => s.modCore n f) s

/-- Remove every copy of a line from a die. -/
def State.dieDropAll (s : State) (d line : Nat) : State :=
  let s1 := s.modCores (s.holdersOf d line) (fun c => c.dropLine line)
  let v := s1.die d
  s1.setDie d { v with filt := v.filt.erase line, dcache := v.dcache.erase line }

/-- Give every copy of a line in a die one state. -/
def State.dieSetAll (s : State) (d line : Nat) (st : CState) : State :=
  let s1 := s.modCores (s.holdersOf d line) (fun c => c.setLineState line st)
  let v := s1.die d
  let f := match v.filt.get? line with | some e => v.filt.set line { e with st := st } | none => v.filt
  let c := match v.dcache.get? line with | some e => v.dcache.set line { e with st := st } | none => v.dcache
  s1.setDie d { v with filt := f, dcache := c }

/-- A snoop answer: the die state after it, data, and whether it came from the write-back buffer (10 R274). -/
structure SnpAns where
  st : Nat
  dat : Option (LineData × BitVec 16)
  wbx : Bool

/-! Array errors of L2, die cache and snoop filter (07 R211). -/

/-- An error in a tag or data entry of L2 or die cache: `dirty` says whether two bits in error lose data, which is then poisoned
in one word of the line, a free choice. Two error bits in a tag start a domain stop; one is corrected, and R498 has no kind for
it. -/
def State.cacheCheck (s : State) (tagKey dataKey bank k1 kP node line way set : Nat) (dirty : Bool) : Option Nat × State :=
  let (t, s1) := s.readEntry tagKey
  let s2 := if t = 2 then s1.arrayEvent bank 8 node line way set else s1
  let (d, s3) := s2.readEntry dataKey
  if d = 0 then (none, s3)
  else if d = 2 && dirty then
    let (n, s4) := s3.drawNat
    (some (n % 16), s4.arrayEvent bank kP node line way set)
  else (none, s3.arrayEvent bank k1 node line way set)

/-- A core's L2 line is read (R211): the array's errors act before the data is used. -/
def State.l2Check (s : State) (n line : Nat) : State :=
  match (s.core n).l2.get? line with
  | none => s
  | some e =>
    let r := s.cacheCheck (upKey 3 n line) (upKey 2 n line) (coreBank n) 3 4 (coreNode n) line e.way (line % 1024)
      (e.st == .m || e.ncDirty)
    match r.1 with
    | none => r.2
    | some k => r.2.modCore n (fun c => { c with l2 := c.l2.set line { e with poison := e.poison ||| (1 <<< k) }, arrErr := 2 })

/-- A die-cache line is read (R211). Way and slice of the line are free. -/
def State.dcCheck (s : State) (d line : Nat) : State :=
  match (s.die d).dcache.get? line with
  | none => s
  | some e =>
    let (w, s1) := s.drawNat
    let r := s1.cacheCheck (upKey 5 d line) (upKey 4 d line) (dieCacheBank d) 6 7 (d * 256 + 0x30 + Config.dcSlice line % 16) line w
      (line % 1024) (e.st == .m)
    match r.1 with
    | none => r.2
    | some k =>
      let v := r.2.die d
      r.2.setDie d { v with dcache := v.dcache.set line { e with poison := e.poison ||| (1 <<< k) } }

/-- The CDA reads its filter entry of a line (R211). -/
def State.filtCheck (s : State) (d line : Nat) : State :=
  if (s.die d).filt.has line then
    let (t, s1) := s.readEntry (upKey 6 d line)
    if t = 0 then s1
    else
      let (w, s2) := s1.drawNat
      s2.arrayEvent (cdaBank d) (if t = 1 then 9 else 10) (cdaNode d) line w (Config.filterSet line)
  else s

/-- The CDA works on a line of its die: the filter entry and every copy are read. -/
def State.dieCheck (s : State) (d line : Nat) : State :=
  (((s.filtCheck d line).holdersOf d line).foldl (fun s n => s.l2Check n line) (s.filtCheck d line)).dcCheck d line

/-- A snoop at a die (10 R285): 0 SNPS, 1 SNPI, 2 SNPC, 3 SNPCL, 4 BINV. -/
def State.snoopDie (s0 : State) (kind d line : Nat) : SnpAns × State :=
  let s := s0.dieCheck d line
  let v := s.die d
  match v.wb.find? (fun e => e.line == line) with
  | some e =>
    (⟨0, if e.dirty then some (e.data, e.poison) else none, true⟩,
     s.setDie d { v with wb := v.wb.map (fun x => if x.line = line then { x with superseded := true } else x) })
  | none =>
    let st := s.dieState d line
    let dat := s.dieDirty d line
    if st = 0 then (⟨0, none, false⟩, s)
    else
      match kind with
      | 0 => (⟨1, dat, false⟩, s.dieSetAll d line .s)
      | 2 => (⟨st, dat, false⟩, s)
      | 3 => if st = 3 then (⟨2, dat, false⟩, s.dieSetAll d line .e) else (⟨st, none, false⟩, s)
      | _ => (⟨0, dat, false⟩, s.dieDropAll d line)

/-! Home agents. -/

/-- Requests that would write their line (10 R282). -/
def writesOp (op : Nat) : Bool :=
  op == 1 || op == 2 || op == 3 || op == 5 || op == 6 || op == 9 || op == 10 || op == 0x19

/-- What a home's limits on targets say of a request (10 R282, 11 R315, 01 R24). -/
inductive Guard where
  /-- Serve it. -/
  | serve
  /-- Answer with DECERR. -/
  | decerr
  /-- Reads return zero, writes change nothing, and WLD_VIOL logs the kind. -/
  | zero (kind : Nat)
deriving DecidableEq, Repr

/-- The limits of R282, R315 and R24. -/
def State.homeGuard (s : State) (op node : Nat) (sec : Bool) (line : Nat) : Guard :=
  let a := line * 128
  match region a with
  | .dram => if a < s.installed then .serve else .decerr
  | .rom => if writesOp op then .decerr else .serve
  | .sram => if sec then .serve else .zero 2
  | .mram =>
    let r := (a / 0x100000) % 16
    let secure := r == 15 || bitAt (s.rg .MGT_MRAM_OWN) r
    let locked := r == 15 || bitAt (s.rg .MGT_MRAM_OWN) (16 + r)
    if secure && !sec then .zero 3
    else if locked && writesOp op && !(r == 15 && node == lunaNode) then .decerr
    else .serve
  | _ => .decerr

/-- A home's reply: status, granted state (0 I, 1 S, 2 E, 3 M), line and marks, an atomic's old value and its mark. -/
structure HReply where
  status : Status
  st : Nat
  data : LineData
  poison : BitVec 16
  old : Word
  psn : Bool

/-- A reply without data. -/
def HReply.cmp (st : Status) : HReply := ⟨st, 0, 0, 0, 0, false⟩

/-- Atomic placement at the home (10 R291, R292 items 5 and 6). -/
def State.placeOp (s : State) (h op line : Nat) : Nat :=
  if op = opATOMF ∨ op = opATOMM then
    let o := s.fd .COH_CTL COH_CTL.AOVR h
    let o2 := if o = 1 then opATOMF else if o = 2 then opATOMM else op
    if o2 = opATOMM ∧ region (line * 128) ≠ .dram then opATOMF else o2
  else op

/-- UPG from a die that is no holder is handled as RDO (10 R281). -/
def State.effOp (s : State) (h op node line : Nat) : Nat :=
  if op = opUPG then
    match (s.home h).dir.get? line, dieOfNode node with
    | some e, some d => if e.holders.contains d then opUPG else opRDO
    | _, _ => opRDO
  else s.placeOp h op line

/-- The snoops of a request (10 R281, R283): die and kind. -/
def State.homeSnoops (s : State) (h op node line : Nat) : List (Nat × Nat) :=
  match (s.home h).dir.get? line with
  | none => []
  | some e =>
    let r := dieOfNode node
    let own := e.st = 2
    let named := match r with | some d => e.st != 3 && e.ptrs.contains d | none => false
    let others := e.holders.filter (fun d => r != some d)
    if op = opRDS then (if own then e.ptrs.map (fun d => (d, 0)) else [])
    else if op = opRDO ∨ op = opUPG ∨ op = opOWNZ then others.map (fun d => (d, 1))
    else if op = opRDC then
      if named then r.toList.map (fun d => (d, 1))
      else if own then e.ptrs.map (fun d => (d, 2)) else []
    else if op = opWRF ∨ op = opWRP ∨ op = opFLS ∨ op = opATOMF ∨ op = opATOMM then e.holders.map (fun d => (d, 1))
    else if op = opCLN then (if own then e.ptrs.map (fun d => (d, 3)) else [])
    else if op = 0x20 then e.holders.map (fun d => (d, 4))
    else []

/-- The line of a request's answer: the dirty data collected, or memory. -/
def State.gotOrMem (s : State) (line : Nat) (got : Option (LineData × BitVec 16)) : LineRead :=
  match got with
  | some v => ⟨s, v.1, v.2, false⟩
  | none => s.memRead line

/-- Write collected dirty data to memory. -/
def State.writeGot (s : State) (line : Nat) (got : Option (LineData × BitVec 16)) : State :=
  match got with
  | some v => s.memWrite line true fullMask v.1 v.2
  | none => s

/-- What a home does once its snoops are answered (10 R281): reply, memory write, directory. `ans` is the state an owner
answered. -/
def State.homeFinish (s : State) (h op : Nat) (r : CohReq) (got : Option (LineData × BitVec 16)) (ans : Nat) :
    HReply × State :=
  let line := r.line
  let e := (s.home h).dir.get? line
  let d := (dieOfNode r.node).getD 0
  if op = opRDS then
    match e with
    | some en =>
      if en.st = 2 then
        let rd := s.gotOrMem line got
        let s1 := rd.s.writeGot line got
        if ans = 0 then (⟨.ok, 2, rd.data, rd.poison, 0, false⟩, (s1.pairMark line).dirPut h line 2 [d])
        else (⟨.ok, 1, rd.data, rd.poison, 0, false⟩, (s1.dirPut h line 1 en.ptrs).dirAdd h line d)
      else
        let rd := s.memRead line
        (⟨.ok, 1, rd.data, rd.poison, 0, false⟩, rd.s.dirAdd h line d)
    | none =>
      let rd := s.memRead line
      (⟨.ok, 2, rd.data, rd.poison, 0, false⟩, (rd.s.pairMark line).dirPut h line 2 [d])
  else if op = opRDO then
    let rd := s.gotOrMem line got
    (⟨.ok, if got.isSome then 3 else 2, rd.data, rd.poison, 0, false⟩, (rd.s.pairMark line).dirPut h line 2 [d])
  else if op = opUPG ∨ op = opOWNZ then (HReply.cmp .ok, (s.pairMark line).dirPut h line 2 [d])
  else if op = opRDC then
    let rd := s.gotOrMem line got
    let selfNamed := match dieOfNode r.node, e with
      | some x, some en => en.st != 3 && en.ptrs.contains x
      | _, _ => false
    let s1 := if selfNamed then (rd.s.writeGot line got).dirRemove h line d else rd.s
    (⟨.ok, 0, rd.data, rd.poison, 0, false⟩, s1)
  else if op = opWRF then (HReply.cmp .ok, (s.memWrite line true fullMask r.data r.poison).dirDrop h line)
  else if op = opWRP then
    let s1 :=
      match got with
      | some v => s.memWrite line false fullMask (mergeLine v.1 r.data r.mask) (mergePoison v.2 r.poison r.mask)
      | none => s.memWrite line false r.mask r.data r.poison
    (HReply.cmp .ok, s1.dirDrop h line)
  else if op = opCLN then (HReply.cmp .ok, s.writeGot line got)
  else if op = opFLS then (HReply.cmp .ok, (s.writeGot line got).dirDrop h line)
  else if op = opATOMF then
    let rd := s.gotOrMem line got
    let n := atomSize r.aop
    let old := lineBytes rd.data r.aoff n
    if rd.poison.getLsbD (r.aoff / 8) then
      (⟨.ok, 0, 0, 0, old, true⟩, (rd.s.writeGot line got).dirDrop h line)
    else
      let nw := atomNew (r.aop % 16) n old r.operand r.compare
      let nd := mergeLine rd.data (lineAt r.aoff nw) (byteMask r.aoff n)
      (⟨.ok, 0, 0, 0, old, false⟩, (rd.s.memWrite line true fullMask nd rd.poison).dirDrop h line)
  else if op = opATOMM then
    let s1 := (s.writeGot line got).pairTouch line
    let a := ({ s1 with msc := s1.msc.erase line }).chanAtom r
    (⟨.ok, 0, 0, 0, a.1, a.2.1⟩, a.2.2.dirDrop h line)
  else if op = opWB then (HReply.cmp .ok, (s.memWrite line true fullMask r.data r.poison).dirDrop h line)
  else if op = opWBK then (HReply.cmp .ok, s.memWrite line true fullMask r.data r.poison)
  else if op = opEVC then (HReply.cmp .ok, s.dirRemove h line d)
  else if op = opNCRD then
    let rd := s.memRead line
    (⟨.ok, 0, rd.data, rd.poison, 0, false⟩, rd.s)
  else if op = opNCWR then (HReply.cmp .ok, s.memWrite line false r.mask r.data r.poison)
  else if op = 0x20 then (HReply.cmp .ok, (s.writeGot line got).dirDrop h line)
  else (HReply.cmp .decerr, s)

/-- A protocol fault (10 R294). -/
def State.protoFault (s : State) (h line : Nat) : State :=
  (s.setFd .COH_STATUS COH_STATUS.PFAULT 1 h).recordErr ⟨h, 17, homeNode h, some (line * 128), none, false⟩

/-- Whether a die that a snoop names cannot answer (10 R293): its CDA's fence is not OPEN. -/
def State.dieFenced (s : State) (d : Nat) : Bool := s.fb .NOC_AGENT NOC_AGENT.FENCE 0 d 0x20

/-- What the snoops of a request have collected. -/
structure Collected where
  s : State
  got : Option (LineData × BitVec 16)
  ans : Nat

/-- One snoop of a request, answered at once: a fenced die counts as SACK I under BCAST and starts a domain stop when it
is named (10 R293); a write-back that the answer ties arrives and gets CMP STALE (10 R287). -/
def State.snoopOne (h line : Nat) (bcast : Bool) (a : Collected) (p : Nat × Nat) : Collected :=
  if a.s.dieFenced p.1 then
    if bcast then a
    else { a with s := a.s.recordErr ⟨h, 18, homeNode h, some (line * 128), some 4, false⟩ }
  else
    let (r, s1) := a.s.snoopDie p.2 p.1 line
    let s2 :=
      if r.wbx then
        let v := s1.die p.1
        let s3 := s1.consume (fun m => m.cls == 0 && m.src == cdaNode p.1 && v.wb.any (fun e => e.line == line && e.tag == m.tag))
        (s3.setDie p.1 { v with wb := v.wb.filter (fun e => e.line != line) }).satFd .COH_CNT COH_CNT.STALEWB h
      else s1
    ⟨s2, match a.got with | some g => some g | none => r.dat, r.st⟩

/-- Every snoop of a request, answered at once. -/
def State.snoopAll (s : State) (h line : Nat) (bcast : Bool) (l : List (Nat × Nat)) : Collected :=
  l.foldl (State.snoopOne h line bcast) ⟨s, none, 0⟩

/-- Whether a line's directory entry is BCAST. -/
def State.isBcast (s : State) (h line : Nat) : Bool :=
  match (s.home h).dir.get? line with
  | some e => e.st == 3
  | none => false

/-- A line is busy while a transaction of it is open or waits for a victim of its own (10 R278, R280). -/
def State.lineOpen (s : State) (h line : Nat) : Bool :=
  (s.home h).trk.any (fun t => t.req.line == line || (match t.victimFor with | some v => v.2.line == line | none => false))

/-- A granted reservation holds a line, or the way of its entry (10 R289). -/
def State.lineHeld (s : State) (h line : Nat) : Bool :=
  (s.home h).rsv.any (fun r => r.granted && (r.line == line || r.way == line + 2))

/-- A request for a line cannot start: it is busy or held (10 R288). -/
def State.lineBusy (s : State) (h line : Nat) : Bool := s.lineOpen h line || s.lineHeld h line

/-- Requests whose grant needs a directory entry (10 R278). -/
def needsEntry (op : Nat) : Bool := op == opRDS || op == opRDO || op == opOWNZ || op == opUPG

/-- The least recently used unpinned entry of a line's full set, if a new entry is needed (10 R278): none, the set has an unused
way; some none, every way is pinned. `own` is the way that a granted reservation of the request holds. -/
def State.dirVictim (s : State) (h op line : Nat) (own : Nat := 0) : Option (Option Nat) :=
  let a := s.home h
  if !needsEntry op || a.dir.has line || own == 1 then none
  else if 2 ≤ own ∧ a.dir.has (own - 2) then some (some (own - 2))
  else
    let ways := a.dir.l.filter (fun e => dirSet e.1 == dirSet line)
    let kept := (a.rsv.filter (fun r => r.granted && r.way == 1 && dirSet r.line == dirSet line)).length
    if ways.length + kept < 16 then none
    else
      let free := ways.filter (fun e => !(s.lineBusy h e.1))
      match free with
      | [] => some none
      | e :: t => some (some (t.foldl (fun b x => if x.2.use < b.2.use then x else b) e).1)

/-- Trackers that serve any transaction and are in use (10 R288). -/
def State.generalTrk (s : State) (h : Nat) : Nat := ((s.home h).trk.filter (fun t => !t.resv)).length

/-- Why a home cannot start a request at once (10 R288), by the numbers of `Rsv.cond`. -/
def State.blocked (s : State) (h op line : Nat) : Option Nat :=
  if s.lineOpen h line then some 0
  else if s.lineHeld h line then some 1
  else if s.dirVictim h op line == some none then some 2
  else if 512 ≤ s.generalTrk h then some 3
  else none

/-- The node's reservation at a home for exactly this request (10 R289). -/
def State.rsvOf (s : State) (h : Nat) (r : CohReq) : Option Rsv :=
  (s.home h).rsv.find? (fun v => v.node == r.node && v.gen == r.gen && v.tag == r.tag && v.line == r.line)

/-- A reservation has been used or has lapsed: what the home held for it is free (10 R289). -/
def State.dropRsv (s : State) (h node : Nat) : State :=
  let a := s.home h
  s.setHome h { a with rsv := a.rsv.filter (fun v => v.node != node) }

/-- A request is answered with RETRY (10 R288, R289): true with a reservation, which is recorded with its blocking condition;
false where the node has one already, behind which the request waits. -/
def State.noteRetry (s : State) (h op : Nat) (r : CohReq) (cond : Nat) : Bool × State :=
  let s1 := s.satFd .COH_CNT COH_CNT.RETRY h
  let a := s1.home h
  if a.rsv.any (fun v => v.node == r.node) then
    (false, s1.setHome h { a with rsv := a.rsv.map (fun v =>
      if v.node = r.node then { v with behind := v.behind ++ [(r.tag, r.line)] } else v) })
  else
    (true, (s1.setHome h { a with rsv := a.rsv ++ [⟨r.node, r.gen, r.tag, r.line, false, op, cond, 0, []⟩] }).expose (upKey 8 h 0))

/-- The reservation that a home may grant now: the oldest of which nothing blocks the request any more (10 R289). -/
def State.grantable (s : State) (h : Nat) : Option Rsv :=
  (s.home h).rsv.find? (fun v => !v.granted && s.blocked h v.op v.line == none)

/-- A GNT (10 R289): the home holds the line, the directory way and the tracker entry for the requester. -/
def State.grantRsv (s : State) (h : Nat) (v : Rsv) : State :=
  let a := s.home h
  let way := if needsEntry v.op && !a.dir.has v.line then
      (match s.dirVictim h v.op v.line with | some (some k) => k + 2 | _ => 1) else 0
  (s.setHome h { a with rsv := a.rsv.map (fun x => if x.node = v.node then { x with granted := true, way := way } else x) }).satFd
    .COH_CNT COH_CNT.GRANT h

/-- A read of a line's directory entry (10 R279): one error bit is corrected and the entry written back, two start a domain
stop. False: the entry is lost. -/
def State.dirCheck (s : State) (h line : Nat) : Bool × State :=
  if (s.home h).dir.has line then
    let (e, s1) := s.readEntry (upKey 7 h line)
    if e = 0 then (true, s1)
    else (e = 1, s1.recordErr ⟨h, if e = 1 then 14 else 15, homeNode h, some (line * 128), none, false⟩)
  else (true, s)

/-- A read of a home's tracker and reservation arrays (10 R294): an uncorrectable error starts a domain stop. -/
def State.trkCheck (s : State) (h : Nat) : Bool × State :=
  if (s.home h).trk.isEmpty && (s.home h).rsv.isEmpty then (true, s)
  else
    let (e, s1) := s.readEntry (upKey 8 h 0)
    if e = 2 then (false, s1.recordErr ⟨h, 16, homeNode h, none, none, false⟩) else (true, s1)

/-- Both arrays of a home are read for a request. -/
def State.homeCheck (s : State) (h line : Nat) : Bool × State :=
  let (a, s1) := s.trkCheck h
  if !a then (false, s1) else s1.dirCheck h line

/-- Evict a directory entry whose dies answer at once (10 R278). -/
def State.evictEntry (s : State) (h line : Nat) : State :=
  let l := s.homeSnoops h 0x20 (homeNode h) line
  let c := s.snoopAll h line (s.isBcast h line) l
  let s1 := (c.s.writeGot line c.got).dirDrop h line
  let s2 := s1.satFd .COH_DCNT COH_DCNT.VICTIM h
  l.foldl (fun s _ => s.satFd .COH_CNT COH_CNT.BINV h) s2

/-- Whether the sender of an eviction is recorded as a holder. -/
def State.isHolder (s : State) (h line d : Nat) : Bool :=
  match (s.home h).dir.get? line with
  | some e => e.holders.contains d
  | none => false

/-- Whether the directory records a die as the line's owner: the only die whose WB or WBK a rule allows (10 R281, R294). -/
def State.isOwner (s : State) (h line d : Nat) : Bool :=
  match (s.home h).dir.get? line with
  | some e => e.st == 2 && e.ptrs.contains d
  | none => false

/-- The requests that a home performs without RETRY and without waiting, once they are accepted: their whole effect, with
every snoop answered at once (10 R280-R283). `own` is the way that the request's reservation holds. -/
def State.homeServe (s : State) (h op : Nat) (r : CohReq) (own : Nat := 0) : HReply × State :=
  let op2 := s.effOp h op r.node r.line
  if (op2 = opATOMF ∨ op2 = opATOMM) ∧ r.aoff % atomSize r.aop ≠ 0 then (HReply.cmp .decerr, s)
  else if op2 = opEVC ∧ !(s.isHolder h r.line ((dieOfNode r.node).getD 16)) then (HReply.cmp .ok, s)
  else if (op2 = opWB ∨ op2 = opWBK) ∧ !(s.isOwner h r.line ((dieOfNode r.node).getD 16)) then
    (HReply.cmp .ok, s.protoFault h r.line)
  else
    let s1 := match s.dirVictim h op2 r.line own with | some (some v) => (s.dirCheck h v).2.evictEntry h v | _ => s
    let c := s1.snoopAll h r.line (s1.isBcast h r.line) (s1.homeSnoops h op2 r.node r.line)
    c.s.homeFinish h op2 r c.got c.ans

/-- The channel behind a line of DRAM takes no traffic: it is gated, or not trained (11 R298). The request waits. -/
def State.memGated (s : State) (line : Nat) : Bool :=
  region (line * 128) == .dram && (s.gateClosed (228 + homeOf line) || !s.fb .MEM_STATUS MEM_STATUS.TRAINED (homeOf line))

/-- A coherent access whole (10): limits; RETRY with or without a reservation while the home cannot start it, and no second
request before its GNT (R288-R290); else its effect. -/
def State.homeDo (s0 : State) (op : Nat) (r : CohReq) : HReply × State :=
  let h := homeOf r.line
  match s0.homeGuard op r.node r.sec r.line with
  | .decerr => (HReply.cmp .decerr, s0)
  | .zero k => (HReply.cmp .ok, s0.violate r.node k (r.line * 128))
  | .serve =>
    let (ok, s) := s0.homeCheck h r.line
    if s0.memGated r.line then (HReply.cmp .retry, s0)
    else if !ok then (HReply.cmp .retry, s)
    else
      match s.rsvOf h r with
      | some v =>
        if v.granted then (s.dropRsv h r.node).homeServe h op r v.way
        else if s.grantable h == some v then
          ((s.grantRsv h v).dropRsv h r.node).homeServe h op r 0
        else (HReply.cmp .retry, s0)
      | none =>
        if (s.home h).rsv.any (fun v => v.node == r.node && v.behind.contains (r.tag, r.line)) then (HReply.cmp .retry, s0)
        else
          match s.blocked h op r.line with
          | some c =>
            let n := s.noteRetry h op r c
            (HReply.cmp .retry, n.2.deliver (Msg.mk' 2 (if n.1 then 0x09 else 0x08) r.node (homeNode h) r.gen r.tag r.sec .retry
              (r.line * 128) 0 0 r.slice))
          | none => s.homeServe h op r

/-- A request with nothing but its line. -/
def CohReq.bare (node line : Nat) (sec : Bool) : CohReq :=
  ⟨node, 0, 0, sec, 0xFF, line, 0, 0, 0, 0, 0, 0, 0⟩

/-- A read of the current line without caching it (RDC) by a node. -/
def State.readLine (s : State) (node line : Nat) (sec : Bool) : HReply × State :=
  s.homeDo opRDC (CohReq.bare node line sec)

/-- A write of bytes of a line (WRF when the mask is full, else WRP) by a node. -/
def State.writeLine (s : State) (node line : Nat) (sec : Bool) (mask : BitVec 128) (d : LineData) (p : BitVec 16) :
    HReply × State :=
  s.homeDo (if mask = fullMask then opWRF else opWRP)
    { CohReq.bare node line sec with mask := mask, data := d, poison := p }

/-- The home of a line would perform a node's write at once, and not answer RETRY (10 R288, R289; 11 R298). -/
def State.takesWrite (s : State) (node line : Nat) (sec : Bool) : Bool :=
  s.homeGuard opWRF node sec line != .serve ||
    (!s.memGated line && (s.blocked (homeOf line) opWRF line).isNone && !(s.home (homeOf line)).rsv.any (fun v => v.node == node))

end Sys2Proof.Machine
end

