-- ==== Sys2Proof/Machine/Cache.lean ====
section
/-! DEFINITION. Core and die caches (07) and the compute-die agent (10 R284-R286): fills, evictions, the requests of a
core with their whole effect, and the cleaning operations. -/
namespace Sys2Proof.Machine

/-- Numbers of C_ registers the caches look at. -/
abbrev cCACHECTL : Nat := 0x090
abbrev cCACHEST : Nat := 0x091

/-- A C_ register of a core, 0 where nothing was written (every one of them resets to 0 unless Creg.lean says otherwise). -/
def Core.cr (c : Core) (n : Nat) : Word := c.creg.getD n 0
/-- Store a C_ register. -/
def Core.setCr (c : Core) (n : Nat) (w : Word) : Core := { c with creg := c.creg.set n w }

/-- L2 enable (07 R200). -/
def Core.l2en (c : Core) : Bool := bitAt (c.cr cCACHECTL) 2
/-- L1D enable: effective only while L2EN is 1. -/
def Core.l1den (c : Core) : Bool := bitAt (c.cr cCACHECTL) 1 && c.l2en
/-- L1I enable. -/
def Core.l1ien (c : Core) : Bool := bitAt (c.cr cCACHECTL) 0

/-- An event of R102 that this core causes; it is counted when the core next counts (03 R100, R102). -/
def State.noteEv (s : State) (n ev : Nat) : State := s.modCore n (fun c => { c with pmEv := c.pmEv.set ev (c.pmEv.getD ev 0 + 1) })

/-- A request of a core to a home: a RETRY is event 0x12 (03 R102). -/
def State.homeFor (s : State) (n op : Nat) (q : CohReq) : HReply × State :=
  let (r, s1) := s.homeDo op q
  (r, if r.status = .retry then s1.noteEv n 0x12 else s1)

/-- Die-cache enable (07 R210). -/
def State.dcen (s : State) (d : Nat) : Bool := s.fb .CDA_CTL CDA_CTL.DCEN d

/-- The tag of a CDA's request that the model performs whole, with its reply, in one step. -/
def wholeTag : Nat := 0xFFF

/-- A CDA's request to a home. -/
def State.cdaReq (s : State) (d line : Nat) (sec : Bool) : CohReq :=
  { CohReq.bare (cdaNode d) line sec with gen := s.genOf (cdaNode d), tag := wholeTag }

/-- The tag of a CDA's next request (09 R249): 4,095 in turn, no quarantined one. -/
def State.cdaTag (s : State) (d : Nat) : Nat := s.freeTag (cdaNode d) 0 wholeTag ((s.die d).nextTag % wholeTag)

/-- The packet of a write-back buffer entry (10 R272). -/
def State.wbMsg (s : State) (d : Nat) (e : WbEntry) : Msg :=
  Msg.mk' 0 (if e.dirty then opWB else opEVC) (homeNode (homeOf e.line)) (cdaNode d) (s.genOf (cdaNode d)) e.tag false .ok
    (e.line * 128) e.data e.poison

/-- Put a line in the write-back buffer and send WB or EVC (10 R286). -/
def State.bufferWb (s : State) (d line : Nat) (dirty : Bool) (data : LineData) (p : BitVec 16) : State :=
  let v := s.die d
  let e : WbEntry := ⟨line, dirty, data, p, false, s.cdaTag d, 0, s.limitFor (line * 128)⟩
  (s.setDie d { v with wb := v.wb ++ [e], nextTag := s.cdaTag d + 1 }).send (s.wbMsg d e)

/-- The last copy of a line leaves its die (10 R286): WB or EVC at the home, or the write-back buffer while the home cannot
take it at once. None while the buffer is full: the eviction waits. -/
def State.giveUp (s : State) (d line : Nat) (dirty : Bool) (data : LineData) (p : BitVec 16) : Option State :=
  let op := if dirty then opWB else opEVC
  let h := homeOf line
  if s.memGated line || (s.blocked h op line).isSome || (s.home h).rsv.any (fun v => v.node == cdaNode d) then
    if (s.die d).wb.length < 32 then some (s.bufferWb d line dirty data p) else none
  else some (s.homeDo op { s.cdaReq d line true with data := data, poison := p }).2

/-- Whether any cache of a die holds a line. -/
def State.dieHolds (s : State) (d line : Nat) : Bool :=
  (s.die d).dcache.has line || !(s.holdersOf d line).isEmpty

/-- Take a core's bit out of the filter's vector; an entry without cores is freed. -/
def State.filtClear (s : State) (d line c : Nat) : State :=
  let v := s.die d
  match v.filt.get? line with
  | none => s
  | some e =>
    let vec := e.vec &&& ~~~((1 : BitVec 18) <<< c)
    s.setDie d { v with filt := if vec = 0 then v.filt.erase line else v.filt.set line { e with vec := vec } }

/-- Allocate a line in the die cache; the line that leaves a full set is a free choice (07 R190, R193). None while that line
must wait. -/
def State.dcPut (s : State) (d line : Nat) (x : DcLine) : Option State :=
  let v := s.die d
  let put := fun (s : State) =>
    let v := s.die d
    ((s.setDie d { v with dcache := v.dcache.set line x }).expose (upKey 4 d line)).expose (upKey 5 d line)
  let same := v.dcache.l.filter (fun e => Config.dcSlice e.1 % 16 == Config.dcSlice line % 16 && e.1 % 1024 == line % 1024)
  if v.dcache.has line || same.length < 18 then some (put s)
  else
    let (n, s1) := s.drawNat
    let k := (same.getD (n % same.length) (line, x)).1
    let s2 := s1.dcCheck d k
    match (s2.die d).dcache.get? k with
    | none => some (put s2)
    | some out =>
      let v2 := s2.die d
      let s3 := s2.setDie d { v2 with dcache := v2.dcache.erase k }
      if s3.dieHolds d k then some (put s3) else (s3.giveUp d k (out.st == .m) out.data out.poison).map put

/-- A dirty non-coherent line is written back to its target (07 R194): its home, or the host bus. None while its home cannot
take it. -/
def State.ncBack (s : State) (n line : Nat) (data : LineData) (p : BitVec 16) : Option State :=
  if region (line * 128) = .hostBus then
    some (s.hbOut ⟨coreNode n, (s.core n).sec || (s.core n).lvl == .m, s.coreSlice n, s.genOf (coreNode n), 0⟩
      ⟨line * 128, 128, true, data, true, 0, none⟩).2
  else
    let (r, s1) := s.homeDo opNCWR { s.cdaReq (n / 18) line true with mask := fullMask, data := data, poison := p }
    if r.status = .retry then none else some s1

/-- A copy of a line leaves a core's L2 and its last copy the die (10 R286); a dirty non-coherent line goes to its target. None
while it must wait. -/
def State.l2CleanInv (s0 : State) (n line : Nat) : Option State :=
  let d := n / 18
  let s := s0.l2Check n line
  match (s.core n).l2.get? line with
  | none => some s
  | some e =>
    let s1 := s.modCore n (fun c => c.dropLine line)
    if e.st = .nc then (if e.ncDirty then s1.ncBack n line e.data e.poison else some s1)
    else
      let s2 := s1.filtClear d line (n % 18)
      if s2.dieHolds d line then some s2 else s2.giveUp d line (e.st == .m) e.data e.poison

/-- A line leaves a core's L2 by eviction (07 R193, 10 R286): to the die cache when it is enabled, else as by a clean. While the
die cache is being flushed new allocations wait (07 R210). -/
def State.l2Evict (s0 : State) (n line : Nat) : Option State :=
  let d := n / 18
  let s := s0.l2Check n line
  match (s.core n).l2.get? line with
  | none => some s
  | some e =>
    if e.st ≠ .nc ∧ s.dcen d then
      let s2 := (s.modCore n (fun c => c.dropLine line)).filtClear d line (n % 18)
      if (s2.die d).dcache.has line then some s2
      else if (s2.die d).flushing then none
      else s2.dcPut d line ⟨e.st, e.data, e.poison⟩
    else s.l2CleanInv n line

/-- Clean and invalidate every line of a core's L1D and L2 (07 R201): lines whose target cannot take them yet stay. -/
def State.coreCleanInv (s : State) (n : Nat) : State :=
  let s1 := ((s.core n).l2.l.map (fun e => e.1)).foldl (fun s line => (s.l2CleanInv n line).getD s) s
  s1.modCore n (fun c => { c with l1d := .empty })

/-- Clean and invalidate every line of a die cache (07 R210): lines that must wait stay. -/
def State.dieFlush (s : State) (d : Nat) : State :=
  (s.die d).dcache.l.foldl (fun s0 e =>
    let s := s0.dcCheck d e.1
    match (s.die d).dcache.get? e.1 with
    | none => s
    | some x =>
      let v := s.die d
      let s1 := s.setDie d { v with dcache := v.dcache.erase e.1 }
      if s1.dieHolds d e.1 then s1 else (s1.giveUp d e.1 (x.st == .m) x.data x.poison).getD s) s

/-- A line has an open transaction at its CDA (07 R197): a request of the die, a write-back, or a snoop of its home. -/
def State.cdaBusy (s : State) (d line : Nat) : Bool :=
  (s.die d).reqs.any (fun q => q.line == line) || (s.die d).wb.any (fun e => e.line == line) || s.lineOpen (homeOf line) line

/-- A snoop-filter set that a fill finds full loses a free choice of its lines that have no open transaction (07 R197). None:
the fill waits until the entry is free. -/
def State.filtRoom (s : State) (d line : Nat) : Option State :=
  let v := s.die d
  let same := v.filt.l.filter (fun e => Config.filterSet e.1 % 16384 == Config.filterSet line % 16384)
  if v.filt.has line || same.length < 24 then some s
  else
    let idle := same.filter (fun e => !(s.cdaBusy d e.1))
    if idle.isEmpty then none
    else
      let (n, s0) := s.drawNat
      let out := (idle.getD (n % idle.length) (line, ⟨.s, 0⟩)).1
      let s1 := s0.dieCheck d out
      let dirty := s1.dieDirty d out
      let s2 := s1.modCores (s1.holdersOf d out) (fun c => c.dropLine out)
      let v2 := s2.die d
      let s3 := s2.setDie d { v2 with filt := v2.filt.erase out }
      if s3.dieHolds d out then some s3
      else
        let r := s3.homeDo (if dirty.isSome then opWB else opEVC)
          { s3.cdaReq d out true with data := (dirty.getD (0, 0)).1, poison := (dirty.getD (0, 0)).2 }
        if r.1.status = .retry then none else some r.2

/-- Make room in a set of `ways` ways: the keys in the set, and which leaves when it is full (a free choice). -/
def setVictim (keys : List Nat) (inSet : Nat → Bool) (line ways free : Nat) : Option Nat :=
  let same := keys.filter inSet
  if same.contains line || same.length < ways then none else some (same.getD (free % same.length) line)

/-- The lowest way of a set that no line takes. -/
def freeWay (used : List Nat) : Nat → Nat → Nat
  | 0, w => w
  | n + 1, w => if used.contains w then freeWay used n (w + 1) else w

/-- Allocate a line in L1D, where it is enabled (07 R190, R191). Retired entries take no line (R211). -/
def State.l1dFill (s : State) (n line : Nat) : State :=
  let c := s.core n
  if !c.l1den || c.l1d.has line then s
  else
    let s := s.noteEv n 7
    let ret := (c.l1dRet.filter (fun e => e / 8 == line % 64)).map (fun e => e % 8)
    let (f, s1) := s.drawNat
    let out := setVictim (c.l1d.l.map (fun e => e.1)) (fun k => k % 64 == line % 64) line (8 - ret.length) f
    let l1 := match out with | some k => c.l1d.erase k | none => c.l1d
    let used := (l1.l.filter (fun e => e.1 % 64 == line % 64)).map (fun e => e.2) ++ ret
    let w := freeWay used 8 0
    if w < 8 then (s1.modCore n (fun c => { c with l1d := l1.set line w })).expose (upKey 1 n line) else s1

/-- An L1D entry is read (07 R211): on an error the line is refetched from L2 into its entry; an error in the refetched entry,
which may or may not come, retires it and leaves the machine check to the access. -/
def State.l1dCheck (s : State) (n line : Nat) : State :=
  match if (s.core n).l1den then (s.core n).l1d.get? line else none with
  | none => s
  | some w =>
    let (e, s1) := s.readEntry (upKey 1 n line)
    if e = 0 then s1
    else
      let (again, s2) := (s1.arrayEvent (coreBank n) 1 (coreNode n) line w (line % 64)).drawBit
      if again then
        (s2.arrayEvent (coreBank n) 2 (coreNode n) line w (line % 64)).modCore n (fun c =>
          { c with l1d := c.l1d.erase line, l1dRet := (line % 64 * 8 + w) :: c.l1dRet, arrErr := 1 })
      else s2

/-- Room for a line in a core's L2 and in its filter set (07 R190, R197): a free choice of a full set leaves. None while the
eviction must wait. -/
def State.l2Room (s : State) (n line : Nat) (nc : Bool) : Option State :=
  let (f, s0) := s.drawNat
  let s1 :=
    match setVictim ((s0.core n).l2.l.map (fun e => e.1)) (fun k => k % 1024 == line % 1024) line 16 f with
    | some k => s0.l2Evict n k
    | none => some s0
  match s1 with
  | none => none
  | some s2 => if nc then some s2 else s2.filtRoom (n / 18) line

/-- A line enters a core's L2, which has room for it, and the filter of its die. -/
def State.l2Put (s : State) (n line : Nat) (st : CState) (data : LineData) (p : BitVec 16) : State :=
  let d := n / 18
  let c := s.core n
  let w := freeWay ((c.l2.l.filter (fun e => e.1 % 1024 == line % 1024)).map (fun e => e.2.way)) 16 0
  let s3 := ((s.setCore n { c with l2 := c.l2.set line ⟨w, st, data, p, false⟩ }).expose (upKey 2 n line)).expose (upKey 3 n line)
  if st = .nc then s3
  else
    let v := s3.die d
    let bit : BitVec 18 := (1 : BitVec 18) <<< (n % 18)
    let e : FiltEntry := match v.filt.get? line with
      | some e => { e with vec := e.vec ||| bit }
      | none => ⟨st, bit⟩
    (s3.setDie d { v with filt := v.filt.set line e }).expose (upKey 6 d line)

/-- Fill a line into a core's L2 (07 R190, R197). None while an eviction for it must wait. -/
def State.l2Fill (s : State) (n line : Nat) (st : CState) (data : LineData) (p : BitVec 16) : Option State :=
  (s.l2Room n line (st == .nc)).map (fun t => t.l2Put n line st data p)

/-- Set the die state that the filter records. -/
def State.filtState (s : State) (d line : Nat) (st : CState) : State :=
  let v := s.die d
  match v.filt.get? line with
  | some e => s.setDie d { v with filt := v.filt.set line { e with st := st } }
  | none => s

/-- What a core's access to a line got: a status, and where it is served the line with its marks. -/
structure LineRes where
  status : Status
  data : LineData
  poison : BitVec 16
  s : State

/-- Any copy of a line in a die. -/
def State.dieCopy (s : State) (d line : Nat) : LineData × BitVec 16 :=
  match (s.die d).dcache.get? line with
  | some e => (e.data, e.poison)
  | none =>
    match (s.holdersOf d line).findSome? (fun n => (s.core n).l2.get? line) with
    | some e => (e.data, e.poison)
    | none => (0, 0)

/-- Whether a write-back of a line is in its die's buffer: requests for it wait (10 R286). -/
def State.inWb (s : State) (d line : Nat) : Bool := (s.die d).wb.any (fun e => e.line == line)

/-- An access that must wait: the instruction tries again. -/
def LineRes.retry (s : State) : LineRes := ⟨.retry, 0, 0, s⟩

/-- A read that the CDA serves inside its die (10 R284), the die state being S, E or M. -/
def State.localRead (s0 : State) (n line : Nat) : LineRes :=
  let d := n / 18
  let s1 := s0.dieCheck d line
  let s2 := if (s1.dieCopy d line).2 = (s0.dieCopy d line).2 then s1 else s1.modCore n (fun c => { c with arrErr := 2 })
  match s2.l2Room n line false with
  | none => .retry s0
  | some s =>
    let st := s.dieState d line
    let hs := s.holdersOf d line
    match (s.die d).dcache.get? line with
    | some e =>
      if hs.isEmpty && e.st != .s then
        let v := s.die d
        ⟨.ok, e.data, e.poison, (s.setDie d { v with dcache := v.dcache.erase line }).l2Put n line e.st e.data e.poison⟩
      else ⟨.ok, e.data, e.poison, s.l2Put n line .s e.data e.poison⟩
    | none =>
      let x := s.dieCopy d line
      if st = 3 then
        let (r, s1) := s.homeFor n opWBK { s.cdaReq d line true with data := x.1, poison := x.2 }
        if r.status = .retry then .retry s1
        else
          let s2 := (s1.modCores hs (fun c => c.setLineState line .s)).filtState d line .e
          ⟨.ok, x.1, x.2, s2.l2Put n line .s x.1 x.2⟩
      else
        let s1 := s.modCores hs (fun c => c.setLineState line .s)
        ⟨.ok, x.1, x.2, s1.l2Put n line .s x.1 x.2⟩

/-- A write that the CDA serves inside its die (10 R284), the die state being E or M: every other copy is invalidated and
the line passes to the core. -/
def State.localWrite (s0 : State) (n line : Nat) : LineRes :=
  let d := n / 18
  match (s0.dieCheck d line).l2Room n line false with
  | none => .retry s0
  | some s =>
    let st := s.dieState d line
    let x := match s.dieDirty d line with | some x => x | none => s.dieCopy d line
    ⟨.ok, x.1, x.2, (s.dieDropAll d line).l2Put n line (if st = 3 then .m else .e) x.1 x.2⟩

/-- The state a reply grants. -/
def grantState (st : Nat) : CState := if st = 1 then .s else if st = 2 then .e else .m

/-- A disabled die cache (07 R210, R205, R206): before a request of the die for a line that it holds, the home's
self-snoop takes the line out of it. -/
def State.dcSync (s0 : State) (d line : Nat) : State :=
  if s0.dcen d then s0
  else
    let s := s0.dcCheck d line
    match (s.die d).dcache.get? line with
    | none => s0
    | some e =>
      let v := s.die d
      let s1 := s.setDie d { v with dcache := v.dcache.erase line }
      if s1.dieHolds d line then s1 else (s1.giveUp d line (e.st == .m) e.data e.poison).getD s

/-- The line that a core asks for is one that its world may not see (01 R26, 10 R282, 11 R315): no copy in a cache serves it, and
the home answers. -/
def State.unseen (s : State) (op d line : Nat) (sec : Bool) : Bool :=
  match s.homeGuard op (cdaNode d) sec line with
  | .zero _ => true
  | _ => false

/-- A request sent to the home whose answer no cache takes. -/
def State.homeOnly (s : State) (n op line : Nat) (sec : Bool) : LineRes :=
  let (r, s1) := s.homeFor n op (s.cdaReq (n / 18) line sec)
  ⟨r.status, r.data, r.poison, s1⟩

/-- A line that a core reads passes through its L1D, where L2 holds it (07 R191, R192). -/
def State.l1dSide (s : State) (n line : Nat) : State :=
  if (s.core n).l2.has line then (s.l1dCheck n line).l1dFill n line else s

/-- A core's read of a normal coherent line through its L2 and its CDA (10 R284), for fetch and for data. A line that no cache may
hold (granted I) is not filled. -/
def State.cohLoad (s0 : State) (n line : Nat) (sec : Bool) : LineRes :=
  let d := n / 18
  if s0.unseen opRDS d line sec then s0.homeOnly n opRDS line sec
  else
    let s := s0.l2Check n line
    match (s.core n).l2.get? line with
    | some e => ⟨.ok, e.data, e.poison, s⟩
    | none =>
      let s := (s.noteEv n 8).dcSync d line
      let s := if (s.die d).dcache.has line then s else s.noteEv n 9
      if s.inWb d line then .retry s
      else if s.dieState d line = 0 then
        match s.l2Room n line false with
        | none => .retry s
        | some s =>
          let (r, s1) := s.homeFor n opRDS (s.cdaReq d line sec)
          if r.status = .ok then
            if r.st = 0 then ⟨.ok, r.data, r.poison, s1⟩
            else ⟨.ok, r.data, r.poison, s1.l2Put n line (grantState r.st) r.data r.poison⟩
          else ⟨r.status, 0, 0, s1⟩
      else s.localRead n line

/-- A line that a core does not hold in E or M is asked for in the die or at the home. -/
def State.ownLine (s : State) (n line : Nat) (sec : Bool) : LineRes :=
  let d := n / 18
  let s := s.dcSync d line
  let st := s.dieState d line
  if s.inWb d line then .retry s
  else if 2 ≤ st then s.localWrite n line
  else
    match s.l2Room n line false with
    | none => .retry s
    | some s =>
      let x := s.dieCopy d line
      let (r, s1) := s.homeFor n (if st = 1 then opUPG else opRDO) (s.cdaReq d line sec)
      if r.status ≠ .ok then ⟨r.status, 0, 0, s1⟩
      else
        let data := if r.st = 0 then x.1 else r.data
        let p := if r.st = 0 then x.2 else r.poison
        if st = 0 ∧ r.st = 0 then ⟨.ok, r.data, r.poison, s1⟩
        else ⟨.ok, data, p, (s1.dieDropAll d line).l2Put n line (if r.st = 3 then .m else .e) data p⟩

/-- A core obtains a line in E or M (10 R284). The line is then in its L2. -/
def State.cohOwn (s0 : State) (n line : Nat) (sec : Bool) : LineRes :=
  let d := n / 18
  if s0.unseen opRDO d line sec then s0.homeOnly n opRDO line sec
  else
    let s := s0.l2Check n line
    match (s.core n).l2.get? line with
    | some e => if 2 ≤ e.st.rank then ⟨.ok, e.data, e.poison, s⟩ else s.ownLine n line sec
    | none =>
      let s := s.noteEv n 8
      (if (s.die d).dcache.has line then s else s.noteEv n 9).ownLine n line sec

/-- Store bytes into a line that a core's L2 holds; L1D holds no data of its own (07 R192). -/
def State.l2Store (s : State) (n line : Nat) (mask : BitVec 128) (data : LineData) : State :=
  s.modCore n (fun c =>
    match c.l2.get? line with
    | some e =>
      let e2 := { e with data := mergeLine e.data data mask, poison := mergePoison e.poison 0 mask }
      { c with l2 := c.l2.set line (if e.st = .nc then { e2 with ncDirty := true } else { e2 with st := .m }) }
    | none => c)

/-- A request of a core whose L2 is disabled goes to the home (07 R206), once its own CDA has no write-back of the line in its
buffer (10 R286). -/
def State.homePast (s : State) (n op line : Nat) (q : CohReq) : HReply × State :=
  if s.inWb (n / 18) line then (HReply.cmp .retry, s) else s.homeFor n op q

/-- A core's store to a normal coherent line (10 R284), or to its home while L2 is disabled (07 R206). -/
def State.cohStore (s : State) (n line : Nat) (sec : Bool) (mask : BitVec 128) (data : LineData) : Status × State :=
  let d := n / 18
  if (s.core n).l2en then
    let r := s.cohOwn n line sec
    if r.status ≠ .ok ∨ s.unseen opRDO d line sec then (r.status, r.s)
    else ((.ok : Status), (r.s.l1dFill n line).l2Store n line mask data)
  else
    let (r, s1) := s.homePast n (if mask = fullMask then opWRF else opWRP) line { s.cdaReq d line sec with mask := mask, data := data }
    (r.status, s1)

/-- A core's read of a normal coherent line. -/
def State.cohRead (s : State) (n line : Nat) (sec : Bool) : LineRes :=
  if (s.core n).l2en then s.cohLoad n line sec
  else
    let (r, s1) := s.homePast n opRDC line (s.cdaReq (n / 18) line sec)
    ⟨r.status, r.data, r.poison, s1⟩

/-- LZERO of a coherent line (07 R204). -/
def State.cohZero (s0 : State) (n line : Nat) (sec : Bool) : Status × State :=
  let d := n / 18
  if !(s0.core n).l2en then s0.cohStore n line sec fullMask 0
  else if s0.unseen opOWNZ d line sec then
    let r := s0.homeOnly n opOWNZ line sec
    (r.status, r.s)
  else
    let s := s0.dcSync d line
    if s.inWb d line then (.retry, s)
    else
      match (s.dieCheck d line).l2Room n line false with
      | none => (.retry, s)
      | some s =>
        if 2 ≤ s.dieState d line then (.ok, ((s.dieDropAll d line).l2Put n line .m 0 0).l1dFill n line)
        else
          let (r, s1) := s.homeFor n opOWNZ (s.cdaReq d line sec)
          if r.status ≠ .ok then (r.status, s1)
          else (.ok, ((s1.dieDropAll d line).l2Put n line .m 0 0).l1dFill n line)

/-- A core's read of a normal non-coherent line (07 R194, R207). -/
def State.ncRead (s0 : State) (n line : Nat) (sec : Bool) : LineRes :=
  let s := if (s0.core n).l2en then s0.l2Check n line else s0
  let c := s.core n
  match if c.l2en then c.l2.get? line else none with
  | some e => ⟨.ok, e.data, e.poison, s⟩
  | none =>
    match if c.l2en then s.l2Room n line true else some s with
    | none => .retry s
    | some s =>
      let (r, s1) := s.homePast n opNCRD line (s.cdaReq (n / 18) line sec)
      if r.status = .ok ∧ c.l2en ∧ !s.unseen opNCRD (n / 18) line sec then
        ⟨.ok, r.data, r.poison, s1.l2Put n line .nc r.data r.poison⟩
      else ⟨r.status, r.data, r.poison, s1⟩

/-- A core's store to a normal non-coherent line: into its own L2, or past a disabled L2 to the target. -/
def State.ncStore (s : State) (n line : Nat) (sec : Bool) (mask : BitVec 128) (data : LineData) : Status × State :=
  if (s.core n).l2en then
    let r := s.ncRead n line sec
    if r.status ≠ .ok ∨ s.unseen opNCWR (n / 18) line sec then (r.status, r.s) else (.ok, (r.s.l1dFill n line).l2Store n line mask data)
  else
    let (r, s1) := s.homePast n opNCWR line { s.cdaReq (n / 18) line sec with mask := mask, data := data }
    (r.status, s1)

end Sys2Proof.Machine
end

