-- ==== Sys2Proof/Machine/HomeAgent.lean ====
section
/-! DEFINITION. The coherence commands message by message (10): requests at a home, snoops at a die, answers, grants and
reservations. -/
namespace Sys2Proof.Machine

/-- A reply packet of a home: class 2 RSP or 3 DAT. -/
def State.homeSend (s : State) (h : Nat) (r : CohReq) (cls op : Nat) (st : Status) (d : LineData) (p : BitVec 16) :
    State :=
  s.send (Msg.mk' cls op r.node (homeNode h) r.gen r.tag r.sec st (r.line * 128) d p r.slice)

/-- Send a home's reply to a request (10 R274): DAT with the granted state, ADAT, or CMP. -/
def State.sendReply (s : State) (h op : Nat) (r : CohReq) (a : HReply) : State :=
  if a.status ≠ .ok then s.homeSend h r 2 0x08 a.status 0 0
  else if op = opATOMF ∨ op = opATOMM then s.homeSend h r 3 0x20 .ok (BitVec.setWidth 1024 a.old) (if a.psn then 1 else 0)
  else if op = opRDS ∨ op = opRDO ∨ op = opRDC ∨ op = opNCRD then
    s.homeSend h r 3 (a.st + (if a.poison = 0 then 0 else 4)) .ok a.data a.poison
  else s.homeSend h r 2 0x08 .ok 0 0

/-- A transaction that a home opens for a request: nothing is outstanding yet. -/
def Tracker.of (op : Nat) (r : CohReq) (resv : Bool) : Tracker :=
  { op := op, req := r, snoops := [], ties := [], wbIn := [], got := none, ans := 0, waitAck := false, victimFor := none,
    tag := 0, resv := resv, limit := 0 }

/-- The tag of a home's next transaction (09 R239, R249): none of its open ones, and not quarantined. -/
def State.homeTag (s : State) (h : Nat) : Nat :=
  let used := (s.home h).trk.map (fun t => t.tag)
  ((List.range 4096).find? (fun t => !used.contains t && !s.quarantined (homeNode h) t)).getD 0

/-- Open a transaction (10 R280). -/
def State.openTrk (s : State) (h : Nat) (t : Tracker) : State :=
  let a := s.home h
  (s.setHome h { a with trk := a.trk ++ [{ t with tag := s.homeTag h, limit := s.limitFor 0 }] }).expose (upKey 8 h 0)

/-- Close the transaction of a line. -/
def State.closeTrk (s : State) (h line : Nat) : State :=
  let a := s.home h
  s.setHome h { a with trk := a.trk.filter (fun t => t.req.line != line) }

/-- Open a transaction and send its snoops (10 R281), each under the transaction's tag. -/
def State.snoopTrk (s : State) (h : Nat) (t : Tracker) (l : List (Nat × Nat)) : State :=
  let tag := s.homeTag h
  l.foldl (fun s p =>
    let s1 := s.send (Msg.mk' 1 p.2 (cdaNode p.1) (homeNode h) (s.genOf (homeNode h)) tag false .ok (t.req.line * 128) 0 0)
    if p.2 = 4 then s1.satFd .COH_CNT COH_CNT.BINV h else s1) (s.openTrk h { t with snoops := l.map (fun p => p.1) })

/-- The answers are in: the reply goes out, and a read that grants S, E or M stays open until its ACK (10 R280). -/
def State.completeReq (s : State) (h op : Nat) (r : CohReq) (got : Option (LineData × BitVec 16)) (ans : Nat) (resv : Bool) :
    State :=
  let (a, s1) := s.homeFinish h op r got ans
  let s2 := (s1.closeTrk h r.line).sendReply h op r a
  if a.st ≠ 0 then s2.openTrk h { Tracker.of op r resv with waitAck := true } else s2

/-- Start an accepted request (10 R280, R281, R278): a victim first where its set is full, else its snoops, else its
completion. `own` is the way that its reservation holds, `resv` says that it runs on a reservation's tracker entry. -/
def State.startReq (s : State) (h op : Nat) (r : CohReq) (own : Nat) (resv : Bool) : State :=
  let op2 := s.effOp h op r.node r.line
  let d := (dieOfNode r.node).getD 16
  if (op2 = opATOMF ∨ op2 = opATOMM) ∧ r.aoff % atomSize r.aop ≠ 0 then s.sendReply h op2 r (HReply.cmp .decerr)
  else if op2 = opEVC ∧ !s.isHolder h r.line d then s.sendReply h op2 r (HReply.cmp .ok)
  else if (op2 = opWB ∨ op2 = opWBK) ∧ !s.isOwner h r.line d then s.protoFault h r.line
  else
    match s.dirVictim h op2 r.line own with
    | some (some v) =>
      let c := s.dirCheck h v
      if !c.1 then c.2
      else
        (c.2.snoopTrk h { Tracker.of 0x20 (CohReq.bare (homeNode h) v false) resv with victimFor := some (op2, r) }
          (c.2.homeSnoops h 0x20 (homeNode h) v)).satFd .COH_DCNT COH_DCNT.VICTIM h
    | _ =>
      let l := s.homeSnoops h op2 r.node r.line
      if l = [] then s.completeReq h op2 r none 0 resv else s.snoopTrk h (Tracker.of op2 r resv) l

/-- Finish a transaction whose snoops are answered and whose tied write-backs are in (10 R280); a victim's eviction then
starts the request that needed the way (R278). -/
def State.finishTrk (s : State) (h : Nat) (t : Tracker) : State :=
  if t.snoops ≠ [] ∨ t.ties ≠ [] then s
  else
    match t.victimFor with
    | some v => (((s.writeGot t.req.line t.got).dirDrop h t.req.line).closeTrk h t.req.line).startReq h v.1 v.2 1 t.resv
    | none => s.completeReq h t.op t.req t.got t.ans t.resv

/-- Replace the transaction of a line. -/
def State.setTrk (s : State) (h : Nat) (t : Tracker) : State :=
  let a := s.home h
  s.setHome h { a with trk := a.trk.map (fun x => if x.req.line = t.req.line then t else x) }

/-- RETRY with or without a reservation (10 R288, R289). -/
def State.retryReq (s : State) (h op : Nat) (r : CohReq) (cond : Nat) : State :=
  let n := s.noteRetry h op r cond
  n.2.homeSend h r 2 (if n.1 then 0x09 else 0x08) .retry 0 0

/-- The transaction to which R287 ties a die's write-back of a line. -/
def State.tieOf (s : State) (h op : Nat) (r : CohReq) : Option Tracker :=
  if op = opWB ∨ op = opWBK ∨ op = opEVC then
    match dieOfNode r.node with
    | some d => (s.home h).trk.find? (fun t => t.req.line == r.line && (t.snoops.contains d || t.ties.contains d))
    | none => none
  else none

/-- A tied write-back arrives (10 R287): it supplies the die's data unless the answer did, and gets CMP STALE. -/
def State.tiedWb (s : State) (h op : Nat) (r : CohReq) (t : Tracker) : State :=
  let d := (dieOfNode r.node).getD 0
  let t2 : Tracker := { t with
    ties := t.ties.filter (fun x => x != d)
    wbIn := d :: t.wbIn
    got := match t.got with | some g => some g | none => if op = opEVC then none else some (r.data, r.poison) }
  (((s.setTrk h t2).homeSend h r 2 0x08 .stale 0 0).satFd .COH_CNT COH_CNT.STALEWB h).finishTrk h t2

/-- A request arrives at a home (10 R280-R283, R287-R290). It waits in its queue while the channel takes no traffic. -/
def State.homeRow (s0 : State) (op h : Nat) (r : CohReq) : State :=
  if !s0.alive || s0.memGated r.line then s0
  else
    let s1 := s0.consume (fun m => m.cls == 0 && m.dst == homeNode h && m.src == r.node && m.tag == r.tag)
    if homeOf r.line ≠ h then s1.protoFault h r.line
    else
      let (ok, s) := s1.homeCheck h r.line
      if !ok then s
      else
        match s.tieOf h op r with
        | some t => s.tiedWb h op r t
        | none =>
          match s.homeGuard op r.node r.sec r.line with
          | .decerr => s.sendReply h op r (HReply.cmp .decerr)
          | .zero k => (s.violate r.node k (r.line * 128)).sendReply h op r (HReply.cmp .ok)
          | .serve =>
            match (s.rsvOf h r).filter (fun v => v.granted) with
            | some v => (s.dropRsv h r.node).startReq h op r v.way true
            | none =>
              match s.blocked h op r.line with
              | some c => s.retryReq h op r c
              | none => s.startReq h op r 0 false

/-- RDS (R281). -/
def execCohRds (h : HomeNo) (r : CohReq) (s : State) : Out := .next (s.homeRow opRDS h r)
/-- RDO (R281). -/
def execCohRdo (h : HomeNo) (r : CohReq) (s : State) : Out := .next (s.homeRow opRDO h r)
/-- UPG (R281). -/
def execCohUpg (h : HomeNo) (r : CohReq) (s : State) : Out := .next (s.homeRow opUPG h r)
/-- OWNZ (R281). -/
def execCohOwnz (h : HomeNo) (r : CohReq) (s : State) : Out := .next (s.homeRow opOWNZ h r)
/-- RDC (R281). -/
def execCohRdc (h : HomeNo) (r : CohReq) (s : State) : Out := .next (s.homeRow opRDC h r)
/-- WRF (R281): the mask of a full-line write is full. -/
def execCohWrf (h : HomeNo) (r : CohReq) (s : State) : Out := .next (s.homeRow opWRF h { r with mask := fullMask })
/-- WRP (R281). -/
def execCohWrp (h : HomeNo) (r : CohReq) (s : State) : Out := .next (s.homeRow opWRP h r)
/-- CLN (R281). -/
def execCohCln (h : HomeNo) (r : CohReq) (s : State) : Out := .next (s.homeRow opCLN h r)
/-- FLS (R281). -/
def execCohFls (h : HomeNo) (r : CohReq) (s : State) : Out := .next (s.homeRow opFLS h r)
/-- ATOMF (R291). -/
def execCohAtomf (h : HomeNo) (r : CohReq) (s : State) : Out := .next (s.homeRow opATOMF h r)
/-- ATOMM (R291). -/
def execCohAtomm (h : HomeNo) (r : CohReq) (s : State) : Out := .next (s.homeRow opATOMM h r)
/-- WB (R281, R287, R294). -/
def execCohWb (h : HomeNo) (r : CohReq) (s : State) : Out := .next (s.homeRow opWB h r)
/-- WBK (R281, R287, R294). -/
def execCohWbk (h : HomeNo) (r : CohReq) (s : State) : Out := .next (s.homeRow opWBK h r)
/-- EVC (R281, R287). -/
def execCohEvc (h : HomeNo) (r : CohReq) (s : State) : Out := .next (s.homeRow opEVC h r)
/-- NCRD (R281). -/
def execCohNcrd (h : HomeNo) (r : CohReq) (s : State) : Out := .next (s.homeRow opNCRD h r)
/-- NCWR (R281). -/
def execCohNcwr (h : HomeNo) (r : CohReq) (s : State) : Out := .next (s.homeRow opNCWR h r)

/-- A snoop has been answered by the fence of its die (10 R293): under BCAST the answer counts as SACK with state I; a die
that the directory names is lost, and the domain stops. -/
def State.snoopFenced (s : State) (h site line : Nat) : State :=
  match (s.home h).trk.find? (fun t => t.req.line == line && t.snoops.contains site) with
  | none => s
  | some t =>
    if s.isBcast h line then
      let t2 : Tracker := { t with snoops := t.snoops.filter (fun x => x != site) }
      (s.setTrk h t2).finishTrk h t2
    else s.recordErr ⟨h, 18, homeNode h, some (line * 128), some 4, false⟩

/-- A snoop arrives at a CDA (10 R285) and is answered with SACK or SDAT; a fence that is not OPEN answers in its place
(09 R252), and the home takes that answer (10 R293). -/
def State.snpRow (s0 : State) (kind site h tag line : Nat) : State :=
  let s := s0.consume (fun m => m.cls == 1 && m.dst == cdaNode site && m.addr == line * 128)
  let rsp := fun (s : State) cls op (st : Status) d p =>
    Msg.mk' cls op (homeNode h) (cdaNode site) (s.genOf (homeNode h)) tag false st (line * 128) d p
  if !s.alive then s0
  else
    let f := s.fence (cdaNode site)
    if f ≠ 0 then (s.deliver (rsp s 2 0x08 (if f = 2 then .targetReset else .targetOff) 0 0)).snoopFenced h site line
    else
      let (a, s1) := s.snoopDie kind site line
      match a.dat with
      | some d => s1.send (rsp s1 3 (0x08 + a.st + (if d.2 = 0 then 0 else 4) + (if a.wbx then 0x10 else 0)) .ok d.1 d.2)
      | none => s1.send (rsp s1 2 (if a.wbx then 0x04 else a.st) .ok 0 0)

/-- SNPS (R285). -/
def execCohSnps (site : SiteNo) (h : HomeNo) (tag line : Nat) (s : State) : Out := .next (s.snpRow 0 site h tag line)
/-- SNPI (R285). -/
def execCohSnpi (site : SiteNo) (h : HomeNo) (tag line : Nat) (s : State) : Out := .next (s.snpRow 1 site h tag line)
/-- SNPC (R285). -/
def execCohSnpc (site : SiteNo) (h : HomeNo) (tag line : Nat) (s : State) : Out := .next (s.snpRow 2 site h tag line)
/-- SNPCL (R285). -/
def execCohSnpcl (site : SiteNo) (h : HomeNo) (tag line : Nat) (s : State) : Out := .next (s.snpRow 3 site h tag line)
/-- BINV (R285). -/
def execCohBinv (site : SiteNo) (h : HomeNo) (tag line : Nat) (s : State) : Out := .next (s.snpRow 4 site h tag line)

/-- A snoop answer arrives at its home (10 R280, R287). An answer that no open snoop awaits is a protocol fault (R294). -/
def State.snoopAnswerRow (s0 : State) (h site line st : Nat) (wbx : Bool) (dat : Option (LineData × BitVec 16)) : State :=
  let (ok, s) := (s0.consume (fun m => (m.cls == 2 || m.cls == 3) && m.dst == homeNode h && m.src == cdaNode site &&
    m.addr == line * 128 && m.op != 0x0C)).trkCheck h
  if !s0.alive then s0
  else if !ok then s
  else
    match (s.home h).trk.find? (fun t => t.req.line == line && t.snoops.contains site) with
    | none => s.protoFault h line
    | some t =>
      let t2 : Tracker := { t with
        snoops := t.snoops.filter (fun x => x != site)
        ties := if wbx && !(t.wbIn.contains site) then site :: t.ties else t.ties
        got := match t.got with | some g => some g | none => dat
        ans := st }
      (s.setTrk h t2).finishTrk h t2

/-- SNOOP_ANSWER (R287). -/
def execSnoopAnswer (h : HomeNo) (site : SiteNo) (line : Nat) (st : Fin 4) (wbx : Bool)
    (dat : Option (LineData × BitVec 16)) (s : State) : Out := .next (s.snoopAnswerRow h site line st wbx dat)

/-- ACK (R280): the open read of the requester closes; an ACK with no open read is a protocol fault (R294). -/
def execCohAck (h : HomeNo) (node tag line : Nat) (s0 : State) : Out :=
  let (ok, s) := (s0.consume (fun m =>
    m.cls == 2 && m.op == 0x0C && m.dst == homeNode h && m.src == node && m.tag == tag)).trkCheck h
  if !s0.alive then .next s0
  else if !ok then .next s
  else if (s.home h).trk.any (fun t => t.waitAck && t.req.line == line && t.req.node == node && t.req.tag == tag) then
    .next (s.closeTrk h line)
  else .next (s.protoFault h line)

/-! Requests of a CDA that are issued again (R286, R289). -/

/-- The OP of a core's request to the home (10 R284): 0 read, 1 write, 2 LZERO, 3 LCLEAN, 4 LFLUSH, 5 LDROP. A core whose L2 is
disabled reads without caching (R284, 07 R206). -/
def cdaOp (op st : Nat) (l2en : Bool) : Nat :=
  match op with
  | 0 => if l2en then opRDS else opRDC
  | 1 => if st = 0 then opRDO else opUPG
  | 2 => opOWNZ
  | 3 => opCLN
  | _ => opFLS

/-- The packet of a core's held request. -/
def State.reqMsg (s : State) (d : Nat) (q : CdaReq) : Msg :=
  Msg.mk' 0 (cdaOp q.op (s.dieState d q.line) (s.core q.core).l2en) (homeNode (homeOf q.line)) (cdaNode d) (s.genOf (cdaNode d)) q.tag
    q.sec .ok (q.line * 128) 0 0 q.slice

/-- Send a held request or a buffered write-back again, which is then under way. -/
def State.reissueReq (s : State) (d : Nat) (q : CdaReq) : State :=
  let v := s.die d
  (s.setDie d { v with reqs := v.reqs.map (fun x => if x.tag = q.tag then { x with wait := 0 } else x) }).send (s.reqMsg d q)
def State.reissueWb (s : State) (d : Nat) (e : WbEntry) : State :=
  let v := s.die d
  (s.setDie d { v with wb := v.wb.map (fun x => if x.tag = e.tag then { x with wait := 0 } else x) }).send (s.wbMsg d e)

/-- The CDA's reservation at a home has been used or has lapsed: the requests held behind it are issued again (R289). -/
def State.reissueHeld (s : State) (d h : Nat) : State :=
  let s1 := ((s.die d).reqs.filter (fun q => q.wait == 2 && homeOf q.line == h)).foldl (fun s q => s.reissueReq d q) s
  ((s1.die d).wb.filter (fun e => e.wait == 2 && homeOf e.line == h)).foldl (fun s e => s.reissueWb d e) s1

/-- RESERVATION_GRANT (R289): GNT to the oldest reservation whose blocking condition has cleared. A fence in RESET or OFF drops
it. -/
def execReservationGrant (h : HomeNo) (s0 : State) : Out :=
  let (ok, s) := s0.trkCheck h
  if !s0.alive then .next s0
  else if !ok then .next s
  else
    match s.grantable h with
    | none => .next s0
    | some v =>
      let s2 := s.grantRsv h v
      if s.replyPasses v.node v.gen then
        .next (s2.send (Msg.mk' 2 0x0A v.node (homeNode h) v.gen v.tag false .ok (v.line * 128) 0 0))
      else .next (s2.countStale v.node)

/-- RESERVATION_LAPSE (R289): a granted reservation whose reissue has not come within the limit is freed. -/
def execReservationLapse (h : HomeNo) (node : Nat) (s : State) : Out :=
  if s.alive && (s.home h).rsv.any (fun v => v.granted && v.node == node) then
    match dieOfNode node with
    | some d => .next ((s.dropRsv h node).reissueHeld d h)
    | none => .next (s.dropRsv h node)
  else .next s

/-- The directory entry of a line in the layout of R276. -/
def dirWord (line : Nat) (e : DirEntry) : Nat :=
  e.st + (if e.st = 3 then 0 else e.ptrs.length % 4) * 4 +
  (e.ptrs.getD 0 0) * 16 + (e.ptrs.getD 1 0) * 256 + (e.ptrs.getD 2 0) * 4096 + (line / 2 ^ 20) % 2 ^ 29 * 65536

/-- A directory entry as its way holds it (R276): bits [63:56] are the SECDED code over the others. -/
def dirEntryWord (line : Nat) (e : DirEntry) : Nat :=
  dirWord line e + (Config.dirCode (dirWord line e)).toNat * 2 ^ 56

/-- COH_DIRQ (R276): a lookup of a line, which reads its entry (R279); DONE and the result stand in COH_DIRR. -/
def State.dirLookup (s0 : State) (h line : Nat) : State :=
  let s := if homeOf line = h then (s0.dirCheck h line).2 else s0
  let a := s.home h
  let w0 := setF 0 COH_DIRR.DONE 1
  let w1 := setF w0 COH_DIRR.NOTHOME (b2n (homeOf line != h))
  let w2 := setF w1 COH_DIRR.BUSY (b2n (s.lineBusy h line))
  let w3 :=
    match a.dir.get? line with
    | some e => setF (setF (setF w2 COH_DIRR.HIT 1) COH_DIRR.ENTRY (dirEntryWord line e)) COH_DIRR.PINNED
        (b2n (s.lineBusy h line))
    | none => w2
  s.setRg w3 .COH_DIRR h

/-- COH_DIRQ (R276). -/
def execCohDirq (h : HomeNo) (line : Nat) (s : State) : Out :=
  if s.alive then .next (s.dirLookup h line) else .next s

/-! The compute-die agent. -/

/-- CORE_REQUEST_AT_CDA (R284, R286, R378): served inside the die, or sent to the home under the CDA's node and tag. While the
line is in the write-back buffer the request waits there. A core whose L2 is disabled asks for no line to own. -/
def State.coreRequest (s0 : State) (n op line : Nat) (sec : Bool) (slice : Nat) : State :=
  let d := n / 18
  if !s0.alive then s0
  else if s0.coreSlice n ≠ slice ∨ (slice ≠ 0xFF ∧ sec) then s0.spoof (s0.coreSlice n) 0 (coreNode n) (line * 128)
  else if (op = 1 ∨ op = 2) ∧ !(s0.core n).l2en then s0
  else
    let s := s0.dcSync d line
    let st := s.dieState d line
    let see := !s.unseen opRDS d line sec
    let hold := fun (s : State) (wait : Nat) =>
      let v := s.die d
      s.setDie d { v with
        reqs := v.reqs ++ [⟨n, op, line, s.cdaTag d, wait, sec, slice, s.limitFor (line * 128)⟩], nextTag := s.cdaTag d + 1 }
    if s.inWb d line then hold s 3
    else if see ∧ op = 0 ∧ st ≠ 0 ∧ (s.core n).l2en then (s.localRead n line).s
    else if see ∧ op = 1 ∧ 2 ≤ st then (s.localWrite n line).s
    else if see ∧ op = 2 ∧ 2 ≤ st then
      match (s.dieCheck d line).l2Room n line false with
      | some t => (t.dieDropAll d line).l2Put n line .m 0 0
      | none => s
    else
      let q : CdaReq := ⟨n, op, line, s.cdaTag d, 0, sec, slice, 0⟩
      (hold s 0).send (s.reqMsg d q)

/-- CORE_REQUEST_AT_CDA (R284). -/
def execCoreRequestAtCda (core : CoreNo) (op : Fin 6) (line : Nat) (sec : Bool) (slice : Nat) (s : State) : Out :=
  .next (s.coreRequest core op line sec slice)

/-- The CDA's held request under a tag. -/
def State.cdaHeld (s : State) (d tag : Nat) : Option CdaReq := (s.die d).reqs.find? (fun q => q.tag == tag)

/-- Drop a held request. -/
def State.cdaDrop (s : State) (d tag : Nat) : State :=
  let v := s.die d
  s.setDie d { v with reqs := v.reqs.filter (fun q => q.tag != tag) }

/-- Change the waiting of what a tag names: a held request or a write-back. -/
def State.cdaWait (s : State) (d tag w : Nat) : State :=
  let v := s.die d
  s.setDie d { v with
    reqs := v.reqs.map (fun x => if x.tag = tag then { x with wait := w } else x)
    wb := v.wb.map (fun x => if x.tag = tag then { x with wait := w } else x) }

/-- A reply of a home reaches the CDA of a die and leaves the network. False: it has another generation than the CDA's, or the
fence is in RESET or OFF, and it is dropped and counted (09 R251, R252). -/
def State.cdaTakes (s : State) (d tag : Nat) (p : Msg → Bool) : Bool × State :=
  let mine := fun (m : Msg) => p m && m.dst == cdaNode d && m.tag == tag
  let s1 := s.consume mine
  let g := match s.net.msgs.find? mine with | some m => m.gen | none => s.genOf (cdaNode d)
  if s.replyPasses (cdaNode d) g then (true, s1) else (false, s1.countStale (cdaNode d))

/-- A line that a die has been granted and that no L2 of it takes goes to the die cache, or out of the die again. -/
def State.dieTake (s : State) (d line : Nat) (st : CState) (data : LineData) (p : BitVec 16) : Option State :=
  if s.dcen d then (if (s.die d).flushing then none else s.dcPut d line ⟨st, data, p⟩)
  else s.giveUp d line (st == .m) data p

/-- DAT_RECEIVE (R284): the line fills the core's L2, or the die cache when the core's reset has begun or its L2 is disabled; the
CDA sends ACK for a granted state. The reply waits while the fill has no room. -/
def State.datRow (s0 : State) (d tag st : Nat) (data : LineData) (p : BitVec 16) : State :=
  match if s0.alive then s0.cdaHeld d tag else none with
  | none => s0
  | some q =>
    let (ok, s) := s0.cdaTakes d tag (fun m => m.cls == 3)
    if !ok then s
    else
      let s1 := s.cdaDrop d tag
      if st = 0 then s1
      else
        let s2 := if q.op = 1 then s1.dieDropAll d q.line else s1
        let s3 :=
          if (s2.core q.core).run = .resetting ∨ !(s2.core q.core).l2en then s2.dieTake d q.line (grantState st) data p
          else s2.l2Fill q.core q.line (grantState st) data p
        match s3 with
        | none => s0
        | some s4 =>
          s4.send (Msg.mk' 2 0x0C (homeNode (homeOf q.line)) (cdaNode d) (s.genOf (cdaNode d)) tag q.sec .ok (q.line * 128) 0 0 q.slice)

/-- DAT_RECEIVE (R284). -/
def execDatReceive (site : SiteNo) (tag : Nat) (st : Fin 4) (data : LineData) (poison : BitVec 16) (s : State) : Out :=
  .next (s.datRow site tag st data poison)

/-- A write-back buffer entry is freed (R286): the requests of cores that waited for its line go on. -/
def State.wbFree (s : State) (d : Nat) (e : WbEntry) : State :=
  let v := s.die d
  let s1 := s.setDie d { v with wb := v.wb.filter (fun x => x.tag != e.tag), reqs := v.reqs.filter (fun q => !(q.wait == 3 && q.line == e.line)) }
  (v.reqs.filter (fun q => q.wait == 3 && q.line == e.line)).foldl (fun s q => s.coreRequest q.core q.op q.line q.sec q.slice) s1

/-- CMP_RECEIVE (R286, R284): a write-back buffer entry is freed by OK or STALE; a held upgrade, LZERO or CMO completes;
RETRY without a reservation makes the CDA hold the request until its reservation is used (R289). A line that the core's world
may not see is not filled (R282). -/
def State.cmpRow (s0 : State) (d tag : Nat) (st : Status) : State :=
  let (ok, s) := s0.cdaTakes d tag (fun m => m.cls == 2 && m.op == 0x08)
  if !s0.alive then s0
  else if !ok then s
  else
    match (s.die d).wb.find? (fun e => e.tag == tag) with
    | some e => if st = .retry then s.cdaWait d tag 2 else if st = .ok ∨ st = .stale then s.wbFree d e else s
    | none =>
      match s.cdaHeld d tag with
      | none => s
      | some q =>
        let fill := fun (st : CState) (data : LineData) (p : BitVec 16) =>
          match ((s.cdaDrop d tag).dieDropAll d q.line).l2Fill q.core q.line st data p with
          | some t => t
          | none => s0
        if st = .retry then s.cdaWait d tag 2
        else if st ≠ .ok ∨ s.unseen opOWNZ d q.line q.sec ∨ !(s.core q.core).l2en then s.cdaDrop d tag
        else if q.op = 1 then fill .e (s.dieCopy d q.line).1 (s.dieCopy d q.line).2
        else if q.op = 2 then fill .m 0 0
        else s.cdaDrop d tag

/-- CMP_RECEIVE (R286). -/
def execCmpReceive (site : SiteNo) (tag : Nat) (status : Status) (s : State) : Out := .next (s.cmpRow site tag status)

/-- CMP_RSV (R289): the request holds a reservation and waits for GNT. -/
def execCmpRsv (site : SiteNo) (tag : Nat) (s0 : State) : Out :=
  let (ok, s) := s0.cdaTakes site tag (fun m => m.cls == 2 && m.op == 0x09)
  if !s0.alive then .next s0
  else if ok then .next (s.cdaWait site tag 1)
  else .next s

/-- GNT (R289): the CDA reissues the request or write-back with the same tag and line, and then what it holds behind the
reservation. -/
def execGnt (site : SiteNo) (tag : Nat) (s0 : State) : Out :=
  let (ok, s) := s0.cdaTakes site tag (fun m => m.cls == 2 && m.op == 0x0A)
  let d : Nat := site
  if !s0.alive then .next s0
  else if !ok then .next s
  else
    match s.cdaHeld d tag, (s.die d).wb.find? (fun e => e.tag == tag) with
    | some q, _ => .next ((s.reissueReq d q).reissueHeld d (homeOf q.line))
    | none, some e => .next ((s.reissueWb d e).reissueHeld d (homeOf e.line))
    | none, none => .next s

/-! Memory channel and system-cache commands (11). -/

/-- MERGE_WRITE (R305-R308, R312): a write or an ATOMM enters the merge buffer of its channel. -/
def execMergeWrite (h : HomeNo) (r : CohReq) (atomic : Bool) (s : State) : Out :=
  if !s.alive || homeOf r.line != h.val || s.memGated r.line then .next s
  else if atomic then .next ((s.chanAtom r).2.2)
  else .next (s.chanWrite h r.line r.mask r.data r.poison)

/-- MERGE_RETIRE_TIMEOUT (R306): 256 cycles after its last merge the entry of a line retires. -/
def execMergeRetireTimeout (h : HomeNo) (line : Nat) (s : State) : Out :=
  match if s.alive then s.mergeOf h line else none with
  | some e => .next (s.retire h e)
  | none => .next s

/-- CHANNEL_READ (R307, R301-R303): the channel reads a line; what it found is counted, recorded and rewritten. -/
def execChannelRead (h : HomeNo) (line : Nat) (s : State) : Out :=
  if s.alive && homeOf line == h.val && !s.memGated line then .next (s.chanRead h line).s else .next s

/-- The line number of channel line `l` of channel `h` (11 R297, 10 R268). -/
def lineOfChan (h l : Nat) : Nat := l * 16 + (homeOf (l * 16) ^^^ h)

/-- Advance SPTR past a scrubbed line (11 R310). -/
def State.scrubAdvance (s : State) (h l : Nat) : State :=
  if s.fd .MEM_SLIMIT MEM_SLIMIT.SLIMIT h ≤ l + 1 then
    ((s.setFd .MEM_SPTR MEM_SPTR.SPTR 0 h).satFd .MEM_SPTR MEM_SPTR.PASSES h).setFd .MEM_SCRUB MEM_SCRUB.PASS 1 h
  else s.setFd .MEM_SPTR MEM_SPTR.SPTR (l + 1) h

/-- SCRUB_READ (R310): the next queued scrub read; a line with a merge entry counts as scrubbed without a read. -/
def execScrubRead (h : HomeNo) (s : State) : Out :=
  match if s.alive then (s.chan h).scrubQ else [] with
  | [] => .next s
  | l :: t =>
    let s1 := s.setChan h { s.chan h with scrubQ := t }
    let line := lineOfChan h l
    let s2 := if (s1.mergeOf h line).isSome then s1 else (s1.chanRead h line).s
    .next (s2.scrubAdvance h l)

/-- The scrub reads of a frame are queued at its edge; those of the last frame not yet issued are discarded (11 R310,
R311). A pointer at or past SLIMIT wraps before the first read. -/
def State.scrubEdge (s : State) (h : Nat) : State :=
  let c := s.chan h
  let s1 := if c.scrubQ = [] then s else s.setFd .MEM_SCRUB MEM_SCRUB.OVR 1 h
  let lim := s1.fd .MEM_SLIMIT MEM_SLIMIT.SLIMIT h
  let q := s1.fd .MEM_SCRUB MEM_SCRUB.QUANTUM h
  if s1.fb .MEM_SCRUB MEM_SCRUB.EN h && lim != 0 && q != 0 then
    let p := s1.fd .MEM_SPTR MEM_SPTR.SPTR h
    let s2 := if lim ≤ p then s1.scrubAdvance h p else s1
    let p2 := s2.fd .MEM_SPTR MEM_SPTR.SPTR h
    s2.setChan h { c with scrubQ := (List.range q).map (fun i => (p2 + i) % lim) }
  else s1.setChan h { c with scrubQ := [] }

/-- CHANNEL_ENABLE (R298): MEM_CFG.EN is set and training starts. -/
def execChannelEnable (h : HomeNo) (s : State) : Out :=
  if s.alive && !(s.fb .MEM_CFG MEM_CFG.EN h) then .next (s.setFd .MEM_CFG MEM_CFG.EN 1 h) else .next s

/-- A channel's contents are undefined after a training (11 R304): what it held is dropped. -/
def State.chanForget (s : State) (h : Nat) : State :=
  let mine := fun (a : Nat) => region a == .dram && homeOf (a / 128) == h
  let c := s.chan h
  let s1 := s.setChan h { c with mbuf := [], epoch := c.epoch + 1 }
  { s1 with
    mem := s1.mem.filter (fun x => !(mine x.1))
    chk := s1.chk.keep (fun w => !(mine (w * 8)))
    msc := s1.msc.keep (fun l => !(mine (l * 128))) }

/-- CHANNEL_TRAINED (R298): training ends, with TRAINED or with TFAIL and the failing step. -/
def execChannelTrained (h : HomeNo) (ok : Bool) (step : BitVec 4) (s : State) : Out :=
  if !s.alive || !(s.fb .MEM_CFG MEM_CFG.EN h) || s.fb .MEM_STATUS MEM_STATUS.TRAINED h then .next s
  else
    let s1 := s.chanForget h
    if ok then .next (s1.setFd .MEM_STATUS MEM_STATUS.TRAINED 1 h)
    else .next ((s1.setFd .MEM_STATUS MEM_STATUS.TFAIL 1 h).setFd .MEM_STATUS MEM_STATUS.TSTEP step.toNat h)

/-- MEM_INJ_ARM (R312): the injection register is written; a normal-world write is logged (00 R3). -/
def execMemInjArm (h : HomeNo) (i : Init) (data : BitVec 32) (s : State) : Out :=
  if !s.alive then .next s
  else if i.sec then .next (s.setRg (BitVec.setWidth 64 data &&& 0x017F7F7F) .MEM_INJ h)
  else .next (s.violate i.node 1 (RegKind.MEM_INJ.addr h))

/-- A write of 0 to MSC_CTL.EN invalidates every line of the slice (11 R314). -/
def State.mscOff (s : State) (h : Nat) : State :=
  let s1 := s.setFd .MSC_CTL MSC_CTL.EN 0 h
  { s1 with msc := s1.msc.keep (fun l => homeOf l != h) }

/-- MSC_DISABLE (R314). -/
def execMscDisable (h : HomeNo) (s : State) : Out := if s.alive then .next (s.mscOff h) else .next s

/-- MRAM_ACCESS (R315, R316): a line access through the home of its line. -/
def execMramAccess (r : CohReq) (write : Bool) (s : State) : Out :=
  if s.alive && region (r.line * 128) == .mram then
    if write then .next (s.homeDo (if r.mask = fullMask then opWRF else opWRP) r).2 else .next (s.homeDo opRDC r).2
  else .next s

/-- DRAM_HOT (R298): a DRAM device's temperature crosses 85 C; refresh doubles while it is above. -/
def execDramHot (h : HomeNo) (hot : Bool) (s : State) : Out := .next (s.setChan h { s.chan h with hot := hot })

/-! The die cache (07 R210). -/

/-- FLUSH of a die cache starts: FLUSHBUSY is set (R210). -/
def State.cdaFlushStart (s : State) (d : Nat) : State :=
  (s.setDie d { s.die d with flushing := true }).setFd .CDA_STATUS CDA_STATUS.FLUSHBUSY 1 d

/-- CDA_FLUSH (R210). -/
def execCdaFlush (site : SiteNo) (s : State) : Out := if s.alive then .next (s.cdaFlushStart site) else .next s

/-- CDA_FLUSH_DONE (R210): every line is cleaned and invalidated; FLUSHBUSY clears when every write-back has been
acknowledged. -/
def execCdaFlushDone (site : SiteNo) (s : State) : Out :=
  if !s.alive || !(s.die site).flushing then .next s
  else
    let s1 := s.dieFlush site
    let v := s1.die site
    if v.wb.isEmpty && v.dcache.l.isEmpty then
      .next ((s1.setDie site { v with flushing := false }).setFd .CDA_STATUS CDA_STATUS.FLUSHBUSY 0 site)
    else .next s1

/-- Clearing DCEN while the die cache holds a dirty line sets DIRTY_ABANDONED (07 R209 table). -/
def State.dcenFall (s : State) (d : Nat) : State :=
  if (s.die d).dcache.l.any (fun e => e.2.st == .m) then s.setFd .CDA_STATUS CDA_STATUS.DIRTY_ABANDONED 1 d else s

end Sys2Proof.Machine
end

