-- ==== Sys2Proof/Machine/Noc.lean ====
section
/-! DEFINITION. The on-package network (09 R236-R258): fences and generations, timers of outstanding tags, route tables
and the switch between their banks, and the E-class slots. -/
namespace Sys2Proof.Machine

/-! Fences and generations (R251, R252). -/

/-- Put a node's fence into a state. -/
def State.setFence (s : State) (node f : Nat) : State := s.setFd .NOC_AGENT NOC_AGENT.FENCE f 0 (node / 256) (node % 256)

/-- A node's generation increments modulo 16 (R251). -/
def State.bumpGen (s : State) (node : Nat) : State :=
  s.setFd .NOC_AGENT NOC_AGENT.GEN (wrapInc 4 (s.genOf node)) 0 (node / 256) (node % 256)

/-- A node's reset ends: the generation increments and the fence opens (R252). -/
def State.nodeResetEnd (s : State) (node : Nat) : State := (s.bumpGen node).setFence node 0

/-- What a fence answers a new request at once; none where it lets it pass (R252). -/
def State.fenceStatus (s : State) (node : Nat) : Option Status :=
  match s.fence node with
  | 0 => none
  | 2 => some .targetReset
  | _ => some .targetOff

/-- The tags of a DMA channel's accesses (12 R320), none of them quarantined (09 R249): its descriptor and context reads, its next
source read, its next destination write, its write-back. -/
def State.dmaFetchTag (s : State) (c : Nat) : Nat := s.freeTag (dmaNode c) 0 4 0
def State.dmaReadTag (s : State) (c : Nat) : Nat := s.freeTag (dmaNode c) 32 32 ((s.dma c).issued / 128)
def State.dmaWriteTag (s : State) (c : Nat) : Nat := s.freeTag (dmaNode c) 64 32 (s.fd .DMA_PROG DMA_PROG.BYTES c / 128)
def State.dmaBackTag (s : State) (c : Nat) : Nat := s.freeTag (dmaNode c) 4 4 0

/-- The tags under which a DMA channel's accesses are outstanding. -/
def State.dmaTags (s : State) (c : Nat) : List Nat :=
  let v := s.dma c
  if v.fetching then [s.dmaFetchTag c]
  else
    match v.desc with
    | none => []
    | some d =>
      if v.writingBack then [s.dmaBackTag c]
      else
        (if v.issued < d.w2.toNat % 2 ^ 32 then [s.dmaReadTag c] else []) ++
        (if v.bytes.isEmpty then [] else [s.dmaWriteTag c])

/-- The base of the tags of APOSTs that wait for room in their slots (05 R159). -/
def apostTag : Nat := 0x900

/-- The timer of a core's APOST that waits for room (R248, 05 R159). -/
def State.apostTimer (s : State) (n : Nat) : List (Nat × Nat) :=
  match (s.core n).wait, (s.core n).reply with
  | .reply t, none => if t / 256 = apostTag / 256 then [(t, (s.core n).apLimit)] else []
  | _, _ => []

/-- The outstanding tags of a node, each with the limit that was in force when its transaction was issued (R248). -/
def State.timers (s : State) (node : Nat) : List (Nat × Nat) :=
  let a := (s.hb.out.filter (fun r => r.node == node && decide (r.phase < 2))).map (fun r => (r.tag, r.limit))
  let b := (s.fab.txns.filter (fun t => t.node == node && !t.answered)).map (fun t => (t.ntag, t.limit))
  let w := (s.held.filter (fun h => h.init.node == node && h.limit != 0)).map (fun h => (h.init.tag, h.limit))
  let k := (s.tck.checks.filter (fun c => c.init.any (fun i => i.node == node) && c.limit != 0)).map (fun c =>
    ((c.init.map (fun i => i.tag)).getD 0, c.limit))
  let c :=
    match nodeDma node with
    | some ch => (s.dmaTags ch).map (fun t => (t, toutLimit (s.dma ch).tout 0 0))
    | none =>
      if node % 256 = 0x20 ∧ node / 256 < 12 then
        (s.die (node / 256)).reqs.map (fun r => (r.tag, r.limit)) ++ (s.die (node / 256)).wb.map (fun e => (e.tag, e.limit))
      else if 0xF00 ≤ node ∧ node < 0xF10 then
        ((s.home (node - 0xF00)).trk.filter (fun t => !t.snoops.isEmpty)).map (fun t => (t.tag, t.limit))
      else []
  let p := match nodeCore node with | some n => s.apostTimer n | none => []
  a ++ b ++ w ++ k ++ c ++ p

/-- The tags of a node's transactions that have no reply yet (R248). -/
def State.outTags (s : State) (node : Nat) : List Nat := (s.timers node).map (fun t => t.1)

/-- A reply reaches an initiator: the core that waits under the tag holds it; one of another generation, or to a node in
reset or off, is dropped and counted (R251, R252). Held output of a mirrored partition has the pair link for initiator: its
failure is recorded in the hub's error bank (16 R431, 20 R498 kind 24). -/
def State.replyTo (s : State) (node gen tag : Nat) (st : Status) (d : LineData) (p : BitVec 16) (old : Word) : State :=
  if !s.replyPasses node gen then s.countStale node
  else
    let s1 := s.deliver (Msg.mk' 3 0 node 0 gen tag false st 0 d p)
    match nodeCore node with
    | some n => if (s.core n).wait = .reply tag then s1.modCore n (fun c => { c with reply := some ⟨tag, st, d, p, old⟩ }) else s1
    | none => if node = hubNode 1 ∧ st ≠ .ok then s1.recordErr ⟨0x3C, 24, hubNode 1, none, some (Status.code st), false⟩ else s1

/-- The reply to a quarantined tag is dropped and counted; the tag may be used again (R249). -/
def State.lateReply (s : State) (node tag : Nat) : State :=
  if s.quarantined node tag then
    let s1 := s.satFd .NOC_AGENT NOC_AGENT.LATECNT 0 (node / 256) (node % 256)
    { s1 with net := { s1.net with quar := s1.net.quar.filter (fun q => !(q.node == node && q.tag == tag)) } }
  else s

/-- The completion of a write that the hub held or the Luna controller checked (02 R51, R53): a core's instruction, or a
DMA channel's descriptor, goes on; a posted write of the host has no completion; every other initiator gets REGCPL. With `limit` 0 its
timer has expired: the reply is late (R249). -/
def State.heldAnswer (s : State) (i : Init) (limit off : Nat) (st : Status) : State :=
  if limit = 0 then s.lateReply i.node i.tag
  else
  match nodeCore i.node, nodeDma i.node with
  | some _, _ => s.replyTo i.node i.gen i.tag st 0 0 0
  | none, some c =>
    if !s.replyPasses i.node i.gen then s.countStale i.node
    else if (s.dma c).held = some none then s.setDma c { s.dma c with held := some (some st) } else s
  | none, none =>
    if 0xF40 ≤ i.node ∧ i.node < 0xF48 then s else s.regReply i (hubNode 8) off st 0

/-- QUARANTINE_END (R249): twice the limit has passed, and the tag may be used again. -/
def execQuarantineEnd (node tag : Nat) (s : State) : Out :=
  .next { s with net := { s.net with quar := s.net.quar.filter (fun q => !(q.node == node && q.tag == tag)) } }

/-- LATE_REPLY (R249). -/
def execLateReply (node tag : Nat) (s : State) : Out := .next (s.lateReply node tag)

/-- STALE_REPLY (R251): a reply of another generation than the node's is dropped and counted. -/
def execStaleReply (node gen _tag : Nat) (s : State) : Out :=
  if gen % 16 = s.genOf node then .next s else .next (s.countStale node)

/-- FENCE_ANSWER (R252): a packet meets the fence of node `dst`; a request is answered at once, a reply to a node in
reset or off is dropped and counted. The answer to a snoop reaches its home (10 R293). -/
def execFenceAnswer (dst src tag : Nat) (reply : Bool) (s : State) : Out :=
  if reply then
    if s.fence dst = 2 ∨ s.fence dst = 3 then .next (s.countStale dst) else .next s
  else
    match s.fenceStatus dst with
    | none => .next s
    | some st =>
      let snp := if 0xF00 ≤ src ∧ src < 0xF10 ∧ dst % 256 = 0x20 then
          (s.home (src - 0xF00)).trk.find? (fun t => t.tag == tag && t.snoops.contains (dst / 256)) else none
      match snp with
      | some t => .next (s.snoopFenced (src - 0xF00) (dst / 256) t.req.line)
      | none => .next (s.send (Msg.mk' 2 0x08 src dst (s.genOf src) tag false st 0 0 0))

/-! Route tables (R253-R255). -/

/-- The eight entries of a table register, entry `j` in byte `j`. -/
def routeWord (f : Nat → Nat) : Word :=
  (List.range 8).foldl (fun w j => setF w ⟨8 * j, 2⟩ (f j)) 0

/-- What the Luna controller writes at boot (R253): entry HC points to the port whose hub direction is HC mod 4. -/
def State.fillRoutes (s : State) : State :=
  [0, 1].foldl (fun s b =>
    let s1 := (List.range 12).foldl (fun s k => s.setRg (routeWord (fun hc => hc % 4)) .NOC_RT 0 b k) s
    (List.range 12).foldl (fun s d =>
      let rot := s.fd .D2D_SITE D2D_SITE.ROT d
      (List.range 16).foldl (fun s k => s.setRg (routeWord (fun hc => (rot + 4 - hc % 4) % 4)) .NOC_DRT d b k) s) s1) s

/-- Whether a bank accepts table writes (R255). -/
def State.bankOpen (s : State) (b : Nat) : Bool :=
  s.fd .NOC_RT_STATUS NOC_RT_STATUS.ACTIVE != b && s.fb .NOC_RT_STATUS NOC_RT_STATUS.DRAINED

/-- ARM is written 1 (R255). -/
def State.armRoutes (s : State) : State :=
  if s.fb .NOC_RT_STATUS NOC_RT_STATUS.DRAINED then s.setFd .NOC_RT_CTL NOC_RT_CTL.ARM 1
  else s.setFd .NOC_RT_STATUS NOC_RT_STATUS.ARMERR 1

/-- ROUTE_ARM (R255). -/
def execRouteArm (s : State) : Out := if s.alive then .next s.armRoutes else .next s

/-- The switch at an edge (R255): the packets under way carry the old version. -/
def State.routeSwitch (s : State) : State :=
  if s.fb .NOC_RT_CTL NOC_RT_CTL.ARM then
    let s2 := s.setFd .NOC_RT_CTL NOC_RT_CTL.ARM 0
    let s3 := s2.setFd .NOC_RT_STATUS NOC_RT_STATUS.ACTIVE (1 - s2.fd .NOC_RT_STATUS NOC_RT_STATUS.ACTIVE)
    let s4 := s3.setFd .NOC_RT_STATUS NOC_RT_STATUS.SWITCHED 1
    s4.setFd .NOC_RT_STATUS NOC_RT_STATUS.DRAINED (b2n (s4.oldPackets == 0))
  else s

/-- ROUTE_DRAINED (R255): no packet of the old version remains. -/
def execRouteDrained (s : State) : Out :=
  if s.oldPackets = 0 then .next (s.setFd .NOC_RT_STATUS NOC_RT_STATUS.DRAINED 1) else .next s

/-! E-class slots (R256-R258). -/

/-- ESHARE as it acts. -/
def State.eshare (s : State) : Nat := min 128 (s.fd .NOC_ECTL NOC_ECTL.ESHARE)

/-- ESLOT_START (R256): START ns after the frame's edge a valid slot becomes active, once a frame; package time has reached that
instant or passes on to it. -/
def execEslotStart (k : Fin 64) (s : State) : Out :=
  let t := s.frameInstant (s.fd .NOC_ESLOT NOC_ESLOT.START 0 k.val)
  if s.alive && s.ticking && s.fb .NOC_ECTL NOC_ECTL.EN && s.fb .NOC_ESLOT NOC_ESLOT.V 0 k.val &&
      !s.net.estarted.contains k.val && decide (t < s.nextU) then
    let n := 64 * s.fd .NOC_ESLOT NOC_ESLOT.BYTES 0 k.val
    let s1 := s.advanceTo t
    .next { s1 with net := { s1.net with
      eslots := if n = 0 then s1.net.eslots else s1.net.eslots.set k.val n
      estarted := k.val :: s1.net.estarted } }
  else .next s

/-- The active slot of an owner, if any: slot and bytes left. -/
def State.activeSlot (s : State) (node : Nat) : Option (Nat × Nat) :=
  s.net.eslots.l.find? (fun e => s.fd .NOC_ESLOT NOC_ESLOT.OWNER 0 e.1 == node)

/-- Whether a valid slot names an owner (12 R324). -/
def State.hasSlot (s : State) (node : Nat) : Bool :=
  s.fb .NOC_ECTL NOC_ECTL.EN &&
    (List.range 64).any (fun k => s.fb .NOC_ESLOT NOC_ESLOT.V 0 k && s.fd .NOC_ESLOT NOC_ESLOT.OWNER 0 k == node)

/-- The owner of an active slot injects `n` bytes (R256). -/
def State.useSlot (s : State) (k n : Nat) : State :=
  let left := s.net.eslots.getD k 0
  { s with net := { s.net with eslots := if left ≤ n then s.net.eslots.erase k else s.net.eslots.set k (left - n) } }

/-- The bytes an owner may inject now: those of its active slot, or what spilled from the last frame (R256, R258). -/
def State.eclassRoom (s : State) (node : Nat) : Nat :=
  match s.activeSlot node with
  | some e => e.2
  | none => s.net.espill.getD node 0

/-- An owner injects `n` bytes of E-class traffic. -/
def State.eclassUse (s : State) (node n : Nat) : State :=
  match s.activeSlot node with
  | some e => s.useSlot e.1 n
  | none => { s with net := { s.net with espill := s.net.espill.set node (s.net.espill.getD node 0 - n) } }

/-- An owner sends an E-class write of `n` bytes (R241, R256, R258): a packet of class EPC, at PRIO 1 where it is unscheduled. The spec
gives EPC no OP codes: those of REQ stand here (DESIGN CHOICE, log 151). -/
def State.epcSend (s : State) (node op dst tag addr n : Nat) (sec : Bool) (data : LineData) (p : BitVec 16) (slice : Nat) : State :=
  let m := { Msg.mk' 4 op dst node (s.genOf node) tag sec .ok addr data p slice with
    prio := if (s.activeSlot node).isSome then 2 else 1 }
  (s.deliver m).eclassUse node n

/-- What an edge does to the slots (R258), before the shadows apply: each slot with bytes left spills, and what is left, with what
spilled before and is not sent, may be sent unscheduled in the next frame; that frame's schedule starts anew. -/
def State.eslotEdge (s : State) : State :=
  let s1 := s.net.eslots.l.foldl (fun s _ =>
    (s.satFd .NOC_ESTATUS NOC_ESTATUS.SPILLCNT).setFd .NOC_ESTATUS NOC_ESTATUS.OVR 1) s
  let sp := s.net.eslots.l.foldl (fun (m : KMap Nat) e =>
    let o := s.fd .NOC_ESLOT NOC_ESLOT.OWNER 0 e.1
    m.set o (m.getD o 0 + e.2)) s.net.espill
  { s1 with net := { s1.net with eslots := .empty, estarted := [], espill := sp } }

/-- A slot as a schedule check sees it: owner, start in ns, bytes. -/
structure SlotPlan where
  owner : Nat
  start : Nat
  bytes : Nat
deriving DecidableEq, Repr

/-- Whether a schedule meets the first two conditions of R257, with times counted in units of 1/`share` ns: a slot of
`n` bytes lasts n / share ns at ESHARE/256 x 128 bytes per HCLK cycle (2 GHz). -/
def planFits (share period : Nat) : List SlotPlan → Bool
  | [] => true
  | a :: t =>
    share != 0 && a.start * share + a.bytes ≤ period * share &&
    t.all (fun b => a.owner != b.owner || a.start * share + a.bytes ≤ b.start * share ||
      b.start * share + b.bytes ≤ a.start * share) && planFits share period t

/-- The valid slots as they would stand, a register's words given by `f`. -/
def planOf (f : Nat → Word) : List SlotPlan :=
  (List.range 64).filterMap (fun k =>
    let w := f k
    if getF w NOC_ESLOT.V = 1 then some ⟨getF w NOC_ESLOT.OWNER, getF w NOC_ESLOT.START, 64 * getF w NOC_ESLOT.BYTES⟩
    else none)

/-- The used blocks of the narrowest live port, 16 where none lives. -/
def State.leastWidth (s : State) : Nat :=
  (List.range 24).foldl (fun a x => (List.range 4).foldl (fun a d =>
    if s.fd .D2D_PSTAT D2D_PSTAT.STATE x d = 2 then min a (s.fd .D2D_PSTAT D2D_PSTAT.WIDTH x d) else a) a) 16

/-- The NOC schedule check (R257) with a share, a period and slots. Which bytes each die-to-die port direction carries
depends on where the owners write, which the schedule does not say: where the bytes of all slots do not fit within the share of the
narrowest port, the third condition is free. -/
def State.nocCheck (s : State) (share period : Nat) (f : Nat → Word) : Bool × State :=
  let l := planOf f
  if l = [] then (true, s)
  else
    let all := l.foldl (fun a p => a + p.bytes) 0
    if all * 16 ≤ share * period * s.leastWidth then (planFits share period l, s)
    else
      let (b, s1) := s.drawBit
      (planFits share period l && b, s1)

end Sys2Proof.Machine
end

