-- ==== Sys2Proof/Machine/D2d.lean ====
section
/-! DEFINITION. The die-to-die ports (09 R259-R267) and the site codes (01 R16-R19). -/
namespace Sys2Proof.Machine

/-- The key of a side in `State.d2d`. -/
def portKey (p : PortRef) : Nat := (if p.hub then 0 else 48) + 4 * p.site.val + p.dir.val

/-- The instance of the D2D block that holds a side's registers. -/
def portInst (p : PortRef) : Nat := if p.hub then p.site.val else 12 + p.site.val

/-- The rotation of a die (01 R16, R18). -/
def State.rot (s : State) (site : Nat) : Nat := s.fd .D2D_SITE D2D_SITE.ROT site

/-- The index of a side's register set: hub direction on the hub side, die port on the die side (01 R18). -/
def State.pidx (s : State) (p : PortRef) : Nat :=
  if p.hub then p.dir.val else (s.rot p.site.val + 4 - p.dir.val) % 4

/-- The other end of a port. -/
def portOther (p : PortRef) : PortRef := { p with hub := !p.hub }

/-- A field of a side's status, and its update. -/
def State.pst (s : State) (p : PortRef) (f : Fld) : Nat := s.fd .D2D_PSTAT f (portInst p) (s.pidx p)
def State.setPst (s : State) (p : PortRef) (f : Fld) (v : Nat) : State := s.setFd .D2D_PSTAT f v (portInst p) (s.pidx p)
/-- STATE of a side: 0 DOWN, 1 TRAIN, 2 UP, 3 RETRAIN, 4 DEAD, 5 LOOP, 6 REFUSED. -/
def State.pstate (s : State) (p : PortRef) : Nat := s.pst p D2D_PSTAT.STATE
def State.pside (s : State) (p : PortRef) : PortSide := s.port (portKey p)
def State.setPside (s : State) (p : PortRef) (v : PortSide) : State := s.setPort (portKey p) v
/-- A link error counter of a side. -/
def State.perr (s : State) (p : PortRef) (f : Fld) : State := s.satFd .D2D_ERRCNT f (portInst p) (s.pidx p)

/-- The detail of an event of a port (20 R496): the hub port and the blocks in use there. -/
def State.linkMisc (s : State) (p : PortRef) : Nat :=
  let used := s.fd .D2D_BLK D2D_BLK.USED (portInst p) (s.pidx p)
  4 * p.site.val + p.dir.val + ((List.range 16).filter (fun j => used.testBit j)).length % 16 * 64

/-- The event of kind 20 in the bank of a side (20 R498). -/
def State.linkEvent (s : State) (p : PortRef) : State :=
  if p.hub then s.recordErr ⟨0x30, 20, 0xF70 + p.site.val, none, some (s.linkMisc p), false⟩
  else s.recordErr ⟨meshBank p.site.val, 20, p.site.val * 256 + 0x60, none, some (s.linkMisc p), false⟩

/-! Site codes. -/

/-- Whether a site code is valid (01 R16). -/
def siteCodeOk (raw : BitVec 16) : Bool :=
  raw.toNat / 256 == 0xA5 && raw.toNat % 16 ≤ 11 &&
    ((List.range 7).foldl (fun n i => n + b2n (raw.getLsbD i)) 0) % 2 == 0 && !raw.getLsbD 7

/-- The sites' grid positions and rotations (01 R14): row, column, quarter turns. -/
def siteTable : List (Nat × Nat × Nat) :=
  [(0, 0, 0), (0, 1, 1), (0, 2, 2), (0, 3, 3), (1, 0, 2), (1, 1, 3), (1, 2, 0), (1, 3, 1), (2, 0, 0), (2, 1, 1), (2, 2, 2), (2, 3, 3)]

/-- The rotation of a site (01 R14). -/
def siteRot (d : Nat) : Nat := (siteTable.getD d (0, 0, 0)).2.2

/-- The site code that hub metal ties at a site (01 R14, R16). -/
def siteCode (d : Nat) : Nat :=
  let w := d + 16 * siteRot d
  0xA500 + w + 64 * (((List.range 6).foldl (fun n i => n + b2n (w.testBit i)) 0) % 2)

/-- A die trains its ports (01 R17, 09 R267): its site code is valid and it is not in stand-alone test mode. -/
def State.trainable (s : State) (d : Nat) : Bool := s.fb .D2D_SITE D2D_SITE.CODE_OK d && !s.tap.standalone.contains d

/-- The cold training of a die's ports starts (R262). -/
def State.startTraining (s : State) (site : SiteNo) : State :=
  if s.trainable site.val then
    (List.finRange 4).foldl (fun s h =>
      (s.setPst ⟨true, site, h⟩ D2D_PSTAT.STATE 1).setPst ⟨false, site, h⟩ D2D_PSTAT.STATE 1) s
  else s

/-- A die that enters stand-alone test mode ends the training of its ports (R267). -/
def State.stopTraining (s : State) (site : SiteNo) : State :=
  (List.finRange 4).foldl (fun s h =>
    if s.pstate ⟨true, site, h⟩ = 1 then (s.setPst ⟨true, site, h⟩ D2D_PSTAT.STATE 0).setPst ⟨false, site, h⟩ D2D_PSTAT.STATE 0
    else s) s

/-- A die that has sampled an invalid site code holds its cores in reset (01 R17). -/
def State.holdDie (s : State) (d : Nat) : State :=
  (List.range 18).foldl (fun s c => s.modCore (18 * d + c) (fun k => { k with run := .resetting })) s

/-- After a reset of the package that keeps the sampled site codes, each die trains its ports or holds its cores (01 R17, R262). -/
def State.restartDies (s : State) : State :=
  (List.finRange 12).foldl (fun (s : State) (d : SiteNo) =>
    if !(s.die d).sampled then s
    else if s.fb .D2D_SITE D2D_SITE.CODE_OK d then s.startTraining d
    else s.holdDie d) s

/-- SITE_CODE_SAMPLE (01 R16, R17): once at power-good; a valid code starts the cold training of the die's ports (R262),
an invalid one holds the die's cores in reset. Hub metal ties a valid code of no other site. A die in stand-alone test mode takes
rotation 0 (R267). -/
def execSiteCodeSample (site : SiteNo) (raw : BitVec 16) (s : State) : Out :=
  let d := site.val
  let v := s.die d
  let ok := siteCodeOk raw
  if v.sampled ∨ !s.boot.pwrok ∨ (ok ∧ raw.toNat ≠ siteCode d) then .next s
  else
    let s1 := s.setDie d { v with sampled := true }
    let w := setF (setF 0 D2D_SITE.RAW raw.toNat) D2D_SITE.CODE_OK (b2n ok)
    if ok then
      let rot := if s.tap.standalone.contains d then 0 else raw.toNat / 16 % 4
      .next ((s1.setRg (setF (setF w D2D_SITE.SITE (raw.toNat % 16)) D2D_SITE.ROT rot) .D2D_SITE d).startTraining site)
    else .next ((s1.setRg w .D2D_SITE d).holdDie d)

/-! Flits (R260, R261). -/

/-- The width code of WSTAMP for a number of blocks. -/
def widthCode (w : Nat) : Nat := if w = 16 then 2 else if w = 8 then 1 else 0

/-- The flits a replay buffer holds (R261, R266). -/
def State.replayCap (s : State) (p : PortRef) : Nat := if (s.fd .D2D_PEER D2D_PEER.FEAT (portInst p)).testBit 3 then 64 else 32

/-- The credits a side returns in its next flit (R260): those of the lowest virtual channel that has any (DESIGN CHOICE); none while
it has stopped (R263). -/
def PortSide.nextReturn (v : PortSide) : Nat × Nat :=
  if v.stopped then (0, 0)
  else
    match v.ret.l.find? (fun e => e.2 != 0) with
    | some e => (e.1, min e.2 65535)
    | none => (0, 0)

/-- A side puts a flit on the lanes, with its link header (R260). -/
def State.putFlit (s : State) (p : PortRef) (f : Flit) : State :=
  let v := s.pside p
  let r := v.nextReturn
  s.setPside p { v with
    sent := v.sent ++ [⟨f.seq, v.lastGood, v.nakDue, widthCode (s.pst p D2D_PSTAT.WIDTH), f.ctrl, r.1, r.2⟩]
    ret := if r.2 = 0 then v.ret else v.ret.set r.1 (v.ret.getD r.1 0 - r.2)
    nakDue := false }

/-- A side emits a flit and keeps it until it is acknowledged (R261); with the replay buffer full nothing is sent. -/
def State.emitFlit (s : State) (p : PortRef) (ctrl : Bool) (body : Nat) : State :=
  let v := s.pside p
  if v.replay.length < s.replayCap p then
    let f : Flit := ⟨v.nextSeq, ctrl, body⟩
    (s.setPside p { v with nextSeq := (v.nextSeq + 1) % 4096, replay := v.replay ++ [f] }).putFlit p f
  else s

/-- What waits for room in a replay buffer goes: the flits of a lost port first (R265), then a NAK (R261). -/
def State.pumpFlits (p : PortRef) : Nat → State → State
  | 0, s => s
  | n + 1, s =>
    let v := s.pside p
    if s.replayCap p ≤ v.replay.length then s
    else
      match v.queue with
      | b :: t => State.pumpFlits p n ((s.setPside p { v with queue := t }).emitFlit p false b)
      | [] => if v.nakDue then s.emitFlit p true 0 else s

/-- Every waiting flit that has room goes. -/
def State.pump (s : State) (p : PortRef) : State := State.pumpFlits p ((s.pside p).queue.length + 1) s

/-- Take the flits up to an acknowledged SEQ out of a replay buffer. -/
def ackFlits (ack : Nat) (l : List Flit) : List Flit :=
  if l.any (fun f => f.seq == ack) then (l.dropWhile (fun f => f.seq != ack)).drop 1 else l

/-- A side receives ACK, and with NAK replays from the flit after it (R261). -/
def State.takeAck (s : State) (p : PortRef) (ack : Nat) (nak : Bool) : State :=
  let v := s.pside p
  let s1 := s.setPside p { v with replay := ackFlits ack v.replay }
  let s2 :=
    if nak then ((s1.pside p).replay.foldl (fun s f => s.putFlit p f) s1 |>.perr p D2D_ERRCNT.NAKS).perr p D2D_ERRCNT.REPLAYS
    else s1
  s2.pump p

/-- A side drives the retrain pattern: it is in RETRAIN (R263). -/
def State.startRetrain (s : State) (p : PortRef) : State := (s.setPst p D2D_PSTAT.STATE 3).linkEvent p

/-- A flit with a CRC error: it and every later one are discarded, and NAK names the last good one; 8 in a row that
name the same flit request retraining (R261). -/
def State.badFlit (s : State) (p : PortRef) : State :=
  let v := s.pside p
  let n := if v.naks ≠ 0 ∧ v.nakSeq = v.lastGood then v.naks + 1 else 1
  let s1 := (s.perr p D2D_ERRCNT.CRCERR).setPside p { v with naks := n, nakSeq := v.lastGood, nakDue := true }
  let s2 := s1.pump p
  if 8 ≤ n then s2.startRetrain p else s2

/-- Credits come back in a flit (R260): no more than the far queue has. -/
def PortSide.credited (v : PortSide) (vc n : Nat) : PortSide :=
  { v with cred := v.cred.set vc (min (vcCredits vc) (v.cred.getD vc 0 + n)) }

/-- FLIT_RECEIVE (R260, R261, R263): only the flit after the last good one is accepted; nothing is taken from one that is
discarded. -/
def execFlitReceive (p : PortRef) (f : FlitIn) (s : State) : Out :=
  let v := s.pside p
  if s.dead || s.pstate p != 2 || v.stopped then .next s
  else if f.crcBad then .next (s.badFlit p)
  else if f.wstamp.val ≠ widthCode (s.pst p D2D_PSTAT.WIDTH) then
    let s1 := (s.setPside p { v with stopped := true }).setPst p D2D_PSTAT.MISMATCH 1
    .next (s1.startRetrain p)
  else if f.seq % 4096 = (v.lastGood + 1) % 4096 then
    let v1 := if f.credits = 0 then v else v.credited f.crVc.val (f.credits % 65536)
    let s1 := s.setPside p { v1 with
      lastGood := f.seq % 4096, naks := 0, rx := if f.ctrl then v.rx else v.rx ++ [⟨f.seq % 4096, false, f.body⟩] }
    .next (s1.takeAck p (f.ack % 4096) f.nak)
  else .next s

/-- NAK_RECEIVE (R261): the sender replays from the flit after ACK. -/
def execNakReceive (p : PortRef) (ack : Nat) (s : State) : Out :=
  if s.dead || s.pstate p != 2 then .next s else .next (s.takeAck p (ack % 4096) true)

/-- CONTROL_FLIT_TIMER (R261). -/
def execControlFlitTimer (p : PortRef) (s : State) : Out :=
  if s.dead || s.pstate p != 2 then .next s else .next (s.emitFlit p true 0)

/-! Training (R262-R266). -/

/-- RETRAIN_PATTERN_DETECT (R263): an end sees the other drive the retrain pattern. -/
def execRetrainPatternDetect (p : PortRef) (s : State) : Out :=
  let here := s.pstate p
  if !s.dead && s.trainable p.site.val && s.pstate (portOther p) == 3 && (here == 2 || ((here == 0 || here == 4) && s.fb .D2D_PCTL D2D_PCTL.EN (portInst p) (s.pidx p)))
  then .next (s.startRetrain p) else .next s

/-- The hub's D2D level (R266): major 2, minor 1, features 0x1F. -/
def hubMajor : Nat := 2
def hubMinor : Nat := 1
def hubFeat : Nat := 0x1F

/-- Lanes of a port in each direction (R259). -/
def portLanes : Nat := 576

/-- The hub lane of a die's lane (01 R19). -/
def hubLane (k : Nat) : Nat := portLanes - 1 - k

/-- The role of a hub lane by its offset in its block of 36 (R259): 0 data, 1 check, 2 repair. -/
def laneRole (k : Nat) : Nat := if k % 36 < 32 then 0 else if k % 36 < 34 then 1 else 2

/-- The role that a die gives its own lane (R259). -/
def dieLaneRole (k : Nat) : Nat := laneRole (hubLane k)

/-- The failed hub lanes that both ends use: the union of their findings (R262). -/
def failedLanes (t : TrainInfo) : List Nat :=
  (List.range portLanes).filter (fun k => t.hubFail.contains k || t.dieFail.contains (hubLane k))

/-- The state of a block with failed lanes (R262): 0 good, 1 or 2 lanes repaired, 3 unusable. Repair lanes that work stand in for
the data and check lanes that do not. -/
def blockState (repair : Bool) (failed : List Nat) : Nat :=
  let lost := (failed.filter (fun k => laneRole k != 2)).length
  let spare := 2 - (failed.filter (fun k => laneRole k == 2)).length
  if failed.isEmpty then 0 else if repair && failed.length ≤ 2 && lost ≤ spare then failed.length else 3

/-- The width for a number of usable blocks (R262, R266): 0 where training fails. -/
def portWidth (quarter : Bool) (usable : Nat) : Nat :=
  if 16 ≤ usable then 16 else if 8 ≤ usable then 8 else if 4 ≤ usable ∧ quarter then 4 else 0

/-- The lowest `w` usable blocks, as the mask USED. -/
def usedMask (st : Nat → Nat) (w : Nat) : Nat :=
  (((List.range 16).filter (fun j => st j != 3)).take w).foldl (fun m j => m + 2 ^ j) 0

/-- A port stops being live (R265): the packets of its flits that the receiver has not accepted go ahead of new traffic on the
lowest live port of the die; its credits are discarded. -/
def State.moveFlits (s : State) (p : PortRef) (dest : Option Nat) : State :=
  let v := s.pside p
  let far := (s.pside (portOther p)).lastGood
  let l := ((ackFlits far v.replay).filter (fun f => !f.ctrl)).map (fun f => f.body) ++ v.queue
  match dest with
  | some h =>
    let q : PortRef := { p with dir := Fin.ofNat 4 h }
    let s1 := s.setPside p { v with replay := [], queue := [], cred := .empty, ret := .empty, nakDue := false }
    let u := s1.pside q
    (s1.setPside q { u with queue := u.queue ++ l }).pump q
  | none => s.setPside p { v with cred := .empty, ret := .empty }

/-- Both sides leave the live set (R264, R265). A die whose last live port is lost is dead; a port that was not live yet is logged
alone. -/
def State.portDown (s : State) (site : SiteNo) (dir : Fin 4) : State :=
  let d := site.val
  let hub : PortRef := ⟨true, site, dir⟩
  let live := s.fd .D2D_PEER D2D_PEER.LIVE d
  let left := if live.testBit dir.val then live - 2 ^ dir.val else live
  let upd := fun (s : State) x => (s.setFd .D2D_PEER D2D_PEER.LIVE left x).setFd .D2D_PEER D2D_PEER.DEADDIE (b2n (left == 0)) x
  let s1 := upd (upd s d) (12 + d)
  let dest := (List.range 4).find? (fun h => left.testBit h)
  let s2 := (s1.moveFlits hub dest).moveFlits (portOther hub) dest
  if left = 0 ∧ live.testBit dir.val then s2.recordErr ⟨0x30, 21, 0xF70 + d, none, some (s.linkMisc hub), false⟩
  else (s2.linkEvent hub).linkEvent (portOther hub)

/-- A training fails (R264): three in a row make the port DEAD. -/
def State.trainFails (s : State) (site : SiteNo) (dir : Fin 4) : State :=
  let hub : PortRef := ⟨true, site, dir⟩
  let n := s.pst hub D2D_PSTAT.FAILS + 1
  let s1 := (s.setPst hub D2D_PSTAT.FAILS (min n 3)).setPst (portOther hub) D2D_PSTAT.FAILS (min n 3)
  if n < 3 then s1
  else
    let dead := fun (s : State) p => (s.setPst p D2D_PSTAT.STATE 4).setPst p D2D_PSTAT.WIDTH 0
    (dead (dead s1 hub) (portOther hub)).portDown site dir

/-- Both ends of a port are in training; a die in stand-alone test mode trains none (R267). -/
def State.inTraining (s : State) (site : SiteNo) (dir : Fin 4) : Bool :=
  let a := s.pstate ⟨true, site, dir⟩
  let b := s.pstate ⟨false, site, dir⟩
  (a == 1 || a == 3) && (b == 1 || b == 3) && s.trainable site.val

/-- TRAINING_FAIL (R264). -/
def execTrainingFail (site : SiteNo) (dir : Fin 4) (s : State) : Out :=
  let a := s.pstate ⟨true, site, dir⟩
  let b := s.pstate ⟨false, site, dir⟩
  if !s.dead && (a == 1 || a == 3 || b == 1 || b == 3) then .next (s.trainFails site dir) else .next s

/-- The link whose queues a side's packets enter (Machine/Packet.lean). -/
def sideLink (p : PortRef) : Nat := 2 * (4 * p.site.val + p.dir.val) + (if p.hub then 2 else 1)

/-- Credit initialisation (R262 step 5): the far receiver advertises the free space of its queues. -/
def State.initCredits (s : State) (p : PortRef) : KMap Nat :=
  (List.range 7).foldl (fun m vc => m.set vc (vcCredits vc - s.usedCredits (sideLink p) vc)) KMap.empty

/-- A side comes up (R262): width, block map, credits; a retraining is counted; what a cold training left over restarts in step
with the far end, and the sender replays from the flit after the last ACK. -/
def State.sideUp (s : State) (p : PortRef) (w blocks used : Nat) : State :=
  let again := s.pstate p == 3
  let s1 := ((s.setPst p D2D_PSTAT.STATE 2).setPst p D2D_PSTAT.WIDTH w).setPst p D2D_PSTAT.FAILS 0
  let s2 := s1.setRg (setF (setF 0 D2D_BLK.BLOCKS blocks) D2D_BLK.USED used) .D2D_BLK (portInst p) (s1.pidx p)
  let s3 := if again then s2.setPst p D2D_PSTAT.RETRAINS (satInc 8 (s2.pst p D2D_PSTAT.RETRAINS)) else s2
  let v := s3.pside p
  let far := s3.pside (portOther p)
  let s4 := s3.setPside p { v with
    stopped := false, naks := 0, ret := .empty, cred := s3.initCredits p
    lastGood := if far.replay.isEmpty then (far.nextSeq + 4095) % 4096 else v.lastGood }
  v.replay.foldl (fun s f => s.putFlit p f) s4

/-- The negotiated level in D2D_PEER of one side (R266). -/
def State.setPeer (s : State) (x own minor feat live : Nat) : State :=
  let w := setF (setF (setF (setF (setF 0 D2D_PEER.MAJOR hubMajor) D2D_PEER.MINOR minor) D2D_PEER.LIVE live)
    D2D_PEER.FEAT feat) D2D_PEER.DISABLED (own &&& (feat ^^^ 0xFFFF))
  s.setRg w .D2D_PEER x

/-- What training learns of a die's D2D level and stepping (01 R22, 09 R266). -/
def State.noteDie (s : State) (d : Nat) (t : TrainInfo) : State :=
  let w := s.rg .IDN_DIE_REV 0 (d + 1)
  let w1 := setF (setF (setF w IDN_DIE_REV.METAL t.metal) IDN_DIE_REV.BASE t.base) IDN_DIE_REV.D2D_MAJOR t.major
  let w2 := setF (setF (setF w1 IDN_DIE_REV.D2D_MINOR t.minor) IDN_DIE_REV.FEAT t.feat) IDN_DIE_REV.REFUSED (b2n (t.major != hubMajor))
  s.setRg w2 .IDN_DIE_REV 0 (d + 1)

/-- Every port of one die offers the same level (R266): once a port has reported it, that of IDN_DIE_REV. -/
def State.offered (s : State) (d : Nat) (t : TrainInfo) : TrainInfo :=
  let f := fun (f : Fld) => s.fd .IDN_DIE_REV f 0 (d + 1)
  if f IDN_DIE_REV.D2D_MAJOR = 0 ∧ f IDN_DIE_REV.FEAT = 0 then t
  else
    { t with major := f IDN_DIE_REV.D2D_MAJOR, minor := f IDN_DIE_REV.D2D_MINOR, feat := f IDN_DIE_REV.FEAT,
             base := f IDN_DIE_REV.BASE, metal := f IDN_DIE_REV.METAL }

/-- TRAINING_DONE (R262, R266). -/
def execTrainingDone (site : SiteNo) (dir : Fin 4) (t0 : TrainInfo) (s : State) : Out :=
  let d := site.val
  if s.dead || !s.inTraining site dir then .next s
  else
    let t := s.offered d t0
    let feat := hubFeat &&& t.feat
    let fails := failedLanes t
    let st := fun j => blockState (feat.testBit 0) (fails.filter (fun k => k / 36 == j))
    let w := portWidth (feat.testBit 1) ((List.range 16).filter (fun j => st j != 3)).length
    let blocks := (List.range 16).foldl (fun m j => m + st j * 4 ^ j) 0
    if w = 0 then .next (s.trainFails site dir)
    else if t.major ≠ hubMajor then
      .next ((List.finRange 4).foldl (fun s h =>
        (s.setPst ⟨true, site, h⟩ D2D_PSTAT.STATE 6).setPst ⟨false, site, h⟩ D2D_PSTAT.STATE 6) (s.noteDie d t))
    else
      let live := s.fd .D2D_PEER D2D_PEER.LIVE d ||| 2 ^ dir.val
      let s1 := ((s.noteDie d t).setPeer d hubFeat (min hubMinor t.minor) feat live).setPeer (12 + d) t.feat
        (min hubMinor t.minor) feat live
      .next ((s1.sideUp ⟨true, site, dir⟩ w blocks (usedMask st w)).sideUp ⟨false, site, dir⟩ w blocks (usedMask st w))

/-- EN of a side is written (R265): 0 takes the port down, 1 retrains a port that is down. -/
def State.portEnable (s : State) (p : PortRef) (en : Bool) : State :=
  let here := s.pstate p
  let s1 := s.setFd .D2D_PCTL D2D_PCTL.EN (b2n en) (portInst p) (s.pidx p)
  if en then (if (here = 0 ∨ here = 4) ∧ s.trainable p.site.val then s1.startRetrain p else s1)
  else if here = 1 ∨ here = 2 ∨ here = 3 then
    let off := fun (s : State) q => (s.setPst q D2D_PSTAT.STATE 0).setPst q D2D_PSTAT.WIDTH 0
    (off (off s1 p) (portOther p)).portDown p.site p.dir
  else s1

/-- D2D_PORT_ENABLE (R265). -/
def execD2dPortEnable (p : PortRef) (en : Bool) (s : State) : Out :=
  if s.alive then .next (s.portEnable p en) else .next s

/-- RETRAIN is written 1 (R263). -/
def State.portRetrain (s : State) (p : PortRef) : State := if s.pstate p = 2 then s.startRetrain p else s

/-- D2D_RETRAIN (R263). -/
def execD2dRetrain (p : PortRef) (s : State) : Out := if s.alive then .next (s.portRetrain p) else .next s

/-- PHYRST is written 1: this side's width returns to 16 and the replay buffer is kept. -/
def State.phyReset (s : State) (p : PortRef) : State :=
  if s.pstate p = 2 then s.setPst p D2D_PSTAT.WIDTH 16 else s

/-- PHYRST (R260, D2D_PCTL). -/
def execPhyrst (p : PortRef) (s : State) : Out := if s.alive then .next (s.phyReset p) else .next s

/-- A port is idle for its Q fields while it is DOWN or DEAD (R267, 00 R10). -/
def State.portQuiet (s : State) (p : PortRef) : Bool := s.pstate p = 0 || s.pstate p = 4 || s.pstate p = 5

/-- Whether a side takes a loop-back mode (R267): far-end loop-back needs FARLB, a die in stand-alone test mode runs modes 1 and
2 alone. -/
def State.loopOk (s : State) (p : PortRef) (lb : Nat) : Bool :=
  lb != 3 || ((s.fd .D2D_PEER D2D_PEER.FEAT (portInst p)).testBit 4 && !s.tap.standalone.contains p.site.val)

/-- LB or PAT has been written (R267): the port reports LOOP while LB is not 0, and leaves LOOP when it is 0. With PAT every lane
sends PRBS31: the errors that are then counted are a free number. -/
def State.loopWritten (s : State) (p : PortRef) : State :=
  if s.fd .D2D_PCTL D2D_PCTL.LB (portInst p) (s.pidx p) ≠ 0 then
    let s1 := s.setPst p D2D_PSTAT.STATE 5
    if s.fb .D2D_PCTL D2D_PCTL.PAT (portInst p) (s.pidx p) then
      let (n, s2) := s1.drawNat
      s2.setFd .D2D_ERRCNT D2D_ERRCNT.PRBSERR (min 65535 (s2.fd .D2D_ERRCNT D2D_ERRCNT.PRBSERR (portInst p) (s2.pidx p) + n))
        (portInst p) (s2.pidx p)
    else s1
  else if s.pstate p = 5 then s.setPst p D2D_PSTAT.STATE 0
  else s

end Sys2Proof.Machine
end

