-- ==== Sys2Proof/Machine/Dma.lean ====
section
/-! DEFINITION. DMA channels (12): states and commands. What a channel copies is in Machine/DmaCopy.lean. -/
namespace Sys2Proof.Machine

/-- STATE of a channel (R325): 0 IDLE, 1 RUN, 2 EMPTY, 3 STOPPING, 4 HALTED, 5 RESETTING. -/
def State.dmaState (s : State) (c : Nat) : Nat := s.fd .DMA_STATUS DMA_STATUS.STATE c

/-- Enter a state: STATE and the bits that follow from it. -/
def State.dmaEnter (s : State) (c st : Nat) : State :=
  let w := s.rg .DMA_STATUS c
  let w1 := setF (setF (setF (setF w DMA_STATUS.STATE st) DMA_STATUS.BUSY (b2n (st == 1 || st == 3))) DMA_STATUS.EMPTY
    (b2n (st == 2))) DMA_STATUS.HALTED (b2n (st == 4))
  let s1 := s.setRg w1 .DMA_STATUS c
  if st = 0 ∨ st = 4 ∨ st = 5 then s1.setDma c { s1.dma c with bell := false } else s1

/-- A command of DMA_CTL is ignored and CERR sets. -/
def State.dmaCerr (s : State) (c : Nat) : State := s.setFd .DMA_STATUS DMA_STATUS.CERR 1 c

/-- A channel is idle for its Q fields (R325, 00 R10). -/
def State.dmaQuiet (s : State) (c : Nat) : Bool := s.dmaState c == 0 || s.dmaState c == 4

/-- START (R325): the channel reads its context and the descriptor at DMA_NEXT. -/
def State.dmaStart (s : State) (c : Nat) : State :=
  if s.dmaState c = 0 then
    (s.setDma c { Dma.reset with fetching := true, budget := (s.dma c).budget, tout := s.rg .NOC_TOUT }).dmaEnter c 1
  else s.dmaCerr c

/-- STOP (R325, R326): a descriptor is never divided. -/
def State.dmaStop (s : State) (c : Nat) : State :=
  match s.dmaState c with
  | 1 => s.dmaEnter c 3
  | 2 => s.dmaEnter c 0
  | _ => s

/-- DOORBELL (R325, R326). -/
def State.dmaDoorbell (s : State) (c : Nat) : State :=
  match s.dmaState c with
  | 1 | 3 => s.setDma c { s.dma c with bell := true }
  | 2 => (s.setDma c { s.dma c with fetching := true, tout := s.rg .NOC_TOUT }).dmaEnter c 1
  | _ => s.dmaCerr c

/-- CLRHALT (R325). -/
def State.dmaClrhalt (s : State) (c : Nat) : State := if s.dmaState c = 4 then s.dmaEnter c 0 else s

/-- A reset of the channel begins (R328): its fence is in RESET, its transactions are abandoned, its registers return to
their reset values except SEC and SLICE. -/
def State.dmaBeginReset (s : State) (c : Nat) : State :=
  if s.dmaState c = 5 then s
  else
    let cfg := s.rg .DMA_CFG c
    let s1 := (s.resetBlk .dma c).setDma c Dma.reset
    let w := setF (setF (s1.rg .DMA_CFG c) DMA_CFG.SEC (getF cfg DMA_CFG.SEC)) DMA_CFG.SLICE (getF cfg DMA_CFG.SLICE)
    ((s1.setRg w .DMA_CFG c).dmaEnter c 5).setFence (dmaNode c) 2

/-- A channel's reset is under way. -/
def State.dmaInReset (s : State) (c : Nat) : Bool := s.dmaState c == 5

/-- The writes of DMA_CTL's command bits, START first (R325). -/
def State.dmaCommands (s : State) (c : Nat) (w : Word) : State :=
  let s1 := if getF w DMA_CTL.START = 1 then s.dmaStart c else s
  let s2 := if getF w DMA_CTL.STOP = 1 then s1.dmaStop c else s1
  let s3 := if getF w DMA_CTL.DOORBELL = 1 then s2.dmaDoorbell c else s2
  let s4 := if getF w DMA_CTL.CLRHALT = 1 then s3.dmaClrhalt c else s3
  if getF w DMA_CTL.CRESET = 1 then s4.dmaBeginReset c else s4

/-- DMA_START (R325). -/
def execDmaStart (ch : DmaNo) (s : State) : Out := if s.alive then .next (s.dmaStart ch.val) else .next s
/-- DMA_STOP (R325). -/
def execDmaStop (ch : DmaNo) (s : State) : Out := if s.alive then .next (s.dmaStop ch.val) else .next s
/-- DOORBELL (R326). -/
def execDmaDoorbell (ch : DmaNo) (s : State) : Out := if s.alive then .next (s.dmaDoorbell ch.val) else .next s
/-- CLRHALT (R325). -/
def execDmaClrhalt (ch : DmaNo) (s : State) : Out := if s.alive then .next (s.dmaClrhalt ch.val) else .next s
/-- DMA_CRESET (R328). -/
def execDmaCreset (ch : DmaNo) (s : State) : Out := if s.alive then .next (s.dmaBeginReset ch.val) else .next s

/-- DMA_RESET_DONE (R328, 09 R252): the reset ends, the generation increments, the fence opens, the channel is IDLE. -/
def execDmaResetDone (ch : DmaNo) (s : State) : Out :=
  if s.dead || !s.dmaInReset ch.val then .next s
  else .next ((s.dmaEnter ch.val 0).nodeResetEnd (dmaNode ch.val))

/-! The rate limiter (R329, R330). -/

/-- RSHARE as it acts. -/
def State.rshare (s : State) (c : Nat) : Nat := min 1024 (s.fd .DMA_CFG DMA_CFG.RSHARE c)

/-- The budget of a frame in lines (R329). -/
def dmaBudget (share bn period : Nat) : Nat := share * bn * period / (1024 * 128)

/-- What an edge does to a channel: a burst with writes left overran; the budget is renewed (R329, R330). `period` is
the period in force. -/
def State.dmaEdge (s : State) (period c : Nat) : State :=
  let d := s.dma c
  let s1 := if d.burst ≠ 0 ∧ s.rshare c ≠ 0 then s.setFd .DMA_STATUS DMA_STATUS.ROVR 1 c else s
  s1.setDma c { d with budget := dmaBudget (s.rshare c) (if c < 192 then 1024 else 512) period }

/-- The channels that an edge renews: those with a share. -/
def State.dmaEdges (s : State) (period : Nat) : State :=
  (List.range 208).foldl (fun s c => if s.rshare c = 0 then s else s.dmaEdge period c) s

end Sys2Proof.Machine
end

