-- ==== Sys2Proof/Machine/NumFmt.lean ====
section
/-! DEFINITION. The number formats (04 R103-R105, R119-R123), rounding (R111-R115), the lane operations (R113-R116,
R127-R131) and the exact accumulator (R136-R142) as functions of values. -/
namespace Sys2Proof.Machine

/-- A floating-point format: exponent bits and fraction bits (R103). -/
structure Fmt where
  eb : Nat
  fb : Nat
deriving DecidableEq, Repr

def fmtF36 : Fmt := ⟨8, 27⟩
def fmtF72 : Fmt := ⟨11, 60⟩
def fmtB64 : Fmt := ⟨11, 52⟩
def fmtB32 : Fmt := ⟨8, 23⟩
def fmtB16 : Fmt := ⟨5, 10⟩
def fmtBf16 : Fmt := ⟨8, 7⟩

/-- Width of an encoding. -/
def Fmt.width (f : Fmt) : Nat := 1 + f.eb + f.fb
/-- The exponent bias. -/
def Fmt.bias (f : Fmt) : Nat := 2 ^ (f.eb - 1) - 1

/-- A decoded value (R104): a finite nonzero value is m x 2^x; a NaN keeps its fraction aligned at the top of 60 bits
(R116). -/
inductive Fp where
  | zero (neg : Bool)
  | fin (neg : Bool) (m : Nat) (x : Int)
  | inf (neg : Bool)
  | nan (neg : Bool) (frac : Nat)
deriving DecidableEq, Repr

/-- Decode an encoding (R104). -/
def fpDecode (f : Fmt) (b : Nat) : Fp :=
  let s := (b / 2 ^ (f.eb + f.fb)) % 2 == 1
  let e := (b / 2 ^ f.fb) % 2 ^ f.eb
  let q := b % 2 ^ f.fb
  if e = 0 then
    if q = 0 then .zero s else .fin s q (1 - (f.bias : Int) - f.fb)
  else if e = 2 ^ f.eb - 1 then
    if q = 0 then .inf s else .nan s (q * 2 ^ (60 - f.fb))
  else .fin s (2 ^ f.fb + q) ((e : Int) - f.bias - f.fb)

/-- The sign bit of an encoding. -/
def fpSign (f : Fmt) (neg : Bool) : Nat := b2n neg * 2 ^ (f.eb + f.fb)

/-- Encodings of zero, infinity, the largest finite value and a NaN (R104, R105). A fraction whose kept bits are all zero
keeps its lowest bit set (R122). -/
def fpZero (f : Fmt) (neg : Bool) : Nat := fpSign f neg
def fpInf (f : Fmt) (neg : Bool) : Nat := fpSign f neg + (2 ^ f.eb - 1) * 2 ^ f.fb
def fpMax (f : Fmt) (neg : Bool) : Nat := fpSign f neg + (2 ^ f.eb - 1) * 2 ^ f.fb - 1
def fpNan (f : Fmt) (neg : Bool) (frac : Nat) : Nat :=
  let q := frac / 2 ^ (60 - f.fb)
  fpInf f neg + (if q = 0 then 1 else q)
/-- The quiet bit in a fraction of 60 bits. -/
def quietBit : Nat := 2 ^ 59
/-- The default NaN (R105). -/
def fpDefault (f : Fmt) : Nat := fpNan f false quietBit
/-- A NaN fraction is quiet. -/
def fracQuiet (q : Nat) : Bool := quietBit ≤ q
/-- A quieted fraction. -/
def quieten (q : Nat) : Nat := if fracQuiet q then q else q + quietBit

/-- Exception flags in C_NFLAGS order (R109). -/
abbrev fIV : Nat := 1
abbrev fDZ : Nat := 2
abbrev fOF : Nat := 4
abbrev fUF : Nat := 8
abbrev fNX : Nat := 16

/-! Rounding (R111, R112): modes 0 RNE, 1 RTZ, 2 RDN, 3 RUP, 4 RNA. -/

/-- Whether a magnitude q + r / 2 is rounded up: `cmp` compares r with one half (0 below, 1 equal, 2 above), which is
not zero. -/
def roundUp (rm : Nat) (neg : Bool) (q cmp : Nat) : Bool :=
  match rm with
  | 0 => cmp == 2 || (cmp == 1 && q % 2 == 1)
  | 1 => false
  | 2 => neg
  | 3 => !neg
  | _ => 1 ≤ cmp

/-- m / 2^d rounded to an integer, and whether that is inexact; `sticky` adds an amount below every bit of m. -/
def roundInt (rm : Nat) (neg : Bool) (m d : Nat) (sticky : Bool) : Nat × Bool :=
  let q := m / 2 ^ d
  let r := m % 2 ^ d
  if r = 0 ∧ sticky = false then (q, false)
  else
    let half := 2 ^ d / 2
    let cmp := if d = 0 ∨ r < half then 0 else if r = half ∧ sticky = false then 1 else 2
    (q + b2n (roundUp rm neg q cmp), true)

/-- m x 2^x as a multiple of 2^g. -/
def roundGrid (rm : Nat) (neg : Bool) (m : Nat) (x g : Int) (sticky : Bool) : Nat × Bool :=
  if g ≤ x then roundInt rm neg (m * 2 ^ (x - g).toNat) 0 sticky
  else roundInt rm neg m (g - x).toNat sticky

/-- Number of significant bits. -/
def blen (m : Nat) : Nat := if m = 0 then 0 else Nat.log2 m + 1

/-- n x 2^g as an encoding: g is the grid of the binade, n has at most fb + 1 bits, or is 2^(fb + 1). -/
def fpPack (f : Fmt) (neg : Bool) (n : Nat) (g : Int) : Nat :=
  fpSign f neg + (g + f.fb + f.bias - 1).toNat * 2 ^ f.fb + n

/-- The result of an overflow by mode (R112). -/
def fpOverflow (f : Fmt) (rm : Nat) (neg : Bool) : Nat :=
  match rm with
  | 1 => fpMax f neg
  | 2 => if neg then fpInf f neg else fpMax f neg
  | 3 => if neg then fpMax f neg else fpInf f neg
  | _ => fpInf f neg

/-- A nonzero exact value m x 2^x rounded once (R112): encoding and flags OF, UF, NX. `floor` is the least grid the
result may use (FRINT's integers), below every grid for the other operations. -/
def fpRoundG (f : Fmt) (rm : Nat) (neg : Bool) (m : Nat) (x : Int) (sticky : Bool) (floor : Int) : Nat × Nat :=
  let g := max floor ((blen m : Int) - 1 + x - f.fb)
  let a := roundGrid rm neg m x g sticky
  let gs : Int := 1 - (f.bias : Int) - f.fb
  let top : Int := (blen a.1 : Int) - 1 + g
  if a.1 = 0 ∨ top < 1 - (f.bias : Int) then
    let t := roundGrid rm neg m x (max gs floor) sticky
    (fpSign f neg + t.1 * 2 ^ (max gs floor - gs).toNat, if t.2 then (if floor ≤ gs then fUF + fNX else fNX) else 0)
  else if (f.bias : Int) < top then (fpOverflow f rm neg, fOF + fNX)
  else
    let gn := top - f.fb
    (fpPack f neg (if gn ≤ g then a.1 * 2 ^ (g - gn).toNat else a.1 / 2 ^ (gn - g).toNat) gn, if a.2 then fNX else 0)

/-- A nonzero exact value rounded once to a format. -/
def fpRound (f : Fmt) (rm : Nat) (neg : Bool) (m : Nat) (x : Int) (sticky : Bool := false) : Nat × Nat :=
  fpRoundG f rm neg m x sticky (-100000)

/-! Conversions between formats (R121-R123). -/

/-- An exact widening: the value, and a NaN's fraction and class, are kept. -/
def fpWiden (a b : Fmt) (v : Nat) : Nat :=
  match fpDecode a v with
  | .zero s => fpZero b s
  | .inf s => fpInf b s
  | .nan s q => fpNan b s q
  | .fin s m x => (fpRound b 0 s m x).1

/-- A store's narrowing (R122): a NaN keeps its top fraction bits and its class; never IV. -/
def fpStore (a b : Fmt) (rm v : Nat) : Nat × Nat :=
  match fpDecode a v with
  | .zero s => (fpZero b s, 0)
  | .inf s => (fpInf b s, 0)
  | .nan s q => (fpNan b s q, 0)
  | .fin s m x => fpRound b rm s m x

/-- A conversion between native formats (R123, R130): a NaN is quieted, a signalling one raises IV. -/
def fpConv (a b : Fmt) (rm v : Nat) : Nat × Nat :=
  match fpDecode a v with
  | .nan s q => (fpNan b s (quieten q), if fracQuiet q then 0 else fIV)
  | _ => fpStore a b rm v

/-! Lane arithmetic. A lane format `f` with PREC rounds in `ieeeOf f` (R115). -/

/-- The IEEE format whose encoding, shifted left, is the native one. -/
def ieeeOf (f : Fmt) : Fmt := if f.eb = 11 then fmtB64 else fmtB32

/-- Round an exact nonzero value to a lane, under PREC or not (R112, R115). -/
def laneRoundG (f : Fmt) (prec : Bool) (rm : Nat) (neg : Bool) (m : Nat) (x : Int) (sticky : Bool) (floor : Int) :
    Nat × Nat :=
  if prec then
    let r := fpRoundG (ieeeOf f) rm neg m x sticky floor
    (r.1 * 2 ^ (f.fb - (ieeeOf f).fb), r.2)
  else fpRoundG f rm neg m x sticky floor

def laneRound (f : Fmt) (prec : Bool) (rm : Nat) (neg : Bool) (m : Nat) (x : Int) (sticky : Bool := false) : Nat × Nat :=
  laneRoundG f prec rm neg m x sticky (-100000)

/-- The first NaN among the operands, quieted, and IV when any is signalling (R114, R116). -/
def nanOf (f : Fmt) : List Fp → Option (Nat × Nat)
  | [] => none
  | .nan s q :: t =>
    some (fpNan f s (quieten q),
      if !(fracQuiet q) || t.any (fun v => match v with | .nan _ r => !(fracQuiet r) | _ => false) then fIV else 0)
  | _ :: t => nanOf f t

/-- The default NaN with IV. -/
def invalid (f : Fmt) : Nat × Nat := (fpDefault f, fIV)

/-- The sign of a value. -/
def Fp.neg : Fp → Bool
  | .zero s => s
  | .fin s _ _ => s
  | .inf s => s
  | .nan s _ => s

/-- Magnitude and scale of a value: 0 for a zero. -/
def Fp.mag : Fp → Nat × Int
  | .fin _ m x => (m, x)
  | _ => (0, 0)

/-- A signed magnitude as an integer. -/
def signed (neg : Bool) (m : Nat) : Int := if neg then -(m : Int) else m

/-- An exact sum of two signed values, rounded; an exact zero takes its sign by R113. -/
def laneSum (f : Fmt) (prec : Bool) (rm : Nat) (sa : Bool) (a : Nat × Int) (sb : Bool) (b : Nat × Int) : Nat × Nat :=
  let g := if a.1 = 0 then b.2 else if b.1 = 0 then a.2 else min a.2 b.2
  let t := signed sa (a.1 * 2 ^ (a.2 - g).toNat) + signed sb (b.1 * 2 ^ (b.2 - g).toNat)
  if t = 0 then
    if a.1 = 0 ∧ b.1 = 0 ∧ sa = sb then (fpZero f sa, 0) else (fpZero f (rm == 2), 0)
  else laneRound f prec rm (decide (t < 0)) t.natAbs g

/-- Addition of decoded values that are no NaN. -/
def addFp (f : Fmt) (prec : Bool) (rm : Nat) (a : Fp) (sb : Bool) (b : Fp) : Nat × Nat :=
  match a, b with
  | .inf s, .inf _ => if s = sb then (fpInf f s, 0) else invalid f
  | .inf s, _ => (fpInf f s, 0)
  | _, .inf _ => (fpInf f sb, 0)
  | _, _ => laneSum f prec rm a.neg a.mag sb b.mag

/-- Multiplication of decoded values that are no NaN. -/
def mulFp (f : Fmt) (prec : Bool) (rm : Nat) (a b : Fp) : Nat × Nat :=
  let s := a.neg != b.neg
  match a, b with
  | .inf _, .zero _ => invalid f
  | .zero _, .inf _ => invalid f
  | .inf _, _ => (fpInf f s, 0)
  | _, .inf _ => (fpInf f s, 0)
  | .fin _ m x, .fin _ n y => laneRound f prec rm s (m * n) (x + y)
  | _, _ => (fpZero f s, 0)

/-- Division of decoded values that are no NaN. -/
def divFp (f : Fmt) (prec : Bool) (rm : Nat) (a b : Fp) : Nat × Nat :=
  let s := a.neg != b.neg
  match a, b with
  | .inf _, .inf _ => invalid f
  | .zero _, .zero _ => invalid f
  | .inf _, _ => (fpInf f s, 0)
  | _, .inf _ => (fpZero f s, 0)
  | .fin _ _ _, .zero _ => (fpInf f s, fDZ)
  | .fin _ m x, .fin _ n y =>
    let k := f.fb + 3 + blen n
    laneRound f prec rm s (m * 2 ^ k / n) (x - y - k) (m * 2 ^ k % n != 0)
  | _, _ => (fpZero f s, 0)

/-- The integer square root by bits: `r` is the root found so far, `k` the bits to try. -/
def isqrt (n : Nat) : Nat → Nat → Nat
  | 0, r => r
  | k + 1, r => if (r + 2 ^ k) * (r + 2 ^ k) ≤ n then isqrt n k (r + 2 ^ k) else isqrt n k r

/-- Square root of a decoded value that is no NaN. -/
def sqrtFp (f : Fmt) (prec : Bool) (rm : Nat) (a : Fp) : Nat × Nat :=
  match a with
  | .zero s => (fpZero f s, 0)
  | .fin false m x =>
    let k := 2 * (f.fb + 4) + (x % 2).toNat
    let n := m * 2 ^ k
    let r := isqrt n (blen n / 2 + 1) 0
    laneRound f prec rm false r ((x - k) / 2) (r * r != n)
  | .inf false => (fpInf f false, 0)
  | _ => invalid f

/-- An order of the values that are no NaN, with -0 below +0: sign and magnitude of the encoding. -/
def fpOrd (f : Fmt) (v : Nat) : Int :=
  let m := v % 2 ^ (f.eb + f.fb)
  if v / 2 ^ (f.eb + f.fb) % 2 = 1 then -(m : Int) - 1 else m

/-- A value re-delivered as the result of an operation: PREC rounds it (R115). -/
def reround (f : Fmt) (prec : Bool) (rm v : Nat) : Nat × Nat :=
  match fpDecode f v with
  | .fin s m x => if prec then laneRound f prec rm s m x else (v, 0)
  | _ => (v, 0)

/-- Round to an integral value in the same format (R127). -/
def rintFp (f : Fmt) (prec : Bool) (rm v : Nat) : Nat × Nat :=
  match fpDecode f v with
  | .fin s m x => laneRoundG f prec rm s m x false 0
  | _ => (v, 0)

/-- VARITH in one lane (R127). -/
def laneArith (op : Nat) (f : Fmt) (prec : Bool) (rm a b : Nat) : Nat × Nat :=
  let x := fpDecode f a
  let y := fpDecode f b
  match nanOf f (if op < 6 then [x, y] else [x]) with
  | some r => r
  | none =>
    match op with
    | 0 => addFp f prec rm x y.neg y
    | 1 => addFp f prec rm x (!y.neg) y
    | 2 => mulFp f prec rm x y
    | 3 => divFp f prec rm x y
    | 4 => reround f prec rm (if fpOrd f a ≤ fpOrd f b then a else b)
    | 5 => reround f prec rm (if fpOrd f a ≤ fpOrd f b then b else a)
    | 6 => sqrtFp f prec rm x
    | _ => rintFp f prec rm a

/-- 0 x infinity. -/
def zeroTimesInf : Fp → Fp → Bool
  | .inf _, .zero _ => true
  | .zero _, .inf _ => true
  | _, _ => false

/-- VFMA in one lane (R128): op bit 1 negates the product, bit 0 the addend. -/
def laneFma (op : Nat) (f : Fmt) (prec : Bool) (rm a b c : Nat) : Nat × Nat :=
  let x := fpDecode f a
  let y := fpDecode f b
  let z := fpDecode f c
  match nanOf f [x, y, z] with
  | some r => (r.1, r.2 ||| (if zeroTimesInf x y then fIV else 0))
  | none =>
    if zeroTimesInf x y then invalid f
    else
      let sp := (x.neg != y.neg) != decide (2 ≤ op)
      let sc := z.neg != decide (op % 2 = 1)
      match x, y, z with
      | .inf _, _, .inf _ => if sp = sc then (fpInf f sp, 0) else invalid f
      | _, .inf _, .inf _ => if sp = sc then (fpInf f sp, 0) else invalid f
      | .inf _, _, _ => (fpInf f sp, 0)
      | _, .inf _, _ => (fpInf f sp, 0)
      | _, _, .inf _ => (fpInf f sc, 0)
      | _, _, _ => laneSum f prec rm sp (x.mag.1 * y.mag.1, x.mag.2 + y.mag.2) sc z.mag

/-- A value is a NaN, a signalling NaN. -/
def Fp.isNan : Fp → Bool
  | .nan _ _ => true
  | _ => false
def Fp.isSnan : Fp → Bool
  | .nan _ q => !(fracQuiet q)
  | _ => false

/-- Zeros of both signs compare equal. -/
def cmpOrd (f : Fmt) (v : Nat) : Int := if v % 2 ^ (f.eb + f.fb) = 0 then 0 else fpOrd f v

/-- VCMP in one lane (R129): the condition and the flags. -/
def laneCmp (op : Nat) (f : Fmt) (a b : Nat) : Bool × Nat :=
  let x := fpDecode f a
  let y := fpDecode f b
  let nan := x.isNan || y.isNan
  let iv := if x.isSnan || y.isSnan || (nan && (op == 1 || op == 2)) then fIV else 0
  let p := cmpOrd f a
  let q := cmpOrd f b
  (match op with
   | 0 => !nan && p == q
   | 1 => !nan && decide (p < q)
   | 2 => !nan && decide (p ≤ q)
   | 3 => nan
   | _ => nan || p != q, iv)

/-- Float to integer of `n` bits (R130). -/
def laneToInt (f : Fmt) (sgn : Bool) (n rm v : Nat) : Nat × Nat :=
  let lo : Int := if sgn then -(2 ^ (n - 1)) else 0
  let hi : Int := if sgn then 2 ^ (n - 1) - 1 else 2 ^ n - 1
  let enc := fun (i : Int) => (i % 2 ^ n).toNat
  match fpDecode f v with
  | .nan _ _ => (0, fIV)
  | .inf s => (enc (if s then lo else hi), fIV)
  | .zero _ => (0, 0)
  | .fin s m x =>
    let r := roundGrid rm s m x 0 false
    let i := signed s r.1
    if i < lo then (enc lo, fIV) else if hi < i then (enc hi, fIV) else (enc i, if r.2 then fNX else 0)

/-- An integer of `n` bits to float (R130). -/
def laneFromInt (f : Fmt) (prec sgn : Bool) (n rm v : Nat) : Nat × Nat :=
  let u := v % 2 ^ n
  let i : Int := if sgn && decide (2 ^ (n - 1) ≤ u) then (u : Int) - 2 ^ n else u
  if i = 0 then (fpZero f false, 0) else laneRound f prec rm (decide (i < 0)) i.natAbs 0

/-! Exact accumulators (R136-R142). -/

/-- The value of an accumulator. -/
abbrev Acc := BitVec 4608

/-- Flags in C_ACCST order: NAN, PINF, NINF, OV (R109). -/
abbrev aNAN : Nat := 1
abbrev aPINF : Nat := 2
abbrev aNINF : Nat := 4
abbrev aOV : Nat := 8

/-- PINF and NINF exchanged (R134, R138). -/
def swapInf (fl : Nat) : Nat := (fl &&& (aNAN ||| aOV)) ||| ((fl &&& aPINF) <<< 1) ||| ((fl &&& aNINF) >>> 1)

/-- A term: its exact value in units of 2^-2164, accumulator flags, exception flags. -/
structure Term where
  v : Int
  fl : Nat
  ex : Nat
deriving DecidableEq, Repr

/-- The term of one value (R138). -/
def termOf : Fp → Term
  | .zero _ => ⟨0, 0, 0⟩
  | .fin s m x => ⟨signed s (m * 2 ^ (x + 2164).toNat), 0, 0⟩
  | .inf s => ⟨0, if s then aNINF else aPINF, 0⟩
  | .nan _ q => ⟨0, aNAN, if fracQuiet q then 0 else fIV⟩

/-- The term of a product (R138). -/
def termMul (a b : Fp) : Term :=
  if a.isNan || b.isNan then ⟨0, aNAN, if a.isSnan || b.isSnan then fIV else 0⟩
  else if zeroTimesInf a b then ⟨0, aNAN, fIV⟩
  else
    match a, b with
    | .fin s m x, .fin t n y => termOf (.fin (s != t) (m * n) (x + y))
    | .zero _, _ => ⟨0, 0, 0⟩
    | _, .zero _ => ⟨0, 0, 0⟩
    | _, _ => termOf (.inf (a.neg != b.neg))

/-- The sum of terms. -/
def termSum (l : List Term) : Term := l.foldl (fun a t => ⟨a.v + t.v, a.fl ||| t.fl, a.ex ||| t.ex⟩) ⟨0, 0, 0⟩

/-- A term subtracted. -/
def Term.negate (t : Term) : Term := ⟨-t.v, swapInf t.fl, t.ex⟩

/-- Add an exact value modulo 2^4608, and whether the true result leaves the range (R137). -/
def accAdd (a : Acc) (d : Int) : Acc × Bool :=
  let t := a.toInt + d
  (BitVec.ofInt 4608 t, decide (t < -(2 ^ 4607) ∨ 2 ^ 4607 ≤ t))

/-- Word `k` of an accumulator. -/
def accWord (a : Acc) (k : Nat) : BitVec 72 := BitVec.setWidth 72 (a >>> (72 * k))

/-- A span (R139). -/
structure Span where
  lo : Nat
  hi : Nat
  neg : Bool
  zero : Bool
deriving DecidableEq, Repr

/-- The span of a value (R139). -/
def accSpan (a : Acc) : Span :=
  if a = 0 then ⟨0, 0, false, true⟩
  else
    let neg := a.msb
    let fill : BitVec 72 := if neg then BitVec.allOnes 72 else 0
    let lo := ((List.range 64).find? (fun k => accWord a k != 0)).getD 0
    let hi := ((List.range 64).reverse.find? (fun k => lo ≤ k && accWord a k != fill)).getD lo
    ⟨lo, hi, neg, false⟩

/-- The word AINFO writes (R139). -/
def spanWord (p : Span) (fl : Nat) : Word :=
  BitVec.ofNat 64 (p.lo + p.hi * 2 ^ 8 + b2n p.neg * 2 ^ 16 + b2n p.zero * 2 ^ 17 + fl % 16 * 2 ^ 20)

/-- The words LO to HI of a value, word LO lowest (R139, 05 R152). -/
def spanWords (a : Acc) (p : Span) : Acc := (a >>> (72 * p.lo)) &&& BitVec.ofNat 4608 (2 ^ (72 * (p.hi - p.lo + 1)) - 1)

/-- The value that a span reconstructs (R139, 05 R154). -/
def fromSpan (lo hi : Nat) (neg : Bool) (words : Acc) : Acc :=
  let n := 72 * (hi - lo + 1)
  let w := (words &&& BitVec.ofNat 4608 (2 ^ n - 1)) <<< (72 * lo)
  if neg then w ||| (BitVec.allOnes 4608 <<< (72 * (hi + 1))) else w

/-- Round a value out (R141, R142). -/
def accRound (f : Fmt) (rm : Nat) (a : Acc) (fl : Nat) : Nat × Nat :=
  if fl &&& aOV ≠ 0 then invalid f
  else if fl &&& aPINF ≠ 0 ∧ fl &&& aNINF ≠ 0 then invalid f
  else if fl &&& aNAN ≠ 0 then (fpDefault f, 0)
  else if fl &&& aPINF ≠ 0 then (fpInf f false, 0)
  else if fl &&& aNINF ≠ 0 then (fpInf f true, 0)
  else if a = 0 then (fpZero f false, 0)
  else fpRound f rm a.msb a.toInt.natAbs (-2164)

/-- The format of a target code (R135, 05 R170): F72, F36, binary64, binary32. -/
def tgtFmt (t : Nat) : Fmt := match t with | 0 => fmtF72 | 1 => fmtF36 | 2 => fmtB64 | _ => fmtB32

end Sys2Proof.Machine
end

