-- ==== Sys2Proof/Machine/FabBase.lean ====
section
/-! DEFINITION. Peer links and collectives of the fabric engine (15), as far as other units use them: states, sending a
message, and what a context sends when its slot is complete or its collective fails. -/
namespace Sys2Proof.Machine

/-- STATE of a peer link (R388): 0 CLOSED, 1 OPENING, 2 OPEN, 3 CLOSING, 4 FAILED. -/
def State.lstate (s : State) (n : Nat) : Nat := s.fd .FAB_PEER_STAT FAB_PEER_STAT.STATE 0 n

/-- A link changes state: LINKEV sets, OPENN follows (FAB_STATUS). -/
def State.linkEnter (s : State) (n st : Nat) : State :=
  let old := s.lstate n
  let s1 := (s.setFd .FAB_PEER_STAT FAB_PEER_STAT.STATE st 0 n).setFd .FAB_STATUS FAB_STATUS.LINKEV 1
  let o := s1.fd .FAB_STATUS FAB_STATUS.OPENN
  s1.setFd .FAB_STATUS FAB_STATUS.OPENN (if old = 2 ∧ st ≠ 2 then o - 1 else if old ≠ 2 ∧ st = 2 then o + 1 else o)

/-- This package's number. -/
def State.pkgNum (s : State) : Nat := s.fd .BOOT_STRAP BOOT_STRAP.PKG_NUM

/-- The last event of the engine (FAB_ERR). -/
def State.fabErr (s : State) (kind peer status addr : Nat) : State :=
  let w := setF (setF (setF (setF 0 FAB_ERR.KIND kind) FAB_ERR.PEER peer) FAB_ERR.STATUS status) FAB_ERR.VALID 1
  (s.setRg w .FAB_ERR).setRg (BitVec.ofNat 64 (addr % 2 ^ 56)) .FAB_EADDR

/-- The port a link uses now: PORT, or ALTPORT when ONALT. -/
def State.linkPort (s : State) (n : Nat) : Nat :=
  if s.fb .FAB_PEER_STAT FAB_PEER_STAT.ONALT 0 n then s.fd .FAB_PEER_CTL FAB_PEER_CTL.ALTPORT 0 n
  else s.fd .FAB_PEER_CTL FAB_PEER_CTL.PORT 0 n

/-- The IPv6 address of a port. -/
def State.portAddr (s : State) (q : Nat) : BitVec 128 :=
  BitVec.ofNat 128 ((s.rg .FAB_PADDR_HI (q / 2) (q % 2)).toNat * 2 ^ 64 + (s.rg .FAB_PADDR_LO (q / 2) (q % 2)).toNat)

/-- The IPv6 address of a peer. -/
def State.peerAddr (s : State) (n : Nat) : BitVec 128 :=
  BitVec.ofNat 128 ((s.rg .FAB_PEER_ADDR_HI 0 n).toNat * 2 ^ 64 + (s.rg .FAB_PEER_ADDR_LO 0 n).toNat)

/-- Bytes of a message (R386): its header and its data in units of 16 bytes. WRP carries its byte mask before the line,
ATOM its operand and compare value (10 R272). -/
def msgSize (m : FabMsg) : Nat :=
  match m.mop with
  | 1 => 144
  | 2 => 160
  | 3 => 32
  | 6 => 144
  | 8 => 32
  | 11 => 16 + (match m.crec with | some r => (8 + 9 * (r.hi + 1 - r.lo) + 15) / 16 * 16 | none => 0)
  | 12 => 16 + (match m.crec with | some r => (8 + 9 * (r.hi + 1 - r.lo) + 15) / 16 * 16 | none => 0)
  | _ => 16

/-- The header of a message (R386). -/
def msgHead (m : FabMsg) : BitVec 128 :=
  BitVec.ofNat 128 (m.mop % 16 + m.tag % 2 ^ 16 * 2 ^ 4 + m.ctx % 256 * 2 ^ 20 + Status.code m.status * 2 ^ 28 +
    m.offset / 128 * 128 % 2 ^ 46 * 2 ^ 32 + (msgSize m - 16) / 16 * 2 ^ 78 + m.psnmap.toNat * 2 ^ 88 + m.seq % 2 ^ 16 * 2 ^ 104)

/-- The major under which a packet goes out (R384): HELLO carries the highest one offered, the handshake's others what it agreed. -/
def State.pktMajor (s : State) (n typ : Nat) : Nat :=
  if typ = 2 then 2 else if s.lstate n = 1 then (s.link n).feat / 4096 else s.fd .FAB_PEER_STAT FAB_PEER_STAT.MAJOR 0 n

/-- The Lyseb header of a packet (R384): XDATA holds the probe number. -/
def State.lysebHead (s : State) (n : Nat) (p : FabPkt) : BitVec 256 :=
  let probe := p.typ == 7 || p.typ == 8
  let minor := if p.typ = 2 then 0 else s.fd .FAB_PEER_STAT FAB_PEER_STAT.MINOR 0 n
  BitVec.ofNat 256 (s.pktMajor n p.typ % 16 + minor * 2 ^ 4 + p.typ * 2 ^ 8 + p.keyid % 2 * 2 ^ 12 + b2n p.ece * 2 ^ 13 +
    b2n p.eclass * 2 ^ 14 + s.pkgNum * 2 ^ 16 + n % 512 * 2 ^ 25 + (if probe then 0 else p.psn) % 2 ^ 32 * 2 ^ 40 +
    p.ack % 2 ^ 32 * 2 ^ 72 + p.txc % 2 ^ 64 * 2 ^ 104 + p.sack % 2 ^ 32 * 2 ^ 168 +
    (p.msgs.foldl (fun a m => a + msgSize m) 0 + 8 * p.times.length) % 2 ^ 13 * 2 ^ 200 + (if probe then p.psn else 0) % 2 ^ 32 * 2 ^ 224)

/-- The DSCP of a packet's class (R382, FAB_CTL): PROBE and PROBEREP, E-class, B-class. -/
def State.pktDscp (s : State) (p : FabPkt) : Nat :=
  s.fd .FAB_CTL (if p.typ = 7 ∨ p.typ = 8 then FAB_CTL.DSCP_T else if p.eclass then FAB_CTL.DSCP_E else FAB_CTL.DSCP_B)

/-- The frame in which a packet of a link leaves its port (R382, R384, R386, R389); ECT(0) is ECN 2. -/
def State.frameOf (s : State) (n : Nat) (p : FabPkt) : FabFrame :=
  let q := s.linkPort n
  { port := q, dmac := (s.rg .FAB_NHMAC (q / 2) (q % 2)).toNat % 2 ^ 48, smac := (s.rg .FAB_LMAC (q / 2) (q % 2)).toNat % 2 ^ 48,
    etype := 0x86DD, src := s.portAddr q, dst := s.peerAddr n, hop := 64,
    tclass := s.pktDscp p * 4 + 2, sport := 0xC000 + n, dport := s.fd .FAB_CTL FAB_CTL.UDP, csum := true
    lyseb := s.lysebHead n p, heads := p.msgs.map msgHead
    offer := if p.typ = 2 ∨ p.typ = 3 then some (0b110, 0, 0x1F) else none }

/-- A packet goes out on a link (R384, R391): its transmission counter is used up, and it carries the acknowledgement. -/
def State.linkSend (s : State) (n : Nat) (p : FabPkt) : State :=
  let l := s.link n
  let sack := if (s.fd .FAB_PEER_STAT FAB_PEER_STAT.FEAT 0 n).testBit 0 then
      l.held.foldl (fun a x => a ||| 2 ^ ((x.psn + 2 ^ 33 - l.rxPsn - 2) % 2 ^ 32 % 32)) 0 else 0
  let q := { p with keyid := s.fd .FAB_PEER_STAT FAB_PEER_STAT.KEYID 0 n, txc := l.txc, ack := l.rxPsn, sack := sack, ece := l.ece }
  let s1 := s.setLink n { l with txc := l.txc + 1, sinceAck := 0, ece := false }
  { s1 with fab := { s1.fab with sent := s1.fab.sent ++ [(n, q)], frames := s1.fab.frames ++ [s1.frameOf n q] } }

/-- A packet with no PSN of its own. -/
def FabPkt.plain (typ : Nat) : FabPkt := ⟨0, typ, 0, 0, 0, 0, false, false, [], []⟩

/-- A numbered packet (TYPE 0, 5, 6) goes out and is kept until it is acknowledged (R395). -/
def State.linkEmit (s : State) (n typ : Nat) (msgs : List FabMsg) : State :=
  let l := s.link n
  let p : FabPkt := ⟨l.nextPsn, typ, 0, 0, 0, 0, false, msgs.any (fun m => m.eclass), msgs, []⟩
  (s.setLink n { l with nextPsn := (l.nextPsn + 1) % 2 ^ 32, unacked := l.unacked ++ [p] }).linkSend n p

/-- B-class packets that may be unacknowledged at once: the congestion window, to which E-class packets are not subject (R397). -/
def State.linkWindow (s : State) (n : Nat) : Nat := min 128 ((s.link n).cwnd / 65536)

/-- Send from the B-class queue while the window has room; `k` bounds the number of packets. -/
def State.linkDrain (s : State) (n : Nat) : Nat → State
  | 0 => s
  | k + 1 =>
    let l := s.link n
    match l.bqueue with
    | [] => s
    | m :: t =>
      if l.unacked.length < 128 ∧ (l.unacked.filter (fun p => !p.eclass)).length < s.linkWindow n then
        ((s.setLink n { l with bqueue := t }).linkEmit n 0 [m]).linkDrain n k
      else s

/-- Send E-class messages of a link in active slot `k` while its bytes last (R406); the last argument bounds them. -/
def State.eslotSend (s : State) (n k : Nat) : Nat → State
  | 0 => s
  | j + 1 =>
    let l := s.link n
    let room := s.fab.eslots.getD k 0
    match l.equeue with
    | [] => s
    | m :: t =>
      if msgSize m ≤ room ∧ l.unacked.length < 128 then
        let s1 := (s.setLink n { l with equeue := t }).linkEmit n 0 [m]
        let left := s1.fab.eleft.getD k 0 - 1
        State.eslotSend { s1 with fab := { s1.fab with eslots := s1.fab.eslots.set k (room - msgSize m)
                                                       eleft := s1.fab.eleft.set k left } } n k j
      else s

/-- The active E-class slots of a link. -/
def State.linkSlots (s : State) (n : Nat) : List Nat :=
  (s.fab.eslots.l.map (fun e => e.1)).filter (fun k => s.fd .FAB_ESLOT FAB_ESLOT.PEER 0 k == n)

/-- Queue a message on an open link (R395, R406): E-class messages wait for a slot of the link. -/
def State.linkPost (s : State) (n : Nat) (m : FabMsg) : State :=
  let l := s.link n
  if m.eclass then
    let s1 := s.setLink n { l with equeue := l.equeue ++ [m] }
    (s1.linkSlots n).foldl (fun s k => s.eslotSend n k (l.equeue.length + 1)) s1
  else (s.setLink n { l with bqueue := l.bqueue ++ [m] }).linkDrain n (l.bqueue.length + 1)

/-- A message with no fields but its MOP. -/
def FabMsg.bare (mop : Nat) : FabMsg :=
  ⟨mop, 0, 0, .ok, 0, 0, 0, 0, 0, 0, 0, 0, 0, false, none⟩

/-! Collectives (R409-R411). -/

/-- STATE of a context: 0 IDLE, 1 GRANTING, 2 GATHER, 3 UP, 4 DONE, 5 FAILED. -/
def State.collState (s : State) (n : Nat) : Nat := s.fd .FAB_CSTAT FAB_CSTAT.STATE 0 n

def State.coll (s : State) (n : Nat) : Coll := s.fab.colls.getD n Coll.reset
def State.setColl (s : State) (n : Nat) (c : Coll) : State := { s with fab := { s.fab with colls := s.fab.colls.set n c } }

/-- PARENT and the children of a COLL context (R409). -/
def State.collParent (s : State) (n : Nat) : Nat := (s.rg .FAB_CPKG0 0 n).toNat % 512
def State.collChild (s : State) (n i : Nat) : Nat :=
  if i < 5 then (s.rg .FAB_CPKG0 0 n).toNat / 2 ^ (9 + 9 * i) % 512
  else (s.rg .FAB_CPKG1 0 n).toNat / 2 ^ (9 * (i - 5)) % 512
def State.collChildren (s : State) (n : Nat) : List Nat :=
  (List.range (min 8 (s.fd .FAB_CCTL FAB_CCTL.NCH 0 n))).map (fun i => s.collChild n i)

/-- The packages next to this one in a context's tree. -/
def State.collNeighbours (s : State) (n : Nat) : List Nat :=
  (if s.fb .FAB_CCTL FAB_CCTL.ROOT 0 n then [] else [s.collParent n]) ++ s.collChildren n

/-- The span of a slot's value as a record (05 R152, 15 R410). -/
def spanRecord (slot epoch : Nat) (a : Acc) (fl : BitVec 4) : Record :=
  let p := accSpan a
  ⟨slot, epoch, p.lo, p.hi, p.neg, fl, p.zero, spanWords a p, true⟩

/-- A collective message of a context. -/
def State.collMsg (s : State) (n mop : Nat) (r : Option Record) : FabMsg :=
  { FabMsg.bare mop with ctx := n, seq := s.fd .FAB_CSTAT FAB_CSTAT.SEQ 0 n,
                         eclass := s.fb .FAB_CCTL FAB_CCTL.ESCH 0 n, crec := r }

/-- Enter DONE (R410): CEV sets. -/
def State.collDone (s : State) (n : Nat) : State :=
  (s.setFd .FAB_CSTAT FAB_CSTAT.STATE 4 0 n).setFd .FAB_CSTAT FAB_CSTAT.CEV 1 0 n

/-- A context's slot is COMPLETE (R410): the span goes up, or the root is done and sends it down. -/
def State.collSlotComplete (s : State) (n slot epoch : Nat) (a : Acc) (fl : BitVec 4) : State :=
  if s.collState n ≠ 2 then s
  else
    let r := spanRecord slot epoch a fl
    if s.fb .FAB_CCTL FAB_CCTL.ROOT 0 n then
      (s.collDone n) |> fun s1 => (s1.collChildren n).foldl (fun s c => s.linkPost c (s.collMsg n 12 (some r))) s1
    else ((s.setColl n { s.coll n with sentUp := some r }).linkPost (s.collParent n) (s.collMsg n 11 (some r))).setFd
      .FAB_CSTAT FAB_CSTAT.STATE 3 0 n

/-- The failure of a collective but for the release of its slot (R411). -/
def State.collFailed (s : State) (n cause : Nat) : State :=
  let st := s.collState n
  if st = 0 ∨ st = 4 ∨ st = 5 then s
  else
    let s1 := (s.collNeighbours n).foldl (fun s p =>
      if s.lstate p = 2 then s.linkPost p { s.collMsg n 13 none with eclass := false } else s) s
    (s1.setFd .FAB_CSTAT FAB_CSTAT.STATE 5 0 n).setFd .FAB_CSTAT FAB_CSTAT.CAUSE cause 0 n

end Sys2Proof.Machine
end

