-- ==== Sys2Proof/Machine/Praline.lean ====
section
/-! DEFINITION. The Praline pool (05): records, ports, grants, leases and the commands of a slot. -/
namespace Sys2Proof.Machine

/-- STATE of a slot (R149): 0 FREE, 1 OPEN, 2 COMPLETE, 3 CLOSING. -/
def State.slotState (s : State) (n : Nat) : Nat := s.fd .PRL_SLOT_STAT PRL_SLOT_STAT.STATE 0 n
def State.setSlotState (s : State) (n st : Nat) : State := s.setFd .PRL_SLOT_STAT PRL_SLOT_STAT.STATE st 0 n
/-- A field of a slot's status. -/
def State.slotFd (s : State) (n : Nat) (f : Fld) : Nat := s.fd .PRL_SLOT_STAT f 0 n
def State.setSlotFd (s : State) (n : Nat) (f : Fld) (v : Nat) : State := s.setFd .PRL_SLOT_STAT f v 0 n
/-- The flags of a slot. -/
def State.slotFlags (s : State) (n : Nat) : BitVec 4 := BitVec.ofNat 4 (s.slotFd n PRL_SLOT_STAT.FLAGS)
/-- A command is ignored and CERR sets (R168). -/
def State.slotCerr (s : State) (n : Nat) : State := s.setSlotFd n PRL_SLOT_STAT.CERR 1
/-- A slot is granted: OPEN, COMPLETE or CLOSING. -/
def State.slotHeld (s : State) (n : Nat) : Bool := s.slotState n != 0

/-! Dumps and results (R170, R171). -/

/-- Whether a DUMP address is valid (R171). -/
def State.dumpOk (s : State) (a : Nat) : Bool := a % 128 == 0 && region a == .dram && decide (a < s.installed)

/-- A DUMP starts; with one under way it waits at the head of the queue (R171, R158). -/
def State.dumpStart (s : State) (n addr : Nat) : State :=
  if !s.dumpOk addr then s.slotCerr n
  else
    let v := s.slot n
    match v.dump with
    | some _ => s.setSlot n { v with queue := .dump addr :: v.queue }
    | none => s.setSlot n { v with dump := some ⟨v.value, addr⟩ }

/-- Line `k` of the 576-byte image: data and byte mask (04 R140). -/
def dumpLine (image : Acc) (k : Nat) : LineData × BitVec 128 :=
  (BitVec.setWidth 1024 (image >>> (1024 * k)), if k < 4 then BitVec.allOnes 128 else BitVec.ofNat 128 (2 ^ 64 - 1))

/-- Write one line of a dump through its home (R171); one past the DRAM window has no home and is answered DECERR. -/
def State.dumpWrite (s : State) (d : DumpRun) (sec : Bool) (k : Nat) : Status × State :=
  if region (d.addr + 128 * k) != .dram then (.decerr, s)
  else
    let l := dumpLine d.image k
    let r := s.writeLine 0xF58 (d.addr / 128 + k) sec l.2 l.1 0
    (r.1.status, r.2)

/-- The five lines of a dump: whether all was OK, whether a line must be retried, and the state. -/
def State.dumpLines (s : State) (d : DumpRun) (sec : Bool) : Bool × Bool × State :=
  (List.range 5).foldl (fun (a : Bool × Bool × State) k =>
    let w := a.2.2.dumpWrite d sec k
    (a.1 && w.1 == .ok, a.2.1 || w.1 == .retry, w.2)) (true, false, s)

/-- A ROUND command (R170): the result is held until RVALID announces it. DESIGN CHOICE (log 144): RES reads zero in between,
where R173 clears only RESX; and the result outlives a wipe and a new grant of the slot. -/
def State.slotRoundNow (s : State) (n rm tgt : Nat) : State :=
  if 4 < rm then s.slotCerr n
  else
    let v := s.slot n
    let r := accRound (tgtFmt tgt) rm v.value (s.slotFlags n).toNat
    let s1 := s.setSlot n { v with round := some (BitVec.ofNat 64 r.1, r.1 / 2 ^ 64, r.2) }
    (s1.setRg 0 .PRL_SLOT_RES 0 n).setRg 0 .PRL_SLOT_RESX 0 n

/-! The queue of a slot (R154, R158, R168, R169). -/

/-- Entry to COMPLETE (R169, R172, 15 R410). -/
def State.slotComplete (s : State) (n : Nat) : State :=
  let s1 := (s.setSlotState n 2).setSlotFd n PRL_SLOT_STAT.CEV 1
  let s2 := if s1.fb .PRL_SLOT_CTL PRL_SLOT_CTL.ADUMP 0 n then
      s1.dumpStart n (128 * s1.fd .PRL_SLOT_DADDR PRL_SLOT_DADDR.ADDR 0 n) else s1
  if s2.slotFd n PRL_SLOT_STAT.OKIND = 3 then
    s2.collSlotComplete (s2.slotFd n PRL_SLOT_STAT.OID) n (s2.slotFd n PRL_SLOT_STAT.EPOCH) (s2.slot n).value (s2.slotFlags n)
  else s2

/-- Add a record to the value (R154). -/
def State.slotAdd (s : State) (n : Nat) (r : Record) : State :=
  let v := s.slot n
  let a := if r.zero then (v.value, false) else accAdd v.value (fromSpan r.lo r.hi r.neg r.words).toInt
  let fl := (s.slotFlags n).toNat ||| r.flags.toNat ||| (if a.2 then aOV else 0)
  let s1 := (s.setSlot n { v with value := a.1 }).setSlotFd n PRL_SLOT_STAT.FLAGS fl
  s1.setRg (spanWord (accSpan a.1) fl) .PRL_SLOT_SPAN 0 n

/-- Whether a queue holds an accepted record. -/
def hasRecord (l : List SlotItem) : Bool := l.any (fun i => match i with | .record _ => true | _ => false)

/-- COMPLETE by count (R169): COUNT has reached EXPECT and the last accepted record has been added. -/
def State.slotCountDone (s : State) (n : Nat) : State :=
  let e := s.fd .PRL_SLOT_CNT PRL_SLOT_CNT.EXPECT 0 n
  if s.slotState n = 1 ∧ e ≠ 0 ∧ s.fd .PRL_SLOT_CNT PRL_SLOT_CNT.COUNT 0 n = e ∧ !(hasRecord (s.slot n).queue) then
    s.slotComplete n
  else s

/-- A command takes effect (R168). DESIGN CHOICE (log 144): PRL_SLOTn_SPAN keeps the span of the last added record through
CLEAR, a wipe and a new grant, since R173 gives it only 'as of the last added record'. -/
def State.slotCmd (s : State) (n : Nat) (c : SlotItem) : State :=
  let st := s.slotState n
  let live := st = 1 ∨ st = 2
  match c with
  | .record r => (s.slotAdd n r).slotCountDone n
  | .seal => if st = 1 then s.slotComplete n else s.slotCerr n
  | .clear =>
    if live then
      let s1 := (s.setSlot n { s.slot n with value := 0 }).setSlotFd n PRL_SLOT_STAT.FLAGS 0
      (s1.setFd .PRL_SLOT_CNT PRL_SLOT_CNT.COUNT 0 0 n).setSlotState n 1
    else s.slotCerr n
  | .round rm tgt => if live then s.slotRoundNow n rm tgt else s.slotCerr n
  | .dump a => if live then s.dumpStart n a else s.slotCerr n
  | .release =>
    if live then (s.setSlot n { s.slot n with released := true }).setSlotState n 3 else s.slotCerr n

/-- Whether the head of a queue can take effect at once: a command, but for a DUMP behind another. -/
def Slot.ready (v : Slot) : Bool :=
  match v.queue with
  | [] => false
  | .record _ :: _ => false
  | .dump _ :: _ => v.dump.isNone
  | _ :: _ => true

/-- Take the head of the queue. -/
def State.slotStep (s : State) (n : Nat) : State :=
  let v := s.slot n
  match v.queue with
  | [] => s
  | c :: t => (s.setSlot n { v with queue := t }).slotCmd n c

/-- The commands at the head of the queue take effect; `k` bounds their number. -/
def State.slotRun (s : State) (n : Nat) : Nat → State
  | 0 => s
  | k + 1 => if (s.slot n).ready then (s.slotStep n).slotRun n k else s

/-- A command reaches the slot (R158). -/
def State.slotPut (s : State) (n : Nat) (c : SlotItem) : State :=
  let v := s.slot n
  (s.setSlot n { v with queue := v.queue ++ [c] }).slotRun n (v.queue.length + 1)

/-! Leases (R165-R167). -/

/-- A slot is wiped and FREE (R166 step 3): epoch and cause of the end stay. -/
def State.slotWipe (s : State) (n : Nat) : State :=
  let v := s.slot n
  let w := s.rg .PRL_SLOT_STAT 0 n
  let w1 := setF (setF (setF (setF (setF w PRL_SLOT_STAT.STATE 0) PRL_SLOT_STAT.OKIND 0) PRL_SLOT_STAT.OID 0)
    PRL_SLOT_STAT.SEC 0) PRL_SLOT_STAT.FLAGS 0
  (s.setRg w1 .PRL_SLOT_STAT 0 n).setSlot n
    { Slot.reset with ended := if v.released then 2 else 1, round := v.round }

/-- The queue of a CLOSING slot is emptied (R166 step 2); `k` bounds its length. -/
def State.slotFlush (s : State) (n : Nat) : Nat → State
  | 0 => s
  | k + 1 => if (s.slot n).queue.isEmpty then s else (s.slotStep n).slotFlush n k

/-- A CLOSING slot with no dump outstanding reaches FREE (R166 steps 2 and 3). -/
def State.slotFinish (s : State) (n : Nat) : State :=
  if s.slotState n = 3 ∧ (s.slot n).dump.isNone then (s.slotFlush n (s.slot n).queue.length).slotWipe n else s

/-- An edge reaches the pool: what it has to do is fixed (R166, R167). A CLOSING slot that only had records to add has
reached FREE by then. The work itself is done before the pool is used again and before the next edge (State.poolSync). -/
def State.poolArrive (s : State) : State :=
  let s1 := (List.range 32).foldl (fun s n => s.slotFinish n) s
  { s1 with poolEdge := { expire := true
                          late := (List.range 32).filter (fun n => s1.slotState n == 3)
                          grant := true
                          free := (List.range 32).filter (fun n => s1.slotState n == 0) } }

/-- Which lines of an abandoned dump were written is free. -/
def State.dumpSome (s : State) (d : DumpRun) (sec : Bool) : State :=
  (List.range 5).foldl (fun s k =>
    let b := s.drawBit
    if b.1 then (b.2.dumpWrite d sec k).2 else b.2) s

/-- R167: the dump is abandoned. -/
def State.dumpAbandon (s : State) (n : Nat) : State :=
  let s0 := { s with poolEdge := { s.poolEdge with late := s.poolEdge.late.filter (fun m => m != n) } }
  match (s0.slot n).dump with
  | none => s0.slotFinish n
  | some d =>
    let s1 := s0.dumpSome d (s0.slotFd n PRL_SLOT_STAT.SEC == 1)
    let s2 := (s1.setFd .PRL_STATUS PRL_STATUS.LOVR 1).setSlotFd n PRL_SLOT_STAT.DERR 1
    (s2.setSlot n { s2.slot n with dump := none }).slotFinish n

/-- The lease of a slot ends (R166 step 1; 15 R411). -/
def State.leaseEnd (s : State) (n : Nat) : State :=
  let s1 := (s.setSlotState n 3).setSlotFd n PRL_SLOT_STAT.LEV 1
  if s1.slotFd n PRL_SLOT_STAT.OKIND = 3 then s1.collFailed (s1.slotFd n PRL_SLOT_STAT.OID) 1 else s1

/-- R166 step 1, after the abandons of R167: every OPEN or COMPLETE slot whose frame EXPF has just ended. -/
def State.leaseExpire (s : State) : State :=
  if !s.poolEdge.expire then s
  else
    let s1 := s.poolEdge.late.foldl State.dumpAbandon s
    let s2 := { s1 with poolEdge := { s1.poolEdge with expire := false } }
    (List.range 32).foldl (fun s n =>
      if (s.slotState n = 1 ∨ s.slotState n = 2) ∧
          (s.fd .PRL_SLOT_LEASE PRL_SLOT_LEASE.EXPF 0 n + 1) % 2 ^ 48 = s.frameNo then s.leaseEnd n else s) s2

/-! Grants (R160-R164). -/

/-- The quota of an owner (R162). -/
def State.prlQuota (s : State) (okind oid : Nat) : Nat :=
  match okind with
  | 1 => min 32 (getF (s.rg .PRL_PQUOTA 0 (oid / 8)) ⟨8 * (oid % 8), 6⟩)
  | 2 => min 32 (s.fd .VSF_RAMT VSF_RAMT.PRLQ 0 oid)
  | _ => min 32 (s.fd .PRL_CTL PRL_CTL.FABQ)

/-- The holding of an owner; the fabric engine's contexts share one quota (R162). -/
def State.prlHolding (s : State) (okind oid : Nat) : Nat :=
  ((List.range 32).filter (fun n => s.slotHeld n && s.slotFd n PRL_SLOT_STAT.OKIND == okind &&
    (okind == 3 || s.slotFd n PRL_SLOT_STAT.OID == oid))).length

/-- Grant a slot (R163, R165). -/
def State.grantSlot (s : State) (n : Nat) (q : Waiter) : State :=
  let ep := wrapInc 8 (s.slotFd n PRL_SLOT_STAT.EPOCH)
  let w := setF (setF (setF (setF (setF 0 PRL_SLOT_STAT.STATE 1) PRL_SLOT_STAT.OKIND q.okind) PRL_SLOT_STAT.OID q.oid)
    PRL_SLOT_STAT.SEC (b2n q.sec)) PRL_SLOT_STAT.EPOCH ep
  let s1 := (s.setRg w .PRL_SLOT_STAT 0 n).setRg 0 .PRL_SLOT_CTL 0 n
  let s2 := s1.setFd .PRL_SLOT_LEASE PRL_SLOT_LEASE.EXPF ((s.frameNo + q.lease) % 2 ^ 48) 0 n
  let s3 := s2.setRg (setF 0 PRL_SLOT_CNT.EXPECT q.expect) .PRL_SLOT_CNT 0 n
  s3.setSlot n { Slot.reset with ended := (s3.slot n).ended, round := (s3.slot n).round }

/-- Deliver an outcome to where the request came from (R161, 14 R375, 15 R410). -/
def State.grantOut (s : State) (q : Waiter) (status slot epoch : Nat) : State :=
  match q.dest with
  | 0 =>
    s.setRg (setF (setF (setF 0 PRL_GREST.STATUS status) PRL_GREST.SLOT slot) PRL_GREST.EPOCH epoch) .PRL_GREST 0 q.tag
  | 1 =>
    s.setRg (setF (setF (setF 0 VSF_PGREST.STATUS status) VSF_PGREST.SLOT slot) VSF_PGREST.EPOCH epoch)
      .VSF_PGREST 0 (q.tag / 4) (q.tag % 4)
  | _ =>
    let s1 := if status = 2 then
        (s.setFd .FAB_CSTAT FAB_CSTAT.SLOT slot 0 q.tag).setFd .FAB_CSTAT FAB_CSTAT.EPOCH epoch 0 q.tag else s
    if status = 1 then s1 else s1.setColl q.tag { s1.coll q.tag with outcome := some status }

/-- Grant the lowest FREE slot among `free`, or none. -/
def State.grantFrom (s : State) (free : List Nat) (q : Waiter) : Option State :=
  match free.find? (fun n => s.slotState n == 0) with
  | some n => let s1 := s.grantSlot n q; some (s1.grantOut q 2 n (s1.slotFd n PRL_SLOT_STAT.EPOCH))
  | none => none

/-- R166 step 4: waiters, from the head, get the slots that were FREE at the edge; one at its quota stays (R164). -/
def State.grantWaiters (free : List Nat) : List Waiter → State → State
  | [], s => s
  | q :: t, s =>
    if s.prlHolding q.okind q.oid < s.prlQuota q.okind q.oid then
      match s.grantFrom free q with
      | some s1 => State.grantWaiters free t { s1 with waitq := s1.waitq.erase q }
      | none => s
    else State.grantWaiters free t s

/-- All lease work of an edge, in its order. -/
def State.poolSync (s : State) : State :=
  let s1 := s.leaseExpire
  if s1.poolEdge.grant then
    let s2 := State.grantWaiters s1.poolEdge.free s1.waitq s1
    { s2 with poolEdge := { s2.poolEdge with grant := false, free := [] } }
  else s1

/-- ROUND_RESULT (R170). -/
def execRoundResult (slot : SlotNo) (s : State) : Out :=
  let n := slot.val
  match (s.slot n).round with
  | none => .next s
  | some r =>
    if s.dead then .next s
    else
      let s1 := s.setSlot n { s.slot n with round := none }
      let w := setF (setF (setF 0 PRL_SLOT_RESX.TOP r.2.1) PRL_SLOT_RESX.FLAGS r.2.2) PRL_SLOT_RESX.RVALID 1
      .next ((s1.setRg r.1 .PRL_SLOT_RES 0 n).setRg w .PRL_SLOT_RESX 0 n)

/-- RECORD_ADDED (R154): the adder finishes the record at the head, and the commands behind it take effect. -/
def execRecordAdded (slot : SlotNo) (s0 : State) : Out :=
  let n := slot.val
  if s0.dead then .next s0
  else
    let s := s0.poolSync
    match (s.slot n).queue with
    | .record _ :: t => .next ((s.slotStep n).slotRun n (t.length + 1))
    | _ => .next (s.slotRun n (s.slot n).queue.length)

/-- DUMP_DONE (R171): the writes are answered; DEV sets, with DERR when one failed. While a home answers RETRY (10 R288)
the writes go on. -/
def execDumpDone (slot : SlotNo) (s0 : State) : Out :=
  let n := slot.val
  if s0.dead then .next s0
  else
    let s := s0.poolSync
    match (s.slot n).dump with
    | none => .next s
    | some d =>
      let r := s.dumpLines d (s.slotFd n PRL_SLOT_STAT.SEC == 1)
      if r.2.1 then .next s
      else
        let s1 := (r.2.2.setSlot n { r.2.2.slot n with dump := none }).setSlotFd n PRL_SLOT_STAT.DEV 1
        let s2 := if r.1 then s1 else s1.setSlotFd n PRL_SLOT_STAT.DERR 1
        .next (s2.slotRun n (s2.slot n).queue.length)

/-- SLOT_WIPED (R166). -/
def execSlotWiped (slot : SlotNo) (s : State) : Out := if s.dead then .next s else .next (s.poolSync.slotFinish slot.val)

/-- DUMP_ABANDON (R167). The pool's work at the edge that follows it is done with the next access or row. -/
def execDumpAbandon (slot : SlotNo) (s : State) : Out :=
  if s.dead || !s.poolEdge.late.contains slot.val then .next s else .next ((s.dumpAbandon slot.val).ovrRise s)

/-- LEASE_EXPIRY (R166). -/
def execLeaseExpiry (s : State) : Out := if s.dead then .next s else .next s.leaseExpire

/-- WAITER_GRANT (R164). -/
def execWaiterGrant (s : State) : Out := if s.dead then .next s else .next s.poolSync

/-- A collective fails (15 R411): its slot request is withdrawn or its slot released, then its neighbours are told. -/
def State.collFail (s : State) (n cause : Nat) : State :=
  let st := s.collState n
  if st = 1 ∨ st = 2 ∨ st = 3 then
    let s1 := { s with waitq := s.waitq.filter (fun q => !(q.dest == 2 && q.tag == n)) }
    let k := s1.fd .FAB_CSTAT FAB_CSTAT.SLOT 0 n
    let mine := s1.slotFd k PRL_SLOT_STAT.OKIND == 3 && s1.slotFd k PRL_SLOT_STAT.OID == n &&
      (s1.slotState k == 1 || s1.slotState k == 2)
    State.collFailed (if mine then s1.slotPut k .release else s1) n cause
  else s

/-- Whether a request's fields are in range (R160). -/
def grantArgsOk (q : Waiter) : Bool :=
  q.lease != 0 &&
    (match q.okind with
     | 1 => decide (q.oid < 64)
     | 2 => decide (q.oid < 240)
     | 3 => true
     | _ => false)

/-- A grant request (R161, R164). -/
def State.grantRequest (s0 : State) (q : Waiter) (wait : Bool) : State :=
  let s := s0.poolSync
  if !s.fb .PRL_CTL PRL_CTL.EN then s.grantOut q 6 0 0
  else if !grantArgsOk q then s.grantOut q 5 0 0
  else if s.prlQuota q.okind q.oid ≤ s.prlHolding q.okind q.oid then s.grantOut q 4 0 0
  else
    match (if s.waitq.isEmpty then s.grantFrom (List.range 32) q else none) with
    | some s1 => s1
    | none =>
      if wait && decide (s.waitq.length < 16) then { s.grantOut q 1 0 0 with waitq := s.waitq ++ [q] }
      else s.grantOut q 3 0 0

/-- A write of PRL_GRANT (R160, R161): OKIND 2 and 3 are refused there. -/
def State.prlGrantWrite (s0 : State) (i : Init) (w : Word) : State :=
  let s := s0.poolSync
  let t := getF w PRL_GRANT.TAG
  if s.fd .PRL_GREST PRL_GREST.STATUS 0 t = 1 then s.setFd .PRL_STATUS PRL_STATUS.GERR 1
  else
    let ok := getF w PRL_GRANT.OKIND
    let q : Waiter := ⟨if ok = 1 then 1 else 0, getF w PRL_GRANT.OID, getF w PRL_GRANT.LEASE, getF w PRL_GRANT.EXPECT,
      i.sec, 0, t⟩
    s.grantRequest q (getF w PRL_GRANT.WAIT == 1)

/-- PRL_GRANT (R161). -/
def execPrlGrant (i : Init) (data : Word) (s : State) : Out :=
  if s.alive then .next (s.prlGrantWrite i data) else .next s

/-- CANCEL of a request of PRL_GREST (R161): a WAITING request is withdrawn. -/
def State.grantCancel (s : State) (t : Nat) : State :=
  if s.fd .PRL_GREST PRL_GREST.STATUS 0 t = 1 then
    { s.setFd .PRL_GREST PRL_GREST.STATUS 3 0 t with waitq := s.waitq.filter (fun q => !(q.dest == 0 && q.tag == t)) }
  else s

/-- ACK (R161): a status other than WAITING returns to IDLE. -/
def State.grantAck (s : State) (t : Nat) : State :=
  if s.fd .PRL_GREST PRL_GREST.STATUS 0 t = 1 then s else s.setFd .PRL_GREST PRL_GREST.STATUS 0 0 t

/-- GRANT_CANCEL (R161). -/
def execGrantCancel (tag : Fin 16) (s : State) : Out := if s.alive then .next (s.poolSync.grantCancel tag.val) else .next s
/-- GRANT_ACK (R161). -/
def execGrantAck (tag : Fin 16) (s : State) : Out := if s.alive then .next (s.poolSync.grantAck tag.val) else .next s

/-! Contribution records (R152-R157). -/

/-- Whether a sender is part of the slice that owns a slot. -/
def State.slotForeign (s : State) (n : Nat) (i : Init) : Bool :=
  s.slotFd n PRL_SLOT_STAT.OKIND == 2 && s.slotFd n PRL_SLOT_STAT.OID != i.slice

/-- The checks of R153 in order. -/
def State.recordStatus (s : State) (n : Nat) (r : Record) (i : Init) : Nat :=
  let st := s.slotState n
  let v := s.slot n
  let same := r.epoch == s.slotFd n PRL_SLOT_STAT.EPOCH
  let e := s.fd .PRL_SLOT_CNT PRL_SLOT_CNT.EXPECT 0 n
  if !r.mbz || decide (r.hi < r.lo) || r.slot != n then 7
  else if !s.fb .PRL_CTL PRL_CTL.EN || (st == 0 && (!same || v.ended != 1)) then 1
  else if (st == 3 && !v.released) || st == 0 then 2
  else if !same then 1
  else if (s.slotFd n PRL_SLOT_STAT.SEC == 1) != i.sec then 5
  else if s.slotForeign n i then 6
  else if st == 2 || st == 3 then 3
  else if e != 0 && s.fd .PRL_SLOT_CNT PRL_SLOT_CNT.COUNT 0 n == e then 4
  else 0

/-- A refused record counts; a FOREIGN one also in the spoof counters (R153). -/
def State.recordRefuse (s : State) (n code : Nat) (i : Init) : State :=
  let s1 := s.satFd .PRL_SLOT_CNT PRL_SLOT_CNT.REFUSED 0 n
  if code = 6 then s1.spoof i.slice 3 i.node (RegKind.PRL_SLOT_CTL.addr 0 n) else s1

/-- Number of records waiting in a queue. -/
def recordCount (l : List SlotItem) : Nat := (l.filter (fun i => match i with | .record _ => true | _ => false)).length

/-- A whole record arrives at its slot (R153, R159): none while the queue has no room, else its status. -/
def State.takeRecord (s0 : State) (n : Nat) (r : Record) (i : Init) : Option (Nat × State) :=
  let s := s0.poolSync
  let v := s.slot n
  if 8 ≤ recordCount v.queue then none
  else
    let c := s.recordStatus n r i
    if c = 0 then
      some (0, (s.satFd .PRL_SLOT_CNT PRL_SLOT_CNT.COUNT 0 n).setSlot n { v with queue := v.queue ++ [.record r] })
    else some (c, s.recordRefuse n c i)

/-- Header bits [37:0] of a record (R152). -/
def recordHeader (r : Record) : Nat :=
  r.slot % 32 + r.epoch % 256 * 2 ^ 8 + r.lo % 64 * 2 ^ 16 + r.hi % 64 * 2 ^ 24 + b2n r.neg * 2 ^ 32 +
    r.flags.toNat * 2 ^ 33 + b2n r.zero * 2 ^ 37

/-- A port refusal in PRL_LASTREF (R156). -/
def State.lastRef (s : State) (hdr code : Nat) : State :=
  s.setRg (setF (setF (setF 0 PRL_LASTREF.HEADER hdr) PRL_LASTREF.CODE code) PRL_LASTREF.VALID 1) .PRL_LASTREF

/-- CONTRIBUTION_RECORD (R153): while the slot's queue is full the record waits. -/
def execContributionRecord (slot : SlotNo) (r : Record) (i : Init) (port : Bool) (s : State) : Out :=
  if !s.alive then .next s
  else
    match s.takeRecord slot.val r i with
    | none => .next s
    | some (c, s1) => .next (if port && c != 0 then s1.lastRef (recordHeader r) c else s1)

/-- The record that a port has assembled. -/
def PortAsm.record (a : PortAsm) : Record :=
  let h := a.hdr.toNat
  ⟨h % 32, h / 2 ^ 8 % 256, h / 2 ^ 16 % 64, h / 2 ^ 24 % 64, h / 2 ^ 32 % 2 == 1, BitVec.ofNat 4 (h / 2 ^ 33),
   h / 2 ^ 37 % 2 == 1, BitVec.setWidth 4608 a.bytes,
   h / 32 % 8 == 0 && h / 2 ^ 22 % 4 == 0 && h / 2 ^ 30 % 4 == 0 && h / 2 ^ 38 == 0⟩

/-- The length of a record in bytes (R152). -/
def recordLen (hdr : Word) : Nat := 8 + 9 * (hdr.toNat / 2 ^ 24 % 64 + 1 - hdr.toNat / 2 ^ 16 % 64)

/-- A port refuses a record with FORMAT. -/
def State.portFormat (s : State) (n : Nat) (hdr : Word) (i : Init) : State :=
  ((s.setSlot n { s.slot n with port := none }).recordRefuse n 7 i).lastRef (hdr.toNat % 2 ^ 38) 7

/-- A write to a contribution port (R156, R157): its status and the state, none while the record it ends must wait. -/
def State.portWrite (s0 : State) (i : Init) (n off width : Nat) (data : Word) : Option (Status × State) :=
  let s := s0.poolSync
  match nodeDma i.node with
  | none => some (.decerr, s)
  | some ch =>
    let v := s.slot n
    let busy := match v.port with | some a => a.chan != ch | none => false
    if width != 64 || busy then some (.decerr, s)
    else if off = 0 then
      if data.toNat / 2 ^ 24 % 64 < data.toNat / 2 ^ 16 % 64 then some (.ok, s.portFormat n data i)
      else some (.ok, s.setSlot n { v with port := some ⟨ch, data, 8, 0⟩ })
    else
      match v.port with
      | none => some (.ok, s)
      | some a =>
        if off ≠ a.got then some (.ok, s.portFormat n a.hdr i)
        else
          let b : PortAsm := { a with got := a.got + 8, bytes := a.bytes ||| ((BitVec.setWidth 4672 data) <<< (8 * (off - 8))) }
          if b.got < recordLen a.hdr then some (.ok, s.setSlot n { v with port := some b })
          else
            let s1 := s.setSlot n { v with port := none }
            match s1.takeRecord n b.record i with
            | none => none
            | some (c, s2) => some (.ok, if c = 0 then s2 else s2.lastRef (a.hdr.toNat % 2 ^ 38) c)

/-- PORT_WRITE (R156). -/
def execPortWrite (i : Init) (slot : SlotNo) (off width : Nat) (data : Word) (s : State) : Out :=
  if !s.alive then .next s
  else
    match s.portWrite i slot.val off width data with
    | none => .next s
    | some r => .next r.2

/-! Commands (R150, R168). -/

/-- A write of PRL_SLOT_CMD reaches a slot: the lease work of a past edge first, then the world check, whatever the
operation (R150), then its effect. -/
def State.slotWorld (s0 : State) (n : Nat) (i : Init) (f : State → State) : State :=
  let s := s0.poolSync
  let sec := s.slotFd n PRL_SLOT_STAT.SEC == 1
  if sec && !i.sec then s.violate i.node 1 (RegKind.PRL_SLOT_CMD.addr 0 n)
  else if !sec && i.sec then s.slotCerr n
  else f s

/-- A command takes its place behind the records accepted before it (R158). -/
def State.slotCommand (s : State) (n : Nat) (i : Init) (c : SlotItem) : State := s.slotWorld n i (fun s => s.slotPut n c)

/-- RENEW (R165): at once. -/
def State.slotRenew (s : State) (n : Nat) (i : Init) (lease : Nat) : State :=
  s.slotWorld n i (fun s =>
    if lease = 0 ∨ !(s.slotState n == 1 || s.slotState n == 2) then s.slotCerr n
    else s.setFd .PRL_SLOT_LEASE PRL_SLOT_LEASE.EXPF ((s.frameNo + lease) % 2 ^ 48) 0 n)

/-- The DUMP address as a command samples it (R171). -/
def State.dumpAddr (s : State) (n : Nat) : Nat := 128 * s.fd .PRL_SLOT_DADDR PRL_SLOT_DADDR.ADDR 0 n

/-- A write of PRL_SLOT_CMD (R168). -/
def State.slotCmdWrite (s : State) (n : Nat) (i : Init) (w : Word) : State :=
  match getF w PRL_SLOT_CMD.OP with
  | 0 => s.slotWorld n i (fun s => s)
  | 1 => s.slotCommand n i .seal
  | 2 => s.slotCommand n i .clear
  | 3 => s.slotCommand n i (.round (getF w PRL_SLOT_CMD.RM) (getF w PRL_SLOT_CMD.TGT))
  | 4 => s.slotCommand n i (.dump (s.poolSync.dumpAddr n))
  | 5 => s.slotRenew n i (getF w PRL_SLOT_CMD.ARG)
  | 6 => s.slotCommand n i .release
  | _ => s.slotWorld n i (fun s => s.slotCerr n)

/-- SEAL (R168). -/
def execSlotSeal (slot : SlotNo) (i : Init) (s : State) : Out :=
  if s.alive then .next (s.slotCommand slot.val i .seal) else .next s
/-- CLEAR (R168). -/
def execSlotClear (slot : SlotNo) (i : Init) (s : State) : Out :=
  if s.alive then .next (s.slotCommand slot.val i .clear) else .next s
/-- ROUND (R170). -/
def execSlotRound (slot : SlotNo) (i : Init) (rm : BitVec 3) (tgt : BitVec 2) (s : State) : Out :=
  if s.alive then .next (s.slotCommand slot.val i (.round rm.toNat tgt.toNat)) else .next s
/-- DUMP (R171). -/
def execSlotDump (slot : SlotNo) (i : Init) (s : State) : Out :=
  if s.alive then .next (s.slotCommand slot.val i (.dump (s.poolSync.dumpAddr slot.val))) else .next s
/-- RENEW (R165). -/
def execSlotRenew (slot : SlotNo) (i : Init) (lease : BitVec 16) (s : State) : Out :=
  if s.alive then .next (s.slotRenew slot.val i lease.toNat) else .next s
/-- SLOT_RELEASE (R168). -/
def execSlotRelease (slot : SlotNo) (i : Init) (s : State) : Out :=
  if s.alive then .next (s.slotCommand slot.val i .release) else .next s

/-- The pool is idle for its Q field (PRL_CTL.EN). -/
def State.poolQuiet (s : State) : Bool := (List.range 32).all (fun n => s.slotState n == 0) && s.waitq.isEmpty

end Sys2Proof.Machine
end

