-- ==== Sys2Proof/Machine/HostBus.lean ====
section
/-! DEFINITION. The host-bus unit (13): configuration space of its own functions, outbound windows, completions, links,
hot-plug slots and ATS invalidation. Function resets are in Machine/HostFn.lean, inbound requests in
Machine/Inbound.lean. -/
namespace Sys2Proof.Machine

/-- A tag that an initiator may issue: not outstanding (09 R239) and not quarantined (09 R249). -/
def State.tagFree (s : State) (node tag : Nat) : Bool := !(s.outTags node).contains tag && !s.quarantined node tag

/-- A completion goes out on a link for an inbound request (R347): its status (0 successful, 1 Unsupported Request, 2 Request Retry
Status), address, length, data and EP. One that can no longer be sent is discarded (R355). -/
def State.hbCompletion (s : State) (k port rid addr len st : Nat) (data : LineData) (ep : Bool) : State :=
  if s.hbLink k port then
    s.hbTlp ⟨k, port, hbNode k, st + 16 * b2n ep, addr, len, true, true, data, rid, 0, 0, 0, none, false, 0⟩
  else s

/-- The tag of a peer-to-peer request at its controller: a number of its own, and the port it came from. -/
def peerTag (n port : Nat) : Nat := 4 * n + port

/-- A peer-to-peer request that came from a port waits for its completion. -/
def State.peerWaits (s : State) (k port : Nat) : Bool := s.hb.out.any (fun q => q.node == hbNode k && q.tag % 4 == port)

/-- The reply to an outbound request goes to its initiator; that of a peer-to-peer request goes back on the link it came from
(R347 step 3). -/
def State.hbAnswer (s : State) (q : HbReq) (st : Status) (d : LineData) (p : BitVec 16) (old : Word) : State :=
  if 0xF40 ≤ q.node ∧ q.node < 0xF48 then
    let k := q.node - 0xF40
    if st = .ok then s.hbCompletion k (q.tag % 4) q.func q.addr q.size 0 d (p != 0)
    else ((s.satFd .HBU_CNT HBU_CNT.URSENT k).hbErr k 4 (q.tag % 4) 0 q.addr).hbCompletion k (q.tag % 4) q.func q.addr q.size 1 0 false
  else s.replyTo q.node q.gen q.tag st d p old

/-- Two entries are the same request of a controller. -/
def HbReq.same (q x : HbReq) : Bool := x.ctl == q.ctl && x.htag == q.htag

/-- A request is outstanding no more. -/
def State.hbDrop (s : State) (q : HbReq) : State := { s with hb := { s.hb with out := s.hb.out.filter (fun x => !q.same x) } }

/-- End an outstanding request with a status. -/
def State.hbEnd (s : State) (q : HbReq) (st : Status) : State := (s.hbDrop q).hbAnswer q st 0 0 0

/-- The posted writes of a controller that have left its queues have their status (R352). -/
def State.hbSettle (s : State) (k : Nat) : State :=
  (s.hb.out.filter (fun q => q.ctl == k && q.phase == 2)).foldl (fun s q => s.hbEnd q .ok) s

/-- The queued posted writes of a controller's links leave (R352). -/
def State.hbFlush (s : State) (k : Nat) : State :=
  let due := fun (x : HbReq) => x.phase == 1 && x.ctl == k
  State.hbSettle { s with hb := { s.hb with
    sent := s.hb.sent ++ s.hb.out.filter due
    out := s.hb.out.map (fun x => if due x then { x with phase := 2 } else x) } } k

/-- The posted write that has just gone out waits in its link's queue instead: its link is in Recovery (R355). -/
def State.hbQueued (s : State) : State :=
  match s.hb.sent.getLast? with
  | some q => { s with hb := { s.hb with sent := s.hb.sent.dropLast, out := s.hb.out ++ [{ q with phase := 1 }] } }
  | none => s

/-- The controller that an access goes to has no tag left on its link (R335). -/
def State.tagsGone (s : State) (a : Nat) : Bool :=
  match if s.boot.attached && decide (0x600000000000 ≤ a) then some (0, 0) else s.claimPort (a % 2 ^ 46) with
  | some (k, j) => decide (s.tagLimit k j ≤ (s.hb.out.filter (fun q => q.ctl == k)).length)
  | none => false

/-- OUTBOUND_ACCESS (R345), under a tag that its initiator may issue; one for which its controller has no tag, or is gated, comes again. Whether a
posted write finds its link in Recovery, where it is queued (R335, R355), is free. -/
def execOutboundAccess (i : Init) (r : OutReq) (s : State) : Out :=
  if !s.alive || region r.addr != .hostBus || !s.tagFree i.node r.tag || s.tagsGone r.addr || s.hbGated r.addr then .next s
  else
    match s.hbOut i r with
    | (some st, s1) =>
      let (b, s2) := s1.drawBit
      if b && r.posted && st == .ok then .next s2.hbQueued else .next (s2.replyTo i.node i.gen r.tag st 0 0 0)
    | (none, s1) => .next s1

/-- A configuration request, as its register-space address tells (R336). -/
def cfgPa (a : Nat) : Bool := decide (0x800080000000 ≤ a) && decide (a < 0x800100000000)

/-- COMPLETION_RECEIVE (R353, R355, R356, R358): a completion nobody waits for is dropped and counted; that of a request which a clear
Bus Master Enable has answered is discarded. UR or CA of a configuration request reads all ones and is no error (R337). -/
def execCompletionReceive (ctl : Fin 8) (tag : Nat) (good ep : Bool) (data : LineData) (s : State) : Out :=
  let k := ctl.val
  if s.dead || s.gateClosed (244 + k) then .next s
  else
    let s0 := s.hbFlush k
    match s0.hb.out.find? (fun q => q.ctl == k && q.htag == tag) with
    | none => .next (s0.satFd .HBU_CNT HBU_CNT.UCDROP k)
    | some q =>
      let s1 := s0.hbDrop q
      if q.phase = 3 then .next s1
      else if !good && cfgPa q.addr then .next (s1.hbAnswer q .ok (BitVec.allOnes 1024) 0 0)
      else if good then .next (s1.hbAnswer q .ok data (if ep then BitVec.allOnes 16 else 0) (BitVec.setWidth 64 data))
      else .next ((s1.hbErr k 3 q.port 0 q.addr).hbAnswer q .decerr 0 0 0)

/-! Root-port events and links (R343, R355, R363). -/

/-- Bits of Slot Status in the dword at 0x68. -/
abbrev ssABP : Nat := 16
abbrev ssPFD : Nat := 17
abbrev ssPDC : Nat := 19
abbrev ssCC : Nat := 20
abbrev ssPDS : Nat := 22
abbrev ssDLLSC : Nat := 24

/-- Set or clear a bit of a dword of a root port. -/
def State.rpBit (s : State) (k j reg b : Nat) (v : Bool) : State :=
  let a := rpBase k j + reg
  let d := s.cfgD a
  let m : BitVec 32 := BitVec.ofNat 32 (2 ^ b)
  s.setCfgD a (if v then d ||| m else d &&& ~~~m)

/-- The hot-plug interrupt of a root port: an enabled event is pending (the source of 17 R455). -/
def State.rootPortEvent (s : State) (k j : Nat) : Bool :=
  let d := s.rpD k j 0x68
  d.testBit 5 &&
    ((d.testBit ssABP && d.testBit 0) || (d.testBit ssPFD && d.testBit 1) || (d.testBit ssPDC && d.testBit 3) ||
     (d.testBit ssCC && d.testBit 4) || (d.testBit ssDLLSC && d.testBit 12))

/-- The link state of a port changes: LINK, Data Link Layer Link Active, Data Link Layer State Changed. -/
def State.setLinkBit (s : State) (k j : Nat) (up : Bool) : State :=
  let l := s.fd .HBU_STATUS HBU_STATUS.LINK k
  let v := if up then l ||| 2 ^ j else if l.testBit j then l - 2 ^ j else l
  ((s.setFd .HBU_STATUS HBU_STATUS.LINK v k).rpBit k j 0x60 29 up).rpBit k j 0x68 ssDLLSC true

/-- What R355 does when a link leaves DL_Active. -/
def State.linkLost (s : State) (k j : Nat) : State :=
  if !s.hbLink k j then s
  else
    let s1 := (((s.hbSettle k).setLinkBit k j false).satFd .HBU_CNT HBU_CNT.LINKDN k).hbErr k 1 j 0 0
    (s1.hb.out.filter (fun q => q.ctl == k && q.port == j)).foldl (fun s q =>
      if q.phase = 3 then s.hbDrop q
      else (if q.phase = 1 then s.satFd .HBU_CNT HBU_CNT.PWDROP k else s).hbEnd q .decerr) s1

/-- The link of a port has trained (R333, R335): the widest width, the rate and the mode that its partner supports, which are free.
64 GT/s is flit mode. -/
def State.linkTrained (s : State) (k j : Nat) : State :=
  let (w, s1) := s.drawNat
  let (r, s2) := s1.drawNat
  let (f, s3) := s2.drawBit
  let most := if s.attachedHb k || s.fb .BOOT_STATUS BOOT_STATUS.RECOVERY then 16 else bifWidth (s.fd .HBU_CTL HBU_CTL.BIF k) j
  let rate := r % 6 + 1
  { s3 with hb := { s3.hb with links := s3.hb.links.set (4 * k + j) ⟨rate, most / 2 ^ (w % 5) + b2n (most / 2 ^ (w % 5) == 0), rate == 6 || f⟩ } }

/-- HB_LINK_UP (R340, R355, R364): a port that is present, powered and out of PERST reaches DL_Active; in recovery HB0 alone. -/
def execHbLinkUp (ctl : Fin 8) (port : Fin 4) (s : State) : Out :=
  let k := ctl.val
  let j := port.val
  let v := s.hb.slots.getD (4 * k + j) HpSlot.reset
  let rec_ := s.fb .BOOT_STATUS BOOT_STATUS.RECOVERY
  if s.alive && !s.gateClosed (244 + k) && !s.hbLink k j && (if rec_ then k == 0 && j == 0
      else (s.attachedHb k && j == 0 && s.hbPresent k) || (s.rpExists k j && v.pwren && v.perst)) then
    .next ((s.linkTrained k j).setLinkBit k j true)
  else .next s

/-! Hot-plug slots (R361-R364). -/

def State.hps (s : State) (p : Nat) : HpSlot := s.hb.slots.getD p HpSlot.reset
def State.setHps (s : State) (p : Nat) (v : HpSlot) : State := { s with hb := { s.hb with slots := s.hb.slots.set p v } }

/-- A root port marked by HPSLOT (R361). -/
def State.hpCapable (s : State) (p : Nat) : Bool :=
  s.rpExists (p / 4) (p % 4) && (s.fd .HBU_CTL HBU_CTL.HPSLOT (p / 4)).testBit (p % 4)

/-- The output bits of a slot (R362, R363); `blink` is the phase of a blinking indicator. -/
def HpSlot.outBits (v : HpSlot) (blink : Bool) : BitVec 8 :=
  BitVec.ofNat 8 (8 * b2n v.pwren + 16 * b2n (v.attnLed == 1 || (v.attnLed == 2 && blink)) +
    32 * b2n (v.pwrLed == 1 || (v.pwrLed == 2 && blink)) + 64 * b2n v.perst)

/-- A frame goes out for a slot: its outputs are sent; a slot that was told to lose power after PERST_N loses it for the
next frames (R364). -/
def HpSlot.frame (v : HpSlot) (blink : Bool) : HpSlot :=
  let w := { v with sent := v.outBits blink, cmdSent := v.cmdPending }
  if v.dropDue && !v.sent.getLsbD 6 then { w with pwren := false, dropDue := false } else w

/-- HPS_FRAME (R362): inputs and outputs of every slot; the phase of the 1.5 Hz blink is time's, and free. -/
def execHpsFrame (ins : BitVec 256) (s : State) : Out :=
  if !s.alive then .next s
  else
    let (b, s1) := s.drawBit
    .next { s1 with hb := { s1.hb with hpIn := ins, slots := s1.hb.slots.map (fun _ v => v.frame b) } }

/-- PRESENCE_CHANGE (R363): the input has been stable for 20 ms at a level that differs from the slot's. -/
def execPresenceChange (p : Fin 32) (present : Bool) (s : State) : Out :=
  let n := p.val
  let v := s.hps n
  if s.alive && s.hpCapable n && s.hb.hpIn.getLsbD (8 * n) == !present && v.present != present then
    let s1 := s.setHps n { v with present := present }
    .next ((s1.rpBit (n / 4) (n % 4) 0x68 ssPDS present).rpBit (n / 4) (n % 4) 0x68 ssPDC true)
  else .next s

/-- ATTENTION_BUTTON (R363): a stable press. -/
def execAttentionButton (p : Fin 32) (s : State) : Out :=
  let n := p.val
  if s.alive && s.hpCapable n && !s.hb.hpIn.getLsbD (8 * n + 1) then
    .next ((s.setHps n { s.hps n with button := true }).rpBit (n / 4) (n % 4) 0x68 ssABP true)
  else .next s

/-- POWER_FAULT (R363): Power Fault Detected sets, PERST_N is asserted and PWREN drops in the next frame; the link is
lost. -/
def execPowerFault (p : Fin 32) (s : State) : Out :=
  let n := p.val
  if s.alive && s.hpCapable n && !s.hb.hpIn.getLsbD (8 * n + 2) then
    let s1 := s.setHps n { s.hps n with fault := true, pwren := false, perst := false, perstDue := false, dropDue := false }
    .next ((s1.rpBit (n / 4) (n % 4) 0x68 ssPFD true).linkLost (n / 4) (n % 4))
  else .next s

/-- Power Controller Control is written (R364). -/
def State.slotPower (s : State) (n : Nat) (off : Bool) : State :=
  let v := s.hps n
  if off then
    (s.setHps n { v with perst := false, perstDue := false, dropDue := v.pwren, cmdPending := true, cmdSent := false }).linkLost (n / 4) (n % 4)
  else s.setHps n { v with pwren := true, perstDue := !v.perst, dropDue := false, cmdPending := true, cmdSent := false }

/-- POWER_CONTROLLER_CONTROL (R364). -/
def execPowerControllerControl (p : Fin 32) (turnOff : Bool) (s : State) : Out :=
  let n := p.val
  if s.alive && s.hpCapable n then
    .next ((s.rpBit (n / 4) (n % 4) 0x68 10 turnOff).slotPower n turnOff)
  else .next s

/-- Replace a field of a root port's dword. -/
def State.rpField (s : State) (k j reg lo len v : Nat) : State :=
  (List.range len).foldl (fun s b => s.rpBit k j reg (lo + b) (v.testBit b)) s

/-- INDICATOR_CONTROL (R363): 01 on, 10 blink, 11 off drive the LED; 00 is reserved in the standard and drives nothing. -/
def execIndicatorControl (p : Fin 32) (power : Bool) (v : BitVec 2) (s : State) : Out :=
  let n := p.val
  if s.alive && s.hpCapable n then
    let h := s.hps n
    let led := if v = 0 then (if power then h.pwrLed else h.attnLed) else v.toNat
    let s1 := s.rpField (n / 4) (n % 4) 0x68 (if power then 8 else 6) 2 v.toNat
    let h1 := { h with cmdPending := true, cmdSent := false }
    .next (s1.setHps n (if power then { h1 with pwrLed := led } else { h1 with attnLed := led }))
  else .next s

/-- COMMAND_COMPLETED (R363): the frame that carries a Slot Control change has been sent. -/
def execCommandCompleted (p : Fin 32) (s : State) : Out :=
  let n := p.val
  let v := s.hps n
  if s.alive && v.cmdPending && v.cmdSent then
    .next ((s.setHps n { v with cmdPending := false, cmdSent := false }).rpBit (n / 4) (n % 4) 0x68 ssCC true)
  else .next s

/-- PERST_RELEASE (R362, R364): 100 ms after power-on. -/
def execPerstRelease (p : Fin 32) (s : State) : Out :=
  let v := s.hps p.val
  if s.alive && v.perstDue && v.pwren then .next (s.setHps p.val { v with perst := true, perstDue := false }) else .next s

/-! Writes to a root port's configuration space (R336, R343). -/

/-- The bits of a root port's dword that software writes, and those it clears by writing 1: the header, Slot Control and Status,
Root Control, ARI Forwarding Enable, ACS Control, AER status. None for a dword whose write the chapter does not describe. -/
def rpWritable (reg : Nat) : Option CfgRw :=
  match reg with
  | 0x00 => some ⟨0, 0⟩
  | 0x04 => some ⟨0x0546, 0xF9000000⟩
  | 0x08 => some ⟨0, 0⟩
  | 0x0C => some ⟨0xFF, 0⟩
  | 0x10 => some ⟨0, 0⟩
  | 0x14 => some ⟨0, 0⟩
  | 0x18 => some ⟨0x00FFFFFF, 0⟩
  | 0x1C => some ⟨0, 0xF9000000⟩
  | 0x20 => some ⟨0xFFF0FFF0, 0⟩
  | 0x24 => some ⟨0xFFF0FFF0, 0⟩
  | 0x28 => some ⟨0xFFFFFFFF, 0⟩
  | 0x2C => some ⟨0xFFFFFFFF, 0⟩
  | 0x34 => some ⟨0, 0⟩
  | 0x3C => some ⟨0x004300FF, 0⟩
  | 0x40 => some ⟨0, 0⟩
  | 0x50 => some ⟨0, 0⟩
  | 0x64 => some ⟨0, 0⟩
  | 0x68 => some ⟨0x17FF, 0x011B0000⟩
  | 0x6C => some ⟨0x1F, 0⟩
  | 0x78 => some ⟨0x20, 0⟩
  | 0x104 => some ⟨0, 0xFFFFFFFF⟩
  | 0x110 => some ⟨0, 0xFFFFFFFF⟩
  | 0x144 => some ⟨0x001F0000, 0⟩
  | _ => none

/-- Slot Control was written: power and indicators follow it (R363, R364). -/
def State.slotCtlWritten (s : State) (n : Nat) (old new : Nat) : State :=
  if !s.hpCapable n then s
  else
    let a := new / 64 % 4
    let w := new / 256 % 4
    let h := s.hps n
    let s1 := s.setHps n { h with attnLed := if a = 0 then h.attnLed else a, pwrLed := if w = 0 then h.pwrLed else w,
                                  cmdPending := true, cmdSent := false }
    if old.testBit 10 = new.testBit 10 then s1 else s1.slotPower n (new.testBit 10)

/-- A write of a root port's dword; a dword the standard governs and the chapter does not takes a free value. -/
def State.rpWrite (s : State) (k j reg : Nat) (v : BitVec 32) : State :=
  let a := rpBase k j + reg
  match rpWritable reg with
  | some m =>
    let old := s.cfgD a
    let new := m.apply old v
    let s1 := s.setCfgD a new
    if reg = 0x68 then s1.slotCtlWritten (4 * k + j) old.toNat new.toNat else s1
  | none =>
    let (w, s1) := s.drawWord
    s1.setCfgD a ((fixedAt rpFixed reg).on (BitVec.setWidth 32 w))

/-! ATS invalidation (R365). -/

/-- The root port of a controller that forwards a bus (R336). -/
def State.fwdPort (s : State) (k bus : Nat) : Option Nat :=
  (List.range 4).find? (fun j =>
    let b := s.rpD k j 0x18
    s.rpExists k j && b / 256 % 256 != 0 && decide (b / 256 % 256 ≤ bus) && decide (bus ≤ b / 65536 % 256))

/-- HBU_ATSCMD is written: with GO an Invalidate Request goes out; while BUSY the write is ignored and sets WERR. -/
def State.atsWrite (s : State) (k : Nat) (w : Word) : State :=
  if s.fb .HBU_ATSSTAT HBU_ATSSTAT.BUSY k then s.setFd .HBU_STATUS HBU_STATUS.WERR 1 k
  else
    let c := setF (setF (setF 0 HBU_ATSCMD.RID (getF w HBU_ATSCMD.RID)) HBU_ATSCMD.PASID (getF w HBU_ATSCMD.PASID))
      HBU_ATSCMD.PV (getF w HBU_ATSCMD.PV)
    let s1 := s.setRg c .HBU_ATSCMD k
    if getF w HBU_ATSCMD.GO = 1 then
      let s2 := s1.setFd .HBU_ATSSTAT HBU_ATSSTAT.BUSY 1 k
      let port := (s2.fwdPort k (getF w HBU_ATSCMD.RID / 256)).getD 0
      s2.hbTlp ⟨k, port, hbNode k, 0, (s2.rg .HBU_ATSADDR k).toNat, 8, false, true, BitVec.setWidth 1024 c, 0, 0, 0, 0, none, false, 0⟩
    else s1

/-- ATS_INVALIDATE (R365). -/
def execAtsInvalidate (ctl : Fin 8) (data : Word) (s : State) : Out :=
  if s.alive then .next (s.atsWrite ctl.val data) else .next s

/-- INVALIDATE_COMPLETION (R365): the last completion arrives. -/
def execInvalidateCompletion (ctl : Fin 8) (s : State) : Out :=
  if !s.dead && !s.gateClosed (244 + ctl.val) && s.fb .HBU_ATSSTAT HBU_ATSSTAT.BUSY ctl.val then
    .next ((s.setFd .HBU_ATSSTAT HBU_ATSSTAT.BUSY 0 ctl.val).setFd .HBU_ATSSTAT HBU_ATSSTAT.DONE 1 ctl.val)
  else .next s

/-- ATS_TIMEOUT (R365): 60 s have passed. -/
def execAtsTimeout (ctl : Fin 8) (s : State) : Out :=
  if !s.dead && s.fb .HBU_ATSSTAT HBU_ATSSTAT.BUSY ctl.val then
    .next ((s.setFd .HBU_ATSSTAT HBU_ATSSTAT.BUSY 0 ctl.val).setFd .HBU_ATSSTAT HBU_ATSSTAT.TOUT 1 ctl.val)
  else .next s

/-! Boot and power. -/

/-- Stage 7 of boot (19 R477, R485; R332, R361, R362): HBU_CTL, the slot capabilities and the slots that are not hot-plug
capable, from the BOARD record. -/
def State.bootHb (board : Nat → Byte) (s : State) (k : Nat) : State :=
  let b := (board (4 + k)).toNat
  let pers := board 0 = 1
  let own := if k < 5 then true else (board 2).getLsbD (k - 5)
  let w := setF (setF (setF (setF (setF 0 HBU_CTL.EN (b2n own)) HBU_CTL.EP (b2n (k == 0 && pers)))
    HBU_CTL.BIF (b % 8)) HBU_CTL.OWN (if own then 3 else 0)) HBU_CTL.HPSLOT (b / 16)
  let s1 := s.setRg w .HBU_CTL k
  let keys := [HBU_CTL.EN, HBU_CTL.EP, HBU_CTL.BIF, HBU_CTL.OWN, HBU_CTL.HPSLOT].map (fun f => RRef.key ⟨.HBU_CTL, k, 0, 0⟩ f)
  let s2 := { s1 with rwo := keys ++ s1.rwo }
  (List.range 4).foldl (fun s j =>
    let p := 4 * k + j
    let psn := (board (12 + 2 * p)).toNat + 256 * (board (13 + 2 * p)).toNat
    if s.hpCapable p then s.setCfgD (rpBase k j + 0x64) (BitVec.ofNat 32 (0x5B + psn * 2 ^ 19))
    else if s.rpExists k j then s.setHps p { HpSlot.reset with pwren := true, perstDue := true }
    else s) s2

/-- Every controller. -/
def State.bootHbu (s : State) (board : Nat → Byte) : State :=
  let s1 := (List.range 8).foldl (State.bootHb board) { s with boot := { s.boot with attached := board 0 == 1 } }
  let ssid := board 79 ++ board 78 ++ board 77 ++ board 76
  State.pfDefaults { s1 with hb := { s1.hb with ssid := ssid } }

/-- An HB domain enters OFF: its links go down (18 R462). -/
def State.hbDomainOff (s : State) (k : Nat) : State := (List.range 4).foldl (fun s j => s.linkLost k j) s

/-- An inbound request of controller k is in progress: a peer-to-peer request waits for its completion. Every other inbound
request is one step, so none is in progress between steps. -/
def State.hbInbound (s : State) (k : Nat) : Bool := s.hb.out.any (fun q => q.node == hbNode k)

/-- A controller is idle for its Q fields (HBU_STATUS.WERR): no inbound request is in progress and Bus Master Enable is 0
everywhere. -/
def State.hbQuiet (s : State) (k : Nat) : Bool :=
  !s.hbInbound k && if s.attachedHb k then s.hb.funcs.l.all (fun e => !e.2.bme)
  else (List.range 4).all (fun j => !(s.rpExists k j && s.rpBme k j))

end Sys2Proof.Machine
end

