-- ==== Sys2Proof/Machine/World.lean ====
section
/-! DEFINITION. Worlds (17): hand-over of resources, the interrupt router with its sources, offers and ends. -/
namespace Sys2Proof.Machine

/-- The owner state of a resource (R451). -/
def State.ownerOf (s : State) (cls idx : Nat) : Owner := s.owners.getD (cls * 4096 + idx) .n

/-- Set an owner state. -/
def State.setOwner (s : State) (cls idx : Nat) (o : Owner) : State :=
  { s with owners := s.owners.set (cls * 4096 + idx) o }

/-- Whether an index lies in its class (R451, 14 R368, 18 R467). -/
def resourceOk (cls idx : Nat) : Bool :=
  match cls with
  | 0 => idx < 208
  | 1 => idx < 4096
  | 2 => idx < 1024
  | _ => 228 ≤ idx && idx ≤ 260

/-- STATE of WLD_HSTAT. -/
def Owner.code : Owner → Nat
  | .n => 0
  | .s => 1
  | .resetting => 2
  | .free => 3

/-- Write WLD_HSTAT (R452). -/
def State.hstat (s : State) (status cls idx : Nat) : State :=
  let st := if resourceOk cls idx then (s.ownerOf cls idx).code else 0
  s.setRg (setF (setF 0 WLD_HSTAT.STATUS status) WLD_HSTAT.STATE st) .WLD_HSTAT

/-- A DMA channel that a slice holds (R452). -/
def State.resourceHeld (s : State) (cls idx : Nat) : Bool :=
  cls == 0 && s.fd .DMA_CFG DMA_CFG.SLICE idx != 0xFF

/-- QUERY (R452). -/
def State.handQuery (s : State) (cls idx : Nat) : State :=
  s.hstat (if resourceOk cls idx then 0 else 5) cls idx

/-- RELEASE (R451, R452). -/
def State.handRelease (s : State) (i : Init) (cls idx : Nat) : State :=
  if !resourceOk cls idx then s.hstat 5 cls idx
  else
    match s.ownerOf cls idx with
    | .resetting => s.hstat 2 cls idx
    | .free => s.hstat 4 cls idx
    | o =>
      if s.resourceHeld cls idx then s.hstat 3 cls idx
      else if o = .s ∧ !i.sec then (s.violate i.node 6 (RegKind.WLD_HCMD.addr)).hstat 1 cls idx
      else
        let s1 := s.setOwner cls idx .resetting
        (if cls = 0 then s1.dmaBeginReset idx else s1).hstat 0 cls idx

/-- Write a resource's world field at a claim (R451). -/
def State.setWorld (s : State) (cls idx : Nat) (sec : Bool) : State :=
  match cls with
  | 0 => s.setFd .DMA_CFG DMA_CFG.SEC (b2n sec) idx
  | 1 => if srcAssigned idx then s.setFd .IRT_SRC IRT_SRC.SEC (b2n sec) 0 idx else s
  | 2 => s.setFd .PWR_VOTE PWR_VOTE.SEC (b2n sec) 0 idx
  | _ => s

/-- CLAIM (R451, R452). -/
def State.handClaim (s : State) (i : Init) (cls idx : Nat) (secure : Bool) : State :=
  if !resourceOk cls idx then s.hstat 5 cls idx
  else
    match s.ownerOf cls idx with
    | .resetting => s.hstat 2 cls idx
    | .free =>
      if s.resourceHeld cls idx then s.hstat 3 cls idx
      else
        let w := secure && i.sec
        ((s.setOwner cls idx (if w then .s else .n)).setWorld cls idx w).hstat 0 cls idx
    | _ => s.hstat 4 cls idx

/-- The write of WLD_HCMD (R452): OP 3 is ignored. -/
def State.handCommand (s : State) (i : Init) (op cls idx : Nat) (w : Bool) : State :=
  match op with
  | 0 => s.handQuery cls idx
  | 1 => s.handRelease i cls idx
  | 2 => s.handClaim i cls idx w
  | _ => s

/-- QUERY (R452). -/
def execWldQuery (_i : Init) (cls : BitVec 2) (idx : BitVec 12) (s : State) : Out :=
  if s.alive then .next (s.handQuery cls.toNat idx.toNat) else .next s

/-- HANDOVER_RELEASE (R452). -/
def execHandoverRelease (i : Init) (cls : BitVec 2) (idx : BitVec 12) (s : State) : Out :=
  if s.alive then .next (s.handRelease i cls.toNat idx.toNat) else .next s

/-- CLAIM (R452). -/
def execWldClaim (i : Init) (cls : BitVec 2) (idx : BitVec 12) (secure : Bool) (s : State) : Out :=
  if s.alive then .next (s.handClaim i cls.toNat idx.toNat secure) else .next s

/-- HANDOVER_RESET_DONE (R451): the resource's reset is done and it is FREE. A DMA channel is free when its own reset has
ended (12 R328). -/
def State.handResetDone (s : State) (cls idx : Nat) : State :=
  if s.ownerOf cls idx ≠ .resetting then s
  else
    match cls with
    | 0 => if s.dmaInReset idx then s else s.setOwner 0 idx .free
    | 1 =>
      let s1 := s.setSrc idx Src.reset
      ({ s1 with regs := s1.regs.erase (RegKind.IRT_SRC.addr 0 idx) }).setOwner 1 idx .free
    | 2 => ({ s with regs := s.regs.erase (RegKind.PWR_VOTE.addr 0 idx) }).setOwner 2 idx .free
    | _ => (s.setFd .PWR_GATE PWR_GATE.OFF 0 0 idx).setOwner 3 idx .free

/-- HANDOVER_RESET_DONE (R451). -/
def execHandoverResetDone (cls : BitVec 2) (idx : BitVec 12) (s : State) : Out :=
  if s.alive then .next (s.handResetDone cls.toNat idx.toNat) else .next s

/-! The interrupt router (R455-R460). -/

/-- A normal-world access to a secure source's record (R455). -/
def State.srcForeign (s : State) (i : Init) (n : Nat) : Bool := !i.sec && s.fb .IRT_SRC IRT_SRC.SEC 0 n

/-- TRIG (R455): an edge source becomes pending. -/
def State.irtTrig (s : State) (i : Init) (n : Nat) : State :=
  if s.srcForeign i n then s.violate i.node 5 (RegKind.IRT_SRC.addr 0 n) else s.raiseSrc n

/-- CLRP (R455): PEND of an edge source is cleared. -/
def State.irtClrp (s : State) (i : Init) (n : Nat) : State :=
  if s.srcForeign i n then s.violate i.node 5 (RegKind.IRT_SRC.addr 0 n)
  else if srcEdge n then s.setSrc n { s.src n with pend := false } else s

/-- TRIG (R455). -/
def execIrtTrig (i : Init) (n : Fin 4096) (s : State) : Out := if s.alive then .next (s.irtTrig i n) else .next s
/-- CLRP (R455). -/
def execIrtClrp (i : Init) (n : Fin 4096) (s : State) : Out := if s.alive then .next (s.irtClrp i n) else .next s
/-- SOURCE_EVENT (R455): an event makes an edge source pending; a level source follows its condition. -/
def execSourceEvent (n : Fin 4096) (s : State) : Out := if s.alive then .next (s.raiseSrc n) else .next s

/-- Any register of a kind, as listed, whose word satisfies `p` (unlisted registers hold their reset value, which does
not). -/
def State.anyBank (_s : State) (hub : Bool) (p : Nat → Nat → Bool) : Bool :=
  if hub then (List.range 62).any (fun b => p 12 b)
  else (List.range 12).any (fun d => (List.range 22).any (fun b => p d b))

/-- A bank's record is valid with a class and an enable (20 R503). -/
def State.bankRaises (s : State) (cons : Bool) (x b : Nat) : Bool :=
  let w := s.rg .ERB_REC x b
  getF w ERB_REC.VALID == 1 &&
    (if cons then (getF w ERB_REC.CLASS == 1 || getF w ERB_REC.CLASS == 2) && s.fb .ERB_CTL ERB_CTL.UCIE x b
     else getF w ERB_REC.CLASS == 0 && s.fb .ERB_CTL ERB_CTL.CEIE x b)

/-- Numbers of the overflow flags and of the event selects (03 R101). -/
abbrev cPMOVF : Nat := 0x063
abbrev cPMSEL : Nat := 0x070

/-- Level condition of the sources 0x300 and up (R455). -/
def State.srcLevelHi (s : State) (n : Nat) : Bool :=
  if n < 0x320 then s.fb .PRL_SLOT_STAT PRL_SLOT_STAT.CEV 0 (n - 0x300) && s.fb .PRL_SLOT_CTL PRL_SLOT_CTL.CIE 0 (n - 0x300)
  else if n < 0x340 then s.fb .PRL_SLOT_STAT PRL_SLOT_STAT.LEV 0 (n - 0x320) && s.fb .PRL_SLOT_CTL PRL_SLOT_CTL.LIE 0 (n - 0x320)
  else if n = 0x340 then s.fb .PRL_STATUS PRL_STATUS.LOVR && s.fb .PRL_CTL PRL_CTL.OIRQ
  else if n < 0x370 then s.rootPortEvent ((n - 0x350) / 4) ((n - 0x350) % 4)
  else if n < 0x378 then s.fb .HBU_STATUS HBU_STATUS.ERREV (n - 0x370)
  else if n = 0x380 then s.fb .VSF_CMDSTAT VSF_CMDSTAT.DONE && s.fb .VSF_CTL VSF_CTL.CIE
  else if n = 0x381 then s.fb .VSF_SPLOG VSF_SPLOG.VALID && s.fb .VSF_CTL VSF_CTL.SPIE
  else if n = 0x390 then s.fb .FAB_ERR FAB_ERR.VALID
  else if n = 0x391 then s.fb .FAB_STATUS FAB_STATUS.LINKEV
  else if n = 0x392 then s.fb .FAB_STATUS FAB_STATUS.DUPPKG || s.fb .FAB_STATUS FAB_STATUS.IDFAIL
  else if n = 0x398 then s.fb .PAIR_STATUS PAIR_STATUS.FOEV && s.fb .PAIR_CTL PAIR_CTL.FOIE
  else if n = 0x399 then s.fb .PAIR_STATUS PAIR_STATUS.MOVR && s.fb .PAIR_CTL PAIR_CTL.MOIE
  else if n = 0x39A then s.fb .PAIR_STATUS PAIR_STATUS.LINKEV
  else if n < 0x3A5 then
    bitAt (s.rg .PWR_STATUS) (2 + (n - 0x3A0)) && bitAt (s.rg .PWR_CTL) (n - 0x3A0)
  else if n < 0x4F0 then s.rg .VSF_HDBPEND 0 (n - 0x400) != 0
  else if n < 0x600 then s.fb .FAB_CSTAT FAB_CSTAT.CEV 0 (n - 0x500) && s.fb .FAB_CCTL FAB_CCTL.CIE 0 (n - 0x500)
  else false

/-- The condition of a level source (R455, 20 R503, 03 R101). -/
def State.srcLevel (s : State) (n : Nat) : Bool :=
  if !srcAssigned n || srcEdge n then false
  else if n < 0xD8 then
    (List.range 6).any (fun k => bitAt ((s.core n).cr cPMOVF) k && bitAt ((s.core n).cr (cPMSEL + k)) 12)
  else if n = 0xF0 then s.anyBank true (s.bankRaises false)
  else if n = 0xF1 then s.anyBank true (s.bankRaises true)
  else if n = 0xF2 then s.anyBank false (s.bankRaises false)
  else if n = 0xF3 then s.anyBank false (s.bankRaises true)
  else if n = 0xF4 then
    s.anyBank true (fun x b => s.fb .ERB_CTL ERB_CTL.THEV x b) || s.anyBank false (fun x b => s.fb .ERB_CTL ERB_CTL.THEV x b)
  else if n = 0xF5 then s.err.dropRise
  else if n < 0x100 then false
  else if n < 0x1D0 then s.fb .DMA_STATUS DMA_STATUS.DONEEV (n - 0x100) && s.fb .DMA_CTL DMA_CTL.IE (n - 0x100)
  else if n < 0x2D0 then
    (s.fb .DMA_STATUS DMA_STATUS.ERREV (n - 0x200) || s.fb .DMA_STATUS DMA_STATUS.ROVR (n - 0x200)) &&
      s.fb .DMA_CTL DMA_CTL.EIE (n - 0x200)
  else s.srcLevelHi n

/-- PEND of a source (R455). -/
def State.srcPending (s : State) (n : Nat) : Bool :=
  if srcEdge n then (s.src n).pend else s.srcLevel n

/-- The sources whose record is listed: a source that nothing has written has EN = 0. -/
def State.listedSrcs (s : State) : List Nat :=
  s.regs.l.filterMap (fun e => if 0x1C10000 ≤ e.1 ∧ e.1 < 0x1C18000 then some ((e.1 - 0x1C10000) / 8) else none)

/-- The running priority of a world at a core (R456). -/
def State.runningPrio (s : State) (core : Nat) (sec : Bool) : Nat :=
  s.srcs.l.foldl (fun m e =>
    if e.2.active = some core ∧ s.fb .IRT_SRC IRT_SRC.SEC 0 e.1 = sec then max m (s.fd .IRT_SRC IRT_SRC.PRIO 0 e.1)
    else m) 0

/-- Whether a core can take part in a group's choice (R458). -/
def State.groupFit (s : State) (n : Nat) (sec : Bool) (core : Nat) : Bool :=
  let c := s.core core
  (c.run == .run || c.run == .wfi) && s.runningPrio core sec < s.fd .IRT_SRC IRT_SRC.PRIO 0 n

/-- The member of a group that a source is offered to: round-robin from the last chosen (R458). -/
def State.groupChoice (s : State) (n : Nat) : Option Nat :=
  let g := s.fd .IRT_SRC IRT_SRC.TARGET 0 n % 8
  let sec := s.fb .IRT_SRC IRT_SRC.SEC 0 n
  let last := s.grpLast.getD g 215
  ((List.range 216).map (fun k => (last + 1 + k) % 216)).find? (fun c =>
    bitAt (s.rg .IRT_GRP 0 g (c / 64)) (c % 64) && s.groupFit n sec c)

/-- Whether a source is routed to a core. -/
def State.routedTo (s : State) (n core : Nat) : Bool :=
  if s.fb .IRT_SRC IRT_SRC.GRP 0 n then s.groupChoice n == some core else s.fd .IRT_SRC IRT_SRC.TARGET 0 n == core

/-- Whether a source can be offered to a core at all (R456). -/
def State.eligible (s : State) (core : Nat) (sec : Bool) (n : Nat) : Bool :=
  s.fb .IRT_SRC IRT_SRC.EN 0 n && s.fb .IRT_SRC IRT_SRC.SEC 0 n == sec && (s.src n).active.isNone &&
    s.srcPending n && s.runningPrio core sec < s.fd .IRT_SRC IRT_SRC.PRIO 0 n && s.routedTo n core

/-- The source the IRT offers to a core in a world (R456): highest PRIO, lowest number among equals. -/
def State.bestSrc (s : State) (core : Nat) (sec : Bool) : Option Nat :=
  s.listedSrcs.foldl (fun b n =>
    if s.eligible core sec n then
      match b with
      | none => some n
      | some m => if s.fd .IRT_SRC IRT_SRC.PRIO 0 m < s.fd .IRT_SRC IRT_SRC.PRIO 0 n then some n else some m
    else b) none

/-- Remember the member a group source chose (R458). -/
def State.noteGroup (s : State) (o : Option Nat) (core : Nat) : State :=
  match o with
  | some n =>
    if s.fb .IRT_SRC IRT_SRC.GRP 0 n then
      { s with grpLast := s.grpLast.set (s.fd .IRT_SRC IRT_SRC.TARGET 0 n % 8) core }
    else s
  | none => s

/-- A source ends at a core (R457). -/
def State.irtEoi (s : State) (core n : Nat) (sec : Bool) : State :=
  if (s.src n).active = some core ∧ s.fb .IRT_SRC IRT_SRC.SEC 0 n = sec then s.setSrc n { s.src n with active := none } else s

/-- A core whose fence enters RESET loses its active sources (R457). -/
def State.irtCoreReset (s : State) (core : Nat) : State :=
  { s with srcs := s.srcs.map (fun _ x => if x.active = some core then { x with active := none } else x) }

/-- A message of a device (R459): the source its data names, else it is dropped and counted. -/
def State.irtMsi (s : State) (n : Nat) : State :=
  if 0x800 ≤ n ∧ n < 0x1000 ∧ !s.fb .IRT_SRC IRT_SRC.SEC 0 n then s.raiseSrc n
  else s.satFd .IRT_STATUS IRT_STATUS.BADMSI

/-- A core acknowledges an offer: the source becomes ACTIVE, PEND of an edge source clears (R456). -/
def State.irtAck (s : State) (core n : Nat) : State :=
  s.setSrc n { pend := if srcEdge n then false else (s.src n).pend, active := some core }

end Sys2Proof.Machine
end

