-- ==== Sys2Proof/Machine/PwrBase.lean ====
section
/-! DEFINITION. Power domains (18): votes, targets, fences and the start of an exit. -/
namespace Sys2Proof.Machine

/-- The state of a domain (R466): 0 RUN, 1 IDLE, 2 SLEEP, 3 DEEP, 4 OFF. -/
def State.domState (s : State) (d : Nat) : Nat := s.fd .PWR_DOM PWR_DOM.STATE 0 d
/-- Set the state of a domain. -/
def State.setDom (s : State) (d v : Nat) : State := s.setFd .PWR_DOM PWR_DOM.STATE v 0 d

/-- The valid vote slots (R466): slot number and word. -/
def State.votes (s : State) : List (Nat × Word) :=
  (s.regs.l.filterMap (fun e =>
    if 0x1E08000 ≤ e.1 ∧ e.1 < 0x1E0A000 then some ((e.1 - 0x1E08000) / 8, e.2) else none)).filter
    (fun e => getF e.2 PWR_VOTE.V == 1)

/-- The level a slot allows: values 4-7 act as 3. -/
def voteLvl (w : Word) : Nat := min 3 (getF w PWR_VOTE.LVL)

/-- The floor of a domain as it acts (R462): a floor deeper than the domain allows acts as the deepest it allows. -/
def State.domFloor (s : State) (d : Nat) : Nat :=
  let f := min 4 (s.fd .PWR_DOM PWR_DOM.FLOOR 0 d)
  if d < 216 then f
  else if d < 228 then
    let cores := (List.range 18).map (fun c => 18 * (d - 216) + c)
    if f < 2 then f else if cores.all (fun n => 2 ≤ s.domState n) then 2 else 1
  else if d < 244 then min f 2
  else if d < 261 then (if f = 4 then 4 else 0)
  else 0

/-- Whether a packet under way is addressed to a domain (R465): requests, snoops, and the replies that a CDA's row takes;
every other reply is at its initiator in the step that sends it. -/
def msgFor (d : Nat) (m : Msg) : Bool :=
  if !(m.cls == 0 || m.cls == 1 || m.dst % 256 == 0x20) then false
  else if d < 216 then m.dst == coreNode d
  else if d < 228 then m.dst / 256 == d - 216 && 0x20 ≤ m.dst % 256
  else if d < 244 then m.dst == memNode (d - 228)
  else if d < 252 then m.dst == hbNode (d - 244)
  else if d < 260 then m.dst == 0xF48 + (d - 252)
  else if d = 260 then m.dst == hubNode 1
  else false

/-- TPEND of a domain's blocks. -/
def State.domTpend (s : State) (d : Nat) : Bool :=
  if d < 216 then false
  else if d < 228 then s.tpend .dnoc (d - 216) || (List.range 16).any (fun c => s.tpend .dma (16 * (d - 216) + c))
  else if d < 244 then s.tpend .mem (d - 228)
  else if d < 252 then s.tpend .hbu (d - 244)
  else if d < 260 then s.tpend .fabm (d - 252)
  else if d = 260 then s.tpend .pair
  else false

/-- The traffic vote (R465). -/
def State.traffic (s : State) (d : Nat) : Bool := s.net.msgs.any (msgFor d) || s.domTpend d

/-- The votes for RUN of a core domain (R463): released and neither in WFI nor HELD; a wake vote; the slice manager's. -/
def State.coreRunVote (s : State) (n : Nat) : Bool :=
  let c := s.core n
  (c.release && c.run != .wfi && c.run != .held) || s.pwr.wakes.contains n || s.vsf.votes.contains n

/-- The target of a domain (R463). -/
def State.domTarget (s : State) (d : Nat) : Nat :=
  let v := s.votes.foldl (fun m e => if getF e.2 PWR_VOTE.DOM = d then min m (voteLvl e.2) else m) (s.domFloor d)
  if s.traffic d || (d < 216 && s.coreRunVote d) then 0 else v

/-- The fenced node of a domain that has one (R465). -/
def domNode (d : Nat) : Option Nat :=
  if d < 216 then some (coreNode d)
  else if 244 ≤ d ∧ d < 252 then some (hbNode (d - 244))
  else if 252 ≤ d ∧ d < 260 then some (0xF48 + (d - 252))
  else if d = 260 then some (hubNode 1)
  else none

/-- Set the fence of a domain's node (09 R252): 0 OPEN, 1 CLOSING, 2 RESET, 3 OFF. -/
def State.domFence (s : State) (d f : Nat) : State :=
  match domNode d with
  | some n => s.setFence n f
  | none => s

/-- Set or clear a transition. -/
def State.setTrans (s : State) (d : Nat) (t : Option Trans) : State :=
  { s with pwr := { s.pwr with trans := match t with | some x => s.pwr.trans.set d x | none => s.pwr.trans.erase d } }

/-- A domain whose target has become shallower (R464, R465): its exit starts at once; a transition whose fence is not yet
OFF is abandoned; one that is later ends first. -/
def State.pwrWake (s : State) (d : Nat) : State :=
  match s.pwr.trans.get? d with
  | none => if s.domTarget d < s.domState d then s.setTrans d (some ⟨s.domTarget d, 4⟩) else s
  | some t =>
    if (t.step = 1 ∨ t.step = 2) ∧ s.domTarget d < 3 then
      let s1 := (s.setTrans d none).domFence d 0
      if d < 216 then s1.modCore d (fun c => { c with cleaning := false }) else s1
    else s

/-- Traffic for a domain that is not at RUN starts its exit (R463, R464). -/
def State.wakeTraffic (s : State) : State :=
  (List.range 261).foldl (fun s d => if s.domState d != 0 && s.traffic d then s.pwrWake d else s) s

/-- Whether a transaction that a domain initiated is under way. -/
def State.domBusy (s : State) (d : Nat) : Bool :=
  match domNode d with
  | some n => !(s.outTags n).isEmpty ||
      (d < 216 && ((s.core d).openW != 0 || (s.core d).openR != 0 || !(s.core d).stq.isEmpty))
  | none => false

end Sys2Proof.Machine
end

