-- ==== Sys2Proof/Machine/CoreBase.lean ====
section
/-! DEFINITION. The core's control: numbers of the C_ registers (03 R61), trap entry and ERET (R64-R67), counters
(R100-R102), which interrupts a core takes (R71, 17 R446, R448) and the boundary between instructions (R70). -/
namespace Sys2Proof.Machine

abbrev cMDELEGN : Nat := 0x040
abbrev cMDELEGS : Nat := 0x041
abbrev cHDELEG : Nat := 0x042
abbrev cMCINFO : Nat := 0x050
abbrev cMCADDR : Nat := 0x051
abbrev cCYCLE : Nat := 0x060
abbrev cINSTRET : Nat := 0x061
abbrev cPMCTL : Nat := 0x062
abbrev cPMC : Nat := 0x068
abbrev cPRCTL : Nat := 0x080
abbrev cTCTL : Nat := 0x0A0
abbrev cTTB : Nat := 0x0A1
abbrev cHTCTL : Nat := 0x0A2
abbrev cHTTB : Nat := 0x0A3
abbrev cS2CTL : Nat := 0x0A4
abbrev cS2TTB : Nat := 0x0A5
abbrev cS2FADDR : Nat := 0x0A6
abbrev cTWSTAT : Nat := 0x0A7
abbrev cNCTL : Nat := 0x0C0
abbrev cNTRAP : Nat := 0x0C3
abbrev cGTB : Nat := 0x0D0
abbrev cSSA : Nat := 0x0D1
abbrev cGSTAT : Nat := 0x0D2
abbrev cIPMASK : Nat := 0x0D3

/-- The key of a register that is held per world (R61). -/
def wk (n : Nat) (sec : Bool) : Nat := if sec then n + 0x1000 else n

/-- The key of register `r` of a trap bank (R61): VBAR 0, EPC 1, ESTAT 2, ECAUSE 3, EADDR 4, EINFO 5, SCRATCH 6. The K
bank is held per world. -/
def bankKey (t : Level) (sec : Bool) (r : Nat) : Nat :=
  match t with
  | .m => 0x030 + r
  | .h => 0x020 + r
  | _ => wk (0x010 + r) sec

/-- Cause codes (R68). -/
abbrev xILLEGAL : Nat := 0x01
abbrev xPRIV : Nat := 0x02
abbrev xSYSCALL : Nat := 0x03
abbrev xHCALL : Nat := 0x04
abbrev xMCALL : Nat := 0x05
abbrev xBRK : Nat := 0x06
abbrev xFETCHALIGN : Nat := 0x07
abbrev xDATAALIGN : Nat := 0x08
abbrev xATOMIC : Nat := 0x09
abbrev xIFAULT : Nat := 0x0A
abbrev xLFAULT : Nat := 0x0B
abbrev xSFAULT : Nat := 0x0C
abbrev xFETCHBUSERR : Nat := 0x0D
abbrev xBUSERR : Nat := 0x0E
abbrev xNUMERIC : Nat := 0x0F
abbrev xGATE : Nat := 0x10
abbrev xWATCH : Nat := 0x11
abbrev xSTEP : Nat := 0x12
abbrev xFETCHMCHECK : Nat := 0x20
abbrev xDATAMCHECK : Nat := 0x21
abbrev xWALKMCHECK : Nat := 0x22

/-- An exception to raise: cause, C_EINFO, C_EADDR, whether C_EPC names the next instruction (R66), whether a stage-2 fault
skips C_HDELEG (08 R227), and for a machine check its KIND and the physical address of the line (R95). -/
structure Exc where
  cause : Nat
  info : Word
  addr : Word
  next : Bool
  toH : Bool
  mc : Option (Nat × Option Nat)
deriving DecidableEq, Repr

/-- An exception with nothing further. -/
def Exc.plain (cause : Nat) (addr : Word) : Exc := ⟨cause, 0, addr, false, false, none⟩

/-- The exceptions of which C_EINFO holds the instruction word (R68). -/
def Exc.insn (cause : Nat) (addr : Word) (w : BitVec 32) (next : Bool) : Exc :=
  ⟨cause, zext w <<< 32, addr, next, false, none⟩

/-- The causes of machine checks. -/
def isMcheck (cause : Nat) : Bool := cause == xFETCHMCHECK || cause == xDATAMCHECK || cause == xWALKMCHECK

/-- Where an exception goes (R64). -/
def Core.trapTarget (c : Core) (e : Exc) : Level :=
  let t : Level :=
    if e.cause = xMCALL ∨ isMcheck e.cause then .m
    else if e.cause = xHCALL then .h
    else if !bitAt (c.cr (if c.sec then cMDELEGS else cMDELEGN)) e.cause then .m
    else if !c.sec && (e.toH || !bitAt (c.cr cHDELEG) e.cause) then .h
    else .k
  if t.below c.lvl then c.lvl else t

/-- The world of a core; M belongs to neither (R63). -/
def Core.world (c : Core) : Option Bool := if c.lvl = .m then none else some c.sec

/-- The entries of a world (06 R181); M's belong to neither. -/
def tagOfWorld (t : PredTag) (sec : Bool) : Bool := t.sec == sec && t.cls != 2

/-- Take the predictor entries of which `p` holds out. -/
def Core.dropPred (c : Core) (p : PredTag → Bool) : Core :=
  { c with itt := ⟨c.itt.l.filter (fun e => !p e.2.tag)⟩, rstack := c.rstack.filter (fun e => !p e.tag) }

/-- A register that governs fetch or translation as it is in force (R60): the value before the writes since the last ISYNC,
trap entry or ERET. -/
def Core.inForce (c : Core) (k : Nat) : Word := (c.creg60.get? k).getD (c.cr k)

/-- CLRW of one world (06 R181), as it is in force there (R182): its entries go at every entry to and exit from it. -/
def Core.clrwOne (old new : Core) (sec : Bool) : Core :=
  if (old.world == some sec) != (new.world == some sec) && bitAt (new.inForce (wk cPRCTL sec)) 3
  then { new.dropPred (fun t => tagOfWorld t sec) with clrBusy := true }
  else new

/-- CLRW of both worlds at a change of level or world. -/
def Core.clrw (old new : Core) : Core := Core.clrwOne old (Core.clrwOne old new false) true

/-- The register word of C_STATUS and the banks' C_ESTAT (R61): LVL, SEC, IE, SS. -/
def statWord (lvl : Level) (sec ie ss : Bool) : Word :=
  BitVec.ofNat 64 (lvl.num + 4 * b2n sec + 8 * b2n ie + 16 * b2n ss)

/-- Save the state of the core in the bank of a target level (R66). -/
def Core.saveBank (c : Core) (t : Level) (ecause info addr epc : Word) : Core :=
  let k := fun r => bankKey t c.sec r
  ((((c.setCr (k 1) (epc &&& ~~~(3 : Word))).setCr (k 2) (statWord c.lvl c.sec c.ie c.ss)).setCr (k 3) ecause).setCr (k 4)
    addr).setCr (k 5) info

/-- TAKING A TRAP (R66): the bank is written; level, IE, SS, MCIP and PC change; FREEZE_TRAP stops the counters (R101);
registers that wait for a synchronising event take effect (R60). An instruction in C_DBGINST only records its trap
(R99). -/
def Core.takeTrap (c : Core) (t : Level) (irq mc : Bool) (ecause info addr epc : Word) : Core :=
  let c1 := c.saveBank t ecause info addr epc
  if c.dbg then { c1 with dbg := false, pmEv := .empty }
  else
    let vbar := c1.cr (bankKey t c.sec 0)
    let pc : Word :=
      if mc then c1.cr 0x030 + 0x400
      else vbar + (if c.lvl = t then 0 else 0x200) + (if irq then 0x100 else 0)
    let c2 := { c1 with
      lvl := t, ie := false, ss := false, mcip := c.mcip || mc, pc := pc, creg60 := .empty, pmEv := .empty,
      frozen := c.frozen || bitAt (c.cr cPMCTL) 2 }
    Core.clrw c c2

/-- ERET (R66): the exception it raises, or the core after it. -/
def Core.eret (c : Core) : Option Nat × Core :=
  let w := c.cr (bankKey c.lvl c.sec 2)
  let lvl := Level.of (w.toNat % 4)
  let sec := bitAt w 2
  if c.lvl.below lvl then (some xILLEGAL, c)
  else if c.lvl = .m ∧ sec ∧ lvl = .h then (some xILLEGAL, c)
  else
    let c1 := { c with
      sec := if c.lvl = .m then sec else c.sec
      mcip := if c.lvl = .m then false else c.mcip
      lvl := lvl, ie := bitAt w 3, ss := bitAt w 4
      pc := c.cr (bankKey c.lvl c.sec 1) &&& ~~~(3 : Word)
      creg60 := .empty }
    (none, Core.clrw c c1)

/-! Counters (R100-R102). -/

/-- The debug level of the world under execution (17 R449, R450): M counts as secure; 3 acts as 2. -/
def State.dbgLevel (s : State) (sec : Bool) : Nat :=
  min 2 (if sec then s.fd .WLD_DBGEN WLD_DBGEN.SLVL else s.fd .WLD_DBGEN WLD_DBGEN.NLVL)

/-- The world that the debug enables judge a core by. -/
def Core.dbgSec (c : Core) : Bool := c.sec || c.lvl == .m

/-- Debug may stop and steer the core (17 R450). -/
def State.dbgControl (s : State) (n : Nat) : Bool := 2 ≤ s.dbgLevel (s.core n).dbgSec

/-- Add to a counter; the bit of C_PMOVF sets when it wraps (R101). -/
def Core.bumpCtr (c : Core) (num bit k : Nat) : Core :=
  let v := (c.cr num).toNat + k
  let c1 := c.setCr num (BitVec.ofNat 64 v)
  if 2 ^ 64 ≤ v then c1.setCr cPMOVF (c1.cr cPMOVF ||| (1 <<< bit)) else c1

/-- Events of which the core's own accesses give some (R102): misses, walks and RETRYs. Work that was cancelled may count
more. -/
def notedEvent (ev : Nat) : Bool := (6 ≤ ev && ev ≤ 0x0C) || ev == 0x12

/-- Events whose counts the spec leaves to timing (R102): their amount is free. -/
def freeEvent (ev : Nat) : Bool := ev == 1 || ev == 0x10 || ev == 0x11 || ev == 0x14 || ev == 0x15

/-- How often an event is in a list of events. -/
def evCount (evs : List (Nat × Nat)) (ev : Nat) : Nat := evs.foldl (fun a e => if e.1 = ev then a + e.2 else a) 0

/-- Count in one of C_PMC0-5, at level `lvl` (R101). -/
def State.countPmc (s : State) (n : Nat) (lvl : Level) (evs : List (Nat × Nat)) (k : Nat) : State :=
  let c := s.core n
  let sel := c.cr (cPMSEL + k)
  let ev := sel.toNat % 256
  if !bitAt sel (8 + lvl.num) || ev = 0 then s
  else if freeEvent ev then
    let (x, s1) := s.drawNat
    s1.modCore n (fun c => c.bumpCtr (cPMC + k) k x)
  else if notedEvent ev then
    let (x, s1) := s.drawNat
    s1.modCore n (fun c => c.bumpCtr (cPMC + k) k (evCount evs ev + x))
  else if evCount evs ev = 0 then s
  else s.modCore n (fun c => c.bumpCtr (cPMC + k) k (evCount evs ev))

/-- Count what an instruction has done at the level and in the world of `c0` (R100, R101): a free number of cycles, one
retirement where `ret` says so, the events it names and those noted since the last count. -/
def State.count (s : State) (n : Nat) (c0 : Core) (ret : Bool) (evs : List (Nat × Nat)) : State :=
  let c := s.core n
  if !bitAt (c.cr cPMCTL) 0 || c.frozen || s.dbgLevel c0.dbgSec = 0 then s
  else
    let (cyc, s1) := s.drawNat
    let s2 := s1.modCore n (fun c =>
      let c1 := c.bumpCtr cCYCLE 6 cyc
      if ret then c1.bumpCtr cINSTRET 7 1 else c1)
    (List.range 6).foldl (fun s k => s.countPmc n c0.lvl ((if ret then (2, 1) :: evs else evs) ++ c.pmEv.l) k) s2

/-! Raising an exception. -/

/-- The machine-check record (R95): C_MCINFO, C_MCADDR and the bank's record (20 R498 KIND 5, R502). -/
def State.mcheckRecord (s : State) (n kind : Nat) (pa : Option Nat) : State :=
  let w := kind + 16 + 32 + 64 * b2n pa.isSome + coreBank n * 65536
  let s1 := s.modCore n (fun c =>
    let c1 := c.setCr cMCINFO (BitVec.ofNat 64 w)
    match pa with
    | some a => c1.setCr cMCADDR (BitVec.ofNat 64 (a / 128 * 128))
    | none => c1)
  s1.recordErr ⟨coreBank n, 5, coreNode n, pa.map (fun a => a / 128 * 128), none, (s.core n).dbgSec⟩

/-- Raise an exception at a core (R64-R67): `npc` is the address of the next instruction. At M with MCIP set, and for a machine
check at any level, it starts a domain stop instead. DESIGN CHOICE (log 145): the level whose bit of C_PMSELn gates event 0x19
here, and 0x1A in `takeInt`, is the one before the trap. -/
def State.raiseExc (s : State) (n : Nat) (e : Exc) (npc : Word) : State :=
  let c := s.core n
  if c.mcip ∧ (c.lvl = .m ∨ isMcheck e.cause) then s.recordErr ⟨coreBank n, 27, coreNode n, none, none, true⟩
  else
    let s1 := match e.mc with | some k => s.mcheckRecord n k.1 k.2 | none => s
    let froz := bitAt (c.cr cPMCTL) 2
    let s2 := if froz then s1 else s1.count n c false [(0x19, 1)]
    s2.modCore n (fun c =>
      c.takeTrap (c.trapTarget e) false (isMcheck e.cause) (BitVec.ofNat 64 e.cause) e.info e.addr
        (if e.next then npc else c.pc))

/-! Interrupts (R71, 17 R446, R448). -/

/-- What a core does with an offered source. -/
inductive IntAct where
  | no
  | take (t : Level)
  | preempt
  | toM
deriving DecidableEq, Repr

/-- The level a source targets (17 R455). -/
def State.srcTarget (s : State) (n : Nat) : Level :=
  match s.fd .IRT_SRC IRT_SRC.TLVL 0 n with
  | 2 => if s.fb .IRT_SRC IRT_SRC.SEC 0 n then .k else .h
  | 3 => .m
  | _ => .k

/-- R71 at a level with an enable. -/
def takesAt (t lvl : Level) (ie : Bool) : Bool := lvl.below t || (t == lvl && ie)

/-- Whether and how a core takes a source (R71, 17 R446, R448, R456); `all` takes IE as 1 (R72). -/
def State.intAct (s : State) (core src : Nat) (all : Bool) : IntAct :=
  let c := s.core core
  let sec := s.fb .IRT_SRC IRT_SRC.SEC 0 src
  let t := s.srcTarget src
  if s.fd .IRT_SRC IRT_SRC.PRIO 0 src ≤ (c.cr (wk cIPMASK sec)).toNat % 16 then .no
  else if t = .m then (if takesAt t c.lvl (c.ie || all) then .take .m else .no)
  else if c.lvl = .m then .no
  else if sec = c.sec then (if takesAt t c.lvl (c.ie || all) then .take t else .no)
  else if c.sec then
    match c.gate with
    | some f =>
      if f.preempted then .toM
      else if takesAt t f.lvl (f.ie || all) then (if f.pre then .preempt else .no)
      else .no
    | none => .toM
  else .toM

/-- The offers that stand at a core. -/
def Core.offers (c : Core) : List Nat := c.offer.toList ++ c.offerS.toList

/-- The interrupt that a core takes at a boundary (R70): the one of highest priority, the lowest number among equals. -/
def State.nextInt (s : State) (core : Nat) : Option (Nat × IntAct) :=
  (s.core core).offers.foldl (fun b n =>
    let a := s.intAct core n false
    if a = .no then b
    else
      match b with
      | none => some (n, a)
      | some (m, x) =>
        let pn := s.fd .IRT_SRC IRT_SRC.PRIO 0 n
        let pm := s.fd .IRT_SRC IRT_SRC.PRIO 0 m
        if pm < pn ∨ (pm = pn ∧ n < m) then some (n, a) else some (m, x)) none

/-! The boundary between instructions (R70). -/

/-- The core executes: it runs, its domain is in RUN and the package is alive. -/
def State.coreLive (s : State) (n : Nat) : Bool :=
  s.alive && (s.core n).run == .run && s.domState n == 0

/-- The core mask of a mirror entry names a core (16 R438). -/
def State.pairCore (s : State) (e n : Nat) : Bool := bitAt (s.rg .PAIR_MP_CORE 0 e (n / 64)) (n % 64)

/-- A core is where a capture may stop it (16 R424 step 1): at a boundary at normal-world U or K with no deferred BUSERR
pending; a core in WFI stands before its WFI. -/
def Core.capturable (c : Core) : Bool :=
  (c.run == .run || c.run == .wfi || c.run == .halted) && c.wait == .none && !c.sec && (c.lvl == .u || c.lvl == .k) &&
    c.defErr.isNone

/-- A capture of the mirror pair has stopped the core (16 R424), or a suspended entry or a switchover holds it (R436,
R437). -/
def State.pairStopped (s : State) (n : Nat) : Bool :=
  s.pair.entries.l.any (fun e => e.2.stopped.contains n ||
    ((e.2.capturing || (s.fd .PAIR_MP_STAT PAIR_MP_STAT.STATE 0 e.1 == 3 && !s.fb .PAIR_MP_CTL PAIR_MP_CTL.ROLE 0 e.1)) &&
      s.pairCore e.1 n && (s.core n).capturable))

/-- An event is due before the next instruction (R70, R96). -/
def State.boundaryDue (s : State) (n : Nat) : Bool :=
  let c := s.core n
  c.stepDue || c.defErr.isSome || (s.nextInt n).isSome || (c.haltReq && s.dbgControl n)

/-- The core is at a boundary between instructions. -/
def State.atBoundary (s : State) (n : Nat) : Bool := s.coreLive n && (s.core n).wait == .none && !s.pairStopped n

/-- The core can go on with an instruction: at a boundary with no event due, in the middle of one, or in C_DBGINST. -/
def State.canIssue (s : State) (n : Nat) : Bool :=
  if (s.core n).dbg then s.alive
  else s.coreLive n && !s.pairStopped n && ((s.core n).wait != .none || !s.boundaryDue n)

/-- An instruction has completed (R70, R100): it is counted for the level and world it ran at, the PC moves on, and a STEP
is due when SS was set below M. In C_DBGINST only a control transfer moves the halted PC (R99). DESIGN CHOICE (log 145): an
instruction in C_DBGINST counts as retired, and its recorded trap as event 0x19. -/
def State.retireInsn (s : State) (n : Nat) (c0 : Core) (npc : Word) (jump : Bool) (evs : List (Nat × Nat)) : State :=
  (s.count n c0 true evs).modCore n (fun c =>
    { c with pc := if c.dbg && !jump then c.pc else npc, wait := .none, reply := none, rbuf := .empty, dbg := false, pmEv := .empty
             stepDue := c.stepDue || (c0.ss && c0.lvl != .m && !c.dbg) })

/-- The debugger's single step, STEP (R70): taken before any other event. -/
def State.takeStep (s : State) (n : Nat) : State :=
  let s1 := s.modCore n (fun c => { c with stepDue := false })
  s1.raiseExc n ⟨xSTEP, 0, 0, true, false, none⟩ (s1.core n).pc

/-- The deferred BUSERR (R94): its target is computed at this boundary; C_EPC names the next instruction. -/
def State.takeDeferred (s : State) (n : Nat) : State :=
  match (s.core n).defErr with
  | none => s
  | some d =>
    let s1 := s.modCore n (fun c => { c with defErr := none })
    let info := BitVec.ofNat 64 (d.status + 0x10000 + 0x40000 + min 15 d.dovf * 2 ^ 19)
    s1.raiseExc n ⟨xBUSERR, info, d.va, true, false, none⟩ (s1.core n).pc

/-- A store's non-OK status has come back (R94). -/
def Core.storeError (c : Core) (e : StoreOut) : Core :=
  match c.defErr with
  | none => { c with defErr := some ⟨e.status, e.va, 0⟩ }
  | some d => { c with defErr := some { d with dovf := min 15 (d.dovf + 1) } }

/-- Every status still under way comes back: what FENCE, FENCE.G, ATOM and device accesses wait for (R94). -/
def Core.drainStores (c : Core) : Core := c.stq.foldl Core.storeError { c with stq := [] }

/-- The status of a store to normal memory is on its way back (R94). -/
def Core.storeOut (st : Status) (va : Word) (c : Core) : Core :=
  if st = .ok then c else { c with stq := c.stq ++ [⟨Status.code st, va⟩] }

/-- The oldest store that a core holds becomes visible, at one point for every observer (R86, R87). False: its home answers
RETRY, or a line must leave a cache first, and it stays. -/
def State.sbOne (s : State) (n : Nat) : Bool × State :=
  match (s.core n).sbuf with
  | [] => (true, s)
  | e :: t =>
    let r := s.cohStore n e.line e.sec e.mask e.data
    if r.1 = .retry then (false, r.2) else (true, r.2.modCore n (fun c => Core.storeOut r.1 e.va { c with sbuf := t }))

/-- The `k` oldest stores of a core become visible in order, as far as their homes take them. -/
def State.sbRun (s : State) (n : Nat) : Nat → Bool × State
  | 0 => (true, s)
  | k + 1 =>
    match s.sbOne n with
    | (false, s1) => (false, s1)
    | (true, s1) => State.sbRun s1 n k

/-- Every earlier store becomes visible: what FENCE, FENCE.G, ATOM, device accesses, CMOs and the gates wait for (R88, R89, R94).
False: one must wait. -/
def State.sbDrain (s : State) (n : Nat) : Bool × State := s.sbRun n (s.core n).sbuf.length

/-- Of each core the oldest store that it holds may become visible: a free choice. -/
def State.sbIdle (s : State) : State :=
  (s.cores.l.map (fun e => e.1)).foldl (fun s n =>
    if (s.core n).sbuf.isEmpty then s
    else
      let (b, s1) := s.drawBit
      if b then (s1.sbOne n).2 else s1) s

/-- A store of a core (R86): it is held, and how many of the held ones become visible at once is free. -/
def State.sbPut (s : State) (n : Nat) (e : SbEntry) : State :=
  let s1 := s.modCore n (fun c => { c with sbuf := c.sbuf ++ [e] })
  let (k, s2) := s1.drawNat
  (s2.sbRun n (k % ((s.core n).sbuf.length + 2))).2

/-- What a core sees of a line: its own held stores lie over what the caches and the home give (R86); a word that they cover
whole has no mark. -/
def Core.overlay (c : Core) (line : Nat) (sec : Bool) (x : LineData × BitVec 16) : LineData × BitVec 16 :=
  c.sbuf.foldl (fun x e => if e.line = line ∧ e.sec = sec then (mergeLine x.1 e.data e.mask, mergePoison x.2 0 e.mask) else x) x

/-- Take an interrupt of level `t` (R66, 17 R456): the source becomes ACTIVE at the core. -/
def State.takeInt (s : State) (n src : Nat) (t : Level) : State :=
  let c := s.core n
  let froz := bitAt (c.cr cPMCTL) 2
  let s1 := if froz then s else s.count n c false [(0x1A, 1)]
  let s2 := (s1.irtAck n src).modCore n (fun c =>
    { c with offer := if c.offer = some src then none else c.offer
             offerS := if c.offerS = some src then none else c.offerS })
  s2.modCore n (fun c => c.takeTrap t true false (BitVec.ofNat 64 (2 ^ 63 + src)) 0 0 c.pc)

/-- SINGLE_STEP_TRAP (R70). -/
def execSingleStepTrap (core : CoreNo) (s : State) : Out :=
  if s.atBoundary core && (s.core core).stepDue then .next (s.takeStep core) else .next s

/-- DEFERRED_BUSERR (R94): taken at a boundary with no STEP due. -/
def execDeferredBuserr (core : CoreNo) (s : State) : Out :=
  if s.atBoundary core && !(s.core core).stepDue && (s.core core).defErr.isSome then .next (s.takeDeferred core) else .next s

/-- STORE_STATUS_RETURN (R94): the oldest non-OK status reaches the core; with none on its way the oldest store that is held
becomes visible and its status is known. -/
def execStoreStatusReturn (core : CoreNo) (s : State) : Out :=
  match (s.core core).stq with
  | [] => .next (if s.alive && (s.core core).run != .resetting then (s.sbOne core).2 else s)
  | e :: t => .next (s.modCore core (fun c => ({ c with stq := t }).storeError e))

/-- INTERRUPT_TAKEN (R70, R71, 17 R448): no STEP and no deferred error is due. A source that preempts a gate call is taken by
GATE_PREEMPT. -/
def execInterruptTaken (core : CoreNo) (s : State) : Out :=
  if s.atBoundary core && !(s.core core).stepDue && !(s.core core).defErr.isSome then
    match s.nextInt core with
    | some (src, .take t) => .next (s.takeInt core src t)
    | some (src, .toM) => .next (s.takeInt core src .m)
    | _ => .next s
  else .next s

/-- WFI_WAKE (R72): an interrupt is pending that R71 would take were IE 1 at every level; the WFI completes, and a domain in
IDLE starts its exit (18 R464). -/
def execWfiWake (core : CoreNo) (s : State) : Out :=
  let c := s.core core
  if s.alive && c.run == .wfi && !s.pairStopped core && decide (s.domState core ≤ 1) && c.offers.any (fun n => s.intAct core n true != .no) then
    .next (((s.modCore core (fun c => { c with run := .run })).retireInsn core c (c.pc + 4) false []).pwrWake core)
  else .next s

end Sys2Proof.Machine
end

