-- ==== Sys2Proof/Machine/CoreCtl.lean ====
section
/-! DEFINITION. Run control of the cores (03 R96-R99) and the state image of a core (16 R425). -/
namespace Sys2Proof.Machine

/-- A die that has read an invalid site code holds its cores in reset (01 R17), and a boot that has stopped holds every core (19
R478). -/
def State.dieHolding (s : State) (n : Nat) : Bool :=
  ((s.die (n / 18)).sampled && !s.fb .D2D_SITE D2D_SITE.CODE_OK (n / 18)) || s.fb .BOOT_STATUS BOOT_STATUS.STOPPED

/-- Release a HELD core (R96, R98): it starts at C_START. -/
def State.coreReleaseOp (s : State) (n : Nat) : State :=
  if (s.core n).run = .held ∧ !s.dieHolding n then
    (s.modCore n (fun c =>
      { c with run := .run, release := true, pc := s.rg .C_START n &&& 0xFFFFFFFFFFFFFC })).pwrWake n
  else s

/-- RELEASE of C_RUN (R96): a core whose domain is in SLEEP or below is woken by its RUN vote (18 R463). -/
def execCoreRelease (core : CoreNo) (s : State) : Out :=
  if s.alive then .next (s.coreReleaseOp core) else .next s

/-- HALTREQ of C_RUN (R96): the request stands until the core halts or is reset. -/
def State.coreHaltReq (s : State) (n : Nat) : State := s.modCore n (fun c => { c with haltReq := true })

/-- HALTREQ (R96). -/
def execHaltreq (core : CoreNo) (s : State) : Out := if s.alive then .next (s.coreHaltReq core) else .next s

/-- DEBUG_HALT (R96, 17 R450): at a boundary, a request that the debug level allows halts the core. -/
def execDebugHalt (core : CoreNo) (s : State) : Out :=
  if s.atBoundary core && (s.core core).haltReq && s.dbgControl core then
    .next (s.modCore core (fun c => { c with run := .halted, haltReq := false }))
  else .next s

/-- RESUME of C_RUN (R96, 17 R450): a HALTED core goes on at the halted PC, after the instructions that wait in C_DBGINST
(R99). -/
def State.coreResume (s : State) (n : Nat) : State :=
  if (s.core n).run = .halted ∧ s.dbgControl n then
    s.modCore n (fun c => if c.dbg || !c.dbgQ.isEmpty then { c with resumeDue := true } else { c with run := .run, resumeDue := false })
  else s

/-- CRESET (R97): ignored in DEEP, OFF and STOPPED. The fence enters RESET, stores that are held become visible, the router clears the core's active sources
(17 R457), the caches are cleaned and invalidated; the reset ends by CORE_RESET_DONE. -/
def State.coreBeginReset (s : State) (n : Nat) : State :=
  if 3 ≤ s.domState n || s.err.halted || (s.core n).run == .resetting then s
  else
    let s1 := (s.setFence (coreNode n) 2).irtCoreReset n
    ((s1.sbDrain n).2.coreCleanInv n).modCore n (fun c => { c with run := .resetting, wait := .none, reply := none, cleaning := true })

/-- CRESET (R97). -/
def execCreset (core : CoreNo) (s : State) : Out := if s.alive then .next (s.coreBeginReset core) else .next s

/-- The end of a core's reset (R58, R97): reset values, a new generation, an open fence, HELD. -/
def State.coreEndReset (s : State) (n : Nat) : State :=
  ((s.setCore n Core.reset).resetBlk .core n).nodeResetEnd (coreNode n)

/-- CORE_RESET_DONE (R97): once its stores are visible and its lines have left; a die with an invalid site code holds its cores in
reset (01 R17). -/
def execCoreResetDone (core : CoreNo) (s : State) : Out :=
  if s.alive && (s.core core).run == .resetting && !s.dieHolding core then
    let r := s.sbDrain core
    if !r.1 then .next r.2
    else
      let s1 := r.2.coreCleanInv core
      if (s1.core core).l2.l.isEmpty then .next (s1.coreEndReset core) else .next s1
  else .next s

/-! The state image (16 R425). -/

/-- A number at a byte offset of an image. -/
def atByte (off v : Nat) : Nat := v * 2 ^ (8 * off)

/-- C_STATUS as MFC reads it (03 R61). -/
def Core.status (c : Core) : Word := statWord c.lvl c.sec c.ie c.ss ||| (if c.mcip then 0x20 else 0)

/-- The registers of the image by offset: those of world `sec` where they are held per world. -/
def imageRegs (sec : Bool) : List (Nat × Nat) :=
  (List.range 7).map (fun r => (0x1318 + 8 * r, wk (0x010 + r) sec)) ++
  [(0x1350, wk cTCTL sec), (0x1358, wk cTTB sec), (0x1360, cNCTL), (0x1368, cNFLAGS), (0x1370, cACCST),
   (0x1378, wk cPRCTL sec), (0x1380, cCACHECTL)]

/-- The 5,120-byte image of a core, byte 0 in the low bits (16 R425). -/
def Core.image (c : Core) : Nat :=
  let v := (List.range 32).foldl (fun a k => a + atByte (72 * k) (c.rv (BitVec.ofNat 5 k)).toNat) 0
  let a := (List.range 4).foldl (fun x k => x + atByte (0x900 + 576 * k) (c.ra (BitVec.ofNat 5 k)).toNat) 0
  let g := (List.range 32).foldl (fun x k => x + atByte (0x1200 + 8 * k) (c.rg (BitVec.ofNat 5 k)).toNat) 0
  let r := (imageRegs c.sec).foldl (fun x e => x + atByte e.1 (c.cr e.2).toNat) 0
  v + a + g + r + atByte 0x1300 c.pc.toNat + atByte 0x1308 (c.p ||| 1).toNat + atByte 0x1310 c.status.toNat

/-- `n` bytes of an image at an offset. -/
def imgGet (img off n : Nat) : Nat := (img / 2 ^ (8 * off)) % 2 ^ (8 * n)

/-- Load an image into a core, in world `sec` (16 R425, R434; 17 R447): level, IE and SS come from its C_STATUS. DESIGN CHOICE
(log 146): C_NCTL, C_NFLAGS and C_ACCST take the image's whole words. -/
def Core.loadImage (c : Core) (img : Nat) (sec : Bool) : Core :=
  let st := BitVec.ofNat 64 (imgGet img 0x1310 8)
  let c1 := (List.range 32).foldl (fun (c : Core) k =>
    (c.wv (BitVec.ofNat 5 k) (BitVec.ofNat 576 (imgGet img (72 * k) 72))).wg (BitVec.ofNat 5 k)
      (BitVec.ofNat 64 (imgGet img (0x1200 + 8 * k) 8))) c
  let c2 := (List.range 4).foldl (fun (c : Core) k =>
    c.wa (BitVec.ofNat 5 k) (BitVec.ofNat 4608 (imgGet img (0x900 + 576 * k) 576))) c1
  let c3 := (imageRegs sec).foldl (fun (c : Core) e => c.setCr e.2 (BitVec.ofNat 64 (imgGet img e.1 8))) c2
  { c3 with
    pc := BitVec.ofNat 64 (imgGet img 0x1300 8) &&& ~~~(3 : Word)
    p := BitVec.ofNat 8 (imgGet img 0x1308 1) ||| 1
    lvl := Level.of (st.toNat % 4), sec := sec, ie := bitAt st 3, ss := bitAt st 4 }

/-- Write an image as 40 full lines at a line number. False: a home has answered RETRY, and the image is to be written again. -/
def State.putImage (s : State) (node line : Nat) (sec : Bool) (img : Nat) : Bool × State :=
  (List.range 40).foldl (fun (a : Bool × State) k =>
    let (r, s1) := a.2.writeLine node (line + k) sec fullMask (BitVec.ofNat 1024 (img / 2 ^ (1024 * k))) 0
    (a.1 && r.status != .retry, s1)) (true, s)

/-- Read an image of 40 lines; none where a home has answered RETRY. -/
def State.getImage (s : State) (node line : Nat) (sec : Bool) : Option Nat × State :=
  (List.range 40).foldl (fun (a : Option Nat × State) k =>
    let (r, s1) := a.2.readLine node (line + k) sec
    (if r.status = .retry then none else a.1.map (fun v => v + r.data.toNat * 2 ^ (1024 * k)), s1)) (some 0, s)

end Sys2Proof.Machine
end

