-- ==== Sys2Proof/Machine/Slice.lean ====
section
/-! DEFINITION. Compute slices (14): the pool, CREATE and DESTROY, the slice window, doorbells. -/
namespace Sys2Proof.Machine

/-- The node of the slice manager. -/
def vsfNode : Nat := hubNode 0

/-- A bit of a mask over 64-bit registers (R368). -/
def State.maskBit (s : State) (k : RegKind) (n : Nat) : Bool := bitAt (s.rg k 0 (n / 64)) (n % 64)

/-- A slice holds its resources from CREATING to the end of DESTROYING. -/
def State.sliceHeld (s : State) (p : Slice → Bool) : Bool := s.vsf.slices.l.any (fun e => e.2.st != 0 && p e.2)

/-- Free resources of the pool, lowest number first (R367, R368). -/
def State.freeCores (s : State) : List Nat :=
  (List.range 216).filter (fun n => s.maskBit .VSF_PCORE n && !s.sliceHeld (fun v => v.cores.contains n))
/-- Eligible granules below the installed capacity that no slice holds. -/
def State.freeGrans (s : State) : List Nat :=
  (List.range 4096).filter (fun g => s.maskBit .VSF_PGRAN g && decide ((g + 1) * 2 ^ 30 ≤ s.installed) &&
    !s.sliceHeld (fun v => v.grans.contains g))
def State.cleanGrans (s : State) : List Nat := s.freeGrans.filter (fun g => s.vsf.clean.contains g)
def State.freeDmas (s : State) : List Nat :=
  (List.range 208).filter (fun n => s.maskBit .VSF_PDMA n && !s.sliceHeld (fun v => v.dmas.contains n))
def State.freeCtx (s : State) : List Nat :=
  (List.range 256).filter (fun n => s.maskBit .VSF_PFCTX n && !s.sliceHeld (fun v => v.fctx.contains n))
def State.freeVec (s : State) : Nat :=
  min 16384 (s.fd .VSF_PVEC VSF_PVEC.N) -
    s.vsf.slices.l.foldl (fun a e => if e.2.st = 0 then a else a + e.2.vec) 0

/-- The amounts are within the per-slice range (R368). -/
def sliceAmountsOk (w : Word) : Bool :=
  let c := getF w VSF_ARG0.CORES
  let g := getF w VSF_ARG0.GRAN
  let v := getF w VSF_ARG0.VEC
  decide (1 ≤ c) && decide (c ≤ 216) && decide (1 ≤ g) && decide (g ≤ 256) && decide (getF w VSF_ARG0.DMA ≤ 16) &&
    decide (getF w VSF_ARG0.PRLQ ≤ 32) && decide (1 ≤ v) && decide (v ≤ 1024)

/-- Slices are off (R370): manager disabled, host personality, VF Enable clear, or NumVFs too small. -/
def State.vfOff (s : State) (n : Nat) : Bool :=
  !s.fb .VSF_CTL VSF_CTL.EN || !s.boot.attached || !s.hb.vfEn || decide (s.hb.numVfs ≤ n)

/-- The checks of a command in order (R370): its STATUS. -/
def State.sliceCheck (s : State) (op n : Nat) : Nat :=
  let w := s.rg .VSF_ARG0
  if (op ≠ 1 ∧ op ≠ 2) ∨ 239 < n ∨ (op = 1 ∧ !sliceAmountsOk w) then 1
  else if s.vfOff n then 2
  else if op = 1 ∧ (s.slice n).st ≠ 0 then 3
  else if op = 2 ∧ (s.slice n).st = 0 then 3
  else if op = 2 then 0
  else if s.freeCores.length < getF w VSF_ARG0.CORES then 4
  else if s.cleanGrans.length < getF w VSF_ARG0.GRAN then 5
  else if s.freeDmas.length < getF w VSF_ARG0.DMA then 6
  else if s.freeCtx.length < getF w VSF_ARG0.FCTX then 7
  else if s.freeVec < getF w VSF_ARG0.VEC then 8
  else 0

/-- Write VSF_CMDSTAT's outcome fields. -/
def State.cmdStat (s : State) (busy : Bool) (st n : Nat) : State :=
  let w := setF (setF (setF (s.rg .VSF_CMDSTAT) VSF_CMDSTAT.BUSY (b2n busy)) VSF_CMDSTAT.STATUS st) VSF_CMDSTAT.SLICE n
  s.setRg w .VSF_CMDSTAT

/-- A mask register's word from a list of numbers. -/
def maskWord (l : List Nat) (j : Nat) : Word :=
  l.foldl (fun (a : Word) n => if n / 64 = j then a ||| (1 <<< (n % 64)) else a) 0

/-- The slice record's registers (R375, R379) follow the slice. -/
def State.sliceRegs (s : State) (n : Nat) : State :=
  let v := s.slice n
  let st := BitVec.ofNat 64 (v.st + 4 * b2n v.run)
  let s1 := (((s.setRg st .VSF_RSTAT 0 n).setRg st .VSF_VSTAT 0 n).setRg v.amounts .VSF_RAMT 0 n).setRg v.amounts .VSF_VAMT 0 n
  let s2 := s1.setRg v.arg1 .VSF_RARG1 0 n
  (List.range 4).foldl (fun s j =>
    ((s.setRg (maskWord v.cores j) .VSF_RCORE 0 n j).setRg (maskWord v.dmas j) .VSF_RDMA 0 n j).setRg (maskWord v.fctx j)
      .VSF_RFCTX 0 n j) s2

/-- Store a slice and its registers. -/
def State.putSlice (s : State) (n : Nat) (v : Slice) : State := (s.setSlice n v).sliceRegs n

/-- Take the manager's vote at RUN for cores (R373). -/
def State.holdCores (s : State) (l : List Nat) : State :=
  l.foldl (fun s n => State.pwrWake { s with vsf := { s.vsf with votes := n :: s.vsf.votes.filter (fun x => x != n) } } n) s

/-- Withdraw the manager's vote. -/
def State.freeVotes (s : State) (l : List Nat) : State :=
  { s with vsf := { s.vsf with votes := s.vsf.votes.filter (fun x => !l.contains x) } }

/-- Begin the resets of a slice's cores and channels (R373): a core in DEEP or OFF first leaves it. -/
def State.sliceResets (s : State) (v : Slice) : State :=
  let s1 := s.holdCores v.cores
  let deep := v.cores.filter (fun n => 3 ≤ s.domState n)
  let s2 := v.cores.foldl (fun s n => if 3 ≤ s.domState n then s else s.coreBeginReset n)
    { s1 with vsf := { s1.vsf with toReset := s1.vsf.toReset ++ deep } }
  v.dmas.foldl (fun s c => s.dmaBeginReset c) s2

/-- A core of the manager has left DEEP or OFF (R373): from OFF the return is its reset. -/
def State.sliceCoreUp (s : State) (n fromState : Nat) : State :=
  if s.vsf.toReset.contains n then
    let s1 := { s with vsf := { s.vsf with toReset := s.vsf.toReset.filter (fun x => x != n) } }
    if fromState = 4 then s1 else s1.coreBeginReset n
  else s

/-- Every core of a slice is HELD after its reset, every channel's reset has ended. -/
def State.sliceQuiet (s : State) (v : Slice) : Bool :=
  v.cores.all (fun n => (s.core n).run == .held && !s.vsf.toReset.contains n && s.domState n == 0) &&
    v.dmas.all (fun c => !s.dmaInReset c)

/-- The base of a slice's tables (R374). -/
def State.sliceTbl (s : State) (n : Nat) : Nat := (s.rg .VSF_TBLBASE).toNat / 0x400000 * 0x400000 + 0x4000 * n

/-- The address of a function's I/O context (13 R348). -/
def State.ioCtxAddr (s : State) (f : Nat) : Nat := s.fd .HBU_CTXBASE HBU_CTXBASE.ADDR 0 * 0x200000 + 32 * f

/-- Write 64-bit words of one line at a byte address. -/
def State.putWords (s : State) (node a : Nat) (sec : Bool) (l : List Word) : State :=
  let off := a % 128
  let d := (l.foldr (fun w (acc : LineData) => (acc <<< 64) ||| BitVec.setWidth 1024 w) 0) <<< (8 * off)
  (s.writeLine node (a / 128) sec (byteMask off (8 * l.length)) d 0).2

/-- A 4 KiB table written in full with WRF (R374): `f` gives its entries. -/
def State.putTable (s : State) (base : Nat) (f : Nat → Word) : State :=
  (List.range 32).foldl (fun s k =>
    let d := (List.range 16).foldl (fun (a : LineData) i => setLineWord a i (f (16 * k + i))) 0
    (s.writeLine vsfNode (base / 128 + k) false fullMask d 0).2) s

/-- The tables of a slice (R374). -/
def State.sliceTables (s : State) (n : Nat) (grans : List Nat) : State :=
  let t := s.sliceTbl n
  let s1 := s.putTable t (fun i => if i = 0 then BitVec.ofNat 64 (t + 0x1001) else 0)
  let s2 := s1.putTable (t + 0x1000) (fun i => if i = 0 then BitVec.ofNat 64 (t + 0x2001) else 0)
  s2.putTable (t + 0x2000) (fun i =>
    match grans[i]? with
    | some g => BitVec.ofNat 64 (g * 2 ^ 30 + 0xC73)
    | none => 0)

/-- The VF context of a slice (R374), or the invalid one (R372). -/
def State.sliceContext (s : State) (n : Nat) (v : Bool) : State :=
  let w0 : Word := if v then BitVec.ofNat 64 (0x0D + (0x100 + n) * 2 ^ 32) else 0
  s.putWords vsfNode (s.ioCtxAddr (16 + n)) false [w0, 0, if v then BitVec.ofNat 64 (s.sliceTbl n) else 0, 0]

/-- The homes of a slice's context, and of its tables where `tables` says so, take the manager's writes; while one would answer
RETRY the manager's command goes on (10 R288). -/
def State.sliceWrites (s : State) (n : Nat) (tables : Bool) : Bool :=
  s.takesWrite vsfNode (s.ioCtxAddr (16 + n) / 128) false &&
    (!tables || (List.range 96).all (fun k => s.takesWrite vsfNode (s.sliceTbl n / 128 + k) false))

/-- Zero a function's MSI-X table (R371, R372). -/
def State.msixZero (s : State) (f : Nat) : State :=
  { s with hb := { s.hb with msixTab := s.hb.msixTab.keep (fun k => k / 4096 != f) } }

/-- Send an MSI-X vector of a function (R376; 13 R356): held in the PBA while its Bus Master Enable is clear or its vector
is masked. -/
def State.msixSend (s : State) (f n : Nat) : State :=
  if s.epMaster f && !bitAt (s.hb.msixTab.getD (f * 4096 + 2 * n + 1) 0) 32 then
    { s with vsf := { s.vsf with msix := s.vsf.msix ++ [(f, n)] } }
  else
    let e := s.epf f
    s.setEpf f { e with pba := if e.pba.contains n then e.pba else n :: e.pba }

/-- The first steps of a CREATE (R371). -/
def State.createStart (s : State) (n : Nat) : State :=
  let w := s.rg .VSF_ARG0
  let v : Slice := { Slice.reset with
    st := 1, amounts := w, arg1 := s.rg .VSF_ARG1
    cores := s.freeCores.take (getF w VSF_ARG0.CORES)
    grans := s.cleanGrans.take (getF w VSF_ARG0.GRAN)
    dmas := s.freeDmas.take (getF w VSF_ARG0.DMA)
    fctx := s.freeCtx.take (getF w VSF_ARG0.FCTX)
    vec := getF w VSF_ARG0.VEC }
  let s1 := (s.putSlice n v).setRg 0 .VSF_SPOOF 0 n
  State.sliceResets { s1 with vsf := { s1.vsf with cmd := some (1, n) } } v

/-- The first steps of a destruction (R372, steps 1 and 2). -/
def State.destroyStart (s : State) (n : Nat) : State :=
  let v := { s.slice n with st := 3 }
  ((s.putSlice n v).sliceContext n false).sliceResets v

/-- A write of VSF_CMD (R369, R370). -/
def State.sliceCommand (s : State) (op n : Nat) : State :=
  if s.fb .VSF_CMDSTAT VSF_CMDSTAT.BUSY then s.setFd .VSF_CMDSTAT VSF_CMDSTAT.CERR 1
  else
    let st := s.sliceCheck op n
    if st ≠ 0 then s.cmdStat false st n
    else
      let s1 := s.cmdStat true 0 n
      if op = 1 then s1.createStart n
      else if (s.slice n).st = 3 then { s1 with vsf := { s1.vsf with cmd := some (2, n) } }
      else State.destroyStart { s1 with vsf := { s1.vsf with cmd := some (2, n) } } n

/-- CREATE (R369). -/
def execVsfCreate (_i : Init) (s8 : BitVec 8) (s : State) : Out :=
  if s.alive then .next (s.sliceCommand 1 s8.toNat) else .next s

/-- DESTROY (R369). -/
def execVsfDestroy (_i : Init) (s8 : BitVec 8) (s : State) : Out :=
  if s.alive then .next (s.sliceCommand 2 s8.toNat) else .next s

/-- The last steps of a CREATE (R371): tags and start addresses, tables and context, channels, contexts, vectors. -/
def State.createEnd (s : State) (n : Nat) : State :=
  let v := s.slice n
  let s1 := v.cores.foldl (fun s c =>
    ({ s with vsf := { s.vsf with coreTag := s.vsf.coreTag.set c n } }).setRg
      (BitVec.ofNat 64 (s.fd .VSF_ENTRY VSF_ENTRY.ADDR * 4)) .C_START c) s
  let s2 := (s1.sliceTables n v.grans).sliceContext n true
  let s3 := v.dmas.foldl (fun s c =>
    let w := setF (setF (setF (s.rg .DMA_CFG c) DMA_CFG.SLICE n) DMA_CFG.SEC 0) DMA_CFG.XLAT 1
    (s.setRg w .DMA_CFG c).setRg (BitVec.ofNat 64 (s.ioCtxAddr (16 + n))) .DMA_IOCTX c) s2
  let s4 := v.fctx.foldl (fun s c => s.setFd .FAB_CCTL FAB_CCTL.SLICE n 0 c) s3
  let s5 := (s4.setRg (BitVec.ofNat 64 (s.sliceTbl n)) .VSF_RTBL 0 n).msixZero (16 + n)
  s5.putSlice n { v with st := 2, run := false }

/-- A fabric context is closed (15 R411): an active one is aborted, V clears, SLICE returns to 0xFF. -/
def State.closeCtx (s : State) (c : Nat) : State :=
  ((s.collFail c 4).setFd .FAB_CCTL FAB_CCTL.V 0 0 c).setFd .FAB_CCTL FAB_CCTL.SLICE 0xFF 0 c

/-- Every cached translation tagged with a GID goes, in every core and in the hub IOTLB (08 R229, TLBI.S2). -/
def State.dropGid (s : State) (gid : Nat) : State :=
  let keepT := fun (e : TlbEntry) => !(e.regime == 0 && e.gid == gid)
  let s1 := { s with
    cores := s.cores.map (fun _ c => { c with
      itlb := c.itlb.filter keepT, dtlb := c.dtlb.filter keepT, tlb2 := c.tlb2.filter keepT, tlb2big := c.tlb2big.filter keepT
      wcache := c.wcache.filter (fun w => !(w.regime == 0 && w.gid == gid)) }) }
  { s1 with hb := { s1.hb with iotlb := s1.hb.iotlb.filter keepT } }

/-- Praline slots that a slice owns. -/
def State.sliceSlots (s : State) (n : Nat) : List Nat :=
  (List.range 32).filter (fun k => s.fd .PRL_SLOT_STAT PRL_SLOT_STAT.STATE 0 k != 0 &&
    s.fd .PRL_SLOT_STAT PRL_SLOT_STAT.OKIND 0 k == 2 && s.fd .PRL_SLOT_STAT PRL_SLOT_STAT.OID 0 k == n)

/-- The last steps of a destruction (R372, steps 3 to 8). The write of the invalid context (step 1) has reached memory. -/
def State.destroyEnd (s0 : State) (n : Nat) : State :=
  let s := s0.sliceContext n false
  let v := s.slice n
  let s1 := (s.sliceSlots n).foldl (fun s k => s.slotPut k .release) s
  let s2 := { s1 with waitq := s1.waitq.filter (fun q => !(q.okind == 2 && q.oid == n)) }
  let s3 := (v.fctx.foldl (fun s c => s.closeCtx c) s2).msixZero (16 + n)
  let s4 := s3.dropGid (0x100 + n)
  let s5 := v.dmas.foldl (fun s c =>
    (s.setFd .DMA_CFG DMA_CFG.SLICE 0xFF c).setFd .DMA_CFG DMA_CFG.XLAT 0 c) s4
  let s6 := s5.freeVotes v.cores
  let s7 := { s6 with vsf := { s6.vsf with
    coreTag := s6.vsf.coreTag.keep (fun c => !v.cores.contains c)
    clean := s6.vsf.clean.filter (fun g => !v.grans.contains g)
    zeroing := s6.vsf.zeroing.filter (fun g => !v.grans.contains g) } }
  let e := s7.epf (16 + n)
  let s8 := if e.resetting then s7.setEpf (16 + n) { EpFunc.reset with bar0 := e.bar0, bar2 := e.bar2, bar2size := e.bar2size }
    else s7
  let s9 := s8.putSlice n Slice.reset
  if (s9.epf 0).resetting && !s9.sliceHeld (fun _ => true) then s9.setEpf 0 { s9.epf 0 with resetting := false } else s9

/-- The host's event DONE of VSF_CMDSTAT (R368, R371): PF vector CVEC when CIE is set. -/
def State.cmdDone (s : State) : State :=
  let s1 := s.setFd .VSF_CMDSTAT VSF_CMDSTAT.DONE 1
  if s1.fb .VSF_CTL VSF_CTL.CIE then s1.msixSend 0 (s1.fd .VSF_CTL VSF_CTL.CVEC) else s1

/-- Destructions that waited for the command to end start now (R372); a slice that does not exist needs none. -/
def State.startDestroys (s : State) : State :=
  s.vsf.destroys.foldl (fun s n => if (s.slice n).st = 2 then s.destroyStart n else s) s

/-- An FLR or PF event destroys a slice (R372): at once, or when the command under way has ended. -/
def State.destroyRequest (s : State) (n : Nat) : State :=
  if (s.slice n).st = 0 ∨ s.vsf.destroys.contains n then s
  else
    let s1 := { s with vsf := { s.vsf with destroys := s.vsf.destroys ++ [n] } }
    if s.vsf.cmd.isNone ∧ (s.slice n).st = 2 then s1.destroyStart n else s1

/-- End the command under way, and start the destructions that waited for it. -/
def State.endCommand (s : State) (n : Nat) : State :=
  State.startDestroys ({ s with vsf := { s.vsf with cmd := none } }.cmdStat false 0 n).cmdDone

/-- A destruction that an FLR or PF event has started and whose resets have ended. -/
def State.readyDestroy (s : State) : Option Nat :=
  s.vsf.destroys.find? (fun n => (s.slice n).st == 3 && s.sliceQuiet (s.slice n) && s.sliceWrites n false)

/-- SLICE_COMMAND_DONE (R371-R373): the resets of the slice under command, or of one being destroyed, have ended. -/
def State.sliceDone (s : State) : State :=
  match s.vsf.cmd with
  | some (1, n) => if s.sliceQuiet (s.slice n) && s.sliceWrites n true then (s.createEnd n).endCommand n else s
  | some (_, n) =>
    if (s.slice n).st = 0 then s.endCommand n
    else if s.sliceQuiet (s.slice n) && s.sliceWrites n false then
      State.endCommand { s.destroyEnd n with vsf := { (s.destroyEnd n).vsf with destroys := s.vsf.destroys.filter (fun x => x != n) } } n
    else s
  | none =>
    match s.readyDestroy with
    | some n => { s.destroyEnd n with vsf := { (s.destroyEnd n).vsf with destroys := s.vsf.destroys.filter (fun x => x != n) } }
    | none => s

/-- SLICE_COMMAND_DONE (R371, R372). -/
def execSliceCommandDone (s : State) : Out := if s.alive then .next s.sliceDone else .next s

/-! Granules (R368). -/

/-- VSF_PGRAN (R368): a granule whose eligibility goes from 0 to 1 is dirty. -/
def State.pgranWrite (s : State) (i : Init) (j : Nat) (w : Word) : State :=
  if !i.sec then s.violate i.node 1 (RegKind.VSF_PGRAN.addr 0 j)
  else
    let old := s.rg .VSF_PGRAN 0 j
    let rise := w &&& ~~~old
    let s1 := s.setRg w .VSF_PGRAN 0 j
    { s1 with vsf := { s1.vsf with clean := s1.vsf.clean.filter (fun g => !(g / 64 == j && bitAt rise (g % 64))) } }

/-- VSF_PGRAN (R368). -/
def execVsfPgranWrite (i : Init) (j : Fin 64) (data : Word) (s : State) : Out :=
  if s.alive then .next (s.pgranWrite i j data) else .next s

/-- The next granule to zero: the lowest dirty, eligible one that no slice holds. -/
def State.nextDirty (s : State) : Option Nat := s.freeGrans.find? (fun g => !s.vsf.clean.contains g)

/-- GRANULE_ZERO (R368): the manager begins to zero the lowest dirty eligible granule; one at a time. -/
def execGranuleZero (s : State) : Out :=
  if !s.alive || !s.vsf.zeroing.isEmpty || !s.fb .VSF_CTL VSF_CTL.EN then .next s
  else
    match s.nextDirty with
    | some g => .next { s with vsf := { s.vsf with zeroing := [g] } }
    | none => .next s

/-- Every line of a granule becomes zero: stored words and cached lines are dropped, each line is a WRF of zeros (R368). -/
def State.zeroLines (s : State) (base : Nat) : Nat → State
  | 0 => s
  | n + 1 => ((s.zeroLines base n).writeLine vsfNode (base + n) false fullMask 0 0).2

/-- GRANULE_CLEAN (R368): the granule's 8,388,608 lines have been written with zeros, once their homes take them; it is clean,
unless it has left the pool. -/
def execGranuleClean (g : Fin 4096) (s : State) : Out :=
  if s.alive && s.vsf.zeroing.contains g.val &&
      (List.range 0x800000).all (fun k => s.takesWrite vsfNode (g.val * 0x800000 + k) false) then
    let s1 := s.zeroLines (g.val * 0x800000) 0x800000
    .next { s1 with vsf := { s1.vsf with zeroing := [], clean := if s1.vsf.clean.contains g.val then s1.vsf.clean else g.val :: s1.vsf.clean } }
  else .next s

/-! The slice window (R375, R376). -/

/-- VSF_VRUN (R375): releases every HELD core of the slice; the manager's votes end. -/
def State.vrun (s : State) (n : Nat) : State :=
  let v := s.slice n
  if v.st = 2 then
    (v.cores.foldl (fun s c => s.coreReleaseOp c) (s.putSlice n { v with run := true })).freeVotes v.cores
  else s

/-- VSF_VRUN (R375). -/
def execVsfVrun (_i : Init) (n : Fin 240) (s : State) : Out := if s.alive then .next (s.vrun n) else .next s

/-- VSF_PGRANT (R375): OKIND 2 and OID s whatever the fields hold; TAG[3:2] must be 0. -/
def State.vfGrant (s0 : State) (n : Nat) (w : Word) : State :=
  let s := s0.poolSync
  let t := getF w VSF_PGRANT.TAG
  if 4 ≤ t ∨ (s0.slice n).st ≠ 2 then s0
  else if s.fd .VSF_PGREST VSF_PGREST.STATUS 0 n t = 1 then s.setFd .PRL_STATUS PRL_STATUS.GERR 1
  else s.grantRequest ⟨2, n, getF w VSF_PGRANT.LEASE, getF w VSF_PGRANT.EXPECT, false, 1, 4 * n + t⟩ (getF w VSF_PGRANT.WAIT == 1)

/-- VSF_PGRANT (R375). -/
def execVsfPgrant (_i : Init) (n : Fin 240) (data : Word) (s : State) : Out :=
  if s.alive then .next (s.vfGrant n data) else .next s

/-- CANCEL and ACK of VSF_PGREST (R375, 05 R161). -/
def State.vfGrest (s0 : State) (n t : Nat) (w : Word) : State :=
  let s := s0.poolSync
  let wait := s.fd .VSF_PGREST VSF_PGREST.STATUS 0 n t == 1
  let s1 := if getF w VSF_PGREST.CANCEL = 1 ∧ wait then
      { s.setFd .VSF_PGREST VSF_PGREST.STATUS 3 0 n t with
        waitq := s.waitq.filter (fun q => !(q.dest == 1 && q.tag == 4 * n + t)) }
    else s
  if getF w VSF_PGREST.ACK = 1 ∧ s1.fd .VSF_PGREST VSF_PGREST.STATUS 0 n t ≠ 1 then
    s1.setFd .VSF_PGREST VSF_PGREST.STATUS 0 0 n t
  else s1

/-- VSF_HDB (R376): ignored while the slice is not LIVE. -/
def State.hdb (s : State) (n : Nat) (bits : Word) : State :=
  if (s.slice n).st = 2 then s.setRg (s.rg .VSF_HDBPEND 0 n ||| bits) .VSF_HDBPEND 0 n else s

/-- VSF_HDB (R376). -/
def execVsfHdb (_i : Init) (n : Fin 240) (bits : Word) (s : State) : Out :=
  if s.alive then .next (s.hdb n bits) else .next s

/-- VSF_SDB (R376): vector n of the VF; n at or above VEC is ignored and counts as a REG spoof. -/
def State.sdb (s : State) (i : Init) (n v : Nat) : State :=
  if (s.slice n).st ≠ 2 then s
  else if (s.slice n).vec ≤ v then s.spoof n 4 i.node (RegKind.VSF_SDB.addr 0 n)
  else s.msixSend (16 + n) v

/-- VSF_SDB (R376). -/
def execVsfSdb (i : Init) (n : Fin 240) (v : BitVec 11) (s : State) : Out :=
  if s.alive then .next (s.sdb i n v.toNat) else .next s

/-- VSF_PSTAT as a read finds it (R368). -/
def State.pstat (s : State) : Word :=
  let fg := s.freeGrans
  let cl := fg.filter (fun g => s.vsf.clean.contains g)
  setF (setF (setF (setF (setF 0 VSF_PSTAT.FCORE s.freeCores.length) VSF_PSTAT.CGRAN cl.length) VSF_PSTAT.DGRAN
    (fg.length - cl.length)) VSF_PSTAT.FDMA s.freeDmas.length) VSF_PSTAT.FVEC s.freeVec

end Sys2Proof.Machine
end

