-- ==== Sys2Proof/Machine/HostFn.lean ====
section
/-! DEFINITION. Functions of the attached endpoint (13 R355-R360): Bus Master Enable, function resets, D3hot, resizable
BARs, link loss. -/
namespace Sys2Proof.Machine

/-- Requests of a function of the endpoint. -/
def HbReq.ofFunc (f : Nat) (q : HbReq) : Bool := q.ctl == 0 && q.func == f

/-- One request of a function ends as for a clear Bus Master Enable (R356): a read is answered at once and its completion will be
discarded, a queued write is discarded, which is an event of kind 6. -/
def State.masterOffOne (s : State) (q : HbReq) : State :=
  let st := masterOffFor q.node
  if q.phase = 0 then
    State.hbAnswer { s with hb := { s.hb with out := s.hb.out.map (fun x => if q.same x then { x with phase := 3 } else x) } } q st 0 0 0
  else if q.phase = 1 then (s.hbErr 0 6 0 0 q.addr).hbEnd q st
  else s

/-- The requests of a function end as for a clear Bus Master Enable (R356). -/
def State.endFunc (s : State) (f : Nat) : State :=
  if !s.boot.attached then s else (s.hb.out.filter (HbReq.ofFunc f)).foldl State.masterOffOne s

/-- The requests of a function end with its reset (R358): completions that come later are unexpected. -/
def State.endFuncReset (s : State) (f : Nat) : State :=
  let s1 := s.endFunc f
  { s1 with hb := { s1.hb with out := s1.hb.out.filter (fun q => !(q.ofFunc f && q.phase == 3)) } }

/-- The configuration of a function returns to reset values (R358), its sticky registers (AER) excepted. -/
def State.cfgReset (s : State) (f : Nat) : State :=
  { s with hb := { s.hb with
      cfg := s.hb.cfg.keep (fun a => a / 0x1000 != f || (decide (0x100 ≤ a % 0x1000) && decide (a % 0x1000 < 0x140)))
      msixTab := s.hb.msixTab.keep (fun k => k / 4096 != f)
      atc := s.hb.atc.keep (fun k => k / 2 ^ 52 != f) } }

/-- Bus Master Enable of a function is cleared (R356). -/
def State.busMasterOff (s : State) (f : Nat) : State := (s.setEpf f { s.epf f with bme := false }).endFunc f

/-- BUS_MASTER_DISABLE (R356). -/
def execBusMasterDisable (func : Nat) (s : State) : Out :=
  if s.alive && s.boot.attached then .next (s.busMasterOff func) else .next s

/-- Bus Master Enable of a function is set: MSI-X messages held in its PBA are sent (R356). -/
def State.busMasterOn (s : State) (f : Nat) : State :=
  let e := s.epf f
  e.pba.reverse.foldl (fun s n => s.msixSend f n) (s.setEpf f { e with bme := true, pba := [] })

/-- A VF function-level reset begins (R358): its requests end, its configuration returns to reset values, its slice is
destroyed (14 R372). -/
def State.flrVf (s : State) (n : Nat) : State :=
  let s1 := (s.endFuncReset (16 + n)).cfgReset (16 + n)
  let live := (s1.slice n).st != 0
  (s1.setEpf (16 + n) { EpFunc.reset with resetting := live }).destroyRequest n

/-- VF_FLR (R358). -/
def execVfFlr (n : Fin 240) (s : State) : Out :=
  if s.alive && s.boot.attached && s.hb.vfEn && decide (n.val < s.hb.numVfs) then .next (s.flrVf n) else .next s

/-- The functions of the endpoint: the PF and the VFs. -/
def epFuncs : List Nat := 0 :: (List.range 240).map (fun n => 16 + n)

/-- A PF reset (R359): every function ends its requests, VF Enable clears, every slice is destroyed. -/
def State.pfResetOp (s : State) : State :=
  let s1 := (epFuncs.foldl (fun s f => s.endFuncReset f) s).cfgReset 0
  let s2 := (List.range 240).foldl (fun s n => s.flrVf n) s1
  let s3 := s2.pfDefaults
  s3.setEpf 0 { s3.epf 0 with resetting := s3.sliceHeld (fun _ => true) }

/-- PF_RESET (R359): a function-level reset, a hot reset, a secondary bus reset, or the loss of the upstream link, to which
R355 applies as well. -/
def execPfReset (linkLoss : Bool) (s : State) : Out :=
  if s.alive && s.boot.attached then
    .next ((if linkLoss then s.linkLost 0 0 else s).pfResetOp)
  else .next s

/-- LINK_DOWN (R355, R359). -/
def execLinkDown (ctl : Fin 8) (port : Fin 4) (s : State) : Out :=
  let k := ctl.val
  let j := port.val
  if !s.alive || !s.hbLink k j then .next s
  else if s.attachedHb k && j == 0 then .next (s.linkLost k j).pfResetOp
  else .next (s.linkLost k j)

/-- Pending MSI-X vectors of a function that can be sent now are sent (R356). -/
def State.msixFlush (s : State) (f : Nat) : State :=
  let e := s.epf f
  e.pba.reverse.foldl (fun s n => s.msixSend f n) (s.setEpf f { e with pba := [] })

/-- A function is in D0 again (R360): its state is kept, messages held meanwhile go out. -/
def State.d3Leave (s : State) (f : Nat) : State := (s.setEpf f { s.epf f with d3hot := false }).msixFlush f

/-- A function enters D3hot (R360): as for a clear Bus Master Enable. -/
def State.d3Enter (s : State) (f : Nat) : State := (s.setEpf f { s.epf f with d3hot := true }).endFunc f

/-- D3HOT_ENTRY (R360). -/
def execD3hotEntry (func : Nat) (s : State) : Out :=
  if s.alive && s.boot.attached then .next (s.d3Enter func) else .next s

/-- A base with the bits below a size cleared (R350). -/
def barAlign (b size : Nat) : Nat := b / size * size

/-- A write of a Resizable BAR Control (R350): BAR size `n` is 2^(n + 20) bytes; a size that R341 does not list is not
taken. -/
def State.resizeBar (s : State) (vf : Bool) (n : Nat) : State :=
  if vf then
    if 8 ≤ n ∧ n ≤ 18 then
      { s with hb := { s.hb with vfBar2size := 2 ^ (n + 20), vfBar2 := barAlign s.hb.vfBar2 (2 ^ (n + 20)) } }
    else s
  else
    if 10 ≤ n ∧ n ≤ 22 then
      s.setEpf 0 { s.epf 0 with bar2size := 2 ^ (n + 20), bar2 := barAlign (s.epf 0).bar2 (2 ^ (n + 20)) }
    else s

/-- RESIZABLE_BAR_WRITE (R350). -/
def execResizableBarWrite (vf : Bool) (size : BitVec 6) (s : State) : Out :=
  if s.alive && s.boot.attached then .next (s.resizeBar vf size.toNat) else .next s

end Sys2Proof.Machine
end

