-- ==== Sys2Proof/Machine/Fabric.lean ====
section
/-! DEFINITION. The fabric engine (15): ports and their filter, peer links, the global window, E-class slots, collectives
and Atlas probes. -/
namespace Sys2Proof.Machine

/-! Addresses of the global window (01 R27). -/

/-- Self-folding: an address of this package's own global window becomes the local one. -/
def State.fold (s : State) (a : Nat) : Nat :=
  if region a = .globl ∧ a / 2 ^ 46 % 512 = s.pkgNum then a % 2 ^ 46 else a

/-- The package an address of the global window names. -/
def globPkg (a : Nat) : Nat := a / 2 ^ 46 % 512

/-! Ports (R380-R383, R394). -/

/-- A MAC owns its octets (R380, 13 R332): FM6 and FM7 always, the others where the image does not give them to their controller. -/
def State.macOwns (s : State) (m : Nat) : Bool := 6 ≤ m || s.fd .HBU_CTL HBU_CTL.OWN (5 + m / 2) == 0

/-- A port exists in the mode of its MAC (R380). -/
def State.portExists (s : State) (q : Nat) : Bool :=
  let mode := if s.macOwns (q / 2) then s.fd .FAB_PCFG FAB_PCFG.MODE (q / 2) else 0
  mode == 2 || (mode == 1 && q % 2 == 0)

/-- Link state of a port. -/
def State.portUp (s : State) (q : Nat) : Bool := (s.fd .FAB_PSTAT FAB_PSTAT.LINK (q / 2)).testBit (q % 2)

/-- Write a port's bit of LINK. -/
def State.setPortUp (s : State) (q : Nat) (up : Bool) : State :=
  let l := s.fd .FAB_PSTAT FAB_PSTAT.LINK (q / 2)
  let b := 2 ^ (q % 2)
  s.setFd .FAB_PSTAT FAB_PSTAT.LINK (if up then l ||| b else if l.testBit (q % 2) then l - b else l) (q / 2)

/-- PORT_LINK_UP (R381): training ends; the MAC's octets and power domain are on. -/
def execPortLinkUp (q : Fin 16) (s : State) : Out :=
  if s.alive && s.portExists q.val && !s.gateClosed (252 + q.val / 2) && s.domState (252 + q.val / 2) == 0 then .next (s.setPortUp q.val true) else .next s

/-- The packet types a link takes in its state (R394). -/
def State.typeAllowed (s : State) (n typ : Nat) : Bool :=
  let st := s.lstate n
  if 2 ≤ typ ∧ typ ≤ 4 then
    st == 1 || (typ == 2 && (st == 0 || st == 4) && s.fb .FAB_PEER_CTL FAB_PEER_CTL.EN 0 n)
  else st == 2 || st == 3

/-- Count a drop of a port. -/
def State.portDrop (s : State) (q : Nat) (f : Fld) : State := s.satFd .FAB_PCNT f (q / 2) (q % 2)

/-- A handshake packet is taken, at most 1,024 in a second of package time (R394). -/
def State.takeHs (s : State) (q : Nat) : Option State :=
  let sec := s.nowNs / 1000000000
  let n := if s.fab.hsCount.getD (16 + q) 0 = sec then s.fab.hsCount.getD q 0 else 0
  if n < 1024 then
    some { s with fab := { s.fab with hsCount := (s.fab.hsCount.set q (n + 1)).set (16 + q) sec } }
  else none

/-- ETH_FRAME_RECEIVE (R394, R381): the checks in order; a frame that passes brings its packet as a command of its own. -/
def execEthFrameReceive (q : Fin 16) (f : EthFrame) (s : State) : Out :=
  let p := q.val
  if !s.alive || s.gateClosed (252 + p / 2) || !s.portUp p then .next s
  else if f.pauseFrame then .next (s.portDrop p FAB_PCNT.OTHER)
  else if !f.ipv6 || decide (9216 < f.len) then .next (s.portDrop p FAB_PCNT.STRANGER)
  else if f.icmp || f.udp == 319 || f.udp == 320 then .next s
  else if f.dstOk != s.portAddr p || f.udp != s.fd .FAB_CTL FAB_CTL.UDP || !(f.major == 1 || f.major == 2) || decide (8 < f.typ) || f.dstpkg != s.pkgNum ||
      decide (512 ≤ f.srcpkg) || f.src != s.peerAddr f.srcpkg || !s.typeAllowed f.srcpkg f.typ then
    .next (s.portDrop p FAB_PCNT.STRANGER)
  else
    let hs := decide (2 ≤ f.typ) && decide (f.typ ≤ 4)
    match (if hs then s.takeHs p else some s) with
    | none => .next (s.portDrop p FAB_PCNT.HSDROP)
    | some s1 =>
      if !hs && !f.tagOk then .next (s1.portDrop p FAB_PCNT.AUTHFAIL)
      else if f.ce then
        let l := s1.link f.srcpkg
        .next ((s1.satFd .FAB_PCNTX FAB_PCNTX.CESEEN (p / 2) (p % 2)).setLink f.srcpkg { l with ece := true })
      else .next s1

/-- NEIGHBOR_SOLICITATION (R383): Neighbor Solicitation or Echo Request for the port's own address is answered. -/
def execNeighborSolicitation (q : Fin 16) (target : BitVec 128) (s : State) : Out :=
  if s.alive && !s.gateClosed (252 + q.val / 2) && s.portUp q.val && target == s.portAddr q.val then
    .next { s with fab := { s.fab with ndSent := s.fab.ndSent.set q.val (s.fab.ndSent.getD q.val 0 + 1) } }
  else .next s

/-! Transactions (R399-R402). -/

/-- A feature that the link has negotiated (R389). -/
def State.linkFeat (s : State) (n b : Nat) : Bool := (s.fd .FAB_PEER_STAT FAB_PEER_STAT.FEAT 0 n).testBit b

/-- WRF and WRP. -/
def msgWrite (m : FabMsg) : Bool := m.mop == 1 || m.mop == 2

/-- The global address a transaction names. -/
def FabTxn.addr (t : FabTxn) : Nat := 2 ^ 55 + t.peer * 2 ^ 46 + t.msg.offset

/-- The node of the pair link: the initiator of held output once it leaves (16 R431). -/
def pairNode : Nat := hubNode 1

/-- A transaction ends with a status (R399, R401). A core's write frees its place and keeps a failure for FENCE.G; every
other initiator is answered. -/
def State.txnEnd (s : State) (t : FabTxn) (st : Status) (d : LineData) (p : BitVec 16) (old : Word) : State :=
  let s1 := { s with fab := { s.fab with txns := s.fab.txns.erase t } }
  match nodeCore t.node with
  | some n =>
    if msgWrite t.msg then
      let s2 := s1.modCore n (fun c => { c with openW := c.openW - 1 })
      if st = .ok then s2 else { s2 with fab := { s2.fab with txns := s2.fab.txns ++ [{ t with status := st }] } }
    else (s1.modCore n (fun c => { c with openR := c.openR - 1 })).replyTo t.node t.gen t.ntag st d p old
  | none =>
    if t.node = pairNode then
      if st = .ok then s1 else s1.recordErr ⟨0x3C, 24, pairNode, some t.addr, some (Status.code st), false⟩
    else s1.replyTo t.node t.gen t.ntag st d p old

/-- A transaction that ends with TOUT is recorded in FAB_ERR. -/
def State.txnTout (s : State) (t : FabTxn) : State := (s.fabErr 1 t.peer 4 t.addr).txnEnd t .tout 0 0 0

/-- Transactions of a link that are under way. -/
def State.linkTxns (s : State) (n : Nat) : List FabTxn := s.fab.txns.filter (fun t => t.peer == n && t.status == .ok)

/-- The GWIN context that lets a slice reach an address (R404). -/
def State.gwinOf (s : State) (slice a : Nat) : Option Nat :=
  (List.range 256).find? (fun n =>
    let p0 := (s.rg .FAB_CPKG0 0 n).toNat
    let p1 := (s.rg .FAB_CPKG1 0 n).toNat
    let g := a % 2 ^ 46 / 2 ^ 30
    s.fb .FAB_CCTL FAB_CCTL.V 0 n && s.fd .FAB_CCTL FAB_CCTL.KIND 0 n == 1 && s.fd .FAB_CCTL FAB_CCTL.SLICE 0 n == slice &&
      decide (p0 % 512 ≤ globPkg a) && decide (globPkg a ≤ p0 / 2 ^ 16 % 512) &&
      decide (p1 % 4096 ≤ g) && decide (g ≤ p1 / 2 ^ 16 % 4096))

/-- What the engine does with a request at once: it waits (R402), it is answered, or its reply comes later. -/
inductive GlobRes where
  | stall
  | answer (st : Status)
  | wait
deriving DecidableEq, Repr

/-- The first unused transaction tag from `t` on; tag 0 is left to collectives. -/
def State.fabTag (s : State) : Nat → Nat → Nat
  | 0, t => t
  | k + 1, t =>
    if s.fab.txns.any (fun x => x.tag == t && x.status == .ok) then s.fabTag k (t % 65535 + 1) else t

/-- R402: whether the engine has room for the request. -/
def State.globRoom (s : State) (node : Nat) (write : Bool) : Bool :=
  decide ((s.fab.txns.filter (fun t => t.status == .ok)).length < 8192) &&
    (match nodeCore node with
     | some n => if write then decide ((s.core n).openW < 64) else decide ((s.core n).openR < 16)
     | none => true)

/-- A request for another package's line (R400-R404): `m` carries its MOP and payload, `ntag` the initiator's tag, `va`
the address a core keeps for its write. -/
def State.globalReq (s : State) (i : Init) (ntag : Nat) (va : Word) (line : Nat) (m : FabMsg) : GlobRes × State :=
  let a := line * 128
  let n := globPkg a
  let ctx := if i.slice = 0xFF then some 0 else s.gwinOf i.slice a
  if i.sec then (.answer .ur, s)
  else
    match ctx with
    | none => (.answer .decerr, s.spoof i.slice 2 i.node a)
    | some c =>
      if !s.fb .FAB_CTL FAB_CTL.EN || s.lstate n != 2 || (m.mop == 3 && !s.linkFeat n 1) then (.answer .ur, s)
      else if !s.globRoom i.node (msgWrite m) then (.stall, s)
      else
        let tag := s.fabTag 8192 (s.fab.nextTag % 65535 + 1)
        let q := { m with tag := tag, ctx := c, offset := a % 2 ^ 46 }
        let core := nodeCore i.node
        let quick := (core.isSome && msgWrite m) || i.node == pairNode
        let s1 := { s with fab := { s.fab with txns := s.fab.txns ++ [FabTxn.mk n tag i.node ntag q va quick i.gen (s.limitFor a) .ok]
                                               nextTag := tag } }
        let s2 :=
          match core with
          | some k => s1.modCore k (fun c => if msgWrite m then { c with openW := c.openW + 1 } else { c with openR := c.openR + 1 })
          | none => s1
        (if quick then .answer .ok else .wait, s2.linkPost n q)

/-- FENCE.G (R401): what the ended remote writes of a core leave: the status and VA of the first that failed. -/
def State.takeFailed (s : State) (n : Nat) : State :=
  let bad := fun (t : FabTxn) => t.node == coreNode n && t.status != .ok
  match s.fab.txns.find? bad with
  | none => s
  | some t =>
    let s1 := { s with fab := { s.fab with txns := s.fab.txns.filter (fun x => !bad x) } }
    s1.modCore n (fun c => c.storeError ⟨Status.code t.status, t.va⟩)

/-! Inbound requests (R398, R403-R405). -/

/-- The inbound window of a link lets an offset pass (R404). -/
def State.inWin (s : State) (n off : Nat) : Bool :=
  let g := off / 2 ^ 30
  !s.fb .FAB_PEER_IWIN FAB_PEER_IWIN.IWEN 0 n ||
    (decide (s.fd .FAB_PEER_IWIN FAB_PEER_IWIN.IBASE 0 n ≤ g) && decide (g ≤ s.fd .FAB_PEER_IWIN FAB_PEER_IWIN.ILIMIT 0 n))

/-- MOP of the reply to a request: RDATA, WACK, ADATA, CMP. -/
def replyMop (mop : Nat) : Nat := if mop = 0 then 6 else if mop = 1 ∨ mop = 2 then 7 else if mop = 3 then 8 else 9

/-- A reply on a link; a link that is not OPEN or CLOSING takes none (R399). -/
def State.fabReply (s : State) (n : Nat) (m : FabMsg) : State :=
  if s.lstate n = 2 ∨ s.lstate n = 3 then s.linkPost n m else s

/-- The mirrored ranges in which a write's WACK waits for a commit (16 R432): the primary entry in MIRROR. -/
def State.wackEntry (s : State) (line : Nat) : Option Nat :=
  (s.markers line).find? (fun e => s.fd .PAIR_MP_STAT PAIR_MP_STAT.STATE 0 e != 1)

/-- An E-class write goes to its home as an EPC packet while a slot of the engine is active, and is charged to it (09 R241, R256);
any other request goes as REQ. -/
def State.fabEpc (s : State) (m : FabMsg) : State :=
  let n := msgSize m
  if m.eclass && msgWrite m && decide (n ≤ s.eclassRoom fabNode) then
    s.epcSend fabNode (if m.mop = 1 then opWRF else opWRP) (homeNode (homeOf (m.offset / 128))) 0 m.offset n false m.data m.psnmap 0xFF
  else s

/-- Perform one inbound request; none while its home answers RETRY. -/
def State.performIn (s : State) (n : Nat) (m : FabMsg) : Option State :=
  let base := { FabMsg.bare (replyMop m.mop) with tag := m.tag, ctx := m.ctx, eclass := false }
  let line := m.offset / 128
  if !s.inWin n m.offset then
    some ((s.fabErr 4 n 6 (2 ^ 55 + s.pkgNum * 2 ^ 46 + m.offset)).fabReply n { base with status := .ur })
  else
    let op := match m.mop with | 0 => opRDC | 1 => opWRF | 2 => opWRP | 3 => opATOMF | 4 => opCLN | _ => opFLS
    let r : CohReq := { CohReq.bare fabNode line false with
      gen := s.genOf fabNode, mask := if m.mop = 1 then fullMask else m.mask, data := m.data, poison := m.psnmap
      aop := m.aop, aoff := m.aoff, operand := m.operand, compare := m.compare }
    let (a, s1) := (s.fabEpc m).homeDo op r
    if a.status = .retry then none
    else
      let rep := { base with status := a.status, data := a.data, operand := a.old
                             psnmap := if m.mop = 3 then (if a.psn then 1 else 0) else a.poison }
      match (if msgWrite m && a.status == .ok then s1.wackEntry line else none) with
      | some e => some { s1 with pair := { s1.pair with wacks := s1.pair.wacks ++ [(n, m.tag, e, s1.outFrame e)] } }
      | none => some (s1.fabReply n rep)

/-- Perform the accepted requests of a link in their order (R403); the last argument bounds them. -/
def State.serveIn (s : State) (n : Nat) : Nat → State
  | 0 => s
  | k + 1 =>
    let l := s.link n
    match l.inq with
    | [] => s
    | m :: t =>
      match (s.setLink n { l with inq := t }).performIn n m with
      | some s1 => s1.serveIn n k
      | none => s

/-- Requests the inbound tracker holds, of every link (R398). -/
def State.inbound (s : State) : Nat := s.fab.links.l.foldl (fun a e => a + e.2.inq.length) 0

/-! Collectives (R409-R412). -/

/-- A message is discarded and counted in FAB_ERR. -/
def State.discard (s : State) (n : Nat) : State := s.fabErr 3 n 0 0

/-- The context is a valid collective. -/
def State.isColl (s : State) (n : Nat) : Bool :=
  s.fb .FAB_CCTL FAB_CCTL.V 0 n && s.fd .FAB_CCTL FAB_CCTL.KIND 0 n == 2

/-- A refused command of a context (R410). -/
def State.collCerr (s : State) : State := s.setFd .FAB_STATUS FAB_STATUS.CERR 1

/-- FAILED with a cause and nothing to release or tell. -/
def State.collStop (s : State) (n cause : Nat) : State :=
  (s.setFd .FAB_CSTAT FAB_CSTAT.STATE 5 0 n).setFd .FAB_CSTAT FAB_CSTAT.CAUSE cause 0 n

/-- START (R410 step 1). -/
def State.collStartOp (s : State) (n : Nat) : State :=
  if s.collState n ≠ 0 ∨ !s.isColl n then s.collCerr
  else
    let q := wrapInc 16 (s.fd .FAB_CSTAT FAB_CSTAT.SEQ 0 n)
    let s1 := (s.setRg (setF 0 FAB_CSTAT.SEQ q) .FAB_CSTAT 0 n).setColl n Coll.reset
    let near := s1.collNeighbours n
    if near.any (fun p => s1.lstate p != 2) then s1.collStop n 2
    else if near.any (fun p => !s1.linkFeat p 2) then s1.collStop n 5
    else
      let w : Waiter := ⟨3, n, s1.fd .FAB_CCTL FAB_CCTL.LEASE 0 n,
        s1.fd .FAB_CCTL FAB_CCTL.LOCAL 0 n + min 8 (s1.fd .FAB_CCTL FAB_CCTL.NCH 0 n), false, 2, n⟩
      (s1.setFd .FAB_CSTAT FAB_CSTAT.STATE 1 0 n).grantRequest w true

/-- COLL_START (R410). -/
def execCollStart (n : Fin 256) (s : State) : Out := if s.alive then .next (s.collStartOp n.val) else .next s

/-- COLL_GRANTED (R410 steps 1 and 4): the outcome of the slot request arrives. A slot that is COMPLETE already goes up at
once. -/
def execCollGranted (n : Fin 256) (s : State) : Out :=
  let c := n.val
  if !s.alive || s.collState c != 1 then .next s
  else
    match (s.coll c).outcome with
    | none => .next s
    | some 2 =>
      let s1 := s.setFd .FAB_CSTAT FAB_CSTAT.STATE 2 0 c
      let k := s1.fd .FAB_CSTAT FAB_CSTAT.SLOT 0 c
      .next (if s1.slotState k = 2 then
        s1.collSlotComplete c k (s1.slotFd k PRL_SLOT_STAT.EPOCH) (s1.slot k).value (s1.slotFlags k) else s1)
    | some _ => .next (s.collStop c 6)

/-- The slot of a context while the context owns it. -/
def State.collSlot (s : State) (n : Nat) : Option Nat :=
  let k := s.fd .FAB_CSTAT FAB_CSTAT.SLOT 0 n
  if s.slotFd k PRL_SLOT_STAT.OKIND = 3 ∧ s.slotFd k PRL_SLOT_STAT.OID = n ∧ (s.slotState k = 1 ∨ s.slotState k = 2) then some k
  else none

/-- END (R410 step 6, R411): DONE releases the slot; FAILED returns to IDLE. -/
def State.collEndOp (s : State) (n : Nat) : State :=
  let st := s.collState n
  if st = 4 then
    State.setFd (match s.collSlot n with | some k => s.slotPut k .release | none => s) .FAB_CSTAT FAB_CSTAT.STATE 0 0 n
  else if st = 5 then s.setFd .FAB_CSTAT FAB_CSTAT.STATE 0 0 n
  else s.collCerr

/-- COLL_END (R410). -/
def execCollEnd (n : Fin 256) (s : State) : Out := if s.alive then .next (s.collEndOp n.val) else .next s

/-- ABORT (R411). -/
def State.collAbortOp (s : State) (n : Nat) : State :=
  let st := s.collState n
  if st = 1 ∨ st = 2 ∨ st = 3 then s.collFail n 4 else s.collCerr

/-- COLL_ABORT (R411). -/
def execCollAbort (n : Fin 256) (s : State) : Out := if s.alive then .next (s.collAbortOp n.val) else .next s

/-- A write of FAB_CCMD. -/
def State.collCommand (s : State) (n op : Nat) : State :=
  match op with
  | 1 => s.collStartOp n
  | 2 => s.collEndOp n
  | 3 => s.collAbortOp n
  | _ => s

/-- RNR to a message. -/
def State.rnrFor (s : State) (n : Nat) (m : FabMsg) : State :=
  s.linkPost n { FabMsg.bare 10 with tag := m.tag, ctx := m.ctx, seq := m.seq }

/-- COLLUP (R410 step 3). -/
def State.collUp (s : State) (n : Nat) (m : FabMsg) : State :=
  let c := m.ctx
  let seq := s.fd .FAB_CSTAT FAB_CSTAT.SEQ 0 c
  let ahead := (m.seq + 65536 - seq) % 65536
  if !s.isColl c || !(s.collChildren c).contains n then s.discard n
  else if (ahead ≠ 0 ∧ ahead < 32768) ∨ (ahead = 0 ∧ s.collState c = 1) then s.rnrFor n m
  else if ahead ≠ 0 ∨ s.collState c ≠ 2 ∨ (s.coll c).got.contains n then s.discard n
  else
    match m.crec with
    | none => s.discard n
    | some r =>
      let k := s.fd .FAB_CSTAT FAB_CSTAT.SLOT 0 c
      let r1 := { r with slot := k, epoch := s.slotFd k PRL_SLOT_STAT.EPOCH }
      match (s.setColl c { s.coll c with got := n :: (s.coll c).got }).takeRecord k r1 ⟨fabNode, false, 0xFF, s.genOf fabNode, 0⟩ with
      | some e => e.2
      | none => s.rnrFor n m

/-- COLLDOWN (R410 step 5): the record replaces the slot's value and flags. -/
def State.collDown (s : State) (n : Nat) (m : FabMsg) : State :=
  let c := m.ctx
  if !s.isColl c || s.fb .FAB_CCTL FAB_CCTL.ROOT 0 c || n != s.collParent c || m.seq != s.fd .FAB_CSTAT FAB_CSTAT.SEQ 0 c ||
      s.collState c != 3 then s.discard n
  else
    match m.crec with
    | none => s.discard n
    | some r =>
      let v : Acc := if r.zero then 0 else fromSpan r.lo r.hi r.neg r.words
      let s1 :=
        match s.collSlot c with
        | some k =>
          let s2 := (s.setSlot k { s.slot k with value := v }).setSlotFd k PRL_SLOT_STAT.FLAGS r.flags.toNat
          s2.setRg (spanWord (accSpan v) r.flags.toNat) .PRL_SLOT_SPAN 0 k
        | none => s
      ((s1.collDone c).collChildren c).foldl (fun s x => s.linkPost x (s.collMsg c 12 (some r))) (s1.collDone c)

/-- COLLABORT from a tree neighbour (R411). -/
def State.collAborted (s : State) (n : Nat) (m : FabMsg) : State :=
  if s.isColl m.ctx && (s.collNeighbours m.ctx).contains n && m.seq == s.fd .FAB_CSTAT FAB_CSTAT.SEQ 0 m.ctx then
    s.collFail m.ctx 3
  else s.discard n

/-! Delivery of messages (R386, R395). -/

/-- A link in CLOSING sends CLOSE once every transaction has ended (R388). -/
def State.closeCheck (s : State) (n : Nat) : State :=
  if s.lstate n = 3 ∧ (s.linkTxns n).isEmpty ∧ !(s.link n).closeSent then
    (s.setLink n { s.link n with closeSent := true }).linkEmit n 6 []
  else s

/-- RNR (R398): the message waits 10 us. -/
def State.rnrTaken (s : State) (n : Nat) (m : FabMsg) : State :=
  let s1 := s.satFd .FAB_PEER_CNT FAB_PEER_CNT.RNR 0 n
  let l := s1.link n
  match (s1.linkTxns n).find? (fun t => t.tag == m.tag) with
  | some t => s1.setLink n { l with rnr := l.rnr ++ [t.msg] }
  | none =>
    if m.tag = 0 ∧ s1.isColl m.ctx ∧ s1.collState m.ctx = 3 ∧ s1.collParent m.ctx = n ∧
        m.seq = s1.fd .FAB_CSTAT FAB_CSTAT.SEQ 0 m.ctx then
      s1.setLink n { l with rnr := l.rnr ++ [s1.collMsg m.ctx 11 (s1.coll m.ctx).sentUp] }
    else s1.discard n

/-- Deliver one message of link `n`. -/
def State.deliverMsg (s : State) (n : Nat) (m : FabMsg) : State :=
  if m.mop ≤ 5 then
    if 256 ≤ s.inbound then s.rnrFor n m
    else
      let l := s.link n
      (s.setLink n { l with inq := l.inq ++ [m] }).serveIn n (l.inq.length + 1)
  else if m.mop ≤ 9 then
    match (s.linkTxns n).find? (fun t => t.tag == m.tag && replyMop t.msg.mop == m.mop) with
    | some t => (s.txnEnd t m.status m.data m.psnmap m.operand).closeCheck n
    | none => s
  else
    match m.mop with
    | 10 => s.rnrTaken n m
    | 11 => s.collUp n m
    | 12 => s.collDown n m
    | 13 => s.collAborted n m
    | _ => s.discard n

/-- Collectives that use a link fail (R399, R411). -/
def State.failColls (s : State) (n : Nat) : State :=
  (List.range 256).foldl (fun s c =>
    if s.fb .FAB_CCTL FAB_CCTL.V 0 c && s.fd .FAB_CCTL FAB_CCTL.KIND 0 c == 2 && (s.collNeighbours c).contains n then
      s.collFail c 2 else s) s

/-- The outbound transactions of a link end (R399): TOUT in progress, UR where the message is still queued. -/
def State.endTxns (s : State) (n : Nat) : State :=
  let l := s.link n
  (s.linkTxns n).foldl (fun s t =>
    if l.bqueue.contains t.msg || l.equeue.contains t.msg || l.rnr.contains t.msg then s.txnEnd t .ur 0 0 0
    else s.txnTout t) s

/-- A link leaves OPEN or CLOSING for `st`: what it carried ends. -/
def State.linkDownTo (s : State) (n st cause : Nat) : State :=
  let s1 := s.endTxns n
  let s2 := (s1.setLink n { Link.reset with inq := (s1.link n).inq }).linkEnter n st
  let s3 := (s2.setFd .FAB_PEER_STAT FAB_PEER_STAT.CAUSE cause 0 n).setFd .FAB_PEER_STAT FAB_PEER_STAT.ONALT 0 0 n
  (s3.failColls n).serveIn n (s3.link n).inq.length

/-! Handshake and states of a link (R387-R393). -/

/-- Whether this package sends HELLO on a link: it has the lower number. -/
def State.initiates (s : State) (n : Nat) : Bool := decide (s.pkgNum < n)

/-- OPENING (R388, R390). -/
def State.startOpen (s : State) (n : Nat) : State :=
  let s1 := (s.setLink n { Link.reset with inq := (s.link n).inq, helloOut := s.initiates n }).linkEnter n 1
  if s.initiates n then s1.linkSend n (FabPkt.plain 2) else s1

/-- What the offers of both sides give (R389): features + 256 * minor + 4,096 * major; 0 without a common major. -/
def agree (o : Offer) : Nat :=
  if o.maj2 then o.feat % 32 + 4096 * 2 else if o.maj1 then 4096 else 0

/-- OPEN (R388, R395, R397): sequence numbers, window and counters start anew. -/
def State.linkOpen (s : State) (n a : Nat) : State :=
  let s1 := (s.setLink n { Link.reset with inq := (s.link n).inq, rxPsn := 2 ^ 32 - 1, cwnd := 8 * 65536, rto := 16000, feat := a }).linkEnter n 2
  let w := setF (setF (setF (setF (setF (setF (s1.rg .FAB_PEER_STAT 0 n) FAB_PEER_STAT.MAJOR (a / 4096))
    FAB_PEER_STAT.MINOR (a / 256 % 16)) FAB_PEER_STAT.FEAT (a % 256)) FAB_PEER_STAT.CAUSE 0) FAB_PEER_STAT.KEYID 0)
    FAB_PEER_STAT.ONALT 0
  s1.setRg w .FAB_PEER_STAT 0 n

/-- A handshake fails: FAILED with its cause. -/
def State.hsFail (s : State) (n cause : Nat) : State :=
  ((s.setLink n { Link.reset with inq := (s.link n).inq }).linkEnter n 4).setFd .FAB_PEER_STAT FAB_PEER_STAT.CAUSE cause 0 n

/-- The checks every handshake packet passes first (R393, R394): its own number in SRCPKG is a duplicate. -/
def State.hsDup (s : State) (o : Offer) : Bool := o.srcpkg == s.pkgNum

/-- HELLO (R390): the responder answers with ACCEPT. -/
def execFabHello (peer : Fin 512) (o : Offer) (s : State) : Out :=
  let n := peer.val
  if !s.alive then .next s
  else if s.hsDup o then .next (s.setFd .FAB_STATUS FAB_STATUS.DUPPKG 1)
  else if !s.typeAllowed n 2 || s.initiates n || n == s.pkgNum then .next s
  else if agree o = 0 then .next (s.hsFail n 3)
  else
    let s1 := if s.lstate n = 1 then s else s.startOpen n
    .next ((s1.setLink n { s1.link n with feat := agree o }).linkSend n (FabPkt.plain 3))

/-- ACCEPT (R390): the initiator checks it, answers with FINISH, and the link is OPEN. -/
def execFabAccept (peer : Fin 512) (o : Offer) (s : State) : Out :=
  let n := peer.val
  if !s.alive then .next s
  else if s.hsDup o then .next (s.setFd .FAB_STATUS FAB_STATUS.DUPPKG 1)
  else if s.lstate n ≠ 1 ∨ !(s.link n).helloOut then .next s
  else if !o.idOk then .next ((s.setFd .FAB_STATUS FAB_STATUS.IDFAIL 1).hsFail n 2)
  else if agree o = 0 then .next (s.hsFail n 3)
  else .next (((s.setLink n { s.link n with feat := agree o }).linkSend n (FabPkt.plain 4)).linkOpen n (agree o))

/-- FINISH (R390): the responder checks the initiator's identity, and the link is OPEN. -/
def execFabFinish (peer : Fin 512) (o : Offer) (s : State) : Out :=
  let n := peer.val
  if !s.alive || s.lstate n != 1 || s.initiates n || (s.link n).feat == 0 then .next s
  else if !o.idOk then .next ((s.setFd .FAB_STATUS FAB_STATUS.IDFAIL 1).hsFail n 2)
  else .next (s.linkOpen n (s.link n).feat)

/-- EN of a peer link is written (R387, R388). -/
def State.peerEn (s : State) (n : Nat) (en : Bool) : State :=
  if n = s.pkgNum then s
  else
    let s1 := s.setFd .FAB_PEER_CTL FAB_PEER_CTL.EN (b2n en) 0 n
    if en then (if s1.lstate n = 0 ∧ s1.fb .FAB_CTL FAB_CTL.EN then s1.startOpen n else s1)
    else
      match s1.lstate n with
      | 1 => (s1.setLink n { Link.reset with inq := (s1.link n).inq }).linkEnter n 0
      | 2 => (s1.linkEnter n 3).closeCheck n
      | 4 => s1.linkEnter n 0
      | _ => s1

/-- PEER_ENABLE (R388). -/
def execPeerEnable (peer : Fin 512) (en : Bool) (s : State) : Out :=
  if s.alive then .next (s.peerEn peer.val en) else .next s

/-- FAB_CTL.EN sets: the links whose EN is 1 open (R388, R417). -/
def State.fabEnable (s : State) : State :=
  (List.range 512).foldl (fun s n =>
    if s.fb .FAB_PEER_CTL FAB_PEER_CTL.EN 0 n && s.lstate n == 0 && n != s.pkgNum then s.startOpen n else s) s

/-- HELLO_RESEND (R390). -/
def execHelloResend (peer : Fin 512) (s : State) : Out :=
  let n := peer.val
  if s.alive && s.lstate n == 1 && (s.link n).helloOut then .next (s.linkSend n (FabPkt.plain 2)) else .next s

/-- HANDSHAKE_TIMEOUT (R388). -/
def execHandshakeTimeout (peer : Fin 512) (s : State) : Out :=
  if s.alive && s.lstate peer.val == 1 then .next (s.hsFail peer.val 1) else .next s

/-- FAILED_RETRY (R388). -/
def execFailedRetry (peer : Fin 512) (s : State) : Out :=
  let n := peer.val
  if s.alive && s.lstate n == 4 && s.fb .FAB_PEER_CTL FAB_PEER_CTL.EN 0 n && s.fb .FAB_CTL FAB_CTL.EN then .next (s.startOpen n)
  else .next s

/-- CLOSING_TIMEOUT (R388). -/
def execClosingTimeout (peer : Fin 512) (s : State) : Out :=
  if s.alive && s.lstate peer.val == 3 then .next (s.linkDownTo peer.val 0 0) else .next s

/-- Handshakes under way fail when the Luna controller restarts (19 "Luna controller"). -/
def State.failHandshakes (s : State) : State :=
  (List.range 512).foldl (fun s n => if s.lstate n = 1 then s.hsFail n 1 else s) s

/-! Acknowledgement, loss and congestion (R395-R397). -/

/-- A packet is sent again with a new TXC (R396). -/
def State.resend (s : State) (n : Nat) (p : FabPkt) : State :=
  let q := s.linkPort n
  ((s.satFd .FAB_PEER_CNT FAB_PEER_CNT.RETX 0 n).satFd .FAB_PCNTX FAB_PCNTX.RETX (q / 2) (q % 2)).linkSend n p

/-- Whether an acknowledgement covers a PSN: up to ACKPSN, or by its SACK bit. -/
def ackCovers (sel : Bool) (ackpsn sack psn : Nat) : Bool :=
  decide ((ackpsn + 2 ^ 32 - psn) % 2 ^ 32 < 2 ^ 31) ||
    (sel && decide (2 ≤ (psn + 2 ^ 32 - ackpsn) % 2 ^ 32) && decide ((psn + 2 ^ 32 - ackpsn) % 2 ^ 32 < 34) &&
      sack.testBit ((psn + 2 ^ 32 - ackpsn) % 2 ^ 32 - 2))

/-- SACK bits for packets later than a PSN. -/
def sackLater (ackpsn sack psn : Nat) : Nat :=
  let at_ := (psn + 2 ^ 32 - ackpsn) % 2 ^ 32
  ((List.range 32).filter (fun i => sack.testBit i && decide (at_ < i + 2))).length

/-- The window after an acknowledgement (R397). Where a round trip ends, and which part of its packets was marked, are
free. -/
def State.window (s : State) (n : Nat) (ece : Bool) : State :=
  let (trip, s1) := s.drawBit
  let (w, s2) := s1.drawNat
  let l := s2.link n
  if !trip then s2
  else if ece then
    let a := (l.alpha * 15 + w % 65537) / 16
    s2.setLink n { l with alpha := a, cwnd := max 65536 (l.cwnd - l.cwnd * a / 131072) }
  else s2.setLink n { l with alpha := l.alpha * 15 / 16, cwnd := min (128 * 65536) (l.cwnd + 65536) }

/-- The measured round trip and the timeout that follows from it (R396); how the two averages are formed is free. -/
def State.measure (s : State) (n : Nat) : State :=
  let (a, s1) := s.drawNat
  let (v, s2) := s1.drawNat
  let srtt := a % 65536
  (s2.setFd .FAB_PEER_CNT FAB_PEER_CNT.SRTT srtt 0 n).setLink n
    { s2.link n with rto := min 1000000 (max 16000 (64 * srtt + 4 * v)) }

/-- An acknowledgement arrives (R395-R397). -/
def State.takeFabAck (s : State) (n ackpsn sack : Nat) (ece : Bool) : State :=
  let sel := s.linkFeat n 0
  let l := s.link n
  let left := l.unacked.filter (fun p => !ackCovers sel ackpsn sack p.psn)
  let s1 := s.setLink n { l with unacked := left }
  let s2 := if left.length < l.unacked.length then (s1.measure n).window n ece else s1
  let lost := if sel then left.filter (fun p => 3 ≤ sackLater ackpsn sack p.psn) else []
  let s3 := (lost.foldl (fun s p => s.resend n p) s2).linkDrain n l.bqueue.length
  if s3.lstate n = 3 ∧ (s3.link n).closeSent ∧ (s3.link n).unacked.isEmpty then s3.linkDownTo n 0 0 else s3

/-- LYSEB_ACK (R396). -/
def execLysebAck (peer : Fin 512) (ackpsn : Nat) (sack : BitVec 32) (ece : Bool) (s : State) : Out :=
  if s.alive && s.typeAllowed peer.val 1 then .next (s.takeFabAck peer.val (ackpsn % 2 ^ 32) sack.toNat ece) else .next s

/-- The next key is in use (R392): KEYID changes, the old key is still accepted. -/
def State.newKey (s : State) (n : Nat) : State :=
  (s.setFd .FAB_PEER_STAT FAB_PEER_STAT.KEYID (1 - s.fd .FAB_PEER_STAT FAB_PEER_STAT.KEYID 0 n) 0 n).setLink n
    { s.link n with txc := 0, oldKey := true, rekeying := false }

/-- A numbered packet is delivered in order: DATA, REKEY, CLOSE. -/
def State.deliverPkt (s : State) (n : Nat) (p : FabPkt) : State :=
  match p.typ with
  | 0 => p.msgs.foldl (fun s m => s.deliverMsg n m) s
  | 5 => (if (s.link n).rekeying then s else s.linkEmit n 5 []).newKey n
  | _ => (s.linkSend n (FabPkt.plain 1)).linkDownTo n 0 7

/-- Deliver held packets that are next in order; the last argument bounds them. -/
def State.deliverHeld (s : State) (n : Nat) : Nat → State
  | 0 => s
  | k + 1 =>
    let l := s.link n
    match l.held.find? (fun p => p.psn == (l.rxPsn + 1) % 2 ^ 32) with
    | none => s
    | some p =>
      State.deliverHeld ((s.setLink n { l with rxPsn := p.psn, held := l.held.erase p }).deliverPkt n p) n k

/-- A numbered packet arrives (R395): in order it is delivered, out of order held (at most 32), a duplicate discarded; an
ACK follows after 8 packets. -/
def State.takePkt (s : State) (n : Nat) (p : FabPkt) : State :=
  let l := s.link n
  let d := (p.psn + 2 ^ 32 - l.rxPsn) % 2 ^ 32
  let l1 := { l with sinceAck := l.sinceAck + 1 }
  let s1 :=
    if d = 1 then ((s.setLink n { l1 with rxPsn := p.psn }).deliverPkt n p).deliverHeld n 32
    else if 2 ≤ d ∧ d < 34 ∧ s.linkFeat n 0 ∧ l.held.length < 32 ∧ !l.held.any (fun x => x.psn == p.psn) then
      s.setLink n { l1 with held := l.held ++ [p] }
    else s.setLink n l1
  if 8 ≤ (s1.link n).sinceAck then s1.linkSend n (FabPkt.plain 1) else s1

/-- DATA (R391, R395). -/
def execFabData (peer : Fin 512) (p : FabIn) (s : State) : Out :=
  let n := peer.val
  if !s.alive || !s.typeAllowed n 0 then .next s
  else if b2n p.keyid ≠ s.fd .FAB_PEER_STAT FAB_PEER_STAT.KEYID 0 n ∧ !(s.link n).oldKey then
    .next (s.portDrop (s.linkPort n) FAB_PCNT.AUTHFAIL)
  else
    let s1 := s.takeFabAck n (p.ackpsn % 2 ^ 32) p.sack.toNat p.ece
    if s1.typeAllowed n 0 then
      .next (s1.takePkt n ⟨p.psn % 2 ^ 32, 0, b2n p.keyid, 0, 0, 0, false, p.eclass, p.msgs, []⟩)
    else .next s1

/-- REKEY (R392). -/
def execFabRekey (peer : Fin 512) (psn : Nat) (s : State) : Out :=
  if s.alive && s.typeAllowed peer.val 5 then
    .next (s.takePkt peer.val { FabPkt.plain 5 with psn := psn % 2 ^ 32 })
  else .next s

/-- CLOSE (R388): the peer closes in order. -/
def execFabClose (peer : Fin 512) (psn : Nat) (s : State) : Out :=
  if s.alive && s.typeAllowed peer.val 6 then
    .next (s.takePkt peer.val { FabPkt.plain 6 with psn := psn % 2 ^ 32 })
  else .next s

/-- ACK_TIMER (R395): 2 us after a packet. Requests that a busy home had turned away are tried again. -/
def execAckTimer (peer : Fin 512) (s : State) : Out :=
  let n := peer.val
  if !s.alive then .next s
  else
    let s1 := s.serveIn n (s.link n).inq.length
    if s1.typeAllowed n 1 && (s1.link n).sinceAck != 0 then .next (s1.linkSend n (FabPkt.plain 1)) else .next s1

/-- RTO_EXPIRY (R396, R397): the oldest packet is sent again, under major 1 every packet (go-back-N). -/
def execRtoExpiry (peer : Fin 512) (s : State) : Out :=
  let n := peer.val
  let l := s.link n
  if s.alive && s.typeAllowed n 1 && !l.unacked.isEmpty then
    let s1 := (s.setLink n { l with cwnd := 65536, rto := min 1000000 (2 * l.rto) }).satFd .FAB_PEER_CNT FAB_PEER_CNT.RTO 0 n
    .next ((if s.linkFeat n 0 then l.unacked.take 1 else l.unacked).foldl (fun s p => s.resend n p) s1)
  else .next s

/-- RNR_RESEND (R398). -/
def execRnrResend (peer : Fin 512) (s : State) : Out :=
  let n := peer.val
  let l := s.link n
  if s.alive && s.typeAllowed n 0 then
    match l.rnr with
    | [] => .next s
    | m :: t => .next ((s.setLink n { l with rnr := t }).linkPost n m)
  else .next s

/-- LINK_FAILURE (R399): a packet has stayed unacknowledged for NOC_TOUT.FAB / 2; `portLost` when its port is down. -/
def execLinkFailure (peer : Fin 512) (portLost : Bool) (s : State) : Out :=
  let n := peer.val
  if s.alive && s.typeAllowed n 0 && !(s.link n).unacked.isEmpty then
    let s1 := if portLost then s.setPortUp (s.linkPort n) false else s
    .next ((s1.linkDownTo n 4 (if portLost then 5 else 4)).fabErr 2 n 0 0)
  else .next s

/-- FABRIC_TRANSACTION_TOUT (R399): 3/4 of NOC_TOUT.FAB has passed since its acceptance. -/
def execFabricTransactionTout (tag : Nat) (s : State) : Out :=
  match s.fab.txns.find? (fun t => t.tag == tag && t.status == .ok) with
  | none => .next s
  | some t =>
    if !s.alive then .next s
    else
      let l := s.link t.peer
      let s1 := s.setLink t.peer { l with bqueue := l.bqueue.erase t.msg, equeue := l.equeue.erase t.msg, rnr := l.rnr.erase t.msg }
      .next ((s1.txnTout t).closeCheck t.peer)

/-- ALT_PORT_MOVE (R399): PORT goes down, and the link moves to ALTPORT where that is up. -/
def execAltPortMove (peer : Fin 512) (s : State) : Out :=
  let n := peer.val
  let l := s.link n
  if s.alive && s.typeAllowed n 0 && !s.fb .FAB_PEER_STAT FAB_PEER_STAT.ONALT 0 n && s.fb .FAB_PEER_CTL FAB_PEER_CTL.ALTEN 0 n &&
      s.portUp (s.fd .FAB_PEER_CTL FAB_PEER_CTL.ALTPORT 0 n) then
    let s1 := (s.setPortUp (s.linkPort n) false).setFd .FAB_PEER_STAT FAB_PEER_STAT.ONALT 1 0 n
    .next (l.unacked.foldl (fun s p => s.resend n p) s1)
  else .next s

/-- REKEY_TRIGGER (R392): TXC has reached 2^48, or REKEYM minutes have passed. -/
def execRekeyTrigger (peer : Fin 512) (s : State) : Out :=
  let n := peer.val
  let l := s.link n
  if s.alive && s.lstate n == 2 && !l.rekeying && (decide (2 ^ 48 ≤ l.txc) || s.fd .FAB_CTL FAB_CTL.REKEYM != 0) then
    .next ((s.setLink n { l with rekeying := true }).linkEmit n 5 [])
  else .next s

/-- OLD_KEY_ERASE (R392). -/
def execOldKeyErase (peer : Fin 512) (s : State) : Out :=
  .next (s.setLink peer.val { s.link peer.val with oldKey := false })

/-! E-class slots (R406-R408). -/

/-- FAB_ESLOT_START (R406): START ns after the frame's edge; package time has reached that instant or passes on to it. -/
def execFabEslotStart (k : Fin 256) (s : State) : Out :=
  let j := k.val
  let n := s.fd .FAB_ESLOT FAB_ESLOT.PEER 0 j
  let t := s.frameInstant (s.fd .FAB_ESLOT FAB_ESLOT.START 0 j)
  if s.alive && s.ticking && s.fb .FAB_CTL FAB_CTL.EEN && s.fb .FAB_ESLOT FAB_ESLOT.V 0 j && !s.fab.eslots.has j &&
      decide (t < s.nextU) then
    let q := (s.link n).equeue.length
    let s0 := s.advanceTo t
    let s1 := { s0 with fab := { s0.fab with eslots := s0.fab.eslots.set j (64 * s.fd .FAB_ESLOT FAB_ESLOT.BYTES 0 j)
                                             eleft := s0.fab.eleft.set j q } }
    .next (if s.typeAllowed n 0 then s1.eslotSend n j q else s1)
  else .next s

/-- A slot ends (R408): what was queued at its START and is not sent moves to B-class, with the overrun flag. -/
def State.fabSpill (s : State) (j : Nat) : State :=
  let n := s.fd .FAB_ESLOT FAB_ESLOT.PEER 0 j
  let left := s.fab.eleft.getD j 0
  if left = 0 then s
  else
    let l := s.link n
    let s1 := s.setLink n { l with equeue := l.equeue.drop left }
    let s2 := { s1 with fab := { s1.fab with eslots := s1.fab.eslots.set j 0, eleft := s1.fab.eleft.set j 0 } }
    let s3 := (s2.setFd .FAB_ESTATUS FAB_ESTATUS.OVR 1).satFd .FAB_ESTATUS FAB_ESTATUS.SPILLCNT
    (l.equeue.take left).foldl (fun s m => s.linkPost n { m with eclass := false }) s3

/-- FAB_ESLOT_SPILL (R408). -/
def execFabEslotSpill (k : Fin 256) (s : State) : Out :=
  if s.alive && s.fab.eslots.has k.val then .next ((s.fabSpill k.val).ovrRise s) else .next s

/-- The edge that ends a frame (02 R52, R408): every slot ends, before the shadows apply; in the new frame no slot has started. -/
def State.fabEslotEdge (s : State) : State :=
  let s1 := s.fab.eslots.l.foldl (fun s e => s.fabSpill e.1) s
  { s1 with fab := { s1.fab with eslots := .empty, eleft := .empty } }

/-- Bytes per ns of a port (R407). -/
def State.portRate (s : State) (q : Nat) : Nat := if s.fd .FAB_PCFG FAB_PCFG.MODE (q / 2) = 1 then 100 else 50

/-- Two slots of one port do not overlap. -/
def State.slotsApart (s : State) (a b : Word) : Bool :=
  let r := s.portRate (getF a FAB_ESLOT.PORT)
  getF a FAB_ESLOT.PORT != getF b FAB_ESLOT.PORT ||
    decide (getF a FAB_ESLOT.START * r + 64 * getF a FAB_ESLOT.BYTES ≤ getF b FAB_ESLOT.START * r) ||
    decide (getF b FAB_ESLOT.START * r + 64 * getF b FAB_ESLOT.BYTES ≤ getF a FAB_ESLOT.START * r)

/-- Every two slots of a list are apart. -/
def State.allApart (s : State) : List Word → Bool
  | [] => true
  | a :: t => t.all (fun b => s.slotsApart a b) && s.allApart t

/-- The check of R407 over the slots `f` gives and a period in ns. -/
def State.fabCheck (s : State) (period : Nat) (f : Nat → Word) : Bool :=
  let l := ((List.range 256).map f).filter (fun w => getF w FAB_ESLOT.V == 1)
  s.allApart l && l.all (fun w =>
    let n := getF w FAB_ESLOT.PEER
    decide (getF w FAB_ESLOT.START * s.portRate (getF w FAB_ESLOT.PORT) + 64 * getF w FAB_ESLOT.BYTES ≤
      period * s.portRate (getF w FAB_ESLOT.PORT)) &&
      getF w FAB_ESLOT.PORT == s.fd .FAB_PEER_CTL FAB_PEER_CTL.PORT 0 n && s.linkFeat n 3)

/-! Atlas probes (R414). -/

/-- PROBE (R414): the parent answers with its receive and send times, whose 2^-10 ns digits are free. -/
def execFabProbe (peer : Fin 512) (n : Nat) (s : State) : Out :=
  if s.alive && s.typeAllowed peer.val 7 && s.linkFeat peer.val 4 then
    let (a, s1) := s.drawNat
    let (b, s2) := s1.drawNat
    let t2 := s.nowNs * 1024 + a % 1024
    .next (s2.linkSend peer.val { FabPkt.plain 8 with psn := n % 2 ^ 32, times := [t2, t2 + b] })
  else .next s

/-- ASYM, signed ps. -/
def State.asym (s : State) : Int :=
  let a := s.fd .FAB_ATLAS_CTL FAB_ATLAS_CTL.ASYM
  if a < 2 ^ 15 then (a : Int) else (a : Int) - 2 ^ 16

/-- This package follows a parent with probes: Atlas is on, it is not the root, and COARSE is set (R413, R414). -/
def State.atlasFine (s : State) : Bool :=
  s.fb .FAB_ATLAS_CTL FAB_ATLAS_CTL.EN && !s.fb .FAB_ATLAS_CTL FAB_ATLAS_CTL.ROOT &&
    s.fb .FAB_ATLAS_STAT FAB_ATLAS_STAT.COARSE

/-- PROBEREP (R414): one sample; t1 to t4 are in units of 2^-10 ns, the offset is kept in units of 1 / 2,048,000 ns. -/
def execFabProbeRep (peer : Fin 512) (t1 t2 t3 t4 : Nat) (s : State) : Out :=
  if s.alive && s.typeAllowed peer.val 8 && s.atlasFine && s.fd .FAB_ATLAS_CTL FAB_ATLAS_CTL.PARENT == peer.val &&
      s.linkFeat peer.val 4 then
    let a : Int := t1
    let b : Int := t2
    let c : Int := t3
    let d : Int := t4
    let o := 1000 * ((b - a) - (d - c)) - 1024 * s.asym
    .next { s with fab := { s.fab with probes := s.fab.probes ++ [(o, (d - a) - (c - b))] } }
  else .next s

/-- ATLAS_LOCK_LOSS (R415): eight frames in a row had fewer than 4 good probes. -/
def execAtlasLockLoss (s : State) : Out :=
  if s.alive && s.fb .FAB_ATLAS_STAT FAB_ATLAS_STAT.LOCK && decide (8 ≤ s.fab.lockBad) then
    .next ((s.setFd .FAB_ATLAS_STAT FAB_ATLAS_STAT.LOCK 0).setFd .FAB_ATLAS_STAT FAB_ATLAS_STAT.LOSTEV 1)
  else .next s

/-! Power and idleness. -/

/-- An FM domain enters OFF (18 R462): its ports go down. -/
def State.fabDomainOff (s : State) (m : Nat) : State := (s.setPortUp (2 * m) false).setPortUp (2 * m + 1) false

/-- The engine is idle for its Q fields: every link is CLOSED or FAILED. -/
def State.fabQuiet (s : State) : Bool := (List.range 512).all (fun n => s.lstate n == 0 || s.lstate n == 4)

/-- A MAC is idle: its ports are down. -/
def State.macQuiet (s : State) (m : Nat) : Bool := s.fd .FAB_PSTAT FAB_PSTAT.LINK m == 0

/-- A context is idle (R409). -/
def State.collQuiet (s : State) (n : Nat) : Bool := s.collState n == 0 || s.collState n == 4 || s.collState n == 5

end Sys2Proof.Machine
end

