-- ==== Sys2Proof/Machine/Pair.lean ====
section
/-! DEFINITION. The mirror pair (16): the pair link, capture, shipping and commit, output hold, failover and planned
switchover. -/
namespace Sys2Proof.Machine

/-! Entries and the link. -/

/-- STATE of an entry (R423): 0 OFF, 1 SYNC, 2 MIRROR, 3 SUSPENDED, 4 RESUMED, 5 BROKEN. -/
def State.mst (s : State) (n : Nat) : Nat := s.fd .PAIR_MP_STAT PAIR_MP_STAT.STATE 0 n
def State.setMst (s : State) (n st cause : Nat) : State :=
  (s.setFd .PAIR_MP_STAT PAIR_MP_STAT.STATE st 0 n).setFd .PAIR_MP_STAT PAIR_MP_STAT.CAUSE cause 0 n
/-- ROLE: true in the partner. -/
def State.mpartner (s : State) (n : Nat) : Bool := s.fb .PAIR_MP_CTL PAIR_MP_CTL.ROLE 0 n
/-- The cores and DMA channels of an entry's masks, lowest first. -/
def State.pairCores (s : State) (n : Nat) : List Nat := (List.range 216).filter (fun c => s.pairCore n c)
def State.pairDmas (s : State) (n : Nat) : List Nat :=
  (List.range 208).filter (fun c => bitAt (s.rg .PAIR_MP_DMA 0 n (c / 64)) (c % 64))

/-- PAIR_LINK.STATE: 0 DOWN, 1 TRAIN, 2 UP, 3 REFUSED, 4 DEAD. -/
def State.plink (s : State) : Nat := s.fd .PAIR_LINK PAIR_LINK.STATE
/-- The link changes state: LINKEV sets. -/
def State.setPlink (s : State) (st : Nat) : State :=
  (s.setFd .PAIR_LINK PAIR_LINK.STATE st).setFd .PAIR_STATUS PAIR_STATUS.LINKEV 1

/-- Something was received from the peer: it is not silent (R420). -/
def State.pairHeard (s : State) : State := s.setFd .PAIR_LINK PAIR_LINK.SILENT 0

/-- The lane counts of R418: 16, 8 or 4; 0 with fewer. -/
def pairLanes (n : Nat) : Nat := if n = 16 then 16 else if 8 ≤ n then 8 else if 4 ≤ n then 4 else 0

/-- What CAPS carries (R419): major 1, minor 0, features 0x7, PAIR_SIDE and PKG_NUM; the places are the model's. -/
def State.capsData (s : State) : LineData :=
  BitVec.ofNat 1024 (1 + 7 * 2 ^ 16 + s.fd .BOOT_STRAP BOOT_STRAP.PAIR_SIDE * 2 ^ 24 + s.pkgNum * 2 ^ 32)

/-- PAIR_LINK_TRAINED (R418, R419): the link has `lanes` good lanes; CAPS goes out, and the link is UP once CAPS has come. -/
def execPairLinkTrained (lanes : Fin 17) (s : State) : Out :=
  let l := pairLanes lanes.val
  if s.alive && !s.gateClosed 260 && s.fb .PAIR_CTL PAIR_CTL.EN && s.domState 260 == 0 && s.plink == 1 then
    if l = 0 then .next ((s.setFd .PAIR_LINK PAIR_LINK.LANES 0).setPlink 4)
    else .next ((s.setFd .PAIR_LINK PAIR_LINK.LANES l).pairSend ⟨0, 0, 0, 0, 0, s.capsData⟩)
  else .next s

/-- PAIR_LINK_DOWN (R418): the link goes DOWN (0), retrains (1) or is DEAD (2), with the lanes it keeps. -/
def execPairLinkDown (st : Fin 3) (lanes : Fin 17) (s : State) : Out :=
  if s.alive && s.plink != 0 then
    .next ((s.setFd .PAIR_LINK PAIR_LINK.LANES (pairLanes lanes.val)).setPlink (if st.val = 2 then 4 else st.val))
  else .next s

/-- PAIR_CTL.EN is written: 1 trains the link. -/
def State.pairEnable (s : State) (en : Bool) : State :=
  if en then (if s.domState 260 = 0 ∧ s.plink = 0 then s.setPlink 1 else s)
  else if s.plink = 0 then s else s.setPlink 0

/-- The pair domain enters OFF (18 R462), or leaves it: training begins (18 R465). -/
def State.pairDomainOff (s : State) : State := if s.plink = 0 then s else s.setPlink 0
def State.pairDomainOn (s : State) : State := if s.fb .PAIR_CTL PAIR_CTL.EN && s.plink == 0 then s.setPlink 1 else s

/-- CAPS (R419). -/
def execPairCaps (c : CapsIn) (s : State) : Out :=
  if !s.alive || s.gateClosed 260 || s.plink != 1 || s.fd .PAIR_LINK PAIR_LINK.LANES == 0 then .next s
  else
    let refuse := fun (k : Nat) => Host.Outcome.next ((s.setFd .PAIR_LINK PAIR_LINK.CAUSE k).setPlink 3)
    if c.major ≠ 1 then refuse 1
    else if c.side = s.fb .BOOT_STRAP BOOT_STRAP.PAIR_SIDE then refuse 2
    else if !c.idOk then refuse 3
    else
      let w := setF (setF (setF (setF (setF (s.rg .PAIR_LINK) PAIR_LINK.MAJOR 1) PAIR_LINK.MINOR 0)
        PAIR_LINK.FEAT (c.feat % 8)) PAIR_LINK.CAUSE 0) PAIR_LINK.SILENT 0
      let s1 := s.setRg w .PAIR_LINK
      let s2 := { s1 with pair := { s1.pair with peerPkg := c.pkg % 512, stopSeen := false } }
      if c.feat % 2 = 0 ∧ s.fd .PAIR_LINK PAIR_LINK.LANES < 8 then .next (s2.setPlink 4) else .next (s2.setPlink 2)

/-- The link carries messages; those for a gated domain wait (18 R467). -/
def State.pairUp (s : State) : Bool := s.alive && !s.gateClosed 260 && s.plink == 2

/-- HB (R420). -/
def execPairHb (s : State) : Out := if s.pairUp then .next s.pairHeard else .next s

/-- HB_SEND (R420): nothing was sent for 1 us. -/
def execPairHbSend (s : State) : Out := if s.pairUp then .next (s.pairSend ⟨4, 0, 0, 0, 0, 0⟩) else .next s

/-- STOP goes out when the link is UP (R420; 19 R475, 20 R509). -/
def State.pairSendStop (s : State) : State := if s.plink = 2 then s.pairSend ⟨5, 0, 0, 0, 0, 0⟩ else s

/-! Output hold (R431). -/

/-- The entry whose output an initiator's accesses are: a primary in MIRROR, or SUSPENDED (R436). -/
def State.holdEntry (s : State) (node : Nat) : Option Nat :=
  (s.pair.entries.l.map (fun e => e.1)).find? (fun n =>
    (s.mst n == 2 || s.mst n == 3) && !s.mpartner n &&
      (match nodeCore node, nodeDma node with
       | some c, _ => s.pairCore n c
       | none, some d => bitAt (s.rg .PAIR_MP_DMA 0 n (d / 64)) (d % 64)
       | none, none => false))

/-- An initiator has held output that has not left: its reads and CMOs to those targets wait. -/
def State.heldBy (s : State) (node : Nat) : Bool := s.pair.hold.any (fun h => h.init.node == node)

/-- Room of the hold area, in records of 144 bytes. -/
def State.holdRoom (s : State) : Bool :=
  decide ((s.pair.hold.length + 1) * 144 ≤ s.fd .PAIR_OHB PAIR_OHB.MIB * 2 ^ 20)

/-- An output access enters the hold area: none where it is not held; false where it waits for room. -/
def State.holdOutput (s : State) (i : Init) (host : Option OutReq) (globl : Option (Nat × FabMsg)) : Option (Bool × State) :=
  match s.holdEntry i.node with
  | none => none
  | some e =>
    if s.holdRoom then some (true, { s with pair := { s.pair with hold := s.pair.hold ++ [⟨s.outFrame e, e, i, host, globl⟩] } })
    else some (false, s.setFd .PAIR_STATUS PAIR_STATUS.OHFULL 1)

/-- A held access leaves: the pair link is its initiator now; one that fails at once is recorded. -/
def State.letOut (s : State) (h : HeldOut) : State :=
  let g := s.genOf pairNode
  let t := s.freeTag pairNode 0 0x1000 s.hb.nextTag
  let i := { h.init with node := pairNode, gen := g, tag := t }
  let s1 :=
    match h.host with
    | some r =>
      match s.hbOut i { r with tag := t } with
      | (some st, s2) => s2.replyTo pairNode g t st 0 0 0
      | (none, s2) => s2
    | none => s
  match h.globl with
  | some (line, m) =>
    match s1.globalReq i 0 0 line m with
    | (.answer .ok, s2) => s2
    | (.answer st, s2) => s2.replyTo pairNode g 0 st 0 0 0
    | (_, s2) => s2
  | none => s1

/-- Held output that satisfies `p` leaves in its order. -/
def State.releaseHold (s : State) (p : HeldOut → Bool) : State :=
  let out := s.pair.hold.filter p
  out.foldl State.letOut { s with pair := { s.pair with hold := s.pair.hold.filter (fun h => !p h) } }

/-- WACKs of an entry up to a frame go out (R432). -/
def State.releaseWacks (s : State) (n f : Nat) : State :=
  let due := fun (w : Nat × Nat × Nat × Nat) => w.2.2.1 == n && decide (w.2.2.2 ≤ f)
  (s.pair.wacks.filter due).foldl (fun s w => s.fabReply w.1 { FabMsg.bare 7 with tag := w.2.1 })
    { s with pair := { s.pair with wacks := s.pair.wacks.filter (fun w => !due w) } }

/-- Everything an entry holds leaves. -/
def State.releaseAll (s : State) (n : Nat) : State :=
  (s.releaseHold (fun h => h.entry == n)).releaseWacks n (2 ^ 64)

/-- BROKEN with a cause (R423): a primary's output is not held any more. -/
def State.mbreak (s : State) (n cause : Nat) : State :=
  let s1 := (s.setMst n 5 cause).setMirror n Mirror.reset
  if s.mpartner n then s1 else s1.releaseAll n

/-! Capture (R424). -/

/-- The tick edge: captures begin, or the edge makes none (R424, R433). The frame number has incremented already. -/
def State.pairEdge (s : State) : State :=
  (s.pair.entries.l.map (fun e => e.1)).foldl (fun s n =>
    let m := s.mirror n
    if (s.mst n = 1 ∨ s.mst n = 2) ∧ !s.mpartner n ∧ !m.capturing then
      if m.committed then s.setMirror n { m with capturing := true, frame := (s.frameNo + 2 ^ 48 - 1) % 2 ^ 48 }
      else
        let s1 := if s.mst n = 2 then s.setFd .PAIR_STATUS PAIR_STATUS.MOVR 1 else s
        s1.satFd .PAIR_MP_CNT PAIR_MP_CNT.SKIPS 0 n
    else s) s

/-- Write full lines, and say whether every home took them. -/
def State.putLines (node : Nat) : List (Nat × LineData × BitVec 16) → State → Bool × State
  | [], s => (true, s)
  | (line, d, p) :: t, s =>
    let (r, s1) := s.writeLine node line false fullMask d p
    if r.status = .ok then State.putLines node t s1 else (false, s1)

/-- The line of a core's image slot (R424 step 2). -/
def State.imageLine (s : State) (n k : Nat) : Nat :=
  (s.fd .PAIR_MP_CTL PAIR_MP_CTL.GBASE 0 n * 2 ^ 30 + s.fd .PAIR_MP_CTL PAIR_MP_CTL.SAVEOFF 0 n * 4096 + 5120 * k) / 128

/-- Step 2: the images of cores, the first at slot `k`. -/
def State.captureImages (n : Nat) : List Nat → Nat → State → Bool × State
  | [], _, s => (true, s)
  | c :: t, k, s =>
    let img := (s.core c).image
    let l := (List.range 40).map (fun j => (s.imageLine n k + j, BitVec.ofNat 1024 (img / 2 ^ (1024 * j)), (0 : BitVec 16)))
    match State.putLines (coreNode c) l s with
    | (true, s1) => State.captureImages n t (k + 1) s1
    | r => r

/-- Lines of mirrored ranges that a die holds in E or M. -/
def State.sweepLines (s : State) (d : Nat) : List Nat :=
  let v := s.die d
  ((v.filt.l.map (fun e => e.1)) ++ (v.dcache.l.map (fun e => e.1)).filter (fun l => !v.filt.has l)).filter
    (fun l => !(s.markers l).isEmpty && decide (2 ≤ s.dieState d l))

/-- Step 3: one die sends WB for dirty lines and EVC for clean ones. -/
def State.sweepDie (d : Nat) : List Nat → State → Bool × State
  | [], s => (true, s)
  | l :: t, s =>
    let v := s.dieDirty d l
    let r : CohReq := { s.cdaReq d l true with data := (v.getD (0, 0)).1, poison := (v.getD (0, 0)).2 }
    let (a, s1) := s.homeDo (if v.isSome then opWB else opEVC) r
    if a.status = .retry then (false, s) else State.sweepDie d t (s1.dieDropAll d l)

/-- Every die. -/
def State.sweepAll : List Nat → State → Bool × State
  | [], s => (true, s)
  | d :: t, s =>
    if (s.die d).wb.any (fun e => !(s.markers e.line).isEmpty) then (false, s)
    else
      match State.sweepDie d (s.sweepLines d) s with
      | (true, s1) => State.sweepAll t s1
      | r => r

/-- Step 4, the cut: the marked lines are to be shipped, marking starts anew, and the cores go on unless a switchover
waits (R437). -/
def State.cut (s : State) (n : Nat) : State :=
  let m := s.mirror n
  s.setMirror n { m with
    ship := if m.bulk = 1 then [] else m.marks, bulk := if m.bulk = 1 then 2 else 0, marks := []
    ships := 0, sealed := false, committed := false, capturing := false
    stopped := if m.switching then s.pairCores n else [] }

/-- CAPTURE_CUT (R424): every core of the mask stands at a boundary at normal-world U or K; once its stores are visible and its
accesses complete, the images and sweeps can be done, and the cut is made. -/
def execCaptureCut (n : Fin 16) (s : State) : Out :=
  let e := n.val
  let l := s.pairCores e
  if s.alive && (s.mirror e).capturing && l.all (fun c => (s.core c).capturable) then
    let s0 := l.foldl (fun s c => (s.sbDrain c).2) s
    if l.any (fun c => !(s0.core c).sbuf.isEmpty || !(s0.core c).stq.isEmpty) then .next s0
    else
      match State.captureImages e l 0 s0 with
      | (true, s1) =>
        match State.sweepAll (List.range 12) s1 with
        | (true, s2) => .next (s2.cut e)
        | _ => .next s0
      | _ => .next s0
  else .next s

/-- CAPTURE_ABANDON (R424, R428): CAPLIM has passed. -/
def execCaptureAbandon (n : Fin 16) (s : State) : Out :=
  let e := n.val
  let m := s.mirror e
  if s.alive && m.capturing then
    let s1 := (s.setMirror e { m with capturing := false }).satFd .PAIR_MP_CNT PAIR_MP_CNT.SKIPS 0 e
    .next (if s.mst e = 2 then (s1.setFd .PAIR_STATUS PAIR_STATUS.MOVR 1).ovrRise s else s1)
  else .next s

/-! Shipping and commit (R427, R429, R430). -/

/-- A primary entry ships a frame: its cut is made and SEAL not sent. -/
def State.shipping (s : State) (n : Nat) : Bool :=
  s.pairUp && !s.mpartner n && (s.mst n == 1 || s.mst n == 2) && !(s.mirror n).committed && !(s.mirror n).sealed

/-- SHIP_LINE (R427). -/
def execShipLine (n : Fin 16) (line : Nat) (s : State) : Out :=
  if s.shipping n.val && s.mirrorHolds n.val line && (s.mirror n.val).toShip line then .next (s.shipOut n.val line) else .next s

/-- Every bit of B(F) is clear. -/
def State.allShipped (s : State) (n : Nat) : Bool :=
  let m := s.mirror n
  if m.bulk = 2 then m.ship.length == s.fd .PAIR_MP_CTL PAIR_MP_CTL.SIZE 0 n * 0x800000 else m.ship.isEmpty

/-- SEAL_SEND (R427). -/
def execSealSend (n : Fin 16) (s : State) : Out :=
  let e := n.val
  let m := s.mirror e
  if s.shipping e && s.allShipped e then
    let s1 := s.setMirror e { m with sealed := true, bulk := 0, ship := [] }
    .next ((s1.setFd .PAIR_MP_CNT PAIR_MP_CNT.LINES m.ships 0 e).pairSend ⟨2, e, 0, m.frame, m.ships, 0⟩)
  else .next s

/-- The undo log has room for a record of 144 bytes (R429). -/
def State.undoRoom (s : State) : Bool :=
  decide (((s.pair.entries.l.foldl (fun a e => a + e.2.undo.length) 0) + 1) * 144 ≤ s.fd .PAIR_ULOGSZ PAIR_ULOGSZ.MIB * 2 ^ 20)

/-- A message for a partner entry that mirrors. -/
def State.partnerLive (s : State) (n : Nat) : Bool := s.pairUp && s.mpartner n && (s.mst n == 1 || s.mst n == 2)

/-- SHIP (R429): the old line goes to the undo log, the new one is written. -/
def execPairShip (m : PairIn) (s : State) : Out :=
  let e := m.entry.val
  let line := m.arg % 2 ^ 49
  if !s.pairUp then .next s
  else
    let s0 := s.pairHeard
    if !s0.partnerLive e || !s0.undoRoom then .next s0
    else
      let (o, s1) := s0.readLine pairNode line false
      let (w, s2) := s1.writeLine pairNode line false fullMask m.data m.psn
      if o.status = .ok ∧ w.status = .ok then
        let v := s2.mirror e
        .next (s2.setMirror e { v with performed := v.performed + 1, undo := ⟨line, m.frame, o.data, o.poison⟩ :: v.undo })
      else .next s0

/-- SEAL (R430): the count agrees and the frame commits, or both entries are BROKEN. -/
def execPairSeal (m : PairIn) (s : State) : Out :=
  let e := m.entry.val
  if !s.pairUp then .next s
  else
    let s0 := s.pairHeard
    if !s0.partnerLive e then .next s0
    else if (s0.mirror e).performed = m.arg % 2 ^ 49 then
      let s1 := (s0.setMst e 2 0).setFd .PAIR_MP_STAT PAIR_MP_STAT.CFRAME (m.frame % 2 ^ 48) 0 e
      let s2 := s1.setMirror e { s1.mirror e with undo := [], performed := 0 }
      .next (s2.pairSend ⟨3, e, 0, m.frame, 0, 0⟩)
    else .next ((s0.mbreak e 2).pairSend ⟨3, e, 0, m.frame, 1, 0⟩)

/-- COMMIT (R430, R431, R432, R437). -/
def execPairCommit (m : PairIn) (s : State) : Out :=
  let e := m.entry.val
  if !s.pairUp then .next s
  else
    let s0 := s.pairHeard
    let v := s0.mirror e
    if s0.mpartner e || !(s0.mst e == 1 || s0.mst e == 2 || s0.mst e == 3) || !v.sealed || v.committed || m.frame != v.frame then
      .next s0
    else if m.arg % 16 ≠ 0 then .next (s0.mbreak e 2)
    else
      let s1 := (s0.setMst e (if s0.mst e = 3 then 3 else 2) 0).setFd .PAIR_MP_STAT PAIR_MP_STAT.CFRAME (m.frame % 2 ^ 48) 0 e
      let sw := v.switching && !v.stopped.isEmpty
      let s2 := s1.setMirror e { v with committed := true, switchSent := sw }
      let s3 := (s2.releaseHold (fun h => h.entry == e && decide (h.frame ≤ m.frame))).releaseWacks e m.frame
      .next (if sw then s3.pairSend ⟨7, e, 0, m.frame, 0, 0⟩ else s3)

/-! START and OPEN (R423, R428). -/

/-- The entry's definition as OPEN carries it: GBASE, SIZE and the number of cores, 16 bits each. -/
def State.openData (s : State) (n : Nat) : LineData :=
  BitVec.ofNat 1024 (s.fd .PAIR_MP_CTL PAIR_MP_CTL.GBASE 0 n + s.fd .PAIR_MP_CTL PAIR_MP_CTL.SIZE 0 n * 2 ^ 16 +
    (s.pairCores n).length * 2 ^ 32)

/-- A received OPEN agrees with the entry. -/
def State.openMatches (s : State) (m : PairIn) : Bool :=
  let n := m.entry.val
  s.fb .PAIR_MP_CTL PAIR_MP_CTL.V 0 n && m.gbase == s.fd .PAIR_MP_CTL PAIR_MP_CTL.GBASE 0 n &&
    m.size == s.fd .PAIR_MP_CTL PAIR_MP_CTL.SIZE 0 n && m.cores == (s.pairCores n).length

/-- SYNC (R423, R428): in the primary every bit of the first frame's bitmap is set. -/
def State.startSync (s : State) (n : Nat) : State :=
  (s.setMst n 1 0).setMirror n { Mirror.reset with bulk := if s.mpartner n then 0 else 1, committed := true }

/-- OPEN (R423): the partner matches it and answers with its own definition; the primary matches the answer. -/
def execPairOpen (m : PairIn) (s : State) : Out :=
  let n := m.entry.val
  if !s.pairUp then .next s
  else
    let s0 := s.pairHeard
    if s0.mpartner n then
      let ok := s0.openMatches m
      .next ((if ok then s0.startSync n else s0.mbreak n 1).pairSend
        ⟨6, n, 0, 0, 0, if s0.fb .PAIR_MP_CTL PAIR_MP_CTL.V 0 n then s0.openData n else 0⟩)
    else if (s0.mirror n).opening then .next (if s0.openMatches m then s0.startSync n else s0.mbreak n 1)
    else .next (s0.pairSend ⟨6, n, 0, 0, 0, 0⟩)

/-- A refused command. -/
def State.pairCerr (s : State) : State := s.setFd .PAIR_STATUS PAIR_STATUS.CERR 1

/-- START (R423, R437): on a valid primary entry in OFF or RESUMED. -/
def State.pairStartOp (s : State) (n : Nat) : State :=
  if (s.mst n = 0 ∨ s.mst n = 4) ∧ s.fb .PAIR_MP_CTL PAIR_MP_CTL.V 0 n ∧ !s.mpartner n ∧ s.plink = 2 ∧ !(s.mirror n).opening then
    (s.setMirror n { Mirror.reset with opening := true }).pairSend ⟨6, n, 0, 0, 0, s.openData n⟩
  else s.pairCerr

/-- SWITCH (R437): on a primary in MIRROR over a link with the feature. -/
def State.pairSwitchOp (s : State) (n : Nat) : State :=
  if s.mst n = 2 ∧ !s.mpartner n ∧ (s.fd .PAIR_LINK PAIR_LINK.FEAT).testBit 1 then
    s.setMirror n { s.mirror n with switching := true }
  else s.pairCerr

/-- BREAK (R436): a primary's held output leaves, and the entry is OFF. -/
def State.pairBreakOp (s : State) (n : Nat) : State :=
  if (s.mst n = 1 ∨ s.mst n = 2 ∨ s.mst n = 3) ∧ !s.mpartner n then
    ((s.setMst n 0 0).setMirror n Mirror.reset).releaseAll n
  else s.pairCerr

/-- RESUME (R434): a partner in MIRROR is to resume. -/
def State.pairResumeOp (s : State) (n : Nat) : State :=
  if s.mst n = 2 ∧ s.mpartner n then s.setMirror n { s.mirror n with resuming := true } else s.pairCerr

/-- CLEAR: BROKEN or RESUMED to OFF. -/
def State.pairClearOp (s : State) (n : Nat) : State :=
  if s.mst n = 5 ∨ s.mst n = 4 then (s.setMst n 0 0).setMirror n Mirror.reset else s.pairCerr

/-- A write of PAIR_CMD. -/
def State.pairCommand (s : State) (op n : Nat) : State :=
  match op with
  | 1 => s.pairStartOp n
  | 2 => s.pairSwitchOp n
  | 3 => s.pairBreakOp n
  | 4 => s.pairResumeOp n
  | 5 => s.pairClearOp n
  | _ => s.pairCerr

/-- PAIR_START (R423). -/
def execPairStart (n : Fin 16) (s : State) : Out := if s.alive then .next (s.pairStartOp n.val) else .next s
/-- PAIR_SWITCH (R437). -/
def execPairSwitch (n : Fin 16) (s : State) : Out := if s.alive then .next (s.pairSwitchOp n.val) else .next s
/-- BREAK (R436). -/
def execPairBreak (n : Fin 16) (s : State) : Out := if s.alive then .next (s.pairBreakOp n.val) else .next s
/-- PAIR_RESUME (R434). -/
def execPairResume (n : Fin 16) (s : State) : Out := if s.alive then .next (s.pairResumeOp n.val) else .next s
/-- PAIR_CLEAR (R438). -/
def execPairClear (n : Fin 16) (s : State) : Out := if s.alive then .next (s.pairClearOp n.val) else .next s

/-! Failover and switchover (R434-R437). -/

/-- The primary counts as stopped (R434): STOP has come, or it is silent and the fabric check does not forbid it. -/
def State.peerGone (s : State) : Bool :=
  s.pair.stopSeen ||
    (s.fb .PAIR_LINK PAIR_LINK.SILENT &&
      (!s.fb .PAIR_CTL PAIR_CTL.FABCHK || !(s.fd .PAIR_LINK PAIR_LINK.FEAT).testBit 2 || s.lstate s.pair.peerPkg != 2))

/-- A trigger reaches partner entries in SYNC: BROKEN with NOCOMMIT. -/
def State.breakSync (s : State) : State :=
  if s.peerGone then
    (s.pair.entries.l.map (fun e => e.1)).foldl (fun s n => if s.mst n = 1 ∧ s.mpartner n then s.mbreak n 3 else s) s
  else s

/-- STOP (R434). -/
def execPairStop (s : State) : Out :=
  if s.pairUp then .next (State.breakSync { s.pairHeard with pair := { s.pair with stopSeen := true } }) else .next s

/-- A primary entry is suspended (R436). -/
def State.suspend (s : State) (n : Nat) : State :=
  if (s.mst n = 1 ∨ s.mst n = 2) ∧ !s.mpartner n then
    let s1 := (s.setMst n 3 0).setMirror n { s.mirror n with capturing := false }
    (s.pairDmas n).foldl (fun s c => s.dmaStop c) s1
  else s

/-- PAIR_SILENCE (R434, R436): SILTO has passed with nothing received. -/
def execPairSilence (s : State) : Out :=
  if s.alive && s.fb .PAIR_CTL PAIR_CTL.EN then
    let s1 := s.setFd .PAIR_LINK PAIR_LINK.SILENT 1
    .next ((s1.pair.entries.l.map (fun e => e.1)).foldl State.suspend s1).breakSync
  else .next s

/-- Read an image of 40 lines, and say whether every home answered. -/
def State.readImage (line : Nat) : Nat → State → Option (Nat × State)
  | 0, s => some (0, s)
  | k + 1, s =>
    match State.readImage line k s with
    | none => none
    | some (v, s1) =>
      let (r, s2) := s1.readLine pairNode (line + k) false
      if r.status = .ok then some (v + r.data.toNat * 2 ^ (1024 * k), s2) else none

/-- Steps 2 and 3 of R434: each core is reset, loaded from its slot and started in the normal world. -/
def State.resumeCores (n : Nat) : List Nat → Nat → State → Option State
  | [], _, s => some s
  | c :: t, k, s =>
    match State.readImage (s.imageLine n k) 40 s with
    | none => none
    | some (img, s1) =>
      let s2 := s1.coreBeginReset c
      if !(s2.core c).sbuf.isEmpty || !(s2.core c).l2.l.isEmpty then none
      else
      let s3 := (s2.coreEndReset c).modCore c (fun v => { v.loadImage img false with run := .run, release := true })
      State.resumeCores n t (k + 1) (s3.pwrWake c)

/-- Step 1 of R434: the undo log is rolled back, newest record first. -/
def State.rollBack (s : State) (n : Nat) : Bool × State :=
  State.putLines pairNode ((s.mirror n).undo.map (fun u => (u.line, u.data, u.poison))) s

/-- RESUMPTION (R434). -/
def execResumption (n : Fin 16) (s : State) : Out :=
  let e := n.val
  if !s.alive || !s.mpartner e || !((s.mirror e).resuming || s.peerGone) then .next s
  else if s.mst e = 1 then .next s.breakSync
  else if s.mst e ≠ 2 then .next s
  else
    match s.rollBack e with
    | (false, _) => .next s
    | (true, s1) =>
      match State.resumeCores e (s1.pairCores e) 0 s1 with
      | none => .next s
      | some s2 => .next (((s2.setMst e 4 0).setMirror e Mirror.reset).setFd .PAIR_STATUS PAIR_STATUS.FOEV 1)

/-- The entry's role changes (R437). -/
def State.setRole (s : State) (n r : Nat) : State := s.setFd .PAIR_MP_CTL PAIR_MP_CTL.ROLE r 0 n

/-- SWITCH from the primary (R437 step 3): the partner resumes with an empty undo log, is primary, and answers SWACK. -/
def execPairSwitchMsg (m : PairIn) (s : State) : Out :=
  let e := m.entry.val
  if !s.pairUp then .next s
  else
    let s0 := s.pairHeard
    if !s0.mpartner e || s0.mst e != 2 then .next s0
    else
      match State.resumeCores e (s0.pairCores e) 0 s0 with
      | none => .next s0
      | some s1 =>
        .next (((s1.setRole e 0).setMirror e { Mirror.reset with committed := true }).pairSend ⟨8, e, 0, m.frame, 0, 0⟩)

/-- SWACK (R437 step 4): the old primary releases its output, resets its cores and is the partner. -/
def execPairSwack (m : PairIn) (s : State) : Out :=
  let e := m.entry.val
  if !s.pairUp then .next s
  else
    let s0 := s.pairHeard
    if s0.mpartner e || s0.mst e != 2 || !(s0.mirror e).switchSent then .next s0
    else
      let s1 := s0.releaseHold (fun h => h.entry == e)
      let s2 := { s1 with pair := { s1.pair with wacks := s1.pair.wacks.filter (fun w => w.2.2.1 != e) } }
      let s3 := (s2.setRole e 1).setMirror e Mirror.reset
      .next ((s3.pairCores e).foldl (fun s c => s.coreBeginReset c) s3)

/-- An entry is idle for its Q fields (R423); the link, when every entry is. -/
def State.mirrorQuiet (s : State) (n : Nat) : Bool := s.mst n == 0 || s.mst n == 4 || s.mst n == 5
def State.pairQuiet (s : State) : Bool := (List.range 16).all (fun n => s.mirrorQuiet n)

end Sys2Proof.Machine
end

