-- ==== Sys2Proof/Machine/Errors.lean ====
section
/-! DEFINITION. Errors (20): acknowledgement, the domain stop in its stages, the hardware error log. -/
namespace Sys2Proof.Machine

/-- Bank instance and index of the n-th bank: hub banks 0-61, then 22 banks of each die. -/
def nthBank (n : Nat) : Nat × Nat := if n < 62 then (12, n) else ((n - 62) / 22, (n - 62) % 22)

/-- ERB_ACKNOWLEDGE (R496): the W1C of VALID clears the record, its address, its detail and its time. -/
def State.erbAck (s : State) (x b : Nat) : State :=
  (((s.setRg 0 .ERB_REC x b).setRg 0 .ERB_ADDR x b).setRg 0 .ERB_MISC x b).setRg 0 .ERB_TIME x b

/-- ERB_ACKNOWLEDGE (R500). -/
def execErbAcknowledge (bank : Fin 326) (s : State) : Out :=
  .next (s.erbAck (nthBank bank).1 (nthBank bank).2)

/-- FORCE (R508, cause 7); the normal world's write is logged (00 R3). -/
def State.force (s : State) (i : Init) : State :=
  if i.sec then s.stopTrigger 7 0xFFF else s.violate i.node 1 (RegKind.ERB_DSTOP.addr)

/-- FORCE (R508). -/
def execDstopForce (i : Init) (s : State) : Out := if s.alive then .next (s.force i) else .next s

/-- DOMAIN_STOP (R509): the stop line has reached every core and NI; packets in flight are gone, CATERR_N is low, the pair
link has sent STOP when it was UP. -/
def execDomainStop (s : State) : Out :=
  if !s.err.stopped || s.err.halted then .next s
  else
    let s1 := s.pairSendStop
    .next { s1 with
      err := { s1.err with halted := true }
      net := { s1.net with msgs := [] }
      pins := { s1.pins with catErr := true } }

/-- DSTOP_CHANNEL_FLUSH (R509): every channel writes out its merge buffer and enters self-refresh. -/
def execDstopChannelFlush (s : State) : Out :=
  if !s.err.halted || s.err.flushed then .next s
  else
    let s1 := (List.range 16).foldl (fun s h =>
      let s1 := (s.chan h).mbuf.foldl (fun s e => s.retire h e) s
      s1.setChan h { s1.chan h with selfRefresh := true }) s
    .next { s1 with err := { s1.err with flushed := true } }

/-- Every bank, hub banks first: its bank number, instance and index. -/
def allBanks : List (Nat × Nat) := (List.range 326).map nthBank

/-- Banks that hold a record of a class, by bank number. -/
def State.banksOf (s : State) (cls : Nat) : List (Nat × Nat) :=
  allBanks.filter (fun p => s.fb .ERB_REC ERB_REC.VALID p.1 p.2 && s.fd .ERB_REC ERB_REC.CLASS p.1 p.2 == cls)

/-- DSTOP_LOG (R509): the RTYPE 2 record, then one RTYPE 1 record for each CONS and POIS record in the order of R504. -/
def execDstopLog (s : State) : Out :=
  if !s.err.halted || s.err.stopLogged then .next s
  else
    let s1 := s.queueLog 2 (s.fd .ERB_DSTOP ERB_DSTOP.BANK) ((s.rg .ERB_DSTOP).toNat % 2 ^ 32) 0 0 0
    let s2 := (s.banksOf 2 ++ s.banksOf 1).foldl (fun s p =>
      s.queueLog 1 (bankNo p.1 p.2) 0 (s.rg .ERB_REC p.1 p.2) (s.rg .ERB_ADDR p.1 p.2) (s.rg .ERB_MISC p.1 p.2)) s1
    .next { s2 with err := { s2.err with stopLogged := true } }

/-- The successor of a sequence number (R506). -/
def seqNext (q : Nat) : Nat := if q = 0xFFFFC000 then 1 else q + 1

/-- The byte address of log record `i` (R506). -/
def logAddr (i : Nat) : Nat := 0x800200F00000 + 64 * i

/-- A log record as 64 bytes, low byte first (R507). -/
def logBits (q : Nat) (r : LogRec) (drop : Nat) : Nat :=
  let bank := if r.bank = 0xFFF then 0xFFFF else r.bank
  q + bank * 2 ^ 32 + r.rtype * 2 ^ 48 + r.time.toNat * 2 ^ 64 + r.frame.toNat * 2 ^ 128 + r.erec.toNat * 2 ^ 192 +
  (if bitAt r.erec 4 then r.addr.toNat else 0) * 2 ^ 256 + (if bitAt r.erec 5 then r.misc.toNat else 0) * 2 ^ 320 +
  drop * 2 ^ 384 + r.detail * 2 ^ 416

/-- Write a log record at its ring position (R506, R507): one WRP through the home of its line; while the homes are
frozen the MRAM target takes it directly. False: the home has answered RETRY, and nothing is written. -/
def State.putLog (s : State) (r : LogRec) : Bool × State :=
  let q := max 1 (s.fd .ERB_LOG ERB_LOG.NEXTSEQ)
  let a := logAddr ((q - 1) % 16384)
  let off := a % 128
  let d : LineData := BitVec.ofNat 1024 (logBits q r (s.err.dropSince % 2 ^ 32) * 2 ^ (8 * off))
  let x : Bool × State := if s.err.halted then (true, s.memWrite (a / 128) false (byteMask off 64) d 0)
    else
      let w := s.writeLine lunaNode (a / 128) true (byteMask off 64) d 0
      (w.1.status != .retry, w.2)
  (x.1, if x.1 then { (x.2.setFd .ERB_LOG ERB_LOG.NEXTSEQ (seqNext q)) with err := { x.2.err with dropSince := 0 } } else x.2)

/-- LOG_RECORD_WRITE (R507): the oldest waiting record is written, once the scan of this boot has found its place, at most
1,000 in a second; a record beyond that is counted in DROPPED. One that its home answers with RETRY waits. -/
def execLogRecordWrite (s : State) : Out :=
  match if s.boot.pwrok && !s.pwr.tripped && s.fd .ERB_LOG ERB_LOG.NEXTSEQ != 0 then s.err.logq else [] with
  | [] => .next s
  | r :: t =>
    let now := s.nowNs / 1000000000
    let n := if s.err.second = now then s.err.written else 0
    if 1000 ≤ n then
      .next { (s.satFd .ERB_LOG ERB_LOG.DROPPED) with
        err := { s.err with logq := t, second := now, written := n, dropSince := s.err.dropSince + 1, dropRise := true } }
    else
      let (ok, s1) := s.putLog r
      .next (if ok then { s1 with err := { s1.err with logq := s1.err.logq.drop 1, second := now, written := n + 1 } } else s1)

/-- The sequence number of log record `i`. -/
def State.seqAt (s : State) (i : Nat) : Nat :=
  ((s.tgtRead (logAddr i / 128)).data.toNat / 2 ^ (8 * (logAddr i % 128))) % 2 ^ 32

/-- The newest record of the log (R506), among the records of which a byte is listed: SEQ not 0, and the next record holds
0 or a SEQ other than its successor. -/
def State.newestSeq (s : State) : Nat :=
  let idx := (s.mem.filter (fun c => logAddr 0 ≤ c.1 && c.1 < logAddr 16384)).map (fun c => (c.1 - logAddr 0) / 64)
  match idx.find? (fun i => s.seqAt i != 0 && s.seqAt ((i + 1) % 16384) != seqNext (s.seqAt i)) with
  | some i => s.seqAt i
  | none => 0

/-- LOG_SCAN at stage 1 of every boot (R506): the next record's SEQ. -/
def State.logScan (s : State) : State :=
  let q := s.newestSeq
  s.setFd .ERB_LOG ERB_LOG.NEXTSEQ (if q = 0 then 1 else seqNext q)

end Sys2Proof.Machine
end

