-- ==== Sys2Proof/Machine/Power.lean ====
section
/-! DEFINITION. Power states and votes (18): targets, transitions, package states, the power limit. -/
namespace Sys2Proof.Machine

/-- Begin a fall of a domain at an edge (R464, R465). -/
def State.pwrFall (s : State) (d target : Nat) : State :=
  if target < 3 then s.setTrans d (some ⟨target, 3⟩)
  else if d < 216 then (s.setTrans d (some ⟨target, 1⟩)).modCore d (fun c => { c with cleaning := true })
  else (s.setTrans d (some ⟨target, 2⟩)).domFence d 1

/-- The evaluation of one domain at an edge (R464). -/
def State.pwrEvalOne (s : State) (d : Nat) : State :=
  match s.pwr.trans.get? d with
  | some t => if 3 ≤ t.target ∧ t.step ≠ 4 then s.setFd .PWR_STATUS PWR_STATUS.VOVR 1 else s
  | none =>
    let t := s.domTarget d
    if s.domState d < t then s.pwrFall d t
    else if t < s.domState d then s.setTrans d (some ⟨t, 4⟩)
    else s

/-- The evaluation at an edge (R464); none during package SLEEP and DEEP. -/
def State.pwrEval (s : State) : State :=
  if s.fd .PWR_STATUS PWR_STATUS.PKG ≠ 0 then s else (List.range 263).foldl State.pwrEvalOne s

/-- PWR_VOTE_WRITE (R463, R453): a world that does not own the slot writes nothing, which is logged. -/
def State.voteWrite (s : State) (i : Init) (k : Nat) (data : Word) : State :=
  let sec := s.fb .PWR_VOTE PWR_VOTE.SEC 0 k
  let own := s.ownerOf 2 k
  if (own = .n ∧ !i.sec) ∨ (own = .s ∧ i.sec) then
    let w := (data &&& 0x1FFF) ||| (if sec then 0x2000 else 0)
    (s.setRg w .PWR_VOTE 0 k).pwrWake (getF w PWR_VOTE.DOM)
  else s.violate i.node 4 (RegKind.PWR_VOTE.addr 0 k)

/-- PWR_VOTE_WRITE (R463). -/
def execPwrVoteWrite (i : Init) (k : Fin 1024) (data : Word) (s : State) : Out :=
  if s.alive then .next (s.voteWrite i k data) else .next s

/-- What a core's caches, translation buffers and predictors hold is gone (R466). -/
def Core.emptied (c : Core) : Core :=
  { c with l1i := .empty, l1d := .empty, itlb := [], dtlb := [], tlb2 := [], tlb2big := [], wcache := [],
           itt := .empty, rstack := [], hist := 0, cleaning := false, tlbFlushDue := false }

/-- DOMAIN_CLEAN_DONE (R466): the clean of a core that falls to DEEP or OFF ends when every store is visible and every line is
written back; the fence enters CLOSING. -/
def execDomainCleanDone (core : CoreNo) (s : State) : Out :=
  let n : Nat := core
  match if s.alive then s.pwr.trans.get? n else none with
  | some t =>
    if t.step = 1 then
      let s1 := (s.sbDrain n).2.coreCleanInv n
      if (s1.core n).sbuf.isEmpty && (s1.core n).l2.l.isEmpty then
        .next ((((s1.modCore n Core.emptied).setTrans n (some ⟨t.target, 2⟩)).domFence n 1))
      else .next s1
    else .next s
  | none => .next s

/-- FENCE_DRAINED (R465): every transaction the domain initiated has ended; the fence enters OFF. -/
def execFenceDrained (d : Fin 263) (s : State) : Out :=
  match if s.alive then s.pwr.trans.get? d else none with
  | some t =>
    if t.step = 2 ∧ !(s.domBusy d) then .next ((s.domFence d 3).setTrans d (some ⟨t.target, 3⟩)) else .next s
  | none => .next s

/-- What a domain's entry does besides its state (R461, R462). -/
def State.entryEffect (s : State) (d target : Nat) : State :=
  if 228 ≤ d ∧ d < 244 then s.setChan (d - 228) { s.chan (d - 228) with selfRefresh := target == 2 }
  else if 244 ≤ d ∧ d < 252 ∧ target = 4 then s.hbDomainOff (d - 244)
  else if 252 ≤ d ∧ d < 260 ∧ target = 4 then s.fabDomainOff (d - 252)
  else if d = 260 ∧ target = 4 then s.pairDomainOff
  else s

/-- DOMAIN_ENTRY_DONE (R465): the domain is in its new state; a vote that has come meanwhile starts the exit at once. -/
def execDomainEntryDone (d : Fin 263) (s : State) : Out :=
  match if s.alive then s.pwr.trans.get? d else none with
  | some t =>
    if t.step = 3 then .next ((((s.setTrans d none).setDom d t.target).entryEffect d t.target).pwrWake d) else .next s
  | none => .next s

/-- A core resumes from DEEP at the instruction after its WFI (R466). -/
def Core.resumeWfi (c : Core) : Core :=
  if c.run = .wfi then { c with run := .run, pc := c.pc + 4 } else c

/-- What a core's exit does (R466): from DEEP it resumes after its WFI; from OFF it is HELD, reset, with the next
generation. -/
def State.coreExit (s : State) (n from_ : Nat) : State :=
  if from_ = 4 then s.coreEndReset n
  else if from_ = 3 then s.modCore n Core.resumeWfi
  else s

/-- DOMAIN_EXIT_DONE (R464, R466): the domain reaches its target, its fence is OPEN. -/
def execDomainExitDone (d : Fin 263) (s : State) : Out :=
  let n : Nat := d
  match if s.alive then s.pwr.trans.get? n else none with
  | some t =>
    if t.step = 4 then
      let from_ := s.domState n
      let s1 := ((s.setTrans n none).setDom n (min from_ (s.domTarget n))).domFence n 0
      if n < 216 then
        let s2 := s1.coreExit n from_
        .next (State.sliceCoreUp { s2 with pwr := { s2.pwr with wakes := s2.pwr.wakes.filter (fun x => x != n) } } n from_)
      else if 228 ≤ n ∧ n < 244 then .next (s1.setChan (n - 228) { s1.chan (n - 228) with selfRefresh := false })
      else .next (if n = 260 then s1.pairDomainOn else s1)
    else .next s
  | none => .next s

/-- A core that enters WFI enters IDLE at once when its target is IDLE or deeper (R464). -/
def State.wfiIdle (s : State) (n : Nat) : State :=
  if s.domState n = 0 ∧ (s.pwr.trans.get? n).isNone ∧ 1 ≤ s.domTarget n then s.setDom n 1 else s

/-! Package states (R468, R469, R472). -/

/-- STATUS of PWR_PKGCMD. -/
def State.pkgStatus (s : State) (v : Nat) : State := s.setFd .PWR_PKGCMD PWR_PKGCMD.STATUS v

/-- The write of an OP to PWR_PKGCMD (R468): 1 SLEEP, 2 DEEP, 3 OFF, 4 CANCEL. -/
def State.pkgCommand (s : State) (i : Init) (op : Nat) : State :=
  let waiting := s.pwr.cmd.isSome
  if op = 4 then
    if waiting then
      ({ s with pwr := { s.pwr with cmd := none } }.pkgStatus 0).setFd .PWR_STATUS PWR_STATUS.CMDEV 1
    else s
  else if waiting then (s.setFd .PWR_STATUS PWR_STATUS.CMDREJ 1).setFd .PWR_STATUS PWR_STATUS.CMDEV 1
  else if 1 ≤ op ∧ op ≤ 3 ∧ !s.err.stopped then { s with pwr := { s.pwr with cmd := some (op, !i.sec) } }.pkgStatus 1
  else ((s.pkgStatus 3).setFd .PWR_STATUS PWR_STATUS.CMDREJ 1).setFd .PWR_STATUS PWR_STATUS.CMDEV 1

/-- PKG_SLEEP (R468); while the package is stopped the command is refused (20 R510). -/
def execPkgSleep (i : Init) (s : State) : Out := if s.boot.pwrok then .next (s.pkgCommand i 1) else .next s
/-- PKG_DEEP (R468, R453). -/
def execPkgDeep (i : Init) (s : State) : Out := if s.boot.pwrok then .next (s.pkgCommand i 2) else .next s
/-- PKG_OFF (R468, R453). -/
def execPkgOff (i : Init) (s : State) : Out := if s.boot.pwrok then .next (s.pkgCommand i 3) else .next s
/-- PKG_CANCEL (R468). -/
def execPkgCancel (i : Init) (s : State) : Out := if s.boot.pwrok then .next (s.pkgCommand i 4) else .next s

/-- Whether a waiting command may be performed (R468). -/
def State.pkgReady (s : State) (op : Nat) (normal : Bool) : Bool :=
  (List.range 261).all (fun d => 2 ≤ s.domState d) &&
  (op == 1 || (List.range 17).all (fun k => s.domState (244 + k) == 4)) &&
  (op == 1 || !normal || !(s.votes.any (fun e => getF e.2 PWR_VOTE.SEC == 1))) &&
  !(s.votes.any (fun e => getF e.2 PWR_VOTE.DOM ≤ 262 && voteLvl e.2 ≤ 1))

/-- Write out every merge buffer and put every channel into self-refresh. -/
def State.selfRefreshAll (s : State) : State :=
  (List.range 16).foldl (fun s h =>
    let s1 := (s.chan h).mbuf.foldl (fun s e => s.retire h e) s
    s1.setChan h { s1.chan h with selfRefresh := true }) s

/-- Before the package enters DEEP (R468) the stores and lines of the cores in SLEEP and the die caches are written out. -/
def State.pkgClean (s : State) : State :=
  let s1 := (List.range 216).foldl (fun s n => if s.domState n = 2 then (s.sbDrain n).2.coreCleanInv n else s) s
  (List.range 12).foldl (fun s d => s.dieFlush d) s1

/-- They have all left. -/
def State.pkgCleaned (s : State) : Bool :=
  (List.range 216).all (fun n => s.domState n != 2 || ((s.core n).sbuf.isEmpty && (s.core n).l2.l.isEmpty)) &&
    (List.range 12).all (fun d => (s.die d).dcache.l.isEmpty && (s.die d).wb.isEmpty)

/-- The entry into a package state (R468). -/
def State.pkgEnter (s : State) (op : Nat) : State :=
  let s0 := { s with pwr := { s.pwr with cmd := none } }
  let s1 := (s0.pkgStatus 2).setFd .PWR_STATUS PWR_STATUS.PKG (op + 1)
  match op with
  | 1 => ((s1.setDom 261 2).setDom 262 2).selfRefreshAll
  | 2 =>
    let s2 := (List.range 216).foldl (fun s n =>
      if s.domState n = 2 then (s.modCore n Core.emptied).setDom n 3 else s) s1
    let s3 := (List.range 47).foldl (fun s k => if s.domState (216 + k) = 4 then s else s.setDom (216 + k) 3) s2
    { s3.selfRefreshAll with msc := .empty, homes := .empty }
  | _ => { s1 with cores := .empty, dies := .empty, homes := .empty, msc := .empty, mem := s1.mem.filter (fun c => region c.1 == .mram),
                   chk := s1.chk.keep (fun w => region (w * 8) == .mram) }

/-- PKG_ENTRY (R468): the waiting command is performed when its conditions hold; before DEEP the caches are written out. -/
def execPkgEntry (s : State) : Out :=
  match if s.alive then s.pwr.cmd else none with
  | some (op, normal) =>
    if !s.pkgReady op normal then .next s
    else if op = 2 then
      let s1 := s.pkgClean
      .next (if s1.pkgCleaned then s1.pkgEnter op else s1)
    else .next (s.pkgEnter op)
  | none => .next s

/-- The wake of a package in SLEEP or DEEP (R472). -/
def State.pkgWake (s : State) (src : Nat) : State :=
  let w := setF (s.rg .PWR_WAKESRC) PWR_WAKESRC.SRC (2 ^ src)
  { ((s.setRg w .PWR_WAKESRC).setFd .PWR_STATUS PWR_STATUS.WAKEEV 1) with pwr := { s.pwr with exiting := true } }

/-- Whether a wake source holds (R472): 1, an enabled pending source of priority WPRI or above; 2, package time. -/
def State.wakeHolds (s : State) (src : Nat) : Bool :=
  match src with
  | 1 => s.listedSrcs.any (fun n => s.fb .IRT_SRC IRT_SRC.EN 0 n && s.srcPending n &&
      s.fd .PWR_WAKEEN PWR_WAKEEN.WPRI ≤ s.fd .IRT_SRC IRT_SRC.PRIO 0 n)
  | 2 => (s.rg .PWR_WAKETIME).toNat ≤ s.nowNs
  | _ => true

/-- Whether the package is in SLEEP or DEEP and not yet waking. -/
def State.pkgAsleep (s : State) : Bool :=
  s.boot.pwrok && !s.pwr.exiting && (s.fd .PWR_STATUS PWR_STATUS.PKG == 2 || s.fd .PWR_STATUS PWR_STATUS.PKG == 3)

/-- PKG_WAKE (R472): an enabled wake source. -/
def execPkgWake (src : Fin 4) (s : State) : Out :=
  if s.pkgAsleep && bitAt (s.rg .PWR_WAKEEN) src && s.wakeHolds src then .next (s.pkgWake src) else .next s

/-- PKG_EXIT_DONE (R468, R469): the package is back in RUN; STATUS is IDLE and CMDEV sets. -/
def execPkgExitDone (s : State) : Out :=
  if !s.boot.pwrok || !s.pwr.exiting then .next s
  else
    let s1 := { s with pwr := { s.pwr with exiting := false } }
    let s2 := ((s1.setFd .PWR_STATUS PWR_STATUS.PKG 0).setFd .PWR_STATUS PWR_STATUS.CMDEV 1).pkgStatus 0
    let s3 := (List.range 47).foldl (fun s k =>
      if s.domState (216 + k) = 4 then s else s.setDom (216 + k) (min (s.domState (216 + k)) (s.domTarget (216 + k)))) s2
    .next ((List.range 16).foldl (fun s h => s.setChan h { s.chan h with selfRefresh := s.domState (228 + h) == 2 }) s3)

/-! Power limit (R471, 21 R536). -/

/-- PWR_LIMIT.PL as it acts. -/
def State.powerLimit (s : State) : Nat := max 600 (min 1000 (s.fd .PWR_LIMIT PWR_LIMIT.PL))
/-- A core's clock ceiling as it acts (R466). -/
def State.freqOf (s : State) (n : Nat) : Nat := max 8 (min 36 (s.fd .PWR_DOM PWR_DOM.FREQ 0 n))

/-- Set every running core's granted clock, or every core's, by a function (R471). -/
def State.mapGfreq (s : State) (p : Nat → Bool) (f : Nat → Nat) : State :=
  (List.range 216).foldl (fun s n =>
    if p n then s.setFd .PWR_DOM PWR_DOM.GFREQ (f (s.fd .PWR_DOM PWR_DOM.GFREQ 0 n)) 0 n else s) s

/-- Whether the last sample threatens a limit (R471). -/
def State.powerThreat (s : State) : Bool :=
  s.powerLimit < s.fd .PWR_POWER PWR_POWER.AVG || 1150 < s.fd .PWR_POWER PWR_POWER.SAMPLE

/-- POWER_SAMPLE (R471): the measured power; a threatened limit lowers the clock of every running core by 100 MHz, not
below 0.8 GHz; LIMEV sets when a granted clock is cut below its ceiling. -/
def execPowerSample (watts avg : BitVec 16) (s : State) : Out :=
  if !s.powered then .next s
  else
    let s1 := s.setRg (setF (setF 0 PWR_POWER.SAMPLE watts.toNat) PWR_POWER.AVG avg.toNat) .PWR_POWER
    if s1.powerThreat then
      let s2 := s1.mapGfreq (fun n => (s1.core n).run == .run) (fun g => max 8 (g - 1))
      if (List.range 216).any (fun n => (s1.core n).run == .run && s2.fd .PWR_DOM PWR_DOM.GFREQ 0 n < s2.freqOf n &&
          s2.fd .PWR_DOM PWR_DOM.GFREQ 0 n < s1.fd .PWR_DOM PWR_DOM.GFREQ 0 n) then
        .next (s2.setFd .PWR_STATUS PWR_STATUS.LIMEV 1)
      else .next s2
    else .next s1

/-- Whether PROCHOT_N acts (R471). -/
def State.prochotActs (s : State) : Bool := s.pwr.prochot && s.fb .PWR_LIMIT PWR_LIMIT.PHEN

/-- FREQ_RAISE (R471): 100 MHz while headroom lasts, up to the ceiling. -/
def execFreqRaise (core : CoreNo) (s : State) : Out :=
  let n : Nat := core
  let g := s.fd .PWR_DOM PWR_DOM.GFREQ 0 n
  if s.alive && g < s.freqOf n && !s.powerThreat && !s.prochotActs then
    .next (s.setFd .PWR_DOM PWR_DOM.GFREQ (g + 1) 0 n)
  else .next s

/-- Every granted clock falls to 0.8 GHz and HOTEV sets; LIMEV sets where that cuts one below its ceiling (R471). -/
def State.hotCut (s : State) : State :=
  let s1 := (s.mapGfreq (fun _ => true) (fun _ => 8)).setFd .PWR_STATUS PWR_STATUS.HOTEV 1
  if (List.range 216).any (fun n => decide (8 < s.fd .PWR_DOM PWR_DOM.GFREQ 0 n) && decide (8 < s.freqOf n)) then
    s1.setFd .PWR_STATUS PWR_STATUS.LIMEV 1
  else s1

/-- PROCHOT_N (R471): ignored while PHEN is 0. -/
def execProchotN (low : Bool) (s : State) : Out :=
  let s1 := { s with pwr := { s.pwr with prochot := low } }
  if s.alive && s1.prochotActs then .next s1.hotCut else .next s1

/-- JUNCTION_HOT (21 R536): a sensor reaches 105 C; as PROCHOT_N low, whatever PHEN holds. -/
def execJunctionHot (s : State) : Out := if s.alive then .next s.hotCut else .next s

/-- When FREQ falls below GFREQ, GFREQ falls to FREQ at the edge that applies FREQ (R471). -/
def State.clampGfreq (s : State) : State :=
  (List.range 216).foldl (fun s n =>
    if s.freqOf n < s.fd .PWR_DOM PWR_DOM.GFREQ 0 n then s.setFd .PWR_DOM PWR_DOM.GFREQ (s.freqOf n) 0 n else s) s

/-- IRQ_OFFER (17 R456, R458, R460): the best eligible source of each world stands as the core's offer. A core in SLEEP or
DEEP is woken by a wake vote; an offer to a core that is HELD, RESETTING, STOPPED or OFF is withheld and counted. -/
def execIrqOffer (core : CoreNo) (s : State) : Out :=
  let n : Nat := core
  if !s.alive then .next s
  else
    let a := s.bestSrc n false
    let b := s.bestSrc n true
    let c := s.core n
    if a.isNone && b.isNone then .next (s.setCore n { c with offer := none, offerS := none })
    else if c.run = .held ∨ c.run = .resetting ∨ c.run = .stopped ∨ s.domState n = 4 then
      .next (s.satFd .IRT_STATUS IRT_STATUS.UNDELIV)
    else if 2 ≤ s.domState n then
      let s1 := if s.pwr.wakes.contains n then s else { s with pwr := { s.pwr with wakes := n :: s.pwr.wakes } }
      .next (s1.pwrWake n)
    else .next (((s.setCore n { c with offer := a, offerS := b }).noteGroup a n).noteGroup b n)

end Sys2Proof.Machine
end

