-- ==== Sys2Proof/Machine/Tick.lean ====
section
/-! DEFINITION. Package time and the frame tick (02): the counter, the tick edge and its strobe, TICK_IN and TICK_OUT, the
checks of schedules, and the corrections of Atlas (15 R413-R415). -/
namespace Sys2Proof.Machine

/-! Atlas at an edge (15 R414, R415). -/

/-- The median of a sorted list of offsets: the mean of the middle two where their number is even. -/
def median (l : List Int) : Int :=
  let n := l.length
  if n % 2 = 1 then l.getD (n / 2) 0 else (l.getD (n / 2 - 1) 0 + l.getD (n / 2) 0) / 2

/-- Insert into a sorted list. -/
def insertInt (x : Int) : List Int → List Int
  | [] => [x]
  | y :: t => if x ≤ y then x :: y :: t else y :: insertInt x t

/-- Sort. -/
def sortInts (l : List Int) : List Int := l.foldl (fun a x => insertInt x a) []

/-- TCK_RATE within its limits (R51). -/
def clampRate (r : Int) : Nat := (max (0x80000000 - 2147484) (min (0x80000000 + 2147484) r)).toNat

/-- TCK_STEP from a signed number of nanoseconds, clamped to 1,000 either way (15 R415). -/
def stepField (o : Int) : Nat := ((max (-1000) (min 1000 o)) % 4294967296).toNat

/-- Hardware writes TCK_STEP: a T field. -/
def State.writeStep (s : State) (o : Int) : State := s.setShadow ⟨.TCK_STEP, 0, 0, 0⟩ TCK_STEP.STEP (stepField o)

/-- The correction of one frame by Atlas (15 R415): offsets are in units of 1 / 2,048,000 ns. The frequency estimate is
free. -/
def State.atlasCorrect (s : State) (o : Int) : State :=
  if s.fd .TCK_CTL TCK_CTL.TSRC ≠ 2 then s
  else if 204800000 ≤ o.natAbs then s.writeStep ((2 * o + 2048000) / 4096000)
  else
    let (e, s1) := s.drawNat
    let p : Int := s.fd .TCK_PERIOD TCK_PERIOD.NS
    s1.setFd .TCK_RATE TCK_RATE.RATE (clampRate ((e : Int) + o * 0x80000000 / (p * 2048000)))

/-- A frame without a good probe (15 R415): a correction holds for one frame, so TCK_RATE returns to the frequency estimate, which is
free. -/
def State.atlasIdle (s : State) : State :=
  if s.fd .TCK_CTL TCK_CTL.TSRC ≠ 2 then s
  else
    let (e, s1) := s.drawNat
    s1.setFd .TCK_RATE TCK_RATE.RATE (clampRate e)

/-- LOCK falls. -/
def State.atlasLost (s : State) : State :=
  (s.setFd .FAB_ATLAS_STAT FAB_ATLAS_STAT.LOCK 0).setFd .FAB_ATLAS_STAT FAB_ATLAS_STAT.LOSTEV 1

/-- The lock state after a frame with offset `o` (15 R415). -/
def State.atlasLockStep (s : State) (o : Int) : State :=
  let n := if o.natAbs < 204800 then s.fab.lockGood + 1 else 0
  let s1 := { s with fab := { s.fab with lockGood := n } }
  let s2 := if 16 ≤ n then s1.setFd .FAB_ATLAS_STAT FAB_ATLAS_STAT.LOCK 1 else s1
  if 2048000 ≤ o.natAbs ∧ s2.fb .FAB_ATLAS_STAT FAB_ATLAS_STAT.LOCK then s2.atlasLost else s2

/-- The smallest of a list of round trips. -/
def minRtt (l : List Int) : Int := l.foldl min (l.headD 0)

/-- The end of a frame at the fabric engine (15 R414, R415): the frame's probes are judged, the correction is made, and
NPROBE probes go to the parent. -/
def State.atlasEdge (s : State) : State :=
  if !s.atlasFine then { s with fab := { s.fab with probes := [] } }
  else
    let ps := s.fab.probes
    let hist := (if ps.isEmpty then s.fab.rttHist else minRtt (ps.map (fun p => p.2)) :: s.fab.rttHist).take 64
    let good := ps.filter (fun p => decide (p.2 - minRtt hist ≤ 2048))
    let bad := if good.length < 4 then s.fab.lockBad + 1 else 0
    let s1 := ({ s with fab := { s.fab with probes := [], rttHist := hist, lockBad := bad } }).setFd .FAB_ATLAS_STAT
      FAB_ATLAS_STAT.GOOD (min 255 good.length)
    let s2 : State :=
      if good.isEmpty then State.atlasIdle { s1 with fab := { s1.fab with lockGood := 0 } }
      else
        let o := median (sortInts (good.map (fun p => p.1)))
        let s3 := s1.setFd .FAB_ATLAS_STAT FAB_ATLAS_STAT.OFFSET ((o / 2048) % 4294967296).toNat
        (s3.atlasCorrect o).atlasLockStep o
    let n := s2.fd .FAB_ATLAS_CTL FAB_ATLAS_CTL.NPROBE
    let par := s2.fd .FAB_ATLAS_CTL FAB_ATLAS_CTL.PARENT
    if s2.lstate par = 2 ∧ s2.linkFeat par 4 then
      (List.range (if n = 0 then 16 else n)).foldl (fun s k => s.linkSend par { FabPkt.plain 7 with psn := k }) s2
    else s2

/-- PTP_MESSAGE (15 R413): a completed exchange with its four times in units of 2^-10 ns. At a slave, 8 consecutive
offsets below 100 ns set COARSE; until LOCK the 1588 discipline corrects package time, by free amounts within the limits
of TCK_STEP and TCK_RATE. -/
def execPtpMessage (q : Fin 16) (t1 t2 t3 t4 : Nat) (s : State) : Out :=
  if !s.alive || !s.portUp q.val then .next s
  else
    let s0 := { s with fab := { s.fab with ptp := s.fab.ptp ++ [(q.val, t2)] } }
    if !s.fb .FAB_ATLAS_CTL FAB_ATLAS_CTL.EN || s.fb .FAB_ATLAS_CTL FAB_ATLAS_CTL.ROOT ||
        s.fd .FAB_ATLAS_CTL FAB_ATLAS_CTL.PPORT != q.val then .next s0
    else
      let a : Int := t1
      let b : Int := t2
      let c : Int := t3
      let d : Int := t4
      let twice := (b - a) - (d - c)
      let n := if twice.natAbs < 204800 then s.fab.coarseGood + 1 else 0
      let s1 := { s0 with fab := { s0.fab with coarseGood := n } }
      let s2 := if 8 ≤ n then s1.setFd .FAB_ATLAS_STAT FAB_ATLAS_STAT.COARSE 1 else s1
      if s2.fb .FAB_ATLAS_STAT FAB_ATLAS_STAT.LOCK || s2.fd .TCK_CTL TCK_CTL.TSRC != 2 then .next s2
      else
        let (r, s3) := s2.drawNat
        let (o, s4) := s3.drawNat
        .next ((s4.setFd .TCK_RATE TCK_RATE.RATE (clampRate r)).writeStep ((o % 2001 : Nat) - 1000))

/-! The edge and its strobe (R45, R46, R52). -/

/-- The blocks outside TCK that take the strobe: those with T fields or work per frame. -/
def strobeBlocks : List (Blk × Nat) :=
  [(.noc, 0), (.prl, 0), (.fab, 0), (.pair, 0), (.pwr, 0)] ++ (List.range 12).map (fun d => (Blk.dnoc, d)) ++
  (List.range 16).map (fun h => (Blk.coh, h)) ++ (List.range 16).map (fun h => (Blk.mem, h)) ++
  (List.range 208).map (fun c => (Blk.dma, c))

/-- The clock domain of a strobe block as `Tck.xing` numbers it: HCLK blocks need no crossing. -/
def strobeDom : Blk → Option Nat
  | .mem => some 2
  | .fab => some 3
  | .pair => some 3
  | .pwr => some 4
  | _ => none

/-- The work that ends a frame at a block, before its shadows apply. -/
def State.edgeEnd (s : State) (b : Blk) : State :=
  match b with
  | .noc => s.eslotEdge
  | .fab => s.fabEslotEdge
  | _ => s

/-- The work of a frame's edge at a block, after its shadows have been applied. -/
def State.edgeWork (s : State) (b : Blk) (x : Nat) : State :=
  match b with
  | .noc => s.routeSwitch
  | .prl => s.poolArrive
  | .fab => s.atlasEdge
  | .pair => s.pairEdge
  | .pwr => s.clampGfreq.pwrEval
  | .mem => s.scrubEdge x
  | .dma => s.dmaEdge (s.fd .TCK_PERIOD TCK_PERIOD.NS) x
  | _ => s

/-- The strobe reaches a block: it applies its T shadows; while the package is stopped no tick-ruled work runs (20 R510). -/
def State.strobeAt (s : State) (b : Blk) (x : Nat) : State :=
  let s0 := if s.alive then s.edgeEnd b else s
  let s1 := s0.applyShadows (inBlk b x)
  let s2 := { s1 with tck := { s1.tck with reached := b.base x :: s1.tck.reached } }
  if s2.alive then (s2.edgeWork b x).ovrRise s else s2

/-- The blocks that take the strobe through a crossing (R46), with the base of their registers. -/
def crossedBlocks : List (Blk × Nat) := strobeBlocks.filter (fun e => (strobeDom e.1).isSome)

/-- A strobe that has not reached every block (R46). -/
def State.strobeUnder (s : State) : Bool :=
  s.tck.strobe && crossedBlocks.any (fun e => !s.tck.reached.contains (e.1.base e.2))

/-- TICK_STROBE_ARRIVAL (R46): once, after the crossing into the block's domain; HCLK blocks have had the strobe in the cycle of the
edge. -/
def execTickStrobeArrival (block : Nat) (s : State) : Out :=
  match crossedBlocks.find? (fun e => e.1.base e.2 == block) with
  | none => .next s
  | some (b, x) =>
    let crossed := match strobeDom b with | some d => !s.crossing d 0 | none => true
    if s.tck.strobe && !s.tck.reached.contains block && crossed then .next (s.strobeAt b x) else .next s

/-- A strobe still on its way has crossed into every domain before the next edge (R42, the shortest period is 4 us). -/
def State.finishStrobe (s : State) : State :=
  if s.tck.strobe then
    crossedBlocks.foldl (fun s e => if s.tck.reached.contains (e.1.base e.2) then s else s.strobeAt e.1 e.2) s
  else s

/-- EVENT_CROSSING (R43): the transfers into a domain end. An event that the model gives no crossing of its own may have merged with
another: whether XOVR sets is free. -/
def execEventCrossing (dom : Fin 6) (s : State) : Out :=
  let d := dom.val
  if s.tck.xing.l.any (fun e => e.1 / 65536 == d) then
    let (b, s0) := s.drawBit
    let s1 := { s0 with tck := { s0.tck with xing := ⟨s0.tck.xing.l.filter (fun e => e.1 / 65536 != d)⟩ } }
    .next (if b then s1.setRg (s1.rg .TCK_XOVR ||| BitVec.ofNat 64 (2 ^ d)) .TCK_XOVR else s1)
  else .next s

/-- The ARM match and the tick interrupt (R50). -/
def State.tickIrqs (s : State) : State :=
  let s1 :=
    if s.fb .TCK_CTL TCK_CTL.ARM && s.frameNo == s.fd .TCK_MATCH TCK_MATCH.FRAME then
      ((s.setFd .TCK_CTL TCK_CTL.ARM 0).setFd .TCK_STATUS TCK_STATUS.MATCHED 1).raiseSrc 0xE1
    else s
  if s1.fb .TCK_CTL TCK_CTL.TIRQ then s1.raiseSrc 0xE0 else s1

/-- A pending TCK_STEP starts (R48). -/
def State.startStep (s : State) : State :=
  let v := s.fd .TCK_STEP TCK_STEP.STEP
  let s1 := s.setFd .TCK_STEP TCK_STEP.STEP 0
  if v = 0 then s
  else if v < 2 ^ 31 then s1.passTo (s1.timeU + v * 2 ^ 32) s1.tck.negLeft 0
  else s1.setTimeU s1.timeU (s1.tck.negLeft + (2 ^ 32 - v) * 2 ^ 32)

/-- TICK_OUT at an edge (R54): driven low in mode 0. -/
def State.outAtEdge (s : State) : State :=
  let m := s.fd .TCK_IO TCK_IO.OMODE
  if m = 0 then { s with tck := { s.tck with outHigh := false } }
  else if m = 1 ∨ (m = 2 ∧ s.frameNo % 2 ^ s.fd .TCK_IO TCK_IO.ODIV = 0) then
    { s with tck := { s.tck with outHigh := true, outRise := s.nowNs } }
  else s

/-- The strobe of the edge in its own cycle (R46, R47): the time keepers of the dies are reloaded, and every HCLK block takes it. -/
def State.strobeNow (s : State) : State :=
  let t := s.timeU
  let s1 := (List.range 12).foldl (fun s d => s.setDie d { s.die d with timeAt := t, timeRepl := t }) s
  strobeBlocks.foldl (fun s e => if (strobeDom e.1).isNone then s.strobeAt e.1 e.2 else s) s1

/-- The tick edge (R45, R46). In package SLEEP and DEEP edges only count (18 R469). Lease work that an earlier edge left to do is done
first (05 R166). -/
def State.fireEdge (s : State) : State :=
  let s0 := s.poolSync.finishStrobe
  let s1 := s0.setFd .TCK_FRAME TCK_FRAME.FRAME (wrapInc 48 s0.frameNo)
  let bump := fun (s : State) => s.setRg (s.rg .TCK_NEXT + BitVec.ofNat 64 (s.fd .TCK_PERIOD TCK_PERIOD.NS)) .TCK_NEXT
  if s.fd .PWR_STATUS PWR_STATUS.PKG ≠ 0 then bump s1
  else
    let s2 := (bump (s1.applyShadows (inBlk .tck 0))).startStep
    let s3 := s2.tickIrqs.outAtEdge
    let s4 := ({ s3 with tck := { s3.tck with strobe := true, reached := [] } }).strobeNow
    [0, 2, 3, 4, 5].foldl (fun s d => s.crossInto d 0) s4

/-- TICK_EDGE (R45): the cycles up to TCK_NEXT pass and the edge fires. -/
def execTickEdge (s : State) : Out := if s.counting then .next (s.advanceTo s.nextU).fireEdge else .next s

/-- One HCLK cycle of package time: what a step on an empty queue does. -/
def State.hclk (s0 : State) : State :=
  let s := if s0.alive then s0.sbIdle.wakeTraffic else s0
  if s.counting then
    let s1 := s.cycle
    if s1.nextU ≤ s1.timeU then s1.fireEdge else s1
  else s

/-- RUN is set (R49). -/
def State.tckStart (s : State) : State :=
  if s.ticking then s
  else
    let s1 := (s.setFd .TCK_CTL TCK_CTL.RUN 1).setFd .TCK_STATUS TCK_STATUS.RUNNING 1
    let key := RRef.key ⟨.TCK_CTL, 0, 0, 0⟩ TCK_CTL.RUN
    let s2 := { s1 with rwo := key :: s1.rwo.filter (fun k => k != key)
                        tck := { s1.tck with frac := s1.fd .TCK_TIME_FRAC TCK_TIME_FRAC.FRAC } }
    if s2.nextU ≤ s2.timeU then s2.fireEdge else s2

/-- TCK_RUN (R49). -/
def execTckRun (s : State) : Out :=
  if s.alive && !s.rwo.contains (RRef.key ⟨.TCK_CTL, 0, 0, 0⟩ TCK_CTL.RUN) then .next s.tckStart else .next s

/-- NEGATIVE_STEP_ABSORBED (R48): the cycles at half rate pass until the step is used up. -/
def execNegativeStepAbsorbed (s : State) : Out :=
  let t := s.timeU + s.halfCycles * (s.timeInc / 2)
  if s.counting && s.tck.negLeft != 0 && decide (t < s.nextU) then .next (s.passTo t 0 s.halfCycles) else .next s

/-! TICK_OUT and TICK_IN (R54-R56). -/

/-- TICK_OUT_SECOND_PULSE (R54): in mode 3 package time passes on to its next whole second, where TICK_OUT rises. -/
def execTickOutSecondPulse (s : State) : Out :=
  let t := (s.nowNs / 1000000000 + 1) * 1000000000 * 2 ^ 32
  if s.counting && s.fd .TCK_IO TCK_IO.OMODE == 3 && decide (t < s.nextU) then .next (s.advanceTo t) else .next s

/-- TICK_OUT_PULSE_END (R54): package time passes on to the end of the pulse, where TICK_OUT falls. -/
def execTickOutPulseEnd (s : State) : Out :=
  let t := (s.tck.outRise + max 8 (s.fd .TCK_IO TCK_IO.OWIDTH)) * 2 ^ 32
  if s.counting && s.tck.outHigh && (decide (t ≤ s.timeU) || decide (t < s.nextU)) then
    .next ((s.advanceTo t).outTick (s.advanceTo t).timeU)
  else .next s

/-- Distance in units from an instant to the nearest tick edge (R56). -/
def State.edgeOffset (s : State) (t : Nat) : Nat :=
  let n := s.nextU
  let p := n - s.fd .TCK_PERIOD TCK_PERIOD.NS * 2 ^ 32
  min (if t ≤ n then n - t else t - n) (if t ≤ p then p - t else t - p)

/-- The discipline of an accepted TICK_IN edge at instant `t` (R56): LOCK by the offset, TCK_RATE by a free amount within its
limits. -/
def State.tickInTrack (s : State) (t : Nat) : State :=
  let o := s.edgeOffset t
  let n := if o < 2 ^ 32 then s.tck.inGood + 1 else 0
  let s1 := { s with tck := { s.tck with inGood := n } }
  let s2 := if 16 ≤ n then s1.setFd .TCK_STATUS TCK_STATUS.LOCK 1
    else if 10 * 2 ^ 32 ≤ o then s1.setFd .TCK_STATUS TCK_STATUS.LOCK 0 else s1
  let (r, s3) := s2.drawNat
  s3.setFd .TCK_RATE TCK_RATE.RATE (clampRate r)

/-- TICK_IN_EDGE (R55, R56): the instant within the counter's cycle, in steps of 16 ps, is free. -/
def execTickInEdge (s : State) : Out :=
  if !s.powered || !s.fb .TCK_IO TCK_IO.IEN then .next s
  else
    let (k, s0) := s.drawNat
    let t := s.timeU + k % 32 * (16 * 2 ^ 32 / 1000)
    let soon := match s.tck.inLast with
      | some (ns, fr) => decide (t < (ns + 1000) * 2 ^ 32 + fr)
      | none => false
    if soon then .next (s0.setFd .TCK_STATUS TCK_STATUS.INOVR 1)
    else
      let s1 := if s.fb .TCK_STATUS TCK_STATUS.INEV then s0.setFd .TCK_STATUS TCK_STATUS.INOVR 1 else s0
      let s2 := ((s1.setRg (BitVec.ofNat 64 (t / 2 ^ 32)) .TCK_IN_STAMP).setFd .TCK_IN_FRAC TCK_IN_FRAC.FRAC (t % 2 ^ 32)).setFd
        .TCK_STATUS TCK_STATUS.INEV 1
      let s3 := { s2 with tck := { s2.tck with inLast := some (t / 2 ^ 32, t % 2 ^ 32) } }
      .next (if s.fd .TCK_CTL TCK_CTL.TSRC = 1 ∧ s.ticking then s3.tickInTrack t else s3)

/-- TICK_IN_LOCK_LOSS (R56): 4 periods without an accepted edge. -/
def execTickInLockLoss (s : State) : Out :=
  let late := match s.tck.inLast with
    | some (ns, _) => decide (ns + 4 * s.fd .TCK_PERIOD TCK_PERIOD.NS ≤ s.nowNs)
    | none => true
  if s.counting && s.fb .TCK_STATUS TCK_STATUS.LOCK && late then
    .next { (s.setFd .TCK_STATUS TCK_STATUS.LOCK 0) with tck := { s.tck with inGood := 0 } }
  else .next s

/-! Writes of TCK registers with rules of their own (R50, R51) and the checks of schedules (09 R257, 15 R407). -/

/-- A write waits for the Luna controller's check, whoever made it (R51, 09 R257, 15 R407). -/
def State.queueCheck (s : State) (init : Option Init) (off width : Nat) (data : Word) : State :=
  { s with tck := { s.tck with checks := s.tck.checks ++ [⟨off, width, data, init, s.limitFor (0x800000000000 + off)⟩] } }

/-- The checked write completes to its initiator (R51). -/
def State.checkAnswer (s : State) (c : SchedCheck) : State :=
  match c.init with
  | some i => s.heldAnswer i c.limit c.off .ok
  | none => s

/-- TCK_PERIOD is written (R51). -/
def State.periodWrite (s : State) (init : Option Init) (v : Nat) : State :=
  if 4000 ≤ v ∧ v ≤ 4000000 then s.queueCheck init (RegKind.TCK_PERIOD.addr) 32 (BitVec.ofNat 64 v)
  else s.setFd .TCK_STATUS TCK_STATUS.PERR 1

/-- TCK_PERIOD_WRITE (R51): the row names no initiator. -/
def execTckPeriodWrite (data : BitVec 32) (s : State) : Out :=
  if s.alive then .next (s.periodWrite none (data.toNat % 2 ^ 22)) else .next s

/-- TCK_RATE is written by software (R50). -/
def State.rateWrite (s : State) (v : Nat) : State :=
  if s.fd .TCK_CTL TCK_CTL.TSRC ≠ 0 then s.setFd .TCK_STATUS TCK_STATUS.SRCERR 1
  else if 0x80000000 - 2147484 ≤ v ∧ v ≤ 0x80000000 + 2147484 then s.setFd .TCK_RATE TCK_RATE.RATE v
  else s.setFd .TCK_STATUS TCK_STATUS.PERR 1

/-- TCK_RATE_WRITE (R50). -/
def execTckRateWrite (data : BitVec 32) (s : State) : Out := if s.alive then .next (s.rateWrite data.toNat) else .next s

/-- The register word that a checked write would leave in the shadow. -/
def checkedWord (s : State) (h : Hit) (data : Word) : Word :=
  (s.rdSh h.r &&& ~~~h.mask) ||| ((data <<< h.sh) &&& h.mask)

/-- Both schedules with one register replaced: the on-package one, then the fabric's. -/
def State.checkSchedules (s : State) (r : RRef) (w : Word) : Bool × Bool × State :=
  let rd := fun (q : RRef) => if q = r then w else s.rdSh q
  let period := getF (rd ⟨.TCK_PERIOD, 0, 0, 0⟩) TCK_PERIOD.NS
  let share := min 128 (getF (rd ⟨.NOC_ECTL, 0, 0, 0⟩) NOC_ECTL.ESHARE)
  let (a, s1) := s.nocCheck share period (fun k => rd ⟨.NOC_ESLOT, 0, k, 0⟩)
  (a, s.fabCheck period (fun k => rd ⟨.FAB_ESLOT, 0, k, 0⟩), s1)

/-- The fields of a checked register that the check governs: all of it but for FAB_CTL, where it is EEN. -/
def checkedField (k : RegKind) (f : Fld) : Bool := if k = .FAB_CTL then f == FAB_CTL.EEN else true

/-- A checked write completes (R51, 09 R257, 15 R407): into the shadows, or with PREJ of its block; `reject`: the controller has
restarted (19 R489). -/
def State.finishCheck (s : State) (c : SchedCheck) (reject : Bool) : State :=
  match hitOf c.off c.width with
  | none => s
  | some h =>
    let (a, b, s1) := s.checkSchedules h.r (checkedWord s h c.data)
    let ok := !reject && match h.r.k with
      | .TCK_PERIOD => a && b
      | .NOC_ESLOT => a
      | .NOC_ECTL => a
      | _ => b
    let o := writeFields s1 h c.data true s1.fabQuiet (fun f _ => checkedField h.r.k f && !ok)
    let sw := if o.werr then o.s.setFd .FAB_STATUS FAB_STATUS.WERR 1 else o.s
    let s2 := if h.r.k = .FAB_CTL && sw.fb .FAB_CTL FAB_CTL.EN && !s1.fb .FAB_CTL FAB_CTL.EN then sw.fabEnable else sw
    if ok then s2
    else
      match h.r.k with
      | .TCK_PERIOD => s2.setFd .TCK_STATUS TCK_STATUS.PREJ 1
      | .NOC_ESLOT => s2.setFd .NOC_ESTATUS NOC_ESTATUS.PREJ 1
      | .NOC_ECTL => s2.setFd .NOC_ESTATUS NOC_ESTATUS.PREJ 1
      | _ => s2.setFd .FAB_ESTATUS FAB_ESTATUS.PREJ 1

/-- SCHEDULE_CHECK_DONE (R257): the oldest check ends. -/
def execScheduleCheckDone (s : State) : Out :=
  match if s.alive then s.tck.checks else [] with
  | [] => .next s
  | c :: t => .next ((State.finishCheck { s with tck := { s.tck with checks := t } } c false).checkAnswer c)

/-- Checks under way are rejected when the Luna controller restarts (19 R489): of each write only what was to be checked is lost. -/
def State.rejectChecks (s : State) : State :=
  s.tck.checks.foldl (fun s c => (s.finishCheck c true).checkAnswer c) { s with tck := { s.tck with checks := [] } }

/-- TCK_TIME_NS_READ (R51): the value is returned; a read of its low part latches the fraction. -/
def execTckTimeNsRead (i : Init) (off width : Nat) (s : State) : Out :=
  if !s.powered then .next s
  else
    match hitOf off width with
    | some h =>
      if h.r.k = .TCK_TIME_NS then
        let s0 := s.regRequest i (hubNode 9) off false 0
        if !regAccessOk off width then .next (s0.regReply i (hubNode 9) off .decerr 0)
        else
          let s1 := if s.ticking && h.sh == 0 then s0.setFd .TCK_TIME_FRAC TCK_TIME_FRAC.FRAC s.tck.frac else s0
          .next (s1.regReply i (hubNode 9) off .ok (hitValue h (s.rg .TCK_TIME_NS)))
      else .next s
    | none => .next s

end Sys2Proof.Machine
end

