-- ==== Sys2Proof/Machine/Boot.lean ====
section
/-! DEFINITION. Reset, boot and identity (19), and the resets, rails and clocks of 21. -/
namespace Sys2Proof.Machine

/-! The image in the Luna controller's buffer (19 R482-R485). -/

/-- Byte `a` of the image buffer. -/
def State.img (s : State) (a : Nat) : Byte := s.boot.buf.getD a 0

/-- `n` bytes of the buffer as a little-endian number. -/
def State.imgLe (s : State) (a : Nat) : Nat → Nat
  | 0 => 0
  | n + 1 => (s.img a).toNat + 256 * s.imgLe (a + 1) n

/-- `n` bytes of the buffer. -/
def State.imgBytes (s : State) (a n : Nat) : List Byte := (List.range n).map (fun i => s.img (a + i))

/-- LEN of the header. -/
def State.imgLen (s : State) : Nat := s.imgLe 8 4

/-- A record of an image (R484). -/
structure ImgRec where
  typ : Nat
  req : Bool
  ver : Nat
  other : Nat
  plen : Nat
  aux : Nat
  off : Nat
deriving DecidableEq, Repr

/-- A multiple of 16 at or above `n`. -/
def round16 (n : Nat) : Nat := (n + 15) / 16 * 16

/-- The records from byte `a` on, up to END or the signature (R484). -/
def State.imgRecs (s : State) (lim : Nat) : Nat → Nat → List ImgRec
  | 0, _ => []
  | n + 1, a =>
    if a + 16 ≤ lim then
      let w := s.imgLe a 4
      let r : ImgRec := ⟨w % 256, (w / 256) % 2 == 1, (w / 65536) % 256, (w / 512) % 128 + w / 2 ^ 24, s.imgLe (a + 4) 4,
        s.imgLe (a + 8) 8, a + 16⟩
      if r.typ = 0xFF then [r] else r :: s.imgRecs lim n (a + 16 + round16 r.plen)
    else []

/-- The records of the image. -/
def State.records (s : State) : List ImgRec := s.imgRecs (s.imgLen - 96) (s.imgLe 12 2 + 1) 256

/-- Types the device knows, all at version 1 (R484). -/
def knownRec (r : ImgRec) : Bool := ((1 ≤ r.typ && r.typ ≤ 9) || r.typ == 0xFF) && r.ver == 1

/-- Types that may appear any number of times (R484). -/
def manyRec (t : Nat) : Bool := t == 3 || t == 5 || t == 9

/-- The index classes of a CLAIM entry (17 R451). -/
def claimOk (e : Nat) : Bool := resourceOk (e % 4) ((e / 65536) % 4096)

/-- Whether a known record is malformed (R484, R485, R538 item 5); `dup` that its type has come before. -/
def State.badRec (s : State) (lim : Nat) (dup : Bool) (r : ImgRec) : Bool :=
  r.other != 0 || lim < r.off + round16 r.plen ||
  (List.range (round16 r.plen - r.plen)).any (fun i => s.img (r.off + r.plen + i) != 0) ||
  (dup && !manyRec r.typ) ||
  (match r.typ with
   | 2 => r.aux != 0 || r.plen != 96 ||
          (List.range 8).any (fun k => 5 ≤ (s.img (r.off + 4 + k)).toNat % 8) ||
          ((s.img r.off).toNat == 1 && s.img (r.off + 4) != 0)
   | 3 => r.aux % 128 != 0 || r.plen == 0 ||
          !((region r.aux == .sram && region (r.aux + r.plen - 1) == .sram) ||
            (region r.aux == .dram && region (r.aux + r.plen - 1) == .dram))
   | 4 => r.aux != 0 || r.plen < 16 || 216 ≤ s.imgLe r.off 8
   | 5 => r.plen != 4 * r.aux || (List.range r.aux).any (fun k => !claimOk (s.imgLe (r.off + 4 * k) 4))
   | 6 => r.aux != 0 || r.plen == 0
   | 9 => r.plen != 16 * r.aux
   | 0xFF => r.aux != 0 || r.plen != 0
   | _ => r.aux != 0)

/-- The first failure among the records, in image order: code and DETAIL[7:0] (R538 item 5). -/
def State.checkRecs (s : State) (lim : Nat) : List ImgRec → List Nat → Nat → Option (Nat × Nat)
  | [], _, _ => none
  | r :: t, seen, i =>
    if knownRec r then
      if s.badRec lim (seen.contains r.typ) r then some (6, min i 0xFE) else s.checkRecs lim t (r.typ :: seen) (i + 1)
    else if r.req then some (5, r.typ)
    else s.checkRecs lim t seen (i + 1)

/-- The checks of stage 4 in order (R538): the code of the first failure and DETAIL[7:0]. -/
def State.verifyImage (s : State) : Option (Nat × Nat) :=
  let len := s.imgLen
  let slot := (s.img 14).toNat
  let rs := s.records
  let bind := rs.filter (fun r => r.typ == 9 && knownRec r)
  if s.img 4 ≠ 2 then some (3, (s.img 4).toNat)
  else if len < 368 ∨ 0x800000 < len ∨ s.imgLe 6 2 ≠ 0 ∨ s.imgLe 17 15 ≠ 0 ∨
      (List.range 112).any (fun i => s.img (144 + i) != 0) ∨
      s.fd .BOOT_STRAP BOOT_STRAP.VARIANT ≠ (s.img 16).toNat then some (6, 0xFF)
  else if 3 < slot ∨ !(s.boot.fuses.prog.getLsbD slot) ∨ s.boot.fuses.revoked.getLsbD slot ∨
      !(Config.imageSigned (s.imgBytes 0 len) slot) then some (2, 0)
  else if (s.img 15).toNat < s.boot.fuses.svn then some (4, 0)
  else
    match s.checkRecs (len - 96) rs [] 0 with
    | some e => some e
    | none =>
      if rs.length ≠ s.imgLe 12 2 ∨ (rs.getLast?.map (fun r => r.typ)) ≠ some 0xFF ∨
          !([1, 2, 3, 4].all (fun t => rs.any (fun r => r.typ == t && knownRec r))) then some (6, 0xFF)
      else if bind ≠ [] ∧ !(bind.any (fun r => (List.range r.aux).any (fun k =>
          s.imgLe (r.off + 16 * k) 8 == (Config.identity 13).toNat && s.imgLe (r.off + 16 * k + 8) 8 == (Config.identity 14).toNat)))
        then some (7, 0)
      else none

/-! Boot stages (19 R477). -/

/-- Set the stage in progress. -/
def State.setStage (s : State) (n : Nat) : State :=
  ({ s with boot := { s.boot with stage := n } }).setFd .BOOT_STATUS BOOT_STATUS.STAGE n

/-- A boot stop (R478): cores stay held, CODE, DETAIL, STOPPED; the stop is logged and recovery is entered. -/
def State.bootStop (s : State) (code detail : Nat) : State :=
  let s1 := (((s.setFd .BOOT_STATUS BOOT_STATUS.CODE code).setFd .BOOT_STATUS BOOT_STATUS.DETAIL detail).setFd
    .BOOT_STATUS BOOT_STATUS.STOPPED 1).setFd .BOOT_STATUS BOOT_STATUS.RECOVERY 1
  s1.queueLog 3 0xFFF ((s1.rg .BOOT_STATUS).toNat % 2 ^ 32) 0 0 0

/-- A copy fails at stage 3 or 4 (R480, R494): copy 1 is tried after copy 0; a GO tries only the buffer. -/
def State.copyFails (s : State) (code low : Nat) : State :=
  if s.boot.fromBuf then
    ((s.bootStop code low).setFd .REC_RESULT REC_RESULT.CODE code).setFd .REC_RESULT REC_RESULT.BUSY 0
  else if s.fb .BOOT_STATUS BOOT_STATUS.COPY then s.bootStop code (s.boot.code0 * 256 + low)
  else
    (({ s with boot := { s.boot with code0 := code } }).setFd .BOOT_STATUS BOOT_STATUS.COPY 1).setStage 3

/-- The command and the lanes by which the image is read (R479): what the flash's SFDP table declares for the width of BOOT_SRC, or
0x13 on one lane. A table that declares none for that width is not described: the command is free. -/
def State.flashCmd (s : State) : (Nat × Nat) × State :=
  let src := s.fd .BOOT_STRAP BOOT_STRAP.BOOT_SRC
  if s.boot.sfdp.isEmpty then ((0x13, 1), s)
  else
    let lanes := if src = 0 then 1 else if src = 1 then 4 else 8
    match s.boot.sfdp[min src 2]? with
    | some c => ((c, lanes), s)
    | none =>
      let (k, s1) := s.drawNat
      ((k % 256, lanes), s1)

/-- The magic value of a header (R482). -/
def imgMagic : Nat := 0x4C565246

/-- A byte of the flash; one never written holds 0xFF, an erased byte (log 6). -/
def State.flashByte (s : State) (a : Nat) : Byte := s.boot.flash.getD a 0xFF

/-- `len` bytes of the flash from an address on, as the buffer gets them. -/
def State.flashBytes (s : State) (base len : Nat) : KMap Byte :=
  ⟨(List.range len).map (fun k => (k, s.flashByte (base + k)))⟩

/-- Read a copy of the image into the buffer (R477 stage 3, R479, R480): the SFDP table by command 0x5A, the header, and where its
MAGIC is right and its LEN at most 8 MiB the rest. -/
def State.readCopy (s : State) : State :=
  let base := if s.fb .BOOT_STATUS BOOT_STATUS.COPY then 0x1000000 else 0
  let (c, s1) := s.flashCmd
  let head := { s1 with boot := { s1.boot with
    buf := s1.flashBytes base 256, flashSent := s1.boot.flashSent ++ [(0x5A, 1, 0), (c.1, c.2, base)] } }
  if head.imgLe 0 4 = imgMagic ∧ head.imgLen ≤ 0x800000 then
    { head with boot := { head.boot with buf := s1.flashBytes base (max 256 head.imgLen) } }
  else head

/-- Stage 3 (R477, R480, R494): recovery when BOOT_SRC asks for it; else a copy is read and its MAGIC checked. -/
def State.stageRead (s : State) (w : BootWork) : State :=
  if s.fd .BOOT_STRAP BOOT_STRAP.BOOT_SRC = 3 ∧ !s.boot.fromBuf then s.setFd .BOOT_STATUS BOOT_STATUS.RECOVERY 1
  else
    let s1 := if s.boot.fromBuf then s else s.readCopy
    if (!s.boot.fromBuf && !w.flashOk) || s1.imgLe 0 4 != imgMagic then s1.copyFails 1 0
    else s1.setStage 4

/-- Stage 4 (R538): a good copy boots. -/
def State.stageVerify (s : State) : State :=
  match s.verifyImage with
  | some e => s.copyFails e.1 e.2
  | none =>
    let skipped := (s.records.filter (fun r => !knownRec r)).length
    let s1 := ((s.setFd .BOOT_STATUS BOOT_STATUS.SVN (s.img 15).toNat).setFd .BOOT_STATUS BOOT_STATUS.KEYSLOT
      (s.img 14).toNat).setFd .BOOT_STATUS BOOT_STATUS.SKIPPED (min 255 skipped)
    (if s1.boot.fromBuf then (s1.setFd .REC_RESULT REC_RESULT.CODE 0).setFd .REC_RESULT REC_RESULT.BUSY 0 else s1).setStage 5

/-- A mask of the sites that satisfy `p`. -/
def siteMask (n : Nat) (p : Nat → Bool) : Nat := (List.range n).foldl (fun m d => if p d then m + 2 ^ d else m) 0

/-- Record what stage 5 finds of a die (01 R22). -/
def State.dieRev (s : State) (w : BootWork) (d : Nat) : State :=
  let live := s.fd .D2D_PEER D2D_PEER.LIVE d != 0
  let s1 := s.setFd .IDN_DIE_REV IDN_DIE_REV.PRESENT (b2n (live && s.fb .D2D_SITE D2D_SITE.CODE_OK d)) 0 (d + 1)
  let r := w.dieRev.getD d 0
  (s1.setFd .IDN_DIE_REV IDN_DIE_REV.METAL (r % 16) 0 (d + 1)).setFd .IDN_DIE_REV IDN_DIE_REV.BASE (r / 16 % 16) 0 (d + 1)

/-- Stage 5 (R477, R478 codes 0x10 and 0x11). -/
def State.stageDies (s : State) (w : BootWork) : State :=
  let s1 := (List.range 12).foldl (fun s d => s.dieRev w d) s
  let no := fun (d : Nat) => s1.fb .IDN_DIE_REV IDN_DIE_REV.REFUSED 0 (d + 1)
  let dead := siteMask 12 (fun d => s1.fd .D2D_PEER D2D_PEER.LIVE d == 0 && !no d)
  let refused := siteMask 12 no
  if dead ≠ 0 then s1.bootStop 0x10 dead
  else if refused ≠ 0 then s1.bootStop 0x11 refused
  else s1.fillRoutes.setStage 6

/-- Capacities on the list, in units of 8 GiB (11 R295). -/
def capOk (c : Nat) : Bool := [2, 3, 4, 6, 8, 12, 16, 24, 32].contains c

/-- The BOARD record's payload offset. -/
def State.boardOff (s : State) : Nat :=
  match s.records.find? (fun r => r.typ == 2) with
  | some r => r.off
  | none => 0

/-- Configure one channel (11 R295-R298). -/
def State.bootChan (s : State) (w : BootWork) (cap rate : Nat) (h : Nat) : State :=
  let v := setF (setF (setF (setF 0 MEM_CFG.RATE rate) MEM_CFG.DTYPE (w.dimmType.getD h 0)) MEM_CFG.CAP cap) MEM_CFG.EN 1
  let s1 := (s.chanForget h).setRg v .MEM_CFG h
  (s1.setFd .MEM_STATUS MEM_STATUS.TRAINED 1 h).setFd .MEM_STATUS MEM_STATUS.CAPCUT
    (b2n (cap < w.dimmCap.getD h 0)) h

/-- Stage 6 (11 R295, R296, R298; R478 codes 0x20-0x23). The row does not name the step at which a training failed: it is free. -/
def State.stageMemory (s : State) (w : BootWork) : State :=
  let empty := siteMask 16 (fun h => w.dimmCap.getD h 0 == 0)
  let mixed := siteMask 16 (fun h => w.dimmType.getD h 0 != w.dimmType.getD 0 0)
  let off := siteMask 16 (fun h => !capOk (w.dimmCap.getD h 0))
  let bad := siteMask 16 (fun h => !(w.trained.getD h false))
  if empty ≠ 0 then s.bootStop 0x20 empty
  else if mixed ≠ 0 then s.bootStop 0x21 mixed
  else if off ≠ 0 then s.bootStop 0x22 off
  else
    let cap := (List.range 16).foldl (fun m h => min m (w.dimmCap.getD h 0)) 32
    let rate := (List.range 16).foldl (fun m h => min m (w.dimmRate.getD h 0)) ((s.img (s.boardOff + 1)).toNat % 4)
    let s1 := (List.range 16).foldl (fun s h => s.bootChan w cap rate h) s
    if bad ≠ 0 then
      ((List.range 16).foldl (fun s h =>
        if w.trained.getD h false then s
        else
          let (k, s2) := s.drawNat
          ((s2.setFd .MEM_STATUS MEM_STATUS.TRAINED 0 h).setFd .MEM_STATUS MEM_STATUS.TFAIL 1 h).setFd .MEM_STATUS
            MEM_STATUS.TSTEP (k % 16) h) s1).bootStop 0x23 bad
    else s1.setStage 7

/-- The word `j` of a digest. -/
def digestWord (d : BitVec 384) (j : Nat) : Word := BitVec.setWidth 64 (BitVec.ushiftRight d (64 * j))

/-- Write a measurement register (R491). -/
def State.setMeas (s : State) (k : Nat) (d : BitVec 384) : State :=
  (List.range 6).foldl (fun s j => s.setRg (digestWord d j) .IDN_MEAS 0 k j) s

/-- The bytes of a list of words, low byte first. -/
def wordsBytes (l : List Word) : List Byte := l.flatMap (fun w => (List.range 8).map (fun i => wordByte w i))

/-- The payloads of every record of a type, in image order; none where the image has no such record. -/
def State.payloads (s : State) (t : Nat) : Option (List Byte) :=
  match s.records.filter (fun r => r.typ == t && knownRec r) with
  | [] => none
  | rs => some (rs.flatMap (fun r => s.imgBytes r.off r.plen))

/-- Fix a measurement: SHA-384 of its subject, or zero when the subject is absent (R491). -/
def State.fixMeas (s : State) (k : Nat) (subject : Option (List Byte)) : State :=
  s.setMeas k (match subject with | some l => Config.sha384 l | none => 0)

/-- Stage 7's measurements (R491); in what order a subject's parts are hashed is the model's (log 155). -/
def State.measureAll (s : State) : State :=
  let code := (s.records.filter (fun r => r.typ == 3)).flatMap (fun r =>
    s.imgBytes r.off r.plen ++ wordsBytes [BitVec.ofNat 64 r.aux])
  let revs := wordsBytes ((List.range 13).map (fun n => s.rg .IDN_DIE_REV 0 n))
  let s0 := s.fixMeas 0 (some (wordsBytes [Config.identity 15, s.rg .IDN_KEYFUSE]))
  let s1 := [(1, 1), (2, 2), (4, 4), (5, 5), (6, 6), (7, 7), (8, 8)].foldl (fun a p => a.fixMeas p.1 (s.payloads p.2)) s0
  (((s1.fixMeas 3 (some code)).fixMeas 9 (some revs)).fixMeas 10 (some (s.imgBytes 0 128))).fixMeas 11 (some (wordsBytes [s.rg .WLD_DBGEN]))

/-- CLAIM of one resource for the secure world (17 R451, R484). -/
def State.bootClaim (s : State) (e : Nat) : State :=
  (s.setOwner (e % 4) ((e / 65536) % 4096) .s).setWorld (e % 4) ((e / 65536) % 4096) true

/-- Every CLAIM entry, in image order. -/
def State.bootClaims (s : State) : State :=
  (s.records.filter (fun r => r.typ == 5 && knownRec r)).foldl (fun s r =>
    (List.range r.aux).foldl (fun s k => s.bootClaim (s.imgLe (r.off + 4 * k) 4)) s) s

/-- The DEBUG record, applied only while LOCK is 0 (17 R537). -/
def State.bootDebug (s : State) : State :=
  match s.records.find? (fun r => r.typ == 6 && knownRec r) with
  | none => s
  | some r =>
    if s.fb .WLD_DBGEN WLD_DBGEN.LOCK then s
    else
      let b := (s.img r.off).toNat
      let s1 := (s.setFd .WLD_DBGEN WLD_DBGEN.NLVL (b % 4)).setFd .WLD_DBGEN WLD_DBGEN.SLVL (b / 4 % 4)
      if b / 16 % 2 = 1 then
        { (s1.setFd .WLD_DBGEN WLD_DBGEN.LOCK 1) with rwo := (RRef.mk .WLD_DBGEN 0 0 0).key WLD_DBGEN.LOCK :: s1.rwo }
      else s1

/-- A little-endian 64-bit word of a record's payload. -/
def recWord (pay : Nat → Byte) (off : Nat) : Word :=
  (List.range 8).foldl (fun (a : Word) j => a ||| (BitVec.setWidth 64 (pay (off + j)) <<< (8 * j))) 0

/-- The FABRIC record (R484), its parts one after the other in register layout: FAB_CTL, the addresses of the sixteen
ports, their MAC addresses, the record of the Atlas parent's link, FAB_ATLAS_CTL; the COARSE limit ends it. -/
def State.bootFabric (s : State) (pay : Nat → Byte) (plen : Nat) : State :=
  let w := fun off => if off + 8 ≤ plen then recWord pay off else 0
  let s1 := s.setRg (w 0 &&& 0xFFFFFFFF003FFFFF) .FAB_CTL
  let s2 := (List.range 16).foldl (fun s q =>
    ((s.setRg (w (8 + 16 * q)) .FAB_PADDR_LO (q / 2) (q % 2)).setRg (w (16 + 16 * q)) .FAB_PADDR_HI (q / 2) (q % 2)).setRg
      (w (264 + 8 * q) &&& 0xFFFFFFFFFFFF) .FAB_LMAC (q / 2) (q % 2)) s1
  let s3 := s2.setRg (w 456 &&& 0xFFFF07FFFFFF) .FAB_ATLAS_CTL
  let n := s3.fd .FAB_ATLAS_CTL FAB_ATLAS_CTL.PARENT
  let p := fun off => w (392 + off)
  let s4 := (((s3.setRg (p 0 &&& 0x3FE) .FAB_PEER_CTL 0 n).setRg (p 0x10) .FAB_PEER_ADDR_LO 0 n).setRg (p 0x18)
    .FAB_PEER_ADDR_HI 0 n).setRg (p 0x20) .FAB_PEER_IDHASH_LO 0 n
  let s5 := (s4.setRg (p 0x28) .FAB_PEER_IDHASH_HI 0 n).setRg (p 0x30 &&& 0x8FFF0FFF) .FAB_PEER_IWIN 0 n
  s5.peerEn n (bitAt (p 0) 0)

/-- Stage 7 (R477): HBU_CTL and slots, FAB and PAIR records, CLAIM, DEBUG, UCODE, power limit, measurements. -/
def State.stageConfig (s : State) : State :=
  let b := s.boardOff
  let board := fun i => s.img (b + i)
  let s1 := { (s.bootHbu board) with boot := { s.boot with attached := (board 0).toNat == 1 } }
  let s2 :=
    match s.records.find? (fun r => r.typ == 7 && knownRec r) with
    | some r => s1.bootFabric (fun i => s.img (r.off + i)) r.plen
    | none => s1
  let s3 := (s2.bootClaims).bootDebug
  let s4 := s3.setFd .PWR_LIMIT PWR_LIMIT.PL ((s.imgLe (b + 80) 2) % 1024)
  (s4.measureAll).setStage 8

/-- Write a CODE payload at its target with full-line writes (R477 stage 8). -/
def State.loadCode (s : State) (r : ImgRec) : State :=
  (List.range ((r.plen + 127) / 128)).foldl (fun s i =>
    let d : LineData := (List.range 128).foldl (fun (a : LineData) j =>
      if i * 128 + j < r.plen then a ||| BitVec.shiftLeft (BitVec.setWidth 1024 (s.img (r.off + i * 128 + j))) (8 * j)
      else a) 0
    (s.writeLine lunaNode (r.aux / 128 + i) true fullMask d 0).2) s

/-- Stage 8 (R477, R478 code 0x08): every target is checked before any payload is written. -/
def State.stageLoad (s : State) : State :=
  let rs := s.records
  let codes := rs.filter (fun r => r.typ == 3 && knownRec r)
  match rs.findIdx? (fun r => r.typ == 3 && knownRec r && region r.aux == .dram && s.installed < r.aux + r.plen) with
  | some i => s.bootStop 8 (min i 0xFE)
  | none => (codes.foldl State.loadCode s).setStage 9

/-- Stage 9 (R477, R478): the COARSE wait when Atlas is enabled, then the tick starts. -/
def State.stageTime (s : State) (w : BootWork) : State :=
  let atlas := s.fb .FAB_ATLAS_CTL FAB_ATLAS_CTL.EN
  let s1 := if atlas then s.setFd .TCK_CTL TCK_CTL.TSRC 2 else s
  let s2 := if atlas && !w.coarse then s1.setFd .BOOT_STATUS BOOT_STATUS.ATLASTO 1 else s1
  s2.tckStart.setStage 10

/-- Stage 10 (R477): C_START of the boot core, its release, DONE. -/
def State.stageRelease (s : State) : State :=
  match s.records.find? (fun r => r.typ == 4) with
  | none => s
  | some r =>
    let n := s.imgLe r.off 8
    let s1 := s.setRg (BitVec.ofNat 64 (s.imgLe (r.off + 8) 8 % 2 ^ 56 / 4 * 4)) .C_START n
    (s1.coreReleaseOp n).setFd .BOOT_STATUS BOOT_STATUS.DONE 1

/-- Fuse sense at stage 1 (R477): the identity registers that come from fuses. -/
def State.stageFuse (s0 : State) (w : BootWork) : State :=
  let s := s0.logScan
  if !w.fuseOk then s.bootStop 0x40 0
  else
    let f := s.boot.fuses
    let s1 := s.setRg (Config.identity 0) .IDN_SERIAL
    let k := setF (setF (setF 0 IDN_KEYFUSE.PROG f.prog.toNat) IDN_KEYFUSE.REVOKED f.revoked.toNat) IDN_KEYFUSE.SVNFUSE f.svn
    (s1.setRg k .IDN_KEYFUSE).setStage 2

/-- Stage 2 (R490): the identity key pair is derived. -/
def State.stageKey (s : State) : State :=
  let s1 := (List.range 12).foldl (fun s j => s.setRg (Config.identity (1 + j)) .IDN_PUBKEY 0 j) s
  ((s1.setRg (Config.identity 13) .IDN_IDHASH 0 0).setRg (Config.identity 14) .IDN_IDHASH 0 1).setStage 3

/-- BOOT_STAGE_DONE (R477): the stage in progress ends, and the next begins, or boot stops. -/
def execBootStageDone (w : BootWork) (s : State) : Out :=
  if !s.boot.pwrok || !s.boot.resetN || s.pwr.tripped || s.err.stopped || s.fb .BOOT_STATUS BOOT_STATUS.STOPPED ||
      s.fb .BOOT_STATUS BOOT_STATUS.DONE then .next s
  else
    match s.boot.stage with
    | 1 => .next (s.stageFuse w)
    | 2 => .next s.stageKey
    | 3 => .next (s.stageRead w)
    | 4 => .next s.stageVerify
    | 5 => .next (s.stageDies w)
    | 6 => .next (s.stageMemory w)
    | 7 => .next s.stageConfig
    | 8 => .next s.stageLoad
    | 9 => .next (s.stageTime w)
    | 10 => .next s.stageRelease
    | _ => .next s

/-! Resets (19 R474-R476). -/

/-- What every reset of the whole package does: every block, core and channel is reset; what `keep` names of memory stays;
straps, fuses, flash, contacts and waiting commands stay. -/
def State.resetAll (s : State) (keepRegs : Nat → Bool) : State :=
  let r := State.reset
  { r with
    pending := s.pending
    fresh := s.fresh
    regs := s.regs.keep keepRegs
    rwo := s.rwo.filter (fun k => keepRegs (k / 64))
    mem := s.mem.filter (fun c => region c.1 == .mram)
    chk := s.chk.keep (fun w => region (w * 8) == .mram)
    chans := s.chans.map (fun _ c => { Chan.reset with epoch := c.epoch + 1, hot := c.hot })
    boot := { Boot.reset with fuses := s.boot.fuses, flash := s.boot.flash, sfdp := s.boot.sfdp, pwrok := s.boot.pwrok, resetN := s.boot.resetN,
                              wakeN := s.boot.wakeN, refclk := s.boot.refclk, straps := s.boot.straps }
    hb := { Hb.reset with slots := s.hb.slots.map (fun _ x => { HpSlot.reset with present := x.present, button := x.button, fault := x.fault }) }
    tap := s.tap
    pwr := { Pwr.reset with prochot := s.pwr.prochot } }

/-- Registers that survive a warm reset (R474, R512, R537): bank records, domain-stop record, the debug levels, BOOT_STRAP,
the MRAM write counts. -/
def warmKept (a : Nat) : Bool :=
  (a == RegKind.BOOT_STRAP.addr) || (a == RegKind.WLD_DBGEN.addr) || (a == RegKind.ERB_DSTOP.addr) ||
  (a == RegKind.ERB_DSTIME.addr) || (0x2620100 ≤ a && a < 0x2620180) ||
  ((List.range 13).any (fun x => (RegKind.ERB_REC.addr x ≤ a) && (a < RegKind.ERB_REC.addr x 62) && (a % 0x40 < 0x20)))

/-- Registers that survive a cold reset: the MRAM's write counts. -/
def coldKept (a : Nat) : Bool := 0x2620100 ≤ a && a < 0x2620180

/-- The straps as BOOT_STRAP holds them (01 R20). -/
def strapWord (straps : BitVec 12) : Word := BitVec.ofNat 64 (straps.toNat % 4096 + 0x10000)

/-- A cold reset ends (R474): every generation is 0, the straps are sampled, stage 1 begins. Straps that change in the hold
window are captured as a free value (21 R526). -/
def State.coldReset (s : State) : State :=
  let (w, s0) := if s.boot.strapGlitch then s.drawNat else (s.boot.straps.toNat, s)
  let s1 := s0.resetAll coldKept
  (({ s1 with tap := { s1.tap with standalone := [] } }).setRg (strapWord (BitVec.ofNat 12 w)) .BOOT_STRAP).setStage 1

/-- Mark the valid records PRIOR (R496). -/
def State.markPrior (s : State) : State :=
  allBanks.foldl (fun s p => if s.fb .ERB_REC ERB_REC.VALID p.1 p.2 then s.setFd .ERB_REC ERB_REC.PRIOR 1 p.1 p.2 else s) s

/-- Every node's generation, incremented (R474). -/
def State.nextGens (s old : State) : State :=
  allNodes.foldl (fun s n => s.setFd .NOC_AGENT NOC_AGENT.GEN ((old.genOf n + 1) % 16) 0 (n / 256) (n % 256)) s

/-- A warm reset (R474, R475, R512): STOP on the pair link first when it is UP; everything but the always-on rail, the
fuses, BOOT_STRAP and the MRAM is reset; the dies train again (09 R262); it is logged (R507). -/
def State.warmReset (s : State) : State :=
  let s0 := s.pairSendStop
  let s1 := ((s0.resetAll warmKept).markPrior).nextGens s0
  let s2 := { s1 with
    err := { s1.err with logq := s0.err.logq }
    pair := { s1.pair with sent := s0.pair.sent, wire := s0.pair.wire }
    dies := s0.dies.map (fun _ d => { Die.reset with sampled := d.sampled })
    regs := (s0.regs.l.filter (fun (e : Nat × Word) => (List.range 12).any (fun d => e.1 == RegKind.D2D_SITE.addr d))).foldl
      (fun (m : KMap Word) (e : Nat × Word) => m.set e.1 e.2) s1.regs }
  (s2.restartDies.queueLog 4 0xFFF 0 0 0 0).setStage 1

/-- COLD_RESET (R474, R524): RESET_N rises after PWROK. -/
def execColdReset (s : State) : Out :=
  .next ({ s with boot := { s.boot with pwrok := true, resetN := true, held := false } }).coldReset

/-- WARM_RESET (R474, R475): RESET_N has been low for at least 1 us while PWROK stays high, and rises. -/
def execWarmReset (s : State) : Out :=
  if s.boot.pwrok && !s.pwr.tripped then .next ({ s with boot := { s.boot with resetN := true } }).warmReset else .next s

/-- What PWROK's fall leaves: the fuses and the MRAM (R476). Every domain stops at once. -/
def State.losePower (s : State) : State :=
  let s1 := s.resetAll coldKept
  { s1 with
    boot := { s1.boot with pwrok := false, resetN := false, held := true, stage := 0 }
    regs := s1.regs.keep coldKept
    pins := { catErr := false, thermTrip := false } }

/-- PWROK_FALL (R476, 21 R525). -/
def execPwrokFall (s : State) : Out := .next s.losePower
/-- RAIL_UNDERVOLTAGE (21 R520): a rail other than VCC_AO below 90 % acts as a fall of PWROK. -/
def execRailUndervoltage (s : State) : Out := if s.boot.pwrok then .next s.losePower else .next s
/-- VCC_AO_LOSS (21 R520): every state is lost, the MRAM and the fuses excepted. -/
def execVccAoLoss (s : State) : Out := .next s.losePower

/-- RESET_HOLD_END (21 R526): 10 ms after PWROK the first rise of RESET_N, held until then, takes effect, and the straps are
sampled. -/
def execResetHoldEnd (s : State) : Out :=
  if s.boot.held then
    .next ({ s with boot := { s.boot with pwrok := true, held := false, resetN := true } }).coldReset
  else .next s

/-- REFCLK_LOSS (21 R523, 02 R40): AOCLK runs from its internal oscillator; the PLLs hold. -/
def execRefclkLoss (s : State) : Out := .next { s with boot := { s.boot with refclk := false } }
/-- REFCLK_RETURN (21 R523). -/
def execRefclkReturn (s : State) : Out := .next { s with boot := { s.boot with refclk := true } }

/-- WAKE_N (18 R472, 21 R527): low for at least 1 us. In OFF the package boots cold and samples the straps; in SLEEP and
DEEP it is wake source 0; else it has no effect (R476). -/
def execWakeN (s : State) : Out :=
  if s.boot.pwrok && s.fd .PWR_STATUS PWR_STATUS.PKG == 4 then
    let s1 := s.coldReset
    .next (s1.setRg 1 .PWR_WAKESRC)
  else if s.pkgAsleep && bitAt (s.rg .PWR_WAKEEN) 0 then .next (s.pkgWake 0)
  else .next s

/-- THERMTRIP (21 R536): every clock stops, THERMTRIP_N is low; only the MRAM survives. -/
def execThermtrip (s : State) : Out :=
  if s.boot.pwrok then
    .next { s with pwr := { s.pwr with tripped := true }, pins := { s.pins with thermTrip := true } }
  else .next s

/-! Secure boot controls (19 R487, R481, R491) and recovery (R494). -/

/-- WARM (R474): BOOT_CTL.WARM by the secure world. -/
def State.bootWarm (s : State) (i : Init) : State :=
  if i.sec then s.warmReset else s.violate i.node 1 (RegKind.BOOT_CTL.addr)
/-- WARM (R474). -/
def execBootWarm (i : Init) (s : State) : Out := if s.alive then .next (s.bootWarm i) else .next s

/-- The fuse state in IDN_KEYFUSE. -/
def State.showFuses (s : State) : State :=
  let f := s.boot.fuses
  s.setRg (setF (setF (setF 0 IDN_KEYFUSE.PROG f.prog.toNat) IDN_KEYFUSE.REVOKED f.revoked.toNat) IDN_KEYFUSE.SVNFUSE f.svn)
    .IDN_KEYFUSE

/-- SVNCOMMIT (R487): SVNFUSE rises to the SVN of the running image. -/
def State.svnCommit (s : State) (i : Init) : State :=
  if i.sec then
    let f := s.boot.fuses
    ({ s with boot := { s.boot with fuses := { f with svn := max f.svn (s.fd .BOOT_STATUS BOOT_STATUS.SVN) } } }).showFuses
  else s.violate i.node 1 (RegKind.BOOT_CTL.addr)
/-- SVNCOMMIT (R487). -/
def execSvncommit (i : Init) (s : State) : Out := if s.alive then .next (s.svnCommit i) else .next s

/-- REVOKE (R487): the slot of the running image and the last unrevoked programmed slot are ignored. -/
def State.revoke (s : State) (i : Init) (slots : BitVec 4) : State :=
  if i.sec then
    let running := s.fd .BOOT_STATUS BOOT_STATUS.KEYSLOT
    let f2 := (List.range 4).foldl (fun (f : Fuses) k =>
      let live := (List.range 4).filter (fun j => f.prog.getLsbD j && !(f.revoked.getLsbD j))
      if slots.getLsbD k && k != running && live != [k] then { f with revoked := f.revoked ||| BitVec.ofNat 4 (2 ^ k) }
      else f) s.boot.fuses
    ({ s with boot := { s.boot with fuses := f2 } }).showFuses
  else s.violate i.node 1 (RegKind.BOOT_CTL.addr)
/-- REVOKE (R487). -/
def execBootRevoke (i : Init) (slots : BitVec 4) (s : State) : Out := if s.alive then .next (s.revoke i slots) else .next s

/-- BOOT_SPICMD (R481, 19 register table): one flash command of the secure world, accepted only while DONE is 1; a GO while
BUSY sets ERR. -/
def State.spiCmd (s : State) (i : Init) (data : Word) : State :=
  if !i.sec then s.violate i.node 1 (RegKind.BOOT_SPICMD.addr)
  else if !(s.fb .BOOT_STATUS BOOT_STATUS.DONE) then s
  else
    let busy := s.boot.spi.isSome
    let old := s.rg .BOOT_SPICMD
    if bitAt data 50 then
      if busy then s.setFd .BOOT_SPICMD BOOT_SPICMD.ERR 1
      else
        let w := setF (setF (data &&& 0x3FFFFFFFFFFFF) BOOT_SPICMD.BUSY 1) BOOT_SPICMD.ERR 0
        { (s.setRg w .BOOT_SPICMD) with boot := { s.boot with spi := some data } }
    else s.setRg ((data &&& 0x3FFFFFFFFFFFF) ||| (old &&& 0x18000000000000)) .BOOT_SPICMD
/-- BOOT_SPICMD (R481). -/
def execBootSpicmd (i : Init) (data : Word) (s : State) : Out := if s.alive then .next (s.spiCmd i data) else .next s

/-- Byte `j` of BOOT_SPIBUF. -/
def State.spiByte (s : State) (j : Nat) : Byte := wordByte (s.rg .BOOT_SPIBUF 0 (j / 8)) (j % 8)
/-- Set byte `j` of BOOT_SPIBUF. -/
def State.setSpiByte (s : State) (j : Nat) (b : Byte) : State :=
  let w := s.rg .BOOT_SPIBUF 0 (j / 8)
  s.setRg (setF w ⟨8 * (j % 8), 8⟩ b.toNat) .BOOT_SPIBUF 0 (j / 8)

/-- SPI_COMMAND_DONE (R481): the command ends; a read puts the bytes the flash returned into the buffer, a page program
(OP 0x02 or 0x12) with WR has written the flash. What other commands do inside the flash is the flash's own. -/
def execSpiCommandDone (ok : Bool) (bytes : List Byte) (s : State) : Out :=
  match if s.alive then s.boot.spi else none with
  | none => .next s
  | some w =>
    let len := min 256 (getF w BOOT_SPICMD.LEN)
    let addr := getF w BOOT_SPICMD.ADDR
    let op := getF w BOOT_SPICMD.OP
    let s0 := { s with boot := { s.boot with spi := none } }
    let s1 := s0.setFd .BOOT_SPICMD BOOT_SPICMD.BUSY 0
    if !ok then .next (s1.setFd .BOOT_SPICMD BOOT_SPICMD.ERR 1)
    else if getF w BOOT_SPICMD.WR = 1 then
      if op = 0x02 ∨ op = 0x12 then
        let fl : KMap Byte := List.foldl (fun (m : KMap Byte) (j : Nat) => m.set (addr + j) (s.flashByte (addr + j) &&& s.spiByte j))
          s1.boot.flash (List.range len)
        .next { s1 with boot := { s1.boot with flash := fl } }
      else .next s1
    else .next ((List.range len).foldl (fun s j => s.setSpiByte j (bytes.getD j 0)) s1)

/-- IDN_EXTEND (R491): MEASk becomes SHA-384 of MEASk and the 48 bytes of IDN_EXTDATA. -/
def State.extend (s : State) (i : Init) (index : Nat) : State :=
  if i.sec then
    let k := 16 + index % 16
    let old := (List.range 6).map (fun j => s.rg .IDN_MEAS 0 k j)
    let ext := (List.range 6).map (fun j => s.rg .IDN_EXTDATA 0 j)
    (s.setFd .IDN_EXTEND IDN_EXTEND.INDEX (index % 16)).setMeas k (Config.sha384 (wordsBytes (old ++ ext)))
  else s.violate i.node 1 (RegKind.IDN_EXTEND.addr)
/-- IDN_EXTEND (R491). -/
def execIdnExtend (i : Init) (index : BitVec 4) (s : State) : Out :=
  if s.alive then .next (s.extend i index.toNat) else .next s

/-- LUNA_WATCHDOG (R489, R481): the Luna controller alone is reset and reloads its firmware; waiting schedule checks complete
with PREJ, handshakes in progress fail, LUNARST counts, KIND 26 and an RTYPE 5 record are written. -/
def execLunaWatchdog (s : State) : Out :=
  if !s.alive then .next s
  else
    let s1 := (s.rejectChecks).failHandshakes
    let s2 := s1.satFd .BOOT_STATUS BOOT_STATUS.LUNARST
    let s3 := s2.setFd .NOC_AGENT NOC_AGENT.GEN ((s.genOf lunaNode + 1) % 16) 0 15 0x80
    .next ((s3.recordErr ⟨0x3D, 26, lunaNode, none, none, false⟩).queueLog 5 0xFFF 0 0 0 0)

/-- SPDM_REQUEST (R492): a responder answers the supported requests; every other is answered with ERROR. The answer's
content is the protocol's; the model counts answers of each responder: 0 DOE, 1 MCTP, + 2 for errors. -/
def State.spdm (s : State) (mctp : Bool) (code : Nat) : State :=
  let known := [0x84, 0xE1, 0xE3, 0x81, 0x82, 0x83, 0xE0].contains code
  let k := b2n mctp + (if known then 0 else 2)
  { s with boot := { s.boot with spdm := s.boot.spdm.set k (s.boot.spdm.getD k 0 + 1) } }
/-- SPDM_REQUEST (R492). -/
def execSpdmRequest (mctp : Bool) (code : BitVec 8) (s : State) : Out :=
  if s.alive then .next (s.spdm mctp code.toNat) else .next s
/-- MCTP_PACKET (R492, 21 R530): the I3C service that carries SPDM. -/
def execMctpPacket (code : BitVec 8) (s : State) : Out :=
  if s.boot.pwrok && !s.pwr.tripped then .next (s.spdm true code.toNat) else .next s

/-- GO of recovery (R494): ignored while BUSY and outside recovery. -/
def State.recGo (s : State) (prog : Bool) : State :=
  if s.fb .BOOT_STATUS BOOT_STATUS.RECOVERY && !(s.fb .REC_RESULT REC_RESULT.BUSY) then
    { s with boot := { s.boot with going := some prog } } |>.setFd .REC_RESULT REC_RESULT.BUSY 1
  else s
/-- GO (R494). -/
def execRecGo (s : State) : Out := if s.boot.pwrok && s.boot.resetN then .next (s.recGo false) else .next s
/-- PROGRAM (R494): GO that also writes the image to flash copy 0. -/
def execRecProgram (s : State) : Out := if s.boot.pwrok && s.boot.resetN then .next (s.recGo true) else .next s
/-- RESET (R494): REC_CTL.RESET starts a warm reset. -/
def execRecReset (s : State) : Out :=
  if s.boot.pwrok && s.boot.resetN && s.fb .BOOT_STATUS BOOT_STATUS.RECOVERY then .next s.warmReset else .next s

/-- RECOVERY_GO_DONE (R494): the buffer is checked from stage 3 onward; a good image boots, and PROGRAM writes it to flash
copy 0. -/
def execRecoveryGoDone (s : State) : Out :=
  match if s.boot.pwrok && s.boot.resetN then s.boot.going else none with
  | none => .next s
  | some prog =>
    let s0 : State := { s with boot := { s.boot with going := none, fromBuf := true } }
    let s1 : State := ((s0.setFd .BOOT_STATUS BOOT_STATUS.STOPPED 0).setFd .BOOT_STATUS BOOT_STATUS.RECOVERY 0).setStage 3
    let s2 := s1.stageRead ⟨true, true, [], [], [], [], [], false⟩
    let s3 := if s2.boot.stage = 4 then s2.stageVerify else s2
    if s3.boot.stage = 5 ∧ prog = true then
      let fl : KMap Byte := List.foldl (fun (m : KMap Byte) (k : Nat) => m.set k (s3.img k)) s3.boot.flash (List.range s3.imgLen)
      .next { s3 with boot := { s3.boot with flash := fl } }
    else .next s3

end Sys2Proof.Machine
end

