-- ==== Sys2Proof/Machine/RegRead.lean ====
section
/-! DEFINITION. Reading the memory-mapped registers (00 R3, R4, R6): the fields whose value follows from other state, the
world that may see a register, the fences of the register blocks (09 R237, R252), the source checks of slices (14 R378),
and one read of one instance. -/
namespace Sys2Proof.Machine

/-- The node that answers for a block instance's registers (09 R236, R237). -/
def blkNode (b : Blk) (x : Nat) : Nat :=
  match b with
  | .tck => hubNode 9
  | .noc => 0xF6A
  | .d2d => if x < 12 then 0xF70 + x else (x - 12) * 256 + 0x60
  | .coh => homeNode x
  | .msc => 0xF10 + x
  | .mem => memNode x
  | .dma => dmaNode x
  | .hbu => hbNode x
  | .fabm => 0xF48 + x
  | .fab => fabNode
  | .prl => 0xF58
  | .vsf => hubNode 0
  | .pair => hubNode 1
  | .wld => hubNode 2
  | .irt => hubNode 3
  | .pwr => hubNode 4
  | .boot => hubNode 5
  | .idn => hubNode 6
  | .erb => hubNode 7
  | .erbx => if x = 12 then hubNode 7 else x * 256 + 0x78
  | .mgt => hubNode 8
  | .cda => cdaNode x
  | .dnoc => x * 256 + 0x70
  | .dd2d => x * 256 + 0x60
  | .derb => x * 256 + 0x78
  | .core => coreNode x
  | .recov => hubNode 5

/-- The port of a D2D register instance: hub sides are numbered by direction, die sides by the die's own port (01 R18). -/
def State.portOf (s : State) (x i : Nat) : PortRef :=
  if x < 12 then ⟨true, Fin.ofNat 12 x, Fin.ofNat 4 i⟩
  else ⟨false, Fin.ofNat 12 (x - 12), Fin.ofNat 4 (s.rot (x - 12) + 4 - i % 4)⟩

/-- D2D_PSTAT with both numbers of the port (01 R18, 09 R267). -/
def State.pstatView (s : State) (x i : Nat) (w : Word) : Word :=
  let p := s.portOf x i
  let h := p.dir.val
  setF (setF (setF w D2D_PSTAT.HDIR h) D2D_PSTAT.DPORT ((s.rot p.site.val + 4 - h) % 4)) D2D_PSTAT.HPORT
    (4 * p.site.val + h)

/-- C_RSTAT.STATE (03 R96). -/
def State.coreState (s : State) (n : Nat) : Nat :=
  if s.err.halted then 7
  else
    match (s.core n).run with
    | .resetting => 6
    | r =>
      if 3 ≤ s.domState n then 5
      else if s.domState n = 2 then 4
      else
        match r with
        | .held => 0
        | .run => 1
        | .wfi => 2
        | .halted => 3
        | .sleep => 4
        | .deep => 5
        | .resetting => 6
        | .stopped => 7

/-- C_RSTAT as a read finds it (03 R96, 17 R450). -/
def State.rstat (s : State) (n : Nat) : Word :=
  let c := s.core n
  let show_ := 1 ≤ s.dbgLevel c.dbgSec
  let w := setF (setF (setF 0 C_RSTAT.STATE (s.coreState n)) C_RSTAT.WERR (b2n c.werr)) C_RSTAT.GEN (s.genOf (coreNode n))
  setF (setF w C_RSTAT.LVL (if show_ then c.lvl.num else 3)) C_RSTAT.SEC (if show_ then b2n c.sec else 1)

/-- The record that software should handle next (20 R504): highest class, then lowest bank number. -/
def State.nextRec (s : State) : Option (Nat × Nat) :=
  allBanks.foldl (fun b e =>
    if s.fb .ERB_REC ERB_REC.VALID e.1 e.2 then
      let k := s.fd .ERB_REC ERB_REC.CLASS e.1 e.2
      match b with
      | none => some (bankNo e.1 e.2, k)
      | some (m, kk) => if kk < k then some (bankNo e.1 e.2, k) else some (m, kk)
    else b) none

/-- ERB_NEXT (20 R504). -/
def State.erbNext (s : State) : Word :=
  match s.nextRec with
  | none => setF 0 ERB_NEXT.NONE 1
  | some (b, k) => setF (setF 0 ERB_NEXT.BANK b) ERB_NEXT.CLASS k

/-- A mask of the banks of an instance for which `p` holds. -/
def bankMask (n : Nat) (p : Nat → Bool) : Nat := (List.range n).foldl (fun m b => if p b then m + 2 ^ b else m) 0

/-- ERB_DIEPEND (20 R505). -/
def State.diePend (s : State) : Word :=
  let any := fun d => (List.range 22).any (fun b => s.fb .ERB_REC ERB_REC.VALID d b)
  let uc := fun d => (List.range 22).any (fun b =>
    s.fb .ERB_REC ERB_REC.VALID d b &&
      (s.fd .ERB_REC ERB_REC.CLASS d b == 1 || s.fd .ERB_REC ERB_REC.CLASS d b == 2))
  setF (setF 0 ERB_DIEPEND.ANY (bankMask 12 any)) ERB_DIEPEND.UC (bankMask 12 uc)

/-- PWR_DOM with its live bits (18 R466). -/
def State.domView (s : State) (d : Nat) (w : Word) : Word :=
  let vs := s.votes.filter (fun e => getF e.2 PWR_VOTE.DOM == d)
  setF (setF (setF w PWR_DOM.TRAFFIC (b2n (s.traffic d))) PWR_DOM.VOTED (b2n (!vs.isEmpty))) PWR_DOM.SECVOTE
    (b2n (vs.any (fun e => getF e.2 PWR_VOTE.SEC == 1)))

/-- IRT_SRC with PEND and ACTIVE (17 R455); the records of unassigned numbers read zero. -/
def State.srcView (s : State) (n : Nat) (w : Word) : Word :=
  if srcAssigned n then
    setF (setF w IRT_SRC.PEND (b2n (s.srcPending n))) IRT_SRC.ACTIVE (b2n (s.src n).active.isSome)
  else 0

/-- A register's word as a read finds it: last values written (00 R8), with the fields that follow from other state. -/
def State.view (s : State) (r : RRef) : Word :=
  let w := s.rdSh r
  let tp := fun (b : Blk) (x : Nat) => setF w ⟨0, 1⟩ (b2n (s.tpend b x))
  match r.k with
  | .C_RSTAT => s.rstat r.x
  | .C_RUN => setF (setF 0 C_RUN.RELEASE (b2n (s.core r.x).release)) C_RUN.HALTREQ (b2n (s.core r.x).haltReq)
  | .C_CYCLE_ALIAS => (s.core r.x).cr cCYCLE
  | .C_INSTRET_ALIAS => (s.core r.x).cr cINSTRET
  | .C_PMC_ALIAS => (s.core r.x).cr (cPMC + r.i)
  | .TCK_STATUS => tp .tck 0
  | .TCK_OVR => BitVec.ofNat 64 s.ovrWord
  | .PRL_STATUS =>
    setF (setF (tp .prl 0) PRL_STATUS.WAITN s.waitq.length) PRL_STATUS.FREE (bankMask 32 (fun n => s.slotState n == 0))
  | .NOC_DSTATUS => tp .dnoc r.x
  | .NOC_ESTATUS => tp .noc 0
  | .NOC_AGENT => if nodeAssigned (256 * r.i + r.j) then w else 0
  | .COH_STATUS =>
    setF (setF (tp .coh r.x) COH_STATUS.RSVN (s.home r.x).rsv.length) COH_STATUS.TRK
      ((s.home r.x).trk.length + (s.home r.x).rsv.length)
  | .MEM_STATUS => setF (tp .mem r.x) MEM_STATUS.MBN (s.chan r.x).mbuf.length
  | .DMA_STATUS => tp .dma r.x
  | .FAB_STATUS => tp .fab 0
  | .FAB_ESTATUS => tp .fab 0
  | .PAIR_STATUS => tp .pair 0
  | .PWR_STATUS => tp .pwr 0
  | .D2D_PSTAT => s.pstatView r.x r.i w
  | .VSF_PSTAT => s.pstat
  | .VSF_VRUN => BitVec.ofNat 64 (b2n (s.slice r.i).run)
  | .VSF_HDB => s.rg .VSF_HDBPEND 0 r.i
  | .IRT_SRC => s.srcView r.i w
  | .PWR_DOM => s.domView r.i w
  | .PWR_GATE => if 228 ≤ r.i then setF w PWR_GATE.BLOCKED (b2n (s.gateBlocked r.i)) else 0
  | .ERB_PEND => BitVec.ofNat 64 (bankMask 62 (fun b => s.fb .ERB_REC ERB_REC.VALID 12 b))
  | .ERB_DIEPEND => s.diePend
  | .ERB_NEXT => s.erbNext
  | .ERB_DPEND => BitVec.ofNat 64 (bankMask 22 (fun b => s.fb .ERB_REC ERB_REC.VALID r.x b))
  | .HBU_UPOFF => if r.x = 0 && s.boot.attached then w else 0
  | _ => w

/-- The whole register acts as SRW toward the normal world (17 R455, 05 R150): a secure source's record, a secure slot's
registers. -/
def State.regSecret (s : State) (r : RRef) : Bool :=
  match r.k with
  | .IRT_SRC => s.fb .IRT_SRC IRT_SRC.SEC 0 r.i
  | .PRL_SLOT_CTL => s.slotFd r.i PRL_SLOT_STAT.SEC == 1
  | .PRL_SLOT_STAT => s.slotFd r.i PRL_SLOT_STAT.SEC == 1
  | .PRL_SLOT_LEASE => s.slotFd r.i PRL_SLOT_STAT.SEC == 1
  | .PRL_SLOT_CNT => s.slotFd r.i PRL_SLOT_STAT.SEC == 1
  | .PRL_SLOT_CMD => s.slotFd r.i PRL_SLOT_STAT.SEC == 1
  | .PRL_SLOT_RES => s.slotFd r.i PRL_SLOT_STAT.SEC == 1
  | .PRL_SLOT_RESX => s.slotFd r.i PRL_SLOT_STAT.SEC == 1
  | .PRL_SLOT_DADDR => s.slotFd r.i PRL_SLOT_STAT.SEC == 1
  | .PRL_SLOT_SPAN => s.slotFd r.i PRL_SLOT_STAT.SEC == 1
  | _ => false

/-- The value that a read of a hit returns to a world; the slot of an absent controller reads zero (13 R332). -/
def State.hitRead (s : State) (h : Hit) (sec : Bool) : Word :=
  if (s.regSecret h.r && !sec) || (h.r.k.spec.blk == .hbu && s.hbAbsent h.r.x) then 0 else hitValue h (readMask h.r.k.spec.fields sec (s.view h.r))

/-- The side effect of a read (00 R6): TCK_TIME_NS latches the fraction (02 R51), ERB_LOG's reader has seen DROPPED (20
R503). A read of the high half has none. -/
def State.readEffect (s : State) (h : Hit) : State :=
  if h.sh ≠ 0 then s
  else
    match h.r.k with
    | .TCK_TIME_NS => if s.ticking then s.setFd .TCK_TIME_FRAC TCK_TIME_FRAC.FRAC s.tck.frac else s
    | .ERB_LOG => { s with err := { s.err with dropRise := false } }
    | _ => s

/-! Slices (14 R375, R377, R378). -/

/-- The offset of slice window `n` (14 R375). -/
def vfBase (n : Nat) : Nat := 0x1620000 + 0x2000 * n

/-- The slot proxy that an offset names: slice, slot and the offset in the slot's registers (14 R375). -/
def proxyAt (off : Nat) : Option (Nat × Nat × Nat) :=
  if 0x1620000 ≤ off ∧ off < 0x1620000 + 0x2000 * 240 then
    let o := (off - 0x1620000) % 0x2000
    if 0x1000 ≤ o then some ((off - 0x1620000) / 0x2000, (o - 0x1000) / 0x80, o % 0x80) else none
  else none

/-- The contribution port that an offset names, and the offset in it (05 R155). -/
def portAt (off : Nat) : Option (Nat × Nat) :=
  if 0x1500000 ≤ off ∧ off < 0x1508000 then some ((off - 0x1500000) / 0x400, off % 0x400) else none

/-- The offset of PRL_SLOTn + o. -/
def slotOff (n o : Nat) : Nat := 0x1401000 + 0x100 * n + o

/-- The DMA registers that a slice reaches in its own channels (14 R378 kind 4). -/
def sliceDmaReg (k : RegKind) (write : Bool) : Bool :=
  match k with
  | .DMA_CTL => true
  | .DMA_STATUS => true
  | .DMA_NEXT => true
  | .DMA_ERR => true
  | .DMA_EADDR => true
  | .DMA_PROG => true
  | .DMA_CNT => true
  | .DMA_CFG => !write
  | _ => false

/-- A slice may reach an offset (14 R378 kind 4): its own window, its own channels; contribution ports are checked by the
pool. -/
def State.sliceReach (s : State) (slice off width : Nat) (write : Bool) : Bool :=
  slice == 0xFF || (portAt off).isSome || (decide (vfBase slice ≤ off) && decide (off < vfBase slice + 0x2000)) ||
  (match hitOf off width with
   | some h => sliceDmaReg h.r.k write && (s.slice slice).dmas.contains h.r.x
   | none => false)

/-- The status at which the fence of an offset's block stops an access, if it does (09 R252). -/
def State.offFence (s : State) (off : Nat) : Option Status :=
  match blkAt off with
  | [] => none
  | (b, x) :: _ => s.fenceStatus (blkNode b x)

/-- A slice owns a slot (14 R377). -/
def State.ownsSlot (s : State) (slice n : Nat) : Bool :=
  s.slotState n != 0 && s.slotFd n PRL_SLOT_STAT.OKIND == 2 && s.slotFd n PRL_SLOT_STAT.OID == slice

/-- A read of one instance (00 R4, R6): status, value and the state after it. -/
def State.readOne (s0 : State) (i : Init) (off width : Nat) : Status × Word × State :=
  let s := if off / 0x200000 = 10 ∨ (proxyAt off).isSome then s0.poolSync else s0
  match s.offFence off with
  | some st => (st, 0, s)
  | none =>
    if (portAt off).isSome then (.ok, 0, s)
    else
      match proxyAt off with
      | some (v, n, o) =>
        if s.ownsSlot v n then
          match hitOf (slotOff n o) width with
          | some h => (.ok, s.hitRead h i.sec, s)
          | none => (.ok, 0, s)
        else (.ok, 0, s)
      | none =>
        match hitOf off width with
        | some h => (.ok, s.hitRead h i.sec, s.readEffect h)
        | none => (.ok, 0, s)

end Sys2Proof.Machine
end

