-- ==== Sys2Proof/Machine/RegWrite.lean ====
section
/-! DEFINITION. Writing the memory-mapped registers: one write of one instance, by access type and change class (00 R3-R11)
and with the effect that the owning chapter gives the register. -/
namespace Sys2Proof.Machine

/-- The bits that an access addresses, in the register's word (00 R6). -/
def Hit.bits (h : Hit) (data : Word) : Word := (data <<< h.sh) &&& h.mask

/-- The access addresses a field. -/
def Hit.on (h : Hit) (f : Fld) : Bool := maskF f &&& h.mask != 0

/-- The offset and the width of an access that makes a hit. -/
def Hit.off (h : Hit) : Nat := h.r.addr + h.sh / 8
def Hit.width (h : Hit) : Nat := if h.mask = BitVec.allOnes 64 then 64 else 32

/-- The word that the register would hold if every field took what is written. -/
def State.merged (s : State) (h : Hit) (data : Word) : Word := (s.rdSh h.r &&& ~~~h.mask) ||| h.bits data

/-- The slice manager is idle (14 R368). -/
def State.vsfQuiet (s : State) : Bool :=
  s.vsf.cmd.isNone && s.vsf.destroys.isEmpty && !s.sliceHeld (fun _ => true)

/-- Whether the block of a register is idle for its Q fields (00 R10), as each chapter defines it. -/
def State.quietFor (s : State) (r : RRef) : Bool :=
  match r.k.spec.blk with
  | .tck => !s.ticking
  | .prl => s.poolQuiet
  | .mem => !(s.fb .MEM_CFG MEM_CFG.EN r.x) || !(s.fb .MEM_STATUS MEM_STATUS.TRAINED r.x)
  | .d2d => s.portQuiet (s.portOf r.x r.i)
  | .dma => s.dmaQuiet r.x
  | .hbu => s.hbQuiet r.x
  | .vsf => s.vsfQuiet
  | .fabm => s.macQuiet r.x
  | .fab =>
    match r.k with
    | .FAB_PEER_CTL => s.lstate r.i == 0 || s.lstate r.i == 4
    | .FAB_PEER_ADDR_LO => s.lstate r.i == 0 || s.lstate r.i == 4
    | .FAB_PEER_ADDR_HI => s.lstate r.i == 0 || s.lstate r.i == 4
    | .FAB_PEER_IDHASH_LO => s.lstate r.i == 0 || s.lstate r.i == 4
    | .FAB_PEER_IDHASH_HI => s.lstate r.i == 0 || s.lstate r.i == 4
    | .FAB_CCTL => s.collQuiet r.i
    | .FAB_CPKG0 => s.collQuiet r.i
    | .FAB_CPKG1 => s.collQuiet r.i
    | _ => s.fabQuiet
  | .pair => if r.addr < RegKind.PAIR_MP_CTL.addr then s.pairQuiet else s.mirrorQuiet r.i
  | .core => (s.core r.x).run == .held
  | _ => true

/-- WERR of the block of a register (00 R10). -/
def State.setWerr (s : State) (r : RRef) : State :=
  match r.k.spec.blk with
  | .tck => s.setFd .TCK_STATUS TCK_STATUS.WERR 1
  | .prl => s.setFd .PRL_STATUS PRL_STATUS.WERR 1
  | .noc => s.setFd .NOC_ESTATUS NOC_ESTATUS.WERR 1
  | .mem => s.setFd .MEM_STATUS MEM_STATUS.WERR 1 r.x
  | .d2d => s.setFd .D2D_PSTAT D2D_PSTAT.WERR 1 r.x r.i
  | .dma => s.setFd .DMA_STATUS DMA_STATUS.WERR 1 r.x
  | .hbu => s.setFd .HBU_STATUS HBU_STATUS.WERR 1 r.x
  | .vsf => s.setFd .VSF_CMDSTAT VSF_CMDSTAT.WERR 1
  | .fabm => s.setFd .FAB_PSTAT FAB_PSTAT.WERR 1 r.x
  | .fab => s.setFd .FAB_STATUS FAB_STATUS.WERR 1
  | .pair => s.setFd .PAIR_STATUS PAIR_STATUS.WERR 1
  | .core => s.modCore r.x (fun c => { c with werr := true })
  | _ => s

/-- A write with no effect beyond its fields (00 R3, R7-R11); `skip` names what a field ignores. -/
def State.plainWrite (s : State) (i : Init) (h : Hit) (data : Word) (skip : Fld → Nat → Bool) : State :=
  let o := writeFields s h data i.sec (s.quietFor h.r) skip
  let s1 := if o.werr then o.s.setWerr h.r else o.s
  if o.viol then s1.violate i.node 1 h.r.addr else s1

/-- Every field takes what is written to it. -/
def noSkip : Fld → Nat → Bool := fun _ _ => false

/-- TCK (02 R49-R51). -/
def State.writeTck (s : State) (i : Init) (h : Hit) (data : Word) : State :=
  let d := h.bits data
  match h.r.k with
  | .TCK_CTL =>
    let s1 := s.plainWrite i h data (fun f v => f == TCK_CTL.TSRC && v == 3)
    if s1.fb .TCK_CTL TCK_CTL.RUN then s1.tckStart else s1
  | .TCK_PERIOD => if h.on TCK_PERIOD.NS then s.periodWrite (some i) (getF d TCK_PERIOD.NS) else s
  | .TCK_RATE => if h.on TCK_RATE.RATE then s.rateWrite (getF d TCK_RATE.RATE) else s
  | .TCK_STEP =>
    let v := getF d TCK_STEP.STEP
    if !h.on TCK_STEP.STEP then s
    else if v ≤ 1000 ∨ 2 ^ 32 - 1000 ≤ v then s.plainWrite i h data noSkip
    else s.setFd .TCK_STATUS TCK_STATUS.PERR 1
  | _ => s.plainWrite i h data noSkip

/-- The Praline pool (05 R160, R161, R168, R172, R173). DESIGN CHOICE (log 144): of one PRL_GREST write with CANCEL and ACK the
cancellation comes first. -/
def State.writePrl (s : State) (i : Init) (h : Hit) (data : Word) : State :=
  let d := h.bits data
  let r := h.r
  match r.k with
  | .PRL_GRANT => if h.on PRL_GRANT.TAG then s.prlGrantWrite i d else s
  | .PRL_GREST =>
    let s1 := if getF d PRL_GREST.CANCEL = 1 then s.grantCancel r.i else s
    if getF d PRL_GREST.ACK = 1 then s1.grantAck r.i else s1
  | .PRL_SLOT_CMD => if h.on PRL_SLOT_CMD.OP then s.slotCmdWrite r.i i d else s
  | _ => s.plainWrite i h data noSkip

/-- The network (09 R253-R257). -/
def State.writeNoc (s : State) (i : Init) (h : Hit) (data : Word) : State :=
  let d := h.bits data
  match h.r.k with
  | .NOC_RT_CTL => if getF d NOC_RT_CTL.ARM = 1 then s.armRoutes else s
  | .NOC_RT => if s.bankOpen h.r.i then s.plainWrite i h data noSkip else s.setFd .NOC_RT_STATUS NOC_RT_STATUS.WERR 1
  | .NOC_DRT => if s.bankOpen h.r.i then s.plainWrite i h data noSkip else s.setFd .NOC_RT_STATUS NOC_RT_STATUS.WERR 1
  | .NOC_ESLOT => s.queueCheck (some i) h.off h.width data
  | .NOC_ECTL => if h.on NOC_ECTL.ESHARE then s.queueCheck (some i) h.off h.width data else s
  | _ => s.plainWrite i h data noSkip

/-- The die-to-die ports (09 R265-R267). -/
def State.writeD2d (s : State) (i : Init) (h : Hit) (data : Word) : State :=
  let d := h.bits data
  match h.r.k with
  | .D2D_PCTL =>
    let p := s.portOf h.r.x h.r.i
    let old := s.rg .D2D_PCTL h.r.x h.r.i
    let lb := h.on D2D_PCTL.LB && !s.loopOk p (getF d D2D_PCTL.LB)
    let s0 := s.plainWrite i h data (fun f _ => f == D2D_PCTL.EN || (lb && f == D2D_PCTL.LB))
    let s1 := if lb then s0.setWerr h.r else s0
    let s2 := if s1.fd .D2D_PCTL D2D_PCTL.LB h.r.x h.r.i = getF old D2D_PCTL.LB then s1 else s1.loopWritten p
    let s3 := if h.on D2D_PCTL.EN && getF d D2D_PCTL.EN != getF old D2D_PCTL.EN then s2.portEnable p (bitAt d 0) else s2
    let s4 := if getF d D2D_PCTL.RETRAIN = 1 then s3.portRetrain p else s3
    if getF d D2D_PCTL.PHYRST = 1 then s4.phyReset p else s4
  | _ => s.plainWrite i h data noSkip

/-- Home agents, system-cache slices and die agents (10 R294, 11 R314, 07 R209, R210). -/
def State.writeCoh (s : State) (i : Init) (h : Hit) (data : Word) : State :=
  let d := h.bits data
  match h.r.k with
  | .COH_DIRQ => if h.on COH_DIRQ.LINE then s.dirLookup h.r.x (getF d COH_DIRQ.LINE) else s
  | .MSC_CTL =>
    let s1 := s.plainWrite i h data noSkip
    if s.fb .MSC_CTL MSC_CTL.EN h.r.x && !s1.fb .MSC_CTL MSC_CTL.EN h.r.x then s1.mscOff h.r.x else s1
  | .CDA_CTL =>
    let s1 := s.plainWrite i h data noSkip
    let s2 := if s.fb .CDA_CTL CDA_CTL.DCEN h.r.x && !s1.fb .CDA_CTL CDA_CTL.DCEN h.r.x then s1.dcenFall h.r.x else s1
    if getF d CDA_CTL.FLUSH = 1 then s2.cdaFlushStart h.r.x else s2
  | _ => s.plainWrite i h data noSkip

/-- DMA channels (12 R325). -/
def State.writeDma (s : State) (i : Init) (h : Hit) (data : Word) : State :=
  match h.r.k with
  | .DMA_CTL => (s.plainWrite i h data noSkip).dmaCommands h.r.x (h.bits data)
  | _ => s.plainWrite i h data noSkip

/-- Host-bus controllers (13 R365): EP is accepted in HB0 only; HBU_UPOFF is HB0's in the attached personality. -/
def State.writeHbu (s : State) (i : Init) (h : Hit) (data : Word) : State :=
  match h.r.k with
  | .HBU_CTL => s.plainWrite i h data (fun f _ => f == HBU_CTL.EP && h.r.x != 0)
  | .HBU_UPOFF => if h.r.x = 0 && s.boot.attached then s.plainWrite i h data noSkip else s
  | .HBU_ATSCMD =>
    let w := s.merged h data
    s.atsWrite h.r.x (setF w HBU_ATSCMD.GO (getF (h.bits data) HBU_ATSCMD.GO))
  | _ => s.plainWrite i h data noSkip

/-- Ethernet MACs (15 R380, R383): MODE 3 is reserved, ignored, and sets WERR. -/
def State.writeFabm (s : State) (i : Init) (h : Hit) (data : Word) : State :=
  match h.r.k with
  | .FAB_PCFG =>
    if h.on FAB_PCFG.MODE && getF (h.bits data) FAB_PCFG.MODE == 3 then
      (s.plainWrite i h data (fun f _ => f == FAB_PCFG.MODE)).setWerr h.r
    else s.plainWrite i h data noSkip
  | _ => s.plainWrite i h data noSkip

/-- The fabric engine (15 R388, R407, R410, R417). -/
def State.writeFab (s : State) (i : Init) (h : Hit) (data : Word) : State :=
  let d := h.bits data
  match h.r.k with
  | .FAB_CTL => if h.on FAB_CTL.EEN then s.queueCheck (some i) h.off h.width data else s.plainWrite i h data noSkip
  | .FAB_ESLOT => s.queueCheck (some i) h.off h.width data
  | .FAB_PEER_CTL =>
    let s1 := s.plainWrite i h data (fun f _ => f == FAB_PEER_CTL.EN)
    if h.on FAB_PEER_CTL.EN then s1.peerEn h.r.i (bitAt d 0) else s1
  | .FAB_CCMD => if h.on FAB_CCMD.OP then s.collCommand h.r.i (getF d FAB_CCMD.OP) else s
  | _ => s.plainWrite i h data noSkip

/-- The mirror pair (16 R423, R437, R438); mask bits above the last core and channel are reserved. -/
def State.writePair (s : State) (i : Init) (h : Hit) (data : Word) : State :=
  let d := h.bits data
  match h.r.k with
  | .PAIR_CTL =>
    let s1 := s.plainWrite i h data noSkip
    let en := s1.fb .PAIR_CTL PAIR_CTL.EN
    if en = s.fb .PAIR_CTL PAIR_CTL.EN then s1 else s1.pairEnable en
  | .PAIR_MP_CORE => s.plainWrite i h (if h.r.j = 3 then data &&& 0xFFFFFF >>> h.sh else data) noSkip
  | .PAIR_MP_DMA => s.plainWrite i h (if h.r.j = 3 then data &&& 0xFFFF >>> h.sh else data) noSkip
  | .PAIR_CMD => if h.on PAIR_CMD.OP then s.pairCommand (getF d PAIR_CMD.OP) (getF d PAIR_CMD.ENTRY) else s
  | _ => s.plainWrite i h data noSkip

/-- Worlds (17 R449, R452, R454): a secure write of 1 clears VALID of WLD_VIOL; while LOCK is 1 the debug levels ignore
writes. -/
def State.writeWld (s : State) (i : Init) (h : Hit) (data : Word) : State :=
  let d := h.bits data
  match h.r.k with
  | .WLD_VIOL =>
    let s1 := s.plainWrite i h data (fun f _ => f != WLD_VIOL.COUNT)
    if i.sec && getF d WLD_VIOL.VALID == 1 then s1.setFd .WLD_VIOL WLD_VIOL.VALID 0 else s1
  | .WLD_DBGEN =>
    let locked := s.fb .WLD_DBGEN WLD_DBGEN.LOCK
    s.plainWrite i h data (fun f _ => locked && f != WLD_DBGEN.LOCK)
  | .WLD_HCMD =>
    if h.on WLD_HCMD.OP then
      s.handCommand i (getF d WLD_HCMD.OP) (getF d WLD_HCMD.CLASS) (getF d WLD_HCMD.INDEX) (getF d WLD_HCMD.WORLD == 1)
    else s
  | _ => s.plainWrite i h data noSkip

/-- The interrupt router (17 R455): the records of unassigned numbers ignore writes. -/
def State.writeIrt (s : State) (i : Init) (h : Hit) (data : Word) : State :=
  let d := h.bits data
  match h.r.k with
  | .IRT_SRC =>
    if !srcAssigned h.r.i then s
    else
      let s1 := s.plainWrite i h data noSkip
      let s2 := if getF d IRT_SRC.TRIG = 1 then s1.irtTrig i h.r.i else s1
      if getF d IRT_SRC.CLRP = 1 then s2.irtClrp i h.r.i else s2
  | _ => s.plainWrite i h data noSkip

/-- A clock gate is written (18 R467, 17 R453): by the world that owns it. -/
def State.gateWrite (s : State) (i : Init) (d : Nat) (off : Bool) : State :=
  let own := s.ownerOf 3 d
  if (own = .n ∧ !i.sec) ∨ (own = .s ∧ i.sec) then s.setFd .PWR_GATE PWR_GATE.OFF (b2n off) 0 d
  else s.violate i.node 4 (RegKind.PWR_GATE.addr 0 d)

/-- Power (18 R463-R468). -/
def State.writePwr (s : State) (i : Init) (h : Hit) (data : Word) : State :=
  let d := h.bits data
  match h.r.k with
  | .PWR_VOTE => if h.on PWR_VOTE.V then s.voteWrite i h.r.i (s.merged h data) else s
  | .PWR_GATE => if 228 ≤ h.r.i && h.on PWR_GATE.OFF then s.gateWrite i h.r.i (bitAt d 0) else s
  | .PWR_PKGCMD => if h.on PWR_PKGCMD.OP then s.pkgCommand i (getF d PWR_PKGCMD.OP) else s
  | .PWR_DOM => s.plainWrite i h data (fun f _ => f == PWR_DOM.FREQ && decide (216 ≤ h.r.i))
  | .PWR_LIMIT =>
    let s1 := s.plainWrite i h data noSkip
    if s1.prochotActs then s1.hotCut else s1
  | _ => s.plainWrite i h data noSkip

/-- Boot and identity (19 R481, R487, R491). -/
def State.writeBoot (s : State) (i : Init) (h : Hit) (data : Word) : State :=
  let d := h.bits data
  match h.r.k with
  | .BOOT_CTL =>
    if !h.on BOOT_CTL.WARM then s
    else if !i.sec then s.violate i.node 1 h.r.addr
    else
      let s1 := if getF d BOOT_CTL.SVNCOMMIT = 1 then s.svnCommit i else s
      let rv := getF d BOOT_CTL.REVOKE
      let s2 := if rv = 0 then s1 else s1.revoke i (BitVec.ofNat 4 rv)
      if getF d BOOT_CTL.WARM = 1 then s2.bootWarm i else s2
  | .BOOT_SPICMD =>
    s.spiCmd i (setF (s.merged h data) BOOT_SPICMD.GO (getF d BOOT_SPICMD.GO))
  | .IDN_EXTEND =>
    if !h.on IDN_EXTEND.INDEX then s
    else if i.sec && getF d IDN_EXTEND.GO == 0 then s.setFd .IDN_EXTEND IDN_EXTEND.INDEX (getF d IDN_EXTEND.INDEX)
    else s.extend i (getF d IDN_EXTEND.INDEX)
  | _ => s.plainWrite i h data noSkip

/-- Error banks and the domain stop (20 R496, R508). -/
def State.writeErb (s : State) (i : Init) (h : Hit) (data : Word) : State :=
  let d := h.bits data
  match h.r.k with
  | .ERB_REC => if getF d ERB_REC.VALID = 1 then s.erbAck h.r.x h.r.i else s
  | .ERB_DSTOP =>
    if !h.on ERB_DSTOP.FORCE then s
    else if !i.sec then s.violate i.node 1 h.r.addr
    else if getF d ERB_DSTOP.FORCE = 1 then s.force i else s
  | _ => s.plainWrite i h data noSkip

/-- The slice manager and the slice windows (14 R368, R369, R375, R376); mask bits above the last core and channel are
reserved. -/
def State.writeVsf (s : State) (i : Init) (h : Hit) (data : Word) : State :=
  let d := h.bits data
  let n := h.r.i
  match h.r.k with
  | .VSF_CMD => if h.on VSF_CMD.OP then s.sliceCommand (getF d VSF_CMD.OP) (getF d VSF_CMD.SLICE) else s
  | .VSF_PGRAN => s.pgranWrite i n (s.merged h data)
  | .VSF_PCORE => s.plainWrite i h (if n = 3 then data &&& 0xFFFFFF >>> h.sh else data) noSkip
  | .VSF_PDMA => s.plainWrite i h (if n = 3 then data &&& 0xFFFF >>> h.sh else data) noSkip
  | .VSF_VRUN => if getF d VSF_VRUN.RELEASE = 1 then s.vrun n else s
  | .VSF_PGRANT => if h.on VSF_PGRANT.TAG then s.vfGrant n d else s
  | .VSF_PGREST => s.vfGrest n h.r.j d
  | .VSF_HDB => s.hdb n d
  | .VSF_SDB => if h.on VSF_SDB.VECTOR then s.sdb i n (getF d VSF_SDB.VECTOR) else s
  | _ => s.plainWrite i h data noSkip

/-- The instances of a swarm family (01 R34). -/
def famCount (f : Nat) : Nat := [12, 18, 16, 12, 16, 16, 16, 16, 8, 8].getD f 0

/-- Management (01 R34, R39). -/
def State.writeMgt (s : State) (i : Init) (h : Hit) (data : Word) : State :=
  match h.r.k with
  | .MGT_GRPMASK => s.plainWrite i h (data &&& BitVec.ofNat 64 (2 ^ famCount h.r.i - 1)) noSkip
  | _ => s.plainWrite i h data noSkip

/-- The slot of a core (03 R96-R99). A word written to C_DBGINST is executed behind those written before it; the write completes at
once. -/
def State.writeCore (s : State) (i : Init) (h : Hit) (data : Word) : State :=
  let d := h.bits data
  let n := h.r.x
  match h.r.k with
  | .C_RSTAT => if getF d C_RSTAT.WERR = 1 then s.modCore n (fun c => { c with werr := false }) else s
  | .C_RUN =>
    let s1 := if getF d C_RUN.RELEASE = 1 then s.coreReleaseOp n else s
    let s2 := if getF d C_RUN.HALTREQ = 1 then s1.coreHaltReq n else s1
    let s3 := if getF d C_RUN.RESUME = 1 then s2.coreResume n else s2
    if getF d C_RUN.CRESET = 1 then s3.coreBeginReset n else s3
  | .C_DBGINST =>
    if h.on C_DBGINST.INSN && (s.core n).run == .halted && s.dbgControl n then
      s.modCore n (fun c => { c with dbgQ := c.dbgQ ++ [BitVec.ofNat 32 (getF d C_DBGINST.INSN)] })
    else s
  | _ => s.plainWrite i h data noSkip

/-- A write reaches a register, the lease work of the pool's edges done before (05 R166): a register that is the other world's is
left as it is and the attempt is logged. -/
def State.writeHit (s0 : State) (i : Init) (h : Hit) (data : Word) : State :=
  let s := if h.r.k.spec.blk = .prl then s0.poolSync else s0
  if s.regSecret h.r && !i.sec then s.violate i.node (if h.r.k = .IRT_SRC then 5 else 1) h.r.addr
  else
    match h.r.k.spec.blk with
    | .tck => s.writeTck i h data
    | .prl => s.writePrl i h data
    | .noc => s.writeNoc i h data
    | .dnoc => s.writeNoc i h data
    | .d2d => s.writeD2d i h data
    | .coh => s.writeCoh i h data
    | .msc => s.writeCoh i h data
    | .cda => s.writeCoh i h data
    | .dma => s.writeDma i h data
    | .hbu => s.writeHbu i h data
    | .fabm => s.writeFabm i h data
    | .fab => s.writeFab i h data
    | .pair => s.writePair i h data
    | .wld => s.writeWld i h data
    | .irt => s.writeIrt i h data
    | .pwr => s.writePwr i h data
    | .boot => s.writeBoot i h data
    | .idn => s.writeBoot i h data
    | .erb => s.writeErb i h data
    | .erbx => s.writeErb i h data
    | .vsf => s.writeVsf i h data
    | .mgt => s.writeMgt i h data
    | .core => s.writeCore i h data
    | .mem => s.plainWrite i h data noSkip
    | .dd2d => s.plainWrite i h data noSkip
    | .derb => s.plainWrite i h data noSkip
    | .recov => s.plainWrite i h data noSkip

/-- A write of one instance: status and the state after it; none while the write waits for room (05 R159). -/
def State.writeOne (s : State) (i : Init) (off width : Nat) (data : Word) : Option (Status × State) :=
  match s.offFence off with
  | some st => some (st, s)
  | none =>
    match portAt off with
    | some (n, o) => s.portWrite i n o width data
    | none =>
      match proxyAt off with
      | some (v, n, o) =>
        let s1 := s.poolSync
        if s1.ownsSlot v n then
          match hitOf (slotOff n o) width with
          | some h => some (.ok, s1.writeHit i h data)
          | none => some (.ok, s1)
        else some (.ok, s1.spoof v 3 i.node (0x800000000000 + off))
      | none =>
        match hitOf off width with
        | some h => some (.ok, s.writeHit i h data)
        | none => some (.ok, s)

/-! Recovery (19 R494): the layout of BAR0 and of the I3C target 0x3B. -/

/-- A byte-wise little-endian number. -/
def leBytes (n : Nat) (w : Word) : List Byte := (List.range n).map (fun k => wordByte w k)

/-- A write of the recovery layout: outside recovery it is ignored. -/
def State.recWrite (s : State) (o width : Nat) (data : Word) : State :=
  let s0 : State := { s with tap := { s.tap with recOff := o } }
  if !s.fb .BOOT_STATUS BOOT_STATUS.RECOVERY then s0
  else if 0x100000 ≤ o ∧ o < 0x200000 then
    let a := s0.fd .REC_WINOFF REC_WINOFF.OFF * 0x100000 + (o - 0x100000)
    let m := (List.range (width / 8)).foldl (fun (m : KMap Byte) k => m.set (a + k) (wordByte data k)) s0.boot.buf
    { s0 with boot := { s0.boot with buf := m } }
  else if o = 0x10 then s0.setFd .REC_WINOFF REC_WINOFF.OFF (getF data REC_WINOFF.OFF)
  else if o = 0x08 then
    if getF data REC_CTL.RESET = 1 then s0.warmReset
    else if getF data REC_CTL.PROGRAM = 1 then s0.recGo true
    else if getF data REC_CTL.GO = 1 then s0.recGo false
    else s0
  else s0

/-- A word of the recovery layout as a read finds it. -/
def State.recRead (s : State) (o : Nat) : Word :=
  if o = 0 then s.rg .BOOT_STATUS
  else if !s.fb .BOOT_STATUS BOOT_STATUS.RECOVERY then 0
  else if o = 0x10 then s.rg .REC_WINOFF
  else if o = 0x18 then s.rg .REC_RESULT
  else if 0x100000 ≤ o ∧ o < 0x200000 then
    let a := s.fd .REC_WINOFF REC_WINOFF.OFF * 0x100000 + (o - 0x100000)
    (List.range 8).foldl (fun (w : Word) k => w ||| (BitVec.setWidth 64 (s.boot.buf.getD (a + k) 0) <<< (8 * k))) 0
  else 0

end Sys2Proof.Machine
end

