-- ==== Sys2Proof/Machine/RegAccess.lean ====
section
/-! DEFINITION. Accesses to the register space as an initiator makes them (00 R6, 14 R378) and swarm accesses (01 R33-R39,
02 R53). -/
namespace Sys2Proof.Machine

/-- The members of slot `k` of a family: a single instance, a group, or all instances; none for a reserved slot (01
R33, R34). -/
def State.slotMembers (s : State) (f k : Nat) : List Nat :=
  let n := famCount f
  if k < 24 then (if k < n then [k] else [])
  else if k < 31 then (List.range n).filter (fun x => bitAt (s.rg .MGT_GRPMASK 0 f (k - 24)) x)
  else List.range n

/-- The hub families: family, base of slot 0 (01 R30, R34). -/
def hubFams : List (Nat × Nat) :=
  [(3, 0x400000), (4, 0x600000), (5, 0x800000), (6, 0xA00000), (7, 0xC00000), (8, 0xE00000), (9, 0x1000000)]

/-- The group slot of a hub family at an offset: family and slot. -/
def hubSwarm (off : Nat) : Option (Nat × Nat × Nat) :=
  hubFams.findSome? (fun e =>
    let k := (off - e.2) / 0x10000
    if e.2 + 24 * 0x10000 ≤ off ∧ off < e.2 + 0x200000 then some (e.1, k, e.2) else none)

/-- Whether an offset lies in a group slot or an all-instance slot, and its family, with the instances it reaches: number
in the family and single-instance offset (01 R34, R36). -/
def State.swarmAt (s : State) (off : Nat) : Option (Nat × List (Nat × Nat)) :=
  match hubSwarm off with
  | some (f, k, b) => some (f, (s.slotMembers f k).map (fun n => (n, b + n * 0x10000 + off % 0x10000)))
  | none =>
    if 0x10000000 ≤ off ∧ off < 0x30000000 then
      let dk := (off - 0x10000000) / 0x1000000
      let o := off % 0x1000000
      let isDma := 0x300000 ≤ o && o < 0x400000
      let ck := (o - 0x300000) / 0x8000
      if isDma && (24 ≤ dk || 24 ≤ ck) then
        some (2, (s.slotMembers 0 dk).flatMap (fun d =>
          (s.slotMembers 2 ck).map (fun c => (c, 0x10300000 + d * 0x1000000 + c * 0x8000 + o % 0x8000))))
      else if 24 ≤ dk then some (0, (s.slotMembers 0 dk).map (fun d => (d, 0x10000000 + d * 0x1000000 + o)))
      else none
    else if 0x40000000 ≤ off ∧ off < 0x80000000 then
      let dk := (off - 0x40000000) / 0x2000000
      let o := off % 0x2000000
      let ck := o / 0x100000
      if 24 ≤ dk ∨ 24 ≤ ck then
        some (1, (s.slotMembers 0 dk).flatMap (fun d =>
          (s.slotMembers 1 ck).map (fun c => (c, 0x40000000 + d * 0x2000000 + c * 0x100000 + o % 0x100000))))
      else none
    else none

/-- What a swarm access has met so far: a refusing reset, a refusing power-off, the refusing instances, the OR of the
reads. -/
structure SwarmRun where
  reset : Bool
  off : Bool
  miss : List Nat
  value : Word
  s : State

/-- The fence at an addressed instance (01 R39). -/
def SwarmRun.step (i : Init) (width : Nat) (write : Bool) (data : Word) (a : SwarmRun) (e : Nat × Nat) : SwarmRun :=
  match a.s.offFence e.2 with
  | some .targetReset => { a with reset := true, miss := e.1 :: a.miss }
  | some _ => { a with off := true, miss := e.1 :: a.miss }
  | none =>
    if write then
      match a.s.writeOne i e.2 width data with
      | some (_, s1) => { a with s := s1 }
      | none => a
    else
      let (_, v, s1) := a.s.readOne i e.2 width
      { a with value := a.value ||| v, s := s1 }

/-- The outcome of a swarm access (01 R39): status, OR of the reads, MGT_SWSTAT. -/
def State.swarmDo (s : State) (i : Init) (f : Nat) (l : List (Nat × Nat)) (width : Nat) (write : Bool) (data : Word) :
    Status × Word × State :=
  let a := l.foldl (SwarmRun.step i width write data) ⟨false, false, [], 0, s⟩
  if !a.reset && !a.off then (.ok, a.value, a.s)
  else
    let m := a.miss.foldl (fun m n => m ||| 2 ^ n) 0
    let w := setF (setF (setF 0 MGT_SWSTAT.MISS m) MGT_SWSTAT.FAMILY f) MGT_SWSTAT.VALID 1
    (if a.reset then .targetReset else .targetOff, a.value, a.s.setRg w .MGT_SWSTAT)

/-- A write to an offset carries a T field (02 R53). -/
def carriesT (off width : Nat) : Bool :=
  match hitOf off width with
  | some h => h.r.k.spec.fields.any (fun e => e.cls == .t && maskF e.f &&& h.mask != 0)
  | none => false

/-- The next edge is at most 2 us away, or the strobe of the last one is still on its way to some block (02 R53). -/
def State.nearEdge (s : State) : Bool :=
  s.strobeUnder || (s.counting && decide (s.nextU ≤ s.timeU + 2000 * 2 ^ 32))

/-- What a register access answers its initiator. -/
inductive RegRes where
  /-- A status and the value read. -/
  | done (st : Status) (v : Word)
  /-- There is no room yet; nothing has happened (05 R159). -/
  | stall
  /-- The hub holds the write until an edge has passed (02 R53), or the Luna controller checks it (02 R51); the completion comes
  then, under the initiator's tag. -/
  | held
deriving DecidableEq, Repr

/-- An access to the register space below the configuration segments (00 R6, 01 R29-R39, 09 R237, 14 R378). -/
def State.regAccess (s : State) (i : Init) (off width : Nat) (write : Bool) (data : Word) : RegRes × State :=
  if !regAccessOk off width then (.done .decerr 0, s)
  else if !s.sliceReach i.slice off width write then
    (.done .decerr 0, s.spoof i.slice 4 i.node (0x800000000000 + off))
  else
    match s.swarmAt off with
    | some (f, l) =>
      if write && s.nearEdge && l.any (fun e => carriesT e.2 width) then
        (.held, { s with held := s.held ++
          [⟨l.map (fun e => e.2), f, width, data, i, s.limitFor (0x800000000000 + off)⟩] })
      else
        let (st, v, s1) := s.swarmDo i f l width write data
        (.done st v, s1)
    | none =>
      if write then
        match s.writeOne i off width data with
        | some (st, s1) => if s.tck.checks.length < s1.tck.checks.length then (.held, s1) else (.done st 0, s1)
        | none => (.stall, s)
      else
        let (st, v, s1) := s.readOne i off width
        (.done st v, s1)

/-- The number in its family of the instance at an offset. -/
def famInst (f off : Nat) : Nat :=
  match f with
  | 0 => (off - 0x10000000) / 0x1000000
  | 1 => (off % 0x2000000) / 0x100000
  | 2 => (off % 0x1000000 - 0x300000) / 0x8000
  | _ => (off % 0x200000) / 0x10000

/-- The node that answers an access to an offset (09 R237): the hub's register fan-out where no block lies, and for swarms. -/
def regNode (off : Nat) : Nat :=
  match blkAt off with
  | [] => hubNode 8
  | (b, x) :: _ => blkNode b x

/-- A register access as packets (09 R241): the request, and its completion where it does not wait. An access for which there is no
room has not happened. -/
def State.regTravel (s : State) (i : Init) (off width : Nat) (write : Bool) (data : Word) : State :=
  match (s.regRequest i (regNode off) off write data).regAccess i off width write data with
  | (.done st v, s1) => s1.regReply i (regNode off) off st v
  | (.held, s1) => s1
  | (.stall, _) => s

/-- REGISTER_WRITE (00 R3): offsets from 0x1_0000_0000 on are the recovery layout of 19 R494, which is reached through BAR0
and I3C. -/
def State.registerWrite (s : State) (i : Init) (off width : Nat) (data : Word) : State :=
  if 0x100000000 ≤ off then
    if s.boot.pwrok && s.boot.resetN && (width = 32 || width = 64) then s.recWrite (off - 0x100000000) width data else s
  else if s.alive then s.regTravel i off width true data
  else s

/-- SWARM_ACCESS (01 R35-R39): an access to a group slot or an all-instance slot; its completion goes to the initiator. -/
def State.swarmAccess (s : State) (i : Init) (off width : Nat) (write : Bool) (data : Word) : State :=
  if s.alive && (s.swarmAt off).isSome then s.regTravel i off width write data else s

/-- A held swarm write is delivered and completes to its initiator (02 R53). -/
def State.swarmDeliver (s : State) (q : HeldSwarm) : State :=
  let r := s.swarmDo q.init q.family (q.offs.map (fun o => (famInst q.family o, o))) q.width true q.data
  r.2.2.heldAnswer q.init q.limit (q.offs.headD 0) r.1

/-- SWARM_HOLD_RELEASE (02 R53): once the edge has passed and its strobe has reached every block, the oldest held write is
delivered. -/
def State.swarmRelease (s : State) : State :=
  match if s.alive && !s.nearEdge then s.held else [] with
  | [] => s
  | q :: t => State.swarmDeliver { s with held := t } q

end Sys2Proof.Machine
end

