-- ==== Sys2Proof/Machine/Contacts.lean ====
section
/-! DEFINITION. The I3C management port and the JTAG port (21 R530-R532) with the sideband register path (20 R511). -/
namespace Sys2Proof.Machine

/-- The contacts work: power is good and the clocks run (21 R536). -/
def State.portsOn (s : State) : Bool := s.boot.pwrok && !s.pwr.tripped

/-- The site whose die holds an offset (01 R29). -/
def offSite (off : Nat) : Option Nat :=
  if 0x10000000 ≤ off ∧ off < 0x1C000000 then some ((off - 0x10000000) / 0x1000000)
  else if 0x40000000 ≤ off ∧ off < 0x58000000 then some ((off - 0x40000000) / 0x2000000)
  else none

/-- The register that the sideband reaches (20 R511): none at a reserved offset or in a die whose power good is low. -/
def State.sideHit (s : State) (off width : Nat) : Option Hit :=
  let dark := match offSite off with | some d => !(s.die d).sampled | none => false
  if dark then none else hitOf off width

/-- The secure fields may be read over the sideband (20 R511, 17 R450). -/
def State.sideSec (s : State) : Bool := 1 ≤ s.dbgLevel true

/-- A write over the sideband: only the W1C of ERB_REC.VALID takes effect (20 R511). -/
def State.sideWrite (s : State) (h : Hit) (data : Word) : State :=
  if h.r.k = .ERB_REC && getF (h.bits data) ERB_REC.VALID == 1 then s.erbAck h.r.x h.r.i else s

/-- The response of the next private read (21 R530). -/
def State.i3cAnswer (s : State) (l : List Byte) : State := { s with tap := { s.tap with i3cResp := l } }

/-- REGRD (21 R530, R531): status byte, then the data; zero data after status 1. -/
def execI3cRegrd (off width : Nat) (s : State) : Out :=
  if !s.portsOn then .next s
  else if width ≠ 4 ∧ width ≠ 8 then .next (s.i3cAnswer [2])
  else
    match s.sideHit off (8 * width) with
    | none => .next (s.i3cAnswer (1 :: List.replicate width 0))
    | some h => .next ((s.readEffect h).i3cAnswer (0 :: leBytes width (s.hitRead h s.sideSec)))

/-- REGWR (21 R530, R531). -/
def execI3cRegwr (off width : Nat) (data : Word) (s : State) : Out :=
  if !s.portsOn then .next s
  else if width ≠ 4 ∧ width ≠ 8 then .next (s.i3cAnswer [2])
  else
    match s.sideHit off (8 * width) with
    | none => .next (s.i3cAnswer [1])
    | some h => .next ((s.sideWrite h data).i3cAnswer [0])

/-- A JTAG instruction is in the instruction register (21 R532): what drives the outputs, 0 the package, 1 the boundary
cells, 2 nothing (high impedance). -/
def State.tapIr (s : State) (ir : BitVec 8) (drive : Nat) : State :=
  { s with tap := { s.tap with ir := ir, drive := drive } }

/-- EXTEST (21 R532): the boundary cells take what is shifted in and drive the outputs. -/
def execJtagExtest (cells : Nat) (s : State) : Out :=
  let s1 := s.tapIr 0x00 1
  .next { s1 with tap := { s1.tap with cells := cells } }

/-- SAMPLE/PRELOAD (21 R532): the boundary cells are loaded; the outputs are the package's. -/
def execJtagSamplePreload (cells : Nat) (s : State) : Out :=
  let s1 := s.tapIr 0x01 0
  .next { s1 with tap := { s1.tap with cells := cells } }

/-- The identification code: the hub's BASE, 0x9216, 0x4B3 (21 R532). -/
def State.idcode (s : State) : Nat := s.fd .IDN_DIE_REV IDN_DIE_REV.BASE 0 0 * 2 ^ 28 + 0x9216 * 2 ^ 12 + 0x4B3

/-- IDCODE (21 R532). -/
def execJtagIdcode (s : State) : Out :=
  let s1 := s.tapIr 0x02 0
  .next { s1 with tap := { s1.tap with dr := BitVec.ofNat 72 s.idcode } }

/-- CLAMP (21 R532): the cells drive the outputs. -/
def execJtagClamp (s : State) : Out := .next (s.tapIr 0x04 1)

/-- HIGHZ (21 R532). -/
def execJtagHighz (s : State) : Out := .next (s.tapIr 0x08 2)

/-- The data register of REGACC with data and status filled in (21 R532). -/
def regaccDr (dr : BitVec 72) (data : Word) (st : Nat) : BitVec 72 :=
  (dr &&& BitVec.ofNat 72 (0x3 * 2 ^ 64 + 0xFFFFFFFF)) ||| ((BitVec.setWidth 72 (data &&& 0xFFFFFFFF)) <<< 32) |||
    BitVec.ofNat 72 (st * 2 ^ 68)

/-- REGACC (21 R532): one 32-bit access over the sideband; SEC = 1 needs SLVL CONTROL (17 R450). Status 0 is OK and 1 an
access that is refused or reaches no register. -/
def State.regacc (s : State) (dr : BitVec 72) : State :=
  let off := dr.toNat % 2 ^ 32
  let data : Word := BitVec.ofNat 64 (dr.toNat / 2 ^ 32 % 2 ^ 32)
  let sec := dr.getLsbD 65
  let put := fun (s : State) (d : BitVec 72) => { s with tap := { s.tap with dr := d } }
  if sec && decide (s.dbgLevel true < 2) then put s (regaccDr dr 0 1)
  else
    match s.sideHit off 32 with
    | none => put s (regaccDr dr 0 1)
    | some h =>
      if dr.getLsbD 64 then put (s.sideWrite h data) (regaccDr dr data 0)
      else put (s.readEffect h) (regaccDr dr (s.hitRead h sec) 0)

/-- REGACC (21 R532). -/
def execJtagRegacc (dr : BitVec 72) (s : State) : Out :=
  if s.portsOn then .next ((s.regacc dr).tapIr 0x20 0) else .next (s.tapIr 0x20 0)

/-- DIESEL (21 R532): the site that STANDALONE names. -/
def execJtagDiesel (site : BitVec 4) (s : State) : Out :=
  let s1 := s.tapIr 0x30 0
  .next { s1 with tap := { s1.tap with diesel := site.toNat } }

/-- STANDALONE (21 R532, 09 R267): while PWROK is high and RESET_N is low the selected die enters stand-alone test mode: it
ignores its site code, takes rotation 0 and trains no port. -/
def execJtagStandalone (s : State) : Out :=
  let s1 := s.tapIr 0x31 0
  let d := s.tap.diesel
  if s.boot.pwrok && !s.boot.resetN && decide (d < 12) && !s.tap.standalone.contains d then
    let s2 : State := { s1 with tap := { s1.tap with standalone := d :: s1.tap.standalone } }
    .next ((s2.stopTraining (Fin.ofNat 12 d)).setFd .D2D_SITE D2D_SITE.ROT 0 d)
  else .next s1

/-- BYPASS (21 R532). -/
def execJtagBypass (s : State) : Out := .next (s.tapIr 0xFF 0)

end Sys2Proof.Machine
end

