-- ==== Sys2Proof/Machine/Translate.lean ====
section
/-! DEFINITION. Address translation (08): regimes, the walk of both stages, permissions and marks, fault codes, translation
buffers and walk caches, I/O contexts. -/
namespace Sys2Proof.Machine

/-- What governs the translation of an access (R212, R234): tag of its entries, roots of the enabled stages, mark updates,
identifiers, level U, world, and who walks: a core, or a hub block under its node. -/
structure Regime where
  /-- 0: normal world U and K, 1: secure world U and K, 2: H; I/O contexts use 0 and 1. -/
  kind : Nat
  s1 : Option Nat
  hwad1 : Bool
  asid : Nat
  s2 : Option Nat
  hwad2 : Bool
  gid : Nat
  user : Bool
  sec : Bool
  core : Option Nat
  node : Nat
deriving DecidableEq, Repr

/-- What an access needs of its leaves (R220, R222). -/
structure Need where
  r : Bool
  w : Bool
  /-- The fetch right of the current level; K and H use KX, U uses UX. -/
  x : Bool
  /-- IDROP: R, or the fetch right. -/
  rx : Bool
  /-- D is needed beside A. -/
  d : Bool
  /-- Prefetch work: it writes no mark (R224). -/
  pf : Bool
  /-- An I/O access: U is ignored (R234). -/
  io : Bool
deriving DecidableEq, Repr

def needLoad : Need := ⟨true, false, false, false, false, false, false⟩
def needStore : Need := ⟨false, true, false, false, true, false, false⟩
def needAtom : Need := ⟨true, true, false, false, true, false, false⟩
def needFetch : Need := ⟨false, false, true, false, false, false, false⟩
def needIdrop : Need := ⟨false, false, false, true, false, false, false⟩
def needPfR : Need := ⟨true, false, false, false, false, true, false⟩
def needPfW : Need := ⟨true, true, false, false, true, true, false⟩

/-- A translation fault (R225, R227): the code, the IPA of a stage-2 fault, the entry's PA of a WALK_MCHECK. -/
structure XFault where
  code : Nat
  ipa : Option Nat
  mcheck : Option Nat
deriving DecidableEq, Repr

/-- The fault code (R225). -/
def xcode (kind lvl : Nat) (st2 s1walk : Bool) : Nat := kind + 32 * lvl + 256 * b2n st2 + 512 * b2n s1walk

abbrev fkCANON : Nat := 1
abbrev fkINVALID : Nat := 2
abbrev fkFORMAT : Nat := 3
abbrev fkPERMR : Nat := 4
abbrev fkPERMW : Nat := 5
abbrev fkPERMX : Nat := 6
abbrev fkPERMU : Nat := 7
abbrev fkACCESS : Nat := 8
abbrev fkDIRTY : Nat := 9
abbrev fkNONMEM : Nat := 10
abbrev fkWALKBUS : Nat := 11

/-- The stage whose walk or check faults: the stage, and the IPA and S1WALK of a stage-2 fault. -/
structure Side where
  st2 : Bool
  s1walk : Bool
  ipa : Nat

/-- A fault at a side. -/
def Side.fault (d : Side) (kind lvl : Nat) : XFault :=
  ⟨xcode kind lvl d.st2 d.s1walk, if d.st2 then some d.ipa else none, none⟩

/-- How a step of a translation ends: with a value, with a fault, or not yet (a home answers RETRY). -/
inductive Tr (α : Type) where
  | ok (a : α)
  | fault (f : XFault)
  | busy

/-- The bit of a word as an entry holds it. -/
def eA (e : Word) : Bool := bitAt e 10
def eD (e : Word) : Bool := bitAt e 11
/-- The address field of an entry. -/
def eAddr (e : Word) : Nat := (e.toNat / 4096) % 2 ^ 44 * 4096
/-- The memory type of a leaf. -/
def eMt (e : Word) : Nat := e.toNat / 4 % 4

/-- A leaf that is a FORMAT fault at its level (R216). -/
def badLeaf (e : Word) (lvl : Nat) : Bool :=
  lvl == 0 || eMt e == 3 || (bitAt e 5 && !bitAt e 4) || e.toNat / 2 ^ 59 % 16 != 0 ||
    eAddr e % 2 ^ (12 + 9 * (4 - lvl)) != 0

/-- The index of a level in an input address (R217). -/
def walkIdx (inp lvl : Nat) : Nat := inp / 2 ^ (48 - 9 * lvl) % 512

/-- The request of a walker (10 R284): a core's go through its CDA. -/
def State.walkReq (s : State) (g : Regime) (line : Nat) : CohReq :=
  match g.core with
  | some n => s.cdaReq (n / 18) line g.sec
  | none => { CohReq.bare g.node line g.sec with gen := s.genOf g.node }

/-- A line is on its way out of the walker's die. -/
def State.walkWb (s : State) (g : Regime) (line : Nat) : Bool :=
  match g.core with | some n => s.inWb (n / 18) line | none => false

/-- Read an entry (R217, R218): an RDC of its line. -/
def State.walkRead (s : State) (g : Regime) (d : Side) (lvl ea : Nat) : Tr Word × State :=
  if s.walkWb g (ea / 128) then (.busy, s)
  else
    let (r, s1) := s.homeDo opRDC (s.walkReq g (ea / 128))
    if r.status = .retry then (.busy, s1)
    else if r.status ≠ .ok then (.fault (d.fault fkWALKBUS lvl), s1)
    else if r.poison.getLsbD (ea % 128 / 8) then (.fault ⟨0, none, some (ea / 8 * 8)⟩, s1)
    else (.ok (lineBytes r.data (ea % 128) 8), s1)

/-- Write marks by a compare-and-swap at the home (R222): true when the swap was done, false when the entry had changed. -/
def State.walkSwap (s : State) (g : Regime) (d : Side) (lvl ea : Nat) (old new : Word) : Tr Bool × State :=
  if s.walkWb g (ea / 128) then (.busy, s)
  else
    let q := { s.walkReq g (ea / 128) with aop := 31, aoff := ea % 128, operand := new, compare := old }
    let (r, s1) := s.homeDo opATOMF q
    if r.status = .retry then (.busy, s1)
    else if r.status ≠ .ok then (.fault (d.fault fkWALKBUS lvl), s1)
    else if r.psn then (.fault ⟨0, none, some (ea / 8 * 8)⟩, s1)
    else (.ok (r.old == old), s1)

/-- A walker counts in C_TWSTAT: drops in bits [15:0], restarts in [31:16] (R214). -/
def State.twCount (s : State) (g : Regime) (f : Fld) : State :=
  match g.core with
  | some n => s.modCore n (fun c => c.setCr cTWSTAT (setF (c.cr cTWSTAT) f (satInc 16 (getF (c.cr cTWSTAT) f))))
  | none => s
abbrev twDROPS : Fld := ⟨0, 16⟩
abbrev twRESTARTS : Fld := ⟨16, 16⟩

/-- A walk cache is 64 entries for each of levels 0-3 and each stage (R228); which entry leaves a full set is free. -/
def State.wcachePut (s : State) (g : Regime) (w : WalkEntry) : State :=
  match g.core with
  | none => s
  | some n =>
    let same := (s.core n).wcache.filter (fun x => x.stage == w.stage && x.level == w.level)
    let rest := (s.core n).wcache.filter (fun x => !(x.stage == w.stage && x.level == w.level))
    let (k, s1) := s.drawNat
    let keep := if same.length < 64 then same else same.eraseIdx (k % same.length)
    s1.modCore n (fun c => { c with wcache := w :: keep ++ rest })

/-- A walk-cache entry for a level of a walk, if the core has one and uses it (R228, R233): a free choice. -/
def State.wcacheUse (s : State) (g : Regime) (stage lvl inp : Nat) : Option Nat × State :=
  match g.core with
  | none => (none, s)
  | some n =>
    match (s.core n).wcache.find? (fun w => w.stage == stage && w.level == lvl && w.regime == g.kind &&
        (g.kind != 0 || w.gid == g.gid) && w.pre == inp / 2 ^ (48 - 9 * lvl)) with
    | none => (none, s)
    | some w =>
      let (b, s1) := s.drawBit
      (if b then some w.table else none, s1)

/-- A walk's result: leaf, its level and the address it was read from. -/
structure Leaf where
  e : Word
  lvl : Nat
  ea : Nat

/-- The output address of a leaf for an input. -/
def Leaf.out (l : Leaf) (inp : Nat) : Nat :=
  let sz := 2 ^ (12 + 9 * (4 - l.lvl))
  eAddr l.e / sz * sz + inp % sz

/-- One level of a walk (R217); `xl` translates the address of the entry. The next table, or the leaf. -/
def State.walkLevel (s : State) (g : Regime) (stage : Nat) (d : Side) (xl : State → Nat → Tr Nat × State) (inp lvl t : Nat) :
    Tr (Sum Nat Leaf) × State :=
  let (hit, s0) := if lvl < 4 then s.wcacheUse g stage lvl inp else (none, s)
  match hit with
  | some nt => (.ok (.inl nt), s0)
  | none =>
    let ia := t + 8 * walkIdx inp lvl
    match xl s0 ia with
    | (.fault f, s1) => (.fault f, s1)
    | (.busy, s1) => (.busy, s1)
    | (.ok ea, s1) =>
      if 0x400000000000 ≤ ea then (.fault (d.fault fkNONMEM lvl), s1)
      else
        match s1.walkRead g d lvl ea with
        | (.fault f, s2) => (.fault f, s2)
        | (.busy, s2) => (.busy, s2)
        | (.ok e, s2) =>
          if !bitAt e 0 then (.fault (d.fault fkINVALID lvl), s2)
          else if bitAt e 1 then
            if badLeaf e lvl then (.fault (d.fault fkFORMAT lvl), s2) else (.ok (.inr ⟨e, lvl, ia⟩), s2)
          else if lvl = 4 then (.fault (d.fault fkFORMAT 4), s2)
          else (.ok (.inl (eAddr e)), s2.wcachePut g ⟨stage, g.kind, g.gid, lvl, inp / 2 ^ (48 - 9 * lvl), eAddr e⟩)

/-- The levels of a walk from `lvl` on (R217). The leaf's address is as the tables name it: an IPA at stage 1 of a guest. -/
def State.walkFrom (g : Regime) (stage : Nat) (d : Side) (xl : State → Nat → Tr Nat × State) (inp : Nat) :
    Nat → Nat → Nat → State → Tr Leaf × State
  | 0, _, _, s => (.fault (d.fault fkFORMAT 4), s)
  | n + 1, lvl, t, s =>
    match s.walkLevel g stage d xl inp lvl t with
    | (.fault f, s1) => (.fault f, s1)
    | (.busy, s1) => (.busy, s1)
    | (.ok (.inr l), s1) => (.ok l, s1)
    | (.ok (.inl nt), s1) => State.walkFrom g stage d xl inp n (lvl + 1) nt s1

/-- The rights of a leaf (R220): the kind of the fault, none where they suffice. -/
def rightsFault (nd : Need) (user st2 : Bool) (e : Word) : Option Nat :=
  let x := if st2 then bitAt e 6 else if user then bitAt e 6 else bitAt e 7
  if !st2 && user && !nd.io && !bitAt e 8 then some fkPERMU
  else if nd.rx then (if bitAt e 4 || x then none else some fkPERMR)
  else if nd.r && !bitAt e 4 then some fkPERMR
  else if nd.w && !bitAt e 5 then some fkPERMW
  else if nd.x && !x then some fkPERMX
  else none

/-- A leaf lacks a mark that an access needs (R222): the kind of the fault. -/
def markFault (nd : Need) (e : Word) : Option Nat :=
  if !eA e then some fkACCESS else if nd.d && !eD e then some fkDIRTY else none

/-- A leaf with the marks an access needs. -/
def marked (nd : Need) (e : Word) : Word := e ||| 0x400 ||| (if nd.d then 0x800 else 0)

/-- The marks of a leaf: they are there, they fault, or they are written (R222, R224). False: the entry has changed, and the
walk restarts. `ea` is where the entry was read. -/
def State.markLeaf (s : State) (g : Regime) (nd : Need) (d : Side) (hwad : Bool) (l : Leaf) (ea : Nat) : Tr Bool × State :=
  match markFault nd l.e with
  | none => (.ok true, s)
  | some k =>
    if nd.pf || !hwad then (.fault (d.fault k l.lvl), s)
    else
      match s.walkSwap g d l.lvl ea l.e (marked nd l.e) with
      | (.ok false, s1) => (.ok false, s1.twCount g twRESTARTS)
      | r => r

/-- An input address is its own output. -/
def noXl (s : State) (a : Nat) : Tr Nat × State := (.ok a, s)

/-- Stage 2 of an address (R217, R220, R222, R226): its leaf; a failed swap walks again. -/
def State.stage2 (g : Regime) (nd : Need) (d : Side) (root ipa : Nat) : Nat → State → Tr Leaf × State
  | 0, s => (.busy, s)
  | n + 1, s =>
    match State.walkFrom g 2 d noXl ipa 5 0 root s with
    | (.fault f, s1) => (.fault f, s1)
    | (.busy, s1) => (.busy, s1)
    | (.ok l, s1) =>
      match rightsFault nd g.user true l.e with
      | some k => (.fault (d.fault k l.lvl), s1)
      | none =>
        match s1.markLeaf g nd d g.hwad2 l l.ea with
        | (.ok true, s2) => (.ok { l with e := marked nd l.e }, s2)
        | (.ok false, s2) => State.stage2 g nd d root ipa n s2
        | (.fault f, s2) => (.fault f, s2)
        | (.busy, s2) => (.busy, s2)

/-- How often a walk starts again before the access waits. -/
abbrev walkFuel : Nat := 8

/-- The address of a stage-1 table entry (R217, R223): through stage 2 in a guest, with R, or with W for a mark write. -/
def State.tableXl (g : Regime) (nd : Need) (s : State) (ia : Nat) : Tr Nat × State :=
  match g.s2 with
  | none => (.ok ia, s)
  | some root =>
    match State.stage2 g nd ⟨true, true, ia⟩ root ia walkFuel s with
    | (.ok l, s1) => (.ok (l.out ia), s1)
    | (.fault f, s1) => (.fault f, s1)
    | (.busy, s1) => (.busy, s1)

/-- Stage 1 of an address (R226). -/
def State.stage1 (g : Regime) (nd : Need) (root va : Nat) : Nat → State → Tr Leaf × State
  | 0, s => (.busy, s)
  | n + 1, s =>
    let d : Side := ⟨false, false, 0⟩
    let tn : Need := { needLoad with pf := nd.pf }
    match State.walkFrom g 1 d (State.tableXl g tn) (va % 2 ^ 57) 5 0 root s with
    | (.fault f, s1) => (.fault f, s1)
    | (.busy, s1) => (.busy, s1)
    | (.ok l, s1) =>
      match rightsFault nd g.user false l.e with
      | some k => (.fault (d.fault k l.lvl), s1)
      | none =>
        if (markFault nd l.e).isNone then (.ok l, s1)
        else if nd.pf || !g.hwad1 then (.fault (d.fault ((markFault nd l.e).getD fkACCESS) l.lvl), s1)
        else
          match State.tableXl g { needStore with pf := nd.pf } s1 l.ea with
          | (.fault f, s2) => (.fault f, s2)
          | (.busy, s2) => (.busy, s2)
          | (.ok ea, s2) =>
            match s2.markLeaf g nd d g.hwad1 l ea with
            | (.ok true, s3) => (.ok { l with e := marked nd l.e }, s3)
            | (.ok false, s3) => State.stage1 g nd root va n s3
            | (.fault f, s3) => (.fault f, s3)
            | (.busy, s3) => (.busy, s3)

/-- The memory type with translation off (R92): 0 normal coherent, 2 device. -/
def rangeType (pa : Nat) : Nat :=
  match region pa with
  | .dram => 0
  | .sram => 0
  | .rom => 0
  | .mram => 0
  | .globl => 0
  | _ => 2

/-- A translated address: physical address, memory type, world of the access. -/
structure Xlated where
  pa : Nat
  mt : Nat
  sec : Bool
deriving DecidableEq, Repr

/-- The canonical check (R213). -/
def canonical (g : Regime) (va : Word) : Bool :=
  let h := va.toNat / 2 ^ 56
  if g.s1.isSome then h == 0 || h == 255 else h == 0

/-- The leaf that stands for a disabled stage 1: every right, normal coherent. -/
def offLeaf : Word := 0xDF3

/-- Number of 4 KiB pages of a leaf level. -/
def leafPages (lvl : Nat) : Nat := 2 ^ (9 * (4 - lvl))

/-- The entry of a translation (R228). -/
def Regime.entry (g : Regime) (va ipa : Nat) (l1 : Option Leaf) (l2 : Option Leaf) (pa : Nat) : TlbEntry :=
  let n1 := match l1 with | some l => leafPages l.lvl | none => 2 ^ 45
  let n2 := match l2 with | some l => leafPages l.lvl | none => 2 ^ 45
  let n := min n1 n2
  let v := va / 4096
  { regime := g.kind, asid := g.asid, gid := g.gid
    glob := g.kind == 2 || (match l1 with | some l => bitAt l.e 9 | none => false)
    vpn := v / n * n, pages := n, ppn := pa / 4096 - (ipa / 4096) % n, st1 := l1.isSome
    leaf1 := match l1 with | some l => l.e | none => offLeaf
    leaf2 := l2.map (fun l => l.e) }

/-- The result of a translation from its leaves (R215 NW, R221). -/
def xlResult (g : Regime) (l1 : Word) (l2 : Option Word) (pa : Nat) : Xlated :=
  let m1 := eMt l1
  let m2 := match l2 with | some e => eMt e | none => 0
  ⟨pa, max m1 m2, g.sec && !(g.kind == 1 && bitAt l1 63)⟩

/-- The walk of both stages (R217-R226), and the entry to cache. -/
def State.fullWalk (s : State) (g : Regime) (nd : Need) (va : Word) : Tr (Xlated × Option TlbEntry) × State :=
  let r1 : Tr (Option Leaf) × State :=
    match g.s1 with
    | none => (.ok none, s)
    | some root =>
      match State.stage1 g nd root va.toNat walkFuel s with
      | (.ok l, s1) => (.ok (some l), s1)
      | (.fault f, s1) => (.fault f, s1)
      | (.busy, s1) => (.busy, s1)
  match r1 with
  | (.fault f, s1) => (.fault f, s1)
  | (.busy, s1) => (.busy, s1)
  | (.ok l1, s1) =>
    let inp := va.toNat % 2 ^ 57
    let ipa := match l1 with | some l => l.out inp | none => va.toNat % 2 ^ 56
    let e1 := match l1 with | some l => l.e | none => offLeaf
    match g.s2 with
    | none =>
      if l1.isNone then (.ok (⟨ipa, rangeType ipa, g.sec⟩, none), s1)
      else (.ok (xlResult g e1 none ipa, some (g.entry inp ipa l1 none ipa)), s1)
    | some root =>
      match State.stage2 g nd ⟨true, false, ipa⟩ root ipa walkFuel s1 with
      | (.fault f, s2) => (.fault f, s2)
      | (.busy, s2) => (.busy, s2)
      | (.ok l2, s2) =>
        let pa := l2.out ipa
        (.ok (xlResult g e1 (some l2.e) pa, some (g.entry inp ipa l1 (some l2) pa)), s2)

/-! Translation buffers (R228-R233). -/

/-- An entry serves a regime, with the stages it was made by, and a page (R212, R213, R228). -/
def TlbEntry.serves (e : TlbEntry) (g : Regime) (vpn : Nat) : Bool :=
  e.regime == g.kind && (g.kind != 0 || e.gid == g.gid) && (e.glob || e.asid == g.asid) &&
    e.st1 == g.s1.isSome && e.leaf2.isSome == g.s2.isSome && decide (e.vpn ≤ vpn) && decide (vpn < e.vpn + e.pages)

/-- A cached entry grants an access with the marks it holds (R224, R228). -/
def TlbEntry.grants (e : TlbEntry) (nd : Need) (user : Bool) : Bool :=
  (rightsFault nd user false e.leaf1).isNone && (markFault nd e.leaf1).isNone &&
    (match e.leaf2 with
     | some l => (rightsFault nd user true l).isNone && (markFault nd l).isNone
     | none => true)

/-- The buffers of a walker that serve an access: those of a core, or the hub IOTLB. -/
def State.tlbOf (s : State) (g : Regime) (fetch : Bool) : List TlbEntry :=
  match g.core with
  | some n =>
    let c := s.core n
    (if fetch then c.itlb else c.dtlb) ++ c.tlb2 ++ c.tlb2big
  | none => s.hb.iotlb

/-- Put an entry into a buffer of `cap` entries; which entry leaves a full one is free. -/
def tlbInsert (cap k : Nat) (e : TlbEntry) (l : List TlbEntry) : List TlbEntry :=
  let m := l.filter (fun x => !(x.regime == e.regime && x.asid == e.asid && x.gid == e.gid && x.vpn == e.vpn && x.pages == e.pages))
  e :: (if m.length < cap then m else m.eraseIdx (k % m.length))

/-- Put an entry into a buffer of `sets` sets of `ways` ways; which entry leaves a full set is free. -/
def tlbInsertSet (ways sets k : Nat) (e : TlbEntry) (l : List TlbEntry) : List TlbEntry :=
  let here := fun (x : TlbEntry) => Config.tlbSet x.vpn x.pages % sets == Config.tlbSet e.vpn e.pages % sets
  tlbInsert ways k e (l.filter here) ++ l.filter (fun x => !here x)

/-- Cache a result (R228): the L1 buffer of its kind, and the L2 buffer of its page size; of the hub (R235), the IOTLB. -/
def State.tlbFill (s : State) (g : Regime) (fetch : Bool) (e : TlbEntry) : State :=
  let (k, s1) := s.drawNat
  match g.core with
  | some n =>
    s1.modCore n (fun c =>
      let c1 := if fetch then { c with itlb := tlbInsert 64 k e c.itlb } else { c with dtlb := tlbInsert 96 k e c.dtlb }
      if e.pages ≤ 512 then { c1 with tlb2 := tlbInsertSet 12 256 k e c1.tlb2 }
      else { c1 with tlb2big := tlbInsert 64 k e c1.tlb2big })
  | none => { s1 with hb := { s1.hb with iotlb := tlbInsertSet 8 1024 k e s1.hb.iotlb } }

/-- An access misses in the buffers and a walk of a core starts: events 0x0A, 0x0B and 0x0C (03 R102). -/
def State.noteWalk (s : State) (g : Regime) (fetch : Bool) : State :=
  match g.core with
  | some n => (s.noteEv n (if fetch then 0x0A else 0x0B)).noteEv n 0x0C
  | none => s

/-- Translate an access (R212-R233): with both stages off the address is its own output (R213); else a cached entry that grants it
may be used, or the tables are walked: a free choice (R233). -/
def State.translate (s : State) (g : Regime) (nd : Need) (va : Word) : Tr Xlated × State :=
  if !canonical g va then (.fault ⟨xcode fkCANON 0 false false, none, none⟩, s)
  else if g.s1.isNone && g.s2.isNone then
    let pa := va.toNat % 2 ^ 56
    (.ok ⟨pa, rangeType pa, g.sec⟩, s)
  else
    let vpn := va.toNat % 2 ^ 57 / 4096
    let hit := (s.tlbOf g nd.x).find? (fun e => e.serves g vpn && e.grants nd g.user)
    let (b, s0) := if hit.isSome then s.drawBit else (false, s)
    match if b then hit else none with
    | some e =>
      (.ok (xlResult g e.leaf1 e.leaf2 ((e.ppn + (vpn - e.vpn)) * 4096 + va.toNat % 4096)), s0)
    | none =>
      match (s0.noteWalk g nd.x).fullWalk g nd va with
      | (.ok (x, some e), s1) => (.ok x, s1.tlbFill g nd.x e)
      | (.ok (x, none), s1) => (.ok x, s1)
      | (.fault f, s1) => (.fault f, s1)
      | (.busy, s1) => (.busy, s1)

/-! The regimes of a core (R212, R214). -/

/-- A fetch or translation register as it governs (R60): the old value of one written since the last ISYNC, trap entry or
ERET may still govern, a free choice. -/
def State.gov (s : State) (n key : Nat) : Word × State :=
  match (s.core n).creg60.get? key with
  | none => ((s.core n).cr key, s)
  | some old =>
    let (b, s1) := s.drawBit
    (if b then old else (s.core n).cr key, s1)

/-- The regime of a core (R212). -/
def State.regime (s : State) (n : Nat) : Regime × State :=
  let c := s.core n
  let base : Regime := ⟨0, none, false, 0, none, false, 0, c.lvl == .u, c.dbgSec, some n, coreNode n⟩
  match c.lvl with
  | .m => ({ base with kind := if c.sec then 1 else 0 }, s)
  | .h =>
    let (ct, s1) := s.gov n cHTCTL
    let (tb, s2) := s1.gov n cHTTB
    ({ base with kind := 2, s1 := if bitAt ct 0 then some (eAddr tb) else none, hwad1 := bitAt ct 1 }, s2)
  | _ =>
    let (ct, s1) := s.gov n (wk cTCTL c.sec)
    let (tb, s2) := s1.gov n (wk cTTB c.sec)
    let st := if bitAt ct 0 then some (eAddr tb) else none
    let g1 := { base with s1 := st, hwad1 := bitAt ct 1, asid := ct.toNat / 2 ^ 16 % 2 ^ 16 }
    if c.sec then ({ g1 with kind := 1 }, s2)
    else
      let (c2, s3) := s2.gov n cS2CTL
      let (t2, s4) := s3.gov n cS2TTB
      ({ g1 with s2 := if bitAt c2 0 then some (eAddr t2) else none, hwad2 := bitAt c2 1,
                 gid := c2.toNat / 2 ^ 16 % 2 ^ 16 }, s4)

/-! I/O contexts (R234). -/

/-- The regime of an I/O context of four words, for the node of its requester; none where V is 0. -/
def ioRegime (w0 w1 w2 : Word) (node : Nat) : Option Regime :=
  if !bitAt w0 0 then none
  else
    let sec := bitAt w0 4
    some ⟨if sec then 1 else 0, if bitAt w0 1 then some (eAddr w1) else none, bitAt w0 3, w0.toNat / 2 ^ 16 % 2 ^ 16,
      if bitAt w0 2 && !sec then some (eAddr w2) else none, bitAt w0 3, w0.toNat / 2 ^ 32 % 2 ^ 16, false, sec, none, node⟩

/-- What an I/O access needs (R234): R for reads, W for writes, both for atomics. -/
def ioNeed (r w : Bool) : Need := ⟨r, w, false, false, w, false, true⟩

/-- Translate an I/O access (R234, R235). Reserved bits of a context are not looked at. -/
def State.ioTranslate (s : State) (w0 w1 w2 : Word) (node : Nat) (nd : Need) (a : Nat) : Tr Xlated × State :=
  match ioRegime w0 w1 w2 node with
  | none => (.fault ⟨xcode fkINVALID 0 false false, none, none⟩, s)
  | some g =>
    if g.s1.isNone && g.s2.isNone then (.ok ⟨a % 2 ^ 56, rangeType (a % 2 ^ 56), g.sec⟩, s)
    else s.translate g nd (BitVec.ofNat 64 a)

/-! TLBI (R229-R232). -/

/-- A TLBI names an entry (R229). -/
def TlbiRun.hits (t : TlbiRun) (e : TlbEntry) : Bool :=
  let vpn := t.va.toNat % 2 ^ 57 / 4096
  if t.regime = 3 then true
  else if t.kind = 3 then e.regime == 0 && e.gid == t.asid
  else
    e.regime == t.regime && (t.regime != 0 || e.gid == t.gid) &&
      (match t.kind with
       | 0 => decide (e.vpn ≤ vpn) && decide (vpn < e.vpn + e.pages) && (t.regime == 2 || e.asid == t.asid || e.glob)
       | 1 => t.regime == 2 || (e.asid == t.asid && !e.glob)
       | _ => true)

/-- A TLBI names a walk-cache entry (R229): stage-2 pointers carry the path of an IPA, so a TLBI by VA takes all of them; one by
ASID takes every entry of the regime, of whatever GID. -/
def TlbiRun.hitsWalk (t : TlbiRun) (w : WalkEntry) : Bool :=
  if t.regime = 3 then true
  else if t.kind = 3 then w.regime == 0 && w.gid == t.asid
  else
    w.regime == t.regime && (t.regime != 0 || t.kind = 1 || w.gid == t.gid) &&
      (t.kind != 0 || w.stage == 2 || w.pre == t.va.toNat % 2 ^ 57 / 2 ^ (48 - 9 * w.level))

/-- Remove what a TLBI names from a core's buffers. -/
def Core.tlbRemove (c : Core) (t : TlbiRun) : Core :=
  let keep := fun (l : List TlbEntry) => l.filter (fun e => !t.hits e)
  { c with itlb := keep c.itlb, dtlb := keep c.dtlb, tlb2 := keep c.tlb2, tlb2big := keep c.tlb2big
           wcache := c.wcache.filter (fun w => !t.hitsWalk w) }

/-- Everything a core has cached. -/
def Core.tlbFlush (c : Core) : Core :=
  { c with itlb := [], dtlb := [], tlb2 := [], tlb2big := [], wcache := [], tlbFlushDue := false }

/-- A target whose acknowledgement the hub sends (R231): a core in reset, HELD, DEEP or OFF, or in SLEEP. -/
def State.tlbiHubAck (s : State) (t : Nat) : Bool :=
  decide (t < 216) && ((s.core t).run == .held || (s.core t).run == .resetting || decide (2 ≤ s.domState t))

/-- The hub acknowledges for a target; a core in SLEEP has a full invalidation pending (R231). -/
def State.tlbiHubDone (s : State) (t : Nat) : State :=
  if s.domState t = 2 then s.modCore t (fun c => { c with tlbFlushDue := true }) else s

/-- A TLBI is broadcast (R230): the targets that the hub does not stand for are left. -/
def State.tlbiSend (s : State) (n kind regime : Nat) (va : Word) (asid gid : Nat) : State :=
  let id := s.net.nextTlbi
  let hub := (List.range 216).filter (fun t => s.tlbiHubAck t)
  let left := (List.range 217).filter (fun t => !s.tlbiHubAck t)
  let s1 := hub.foldl (fun s t => s.tlbiHubDone t) s
  let r : TlbiRun := ⟨id, n, kind, regime, va, asid, gid, left⟩
  ({ s1 with net := { s1.net with tlbis := s1.net.tlbis ++ [r], nextTlbi := id + 1 } }).modCore n
    (fun c => { c with tlbiOut := c.tlbiOut ++ [id] })

/-- The node of a TLBI target. -/
def tlbiNode (t : Nat) : Nat := if t < 216 then coreNode t else iotlbNode

/-- TLBI_RECEIVE (R231): the target removes what matches and acknowledges. A walk is one step, so none is under way. -/
def execTlbiReceive (id : Nat) (target : Fin 217) (s : State) : Out :=
  let t := target.val
  match s.net.tlbis.find? (fun r => r.id == id && r.left.contains t) with
  | none => .next s
  | some r =>
    if s.dead || s.net.msgs.any (fun m => m.cls == 5 && m.op == 9 && m.tag == id && m.src == tlbiNode t) then .next s
    else
      let s1 :=
        if t < 216 then
          if s.tlbiHubAck t then s.tlbiHubDone t else s.modCore t (fun c => c.tlbRemove r)
        else { s with hb := { s.hb with iotlb := s.hb.iotlb.filter (fun e => !r.hits e) } }
      .next (s1.send (Msg.mk' 5 0x09 (coreNode r.core) (tlbiNode t) (s.genOf (coreNode r.core)) id false .ok 0 0 0))

/-- A target of a TLBI is done: the TLBI whose last it was is complete. -/
def State.tlbiDone (s : State) (id t : Nat) : State :=
  let ts := s.net.tlbis.map (fun r => if r.id = id then { r with left := r.left.filter (fun x => x != t) } else r)
  let fin := ts.filter (fun r => r.left.isEmpty)
  fin.foldl (fun s r => s.modCore r.core (fun c => { c with tlbiOut := c.tlbiOut.filter (fun x => x != r.id) }))
    { s with net := { s.net with tlbis := ts.filter (fun r => !r.left.isEmpty) } }

/-- TLBIACK (R230): the acknowledgement of a target reaches the issuing core. -/
def execTlbiAck (id : Nat) (target : Fin 217) (s : State) : Out :=
  let m := fun (m : Msg) => m.cls == 5 && m.op == 9 && m.tag == id && m.src == tlbiNode target.val
  if !s.dead && s.net.msgs.any m then .next ((s.consume m).tlbiDone id target.val) else .next s

/-- TLBSYNC_TIMEOUT (R232): targets of a TLBI have not acknowledged in time. The hub records each; the core waits no longer for this
TLBI, whose targets may still act on it. A waiting TLBSYNC raises BUSERR with status TOUT, as a later one will. -/
def execTlbsyncTimeout (core : CoreNo) (s : State) : Out :=
  let n := core.val
  match if s.alive then s.net.tlbis.find? (fun r => r.core == n && (s.core n).tlbiOut.contains r.id) else none with
  | none => .next s
  | some r =>
    let s1 := r.left.foldl (fun s t => s.recordErr ⟨0x30, 19, tlbiNode t, none, some 4, (s.core n).dbgSec⟩) s
    let s2 := s1.modCore n (fun c =>
      { c with tlbiOut := c.tlbiOut.filter (fun x => x != r.id), tlbTout := c.wait != .tlbsync })
    if (s.core n).wait = .tlbsync then
      let s3 := s2.modCore n (fun c => { c with wait := .none })
      .next (s3.raiseExc n ⟨xBUSERR, 4, 0, false, false, none⟩ ((s.core n).pc + 4))
    else .next s2

end Sys2Proof.Machine
end

