-- ==== Sys2Proof/Machine/HostCfg.lean ====
section
/-! DEFINITION. Configuration accesses (13 R336-R343): the root ports, the endpoint's own view, the external host that
configures the endpoint; slot proxies (14 R377). -/
namespace Sys2Proof.Machine

/-! The endpoint's functions as the host configures them (R341; registers at the places the PCI Express standard gives them
within the capabilities of R341). -/

/-- What the chapter states of a function's dwords (R340, R341). -/
def State.epFixed (s : State) (f : Nat) : List CfgFixed :=
  if s.fb .BOOT_STATUS BOOT_STATUS.RECOVERY then recFixed else if f = 0 then pfFixed else vfFixed (s.slice (f - 16)).vec

/-- A dword of a function that no other state holds: as last written, with the stated bits as they stand. -/
def State.epCfg (s : State) (f reg : Nat) : BitVec 32 :=
  let a := 0x1000 * f + reg
  if reg = 0x104 ∨ reg = 0x110 then s.hb.cfg.getD a 0 else (fixedAt (s.epFixed f) reg).on (s.hb.cfg.getD a (Config.cfgWord a))

/-- Link Status of a port whose link is active: rate and width (R333, R335). -/
def State.linkDword (s : State) (k j : Nat) (d : BitVec 32) : BitVec 32 :=
  if s.hbLink k j then (d &&& 0xFC00FFFF) ||| BitVec.ofNat 32 ((s.hbPort k j).rate * 2 ^ 16 + (s.hbPort k j).width * 2 ^ 20) else d

/-- A dword of a root port as a read finds it (R333, R335, R343): the greatest width under BIF, the link as it runs. -/
def State.rpDword (s : State) (k j reg : Nat) : BitVec 32 :=
  let d := s.cfgD (rpBase k j + reg)
  match reg with
  | 0x5C => (d &&& ~~~(0x3F0 : BitVec 32)) ||| BitVec.ofNat 32 (16 * bifWidth (s.fd .HBU_CTL HBU_CTL.BIF k) j)
  | 0x60 => s.linkDword k j d
  | _ => d

/-- The low and the high half of a base address with its type bits. -/
def barLow (b t : Nat) : BitVec 32 := BitVec.ofNat 32 (b % 2 ^ 32 + t)
def barHigh (b : Nat) : BitVec 32 := BitVec.ofNat 32 (b / 2 ^ 32)

/-- BAR size code of a Resizable BAR control: 2^(n + 20) bytes. -/
def sizeCode (sz : Nat) : Nat := Nat.log2 sz - 20

/-- A dword of the PF (R341, R350). -/
def State.pfDword (s : State) (reg : Nat) : BitVec 32 :=
  let e := s.epf 0
  match reg with
  | 0x00 => 0x92161F6B
  | 0x04 => BitVec.ofNat 32 (0x100000 + 2 * b2n e.mse + 4 * b2n e.bme)
  | 0x08 => BitVec.ofNat 32 (0x12000000 + (s.rg .IDN_DIE_REV).toNat % 256)
  | 0x10 => barLow e.bar0 4
  | 0x14 => barHigh e.bar0
  | 0x18 => barLow e.bar2 12
  | 0x1C => barHigh e.bar2
  | 0x20 => 0
  | 0x24 => 0
  | 0x2C => s.hb.ssid
  | 0x34 => 0x40
  | 0x44 => BitVec.ofNat 32 (8 + 3 * b2n e.d3hot)
  | 0x60 => s.linkDword 0 0 (s.epCfg 0 0x60)
  | 0x158 => BitVec.ofNat 32 (b2n s.hb.vfEn + 8 * b2n s.hb.vfMse)
  | 0x15C => 0x00F000F0
  | 0x160 => BitVec.ofNat 32 s.hb.numVfs
  | 0x164 => 0x00010010
  | 0x168 => 0x92180000
  | 0x16C => 1
  | 0x174 => barLow s.hb.vfBar0 4
  | 0x178 => barHigh s.hb.vfBar0
  | 0x17C => barLow s.hb.vfBar2 12
  | 0x180 => barHigh s.hb.vfBar2
  | 0x194 => BitVec.ofNat 32 (0x20 + 2 ^ 31 * b2n e.atsEn)
  | 0x1A4 => (s.epCfg 0 0x1A4 &&& ~~~(0x10000 : BitVec 32)) ||| BitVec.ofNat 32 (2 ^ 16 * b2n s.hb.pasidEn)
  | 0x1B8 => BitVec.ofNat 32 (0x22 + 256 * sizeCode e.bar2size)
  | 0x1C8 => BitVec.ofNat 32 (0x22 + 256 * sizeCode s.hb.vfBar2size)
  | _ => s.epCfg 0 reg

/-- A dword of a VF (R341): its header holds no ID and no BAR of its own. -/
def State.vfDword (s : State) (f reg : Nat) : BitVec 32 :=
  let e := s.epf f
  match reg with
  | 0x00 => 0xFFFFFFFF
  | 0x04 => BitVec.ofNat 32 (0x100000 + 4 * b2n e.bme)
  | 0x10 => 0
  | 0x14 => 0
  | 0x18 => 0
  | 0x1C => 0
  | 0x20 => 0
  | 0x24 => 0
  | 0x194 => BitVec.ofNat 32 (0x20 + 2 ^ 31 * b2n e.atsEn)
  | _ => s.epCfg f reg

/-- A dword of the recovery function (R340). -/
def State.recDword (s : State) (reg : Nat) : BitVec 32 :=
  let e := s.epf 0
  match reg with
  | 0x00 => 0x92FF1F6B
  | 0x04 => BitVec.ofNat 32 (0x100000 + 2 * b2n e.mse)
  | 0x08 => BitVec.ofNat 32 (0x08800000 + (Config.cfgWord 8).toNat % 256)
  | 0x10 => barLow (e.bar0 / 0x400000 * 0x400000) 4
  | 0x14 => barHigh e.bar0
  | 0x18 => 0
  | 0x1C => 0
  | 0x20 => 0
  | 0x24 => 0
  | 0x34 => 0x40
  | _ => s.epCfg 0 reg

/-- A function of the endpoint exists (R339, R341). -/
def State.epExists (s : State) (f : Nat) : Bool := f == 0 || (s.hb.vfEn && decide (16 ≤ f) && decide (f < 16 + s.hb.numVfs))

/-- A dword of the endpoint (R339-R341); a function that does not exist reads all ones. -/
def State.epDword (s : State) (f reg : Nat) : BitVec 32 :=
  if s.fb .BOOT_STATUS BOOT_STATUS.RECOVERY then (if f = 0 then s.recDword reg else 0xFFFFFFFF)
  else if !s.epExists f then 0xFFFFFFFF
  else if f = 0 then s.pfDword reg
  else s.vfDword f reg

/-- A base with its low or its high half replaced, aligned to the BAR's size. -/
def setHalf (b sz : Nat) (hi : Bool) (v : BitVec 32) : Nat :=
  if hi then barAlign (b % 2 ^ 32 + v.toNat * 2 ^ 32) sz else barAlign (b / 2 ^ 32 * 2 ^ 32 + v.toNat / 16 * 16) sz

/-- Memory Space Enable and Bus Master Enable of a function are written. -/
def State.epCommand (s : State) (f : Nat) (v : BitVec 32) : State :=
  let s1 := s.setEpf f { s.epf f with mse := v.getLsbD 1 }
  let on := (s.epf f).bme
  if v.getLsbD 2 && !on then s1.busMasterOn f else if !v.getLsbD 2 && on then s1.busMasterOff f else s1

/-- A dword that the standard governs and the chapter does not takes a free value. -/
def State.epFree (s : State) (f reg : Nat) : State :=
  let (w, s1) := s.drawWord
  s1.setCfgD (0x1000 * f + reg) ((fixedAt (s.epFixed f) reg).on (BitVec.setWidth 32 w))

/-- An AER status dword is written: ones clear. -/
def State.aerClear (s : State) (f reg : Nat) (v : BitVec 32) : State := s.setCfgD (0x1000 * f + reg) (s.epCfg f reg &&& ~~~v)

/-- ATS Enable of a function is written (R342): while it is clear nothing of the function stays cached. -/
def State.atsEnable (s : State) (f : Nat) (on : Bool) : State :=
  let s1 := s.setEpf f { s.epf f with atsEn := on }
  if on then s1 else { s1 with hb := { s1.hb with atc := s1.hb.atc.keep (fun k => k / 2 ^ 52 != f) } }

/-- The host writes a dword of the PF. -/
def State.pfWrite (s : State) (reg : Nat) (v : BitVec 32) : State :=
  let e := s.epf 0
  match reg with
  | 0x00 => s
  | 0x04 => s.epCommand 0 v
  | 0x08 => s
  | 0x0C => s
  | 0x10 => s.setEpf 0 { e with bar0 := setHalf e.bar0 0x2000000 false v }
  | 0x14 => s.setEpf 0 { e with bar0 := setHalf e.bar0 0x2000000 true v }
  | 0x18 => s.setEpf 0 { e with bar2 := setHalf e.bar2 e.bar2size false v }
  | 0x1C => s.setEpf 0 { e with bar2 := setHalf e.bar2 e.bar2size true v }
  | 0x20 => s
  | 0x24 => s
  | 0x2C => s
  | 0x34 => s
  | 0x44 => if v.toNat % 4 = 3 then s.d3Enter 0 else if v.toNat % 4 = 0 then s.d3Leave 0 else s
  | 0x58 => if v.getLsbD 15 then s.pfResetOp else s.epFree 0 0x58
  | 0x104 => s.aerClear 0 reg v
  | 0x110 => s.aerClear 0 reg v
  | 0x158 => { s with hb := { s.hb with vfEn := v.getLsbD 0, vfMse := v.getLsbD 3 } }
  | 0x15C => s
  | 0x160 => if s.hb.vfEn then s else { s with hb := { s.hb with numVfs := min 240 (v.toNat % 2 ^ 16) } }
  | 0x164 => s
  | 0x168 => s
  | 0x174 => { s with hb := { s.hb with vfBar0 := setHalf s.hb.vfBar0 0x10000 false v } }
  | 0x178 => { s with hb := { s.hb with vfBar0 := setHalf s.hb.vfBar0 0x10000 true v } }
  | 0x17C => { s with hb := { s.hb with vfBar2 := setHalf s.hb.vfBar2 s.hb.vfBar2size false v } }
  | 0x180 => { s with hb := { s.hb with vfBar2 := setHalf s.hb.vfBar2 s.hb.vfBar2size true v } }
  | 0x194 => s.atsEnable 0 (v.getLsbD 31)
  | 0x1A4 =>
    let s1 := s.epFree 0 0x1A4
    { s1 with hb := { s1.hb with pasidEn := v.getLsbD 16 } }
  | 0x1B8 => s.resizeBar false (v.toNat / 256 % 64)
  | 0x1C8 => s.resizeBar true (v.toNat / 256 % 64)
  | _ => s.epFree 0 reg

/-- The host writes a dword of a VF. -/
def State.vfWrite (s : State) (f reg : Nat) (v : BitVec 32) : State :=
  match reg with
  | 0x00 => s
  | 0x04 => s.epCommand f v
  | 0x0C => s
  | 0x10 => s
  | 0x14 => s
  | 0x18 => s
  | 0x1C => s
  | 0x20 => s
  | 0x24 => s
  | 0x58 => if v.getLsbD 15 then s.flrVf (f - 16) else s.epFree f 0x58
  | 0x104 => s.aerClear f reg v
  | 0x110 => s.aerClear f reg v
  | 0x194 => s.atsEnable f (v.getLsbD 31)
  | _ => s.epFree f reg

/-- The host writes a dword of the recovery function: it ignores Bus Master Enable (R340). -/
def State.recCfgWrite (s : State) (reg : Nat) (v : BitVec 32) : State :=
  let e := s.epf 0
  match reg with
  | 0x04 => s.setEpf 0 { e with mse := v.getLsbD 1 }
  | 0x10 => s.setEpf 0 { e with bar0 := setHalf e.bar0 0x400000 false v }
  | 0x14 => s.setEpf 0 { e with bar0 := setHalf e.bar0 0x400000 true v }
  | _ => s

/-- The host writes a dword of the endpoint. -/
def State.epWrite (s : State) (f reg : Nat) (v : BitVec 32) : State :=
  if s.fb .BOOT_STATUS BOOT_STATUS.RECOVERY then (if f = 0 then s.recCfgWrite reg v else s)
  else if !s.epExists f then s
  else if f = 0 then s.pfWrite reg v
  else s.vfWrite f reg v

/-! Accesses of the package (R336-R339). -/

/-- Where a configuration request goes. -/
inductive CfgTo where
  /-- A dword of a root port. -/
  | rp (k j reg : Nat)
  /-- The view of the package's own endpoint. -/
  | ep (f reg : Nat)
  /-- A device behind a root port. -/
  | dev (k j : Nat)
  /-- Behind a root port whose link is down. -/
  | down
  /-- No function. -/
  | nothing
deriving DecidableEq, Repr

/-- Where an access at an offset of the register space goes (R336, R339). -/
def State.cfgTo (s : State) (off : Nat) : CfgTo :=
  let o := off - 0x80000000
  let k := o / 0x10000000 % 8
  let bus := o / 0x100000 % 256
  let dev := o / 0x8000 % 32
  let fn := o / 0x1000 % 8
  let reg := o % 0x1000 / 4 * 4
  if s.attachedHb k then (if bus = 0 then .ep (8 * dev + fn) reg else .nothing)
  else if bus = 0 then (if dev < 4 ∧ fn = 0 ∧ s.rpExists k dev then .rp k dev reg else .nothing)
  else
    match s.fwdPort k bus with
    | none => .nothing
    | some j =>
      let typ0 := s.rpD k j 0x18 / 256 % 256 == bus
      if typ0 && dev != 0 && !(s.rpD k j 0x78).testBit 5 then .nothing
      else if s.hbLink k j then .dev k j
      else .down

/-- What a configuration access does inside the package. -/
inductive CfgRes where
  | done (st : Status) (v : Word)
  | dev (k j : Nat)
deriving DecidableEq, Repr

/-- A read of one dword that needs no device. -/
def State.cfgDword (s : State) (off : Nat) : BitVec 32 :=
  match s.cfgTo off with
  | .rp k j reg => s.rpDword k j reg
  | .ep f reg => s.epDword f reg
  | _ => 0xFFFFFFFF

/-- A write of one dword that needs no device (R337, R339). -/
def State.cfgWriteDword (s : State) (off : Nat) (v : BitVec 32) : State :=
  match s.cfgTo off with
  | .rp k j reg => s.rpWrite k j reg v
  | .ep _ _ => s.setFd .HBU_STATUS HBU_STATUS.WERR 1 0
  | _ => s

/-- A configuration access of the package (00 R6, R336-R339): 64 bits are two requests, the low dword first. -/
def State.cfgAccess (s : State) (i : Init) (off width : Nat) (write : Bool) (data : Word) : CfgRes × State :=
  if !regAccessOk off width then (.done .decerr 0, s)
  else if i.slice ≠ 0xFF then (.done .decerr 0, s.spoof i.slice 4 i.node (0x800000000000 + off))
  else
    match s.cfgTo off with
    | .dev k j => (.dev k j, s)
    | .down => (.done .decerr 0, s)
    | _ =>
      if write then
        let s1 := s.cfgWriteDword off (BitVec.setWidth 32 data)
        (.done .ok 0, if width = 64 then s1.cfgWriteDword (off + 4) (BitVec.setWidth 32 (data >>> 32)) else s1)
      else
        let lo : Word := zext (s.cfgDword off)
        (.done .ok (if width = 64 then lo ||| (zext (s.cfgDword (off + 4)) <<< 32) else lo), s)

/-- One configuration request goes out on a link, for one dword (R337); with `wait` it is outstanding until its completion. -/
def State.cfgSend (s : State) (i : Init) (k j off tag : Nat) (write : Bool) (data : Word) (wait : Bool) : State :=
  let d : LineData := BitVec.setWidth 1024 (BitVec.setWidth 32 data)
  let q : HbReq := ⟨k, j, i.node, tag, 0x800000000000 + off, 4, !write, false, d, 0, s.linkTag k j, i.gen,
    s.limitFor (0x800000000000 + off), none, false, 0⟩
  let s1 := s.hbTlp q
  if wait then { s1 with hb := { s1.hb with out := s1.hb.out ++ [q] } } else s1

/-- The controller whose configuration segment an offset lies in (R336). -/
def cfgCtl (off : Nat) : Nat := (off - 0x80000000) / 0x10000000 % 8

/-- The requests of a configuration access: one for each dword, the low one first. -/
def State.cfgSends (s : State) (i : Init) (k j off width tag : Nat) (write : Bool) (data : Word) (wait : Bool) : State :=
  let lo := s.cfgSend i k j off tag write data wait
  if width = 64 then lo.cfgSend i k j (off + 4) tag write (data >>> 32) wait else lo

/-- What the device's answer means to the initiator (R337, R338). -/
def State.cfgAnswer (s : State) (k j off width : Nat) (write : Bool) (a : CfgAnswer) : Status × Word :=
  match a with
  | .value v => (.ok, if write then 0 else if width = 64 then v else v &&& 0xFFFFFFFF)
  | .ur => (.ok, if width = 64 then BitVec.allOnes 64 else 0xFFFFFFFF)
  | .rrs =>
    if (s.rpD k j 0x6C).testBit 4 && !write && off % 0x1000 == 0 && width == 32 then (.ok, 0xFFFF0001) else (.tout, 0)
  | .none => (.tout, 0)

/-- The external host configures the endpoint (R339): its request reaches a function that is not in reset, over an active
link; a completion goes back on the link, one with Request Retry Status while the function's reset runs (R358). -/
def State.hostConfig (s : State) (i : Init) (off width : Nat) (write : Bool) (data : Word) : State :=
  let f := off / 0x1000 % 256
  let reg := off % 0x1000 / 4 * 4
  let done := fun (s : State) (st : Nat) (v : Word) =>
    s.hbCompletion 0 0 i.tag (0x800000000000 + off) (width / 8) st (BitVec.setWidth 1024 v) false
  if !s.hbLink 0 0 then s
  else if (s.epf f).resetting then done s 2 0
  else if write then
    let s1 := s.epWrite f reg (BitVec.setWidth 32 data)
    done (if width = 64 then s1.epWrite f (reg + 4) (BitVec.setWidth 32 (data >>> 32)) else s1) 0 0
  else
    let lo : Word := zext (s.epDword f reg)
    done s 0 (if width = 64 then lo ||| (zext (s.epDword f (reg + 4)) <<< 32) else lo)

/-- CONFIG_ACCESS (R336-R339). An initiator at HB0's own node is the external host. `ans` is what the addressed device
answers. -/
def execConfigAccess (i : Init) (off width : Nat) (write : Bool) (data : Word) (ans : CfgAnswer) (s : State) : Out :=
  if !s.alive || decide (off < 0x80000000) || decide (0x100000000 ≤ off) then .next s
  else if i.node = hbNode 0 then
    (if s.boot.attached || s.fb .BOOT_STATUS BOOT_STATUS.RECOVERY then .next (s.hostConfig i off width write data) else .next s)
  else
    let node := hbNode (cfgCtl off)
    match (s.regRequest i node off write data).cfgAccess i off width write data with
    | (.done st v, s1) => .next (s1.regReply i node off st v)
    | (.dev k j, s1) =>
      let s2 := s1.cfgSends i k j off width 0 write data false
      let (st, v) := s.cfgAnswer k j off width write ans
      .next ((if st = .tout then (s2.hbErr k 2 j 0 (0x800000000000 + off)).aerSet (rpBase k j + 0x104) 0x4000 else s2).regReply i node off st v)

/-- SLOT_PROXY_ACCESS (14 R377): through the window of slice `sl`. -/
def execSlotProxyAccess (i : Init) (sl : Fin 240) (n : SlotNo) (off width : Nat) (write : Bool) (data : Word) (s : State) :
    Out :=
  if !s.alive || decide (0x80 ≤ off) then .next s
  else .next (s.regTravel i (vfBase sl.val + 0x1000 + 0x80 * n.val + off) width write data)

end Sys2Proof.Machine
end

