-- ==== Sys2Proof/Machine/Inbound.lean ====
section
/-! DEFINITION. Inbound requests of the host-bus unit (13 R347-R357) and ATS translation requests (08 R235). -/
namespace Sys2Proof.Machine

/-- A completion for an inbound request: its status (0 successful, 1 Unsupported Request, 4 Completer Abort), data and EP. -/
def State.hbComplete (s : State) (t : Tlp) (st : Nat) (data : LineData) (ep : Bool) : State :=
  s.hbCompletion t.ctl.val t.port.val t.rid.toNat t.addr t.len st data ep

/-- What the unit answers while a domain stop is in force (20 R509): Completer Abort; posted requests are discarded. -/
def State.inboundStopped (s : State) (t : Tlp) : State :=
  if t.kind = 1 || !s.boot.pwrok || s.pwr.tripped || !s.hbLink t.ctl.val t.port.val then s else s.hbComplete t 4 0 false

/-- A request from the upstream link of the endpoint (R334, R340). -/
def State.upstream (s : State) (t : Tlp) : Bool :=
  t.ctl.val == 0 && t.port.val == 0 && (s.boot.attached || s.fb .BOOT_STATUS BOOT_STATUS.RECOVERY)

/-- The AER registers of the port or the PF that a request reached. -/
def State.aerBase (s : State) (t : Tlp) : Nat := if s.upstream t then 0x100 else rpBase t.ctl.val t.port.val + 0x100

/-- A request ends unperformed (R347, R349, R357): a posted one is discarded and logged through AER (Unsupported Request Error
Status), every other one gets UR, which URSENT counts. -/
def State.inboundDrop (s : State) (t : Tlp) : State :=
  if t.kind = 1 then s.aerSet (s.aerBase t + 4) 0x100000
  else (s.satFd .HBU_CNT HBU_CNT.URSENT t.ctl.val).hbComplete t 1 0 false

/-- A request that hits nothing, or that its port or function does not take: UR is an event of kind 4. -/
def State.inboundRefuse (s : State) (t : Tlp) : State :=
  (if t.kind = 1 then s else s.hbErr t.ctl.val 4 t.port.val 0 t.addr).inboundDrop t

/-- A request that a clear Bus Master Enable of its root port turns away (R357): a posted one is an event of kind 6. -/
def State.inboundOff (s : State) (t : Tlp) : State :=
  if t.kind = 1 then (s.hbErr t.ctl.val 6 t.port.val 0 t.addr).inboundDrop t else s.inboundRefuse t

/-- A translation fault of an inbound request (08 R235): the event of kind 7 carries the fault code. -/
def State.inboundFault (s : State) (t : Tlp) (code : Nat) : State :=
  (s.hbErr t.ctl.val 7 t.port.val (code % 1024) t.addr).inboundDrop t

/-- The words of an I/O context (08 R234), at an address that folds (01 R27): none while its home is busy, a fault where the read
fails. -/
def State.ctxRead (s : State) (node a : Nat) (sec : Bool) : Tr (Word × Word × Word × Word) × State :=
  let (r, s1) := s.readLine node (s.fold a / 128) sec
  if r.status = .retry then (.busy, s1)
  else if r.status ≠ .ok ∨ touched r.poison (a % 128) 32 then (.fault ⟨xcode fkWALKBUS 0 false false, none, none⟩, s1)
  else
    let k := a % 128 / 8
    (.ok (lineWord r.data k, lineWord r.data (k + 1), lineWord r.data (k + 2), lineWord r.data (k + 3)), s1)

/-- The requester's context at a controller: HBU_CTXBASE + 32 × RID (R347, R348). -/
def State.hbCtx (s : State) (k rid : Nat) : Nat := s.fd .HBU_CTXBASE HBU_CTXBASE.ADDR k * 0x200000 + 32 * rid

/-- Translate an address of an inbound request through the context of `f` (R347 step 2, R348): a requester of a root port's link, or a
function of the endpoint. -/
def State.inboundXl (s : State) (t : Tlp) (f : Nat) (nd : Need) (a : Nat) : Tr Xlated × State :=
  let k := t.ctl.val
  if !s.fb .HBU_CTXBASE HBU_CTXBASE.EN k then (.ok ⟨a % 2 ^ 56, rangeType a, false⟩, s)
  else
    match s.ctxRead (hbNode k) (s.hbCtx k f) false with
    | (.busy, s1) => (.busy, s1)
    | (.fault f, s1) => (.fault f, s1)
    | (.ok (w0, w1, w2, _), s1) =>
      let w := match t.pasid with
        | some p => if s.upstream t then w0 else setF w0 ⟨16, 16⟩ p
        | none => w0
      s1.ioTranslate w w1 w2 (hbNode k) nd a

/-- The pieces of a request that lie in one line each: offset in the data, bytes. -/
def tlpPieces (a len : Nat) : List (Nat × Nat) :=
  (List.range ((a % 128 + len + 127) / 128)).map (fun k =>
    let off := if k = 0 then 0 else 128 * k - a % 128
    (off, min (len - off) (128 - (a + off) % 128)))

/-- What a piece did: data read, whether a word was poisoned, or why the request is not performed. -/
inductive InRes where
  | done (d : LineData) (ep : Bool)
  | refuse
  | busy

/-- What the pieces of a request did: the completions of a read in address order (offset, bytes, data, EP), or why it is not
performed. -/
inductive InAll where
  | done (l : List (Nat × Nat × LineData × Bool))
  | refuse
  | busy

/-- The part of a request's data at an offset. -/
def tlpPart (t : Tlp) (off : Nat) : LineData := BitVec.setWidth 1024 (BitVec.ushiftRight t.data (8 * off))

/-- A piece of a peer-to-peer access goes to the port that claims it (R347 step 3): reads and atomics wait for its completion. -/
def State.inboundPeer (s : State) (t : Tlp) (pa : Nat) (p : Nat × Nat) : InRes × State :=
  let node := hbNode t.ctl.val
  let tag := peerTag s.hb.nextTag t.port.val
  if s.boot.attached && decide (0x600000000000 ≤ pa) then (.refuse, s)
  else if s.hbGated (pa + p.1) then (.busy, s)
  else
    match s.hbOut ⟨node, false, 0xFF, s.genOf node, tag⟩ ⟨pa + p.1, p.2, t.kind != 0, tlpPart t p.1, t.kind == 1, tag, none⟩ with
    | (some .ok, s1) => (.done 0 false, s1)
    | (some _, s1) => (.refuse, s1)
    | (none, s1) =>
      (.done 0 false, { s1 with hb := { s1.hb with out := s1.hb.out.map (fun q =>
        if q.node = node ∧ q.tag = tag then { q with func := t.rid.toNat } else q) } })

/-- One piece in memory (R347, R348, R354): read as RDC, written as WRF or WRP with marks for EP, atomic as ATOMF. -/
def State.inboundMem (s : State) (t : Tlp) (pa : Nat) (sec : Bool) (p : Nat × Nat) : InRes × State :=
  let node := hbNode t.ctl.val
  let o := (pa + p.1) % 128
  let n := p.2
  let base := { CohReq.bare node ((pa + p.1) / 128) sec with gen := s.genOf node, tag := t.port.val }
  let (r, s1) :=
    if t.kind = 0 then s.homeDo opRDC base
    else if t.kind = 1 then
      let mask := byteMask o n
      let ep : BitVec 16 := if t.ep then
        (List.range 16).foldl (fun (p : BitVec 16) k => if wordMask mask k = 0 then p else p ||| (1 <<< k)) 0 else 0
      s.homeDo (if mask = fullMask then opWRF else opWRP)
        { base with mask := mask, data := BitVec.shiftLeft (tlpPart t p.1) (8 * o), poison := ep }
    else
      s.homeDo opATOMF { base with aop := t.aop, aoff := o, operand := BitVec.setWidth 64 t.data,
                                   compare := BitVec.setWidth 64 (BitVec.ushiftRight t.data 64) }
  if r.status = .retry then (.busy, s1)
  else if r.status ≠ .ok then (.refuse, s1)
  else if t.kind = 0 then
    (.done (BitVec.setWidth 1024 (BitVec.setWidth (8 * n) (BitVec.ushiftRight r.data (8 * o)))) (touched r.poison o n), s1)
  else if t.kind = 1 then (.done 0 false, s1)
  else (.done (BitVec.setWidth 1024 r.old) r.psn, s1)

/-- The pieces in ascending order, each by `f`. -/
def State.inboundPieces (f : State → Nat × Nat → InRes × State) : List (Nat × Nat) → State → InAll × State
  | [], s => (.done [], s)
  | p :: r, s =>
    match f s p with
    | (.refuse, s1) => (.refuse, s1)
    | (.busy, s1) => (.busy, s1)
    | (.done d ep, s1) =>
      match State.inboundPieces f r s1 with
      | (.done l, s2) => (.done ((p.1, p.2, d, ep) :: l), s2)
      | x => x

/-- A completion of a read that carries data (R354): with EP it is an event, recorded in the hub error bank. -/
def State.inboundData (s : State) (t : Tlp) (c : Nat × Nat × LineData × Bool) : State :=
  let k := t.ctl.val
  let s1 := if c.2.2.2 then
      (s.hbErr k 5 t.port.val 0 t.addr).recordErr ⟨0x32 + k, 22, hbNode k, none, none, false⟩
    else s
  s1.hbCompletion k t.port.val t.rid.toNat (t.addr + c.1) c.2.1 0 c.2.2.1 c.2.2.2

/-- A memory request of a link or of a BAR2, at the address `a` that it translates (R347, R348, R354): a read is answered by one
completion for each line; while a home is busy the request comes again. -/
def State.inboundMemory (s : State) (t : Tlp) (f a : Nat) : State :=
  match s.inboundXl t f (ioNeed (t.kind != 1) (t.kind != 0)) a with
  | (.busy, s1) => s1
  | (.fault c, s1) => s1.inboundFault t c.code
  | (.ok x, s1) =>
    let pa := s1.fold x.pa
    let finish : InAll × State → State := fun r =>
      match r with
      | (.busy, s2) => s2
      | (.refuse, s2) => s2.inboundRefuse t
      | (.done l, s2) => if t.kind = 1 then s2 else l.foldl (fun s c => s.inboundData t c) s2
    match region pa with
    | .dram => finish (State.inboundPieces (fun s p => s.inboundMem t pa x.sec p) (tlpPieces pa t.len) s1)
    | .hostBus =>
      if s.upstream t then s1.inboundRefuse t
      else
        match State.inboundPieces (fun s p => s.inboundPeer t pa p) (tlpPieces pa t.len) s1 with
        | (.done _, s2) => s2
        | (_, s2) => s2.inboundRefuse t
    | _ => s1.inboundRefuse t

/-! BAR0 of the endpoint's functions (14 R369, R375, R379; 13 R341; 19 R494). -/

/-- A word of the PBA of a function. -/
def State.pbaWord (s : State) (f w : Nat) : Word :=
  (s.epf f).pba.foldl (fun (a : Word) n => if n / 64 = w then a ||| (1 <<< (n % 64)) else a) 0

/-- Where a BAR0 offset leads: a register of the package, a word of the MSI-X table, a word of the PBA, the recovery
layout, or nothing. -/
inductive Bar0 where
  | reg (off : Nat)
  | table (w : Nat)
  | pba (w : Nat)
  | recovery (o : Nat)
  | nothing
deriving DecidableEq, Repr

/-- The layout of BAR0 (R341, 14 R369, R375, R379). -/
def State.bar0 (s : State) (f o : Nat) : Bar0 :=
  if s.fb .BOOT_STATUS BOOT_STATUS.RECOVERY then .recovery o
  else if f = 0 then
    if (0x20 ≤ o ∧ o < 0x50) ∨ (0x1000 ≤ o ∧ o < 0x10000) then .reg (0x1600000 + o)
    else if 0x1000000 ≤ o ∧ o < 0x1008000 then .table ((o - 0x1000000) / 8)
    else if 0x1010000 ≤ o ∧ o < 0x1010100 then .pba ((o - 0x1010000) / 8)
    else .nothing
  else
    let v := (s.slice (f - 16)).vec
    if o < 0x2000 then .reg (vfBase (f - 16) + o)
    else if 0x8000 ≤ o ∧ o < 0x8000 + 16 * v then .table ((o - 0x8000) / 8)
    else if 0xC000 ≤ o ∧ o < 0xC000 + 8 * ((v + 63) / 64) then .pba ((o - 0xC000) / 8)
    else .nothing

/-- The initiator of the host's accesses to registers. -/
def State.barInit (s : State) : Init := ⟨hbNode 0, false, 0xFF, s.genOf (hbNode 0), 0⟩

/-- A host read of BAR0: 4 or 8 bytes, aligned. -/
def State.bar0Read (s : State) (f o width : Nat) : RegRes × State :=
  let part := fun (w : Word) => if width = 64 then w else (w >>> (8 * (o % 8))) &&& 0xFFFFFFFF
  match s.bar0 f o with
  | .reg off => s.regAccess s.barInit off width false 0
  | .table w => (.done .ok (part (s.hb.msixTab.getD (f * 4096 + w) 0)), s)
  | .pba w => (.done .ok (part (s.pbaWord f w)), s)
  | .recovery o => (.done .ok (part (s.recRead (o / 8 * 8))), s)
  | .nothing => (.done .ok 0, s)

/-- A host write of BAR0. -/
def State.bar0Write (s : State) (f o width : Nat) (data : Word) : RegRes × State :=
  match s.bar0 f o with
  | .reg off => s.regAccess s.barInit off width true data
  | .table w =>
    let key := f * 4096 + w
    let m : Word := if width = 64 then BitVec.allOnes 64 else 0xFFFFFFFF <<< (8 * (o % 8))
    let v := (s.hb.msixTab.getD key 0 &&& ~~~m) ||| ((data <<< (if width = 64 then 0 else 8 * (o % 8))) &&& m)
    (.done .ok 0, ({ s with hb := { s.hb with msixTab := s.hb.msixTab.set key v } }).msixFlush f)
  | .recovery o => (.done .ok 0, s.recWrite o width data)
  | _ => (.done .ok 0, s)

/-- A request to BAR0 of function `f` at offset `o` (R348): an atomic, or another width or alignment than a register takes, gets UR;
one for which there is no room comes again. -/
def State.inboundBar0 (s : State) (t : Tlp) (f o : Nat) : State :=
  let w := 8 * t.len
  if t.kind = 2 || !regAccessOk o w then s.inboundRefuse t
  else
    match if t.kind = 0 then s.bar0Read f o w else s.bar0Write f o w (BitVec.setWidth 64 t.data) with
    | (.done .ok v, s1) => if t.kind = 0 then s1.hbComplete t 0 (BitVec.setWidth 1024 v) false else s1
    | (.done _ _, s1) => s1.inboundRefuse t
    | (.stall, s1) => s1
    | (.held, s1) => s1

/-- The interrupt window of a controller (R347 step 1). -/
def State.msiHit (s : State) (k a : Nat) : Bool :=
  s.fb .HBU_MSIADDR HBU_MSIADDR.EN k && a / 2 ^ 16 == s.fd .HBU_MSIADDR HBU_MSIADDR.ADDR k

/-- A request that reached a root port from its link (R347, R357). -/
def State.inboundRp (s : State) (t : Tlp) : State :=
  let k := t.ctl.val
  if !s.rpBme k t.port.val then s.inboundOff t
  else if s.msiHit k t.addr then
    if t.kind = 1 ∧ t.len = 4 then s.irtMsi (t.data.toNat % 2 ^ 32) else s.inboundRefuse t
  else if (match t.pasid with | some p => decide (0xFFFF < p) | none => false) then s.inboundRefuse t
  else s.inboundMemory t t.rid.toNat t.addr

/-- A BAR of the endpoint that a bus address hits: the function, BAR0 or BAR2, the offset in it. -/
structure BarHit where
  func : Nat
  bar2 : Bool
  off : Nat
deriving DecidableEq, Repr

/-- The BAR of `n` functions from `f` that lie one after another from a base (SR-IOV), each of `size` bytes. -/
def barOf (base size n f a : Nat) (bar2 : Bool) : Option BarHit :=
  if base ≤ a ∧ a < base + size * n then some ⟨f + (a - base) / size, bar2, (a - base) % size⟩ else none

/-- The BAR that a request of the external host hits (R340, R341, R348-R350), with the sizes and enables of its arrival. -/
def State.barHit (s : State) (a : Nat) : Option BarHit :=
  let e := s.epf 0
  if s.fb .BOOT_STATUS BOOT_STATUS.RECOVERY then
    if e.mse then barOf (e.bar0 / 0x400000 * 0x400000) 0x400000 1 0 a false else none
  else
    let pf := if e.mse then barOf e.bar0 0x2000000 1 0 a false <|> barOf e.bar2 e.bar2size 1 0 a true else none
    let vf := if s.hb.vfEn && s.hb.vfMse then
        barOf s.hb.vfBar0 0x10000 s.hb.numVfs 16 a false <|> barOf s.hb.vfBar2 s.hb.vfBar2size s.hb.numVfs 16 a true
      else none
    pf <|> vf

/-- A request of the external host (R348, R349): a function in D3hot or in reset takes none (R358, R360). -/
def State.inboundUp (s : State) (t : Tlp) : State :=
  match s.barHit t.addr with
  | none => s.inboundRefuse t
  | some h =>
    if (s.epf h.func).d3hot || (s.epf h.func).resetting then s.inboundRefuse t
    else if h.bar2 then s.inboundMemory t h.func h.off
    else s.inboundBar0 t h.func h.off

/-- INBOUND_REQUEST (R347-R357): a request whose home is busy, or whose register queue is full, comes again; so does a read or an
atomic that arrives behind a peer-to-peer request of its link which is not performed yet (R352). -/
def execInboundRequest (t : Tlp) (s : State) : Out :=
  let k := t.ctl.val
  let j := t.port.val
  if s.err.halted then .next (s.inboundStopped t)
  else if !s.alive || s.gateClosed (244 + k) || !s.hbLink k j || (t.kind != 1 && s.peerWaits k j) then .next s
  else if s.upstream t then .next (s.inboundUp t)
  else if s.rpExists k j then .next (s.inboundRp t)
  else .next s

/-- A fault of an ATS translation request (08 R235): a completion with both permissions clear. -/
def State.atsDeny (s : State) (t : Tlp) (code : Nat) : State :=
  (s.hbErr t.ctl.val 7 t.port.val (code % 1024) t.addr).hbComplete t 0 0 false

/-- ATS_TRANSLATION_REQUEST (08 R235, 13 R347): answered from the walk of the requester's context; the completion holds the
translated page with its read and write permission; a fault, that of an invalid or unreadable context too, clears both. `kind` 0 asks
for reads only. -/
def execAtsTranslationRequest (t : Tlp) (s : State) : Out :=
  let k := t.ctl.val
  let j := t.port.val
  if s.err.halted then .next (s.inboundStopped { t with kind := 0 })
  else if !s.alive || s.gateClosed (244 + k) || !s.rpExists k j || !s.hbLink k j || s.peerWaits k j then .next s
  else if !s.rpBme k j || !s.fb .HBU_CTXBASE HBU_CTXBASE.EN k then .next (s.inboundRefuse t)
  else
    match s.ctxRead (hbNode k) (s.hbCtx k t.rid.toNat) false with
    | (.busy, s1) => .next s1
    | (.fault f, s1) => .next (s1.atsDeny t f.code)
    | (.ok (w0, w1, w2, _), s1) =>
      if !bitAt w0 0 then .next (s1.atsDeny t (xcode fkINVALID 0 false false))
      else if !bitAt w0 5 then .next (s1.inboundRefuse t)
      else
        let w := match t.pasid with | some p => setF w0 ⟨16, 16⟩ p | none => w0
        match s1.ioTranslate w w1 w2 (hbNode k) (ioNeed true false) t.addr with
        | (.busy, s2) => .next s2
        | (.fault f, s2) => .next (s2.atsDeny t f.code)
        | (.ok x, s2) =>
          let page := x.pa / 4096 * 4096
          if t.kind = 0 then .next (s2.hbComplete t 0 (BitVec.ofNat 1024 (page + 1)) false)
          else
            match s2.ioTranslate w w1 w2 (hbNode k) (ioNeed true true) t.addr with
            | (.busy, s3) => .next s3
            | (.fault _, s3) => .next (s3.hbComplete t 0 (BitVec.ofNat 1024 (page + 1)) false)
            | (.ok _, s3) => .next (s3.hbComplete t 0 (BitVec.ofNat 1024 (page + 3)) false)

end Sys2Proof.Machine
end

