-- ==== Sys2Proof/Machine/DmaCopy.lean ====
section
/-! DEFINITION. What a DMA channel does with a descriptor (12 R317-R330): fetch, reads, writes, write-back, bursts; the timers of
initiators (09 R249). -/
namespace Sys2Proof.Machine

/-! Accesses of a channel (R320, R323). -/

/-- How an access of a channel ends. -/
inductive DRes where
  /-- The bytes read, and whether a word was poisoned or uncorrectable. -/
  | ok (b : List Byte) (bad : Bool)
  | status (st : Status)
  | fault (code : Nat)
  /-- It has not come to an end: a busy home, no room. -/
  | busy
  /-- The hub holds the write (02 R51, R53): its completion comes later. -/
  | held

/-- `n` bytes of a line from an offset. -/
def lineList (d : LineData) (off n : Nat) : List Byte :=
  (List.range n).map (fun i => BitVec.setWidth 8 (BitVec.ushiftRight d (8 * (off + i))))

/-- A line that holds bytes at an offset. -/
def listLine (off : Nat) (l : List Byte) : LineData :=
  BitVec.shiftLeft (l.foldr (fun (b : Byte) (a : LineData) => BitVec.shiftLeft a 8 ||| BitVec.setWidth 1024 b) 0) (8 * off)

/-- World, slice, generation and tag of a channel's access. -/
def State.dmaInit (s : State) (c tag : Nat) : Init :=
  ⟨dmaNode c, s.fb .DMA_CFG DMA_CFG.SEC c, s.fd .DMA_CFG DMA_CFG.SLICE c, s.genOf (dmaNode c), tag⟩

/-- Translate an address of a channel (R323): physical, or through the context read at START. -/
def State.dmaXl (s : State) (c : Nat) (nd : Need) (a : Nat) : Tr (Nat × Bool) × State :=
  let sec := s.fb .DMA_CFG DMA_CFG.SEC c
  match if s.fb .DMA_CFG DMA_CFG.XLAT c then (s.dma c).ctx else none with
  | none => (.ok (s.fold a, sec), s)
  | some w =>
    match s.ioTranslate w.w0 w.w1 w.w2 (dmaNode c) nd a with
    | (.ok x, s1) => (.ok (s1.fold x.pa, sec && (x.sec || !bitAt w.w0 4)), s1)
    | (.fault f, s1) => (.fault f, s1)
    | (.busy, s1) => (.busy, s1)

/-- The host-bus request of a channel. -/
def dmaOut (a n tag : Nat) (write : Bool) (data : LineData) : OutReq := ⟨a, n, write, data, true, tag, none⟩

/-- An access to the register space: 8 bytes; configuration requests of a device are answered by `ext`. -/
def State.dmaReg (s : State) (i : Init) (off : Nat) (write : Bool) (data : Word) (ext : ExtReply) : DRes × State :=
  if 0x80000000 ≤ off then
    match s.cfgAccess i off 64 write data with
    | (.done .ok v, s1) => (.ok ((List.range 8).map (wordByte v)) false, s1)
    | (.done st _, s1) => (.status st, s1)
    | (.dev k j, s1) =>
      let s2 := s1.cfgSends i k j off 64 i.tag write data false
      if ext.status = .ok then (.ok (lineList ext.data (off % 128) 8) false, s2) else (.status ext.status, s2)
  else
    match s.regAccess i off 64 write data with
    | (.done .ok v, s1) => (.ok ((List.range 8).map (wordByte v)) false, s1)
    | (.done st _, s1) => (.status st, s1)
    | (.held, s1) => (.held, s1.setDma ((nodeDma i.node).getD 0) { s1.dma ((nodeDma i.node).getD 0) with held := some none })
    | (.stall, _) => (.busy, s)

/-- A request of a channel has gone out on the fabric, and the row brings its reply: the engine carries it no longer. -/
def State.fabTaken (s1 s : State) : State := { s1 with fab := { s1.fab with txns := s.fab.txns } }

/-- What a target outside the package answers. -/
def extRes (s : State) (ext : ExtReply) (off n : Nat) : DRes × State :=
  if ext.status = .ok then (.ok (lineList ext.data off n) (touched ext.poison off n), s) else (.status ext.status, s)

/-- Read `n` bytes within a line at a physical address (R320). -/
def State.dmaReadPa (s : State) (i : Init) (a n : Nat) (ext : ExtReply) : DRes × State :=
  let o := a % 128
  if i.slice ≠ 0xFF ∧ i.sec then (.status .decerr, s.spoof i.slice 0 i.node a)
  else
    match region a with
    | .regs => s.dmaReg i (a - 0x800000000000) false 0 ext
    | .hostBus =>
      if s.heldBy i.node || s.hbGated a then (.busy, s)
      else
        match s.hbOut i (dmaOut a n i.tag false 0) with
        | (some .ok, s1) => extRes s1 ext o n
        | (some st, s1) => (.status st, s1)
        | (none, s1) => extRes s1 ext o n
    | .globl =>
      if s.heldBy i.node then (.busy, s)
      else
        match s.globalReq i i.tag 0 (a / 128) (FabMsg.bare 0) with
        | (.answer .ok, s1) => extRes s1 ext o n
        | (.answer st, s1) => (.status st, s1)
        | (.wait, s1) => extRes (s1.fabTaken s) ext o n
        | (.stall, _) => (.busy, s)
    | .reserved => (.status .decerr, s)
    | _ =>
      let (r, s1) := s.homeDo opRDC
        { CohReq.bare i.node (a / 128) i.sec with gen := i.gen, tag := i.tag, slice := i.slice }
      if r.status = .retry then (.busy, s1)
      else if r.status ≠ .ok then (.status r.status, s1)
      else (.ok (lineList r.data o n) (touched r.poison o n), s1)

/-- A write to a target outside the package, E-class where the descriptor is (15 R406): held output of a mirrored partition is done when it is held (16 R431). -/
def State.dmaWriteOut (s : State) (i : Init) (epc : Bool) (a : Nat) (l : List Byte) (ext : ExtReply) : DRes × State :=
  let d := listLine (a % 128) l
  let host := region a == .hostBus
  let m : FabMsg := { FabMsg.bare (if l.length = 128 then 1 else 2) with mask := byteMask (a % 128) l.length, data := d, eclass := epc }
  if s.hbGated a then (.busy, s) else
  match s.holdOutput i (if host then some (dmaOut a l.length i.tag true d) else none) (if host then none else some (a / 128, m)) with
  | some (true, s1) => (.ok [] false, s1)
  | some (false, _) => (.busy, s)
  | none =>
    if host then
      match s.hbOut i (dmaOut a l.length i.tag true d) with
      | (some .ok, s1) => if ext.status = .ok then (.ok [] false, s1) else (.status ext.status, s1)
      | (some st, s1) => (.status st, s1)
      | (none, s1) => (.ok [] false, s1)
    else
      match s.globalReq i i.tag 0 (a / 128) m with
      | (.answer .ok, s1) => (.ok [] false, s1)
      | (.answer st, s1) => (.status st, s1)
      | (.wait, s1) => if ext.status = .ok then (.ok [] false, s1.fabTaken s) else (.status ext.status, s1.fabTaken s)
      | (.stall, _) => (.busy, s)

/-- Write bytes within a line at a physical address (R320). -/
def State.dmaWritePa (s : State) (i : Init) (epc : Bool) (a : Nat) (l : List Byte) (ext : ExtReply) : DRes × State :=
  if i.slice ≠ 0xFF ∧ i.sec then (.status .decerr, s.spoof i.slice 0 i.node a)
  else
    match region a with
    | .regs => s.dmaReg i (a - 0x800000000000) true (BitVec.setWidth 64 (listLine 0 l)) ext
    | .hostBus => s.dmaWriteOut i epc a l ext
    | .globl => s.dmaWriteOut i epc a l ext
    | .reserved => (.status .decerr, s)
    | _ =>
      let mask := byteMask (a % 128) l.length
      let (r, s1) := s.homeDo (if mask = fullMask then opWRF else opWRP)
        { CohReq.bare i.node (a / 128) i.sec with
          gen := i.gen, tag := i.tag, slice := i.slice, mask := mask, data := listLine (a % 128) l }
      if r.status = .retry then (.busy, s1) else if r.status ≠ .ok then (.status r.status, s1) else (.ok [] false, s1)

/-- Read through the channel's translation. -/
def State.dmaRead (s : State) (c tag a n : Nat) (ext : ExtReply) : DRes × State :=
  match s.dmaXl c (ioNeed true false) a with
  | (.ok (pa, sec), s1) => s1.dmaReadPa { s1.dmaInit c tag with sec := sec } pa n ext
  | (.fault f, s1) => (.fault f.code, s1)
  | (.busy, s1) => (.busy, s1)

/-- Write through the channel's translation. -/
def State.dmaWrite (s : State) (c tag : Nat) (epc : Bool) (a : Nat) (l : List Byte) (ext : ExtReply) : DRes × State :=
  match s.dmaXl c (ioNeed false true) a with
  | (.ok (pa, sec), s1) => s1.dmaWritePa { s1.dmaInit c tag with sec := sec } epc pa l ext
  | (.fault f, s1) => (.fault f.code, s1)
  | (.busy, s1) => (.busy, s1)

/-! Descriptors. -/

/-- The address of the channel's descriptor. -/
def State.dmaDesc (s : State) (c : Nat) : Nat := s.fd .DMA_NEXT DMA_NEXT.ADDR c * 32

/-- Fields of a descriptor (R317). -/
def Desc.src (d : Desc) : Nat := d.w0.toNat % 2 ^ 56
def Desc.dst (d : Desc) : Nat := d.w1.toNat % 2 ^ 56
def Desc.len (d : Desc) : Nat := d.w2.toNat % 2 ^ 32
def Desc.sfix (d : Desc) : Bool := bitAt d.w2 32
def Desc.dfix (d : Desc) : Bool := bitAt d.w2 33
def Desc.fsize (d : Desc) : Nat :=
  match d.w2.toNat / 2 ^ 34 % 4 with | 0 => 4 | 1 => 8 | 2 => 64 | _ => 128
def Desc.irq (d : Desc) : Bool := bitAt d.w2 36
def Desc.last (d : Desc) : Bool := bitAt d.w2 37
def Desc.epc (d : Desc) : Bool := bitAt d.w2 38
def Desc.next (d : Desc) : Nat := d.w3.toNat / 32 % 2 ^ 51

/-- A side of a descriptor breaks R318; `regs`: it addresses register space. -/
def Desc.sideBad (d : Desc) (a : Nat) (fix regs : Bool) : Bool :=
  (fix && (d.len % d.fsize != 0 || a % d.fsize != 0)) ||
    (regs && (d.len % 8 != 0 || a % 8 != 0 || (fix && d.fsize != 8)))

/-- An address of a channel lies in register space, where its pages lead (R323). -/
def State.dmaIsReg (s : State) (c : Nat) (nd : Need) (a : Nat) : Bool :=
  match (s.dmaXl c nd a).1 with
  | .ok p => region p.1 == .regs
  | _ => false

/-- A side of `n` bytes addresses register space: one of its 4 KiB pages does. -/
def State.dmaSideReg (s : State) (c : Nat) (nd : Need) (a n : Nat) : Bool :=
  s.dmaIsReg c nd a || (List.range ((a % 4096 + n - 1) / 4096)).any (fun k => s.dmaIsReg c nd ((a / 4096 + k + 1) * 4096 % 2 ^ 56))

/-- The bytes that a side covers. -/
def Desc.span (d : Desc) (fix : Bool) : Nat := if fix then d.fsize else d.len

/-- What the sides of a descriptor need of their pages. -/
def needSrc : Need := ioNeed true false
def needDst : Need := ioNeed false true

/-- A malformed descriptor (R318). -/
def State.dmaMalformed (s : State) (c : Nat) (d : Desc) : Bool :=
  d.w0.toNat / 2 ^ 56 != 0 || d.w1.toNat / 2 ^ 56 != 0 || d.w2.toNat / 2 ^ 39 % 2 ^ 9 != 0 || bitAt d.w3 4 ||
    d.w3.toNat / 2 ^ 56 != 0 || d.sideBad d.src d.sfix (s.dmaSideReg c needSrc d.src (d.span d.sfix)) ||
    d.sideBad d.dst d.dfix (s.dmaSideReg c needDst d.dst (d.span d.dfix))

/-! Errors (R327). -/

/-- DMA_ERR and DMA_EADDR are written and ERREV sets. -/
def State.dmaErr (s : State) (c kind side status fcode : Nat) : State :=
  let w := setF (setF (setF (setF (setF 0 DMA_ERR.KIND kind) DMA_ERR.SIDE side) DMA_ERR.STATUS status) DMA_ERR.FCODE
    (fcode % 1024)) DMA_ERR.VALID 1
  ((s.setRg w .DMA_ERR c).setRg (BitVec.ofNat 64 (s.dmaDesc c)) .DMA_EADDR c).setFd .DMA_STATUS DMA_STATUS.ERREV 1 c

/-- The descriptor is over: it is written back with a DSTAT. -/
def State.dmaEnd (s : State) (c dstat : Nat) : State :=
  s.setDma c { s.dma c with writingBack := true, dstat := dstat, bytes := [], burst := 0, tout := s.rg .NOC_TOUT }

/-- The channel halts with nothing to write back. -/
def State.dmaHalt (s : State) (c : Nat) : State :=
  (s.setDma c { s.dma c with desc := none, fetching := false, writingBack := false, bytes := [], burst := 0, held := none }).dmaEnter c 4

/-- An access of a side has failed: BAD, or HALTED for MASTER_OFF. -/
def State.dmaFail (s : State) (c side : Nat) (r : DRes) : State :=
  match r with
  | .status .masterOff => (s.dmaErr c 1 side (Status.code .masterOff) 0).dmaEnd c 3
  | .status st => (s.dmaErr c 1 side (Status.code st) 0).dmaEnd c 2
  | .fault f => (s.dmaErr c 2 side 0 f).dmaEnd c 2
  | _ => s

/-- A failed descriptor or context read, or write-back: the channel halts. -/
def State.dmaFailHalt (s : State) (c side : Nat) (r : DRes) : State :=
  match r with
  | .status st => (s.dmaErr c 1 side (Status.code st) 0).dmaHalt c
  | .fault f => (s.dmaErr c 2 side 0 f).dmaHalt c
  | .ok _ _ => (s.dmaErr c 5 side 0 0).dmaHalt c
  | .busy => s
  | .held => s

/-! The rows. -/

/-- The channel works: RUN or STOPPING, in a package that runs. -/
def State.dmaActive (s : State) (c : Nat) : Bool := s.alive && (s.dmaState c == 1 || s.dmaState c == 3)

/-- The context read of START (R323): true once it is done; else it has failed, with the channel halted, or comes again. -/
def State.dmaContext (s : State) (c : Nat) (ext : ExtReply) : Bool × State :=
  if !s.fb .DMA_CFG DMA_CFG.XLAT c || (s.dma c).ctx.isSome then (true, s)
  else
    match s.dmaReadPa (s.dmaInit c (s.dmaFetchTag c)) (s.fold (s.fd .DMA_IOCTX DMA_IOCTX.ADDR c * 32)) 32 ext with
    | (.busy, s1) => (false, s1)
    | (.ok b false, s1) =>
      let l := listLine 0 b
      (true, s1.setDma c { s1.dma c with ctx := some ⟨lineWord l 0, lineWord l 1, lineWord l 2, lineWord l 3⟩ })
    | (r, s1) => (false, s1.dmaFailHalt c 2 r)

/-- A descriptor has been read (R318, R324, R325, R326). -/
def State.dmaTake (s : State) (c : Nat) (d : Desc) : State :=
  let v := s.dma c
  if s.dmaState c = 3 then (s.setDma c { v with fetching := false }).dmaEnter c 0
  else if !bitAt d.w3 0 then
    if v.bell then s.setDma c { v with bell := false } else (s.setDma c { v with fetching := false }).dmaEnter c 2
  else
    let s1 := (s.setDma c { v with desc := some d, fetching := false, issued := 0, bytes := [], burst := 0, tout := s.rg .NOC_TOUT }).setRg 0
      .DMA_PROG c
    if s1.dmaMalformed c d then (s1.dmaErr c 3 2 0 0).dmaEnd c 2
    else if d.epc && !s1.hasSlot (dmaNode c) then (s1.dmaErr c 4 1 0 0).dmaEnd c 2
    else if d.len = 0 then s1.dmaEnd c 1
    else s1

/-- DESCRIPTOR_FETCH (R319, R323, R325-R327). -/
def execDescriptorFetch (ch : DmaNo) (ext : ExtReply) (s : State) : Out :=
  let c := ch.val
  if !s.dmaActive c || !(s.dma c).fetching then .next s
  else
    match s.dmaContext c ext with
    | (false, s1) => .next s1
    | (true, s1) =>
      match s1.dmaRead c (s1.dmaFetchTag c) (s1.dmaDesc c) 32 ext with
      | (.busy, s2) => .next s2
      | (.ok b false, s2) =>
        let l := listLine 0 b
        .next (s2.dmaTake c ⟨lineWord l 0, lineWord l 1, lineWord l 2, lineWord l 3⟩)
      | (r, s2) => .next (s2.dmaFailHalt c 2 r)

/-- The next access of a side: its address and its bytes (R320); `at_` bytes are done. -/
def State.dmaPiece (s : State) (c : Nat) (d : Desc) (a at_ : Nat) (fix : Bool) (nd : Need) : Nat × Nat :=
  if fix then (a, d.fsize)
  else
    let x := (a + at_) % 2 ^ 56
    (x, if s.dmaIsReg c nd x then min 8 (d.len - at_) else min (d.len - at_) (128 - x % 128))

/-- DMA_READ_COMPLETE (R320, R327): the next source piece has been read; at most 32 reads are ahead of the writes. -/
def execDmaReadComplete (ch : DmaNo) (ext : ExtReply) (s : State) : Out :=
  let c := ch.val
  let v := s.dma c
  match if s.dmaActive c && !v.writingBack then v.desc else none with
  | none => .next s
  | some d =>
    if d.len ≤ v.issued ∨ 4096 ≤ v.bytes.length + 128 then .next s
    else
      let p := s.dmaPiece c d d.src v.issued d.sfix needSrc
      match s.dmaRead c (s.dmaReadTag c) p.1 p.2 ext with
      | (.busy, s1) => .next s1
      | (.ok b false, s1) =>
        .next (s1.setDma c { s1.dma c with issued := v.issued + b.length, bytes := v.bytes ++ b, tout := s1.rg .NOC_TOUT })
      | (.ok _ true, s1) =>
        .next (((s1.dmaErr c 5 0 0 0).recordErr ⟨dmaBank c, 23, dmaNode c, none, none, s1.fb .DMA_CFG DMA_CFG.SEC c⟩).dmaEnd c 3)
      | (r, s1) => .next (s1.dmaFail c 0 r)

/-- Bytes acknowledged of the current descriptor. -/
def State.dmaProg (s : State) (c : Nat) : Nat := s.fd .DMA_PROG DMA_PROG.BYTES c

/-- Destination accesses left of a descriptor (R330): each counts as one line. -/
def State.dmaLeft (s : State) (c : Nat) (d : Desc) : Nat :=
  let rem := d.len - s.dmaProg c
  if d.dfix then rem / d.fsize
  else if s.dmaIsReg c needDst ((d.dst + s.dmaProg c) % 2 ^ 56) then rem / 8
  else ((d.dst + s.dmaProg c) % 128 + rem + 127) / 128

/-- DMA_BURST_ADMIT (R330): a burst of up to 32 accesses, charged at once, when the budget left covers it. -/
def execDmaBurstAdmit (ch : DmaNo) (s : State) : Out :=
  let c := ch.val
  let v := s.dma c
  match if s.dmaActive c && !v.writingBack && v.burst == 0 && s.rshare c != 0 then v.desc else none with
  | none => .next s
  | some d =>
    let whole := dmaBudget (s.rshare c) (if c < 192 then 1024 else 512) (s.fd .TCK_PERIOD TCK_PERIOD.NS)
    let n := min (min 32 (s.dmaLeft c d)) whole
    if 0 < n ∧ n ≤ v.budget then .next (s.setDma c { v with budget := v.budget - n, burst := n }) else .next s

/-- An address lies in the source range of a descriptor. -/
def Desc.inSrc (d : Desc) (a : Nat) : Bool := decide (d.src ≤ a) && decide (a < d.src + (if d.sfix then d.fsize else d.len))

/-- The bytes that a piece writes at `a` (R321): those inside the overlap of the two ranges are free. -/
def State.dmaData (s : State) (d : Desc) (a : Nat) (l : List Byte) : List Byte × State :=
  if (List.range l.length).any (fun j => d.inSrc (a + j)) then
    let (f, s1) := s.drawLine
    ((List.range l.length).map (fun j => (if d.inSrc (a + j) then lineList f 0 128 else l).getD j 0), s1)
  else (l, s)

/-- The node to which a write at a physical address goes (09 R241): none of the register blocks answers E-class packets for another. -/
def pathNode (a : Nat) : Nat :=
  match region a with
  | .regs => regNode (a - 0x800000000000)
  | .hostBus => hbNode 0
  | .globl => fabNode
  | _ => homeNode (homeOf (a / 128))

/-- The E-class packet of a destination write (R324). -/
def State.dmaEpc (s : State) (c tag a : Nat) (l : List Byte) : State :=
  let x : Nat × Bool := match (s.dmaXl c needDst a).1 with | .ok p => p | _ => (a, false)
  s.epcSend (dmaNode c) (if l.length = 128 then opWRF else opWRP) (pathNode x.1) tag x.1 l.length x.2
    (listLine (x.1 % 128) l) 0 (s.fd .DMA_CFG DMA_CFG.SLICE c)

/-- A destination write of `n` bytes has been acknowledged (R322); the last one completes the descriptor. -/
def State.dmaWritten (s : State) (c n : Nat) (d : Desc) : State :=
  let v := s.dma c
  let at_ := s.dmaProg c
  let s1 := (s.setDma c { v with bytes := v.bytes.drop n, burst := v.burst - 1, held := none, tout := s.rg .NOC_TOUT }).setFd
    .DMA_PROG DMA_PROG.BYTES (at_ + n) c
  if at_ + n = d.len then s1.dmaEnd c 1 else s1

/-- DMA_WRITE_ACK (R320, R322, R324, R327, R330): the next destination piece is written and acknowledged. A register write that the
hub holds is acknowledged once it has completed (02 R51, R53). -/
def execDmaWriteAck (ch : DmaNo) (ext : ExtReply) (s : State) : Out :=
  let c := ch.val
  let v := s.dma c
  match if s.dmaActive c && !v.writingBack then v.desc else none with
  | none => .next s
  | some d =>
    let p := s.dmaPiece c d d.dst (s.dmaProg c) d.dfix needDst
    match v.held with
    | some none => .next s
    | some (some st) =>
      let s1 := s.setDma c { v with held := none }
      .next (if st = .ok then s1.dmaWritten c p.2 d else s1.dmaFail c 1 (.status st))
    | none =>
      if v.bytes.length < p.2 ∨ p.2 = 0 ∨ (s.rshare c ≠ 0 ∧ v.burst = 0) ∨ (d.epc ∧ s.eclassRoom (dmaNode c) < p.2) then .next s
      else
        let (l, s0) := s.dmaData d p.1 (v.bytes.take p.2)
        let tag := s.dmaWriteTag c
        let r := s0.dmaWrite c tag d.epc p.1 l ext
        let sent := if d.epc then r.2.dmaEpc c tag p.1 l else r.2
        match r.1 with
        | .busy => .next r.2
        | .held => .next sent
        | .ok _ _ => .next (sent.dmaWritten c p.2 d)
        | x => .next (sent.dmaFail c 1 x)

/-- The last word of a descriptor as it is written back (R322): V 0, DSTAT, NEXT unchanged. -/
def backWord (w : Word) (dstat : Nat) : Word := (w &&& ~~~(0xF : Word)) ||| BitVec.ofNat 64 (2 * dstat)

/-- The write-back of a descriptor is acknowledged (R322, R325, R327). -/
def State.dmaBacked (s : State) (c : Nat) (d : Desc) (dstat : Nat) : State :=
  let s1 := s.setDma c { s.dma c with desc := none, writingBack := false, held := none, tout := s.rg .NOC_TOUT }
  if dstat = 3 then s1.dmaEnter c 4
  else
    let s2 := s1.satFd .DMA_CNT (if dstat = 1 then DMA_CNT.DONE else DMA_CNT.BAD) c
    let s3 := if dstat = 1 ∧ d.irq then s2.setFd .DMA_STATUS DMA_STATUS.DONEEV 1 c else s2
    let s4 := s3.setFd .DMA_NEXT DMA_NEXT.ADDR d.next c
    if d.last || s.dmaState c == 3 then s4.dmaEnter c 0 else s4.setDma c { s4.dma c with fetching := true }

/-- DESCRIPTOR_WRITEBACK_ACK (R322, R325, R327). -/
def execDescriptorWritebackAck (ch : DmaNo) (ext : ExtReply) (s : State) : Out :=
  let c := ch.val
  let v := s.dma c
  match if s.dmaActive c && v.writingBack then v.desc else none with
  | none => .next s
  | some d =>
    let w := backWord d.w3 v.dstat
    match v.held with
    | some none => .next s
    | _ =>
      match (s.setDma c { v with held := none }).dmaWrite c (s.dmaBackTag c) false (s.dmaDesc c + 24) ((List.range 8).map (wordByte w)) ext with
      | (.busy, s1) => .next s1
      | (.held, s1) => .next (s1.dmaBacked c d v.dstat)
      | (.ok _ _, s1) => .next (s1.dmaBacked c d v.dstat)
      | (r, s1) => .next (s1.dmaFailHalt c 3 r)

/-! Timers (09 R249, R250; 10 R293). -/

/-- The physical address of a channel's access under a tag, where its translation tells. -/
def State.dmaTagAddr (s : State) (c tag : Nat) : Nat :=
  let v := s.dma c
  let d := v.desc.getD ⟨0, 0, 0, 0⟩
  let x := if v.fetching then (s.dmaDesc c, needSrc) else if v.writingBack then (s.dmaDesc c, needDst)
    else if tag = s.dmaReadTag c then ((d.src + (if d.sfix then 0 else v.issued)) % 2 ^ 56, needSrc)
    else ((d.dst + (if d.dfix then 0 else s.dmaProg c)) % 2 ^ 56, needDst)
  match (s.dmaXl c x.2 x.1).1 with
  | .ok p => p.1
  | _ => x.1

/-- An access of a channel ends with TOUT (R249, 12 R327). -/
def State.dmaTout (s : State) (c tag : Nat) : State :=
  let v := s.dma c
  let r : DRes := .status .tout
  if v.fetching then s.dmaFailHalt c 2 r
  else if v.writingBack then s.dmaFailHalt c 3 r
  else if v.issued < (v.desc.getD ⟨0, 0, 0, 0⟩).len ∧ tag = s.dmaReadTag c then s.dmaFail c 0 r
  else (s.setDma c { v with held := none }).dmaFail c 1 r

/-- The limit in force for an outstanding tag (09 R248). -/
def State.limitOf (s : State) (node tag : Nat) : Nat :=
  match nodeDma node with
  | some c => toutLimit (s.dma c).tout (s.fd .BOOT_STRAP BOOT_STRAP.PKG_NUM) (s.dmaTagAddr c tag)
  | none => (((s.timers node).find? (fun t => t.1 == tag)).map (fun t => t.2)).getD 0

/-- A held or checked write of an initiator (02 R51, R53) whose timer has expired: its completion will be late. -/
def State.holdLate (s : State) (node tag : Nat) : State :=
  { s with
    held := s.held.map (fun h => if h.init.node = node ∧ h.init.tag = tag then { h with limit := 0 } else h)
    tck := { s.tck with checks := s.tck.checks.map (fun c =>
      if c.init.any (fun i => i.node == node && i.tag == tag) then { c with limit := 0 } else c) } }

/-- A completion has not come within the limit (13 R353): the event of kind 2, and AER Completion Timeout of the port or function. -/
def State.aerTimeout (s : State) (q : HbReq) : State :=
  (s.hbErr q.ctl 2 q.port 0 q.addr).aerSet
    ((if s.attachedHb q.ctl then 0x1000 * q.func else rpBase q.ctl q.port) + 0x104) 0x4000

/-- TRANSACTION_TIMEOUT (R249): TOUTCNT counts, the tag is quarantined and the initiator has a reply with status TOUT. A
home or a CDA that sees it starts a domain stop (10 R293). -/
def execTransactionTimeout (node tag : Nat) (s : State) : Out :=
  if s.dead || !(s.outTags node).contains tag then .next s
  else
    let s1 := s.satFd .NOC_AGENT NOC_AGENT.TOUTCNT 0 (node / 256) (node % 256)
    let s2 : State := { s1.holdLate node tag with net := { s1.net with quar := s1.net.quar ++ [⟨node, tag, s.limitOf node tag⟩] } }
    match s2.hb.out.find? (fun q => q.node == node && q.tag == tag && decide (q.phase < 2)) with
    | some q => .next ((s2.aerTimeout q).hbEnd q .tout)
    | none =>
      match s2.fab.txns.find? (fun t => t.node == node && t.ntag == tag && !t.answered) with
      | some t => .next (s2.txnTout t)
      | none =>
        if node % 256 = 0x20 ∧ node / 256 < 12 then .next (s2.recordErr ⟨cdaBank (node / 256), 18, node, none, some 4, false⟩)
        else if 0xF00 ≤ node ∧ node < 0xF10 then .next (s2.recordErr ⟨node - 0xF00, 18, node, none, some 4, false⟩)
        else
          match nodeDma node with
          | some c => .next (s2.dmaTout c tag)
          | none => .next (s2.replyTo node (s.genOf node) tag .tout 0 0 0)

end Sys2Proof.Machine
end

