-- ==== Sys2Proof/Machine/Predict.lean ====
section
/-! DEFINITION. Prediction of branches (06): path history, indirect-target table, return stack, and what a resolved
transfer does to them. What a cancelled path leaves is BRANCH_MISPREDICT's (Cmo.lean). -/
namespace Sys2Proof.Machine

/-- The current translation tag (R178): world, level class, address-space and guest identifiers as they are in force (R60). DEDUCED
(log 149). -/
def Core.predTag (c : Core) : PredTag :=
  let user := c.lvl == .u || c.lvl == .k
  ⟨c.sec, match c.lvl with | .u => 0 | .m => 2 | _ => 1,
   if user then (c.inForce (wk cTCTL c.sec)).toNat / 2 ^ 16 % 2 ^ 16 else 0,
   if user && !c.sec then (c.inForce cS2CTL).toNat / 2 ^ 16 % 2 ^ 16 else 0⟩

/-- A branch or jump that has resolved. -/
inductive Transfer where
  | br (h : Bool)
  | call (h : Bool)
  | jr
  | jalr
  | ret
deriving DecidableEq, Repr

/-- The direct transfers. -/
def Transfer.direct : Transfer → Bool
  | .br _ => true
  | .call _ => true
  | _ => false

/-- CALL and JALR push (R177). -/
def Transfer.pushes : Transfer → Bool
  | .call _ => true
  | .jalr => true
  | _ => false

/-- The direction predicted for BR and CALL (R175). -/
def predictTaken (pred : BitVec 3) (pn h : Bool) : Bool := if pred = 0 then !pn else h

/-- The ITT set of a jump (R177). -/
def ittSet (pc : Word) (hist : BitVec 16) : Nat := (pc.toNat / 4 % 1024) ^^^ (hist.toNat % 1024)

/-- The partial tag of a jump (R177). -/
def ittTag (pc : Word) : Nat := pc.toNat / 4096 % 1024

/-- The target that the ITT predicts (R177, R178). -/
def Core.ittLook (c : Core) : Option Word :=
  let st := ittSet c.pc c.hist
  ((List.range 4).findSome? (fun w =>
    match c.itt.get? (4 * st + w) with
    | some e => if e.ptag = ittTag c.pc ∧ e.tag = c.predTag then some e.target else none
    | none => none))

/-- The target predicted for a jump (R179, R181). -/
def Core.predictTarget (c : Core) (ctl : Word) (t : Transfer) : Option Word :=
  let itt := if bitAt ctl 1 then none else c.ittLook
  match t with
  | .ret =>
    match if bitAt ctl 2 then none else c.rstack.head? with
    | some e => if e.tag = c.predTag then some e.addr else itt
    | none => itt
  | _ => itt

/-- The ITT after a jump has resolved to `target` (R177): its own entry, else a free way, else way `v`. -/
def Core.ittPut (c : Core) (pc : Word) (hist : BitVec 16) (target : Word) (v : Nat) : KMap IttEntry :=
  let st := ittSet pc hist
  let e : IttEntry := ⟨ittTag pc, c.predTag, target⟩
  let ways := List.range 4
  let own := ways.find? (fun w =>
    match c.itt.get? (4 * st + w) with | some x => x.ptag == e.ptag && x.tag == e.tag | none => false)
  let free := ways.find? (fun w => !c.itt.has (4 * st + w))
  c.itt.set (4 * st + (own.getD (free.getD (v % 4)))) e

/-- The path history after a taken transfer (R177). -/
def histPush (h : BitVec 16) (target : Word) : BitVec 16 :=
  (h <<< 2) ||| BitVec.ofNat 16 ((target.toNat / 4 % 4) ^^^ (target.toNat / 16 % 4))

/-- Whether a transfer was mispredicted (R175, R176, R179); `ctl` is C_PRCTL as it governs. -/
def Core.mispredicted (c : Core) (ctl : Word) (t : Transfer) (pred : BitVec 3) (pn exec : Bool) (target : Word) : Bool :=
  if bitAt ctl 0 then false
  else
    match t with
    | .br h => predictTaken pred pn h != exec
    | .call h => predictTaken pred pn h != exec
    | _ =>
      if pred = 0 ∧ pn then false
      else
        match c.predictTarget ctl t with
        | none => false
        | some p => !exec || p != target

/-- Update the predictor for a resolved transfer (R177, R184); `v` names the way that leaves a full ITT set. -/
def Core.predictUpdate (c : Core) (ctl : Word) (t : Transfer) (exec : Bool) (target : Word) (v : Nat) : Core :=
  if !exec then c
  else
    let c1 := { c with hist := histPush c.hist target }
    if bitAt ctl 0 then c1
    else
      let c2 := if t.direct then c1 else { c1 with itt := c.ittPut c.pc c.hist target v }
      let rs := if t = .ret then c2.rstack.drop 1
        else if t.pushes then (⟨c.pc + 4, c.predTag⟩ :: c2.rstack).take 32 else c2.rstack
      { c2 with rstack := rs }

/-- A branch or jump resolves: events 4 and 5 of R102 and the predictor (R177-R184). -/
def State.resolve (s : State) (n : Nat) (t : Transfer) (pred : BitVec 3) (pn exec : Bool) (target : Word) :
    List (Nat × Nat) × State :=
  let (ctl, s1) := s.gov n (wk cPRCTL (s.core n).sec)
  let (v, s2) := s1.drawNat
  let c := s2.core n
  let bad := c.mispredicted ctl t pred pn exec target
  ((4, 1) :: (if bad then [(5, 1)] else []),
   s2.modCore n (fun c => { c.predictUpdate ctl t exec target v with mispred := c.mispred || bad }))

/-- The entries that an MTC to C_PRINV names (R183): those of the current tag; or of the current world, and at M every
entry. -/
def Core.prinvNames (c : Core) (scope : Bool) (t : PredTag) : Bool :=
  if !scope then t == c.predTag
  else if c.lvl = .m then true
  else tagOfWorld t c.sec

/-- C_PRINV is written (R181, R183): the invalidation it starts shows in C_PRSTAT.CLRBUSY. -/
def Core.prinv (c : Core) (w : Word) : Core :=
  let hit := c.prinvNames (bitAt w 2)
  let c1 := if bitAt w 0 then { c with itt := ⟨c.itt.l.filter (fun e => !hit e.2.tag)⟩ } else c
  let c2 := if bitAt w 1 then { c1 with rstack := c.rstack.filter (fun e => !hit e.tag) } else c1
  { c2 with clrBusy := c.clrBusy || bitAt w 0 || bitAt w 1 }

end Sys2Proof.Machine
end

