-- ==== Sys2Proof/Machine/Issue.lean ====
section
/-! DEFINITION. How a core instruction runs (03 R69, R70, R73-R75): its fetch, the checks before its effect, and how it
ends. The row gives the instruction; the access that fetches it is made, its bytes are not compared with the row. -/
namespace Sys2Proof.Machine

/-- Leave the instruction under way. -/
def Core.clearWait (c : Core) : Core := { c with wait := .none, reply := none, rbuf := .empty }

/-- The instruction raises an exception (R64-R69). -/
def State.trapInsn (s : State) (n : Nat) (e : Exc) : State :=
  (s.modCore n Core.clearWait).raiseExc n e ((s.core n).pc + 4)

/-- How a part of an instruction ends: with a value, with an exception; not yet, with nothing done (`stall`) or with a
request under way (`wait`). -/
inductive Res (α : Type) where
  | ok (a : α)
  | trap (e : Exc)
  | stall
  | wait

/-- The instruction under way is as it was in `s`: what its attempt has done elsewhere stands (fills, evictions, RETRYs). -/
def State.undo (s : State) (n : Nat) (s1 : State) : State :=
  let c0 := s.core n
  s1.modCore n (fun c => { c with word := c0.word, wait := c0.wait, reply := c0.reply, rbuf := c0.rbuf })

/-- Go on with the value of a part of an instruction; `s` is the state in which the instruction was issued. -/
def Res.andThen {α : Type} (r : Res α × State) (s : State) (n : Nat) (k : α → State → Out) : Out :=
  match r with
  | (.ok a, s1) => k a s1
  | (.trap e, s1) => .next (s1.trapInsn n e)
  | (.stall, s1) => .next (s.undo n s1)
  | (.wait, s1) => .next s1

/-- The two parts of a computation. -/
def Res.bind {α β : Type} (r : Res α × State) (k : α → State → Res β × State) : Res β × State :=
  match r with
  | (.ok a, s) => k a s
  | (.trap e, s) => (.trap e, s)
  | (.stall, s) => (.stall, s)
  | (.wait, s) => (.wait, s)

/-- C_EINFO of an access (R68): CODE, WRITE, FETCH. -/
def einfo (code : Nat) (write fetch : Bool) : Word := BitVec.ofNat 64 (code + 65536 * b2n write + 131072 * b2n fetch)

/-- The kinds of accesses that a translation fault is reported for (R68, R85). -/
inductive AccKind where
  | fetch
  | load
  | store
deriving DecidableEq, Repr

/-- The exception of a translation fault at an address (R68, 08 R225, R227), and C_S2FADDR. -/
def State.xlTrap (s : State) (n : Nat) (k : AccKind) (va : Word) (f : XFault) : Res Unit × State :=
  let w := k == .store
  let fe := k == .fetch
  match f.mcheck with
  | some a => (.trap ⟨xWALKMCHECK, einfo 0 w fe, va, false, false, some (5, some a)⟩, s)
  | none =>
    let s1 := match f.ipa with
      | some a => s.modCore n (fun c => c.setCr cS2FADDR (BitVec.ofNat 64 (a % 2 ^ 56)))
      | none => s
    let cause := match k with | .fetch => xIFAULT | .load => xLFAULT | .store => xSFAULT
    (.trap ⟨cause, einfo f.code w fe, va, false, f.ipa.isSome, none⟩, s1)

/-- The bases of the tags under which the fetch and the access of an instruction wait: 256 tags each, so that one that is
quarantined need not be used (09 R249). -/
def fetchTag : Nat := 0x000
def insnTag : Nat := 0x100
/-- The base for the second configuration request of a 64-bit access (13 R337). -/
def cfgHighTag : Nat := 0x200
/-- The base of the tags of a core's posted and remote writes, taken in turn. -/
def postTag : Nat := 0x300

/-- A core's tag for a request under a base. -/
def State.coreTag (s : State) (n base : Nat) : Nat := s.freeTag (coreNode n) base 0x100 0
/-- A core's tag for its next posted or remote write. -/
def State.nextPost (s : State) (n : Nat) : Nat := s.freeTag (coreNode n) postTag 0x500 s.fab.nextTag

/-- A core as an initiator (09 R239, R251, 17 R439). -/
def State.coreInit (s : State) (n : Nat) (sec : Bool) (tag : Nat) : Init :=
  ⟨coreNode n, sec, s.coreSlice n, s.genOf (coreNode n), tag⟩

/-- A slice's core never carries SEC (14 R378 kind 0). -/
def State.tagBad (s : State) (n : Nat) (sec : Bool) : Bool := s.coreSlice n != 0xFF && sec

/-- What an access of a core to a line got. -/
inductive LineAcc where
  | line (d : LineData) (p : BitVec 16)
  | status (st : Status)
  | stall
  | wait

/-- The reply to a request of the instruction under way, if it waits for one under a tag of this base (R93): consumed once. -/
def State.takeReply (s : State) (n base : Nat) : Option (Option Reply × State) :=
  let c := s.core n
  match c.wait with
  | .reply t =>
    if t / 256 = base / 256 then
      match c.reply with
      | none => some (none, s)
      | some r => some (some r, s.modCore n (fun c => { c with wait := .none, reply := none }))
    else none
  | _ => none

/-- Remember a line for the rest of the instruction. -/
def State.keepLine (s : State) (n line : Nat) (d : LineData) (p : BitVec 16) : State :=
  s.modCore n (fun c => { c with rbuf := c.rbuf.set line (d, p) })

/-- A core waits for the reply under a tag. -/
def State.waitReply (s : State) (n tag : Nat) : State := s.modCore n (fun c => { c with wait := .reply tag, reply := none })

/-- A read of another package's line (15 R400, R401). -/
def State.globRead (s : State) (n base : Nat) (sec : Bool) (line : Nat) (m : FabMsg) : LineAcc × State :=
  match (s.core n).rbuf.get? line with
  | some v => (.line v.1 v.2, s)
  | none =>
    match s.takeReply n base with
    | some (none, _) => (.wait, s)
    | some (some r, s1) => if r.status = .ok then (.line r.data r.poison, s1.keepLine n line r.data r.poison) else (.status r.status, s1)
    | none =>
      if s.heldBy (coreNode n) then (.stall, s)
      else
        let tag := s.coreTag n base
        match s.globalReq (s.coreInit n sec tag) tag 0 line m with
        | (.answer st, s1) => (.status st, s1)
        | (.stall, s1) => (.stall, s1)
        | (.wait, s1) => (.wait, s1.waitReply n tag)

/-- A read of the host-bus range (13 R345): `size` bytes at an address; the value lies at its place in the line. -/
def State.hostRead (s : State) (n base : Nat) (sec : Bool) (a size : Nat) : LineAcc × State :=
  let line := a / 128
  match (s.core n).rbuf.get? line with
  | some v => (.line v.1 v.2, s)
  | none =>
    match s.takeReply n base with
    | some (none, _) => (.wait, s)
    | some (some r, s1) =>
      if r.status = .ok then
        let d := BitVec.shiftLeft r.data (8 * (a % 128))
        (.line d r.poison, s1.keepLine n line d r.poison)
      else (.status r.status, s1)
    | none =>
      if s.heldBy (coreNode n) || s.hbGated a then (.stall, s)
      else
        let tag := s.coreTag n base
        match s.hbOut (s.coreInit n sec tag) ⟨a, size, false, 0, false, tag, none⟩ with
        | (some st, s1) => (.status st, s1)
        | (none, s1) => (.wait, s1.waitReply n tag)

/-- Lines of memory: 07's caches for normal memory, an uncached read for device-typed memory. -/
def State.memLine (s : State) (n : Nat) (x : Xlated) : LineAcc × State :=
  let line := x.pa / 128
  if x.mt = 2 then
    let (r, s1) := s.homePast n opRDC line (s.cdaReq (n / 18) line x.sec)
    if r.status = .retry then (.stall, s1)
    else if r.status = .ok then (.line r.data r.poison, s1) else (.status r.status, s1)
  else
    let r := if x.mt = 1 then s.ncRead n line x.sec else s.cohRead n line x.sec
    if r.status = .retry then (.stall, r.s)
    else if r.status = .ok then (.line r.data r.poison, r.s) else (.status r.status, r.s)

/-- A normal non-coherent line of a host-bus window (07 R194, 13 R345): in the core's L2, or read through the HBU. -/
def State.hostLine (s0 : State) (n base : Nat) (x : Xlated) (size : Nat) : LineAcc × State :=
  let line := x.pa / 128
  if (s0.core n).l2en then
    let s := s0.l2Check n line
    match (s.core n).l2.get? line with
    | some e => (.line e.data e.poison, s)
    | none =>
      match s.hostRead n base x.sec (line * 128) 128 with
      | (.line d p, s1) =>
        match s1.l2Fill n line .nc d p with
        | some s2 => (.line d p, s2)
        | none => (.stall, s1)
      | r => r
  else s0.hostRead n base x.sec x.pa size

/-- A read of `size` bytes within a line at a translated address, of normal memory or a device window outside the register
space. -/
def State.readAt (s : State) (n base : Nat) (x : Xlated) (size : Nat) : LineAcc × State :=
  if s.tagBad n x.sec then (.status .decerr, s.spoof (s.coreSlice n) 0 (coreNode n) x.pa)
  else
    match region x.pa with
    | .globl => s.globRead n base x.sec (x.pa / 128) (FabMsg.bare 0)
    | .hostBus => if x.mt = 2 then s.hostRead n base x.sec x.pa size else s.hostLine n base x size
    | .regs => (.status .decerr, s)
    | .reserved => (.status .decerr, s)
    | _ => s.memLine n x

/-! Fetch (R69 steps 1-3, R91, R92). -/

/-- Allocate a line in L1I (07 R190, R211): which line leaves a full set is free. -/
def State.l1iFill (s : State) (n line : Nat) (d : LineData) (p : BitVec 16) : State :=
  let c := s.core n
  let ret := (c.l1iRet.filter (fun e => e / 4 == line % 128)).map (fun e => e % 4)
  let (f, s1) := s.drawNat
  let out := setVictim (c.l1i.l.map (fun e => e.1)) (fun k => k % 128 == line % 128) line (4 - ret.length) f
  let m := match out with | some k => c.l1i.erase k | none => c.l1i
  let used := (m.l.filter (fun e => e.1 % 128 == line % 128)).map (fun e => e.2.way) ++ ret
  let w := freeWay used 4 0
  if w < 4 then (s1.modCore n (fun c => { c with l1i := m.set line ⟨w, d, p⟩ })).expose (upKey 0 n line) else s1

/-- An L1I entry is read (07 R211): on an error its line is dropped and refetched; an error in the refetched entry, which may or
may not come, retires it. -/
def State.l1iCheck (s : State) (n line : Nat) : State :=
  match (s.core n).l1i.get? line with
  | none => s
  | some e =>
    let (t, s1) := s.readEntry (upKey 0 n line)
    if t = 0 then s1
    else
      let (again, s2) := (s1.arrayEvent (coreBank n) 1 (coreNode n) line e.way (line % 128)).drawBit
      let s3 := s2.modCore n (fun c => { c with l1i := c.l1i.erase line })
      if again then
        (s3.arrayEvent (coreBank n) 2 (coreNode n) line e.way (line % 128)).modCore n (fun c =>
          { c with l1iRet := (line % 128 * 4 + e.way) :: c.l1iRet })
      else s3

/-- The line of an instruction: from L1I where it is enabled, or through the data caches' level 2. -/
def State.fetchLine (s : State) (n base : Nat) (x : Xlated) : LineAcc × State :=
  let line := x.pa / 128
  let (ctl, sg) := s.gov n cCACHECTL
  let en := bitAt ctl 0
  let sc := if en then sg.l1iCheck n line else sg
  match if en then (sc.core n).l1i.get? line else none with
  | some e => (.line e.data e.poison, sc)
  | none =>
    match (if en then sc.noteEv n 6 else sc).readAt n base x 128 with
    | (.line d p, s1) => (.line d p, if en && region x.pa != .globl then s1.l1iFill n line d p else s1)
    | r => r

/-- A core that wakes from SLEEP drops its translations first where it was told to (08 R231). -/
def State.flushDue (s : State) (n : Nat) : State := if (s.core n).tlbFlushDue then s.modCore n Core.tlbFlush else s

/-- The fetch of the instruction at the PC (R69 steps 1-3). -/
def State.fetch (s : State) (n base : Nat) : Res Unit × State :=
  let s0 := (s.flushDue n).modCore n (fun c => { c with arrErr := 0 })
  let pc := (s0.core n).pc
  let (g, s1) := s0.regime n
  match s1.translate g needFetch pc with
  | (.busy, s2) => (.stall, s2)
  | (.fault f, s2) => s2.xlTrap n .fetch pc f
  | (.ok x, s2) =>
    let x1 := { x with pa := s2.fold x.pa }
    if x1.mt = 2 ∨ region x1.pa = .regs then (.trap ⟨xFETCHBUSERR, einfo 5 false true, pc, false, false, none⟩, s2)
    else
      match s2.fetchLine n base x1 with
      | (.stall, s3) => (.stall, s3)
      | (.wait, s3) => (.wait, s3)
      | (.status st, s3) => (.trap ⟨xFETCHBUSERR, einfo (Status.code st) false true, pc, false, false, none⟩, s3)
      | (.line _ p, s3) =>
        if touched p (x1.pa % 128) 4 then
          (.trap ⟨xFETCHMCHECK, einfo 0 false true, pc, false, false, some (if (s3.core n).arrErr = 2 then 2 else 1, some x1.pa)⟩, s3)
        else (.ok (), s3)

/-! The frame of an instruction. -/

/-- What an instruction's row carries for every instruction: core, predicate, word, and the exceptions before the predicate
(R69 steps 4 and 5). -/
structure Insn where
  n : Nat
  pred : BitVec 3
  pn : Bool
  w : BitVec 32
  pre : Core → Option Nat

/-- ILLEGAL for fields that must be zero and are not, PRIV below the lowest level that may execute it. -/
def preChk (bad : Bool) (l : Level) (c : Core) : Option Nat :=
  if bad then some xILLEGAL else if c.lvl.below l then some xPRIV else none

/-- Whether a core that waits, waits for this instruction. -/
def Core.mine (c : Core) (w : BitVec 32) : Bool := c.wait = .none || c.word = w

/-- Steps 4 to 6 of R69, then the effect: `off` is what a false predicate does. -/
def State.gated (s : State) (i : Insn) (off : State → Out) (body : Core → State → Out) : Out :=
  let c := s.core i.n
  match i.pre c with
  | some x => .next (s.trapInsn i.n (Exc.insn x c.pc i.w false))
  | none => if !c.executes i.pred i.pn then off s else body c s

/-- An instruction whose predicate is false completes with no effect (R74, R100). -/
def State.skip (i : Insn) (s : State) : Out :=
  .next (s.retireInsn i.n (s.core i.n) ((s.core i.n).pc + 4) false [(3, 1)])

/-- Issue an instruction (R69, R70): fetched, checked, executed. One that waits goes on where it was, once the reply is
there, or an APOST for which there is room (05 R159); an instruction in C_DBGINST is not fetched (R99). -/
def State.issueOr (s : State) (i : Insn) (off : State → Out) (body : Core → State → Out) : Out :=
  let c := s.core i.n
  let s0 := s.modCore i.n (fun c => { c with word := i.w })
  let fetched := fun (_ : Unit) => Res.andThen (s0.fetch i.n fetchTag) s i.n (fun _ s1 => s1.gated i off body)
  if !s.canIssue i.n || !c.mine i.w then .next s
  else
    match c.wait with
    | .none => if c.dbg then s0.gated i off body else fetched ()
    | .reply t =>
      if c.reply = none ∧ t / 256 ≠ apostTag / 256 then .next s
      else if t / 256 = fetchTag / 256 then fetched ()
      else body c s
    | _ => body c s

/-- Issue an instruction that a false predicate skips. -/
def State.issue (s : State) (i : Insn) (body : Core → State → Out) : Out := s.issueOr i (State.skip i) body

/-- Completion: the PC moves to the next instruction (R70). -/
def State.done (s : State) (n : Nat) (c0 : Core) (evs : List (Nat × Nat)) : Out :=
  .next (s.retireInsn n c0 (c0.pc + 4) false evs)

/-- An instruction that only computes registers. -/
def State.compute (s : State) (i : Insn) (f : Core → Core) : Out :=
  s.issue i (fun c s1 => (s1.modCore i.n f).done i.n c [])

/-- The frame of the formats. -/
def RRR.insn (o : RRR) (w : BitVec 32) (bad : Bool) (l : Level) : Insn := ⟨o.core, o.pred, o.pn, w, preChk bad l⟩
def RRRF.insn (o : RRRF) (w : BitVec 32) (bad : Bool) (l : Level) : Insn := ⟨o.core, o.pred, o.pn, w, preChk bad l⟩
def RRI.insn (o : RRI) (w : BitVec 32) (bad : Bool) (l : Level) : Insn := ⟨o.core, o.pred, o.pn, w, preChk bad l⟩

end Sys2Proof.Machine
end

