-- ==== Sys2Proof/Machine/Creg.lean ====
section
/-! DEFINITION. The control registers (03 R59-R62, R100, R101; 04 R109, R110; 06 R182, R183; 07 R199-R201; 08 R214; 17
R440; 18 R473): which exist, who may reach them, what MFC reads and what MTC writes. -/
namespace Sys2Proof.Machine

/-- The numbers that are held per world (R61, R181, R214, R440). -/
def perWorld (n : Nat) : Bool := (0x010 ≤ n && n < 0x017) || n == cPRCTL || n == cTCTL || n == cTTB || n == cIPMASK

/-- The key of a number for a core: at M, SEC selects the copy (R62). -/
def Core.ckey (c : Core) (n : Nat) : Nat := if perWorld n then wk n c.sec else n

/-- The counters. -/
def isCounter (n : Nat) : Bool := n == cCYCLE || n == cINSTRET || (0x068 ≤ n && n < 0x06E)

/-- The registers of the normal world that the secure world below M cannot name (R61, R214). -/
def normalOnly (n : Nat) : Bool := (0x020 ≤ n && n < 0x027) || (0x0A2 ≤ n && n < 0x0A7)

/-- The minimum levels for a read and for a write; none for a number that no chapter defines, an inner none for "-". -/
def cregLevels (n : Nat) : Option (Option Level × Option Level) :=
  if n = 0x000 then some (some .u, some .k)
  else if n = 0x001 ∨ n = 0x002 ∨ (0x008 ≤ n ∧ n < 0x00B) then some (some .u, none)
  else if 0x010 ≤ n ∧ n < 0x017 then some (some .k, some .k)
  else if 0x020 ≤ n ∧ n < 0x027 then some (some .h, some .h)
  else if 0x030 ≤ n ∧ n < 0x037 then some (some .m, some .m)
  else if n = 0x040 ∨ n = 0x041 then some (some .m, some .m)
  else if n = 0x042 then some (some .h, some .h)
  else if n = 0x050 ∨ n = 0x051 then some (some .m, some .m)
  else if isCounter n then some (some .u, some .k)
  else if n = 0x062 ∨ n = 0x063 ∨ (0x070 ≤ n ∧ n < 0x076) then some (some .k, some .k)
  else if n = 0x080 then some (some .k, some .k)
  else if n = 0x081 then some (none, some .k)
  else if n = 0x082 then some (some .k, none)
  else if n = 0x090 ∨ n = 0x091 then some (some .k, some .k)
  else if n = 0x092 then some (none, some .k)
  else if n = 0x0A0 ∨ n = 0x0A1 ∨ n = 0x0A7 then some (some .k, some .k)
  else if 0x0A2 ≤ n ∧ n < 0x0A6 then some (some .h, some .h)
  else if n = 0x0A6 then some (some .h, none)
  else if 0x0C0 ≤ n ∧ n < 0x0C3 then some (some .u, some .u)
  else if n = 0x0C3 then some (some .u, none)
  else if n = 0x0D0 ∨ n = 0x0D1 then some (some .m, some .m)
  else if n = 0x0D2 then some (some .k, none)
  else if n = 0x0D3 then some (some .k, some .k)
  else if n = 0x0D4 then some (none, some .k)
  else if n = 0x0E0 then some (some .u, none)
  else if 0x0F0 ≤ n ∧ n < 0x0F9 then some (some .k, some .k)
  else none

/-- The exception that an access to a number raises before anything else (R59, R61). -/
def cregPre (n : Nat) (write : Bool) (c : Core) : Option Nat :=
  match cregLevels n with
  | none => some xILLEGAL
  | some (r, w) =>
    if normalOnly n && c.sec && c.lvl != .m then some xILLEGAL
    else
      match if write then w else r with
      | none => some xPRIV
      | some l =>
        let l1 := if !write && isCounter n && !bitAt (c.cr cPMCTL) 1 then Level.k else l
        if c.lvl.below l1 then some xPRIV else none

/-- C_CORE_ID (R61). -/
def State.coreId (s : State) (n : Nat) : Word :=
  BitVec.ofNat 64 (n + 256 * s.fd .D2D_SITE D2D_SITE.SITE (n / 18) + 4096 * (n % 18) + 2 ^ 32 * s.pkgNum)

/-- C_PRSTAT (06 R183): the prediction state in force. -/
def prstat (ctl : Word) (busy : Bool) : Word :=
  let off := bitAt ctl 0
  BitVec.ofNat 64 (b2n off + 2 * b2n (!off && !bitAt ctl 1) + 4 * b2n (!off && !bitAt ctl 2) + 8 * b2n busy)

/-- C_CACHEST (07 R200, R211). -/
def Core.cachest (c : Core) : Word :=
  BitVec.ofNat 64 ((c.cr cCACHEST).toNat % 4 + 4 * b2n c.cleaning + 256 * min 255 c.l1iRet.length + 65536 * min 255 c.l1dRet.length)

/-- C_PSTAT (18 R473). -/
def State.pstatOf (s : State) (n : Nat) : Word :=
  let g := s.fd .PWR_DOM PWR_DOM.GFREQ 0 n
  BitVec.ofNat 64 (g + 64 * b2n (decide (g < max 8 (min 36 (s.fd .PWR_DOM PWR_DOM.FREQ 0 n)))))

/-- Package time as a core's die has it (02 R47), in units of 2^-32 ns: its replica, loaded at the last edge, counts on. DESIGN CHOICE
(log 148): how far it lies from the hub's counter, up to 1 ns either way, is free at each read. -/
def State.dieTime (s : State) (n : Nat) : Nat × State :=
  let v := s.die (n / 18)
  let (d, s1) := s.drawNat
  (v.timeRepl + (s.timeU - v.timeAt) + d % (2 ^ 33 + 1) - 2 ^ 32, s1)

/-- What MFC reads (R59); a read of C_TIME_NS latches the fraction. An invalidation that C_PRSTAT.CLRBUSY shows ends at a free
time. -/
def State.mfcRead (s : State) (n num : Nat) : Word × State :=
  let c := s.core n
  if num = 0x000 then (statWord c.lvl c.sec c.ie c.ss ||| (if c.mcip then 0x20 else 0), s)
  else if num = 0x001 then (s.coreId n, s)
  else if num = 0x002 then (0x10103, s)
  else if num = 0x008 then
    let (t, s1) := s.dieTime n
    (BitVec.ofNat 64 (t / 2 ^ 32), s1.modCore n (fun c => c.setCr 0x009 (BitVec.ofNat 64 (t % 2 ^ 32))))
  else if num = 0x00A then (BitVec.ofNat 64 (s.frameNo % 2 ^ 48), s)
  else if num = 0x082 then
    let (ctl, s1) := s.gov n (wk cPRCTL c.sec)
    if c.clrBusy then
      let (b, s2) := s1.drawBit
      (prstat ctl b, s2.modCore n (fun c => { c with clrBusy := b }))
    else (prstat ctl false, s1)
  else if num = 0x091 then (c.cachest, s)
  else if num = 0x0E0 then (s.pstatOf n, s)
  else (c.cr (c.ckey num), s)

/-- The bits of a register that an MTC writes at a level (R59 and the layouts). DESIGN CHOICE (log 146): all 64 bits of C_ECAUSE,
of which the tables define some. -/
def mtcMask (c : Core) (num : Nat) : Word :=
  let m := c.lvl == .m
  let bank : Nat → Word := fun r =>
    match r with
    | 0 => ~~~(0xFFF : Word)
    | 1 => ~~~(3 : Word)
    | 2 => if m then 0x1F else 0x1B
    | 5 => 0xFFFFFFFF007FFFFF
    | _ => ~~~(0 : Word)
  if (0x010 ≤ num ∧ num < 0x017) ∨ (0x020 ≤ num ∧ num < 0x027) ∨ (0x030 ≤ num ∧ num < 0x037) then bank (num % 16)
  else
    match num with
    | 0x040 => 0x7FFCE
    | 0x041 => 0x7FFCE
    | 0x042 => 0x7FFCE
    | 0x051 => 0
    | 0x062 => 7
    | 0x080 => 0xF
    | 0x090 => if m then 0x1F else 0x18
    | 0x0A0 => 0xFFFF0003
    | 0x0A1 => 0xFFFFFFFFFFF000
    | 0x0A2 => 3
    | 0x0A3 => 0xFFFFFFFFFFF000
    | 0x0A4 => 0xFFFF0003
    | 0x0A5 => 0xFFFFFFFFFFF000
    | 0x0A7 => 0xFFFFFFFF
    | 0x0C0 => 0x1FF
    | 0x0C1 => 0x1F
    | 0x0C2 => 0x1FFFFF
    | 0x0D0 => 0xFFFFFFFFFFFFFF
    | 0x0D1 => 0xFFFFFFFFFFE000
    | 0x0D3 => 0xF
    | _ => if 0x070 ≤ num ∧ num < 0x076 then 0x1FFF else ~~~(0 : Word)

/-- Registers that govern fetch or translation (R60, 06 R182, 07 R200, 08 R214). -/
def governs (num : Nat) : Bool := num == cPRCTL || num == cCACHECTL || (0x0A0 ≤ num && num < 0x0A6)

/-- A register whose written bits are a mask; one that governs fetch or translation keeps its old value beside it until the
next synchronising event (R60). -/
def Core.mtcPlain (c : Core) (num : Nat) (w : Word) : Core :=
  let k := c.ckey num
  let m := mtcMask c num
  let old := c.cr k
  let new := (old &&& ~~~m) ||| (w &&& m)
  let c1 := c.setCr k new
  if governs num && !(c.creg60.has k) then { c1 with creg60 := c.creg60.set k old } else c1

/-- C_CACHEST at a change of the enables (07 R200, R205-R207): the effective L2 enable has fallen over dirty lines, or an
effective enable over non-coherent lines. -/
def Core.enableFlags (old new : Core) : Core :=
  let lines := new.l2.l.map (fun e => e.2)
  let dirty := lines.any (fun e => e.st == .m || e.ncDirty)
  let nc := lines.any (fun e => e.st == .nc)
  let fall2 := old.l2en && !new.l2en
  let fall1 := old.l1den && !new.l1den
  let add : Nat := b2n (fall2 && dirty) + 2 * b2n ((fall1 || fall2) && nc)
  new.setCr cCACHEST (new.cr cCACHEST ||| BitVec.ofNat 64 add)

/-- What an MTC leaves of a core (R59), for the registers whose write is no operation. -/
def Core.mtcWrite (c : Core) (num : Nat) (w : Word) : Core :=
  match num with
  | 0x000 => { c with sec := if c.lvl = .m then bitAt w 2 else c.sec, ie := bitAt w 3, ss := bitAt w 4 }
  | 0x050 => c.setCr cMCINFO (c.cr cMCINFO &&& ~~~(w &&& 0x10))
  | 0x062 => { c.mtcPlain num w with frozen := false }
  | 0x063 => c.setCr cPMOVF (c.cr cPMOVF &&& ~~~(w &&& 0xFF))
  | 0x081 => c.prinv w
  | 0x090 => Core.enableFlags c (c.mtcPlain num w)
  | 0x091 => c.setCr cCACHEST (c.cr cCACHEST &&& ~~~(w &&& 3))
  | 0x0C0 =>
    let rm := if 5 ≤ w.toNat % 8 then (c.cr cNCTL).toNat % 8 else w.toNat % 8
    c.mtcPlain num ((w &&& ~~~(7 : Word)) ||| BitVec.ofNat 64 rm)
  | _ => c.mtcPlain num w

/-- An MTC that changes L1DEN or L2EN (07 R200). -/
def Core.changesEnables (c : Core) (num : Nat) (w : Word) : Bool :=
  num == cCACHECTL && ((c.cr cCACHECTL ^^^ (c.mtcPlain num w).cr cCACHECTL) &&& 6) != 0

/-- Invalidate L1I (07 R201, 03 R85). -/
def Core.dropL1i (c : Core) : Core := { c with l1i := .empty }

/-- The MTC to a number (R59, R60): the write that the instructions after it see. CLEANINV of C_CACHEOP completes by
CLEANINV_DONE (07 R201), which acts on what the core's stores have left; a change of L1DEN or L2EN waits for every earlier access
(07 R200): stores, remote writes, and requests that the core's CDA holds. -/
def State.mtcBody (s0 : State) (n num : Nat) (w : Word) (c : Core) (s : State) : Out :=
  match c.wait with
  | .none =>
    if num = 0x092 then
      let s1 := if bitAt w 1 then s.modCore n Core.dropL1i else s
      if bitAt w 0 then
        let r := s1.sbDrain n
        if r.1 then .next ((r.2.coreCleanInv n).modCore n (fun c => { c with wait := .cleaninv, cleaning := true }))
        else .next (s0.undo n r.2)
      else s1.done n c []
    else if num = 0x0D4 then .next ((s.retireInsn n c (c.pc + 4) false []).irtEoi n (w.toNat % 4096) c.sec)
    else if c.changesEnables num w then
      let r := s.sbDrain n
      if !r.1 || c.openW != 0 || (s.die (n / 18)).reqs.any (fun q => q.core == n) then .next (s0.undo n r.2)
      else .next (((r.2.modCore n Core.drainStores).retireInsn n c (c.pc + 4) false []).modCore n (fun c => c.mtcWrite num w))
    else .next ((s.retireInsn n c (c.pc + 4) false []).modCore n (fun c => c.mtcWrite num w))
  | _ => .next s0

/-- MTC (R59, R75): the destination field names the source register. -/
def State.mtcInsn (s : State) (o : RRI) (num : BitVec 12) : Out :=
  let w := wRRI 0x3A { o with imm := num }
  s.issue ⟨o.core, o.pred, o.pn, w, cregPre num.toNat true⟩
    (fun c s1 => s.mtcBody o.core num.toNat (c.rg o.d) c s1)

/-- MFC (R59). -/
def execMfc (o : RRI) (s : State) : Out :=
  s.issue ⟨o.core, o.pred, o.pn, wRRI 0x39 o, cregPre o.imm.toNat false⟩ (fun c s1 =>
    let r := s1.mfcRead o.core o.imm.toNat
    (r.2.modCore o.core (fun c => c.wg o.d r.1)).done o.core c [])

/-- MTC (R59). -/
def execMtc (o : RRI) (s : State) : Out := s.mtcInsn o o.imm
/-- MTC to C_CACHEOP (07 R201). -/
def execCacheopCleaninv (o : RRI) (s : State) : Out := s.mtcInsn o 0x092
/-- MTC to C_CACHEOP (07 R201). -/
def execCacheopInvl1i (o : RRI) (s : State) : Out := s.mtcInsn o 0x092
/-- MTC to C_CACHECTL (07 R200). -/
def execCacheEnableChange (o : RRI) (s : State) : Out := s.mtcInsn o 0x090
/-- MTC to C_ACCST (04 R110). -/
def execAccstWrite (o : RRI) (s : State) : Out := s.mtcInsn o 0x0C2
/-- MTC to C_PRINV (06 R183). -/
def execPrinvItt (o : RRI) (s : State) : Out := s.mtcInsn o 0x081
/-- MTC to C_PRINV (06 R183). -/
def execPrinvRs (o : RRI) (s : State) : Out := s.mtcInsn o 0x081
/-- MTC to C_IEOI (17 R457): at M the world is the one that SEC names. -/
def execIeoi (o : RRI) (s : State) : Out := s.mtcInsn o 0x0D4

/-- CLEANINV_DONE (07 R201): lines that had to wait leave; once every line has left and every dirty one has been acknowledged, the
MTC completes. -/
def execCleaninvDone (core : CoreNo) (s : State) : Out :=
  let c := s.core core
  if (s.coreLive core || c.dbg) && c.wait == .cleaninv then
    let s1 := s.coreCleanInv core
    if (s1.core core).l2.l.isEmpty && (s1.die (core / 18)).wb.all (fun e => !e.dirty) then
      .next ((s1.retireInsn core c (c.pc + 4) false []).modCore core (fun c => { c with cleaning := false, dbg := false }))
    else .next s1
  else .next s

end Sys2Proof.Machine
end

