-- ==== Sys2Proof/Machine/Access.lean ====
section
/-! DEFINITION. Data accesses of a core (03 R78-R82, R89, R92-R95; 04 R124; 13 R345; 15 R400): translation of one or two
pages, alignment, watchpoints, reads and writes by region, bus errors and machine checks. -/
namespace Sys2Proof.Machine

/-- A part of an access within one line: its physical address, type and world, its offset in the access, its bytes. -/
structure Piece where
  x : Xlated
  off : Nat
  size : Nat
deriving DecidableEq, Repr

/-- The parts of a run of bytes by line. -/
def linePieces (x : Xlated) (off size : Nat) : Nat → List Piece
  | 0 => []
  | k + 1 =>
    let n := min size (128 - x.pa % 128)
    ⟨x, off, n⟩ :: (if n = size then [] else linePieces { x with pa := x.pa + n } (off + n) (size - n) k)

/-- Whether a data watchpoint matches (R68, R450). The spec gives no layout of C_WADDR and C_WCTL: with one of them set and
debug at CONTROL the match is free. -/
def State.watchHit (s : State) (n : Nat) : Bool × State :=
  if s.dbgControl n && (List.range 4).any (fun k => (s.core n).cr (0x0F4 + k) != 0) then s.drawBit else (false, s)

/-- A kind of access that C_EINFO.WRITE marks. -/
def AccKind.writes (k : AccKind) : Bool := k == .store

/-- The exceptions of a data access at `va`. -/
def dataExc (cause code : Nat) (k : AccKind) (va : Word) : Exc := ⟨cause, einfo code k.writes false, va, false, false, none⟩

/-- KIND of the machine check of a data access (R95, 07 R211): 4 for what it has found in an array of a cache, 3 for a poison mark
that came with the data. -/
def Core.mcheckKind (c : Core) : Nat := if c.arrErr = 0 then 3 else 4

/-- DATA_MCHECK for data of a line that is not to be used (R95). -/
def State.mcheckExc (s : State) (n : Nat) (k : AccKind) (va : Word) (pa : Nat) : Exc :=
  ⟨xDATAMCHECK, einfo 0 k.writes false, va, false, false, some ((s.core n).mcheckKind, some pa)⟩

/-- Regions whose lines the caches may hold as normal coherent memory. -/
def cacheable (pa : Nat) : Bool :=
  match region pa with
  | .dram => true
  | .sram => true
  | .rom => true
  | .mram => true
  | _ => false

/-- A demand access of normal coherent memory: a stream of each prefetcher that is enabled follows its page (07 R195); the L1D
prefetcher has 16 streams, the L2 prefetcher 32. -/
def Core.notePage (c : Core) (va : Word) : Core :=
  let pg := va.toNat / 4096
  let put := fun (cap : Nat) (l : List Nat) => (pg :: l.filter (fun x => x != pg)).take cap
  { c with
    pf1 := if bitAt (c.cr cCACHECTL) 3 then put 16 c.pf1 else c.pf1
    pf2 := if bitAt (c.cr cCACHECTL) 4 then put 32 c.pf2 else c.pf2 }

/-- The streams follow the pages that an access touches. -/
def State.notePages (s : State) (n : Nat) (va : Word) (x : Xlated) : State :=
  if x.mt = 0 ∧ cacheable x.pa then s.modCore n (fun c => c.notePage va) else s

/-- A device-typed access is misaligned, or wider than 8 bytes (R82, 04 R124). -/
def deviceBad (x : Xlated) (va : Word) (size : Nat) : Bool := x.mt == 2 && (decide (8 < size) || va.toNat % size != 0)

/-- The physical address of a translated page, a self-folded global address as the local one (01 R27). -/
def State.foldX (s : State) (x : Xlated) : Xlated := { x with pa := s.fold x.pa }

/-- The parts of a data access (R69 steps 9 to 11, R82, 04 R124): DATA_ALIGN, then WATCH, then a translation fault, that of
the lower address first. -/
def State.dataPieces (s : State) (n : Nat) (va : Word) (size : Nat) (nd : Need) (k : AccKind) : Res (List Piece) × State :=
  let (watch, s0) := (s.modCore n (fun c => { c with arrErr := 0 })).watchHit n
  let (g, s1) := s0.regime n
  let first := min size (4096 - va.toNat % 4096)
  let va2 := va + BitVec.ofNat 64 first
  match s1.translate g nd va with
  | (.busy, s2) => (.stall, s2)
  | (.fault f, s2) =>
    if watch then (.trap (dataExc xWATCH 0 k va), s2)
    else Res.bind (s2.xlTrap n k va f) (fun _ s3 => (.stall, s3))
  | (.ok x, s9) =>
    let s2 := s9.notePages n va x
    if deviceBad x va size then (.trap (dataExc xDATAALIGN 0 k va), s2)
    else
      let l := linePieces (s2.foldX x) 0 first 6
      if first = size then (if watch then .trap (dataExc xWATCH 0 k va) else .ok l, s2)
      else
        match s2.translate g nd va2 with
        | (.busy, s3) => (.stall, s3)
        | (.fault f, s3) =>
          if watch then (.trap (dataExc xWATCH 0 k va), s3)
          else Res.bind (s3.xlTrap n k va2 f) (fun _ s4 => (.stall, s4))
        | (.ok y, s8) =>
          let s3 := s8.notePages n va2 y
          if y.mt = 2 then (.trap (dataExc xDATAALIGN 0 k va), s3)
          else if watch then (.trap (dataExc xWATCH 0 k va), s3)
          else (.ok (l ++ linePieces (s3.foldX y) first (size - first) 6), s3)

/-- What a core's access to the register space got at once; its completion is a packet (09 R241). -/
def State.regEnd (s : State) (i : Init) (dst off o : Nat) (st : Status) (v : Word) : LineAcc × State :=
  (if st = .ok then .line (lineAt o v) 0 else .status st, s.regReply i dst off st v)

/-- A configuration access of a core (13 R336, R337): answered inside the package at once, or by one request a dword. -/
def State.cfgPiece (s : State) (n : Nat) (x : Xlated) (off size : Nat) (write : Bool) (data : Word) : LineAcc × State :=
  let i := s.coreInit n x.sec (s.coreTag n insnTag)
  let dst := hbNode (cfgCtl off)
  match (s.regRequest i dst off write data).cfgAccess i off (8 * size) write data with
  | (.done st v, s1) => s1.regEnd i dst off (x.pa % 128) st v
  | (.dev k j, s1) => (.wait, (s1.cfgSend i k j off i.tag write data true).waitReply n i.tag)

/-- A core's access to the register space below the configuration segments (00 R6, 09 R241): its completion at once, or, of a write
that the hub holds or the Luna controller checks, once that is done (02 R51, R53). -/
def State.regVisit (s : State) (n : Nat) (x : Xlated) (off size : Nat) (write : Bool) (data : Word) : LineAcc × State :=
  let i := s.coreInit n x.sec (s.coreTag n heldTag)
  match (s.regRequest i (regNode off) off write data).regAccess i off (8 * size) write data with
  | (.done st v, s1) => s1.regEnd i (regNode off) off (x.pa % 128) st v
  | (.stall, _) => (.stall, s)
  | (.held, s1) => (.wait, s1.waitReply n i.tag)

/-- The low dword of a 64-bit configuration access is done: the request for the high one follows (13 R337). -/
def State.cfgHigh (s : State) (n : Nat) (x : Xlated) (off : Nat) (write : Bool) (data : Word) (low : LineData) : LineAcc × State :=
  let i := s.coreInit n x.sec (s.coreTag n cfgHighTag)
  let lo : Word := BitVec.setWidth 64 (BitVec.setWidth 32 low)
  match s.cfgAccess i (off + 4) 32 write (data >>> 32) with
  | (.done .ok v, s1) => (.line (lineAt (x.pa % 128) (lo ||| (v <<< 32))) 0, s1)
  | (.done st _, s1) => (.status st, s1)
  | (.dev k j, s1) =>
    (.wait, ((s1.keepLine n (x.pa / 128) low 0).cfgSend i k j (off + 4) i.tag write (data >>> 32) true).waitReply n i.tag)

/-- An access to the register space (00 R6, R89): its answer at once, or a reply awaited; a value read lies at its place in
the line. -/
def State.regPiece (s : State) (n : Nat) (x : Xlated) (size : Nat) (write : Bool) (data : Word) : LineAcc × State :=
  let off := x.pa - 0x800000000000
  let place := fun (v : Word) => LineAcc.line (lineAt (x.pa % 128) v) 0
  if s.tagBad n x.sec then (.status .decerr, s.spoof (s.coreSlice n) 0 (coreNode n) x.pa)
  else
    match (s.core n).wait with
    | .reply t =>
      match s.takeReply n t with
      | some (some r, s1) =>
        if r.status ≠ .ok then (.status r.status, s1)
        else if t / 256 = insnTag / 256 ∧ size = 8 then s1.cfgHigh n x off write data r.data
        else if t / 256 = cfgHighTag / 256 then
          let lo : Word := match (s.core n).rbuf.get? (x.pa / 128) with | some e => BitVec.setWidth 64 (BitVec.setWidth 32 e.1) | none => 0
          (place (lo ||| (BitVec.setWidth 64 r.data <<< 32)), s1)
        else (place (lowBytes size (BitVec.setWidth 64 r.data)), s1)
      | _ => (.wait, s)
    | _ =>
      if x.pa < 0x800080000000 then s.regVisit n x off size write data else s.cfgPiece n x off size write data

/-- A read of one part: of memory, through L1D, with the core's own stores that no one else sees yet over it (R86). -/
def State.readPiece (s : State) (n : Nat) (p : Piece) : LineAcc × State :=
  if region p.x.pa = .regs ∧ p.x.mt = 2 then s.regPiece n p.x p.size false 0
  else
    match s.readAt n insnTag p.x p.size with
    | (.line d m, s1) =>
      if p.x.mt = 2 then (.line d m, s1)
      else
        let s2 := s1.l1dSide n (p.x.pa / 128)
        let v := (s2.core n).overlay (p.x.pa / 128) p.x.sec (d, m)
        (.line v.1 v.2, s2)
    | r => r

/-- The bytes of a part as a number. -/
def pieceBytes (d : LineData) (o size : Nat) : Nat := d.toNat / 2 ^ (8 * o) % 2 ^ (8 * size)

/-- Read the parts in order: the value, little-endian, and the line of the first word consumed that is poisoned or lies in an L1D
entry with a second error (07 R211). -/
def State.readPieces (s : State) (n : Nat) (va : Word) : List Piece → Nat → Option Nat → Res Nat × State
  | [], v, none => (.ok v, s)
  | [], _, some a => (.trap (s.mcheckExc n .load va a), s)
  | p :: t, v, bad =>
    match s.readPiece n p with
    | (.stall, s1) => (.stall, s1)
    | (.wait, s1) => (.wait, s1)
    | (.status st, s1) => (.trap (dataExc xBUSERR (Status.code st) .load va), s1)
    | (.line d m, s1) =>
      let o := p.x.pa % 128
      State.readPieces s1 n va t (v + pieceBytes d o p.size * 2 ^ (8 * p.off))
        (match bad with | some a => some a | none => if touched m o p.size || (s1.core n).arrErr == 1 then some p.x.pa else none)

/-- Every earlier store becomes visible, and its status is in (R88, R89, R94). -/
def State.allStored (s : State) (n : Nat) : Res Unit × State :=
  let r := s.sbDrain n
  if r.1 then (.ok (), r.2.modCore n Core.drainStores) else (.stall, r.2)

/-- A store that the core holds before it becomes visible: one to normal coherent memory. -/
def Piece.held (p : Piece) : Bool := p.x.mt == 0 && cacheable p.x.pa

/-- Before an access to device-typed memory every earlier store has completed (R89, R94); before any other store that leaves the
core at once, every earlier one is visible (R86). -/
def State.storeOrder (s : State) (n : Nat) (store : Bool) (l : List Piece) : Res Unit × State :=
  if l.any (fun p => p.x.mt == 2) then s.allStored n
  else if store && l.any (fun p => !p.held) then
    let r := s.sbDrain n
    (if r.1 then .ok () else .stall, r.2)
  else (.ok (), s)

/-- Event 0x13: global-window accesses issued (R102). DESIGN CHOICE (log 145): loads, stores, atomics and CMOs count, fetches do
not. -/
def globEvents (l : List Piece) : List (Nat × Nat) :=
  match (l.filter (fun p => region p.x.pa == .globl)).length with
  | 0 => []
  | k => [(0x13, k)]

/-- A load of `size` bytes (R78, R82, R93, R95; 04 R124): its value and events. -/
def State.loadBytes (s : State) (n : Nat) (va : Word) (size : Nat) : Res (Nat × List (Nat × Nat)) × State :=
  Res.bind (s.dataPieces n va size needLoad .load) (fun l s1 =>
    Res.bind (s1.storeOrder n false l) (fun _ s2 =>
      Res.bind (s2.readPieces n va l 0 none) (fun v s3 => (.ok (v, (0x0D, 1) :: globEvents l), s3))))

/-! Stores. -/

/-- How the store of a part ends: done, with a status; not yet; or held back because the hold area is full (16 R431). -/
inductive StRes where
  | done (st : Status)
  | stall
  | wait
  | full

/-- The line data and mask of a part of a store. -/
def Piece.line (p : Piece) (v : Nat) : LineData :=
  BitVec.ofNat 1024 ((v / 2 ^ (8 * p.off) % 2 ^ (8 * p.size)) * 2 ^ (8 * (p.x.pa % 128)))
def Piece.mask (p : Piece) : BitVec 128 := byteMask (p.x.pa % 128) p.size

/-- A write to the host bus or to another package: held output of a mirrored partition is done when it is held (16 R431). -/
def State.outPiece (s : State) (n : Nat) (va : Word) (p : Piece) (d : LineData) : StRes × State :=
  let tag := s.nextPost n
  let i := s.coreInit n p.x.sec tag
  let host := region p.x.pa == .hostBus
  let r : OutReq := ⟨p.x.pa, p.size, true, d, true, tag, none⟩
  let m : FabMsg := { FabMsg.bare (if p.size = 128 then 1 else 2) with mask := p.mask, data := d }
  if s.hbGated p.x.pa then (.stall, s) else
  match s.holdOutput i (if host then some r else none) (if host then none else some (p.x.pa / 128, m)) with
  | some (true, s1) => (.done .ok, s1)
  | some (false, s1) => (.full, s1)
  | none =>
    if host then
      match s.hbOut i r with
      | (some st, s1) => (.done st, s1)
      | (none, s1) => (.done .ok, s1)
    else
      match s.globalReq i tag va (p.x.pa / 128) m with
      | (.answer st, s1) => (.done st, s1)
      | (.stall, s1) => (.stall, s1)
      | (.wait, s1) => (.done .ok, s1)

/-- A store of one part (R86-R89): device-typed, coherent (held until it becomes visible), non-coherent, host bus or global
window. -/
def State.storePiece (s : State) (n : Nat) (va : Word) (p : Piece) (v : Nat) : StRes × State :=
  let line := p.x.pa / 128
  let d := p.line v
  let c := s.core n
  if s.tagBad n p.x.sec then (.done .decerr, s.spoof (s.coreSlice n) 0 (coreNode n) p.x.pa)
  else
    let mem : Status × State → StRes × State := fun r => if r.1 = .retry then (.stall, r.2) else (.done r.1, r.2)
    match region p.x.pa with
    | .globl => s.outPiece n va p d
    | .hostBus =>
      if p.x.mt = 2 || !c.l2en then s.outPiece n va p d
      else
        match c.l2.get? line, c.rbuf.get? line with
        | some _, _ => (.done .ok, (s.l1dFill n line).l2Store n line p.mask d)
        | none, some b =>
          match s.l2Fill n line .nc b.1 b.2 with
          | some s1 => (.done .ok, (s1.l1dFill n line).l2Store n line p.mask d)
          | none => (.stall, s)
        | none, none => (.stall, s)
    | .regs =>
      if p.x.mt = 2 then
        match s.regPiece n p.x p.size true (BitVec.ofNat 64 v) with
        | (.line _ _, s1) => (.done .ok, s1)
        | (.status st, s1) => (.done st, s1)
        | (.stall, s1) => (.stall, s1)
        | (.wait, s1) => (.wait, s1)
      else (.done .decerr, s)
    | .reserved => (.done .decerr, s)
    | _ =>
      if p.x.mt = 2 then
        let q := { s.cdaReq (n / 18) line p.x.sec with mask := p.mask, data := d }
        let (r, s1) := s.homePast n (if p.mask = fullMask then opWRF else opWRP) line q
        mem (r.status, s1)
      else if p.x.mt = 1 then mem (s.ncStore n line p.x.sec p.mask d)
      else (.done .ok, s.sbPut n ⟨line, p.x.sec, p.mask, d, va⟩)

/-- The lines that a store merges into and that a reply must bring first: non-coherent lines of the host bus while L2 is
enabled (13 R345, 07 R194). A bus error of one is the store's. -/
def State.storeFills (s : State) (n : Nat) : List Piece → Res (Option Status) × State
  | [] => (.ok none, s)
  | p :: t =>
    let c := s.core n
    if region p.x.pa == .hostBus && p.x.mt != 2 && c.l2en && !(c.l2.has (p.x.pa / 128)) && !s.tagBad n p.x.sec then
      match s.hostRead n insnTag p.x.sec (p.x.pa / 128 * 128) 128 with
      | (.line _ _, s1) => State.storeFills s1 n t
      | (.status st, s1) => (.ok (some st), s1)
      | (.stall, s1) => (.stall, s1)
      | (.wait, s1) => (.wait, s1)
    else State.storeFills s n t

/-- Store the parts in order; `s0` is the state before the first, and the instruction starts anew from it where a part must wait. A
device-typed store's error is precise (R89, R94); that of a store to normal memory is deferred. -/
def State.storePieces (s0 : State) (n : Nat) (va : Word) (v : Nat) : List Piece → State → Res Unit × State
  | [], s => (.ok (), s)
  | p :: t, s =>
    match s.storePiece n va p v with
    | (.stall, s1) => (.stall, if p.off = 0 then s1 else s0)
    | (.wait, s1) => (.wait, s1)
    | (.full, _) => (.wait, s0.setFd .PAIR_STATUS PAIR_STATUS.OHFULL 1)
    | (.done st, s1) =>
      if p.x.mt = 2 then
        if st = .ok then State.storePieces s0 n va v t s1
        else (.trap (dataExc xBUSERR (Status.code st) .store va), s1)
      else State.storePieces s0 n va v t (s1.modCore n (Core.storeOut st va))

/-- Store the translated parts of an access. -/
def State.storeAll (s : State) (n : Nat) (va : Word) (v : Nat) (l : List Piece) : Res (List (Nat × Nat)) × State :=
  Res.bind (s.storeOrder n true l) (fun _ s0 =>
    Res.bind (s0.storeFills n l) (fun f s1 =>
      match f with
      | some st => (.ok [(0x0E, 1)], s1.modCore n (Core.storeOut st va))
      | none => Res.bind (s1.storePieces n va v l s1) (fun _ s2 => (.ok ((0x0E, 1) :: globEvents l), s2))))

/-- A store of `size` bytes (R78, R82, R94; 04 R124): its events. -/
def State.storeBytes (s : State) (n : Nat) (va : Word) (size v : Nat) : Res (List (Nat × Nat)) × State :=
  Res.bind (s.dataPieces n va size needStore .store) (fun l s1 => s1.storeAll n va v l)

/-! ATOM (R80, R81, 10 R291, R292). -/

/-- What an ATOM got. -/
inductive AtomRes where
  | old (w : Word)
  | poison
  | status (st : Status)
  | stall
  | wait
  | full

/-- An ATOM's reply from a home. -/
def homeAtom (r : HReply × State) : AtomRes × State :=
  if r.1.status = .retry then (.stall, r.2)
  else if r.1.status ≠ .ok then (.status r.1.status, r.2)
  else if r.1.psn then (.poison, r.2)
  else (.old r.1.old, r.2)

/-- An ATOM that leaves the package: to the engine of another package (15 R400, R401), or to the host bus. Held output of
a mirrored partition is done when it is held; its old value is free (16 R431). -/
def State.atomOut (s : State) (n : Nat) (x : Xlated) (size : Nat) (m : FabMsg) : AtomRes × State :=
  let tag := s.coreTag n insnTag
  let i := s.coreInit n x.sec tag
  let host := region x.pa == .hostBus
  let o := x.pa % 128
  let r : OutReq := ⟨x.pa, size, true, lineAt o m.operand, false, tag, none⟩
  match s.takeReply n insnTag with
  | some (none, _) => (.wait, s)
  | some (some q, s1) =>
    if q.status ≠ .ok then (.status q.status, s1)
    else if q.poison.getLsbD 0 then (.poison, s1)
    else (.old (lowBytes size q.old), s1)
  | none =>
    if s.hbGated x.pa then (.stall, s) else
    match s.holdOutput i (if host then some r else none) (if host then none else some (x.pa / 128, m)) with
    | some (true, s1) =>
      let (w, s2) := s1.drawWord
      (.old (lowBytes size w), s2)
    | some (false, s1) => (.full, s1)
    | none =>
      if host then
        match s.hbOut i r with
        | (some st, s1) => (.status st, s1)
        | (none, s1) => (.wait, s1.waitReply n tag)
      else
        match s.globalReq i tag 0 (x.pa / 128) m with
        | (.answer st, s1) => (.status st, s1)
        | (.stall, s1) => (.stall, s1)
        | (.wait, s1) => (.wait, s1.waitReply n tag)

/-- An ATOM in the core's L2 (10 R291): the line in E or M, the operation, the line in M. A line that the core's world may not see
is not changed (01 R26). -/
def State.atomNear (s : State) (n : Nat) (x : Xlated) (q : CohReq) : AtomRes × State :=
  let line := x.pa / 128
  let r := s.cohOwn n line x.sec
  let size := atomSize q.aop
  if r.status = .retry then (.stall, r.s)
  else if r.status ≠ .ok then (.status r.status, r.s)
  else if s.unseen opRDO (n / 18) line x.sec then (.old (lineBytes r.data q.aoff size), r.s)
  else if touched r.poison q.aoff size then (.poison, r.s)
  else
    let old := lineBytes r.data q.aoff size
    let nw := atomNew (q.aop % 16) size old q.operand q.compare
    (.old old, (r.s.l1dFill n line).l2Store n line (byteMask q.aoff size) (lineAt q.aoff nw))

/-- An ATOM at a translated, naturally aligned address by PLACE and its overrides (10 R291, R292): PLACE 0 automatic, 1
near, 2 far, 3 memory. -/
def State.atomAt (s : State) (n : Nat) (x : Xlated) (aop place : Nat) (operand compare : Word) : AtomRes × State :=
  let line := x.pa / 128
  let size := atomSize aop
  let q := { s.cdaReq (n / 18) line x.sec with aop := aop, aoff := x.pa % 128, operand := operand, compare := compare }
  let m : FabMsg := { FabMsg.bare 3 with aop := aop, aoff := x.pa % 128, operand := operand, compare := compare }
  let dram := region x.pa == .dram
  if s.tagBad n x.sec then (.status .decerr, s.spoof (s.coreSlice n) 0 (coreNode n) x.pa)
  else
    match region x.pa with
    | .globl => s.atomOut n x size m
    | .hostBus => match s.l2CleanInv n line with | some s1 => s1.atomOut n x size m | none => (.stall, s)
    | .regs => (.status .decerr, s)
    | .reserved => (.status .decerr, s)
    | _ =>
      if x.mt = 1 then
        match s.l2CleanInv n line with
        | some s1 => homeAtom (s1.homePast n (if dram then opATOMM else opATOMF) line q)
        | none => (.stall, s)
      else
        let own := match (s.core n).l2.get? line with | some e => decide (2 ≤ e.st.rank) | none => false
        let near := (place == 1 || (place == 0 && own)) && (s.core n).l2en
        if near then s.atomNear n x q
        else homeAtom ((s.dcSync (n / 18) line).homePast n (if place = 3 ∧ dram then opATOMM else opATOMF) line q)

/-- ATOM of `size` bytes (R69, R80-R82): its old value and events. -/
def State.atomBytes (s : State) (n : Nat) (va : Word) (aop place : Nat) (operand compare : Word) :
    Res (Word × List (Nat × Nat)) × State :=
  let size := atomSize aop
  if va.toNat % size ≠ 0 then (.trap (dataExc xDATAALIGN 0 .store va), s)
  else
    let (watch, s0) := (s.modCore n (fun c => { c with arrErr := 0 })).watchHit n
    let (g, s1) := s0.regime n
    match s1.translate g needAtom va with
    | (.busy, s2) => (.stall, s2)
    | (.fault f, s2) =>
      if watch then (.trap (dataExc xWATCH 0 .store va), s2)
      else Res.bind (s2.xlTrap n .store va f) (fun _ s3 => (.stall, s3))
    | (.ok y, s9) =>
      let s2 := s9.notePages n va y
      let x := s2.foldX y
      let glob := region x.pa == .globl
      if x.mt = 2 || (glob && !s2.linkFeat (globPkg x.pa) 1 && s2.lstate (globPkg x.pa) == 2) then
        (.trap (dataExc xATOMIC 0 .store va), s2)
      else if watch then (.trap (dataExc xWATCH 0 .store va), s2)
      else
        Res.bind (s2.allStored n) (fun _ s3 =>
          match s3.atomAt n x aop place operand compare with
          | (.stall, s4) => (.stall, s4)
          | (.wait, s4) => (.wait, s4)
          | (.full, _) => (.wait, s2.setFd .PAIR_STATUS PAIR_STATUS.OHFULL 1)
          | (.status st, s4) => (.trap (dataExc xBUSERR (Status.code st) .store va), s4)
          | (.poison, s4) => (.trap (s4.mcheckExc n .store va x.pa), s4)
          | (.old w, s4) => (.ok (w, (0x0F, 1) :: (if glob then [(0x13, 1)] else [])), s4))

end Sys2Proof.Machine
end

