-- ==== Sys2Proof/Machine/LoadStore.lean ====
section
/-! DEFINITION. The loads, stores and atomics of the integer core (03 R78-R82). -/
namespace Sys2Proof.Machine

/-- A loaded value as the register gets it: zero-extended, or sign-extended from `size` bytes (R78). -/
def loadExt (sgn : Bool) (size v : Nat) : Word :=
  if sgn then BitVec.ofInt 64 (signBytes size (BitVec.ofNat 64 v)) else BitVec.ofNat 64 v

/-- A load of `size` bytes into a g register. -/
def State.loadInsn (s : State) (i : Insn) (addr : Core → Word) (size : Nat) (sgn : Bool) (d : BitVec 5) : Out :=
  s.issue i (fun c s1 => Res.andThen (s1.loadBytes i.n (addr c) size) s i.n (fun r s2 =>
    (s2.modCore i.n (fun c => c.wg d (loadExt sgn size r.1))).done i.n c r.2))

/-- A store of the low `size` bytes of a g register. -/
def State.storeInsn (s : State) (i : Insn) (addr : Core → Word) (size : Nat) (d : BitVec 5) : Out :=
  s.issue i (fun c s1 => Res.andThen (s1.storeBytes i.n (addr c) size ((c.rg d).toNat % 2 ^ (8 * size))) s i.n (fun r s2 =>
    s2.done i.n c r))

/-- A load and a store of the M format (R78). -/
def State.loadM (s : State) (opc : BitVec 6) (o : RRI) (size : Nat) (sgn : Bool) : Out :=
  s.loadInsn (RRI.insn o (wRRI opc o) false .u) (fun c => c.mAddr o size) size sgn o.d
def State.storeM (s : State) (opc : BitVec 6) (o : RRI) (size : Nat) : Out :=
  s.storeInsn (RRI.insn o (wRRI opc o) false .u) (fun c => c.mAddr o size) size o.d

/-- LDB (R78). -/
def execLdb (o : RRI) (s : State) : Out := s.loadM 0x10 o 1 false
/-- LDBS (R78). -/
def execLdbs (o : RRI) (s : State) : Out := s.loadM 0x11 o 1 true
/-- LDH (R78). -/
def execLdh (o : RRI) (s : State) : Out := s.loadM 0x12 o 2 false
/-- LDHS (R78). -/
def execLdhs (o : RRI) (s : State) : Out := s.loadM 0x13 o 2 true
/-- LDW (R78). -/
def execLdw (o : RRI) (s : State) : Out := s.loadM 0x14 o 4 false
/-- LDWS (R78). -/
def execLdws (o : RRI) (s : State) : Out := s.loadM 0x15 o 4 true
/-- LDD (R78). -/
def execLdd (o : RRI) (s : State) : Out := s.loadM 0x16 o 8 false
/-- STB (R78). -/
def execStb (o : RRI) (s : State) : Out := s.storeM 0x18 o 1
/-- STH (R78). -/
def execSth (o : RRI) (s : State) : Out := s.storeM 0x19 o 2
/-- STW (R78). -/
def execStw (o : RRI) (s : State) : Out := s.storeM 0x1A o 4
/-- STD (R78). -/
def execStd (o : RRI) (s : State) : Out := s.storeM 0x1B o 8

/-- LDX (R79): function bits [6:4] must be 0. -/
def execLdx (o : RRRF) (s : State) : Out :=
  s.loadInsn (RRRF.insn o (wRRRF 0x1C o) (decide (16 ≤ o.f.toNat)) .u) (fun c => c.xAddr o) (xSize o) (o.f.getLsbD 2) o.d
/-- STX (R79): function bits [6:4] and [2] must be 0. -/
def execStx (o : RRRF) (s : State) : Out :=
  s.storeInsn (RRRF.insn o (wRRRF 0x1D o) (decide (16 ≤ o.f.toNat) || o.f.getLsbD 2) .u) (fun c => c.xAddr o) (xSize o) o.d

/-- ATOM (R80-R82): the old value, zero-extended, goes to g[d]; CAS compares with the old g[d]. -/
def State.atomInsn (s : State) (op : BitVec 4) (o : AtomF) : Out :=
  s.issue ⟨o.core, o.pred, o.pn, wAtom op o, preChk false .u⟩ (fun c s1 =>
    Res.andThen (s1.atomBytes o.core (c.rg o.s1) (op.toNat + 16 * b2n o.dbl) o.place.toNat (c.rg o.s2) (c.rg o.d)) s o.core
      (fun r s2 => (s2.modCore o.core (fun c => c.wg o.d r.1)).done o.core c r.2))

/-- ATOM.SWAP (R80). -/
def execAtomSwap (o : AtomF) (s : State) : Out := s.atomInsn 0 o
/-- ATOM.ADD (R80). -/
def execAtomAdd (o : AtomF) (s : State) : Out := s.atomInsn 1 o
/-- ATOM.AND (R80). -/
def execAtomAnd (o : AtomF) (s : State) : Out := s.atomInsn 2 o
/-- ATOM.OR (R80). -/
def execAtomOr (o : AtomF) (s : State) : Out := s.atomInsn 3 o
/-- ATOM.XOR (R80). -/
def execAtomXor (o : AtomF) (s : State) : Out := s.atomInsn 4 o
/-- ATOM.SMIN (R80). -/
def execAtomSmin (o : AtomF) (s : State) : Out := s.atomInsn 5 o
/-- ATOM.SMAX (R80). -/
def execAtomSmax (o : AtomF) (s : State) : Out := s.atomInsn 6 o
/-- ATOM.UMIN (R80). -/
def execAtomUmin (o : AtomF) (s : State) : Out := s.atomInsn 7 o
/-- ATOM.UMAX (R80). -/
def execAtomUmax (o : AtomF) (s : State) : Out := s.atomInsn 8 o
/-- ATOM.CAS (R80). -/
def execAtomCas (o : AtomF) (s : State) : Out := s.atomInsn 15 o

end Sys2Proof.Machine
end

