-- ==== Sys2Proof/Machine/Cmo.lean ====
section
/-! DEFINITION. Cache maintenance and prefetch (03 R85, 07 R195, R202-R204, 06 R187, R188; 15 R400), and what a cancelled path
leaves (06 R177, R186, R187). -/
namespace Sys2Proof.Machine

/-- The CMOs that act on one line of memory. -/
inductive CmoKind where
  | flush
  | clean
  | drop
  | zero
deriving DecidableEq, Repr

/-- A CMO that needs write permission (R85, 08 R220). -/
def CmoKind.writes : CmoKind → Bool
  | .drop => true
  | .zero => true
  | _ => false

/-- The outcome of a CMO at its line. -/
inductive CmoRes where
  | done (st : Status)
  | stall
  | wait
  | full

/-- A core's own copy of a normal non-coherent line (07 R202): written back if dirty, and kept by LCLEAN; or dropped. None while
the write-back must wait. -/
def State.ncCmo (s0 : State) (n line : Nat) (k : CmoKind) : Option State :=
  let s := s0.l2Check n line
  match (s.core n).l2.get? line with
  | none => some s
  | some e =>
    match k with
    | .drop => if e.st = .nc then some (s.modCore n (fun c => c.dropLine line)) else s.l2CleanInv n line
    | .clean =>
      if e.st = .nc && e.ncDirty then
        (s.ncBack n line e.data e.poison).map (fun s1 =>
          s1.modCore n (fun c => { c with l2 := c.l2.set line { e with ncDirty := false } }))
      else some s
    | _ => s.l2CleanInv n line

/-- A CMO on the core's own copy, as an outcome. -/
def State.ownCmo (s : State) (n line : Nat) (k : CmoKind) : CmoRes × State :=
  match s.ncCmo n line k with
  | some s1 => (.done .ok, s1)
  | none => (.stall, s)

/-- LZERO of a non-coherent line (07 R202): own L2 allocates it as zeros, dirty; with L2 disabled the zeros go out. -/
def State.ncZero (s : State) (n : Nat) (va : Word) (x : Xlated) : CmoRes × State :=
  let line := x.pa / 128
  if (s.core n).l2en then
    match (s.l2CleanInv n line).bind (fun s1 => s1.l2Fill n line .nc 0 0) with
    | some s2 => (.done .ok, (s2.l1dFill n line).l2Store n line fullMask 0)
    | none => (.stall, s)
  else if region x.pa = .hostBus then
    match s.outPiece n va ⟨{ x with pa := line * 128 }, 0, 128⟩ 0 with
    | (.done st, s1) => (.done st, s1)
    | (.full, s1) => (.full, s1)
    | (.wait, s1) => (.wait, s1)
    | (.stall, s1) => (.stall, s1)
  else
    match s.ncStore n line x.sec fullMask 0 with
    | (.retry, s1) => (.stall, s1)
    | (st, s1) => (.done st, s1)

/-- A CMO on another package's line (15 R400). -/
def State.globCmo (s : State) (n : Nat) (va : Word) (x : Xlated) (k : CmoKind) : CmoRes × State :=
  let line := x.pa / 128
  match k with
  | .zero =>
    match s.outPiece n va ⟨{ x with pa := line * 128 }, 0, 128⟩ 0 with
    | (.done st, s1) => (.done st, s1)
    | (.full, s1) => (.full, s1)
    | (.wait, s1) => (.wait, s1)
    | (.stall, s1) => (.stall, s1)
  | _ =>
    match s.takeReply n insnTag with
    | some (none, _) => (.wait, s)
    | some (some r, s1) => (.done r.status, s1)
    | none =>
      let tag := s.coreTag n insnTag
      match s.globalReq (s.coreInit n x.sec tag) tag va line (FabMsg.bare (if k = .clean then 4 else 5)) with
      | (.answer st, s1) => (.done st, s1)
      | (.stall, s1) => (.stall, s1)
      | (.wait, s1) => (.wait, s1.waitReply n tag)

/-- A CMO at a translated address (07 R202, R204). -/
def State.cmoAt (s : State) (n : Nat) (va : Word) (x : Xlated) (k : CmoKind) : CmoRes × State :=
  let line := x.pa / 128
  let fin : Status × State → CmoRes × State := fun r => if r.1 = .retry then (.stall, r.2) else (.done r.1, r.2)
  let home := fun (op : Nat) =>
    let (r, s1) := s.homePast n op line (s.cdaReq (n / 18) line x.sec)
    fin (r.status, s1)
  if s.tagBad n x.sec then (.done .decerr, s.spoof (s.coreSlice n) 0 (coreNode n) x.pa)
  else
    match region x.pa with
    | .globl => s.globCmo n va x k
    | .hostBus => if k = .zero then s.ncZero n va x else s.ownCmo n line k
    | .regs => (.done .decerr, s)
    | .reserved => (.done .decerr, s)
    | _ =>
      if x.mt = 1 then if k = .zero then s.ncZero n va x else s.ownCmo n line k
      else
        match k with
        | .zero => fin (s.cohZero n line x.sec)
        | .clean => home opCLN
        | _ => home opFLS

/-- LFLUSH, LCLEAN, LDROP and LZERO (R85, 07 R202): a fault of the translation; no access to device-typed memory, where
LZERO raises DATA_ALIGN; a bus error is precise (R93). The core's earlier stores are visible before the line is acted on. -/
def State.cmoLine (s : State) (n : Nat) (va : Word) (k : CmoKind) : Res (List (Nat × Nat)) × State :=
  let a : AccKind := if k.writes then .store else .load
  let (watch, s0) := if k = .zero then s.watchHit n else (false, s)
  let (g, s1) := s0.regime n
  match s1.translate g (if k.writes then needStore else needLoad) va with
  | (.busy, s2) => (.stall, s2)
  | (.fault f, s2) =>
    if watch then (.trap (dataExc xWATCH 0 a va), s2)
    else Res.bind (s2.xlTrap n a va f) (fun _ s3 => (.stall, s3))
  | (.ok y, s2) =>
    let x := s2.foldX y
    if x.mt = 2 then (if k = .zero then .trap (dataExc xDATAALIGN 0 a va) else .ok [], s2)
    else if watch then (.trap (dataExc xWATCH 0 a va), s2)
    else
      let r := s2.sbDrain n
      if !r.1 then (.stall, r.2)
      else
        match r.2.cmoAt n va x k with
        | (.stall, s3) => (.stall, s3)
        | (.wait, s3) => (.wait, s3)
        | (.full, _) => (.wait, s2.setFd .PAIR_STATUS PAIR_STATUS.OHFULL 1)
        | (.done st, s3) =>
          if st = .ok then (.ok (if region x.pa == .globl then [(0x13, 1)] else []), s3)
          else (.trap (dataExc xBUSERR (Status.code st) a va), s3)

/-- A CMO instruction on one line. -/
def State.cmoInsn (s : State) (f : BitVec 7) (o : RRR) (l : Level) (k : CmoKind) : Out :=
  s.issue (RRR.insn o (wRRR 0x3B f o) false l) (fun c s1 =>
    Res.andThen (s1.cmoLine o.core (c.rg o.s1) k) s o.core (fun r s2 => s2.done o.core c r))

/-- LFLUSH (R85). -/
def execLflush (o : RRR) (s : State) : Out := s.cmoInsn 0x00 o .u .flush
/-- LCLEAN (R85). -/
def execLclean (o : RRR) (s : State) : Out := s.cmoInsn 0x01 o .u .clean
/-- LDROP (R85). -/
def execLdrop (o : RRR) (s : State) : Out := s.cmoInsn 0x02 o .k .drop
/-- LZERO (R85, 07 R204). -/
def execLzero (o : RRR) (s : State) : Out := s.cmoInsn 0x03 o .u .zero

/-- IDROP (R85, 07 R202): own L1I. -/
def State.idropLine (s : State) (n : Nat) (va : Word) : Res Unit × State :=
  let (g, s1) := s.regime n
  match s1.translate g needIdrop va with
  | (.busy, s2) => (.stall, s2)
  | (.fault f, s2) => s2.xlTrap n .load va f
  | (.ok y, s2) =>
    let x := s2.foldX y
    (.ok (), s2.modCore n (fun c => { c with l1i := c.l1i.erase (x.pa / 128) }))

/-- IDROP (R85). -/
def execIdrop (o : RRR) (s : State) : Out :=
  s.issue (RRR.insn o (wRRR 0x3B 0x04 o) false .u) (fun c s1 =>
    Res.andThen (s1.idropLine o.core (c.rg o.s1)) s o.core (fun _ s2 => s2.done o.core c []))

/-- IDROPALL (R85). -/
def execIdropall (o : RRR) (s : State) : Out :=
  s.issue (RRR.insn o (wRRR 0x3B 0x05 o) false .k) (fun c s1 => (s1.modCore o.core Core.dropL1i).done o.core c [])

/-- SWFLUSH by set and way (07 R203), after the core's earlier stores. -/
def State.swFlush (s0 : State) (n : Nat) (w : Word) : Res Unit × State :=
  let way := w.toNat % 16
  let set := w.toNat / 16 % 1024
  let r := s0.sbDrain n
  let s := r.2
  let c := s.core n
  if !r.1 then (.stall, s)
  else if bitAt w 16 then
    match c.l2.l.find? (fun e => e.1 % 1024 == set && e.2.way == way) with
    | some e => match s.l2CleanInv n e.1 with | some s1 => (.ok (), s1) | none => (.stall, s)
    | none => (.ok (), s)
  else
    match c.l1d.l.find? (fun e => e.1 % 64 == set && e.2 == way) with
    | some e => (.ok (), s.modCore n (fun c => { c with l1d := c.l1d.erase e.1 }))
    | none => (.ok (), s)

/-- SWFLUSH (R85, 07 R203). -/
def execSwflush (o : RRR) (s : State) : Out :=
  s.issue (RRR.insn o (wRRR 0x3B 0x06 o) false .k) (fun c s1 =>
    Res.andThen (s1.swFlush o.core (c.rg o.s1)) s o.core (fun _ s2 => s2.done o.core c []))

/-! Prefetch (06 R187, R188; 07 R195, R202). -/

/-- Prefetch work (R187, R188): a fill, or nothing where a demand access would fault, meet a non-OK status or marked data.
A walk dropped for a fault, as an address that is not canonical, counts in DROPS. What the reads have done elsewhere stands, and
marked data that a channel has found is rewritten and recorded (11 R303). `l2only` leaves L1D as it is. -/
def State.prefetchLine (s : State) (n : Nat) (va : Word) (own l2only : Bool) : State :=
  let (g, s1) := s.regime n
  match s1.translate g (if own then needPfW else needPfR) va with
  | (.busy, s2) => s2
  | (.fault _, s2) => s2.twCount g twDROPS
  | (.ok y, s2) =>
    let x := s2.foldX y
    let line := x.pa / 128
    let op := if own then opRDO else opRDS
    if x.mt ≠ 0 ∨ !cacheable x.pa ∨ s2.tagBad n x.sec ∨ s2.homeGuard op (cdaNode (n / 18)) x.sec line ≠ .serve then s2
    else
      let r := if own then s2.cohOwn n line x.sec else s2.cohLoad n line x.sec
      if r.status ≠ .ok then r.s
      else if r.poison ≠ 0 then (r.s.l2CleanInv n line).getD r.s
      else if l2only then r.s
      else r.s.l1dSide n line

/-- PREFETCH.R and PREFETCH.W (R85, 07 R202): never fault; dropped while L1D or L2 is disabled. -/
def State.prefetchInsn (s : State) (f : BitVec 7) (o : RRR) (own : Bool) : Out :=
  s.issue (RRR.insn o (wRRR 0x3B f o) false .u) (fun c s1 =>
    (if c.l1den then s1.prefetchLine o.core (c.rg o.s1) own false else s1).done o.core c [])

/-- PREFETCH.R (R85). -/
def execPrefetchR (o : RRR) (s : State) : Out := s.prefetchInsn 0x07 o false
/-- PREFETCH.W (R85). -/
def execPrefetchW (o : RRR) (s : State) : Out := s.prefetchInsn 0x08 o true

/-- HW_PREFETCH (07 R195): a prefetcher that C_CACHECTL enables issues a fill of L1D, or of L2, in a page that one of its streams
follows, so that it crosses no 4 KiB boundary. -/
def execHwPrefetch (core : CoreNo) (va : Word) (level2 : Bool) (s : State) : Out :=
  let c := s.core core
  let page := va.toNat / 4096
  if s.coreLive core && !s.pairStopped core then
    if level2 then
      if bitAt (c.cr cCACHECTL) 4 && c.l2en && c.pf2.contains page then .next (s.prefetchLine core va false true) else .next s
    else if bitAt (c.cr cCACHECTL) 3 && c.l1den && c.pf1.contains page then .next (s.prefetchLine core va false false)
    else .next s
  else .next s

/-! Cancelled paths (06 R177, R186-R188). -/

/-- An ITT entry that a jump of the cancelled path has written, under the current tag (R177); which jump, with what history and
what target, is free. -/
def State.wrongItt (s : State) (n : Nat) : State :=
  let (a, s1) := s.drawNat
  let (t, s2) := s1.drawWord
  let (v, s3) := s2.drawNat
  s3.modCore n (fun c => { c with itt := c.ittPut (BitVec.ofNat 64 (a / 65536 * 4)) (BitVec.ofNat 16 a) (t &&& ~~~(3 : Word)) v })

/-- A return-stack entry that pops and pushes of the cancelled path have overwritten (R177): the top pointer is restored, the
entry is not. -/
def State.wrongStack (s : State) (n : Nat) : State :=
  let (k, s1) := s.drawNat
  let (w, s2) := s1.drawWord
  s2.modCore n (fun c =>
    { c with rstack := c.rstack.set (k % 32) ⟨w &&& ~~~(3 : Word), c.predTag⟩ })

/-- What one instruction of a cancelled path may do outside the pipeline (R187): a free choice of the effects that the table
allows; its coherent reads are those of prefetches. -/
def State.wrongStep (s : State) (n : Nat) : State :=
  let (k, s1) := s.drawNat
  match k % 4 with
  | 0 => s1
  | 1 => s1.wrongItt n
  | 2 => s1.wrongStack n
  | _ =>
    let (va, s2) := s1.drawWord
    if (s2.core n).l2en then s2.prefetchLine n va false false else s2

/-- The instructions of a cancelled path. -/
def State.wrongPath (n : Nat) : Nat → State → State
  | 0, s => s
  | k + 1, s => State.wrongPath n k (s.wrongStep n)

/-- BRANCH_MISPREDICT (R177, R185-R188): the wrong path, of a free number of instructions, is cancelled. It leaves no architectural
trace; path history and the top of the return stack are those of the resolved branch. -/
def execBranchMispredict (core : CoreNo) (s : State) : Out :=
  if (s.core core).mispred then
    let (k, s1) := s.drawNat
    .next ((State.wrongPath core k s1).modCore core (fun c => { c with mispred := false }))
  else .next s

end Sys2Proof.Machine
end

