-- ==== Sys2Proof/Machine/Integer.lean ====
section
/-! DEFINITION. The integer core: register group, immediates, shifts, constants, compares and predicates (03 R75-R77). -/
namespace Sys2Proof.Machine

/-- An instruction of the INT group (R75): g[d] from g[s1] and g[s2]. -/
def State.alu (s : State) (f : BitVec 7) (o : RRR) (op : Word → Word → Word) : Out :=
  s.compute (RRR.insn o (wRRR 0x01 f o) false .u) (fun c => c.wg o.d (op (c.rg o.s1) (c.rg o.s2)))

/-- The low 32 bits, sign-extended. -/
def sextw (w : Word) : Word := (BitVec.setWidth 32 w).signExtend 64

/-- MULH and MULHU (R75). -/
def mulHigh (a b : Word) : Word := BitVec.ofInt 64 ((a.toInt * b.toInt) / 2 ^ 64)
def mulHighU (a b : Word) : Word := BitVec.ofNat 64 (a.toNat * b.toNat / 2 ^ 64)

/-- Division and remainder (R75): by zero, all ones and the dividend; the signed overflow wraps. -/
def divS (a b : Word) : Word := if b = 0 then BitVec.allOnes 64 else BitVec.ofInt 64 (a.toInt.tdiv b.toInt)
def divU (a b : Word) : Word := if b = 0 then BitVec.allOnes 64 else BitVec.ofNat 64 (a.toNat / b.toNat)
def remS (a b : Word) : Word := if b = 0 then a else BitVec.ofInt 64 (a.toInt.tmod b.toInt)
def remU (a b : Word) : Word := if b = 0 then a else BitVec.ofNat 64 (a.toNat % b.toNat)

/-- Counts of bits (R75). -/
def clz (a : Word) : Word := BitVec.ofNat 64 (64 - blen a.toNat)
def ctz (a : Word) : Word := BitVec.ofNat 64 (if a = 0 then 64 else blen (a &&& -a).toNat - 1)
def popc (a : Word) : Word := BitVec.ofNat 64 ((List.range 64).foldl (fun n k => n + b2n (a.getLsbD k)) 0)

/-- The bytes in reverse order (R75). -/
def bswap (a : Word) : Word :=
  BitVec.ofNat 64 ((List.range 8).foldl (fun n k => n + a.toNat / 2 ^ (8 * k) % 256 * 2 ^ (8 * (7 - k))) 0)

/-- ADD (R75). -/
def execAdd (o : RRR) (s : State) : Out := s.alu 0x00 o (fun a b => a + b)
/-- SUB (R75). -/
def execSub (o : RRR) (s : State) : Out := s.alu 0x01 o (fun a b => a - b)
/-- AND (R75). -/
def execAnd (o : RRR) (s : State) : Out := s.alu 0x02 o (fun a b => a &&& b)
/-- OR (R75). -/
def execOr (o : RRR) (s : State) : Out := s.alu 0x03 o (fun a b => a ||| b)
/-- XOR (R75). -/
def execXor (o : RRR) (s : State) : Out := s.alu 0x04 o (fun a b => a ^^^ b)
/-- ANDN (R75). -/
def execAndn (o : RRR) (s : State) : Out := s.alu 0x05 o (fun a b => a &&& ~~~b)
/-- SLL (R75). -/
def execSll (o : RRR) (s : State) : Out := s.alu 0x06 o (fun a b => a <<< (b.toNat % 64))
/-- SRL (R75). -/
def execSrl (o : RRR) (s : State) : Out := s.alu 0x07 o (fun a b => a >>> (b.toNat % 64))
/-- SRA (R75). -/
def execSra (o : RRR) (s : State) : Out := s.alu 0x08 o (fun a b => a.sshiftRight (b.toNat % 64))
/-- ROR (R75). -/
def execRor (o : RRR) (s : State) : Out := s.alu 0x09 o (fun a b => a.rotateRight (b.toNat % 64))
/-- MIN (R75). -/
def execMin (o : RRR) (s : State) : Out := s.alu 0x0A o (fun a b => if a.slt b then a else b)
/-- MAX (R75). -/
def execMax (o : RRR) (s : State) : Out := s.alu 0x0B o (fun a b => if a.slt b then b else a)
/-- MINU (R75). -/
def execMinu (o : RRR) (s : State) : Out := s.alu 0x0C o (fun a b => if a.ult b then a else b)
/-- MAXU (R75). -/
def execMaxu (o : RRR) (s : State) : Out := s.alu 0x0D o (fun a b => if a.ult b then b else a)
/-- ADDW (R75). -/
def execAddw (o : RRR) (s : State) : Out := s.alu 0x0E o (fun a b => sextw (a + b))
/-- SUBW (R75). -/
def execSubw (o : RRR) (s : State) : Out := s.alu 0x0F o (fun a b => sextw (a - b))
/-- MUL (R75). -/
def execMul (o : RRR) (s : State) : Out := s.alu 0x10 o (fun a b => a * b)
/-- MULH (R75). -/
def execMulh (o : RRR) (s : State) : Out := s.alu 0x11 o mulHigh
/-- MULHU (R75). -/
def execMulhu (o : RRR) (s : State) : Out := s.alu 0x12 o mulHighU
/-- DIV (R75). -/
def execDiv (o : RRR) (s : State) : Out := s.alu 0x13 o divS
/-- DIVU (R75). -/
def execDivu (o : RRR) (s : State) : Out := s.alu 0x14 o divU
/-- REM (R75). -/
def execRem (o : RRR) (s : State) : Out := s.alu 0x15 o remS
/-- REMU (R75). -/
def execRemu (o : RRR) (s : State) : Out := s.alu 0x16 o remU
/-- CLZ (R75). -/
def execClz (o : RRR) (s : State) : Out := s.alu 0x17 o (fun a _ => clz a)
/-- CTZ (R75). -/
def execCtz (o : RRR) (s : State) : Out := s.alu 0x18 o (fun a _ => ctz a)
/-- POPC (R75). -/
def execPopc (o : RRR) (s : State) : Out := s.alu 0x19 o (fun a _ => popc a)
/-- BSWAP (R75). -/
def execBswap (o : RRR) (s : State) : Out := s.alu 0x1A o (fun a _ => bswap a)
/-- SEXTB (R75). -/
def execSextb (o : RRR) (s : State) : Out := s.alu 0x1B o (fun a _ => (BitVec.setWidth 8 a).signExtend 64)
/-- SEXTH (R75). -/
def execSexth (o : RRR) (s : State) : Out := s.alu 0x1C o (fun a _ => (BitVec.setWidth 16 a).signExtend 64)
/-- SEXTW (R75). -/
def execSextw (o : RRR) (s : State) : Out := s.alu 0x1D o (fun a _ => sextw a)
/-- ZEXTW (R75). -/
def execZextw (o : RRR) (s : State) : Out := s.alu 0x1E o (fun a _ => (BitVec.setWidth 32 a).setWidth 64)

/-- An instruction with an immediate (R75). -/
def State.aluImm (s : State) (opc : BitVec 6) (o : RRI) (op : Word → BitVec 12 → Word) : Out :=
  s.compute (RRI.insn o (wRRI opc o) false .u) (fun c => c.wg o.d (op (c.rg o.s) o.imm))

/-- ADDI (R75). -/
def execAddi (o : RRI) (s : State) : Out := s.aluImm 0x02 o (fun a i => a + i.signExtend 64)
/-- ANDI (R75). -/
def execAndi (o : RRI) (s : State) : Out := s.aluImm 0x03 o (fun a i => a &&& i.setWidth 64)
/-- ORI (R75). -/
def execOri (o : RRI) (s : State) : Out := s.aluImm 0x04 o (fun a i => a ||| i.setWidth 64)
/-- XORI (R75). -/
def execXori (o : RRI) (s : State) : Out := s.aluImm 0x05 o (fun a i => a ^^^ i.setWidth 64)

/-- SHI (R75): imm[11:8] must be 0. -/
def State.shi (s : State) (k : BitVec 2) (o : ShiF) (op : Word → Nat → Word) : Out :=
  s.compute ⟨o.core, o.pred, o.pn, wShi k o, preChk (o.hi != 0) .u⟩ (fun c => c.wg o.d (op (c.rg o.s) o.sh.toNat))

/-- SHI SLL (R75). -/
def execShiSll (o : ShiF) (s : State) : Out := s.shi 0 o (fun a n => a <<< n)
/-- SHI SRL (R75). -/
def execShiSrl (o : ShiF) (s : State) : Out := s.shi 1 o (fun a n => a >>> n)
/-- SHI SRA (R75). -/
def execShiSra (o : ShiF) (s : State) : Out := s.shi 2 o (fun a n => a.sshiftRight n)
/-- SHI ROR (R75). -/
def execShiRor (o : ShiF) (s : State) : Out := s.shi 3 o (fun a n => a.rotateRight n)

/-- LI, LSI and ADDPC (R75). -/
def State.liInsn (s : State) (opc : BitVec 6) (o : LIF) (bad : Bool) (v : Core → Word) : Out :=
  s.compute ⟨o.core, o.pred, o.pn, wLI opc o, preChk bad .u⟩ (fun c => c.wg o.d (v c))

/-- LI (R75). -/
def execLi (o : LIF) (s : State) : Out := s.liInsn 0x09 o false (fun _ => o.imm.signExtend 64)
/-- LSI (R75): imm[16] must be 0. -/
def execLsi (o : LIF) (s : State) : Out :=
  s.liInsn 0x0A o (o.imm.getLsbD 16) (fun c => (c.rg o.d <<< 16) ||| (BitVec.setWidth 16 o.imm).setWidth 64)
/-- ADDPC (R75). -/
def execAddpc (o : LIF) (s : State) : Out := s.liInsn 0x0B o false (fun c => c.pc + (o.imm.signExtend 64 <<< 12))

/-! Compares and predicates (R76, R77). -/

/-- CMP (R77): the destination's upper bits must be 0, conditions 8 to 15 are undefined. -/
def execCmp (o : RRRF) (s : State) : Out :=
  s.compute (RRRF.insn o (wRRRF 0x0C o) (decide (8 ≤ o.d.toNat) || decide (8 ≤ o.f.toNat % 16)) .u) (fun c =>
    c.cmpWrite (predOf o.d) (BitVec.ofNat 3 (o.f.toNat / 16)) (cmpCond (o.f.toNat % 16) (c.rg o.s1) (c.rg o.s2)))

/-- A compare with an immediate (R77): the condition in dest[21:20], the pair in dest[19:17] and imm[11:9]. -/
def State.cmpImm (s : State) (opc : BitVec 6) (o : RRI) (uns : Bool) : Out :=
  s.compute (RRI.insn o (wRRI opc o) false .u) (fun c =>
    let k := o.d.toNat / 8
    let b : Word := if uns then (BitVec.setWidth 9 o.imm).setWidth 64 else (BitVec.setWidth 9 o.imm).signExtend 64
    c.cmpWrite (predOf o.d) (BitVec.ofNat 3 (o.imm.toNat / 512)) (cmpCond (if uns && decide (2 ≤ k) then k + 2 else k) (c.rg o.s) b))

/-- CMPI (R77). -/
def execCmpi (o : RRI) (s : State) : Out := s.cmpImm 0x07 o false
/-- CMPIU (R77). -/
def execCmpiu (o : RRI) (s : State) : Out := s.cmpImm 0x08 o true

/-- Predicate logic (R77): a field used as a predicate register has its upper bits zero. -/
def State.predOp (s : State) (f : BitVec 7) (o : RRR) (two : Bool) (op : Bool → Bool → Bool) : Out :=
  s.compute (RRR.insn o (wRRR 0x0D f o) (!(predField o.d && predField o.s1 && (!two || predField o.s2))) .u) (fun c =>
    c.wp (predOf o.d) (op (c.rp (predOf o.s1)) (c.rp (predOf o.s2))))

/-- PAND (R77). -/
def execPand (o : RRR) (s : State) : Out := s.predOp 0x00 o true (fun a b => a && b)
/-- POR (R77). -/
def execPor (o : RRR) (s : State) : Out := s.predOp 0x01 o true (fun a b => a || b)
/-- PXOR (R77). -/
def execPxor (o : RRR) (s : State) : Out := s.predOp 0x02 o true (fun a b => xor a b)
/-- PANDN (R77). -/
def execPandn (o : RRR) (s : State) : Out := s.predOp 0x03 o true (fun a b => a && !b)
/-- PORN (R77). -/
def execPorn (o : RRR) (s : State) : Out := s.predOp 0x04 o true (fun a b => a || !b)
/-- PNOT (R77). -/
def execPnot (o : RRR) (s : State) : Out := s.predOp 0x05 o false (fun a _ => !a)
/-- MFP (R77): bit 0 reads 1. -/
def execMfp (o : RRR) (s : State) : Out :=
  s.compute (RRR.insn o (wRRR 0x0D 0x10 o) false .u) (fun c => c.wg o.d ((c.p ||| 1).setWidth 64))
/-- MTP (R77): bit 0 is ignored. -/
def execMtp (o : RRR) (s : State) : Out :=
  s.compute (RRR.insn o (wRRR 0x0D 0x11 o) false .u) (fun c => { c with p := BitVec.setWidth 8 (c.rg o.s1) ||| 1 })

end Sys2Proof.Machine
end

