-- ==== Sys2Proof/Machine/Control.lean ====
section
/-! DEFINITION. Branches and jumps (03 R74, R83; 06). -/
namespace Sys2Proof.Machine

/-- A branch or jump (R83): what it writes beside the PC is `link`. One whose predicate is false falls through, counted and
resolved (R74, R102). -/
def State.transfer (s : State) (i : Insn) (t : Transfer) (target : Core → Word) (link : Core → Core) : Out :=
  s.issueOr i
    (fun s1 =>
      let c := s1.core i.n
      let r := s1.resolve i.n t i.pred i.pn false (target c)
      .next (r.2.retireInsn i.n c (c.pc + 4) false ((3, 1) :: r.1)))
    (fun c s1 =>
      if (target c).toNat % 4 ≠ 0 then .next (s1.trapInsn i.n (Exc.plain xFETCHALIGN (target c)))
      else
        let r := s1.resolve i.n t i.pred i.pn true (target c)
        .next ((r.2.modCore i.n link).retireInsn i.n c (target c) true r.1))

/-- BR (R83). -/
def execBr (o : BF) (s : State) : Out :=
  s.transfer ⟨o.core, o.pred, o.pn, wB 0x30 o, preChk false .u⟩ (.br o.h) (fun c => c.bTarget o) id
/-- CALL (R83): g31 gets PC + 4. -/
def execCall (o : BF) (s : State) : Out :=
  s.transfer ⟨o.core, o.pred, o.pn, wB 0x31 o, preChk false .u⟩ (.call o.h) (fun c => c.bTarget o) (fun c => c.wg 31 (c.pc + 4))
/-- JR (R83). -/
def execJr (o : RRR) (s : State) : Out :=
  s.transfer (RRR.insn o (wRRR 0x32 0x00 o) false .u) .jr (fun c => c.rg o.s1) id
/-- RET (R83). -/
def execRet (o : RRR) (s : State) : Out :=
  s.transfer (RRR.insn o (wRRR 0x32 0x01 o) false .u) .ret (fun c => c.rg o.s1) id
/-- JALR (R83): the old g[s1] is the target. -/
def execJalr (o : RRR) (s : State) : Out :=
  s.transfer (RRR.insn o (wRRR 0x33 0x00 o) false .u) .jalr (fun c => c.rg o.s1) (fun c => c.wg o.d (c.pc + 4))

end Sys2Proof.Machine
end

