-- ==== Sys2Proof/Machine/System.lean ====
section
/-! DEFINITION. The system group (03 R66, R72, R84, R88; 08 R229-R232; 17 R449): calls, BRK, ERET, WFI, fences, ISYNC,
TLBI. -/
namespace Sys2Proof.Machine

/-- An instruction of the system group with its minimum level (R84). -/
def State.sysInsn (s : State) (f : BitVec 7) (o : RRR) (l : Level) (body : Core → State → Out) : Out :=
  s.issue (RRR.insn o (wRRR 0x38 f o) false l) body

/-- One whose exceptions before the predicate depend on the core besides its level (R69 steps 4 and 5). -/
def State.sysPre (s : State) (f : BitVec 7) (o : RRR) (pre : Core → Option Nat) (body : Core → State → Out) : Out :=
  s.issue ⟨o.core, o.pred, o.pn, wRRR 0x38 f o, pre⟩ body

/-- NOP (R84). -/
def execNop (o : RRR) (s : State) : Out := s.sysInsn 0x00 o .u (fun c s1 => s1.done o.core c [])

/-- An instruction that completes and then traps (R66, R69): C_EPC names the next instruction. -/
def State.completeTrap (s : State) (n : Nat) (c0 : Core) (e : Exc) : State :=
  ((s.count n c0 true []).modCore n Core.clearWait).raiseExc n { e with next := true } (c0.pc + 4)

/-- SYSCALL (R84). -/
def execSyscall (o : RRR) (s : State) : Out :=
  s.sysInsn 0x01 o .u (fun c s1 => .next (s1.completeTrap o.core c (Exc.plain xSYSCALL 0)))

/-- HCALL before its predicate: in the secure world it raises ILLEGAL instead (R64). -/
def hcallPre (c : Core) : Option Nat := preChk (c.sec && c.lvl != .m) .k c

/-- HCALL (R84). -/
def execHcall (o : RRR) (s : State) : Out :=
  s.sysPre 0x02 o hcallPre (fun c s1 => .next (s1.completeTrap o.core c (Exc.plain xHCALL 0)))

/-- The monitor's service (17 R449) after MCALL has trapped to M: status in g1, results in g2 to g4, then ERET. Its policy
for HANDOVER is free. -/
def State.monitorCall (s : State) (n : Nat) : State :=
  let c := s.core n
  let fin := fun (s : State) (st g2 : Word) (r : Bool) =>
    s.modCore n (fun c => ((if r then (c.wg 1 st).wg 2 g2 else c.wg 1 st).eret).2)
  match (c.rg 1).toNat with
  | 0x0000 => fin s 0 0x10000 true
  | 0x0001 => fin s 0 1 true
  | 0x0010 =>
    let (b, s1) := s.drawBit
    if b then
      let w := c.rg 2
      let s2 := s1.handCommand { s1.coreInit n true (s1.coreTag n insnTag) with slice := 0xFF } (getF w WLD_HCMD.OP) (getF w WLD_HCMD.CLASS) (getF w WLD_HCMD.INDEX)
        (getF w WLD_HCMD.WORLD == 1)
      fin s2 0 (s2.rg .WLD_HSTAT) true
    else fin s1 (-2) 0 false
  | 0x0020 =>
    match c.gate with
    | some f => if f.preempted then fin (s.modCore n (fun c => { c with gate := none })) 0 0 false else fin s (-2) 0 false
    | none => fin s (-2) 0 false
  | _ => fin s (-1) 0 false

/-- MCALL (R84): to M; with `svc` the monitor's whole service follows. -/
def execMcall (o : McallF) (s : State) : Out :=
  s.sysInsn 0x03 o.rrr .k (fun c s1 =>
    let s2 := s1.completeTrap o.core c (Exc.plain xMCALL 0)
    if o.svc && !(c.lvl == .m && c.mcip) && !c.dbg then .next (s2.monitorCall o.core) else .next s2)

/-- BRK (R84, 17 R450): halts where debug may, else raises BRK. -/
def execBrk (o : RRR) (s : State) : Out :=
  s.sysInsn 0x04 o .u (fun c s1 =>
    if s1.dbgControl o.core then
      .next ((s1.retireInsn o.core c (c.pc + 4) false []).modCore o.core (fun c => { c with run := .halted, haltReq := false }))
    else .next (s1.completeTrap o.core c (Exc.insn xBRK c.pc (wRRR 0x38 0x04 o) true)))

/-- ERET before its predicate: PRIV below K, and ILLEGAL where the bank names no state to return to (R66). -/
def eretPre (c : Core) : Option Nat := match preChk false .k c with | some x => some x | none => c.eret.1

/-- ERET (R66). -/
def execEret (o : RRR) (s : State) : Out :=
  s.sysPre 0x05 o eretPre (fun c s1 =>
    .next ((s1.retireInsn o.core c (c.pc + 4) true []).modCore o.core (fun c => c.eret.2)))

/-- WFI (R72): it completes at once where an interrupt is pending that it would wait for; else the core waits and may enter
IDLE (18 R464). DESIGN CHOICE (log 146): in C_DBGINST it completes at once. -/
def execWfi (o : RRR) (s : State) : Out :=
  s.sysInsn 0x06 o .k (fun c s1 =>
    if c.dbg || c.offers.any (fun m => s1.intAct o.core m true != .no) then s1.done o.core c []
    else .next ((s1.modCore o.core (fun c => { c with run := .wfi })).wfiIdle o.core))

/-- FENCE (R88, R94): every earlier store is visible and its status has come back. -/
def execFence (o : RRR) (s : State) : Out :=
  s.sysInsn 0x07 o .u (fun c s1 => Res.andThen (s1.allStored o.core) s o.core (fun _ s2 => s2.done o.core c []))

/-- FENCE.G (R88, 15 R401): as FENCE, and every earlier remote write has its WACK. -/
def execFenceG (o : RRR) (s : State) : Out :=
  s.sysInsn 0x08 o .u (fun c s1 =>
    Res.andThen (s1.allStored o.core) s o.core (fun _ s2 =>
      if c.openW = 0 then (s2.takeFailed o.core).done o.core c []
      else .next (s2.modCore o.core (fun c => { c with wait := .fenceG }))))

/-- ISYNC (R60, R84): the written fetch and translation registers govern. -/
def execIsync (o : RRR) (s : State) : Out :=
  s.sysInsn 0x09 o .u (fun c s1 => (s1.modCore o.core (fun c => { c with creg60 := .empty })).done o.core c [])

/-- The regime a TLBI acts on (08 R229): at M that of K in the world of SEC. -/
def Core.tlbiRegime (c : Core) : Nat := if c.lvl = .h then 2 else if c.sec then 1 else 0

/-- A TLBI (08 R229, R230): it stalls while 32 are outstanding. -/
def State.tlbiInsn (s : State) (f : BitVec 7) (o : RRR) (l : Level) (send : Core → State → State) : Out :=
  s.sysInsn f o l (fun c s1 =>
    if 32 ≤ c.tlbiOut.length then .next s else (send c s1).done o.core c [])

/-- The current GID. -/
def Core.gid (c : Core) : Nat := (c.cr cS2CTL).toNat / 2 ^ 16 % 2 ^ 16

/-- TLBI.VA (08 R229). -/
def execTlbiVa (o : RRR) (s : State) : Out :=
  s.tlbiInsn 0x0C o .k (fun c s1 => s1.tlbiSend o.core 0 c.tlbiRegime (c.rg o.s1) ((c.rg o.s2).toNat % 2 ^ 16) c.gid)
/-- TLBI.AS (08 R229). -/
def execTlbiAs (o : RRR) (s : State) : Out :=
  s.tlbiInsn 0x0D o .k (fun c s1 => s1.tlbiSend o.core 1 c.tlbiRegime 0 ((c.rg o.s1).toNat % 2 ^ 16) c.gid)
/-- TLBI.ALL (08 R229): at M every regime of both worlds. -/
def execTlbiAll (o : RRR) (s : State) : Out :=
  s.tlbiInsn 0x0E o .k (fun c s1 => s1.tlbiSend o.core 2 (if c.lvl = .m then 3 else c.tlbiRegime) 0 0 c.gid)
/-- TLBI.S2 before its predicate (08 R229): PRIV but at H; M acts as K. -/
def tlbiS2Pre (c : Core) : Option Nat := if c.lvl = .h then none else some xPRIV

/-- TLBI.S2 (08 R229). -/
def execTlbiS2 (o : RRR) (s : State) : Out :=
  s.sysPre 0x0F o tlbiS2Pre (fun c s1 =>
    if 32 ≤ c.tlbiOut.length then .next s
    else (s1.tlbiSend o.core 3 0 0 ((c.rg o.s1).toNat % 2 ^ 16) c.gid).done o.core c [])

/-- TLBSYNC (08 R230, R232): waits for every earlier TLBI of the core; one that timed out raises BUSERR with TOUT. -/
def execTlbsync (o : RRR) (s : State) : Out :=
  s.sysInsn 0x10 o .k (fun c s1 =>
    if c.tlbTout then
      .next ((s1.modCore o.core (fun c => { c with tlbTout := false })).trapInsn o.core (dataExc xBUSERR 4 .load 0))
    else if c.tlbiOut.isEmpty then s1.done o.core c []
    else .next (s1.modCore o.core (fun c => { c with wait := .tlbsync })))

end Sys2Proof.Machine
end

