-- ==== Sys2Proof/Machine/Gate.lean ====
section
/-! DEFINITION. Gate calls (17 R441-R447): GCALL, GRET and the preemption of an open call. -/
namespace Sys2Proof.Machine

/-- The caller's tag (R442). -/
def Core.gateTag (c : Core) : GateTag :=
  ⟨c.lvl, (c.cr cTCTL).toNat / 2 ^ 16 % 2 ^ 16, (c.cr cTTB).toNat / 4096 % 2 ^ 44, c.gid⟩

/-- A gate refused (R443): C_GSTAT, and GATE at the instruction. -/
def State.gateRefuse (s : State) (n reason : Nat) (idx : Option Word) (w : BitVec 32) : Out :=
  let s1 := s.modCore n (fun c =>
    let i := match idx with | some x => x.toNat % 4096 | none => (c.cr cGSTAT).toNat / 65536 % 4096
    c.setCr cGSTAT (BitVec.ofNat 64 (reason + 65536 * i)))
  .next (s1.trapInsn n (Exc.insn xGATE (s.core n).pc w false))

/-- A gate entry as its four words (R441). -/
structure GateEntry where
  w0 : Word
  entry : Word
  stack : Word
  w3 : Word

/-- The entry breaks R441. -/
def GateEntry.bad (e : GateEntry) : Bool :=
  decide (2 ^ 14 ≤ e.w0.toNat) || e.w3 != 0 || decide (8 < e.w0.toNat / 64 % 16) || decide (8 < e.w0.toNat / 1024 % 16) ||
    e.entry.toNat % 4 != 0

/-- V is 1 and the caller's level is in CALLERS (R441). -/
def GateEntry.admits (e : GateEntry) (l : Level) : Bool :=
  bitAt e.w0 0 && (match l with | .m => false | _ => bitAt e.w0 (2 + l.num))

/-- The core inside the gate (R442): its frame, and the secure world at the gate's level. -/
def Core.enterGate (c : Core) (idx : Nat) (e : GateEntry) : Core :=
  let f : GateFrame := ⟨false, idx, bitAt e.w0 5, e.w0.toNat / 64 % 16, e.w0.toNat / 1024 % 16, c.pc + 4, c.lvl, c.ie, c.ss,
    c.rg 30, c.rg 31, c.cr cNCTL, c.cr cNFLAGS, c.gateTag⟩
  let c1 : Core := { c.wg 30 e.stack with
    gate := some f, sec := true, lvl := if bitAt e.w0 1 then .k else .u, ie := false, ss := false, pc := e.entry }
  Core.clrw c c1

/-- The four words of a gate entry in its line. -/
def gateEntry (d : LineData) (o : Nat) : GateEntry :=
  ⟨lineBytes d o 8, lineBytes d (o + 8) 8, lineBytes d (o + 16) 8, lineBytes d (o + 24) 8⟩

/-- The preempted call goes on (R447): its image is loaded. -/
def State.gateResume (s0 s : State) (n : Nat) (f : GateFrame) (c : Core) : Out :=
  let a := ((s.core n).cr cSSA).toNat + 0x400
  match s.getImage (coreNode n) (a / 128) true with
  | (some img, s1) =>
    .next ((s1.retireInsn n c (c.pc + 4) true []).modCore n (fun c =>
      Core.clrw c { c.loadImage img true with gate := some { f with preempted := false } }))
  | (none, s1) => .next (s0.undo n s1)

/-- GCALL in the normal world with no call open (R442): it completes as FENCE does before it enters. -/
def State.gateEnter (s0 s : State) (n : Nat) (idx : Word) (w : BitVec 32) (c : Core) : Out :=
  let base := (c.cr cGTB).toNat / 4096 * 4096
  let count := (c.cr cGTB).toNat % 4096
  if region base ≠ .sram then s.gateRefuse n 7 (some idx) w
  else if count ≤ idx.toNat then s.gateRefuse n 2 (some idx) w
  else
    let a := base + 32 * idx.toNat
    let (r, s1) := s.homePast n opRDC (a / 128) (s.cdaReq (n / 18) (a / 128) true)
    if r.status = .retry then .next (s0.undo n s1)
    else if r.status ≠ .ok then .next (s1.trapInsn n (dataExc xBUSERR (Status.code r.status) .load (BitVec.ofNat 64 a)))
    else if touched r.poison (a % 128) 32 then .next (s1.trapInsn n (s1.mcheckExc n .load (BitVec.ofNat 64 a) a))
    else
      let e := gateEntry r.data (a % 128)
      if e.bad then s1.gateRefuse n 4 (some idx) w
      else if !e.admits c.lvl then s1.gateRefuse n 3 (some idx) w
      else
        Res.andThen (s1.allStored n) s0 n (fun _ s2 =>
          .next ((s2.modCore n (fun c => c.enterGate idx.toNat e)).retireInsn n c e.entry true []))

/-- GCALL (R442): BUSY unless a preempted call has this caller's tag (R447). -/
def execGcall (o : RRR) (s : State) : Out :=
  let w := wRRR 0x38 0x0A o
  s.sysInsn 0x0A o .u (fun c s1 =>
    let idx := c.rg o.s1
    if c.sec then s1.gateRefuse o.core 1 (some idx) w
    else
      match c.gate with
      | some f =>
        if f.preempted && f.tag == c.gateTag then
          Res.andThen (s1.allStored o.core) s o.core (fun _ s2 => s.gateResume s2 o.core f c)
        else s1.gateRefuse o.core 5 (some idx) w
      | none => s.gateEnter s1 o.core idx w c)

/-- The scrub of R444 and the return to the caller: `nres` and `vres` registers are kept. -/
def Core.leaveGate (c : Core) (f : GateFrame) (nres vres : Nat) : Core :=
  let g := (List.range 32).foldl (fun (c : Core) k =>
    let r := BitVec.ofNat 5 k
    if k = 30 then c.wg r f.g30
    else if k = 31 then c.wg r f.g31
    else if k ≤ nres then c else c.wg r 0) c
  let v := (List.range 32).foldl (fun (c : Core) k => if k < vres then c else c.wv (BitVec.ofNat 5 k) 0) g
  let a := (List.range 4).foldl (fun (c : Core) k => c.wa (BitVec.ofNat 5 k) 0) v
  let r := ((a.setCr cNCTL f.nctl).setCr cNFLAGS f.nflags).setCr cACCST 0x1F0000
  Core.clrw c { r with p := 1, sec := false, lvl := f.lvl, ie := f.ie, ss := f.ss, pc := f.ret }

/-- GRET (R444): waits as FENCE; a deferred BUSERR that uncovers is taken first, in the secure world. -/
def execGret (o : RRR) (s : State) : Out :=
  let w := wRRR 0x38 0x0B o
  s.sysInsn 0x0B o .u (fun c s1 =>
    if !c.sec then s1.gateRefuse o.core 1 none w
    else
      match c.gate with
      | none => s1.gateRefuse o.core 6 none w
      | some f =>
        Res.andThen (s1.allStored o.core) s o.core (fun _ s2 =>
          if (s2.core o.core).defErr.isSome then .next (s2.modCore o.core Core.clearWait)
          else
            .next ((s2.retireInsn o.core c f.ret true []).modCore o.core (fun c => { c.leaveGate f f.nres f.vres with gate := none }))))

/-- GATE_PREEMPT (R446): the core waits as FENCE does, the image is written, the call is left scrubbed, and the interrupt is taken as if at the GCALL. -/
def execGatePreempt (core : CoreNo) (s : State) : Out :=
  let n := core.val
  if s.atBoundary n && !(s.core n).stepDue && !(s.core n).defErr.isSome then
    match s.nextInt n, (s.core n).gate with
    | some (src, .preempt), some f =>
      let r := s.sbDrain n
      let s1 := r.2.modCore n Core.drainStores
      if !r.1 then .next r.2
      else if (s1.core n).defErr.isSome then .next s1
      else
        let a := ((s1.core n).cr cSSA).toNat + 0x400
        match s1.putImage (coreNode n) (a / 128) true (s1.core n).image with
        | (false, s2) => .next s2
        | (true, s2) =>
          let s3 := s2.modCore n (fun c =>
            { c.leaveGate f 0 0 with gate := some { f with preempted := true }, pc := f.ret - 4 })
          .next (s3.takeInt n src (s.srcTarget src))
    | _, _ => .next s
  else .next s

end Sys2Proof.Machine
end

