-- ==== Sys2Proof/Machine/Numeric.lean ====
section
/-! DEFINITION. The vector instructions of the numeric engine (04 R106-R132): lanes, NUMERIC, VARITH, VFMA, VCMP, VCVT, VMOV
and the memory forms. -/
namespace Sys2Proof.Machine

/-! Lanes (R106). SZ: false F72, true F36. -/

def laneW (sz : Bool) : Nat := if sz then 36 else 72
def laneN (sz : Bool) : Nat := if sz then 16 else 8
def laneFmt (sz : Bool) : Fmt := if sz then fmtF36 else fmtF72

/-- Lane `k` of a register. -/
def laneGet (sz : Bool) (x : BitVec 576) (k : Nat) : Nat := x.toNat / 2 ^ (laneW sz * k) % 2 ^ laneW sz
/-- A register of lanes, lane 0 first. -/
def lanePack (sz : Bool) (f : Nat → Nat) : BitVec 576 :=
  BitVec.ofNat 576 ((List.range (laneN sz)).foldl (fun a k => a + f k % 2 ^ laneW sz * 2 ^ (laneW sz * k)) 0)
/-- A register with one lane replaced. -/
def laneSet (sz : Bool) (x : BitVec 576) (k v : Nat) : BitVec 576 := lanePack sz (fun j => if j = k then v else laneGet sz x j)

/-- Write a vector register; VUSED sets (R109). -/
def Core.putV (c : Core) (r : BitVec 5) (x : BitVec 576) : Core := (c.wv r x).vused

/-- The rounding mode of an RM field (R111). -/
def Core.rmOf (c : Core) (rm : BitVec 3) : Nat := if rm = 7 then (c.cr cNCTL).toNat % 8 else rm.toNat
/-- RM codes 5 and 6 (R111). -/
def rmBad (rm : BitVec 3) : Bool := rm == 5 || rm == 6
/-- C_NCTL.PREC (R115). -/
def Core.prec (c : Core) : Bool := bitAt (c.cr cNCTL) 3

/-! NUMERIC (R114, R117). -/

/-- The OR of flags. -/
def orFlags (fl : List Nat) : Nat := fl.foldl (fun a f => a ||| f) 0

/-- The lanes that raise an enabled exception. -/
def trapLanes (fl : List Nat) (en : Nat) : Nat := (fl.zipIdx).foldl (fun a e => if e.1 &&& en = 0 then a else a + 2 ^ e.2) 0

/-- The enabled exceptions (R109). -/
def Core.numEnables (c : Core) : Nat := (c.cr cNCTL).toNat / 16 % 32

/-- NUMERIC (R117): C_NFLAGS and C_NTRAP alone change. -/
def State.numTrap (s : State) (n : Nat) (c : Core) (fl : List Nat) : State :=
  (s.modCore n (fun x => (x.raiseFlags (orFlags fl)).setCr cNTRAP
    (BitVec.ofNat 64 (orFlags fl + 65536 * trapLanes fl c.numEnables)))).trapInsn n (Exc.plain xNUMERIC c.pc)

/-- The end of a numeric instruction with the flags of its lanes: NUMERIC, or the flags and `wr`. -/
def State.numFin (s : State) (n : Nat) (c : Core) (fl : List Nat) (evs : List (Nat × Nat)) (wr : Core → Core) : Out :=
  if orFlags fl &&& c.numEnables = 0 then (s.modCore n (fun x => wr (x.raiseFlags (orFlags fl)))).done n c evs
  else .next (s.numTrap n c fl)

/-- A numeric instruction that only computes registers: its flags by lane, and what it writes. -/
def State.numInsn (s : State) (i : Insn) (evs : List (Nat × Nat)) (f : Core → List Nat × (Core → Core)) : Out :=
  s.issue i (fun c s1 => s1.numFin i.n c (f c).1 evs (f c).2)

/-- The frame of the V layout (R125). -/
def VF.insn (o : VF) (opc : BitVec 6) (op : BitVec 3) (bad : Bool) : Insn := ⟨o.core, o.pred, o.pn, wV opc op o, preChk bad .u⟩

/-- Results by lane into vd. -/
def laneResults (o : VF) (f : Nat → Nat × Nat) : List Nat × (Core → Core) :=
  ((List.range (laneN o.sz)).map (fun k => (f k).2), fun c => c.putV o.vd (lanePack o.sz (fun k => (f k).1)))

/-! VARITH, VFMA, VCMP, VCVT (R127-R130). -/

/-- VARITH (R127). -/
def State.varith (s : State) (op : BitVec 3) (o : VF) (bad : Bool) : Out :=
  s.numInsn (VF.insn o 0x20 op (rmBad o.rm || bad)) [] (fun c => laneResults o (fun k =>
    laneArith op.toNat (laneFmt o.sz) c.prec (c.rmOf o.rm) (laneGet o.sz (c.rv o.vs1) k) (laneGet o.sz (c.rv o.vs2) k)))

/-- FADD (R127). -/
def execFadd (o : VF) (s : State) : Out := s.varith 0 o false
/-- FSUB (R127). -/
def execFsub (o : VF) (s : State) : Out := s.varith 1 o false
/-- FMUL (R127). -/
def execFmul (o : VF) (s : State) : Out := s.varith 2 o false
/-- FDIV (R127). -/
def execFdiv (o : VF) (s : State) : Out := s.varith 3 o false
/-- FMIN (R127): RM must be 0. -/
def execFmin (o : VF) (s : State) : Out := s.varith 4 o (o.rm != 0)
/-- FMAX (R127): RM must be 0. -/
def execFmax (o : VF) (s : State) : Out := s.varith 5 o (o.rm != 0)
/-- FSQRT (R127): vs2 must be 0. -/
def execFsqrt (o : VF) (s : State) : Out := s.varith 6 o (o.vs2 != 0)
/-- FRINT (R127): vs2 must be 0. -/
def execFrint (o : VF) (s : State) : Out := s.varith 7 o (o.vs2 != 0)

/-- VFMA (R128): the addend is vd. -/
def State.vfma (s : State) (op : BitVec 3) (o : VF) : Out :=
  s.numInsn (VF.insn o 0x21 op (rmBad o.rm)) [(if o.sz then 0x17 else 0x16, laneN o.sz)] (fun c => laneResults o (fun k =>
    laneFma op.toNat (laneFmt o.sz) c.prec (c.rmOf o.rm) (laneGet o.sz (c.rv o.vs1) k) (laneGet o.sz (c.rv o.vs2) k)
      (laneGet o.sz (c.rv o.vd) k)))

/-- FMA (R128). -/
def execFma (o : VF) (s : State) : Out := s.vfma 0 o
/-- FMS (R128). -/
def execFms (o : VF) (s : State) : Out := s.vfma 1 o
/-- FNMA (R128). -/
def execFnma (o : VF) (s : State) : Out := s.vfma 2 o
/-- FNMS (R128). -/
def execFnms (o : VF) (s : State) : Out := s.vfma 3 o

/-- VCMP (R129): a lane mask to g[vd]; RM must be 0. -/
def State.vcmp (s : State) (op : BitVec 3) (o : VF) : Out :=
  s.numInsn (VF.insn o 0x22 op (o.rm != 0)) [] (fun c =>
    let r := fun k => laneCmp op.toNat (laneFmt o.sz) (laneGet o.sz (c.rv o.vs1) k) (laneGet o.sz (c.rv o.vs2) k)
    ((List.range (laneN o.sz)).map (fun k => (r k).2),
     fun x => x.wg o.vd (BitVec.ofNat 64 ((List.range (laneN o.sz)).foldl (fun a k => a + b2n (r k).1 * 2 ^ k) 0))))

/-- FEQ (R129). -/
def execFeq (o : VF) (s : State) : Out := s.vcmp 0 o
/-- FLT (R129). -/
def execFlt (o : VF) (s : State) : Out := s.vcmp 1 o
/-- FLE (R129). -/
def execFle (o : VF) (s : State) : Out := s.vcmp 2 o
/-- FUN (R129). -/
def execFunord (o : VF) (s : State) : Out := s.vcmp 3 o
/-- FNE (R129). -/
def execFne (o : VF) (s : State) : Out := s.vcmp 4 o

/-- VCVT between F72 and F36 (R130): lane or half-lane i for i = 0 to 7; half-lanes 8 to 15 become +0. The widening takes RM
0. -/
def execVcvtNative (o : VF) (s : State) : Out :=
  s.numInsn (VF.insn o 0x23 0 (rmBad o.rm || o.vs2 != 0 || (o.sz && o.rm != 0))) [] (fun c =>
    let r := fun k => fpConv (laneFmt o.sz) (laneFmt !o.sz) (c.rmOf o.rm) (laneGet o.sz (c.rv o.vs1) k)
    ((List.range 8).map (fun k => (r k).2),
     fun x => x.putV o.vd (lanePack (!o.sz) (fun k => if k < 8 then (r k).1 else 0))))

/-- The integer width of a lane (R130). -/
def intBits (sz : Bool) : Nat := if sz then 32 else 64

/-- VCVT to integers (R130). -/
def State.vcvtTo (s : State) (op : BitVec 3) (o : VF) (sgn : Bool) : Out :=
  s.numInsn (VF.insn o 0x23 op (rmBad o.rm || o.vs2 != 0)) [] (fun c => laneResults o (fun k =>
    laneToInt (laneFmt o.sz) sgn (intBits o.sz) (c.rmOf o.rm) (laneGet o.sz (c.rv o.vs1) k)))
/-- VCVT from integers (R130, R115). -/
def State.vcvtFrom (s : State) (op : BitVec 3) (o : VF) (sgn : Bool) : Out :=
  s.numInsn (VF.insn o 0x23 op (rmBad o.rm || o.vs2 != 0)) [] (fun c => laneResults o (fun k =>
    laneFromInt (laneFmt o.sz) c.prec sgn (intBits o.sz) (c.rmOf o.rm) (laneGet o.sz (c.rv o.vs1) k)))

/-- VCVT to signed integers (R130). -/
def execVcvtToSigned (o : VF) (s : State) : Out := s.vcvtTo 1 o true
/-- VCVT to unsigned integers (R130). -/
def execVcvtToUnsigned (o : VF) (s : State) : Out := s.vcvtTo 2 o false
/-- VCVT from signed integers (R130). -/
def execVcvtFromSigned (o : VF) (s : State) : Out := s.vcvtFrom 3 o true
/-- VCVT from unsigned integers (R130). -/
def execVcvtFromUnsigned (o : VF) (s : State) : Out := s.vcvtFrom 4 o false

/-! VMOV (R131). -/

/-- A move of the VMOV group. -/
def State.vmovOp (s : State) (op : BitVec 3) (o : VF) (bad : Bool) (f : Core → BitVec 576) : Out :=
  s.compute (VF.insn o 0x24 op bad) (fun c => c.putV o.vd (f c))

/-- VMOV (R131): SZ, RM and vs2 must be 0. -/
def execVmov (o : VF) (s : State) : Out := s.vmovOp 0 o (o.sz || o.rm != 0 || o.vs2 != 0) (fun c => c.rv o.vs1)
/-- VSEL (R131): RM must be 0. -/
def execVsel (o : VF) (s : State) : Out :=
  s.vmovOp 1 o (o.rm != 0) (fun c =>
    lanePack o.sz (fun k => if bitAt (c.rg o.vs2) k then laneGet o.sz (c.rv o.vs1) k else laneGet o.sz (c.rv o.vd) k))
/-- VBCAST (R131): RM and vs2 must be 0. -/
def execVbcast (o : VF) (s : State) : Out :=
  s.vmovOp 2 o (o.rm != 0 || o.vs2 != 0) (fun c =>
    let v := (c.rg o.vs1).toNat
    let x := if o.sz then fpWiden fmtB32 fmtF36 (v % 2 ^ 32) else fpWiden fmtB64 fmtF72 v
    lanePack o.sz (fun _ => x))
/-- VGET (R131): lane k of vs1, rounded to binary64 or binary32. -/
def execVget (o : VF) (s : State) : Out :=
  s.numInsn (VF.insn o 0x24 3 (rmBad o.rm || decide (laneN o.sz ≤ o.vs2.toNat))) [] (fun c =>
    let r := fpStore (laneFmt o.sz) (if o.sz then fmtB32 else fmtB64) (c.rmOf o.rm) (laneGet o.sz (c.rv o.vs1) o.vs2.toNat)
    ([r.2], fun x => x.wg o.vd (BitVec.ofNat 64 r.1)))
/-- VNEG (R131): RM and vs2 must be 0. -/
def execVneg (o : VF) (s : State) : Out :=
  s.vmovOp 4 o (o.rm != 0 || o.vs2 != 0) (fun c => lanePack o.sz (fun k =>
    (laneGet o.sz (c.rv o.vs1) k + 2 ^ (laneW o.sz - 1)) % 2 ^ laneW o.sz))
/-- VABS (R131): RM and vs2 must be 0. -/
def execVabs (o : VF) (s : State) : Out :=
  s.vmovOp 5 o (o.rm != 0 || o.vs2 != 0) (fun c => lanePack o.sz (fun k => laneGet o.sz (c.rv o.vs1) k % 2 ^ (laneW o.sz - 1)))
/-- VZERO (R131): every other field must be 0. -/
def execVzero (o : VF) (s : State) : Out :=
  s.vmovOp 6 o (o.sz || o.rm != 0 || o.vs1 != 0 || o.vs2 != 0) (fun _ => 0)

/-! Memory forms (R119-R122, R132). -/

/-- A memory form (R119): bytes of an element, shape, the format in memory (none: bits are copied), bytes in all. -/
structure VForm where
  elem : Nat
  sz : Bool
  fmt : Option Fmt
  bytes : Nat
deriving DecidableEq, Repr

/-- The form of a code (R119); RAW is handled by itself. -/
def vform (code : Nat) : VForm :=
  match code with
  | 0 => ⟨9, false, none, 72⟩
  | 1 => ⟨16, false, none, 128⟩
  | 2 => ⟨8, false, some fmtB64, 64⟩
  | 3 => ⟨4, false, some fmtB32, 32⟩
  | 4 => ⟨8, true, none, 128⟩
  | 5 => ⟨4, true, some fmtB32, 64⟩
  | 6 => ⟨2, true, some fmtB16, 32⟩
  | _ => ⟨2, true, some fmtBf16, 32⟩

/-- The register that a loaded image gives (R120, R121). -/
def VForm.load (m : VForm) (v : Nat) : BitVec 576 :=
  lanePack m.sz (fun k =>
    let e := v / 2 ^ (8 * m.elem * k) % 2 ^ (8 * m.elem)
    match m.fmt with
    | none => e % 2 ^ laneW m.sz
    | some f => fpWiden f (laneFmt m.sz) e)

/-- An element stored from lane `k` (R122), and its flags. -/
def VForm.elemOf (m : VForm) (rm : Nat) (x : BitVec 576) (k : Nat) : Nat × Nat :=
  match m.fmt with
  | none => (laneGet m.sz x k, 0)
  | some f => fpStore (laneFmt m.sz) f rm (laneGet m.sz x k)

/-- The image that a store writes, and its flags by lane. -/
def VForm.store (m : VForm) (rm : Nat) (x : BitVec 576) : Nat × List Nat :=
  ((List.range (laneN m.sz)).foldl (fun a k => a + (m.elemOf rm x k).1 * 2 ^ (8 * m.elem * k)) 0,
   (List.range (laneN m.sz)).map (fun k => (m.elemOf rm x k).2))

/-- A vector load (R121, R124). -/
def State.vload (s : State) (i : Insn) (addr : Core → Word) (m : VForm) (d : BitVec 5) : Out :=
  s.issue i (fun c s1 => Res.andThen (s1.loadBytes i.n (addr c) m.bytes) s i.n (fun r s2 =>
    (s2.modCore i.n (fun x => x.putV d (m.load r.1))).done i.n c r.2))

/-- A vector store (R122, R124): NUMERIC comes after the faults of the translation (R69), and then nothing is stored
(R117). -/
def State.vstore (s : State) (i : Insn) (addr : Core → Word) (m : VForm) (rm : Core → Nat) (d : BitVec 5) : Out :=
  s.issue i (fun c s1 =>
    let w := m.store (rm c) (c.rv d)
    Res.andThen (s1.dataPieces i.n (addr c) m.bytes needStore .store) s i.n (fun l s2 =>
      if orFlags w.2 &&& c.numEnables = 0 then
        Res.andThen (s2.storeAll i.n (addr c) w.1 l) s i.n (fun r s3 => s3.numFin i.n c w.2 r id)
      else .next (s2.numTrap i.n c w.2)))

/-- The address of VLD and VST, and of VLDF, VSTF and AMEM (R132, R133). -/
def Core.vAddr (c : Core) (o : RRI) : Word := c.mAddr o 64
def Core.sumAddr (c : Core) (a b : BitVec 5) : Word := c.rg a + c.rg b

/-- VLD (R132): form B64. -/
def execVld (o : RRI) (s : State) : Out := s.vload (RRI.insn o (wRRI 0x25 o) false .u) (fun c => c.vAddr o) (vform 2) o.d
/-- VST (R132): form B64, rounded by C_NCTL.RM. -/
def execVst (o : RRI) (s : State) : Out :=
  s.vstore (RRI.insn o (wRRI 0x26 o) false .u) (fun c => c.vAddr o) (vform 2) (fun c => c.rmOf 7) o.d
/-- VLDF (R132). -/
def execVldf (o : RRRF) (s : State) : Out :=
  s.vload (RRRF.insn o (wRRRF 0x27 o) (decide (8 ≤ o.f.toNat)) .u) (fun c => c.sumAddr o.s1 o.s2) (vform o.f.toNat) o.d
/-- The RM field of VSTF. -/
def vstfRm (o : RRRF) : BitVec 3 := BitVec.ofNat 3 (o.f.toNat / 16)
/-- A VSTF form that copies bits takes RM 0 (R132). -/
def vstfBad (o : RRRF) : Bool :=
  let k := o.f.toNat % 16
  decide (8 ≤ k) || rmBad (vstfRm o) || ((k == 0 || k == 1 || k == 4) && vstfRm o != 0)
/-- VSTF (R132). -/
def execVstf (o : RRRF) (s : State) : Out :=
  s.vstore (RRRF.insn o (wRRRF 0x28 o) (vstfBad o) .u) (fun c => c.sumAddr o.s1 o.s2) (vform (o.f.toNat % 16))
    (fun c => c.rmOf (vstfRm o)) o.d

end Sys2Proof.Machine
end

