-- ==== Sys2Proof/Machine/Accum.lean ====
section
/-! DEFINITION. The exact accumulators (04 R133-R144): AMEM, ACC, ARND, and APOST to the Praline pool (05 R152, R153). -/
namespace Sys2Proof.Machine

/-- The frame of ACC (R134). -/
def AccF.insn (o : AccF) (op : BitVec 6) (bad : Bool) : Insn := ⟨o.core, o.pred, o.pn, wAcc op o, preChk bad .u⟩

/-- Write an accumulator's value and flags; its USED bit sets (R109). -/
def Core.putA (c : Core) (r : BitVec 5) (x : BitVec 4608) (fl : Nat) : Core := (c.wa r x).setAflags r fl

/-- Add an exact term into an accumulator (R137, R138). -/
def Core.addTerm (c : Core) (r : BitVec 5) (t : Term) : Core :=
  let a := accAdd (c.ra r) t.v
  c.putA r a.1 (c.aflags r ||| t.fl ||| (if a.2 then aOV else 0))

/-- An accumulation of one term into ad (R134, R138). -/
def State.accum (s : State) (op : BitVec 6) (o : AccF) (bad : Bool) (evs : List (Nat × Nat)) (t : Core → Term) : Out :=
  s.numInsn (AccF.insn o op (!accField o.d || bad)) evs (fun c => ([(t c).ex], fun x => x.addTerm o.d (t c)))

/-- The sum over the lanes of vs1 (R134). -/
def Core.laneTerms (c : Core) (o : AccF) : Term :=
  termSum ((List.range (laneN o.sz)).map (fun k => termOf (fpDecode (laneFmt o.sz) (laneGet o.sz (c.rv o.s1) k))))
/-- The sum of the products of the lanes (R134). -/
def Core.laneProducts (c : Core) (o : AccF) : Term :=
  termSum ((List.range (laneN o.sz)).map (fun k =>
    termMul (fpDecode (laneFmt o.sz) (laneGet o.sz (c.rv o.s1) k)) (fpDecode (laneFmt o.sz) (laneGet o.sz (c.rv o.s2) k))))

/-- ACLR (R134): the sources and SZ must be 0. -/
def execAclr (o : AccF) (s : State) : Out :=
  s.compute (AccF.insn o 0x00 (!accField o.d || o.sz || o.s1 != 0 || o.s2 != 0)) (fun c => c.putA o.d 0 0)
/-- AADD (R134): vs2 must be 0. -/
def execAadd (o : AccF) (s : State) : Out := s.accum 0x01 o (o.s2 != 0) [] (fun c => c.laneTerms o)
/-- ASUB (R134): vs2 must be 0. -/
def execAsub (o : AccF) (s : State) : Out := s.accum 0x02 o (o.s2 != 0) [] (fun c => (c.laneTerms o).negate)
/-- ADOT (R134). -/
def execAdot (o : AccF) (s : State) : Out := s.accum 0x03 o false [(0x18, laneN o.sz)] (fun c => c.laneProducts o)
/-- ADOTN (R134). -/
def execAdotn (o : AccF) (s : State) : Out := s.accum 0x04 o false [(0x18, laneN o.sz)] (fun c => (c.laneProducts o).negate)
/-- AMOV (R134): vs2 and SZ must be 0. -/
def execAmov (o : AccF) (s : State) : Out :=
  s.compute (AccF.insn o 0x05 (!accField o.d || !accField o.s1 || o.sz || o.s2 != 0)) (fun c =>
    c.putA o.d (c.ra o.s1) (c.aflags o.s1))
/-- AACC (R134): SZ must be 0. -/
def execAacc (o : AccF) (s : State) : Out :=
  s.accum 0x06 o (!accField o.s1 || o.sz) [] (fun c => ⟨(c.ra o.s1).toInt, c.aflags o.s1, 0⟩)
/-- ASUBA (R134): SZ must be 0. -/
def execAsuba (o : AccF) (s : State) : Out :=
  s.accum 0x07 o (!accField o.s1 || o.sz) [] (fun c => ⟨-(c.ra o.s1).toInt, swapInf (c.aflags o.s1), 0⟩)
/-- AADDG (R134): the binary64 in g[s1], or the binary32 in its low half. -/
def execAaddg (o : AccF) (s : State) : Out :=
  s.accum 0x08 o false [] (fun c =>
    let v := (c.rg o.s1).toNat
    termOf (if o.sz then fpDecode fmtB32 (v % 2 ^ 32) else fpDecode fmtB64 v))
/-- AINFO (R139): as is in the source 2 field. -/
def execAinfo (o : AccF) (s : State) : Out :=
  s.compute (AccF.insn o 0x09 (!accField o.s2 || o.sz)) (fun c => c.wg o.d (spanWord (accSpan (c.ra o.s2)) (c.aflags o.s2)))

/-- The record of APOST (R143, 05 R152). -/
def Core.apostRecord (c : Core) (o : AccF) : Record :=
  let a := c.ra o.s2
  let p := accSpan a
  let h := (c.rg o.s1).toNat
  ⟨h % 32, h / 256 % 256, p.lo, p.hi, p.neg, BitVec.ofNat 4 (c.aflags o.s2), p.zero, spanWords a p, true⟩

/-- APOST (R143, 05 R153, R159): the pool's status goes to g[d]. For ordering it acts as ATOM (R88). While the slot has no room the
instruction waits under its tag, until there is room or its timer expires (09 R248, R249): BUSERR with TOUT, and the record is not
taken. DESIGN CHOICE (log 147): C_EADDR of its BUSERR is 0, for it has no VA; the address that a spoofed one leaves is the place of
PRL_SLOT_CTL of its slot. -/
def execApost (o : AccF) (s : State) : Out :=
  let n := o.core.val
  s.issue (AccF.insn o 0x0A (!accField o.s2 || o.sz)) (fun c s1 =>
    let r := c.apostRecord o
    match c.reply with
    | some q => .next (s1.trapInsn n (dataExc xBUSERR (Status.code q.status) .load 0))
    | none =>
      let tag := match c.wait with | .reply t => t | _ => s1.coreTag n apostTag
      let i := s1.coreInit n c.dbgSec tag
      Res.andThen (s1.allStored n) s n (fun _ s2 =>
        if s1.tagBad n c.dbgSec then
          .next ((s2.spoof i.slice 0 i.node (RegKind.PRL_SLOT_CTL.addr 0 r.slot)).trapInsn n (dataExc xBUSERR 1 .load 0))
        else
          match s2.takeRecord r.slot r i with
          | none =>
            if c.wait = .none then
              .next ((s2.waitReply n tag).modCore n (fun x => { x with apLimit := s2.limitFor (0x800000000000 + RegKind.PRL_SLOT_CTL.addr 0 r.slot) }))
            else .next s
          | some (code, s3) => (s3.modCore n (fun x => x.wg o.d (BitVec.ofNat 64 code))).done n c []))

/-! AMEM (R133, R140). -/

/-- ASAVE (R133, R140). -/
def execAsave (o : RRR) (s : State) : Out :=
  s.issue (RRR.insn o (wRRR 0x29 0x00 o) (!accField o.d) .u) (fun c s1 =>
    Res.andThen (s1.storeBytes o.core (c.sumAddr o.s1 o.s2) 576 (c.ra o.d).toNat) s o.core (fun r s2 => s2.done o.core c r))
/-- ALOAD (R133, R140): the flags stay. -/
def execAload (o : RRR) (s : State) : Out :=
  s.issue (RRR.insn o (wRRR 0x29 0x01 o) (!accField o.d) .u) (fun c s1 =>
    Res.andThen (s1.loadBytes o.core (c.sumAddr o.s1 o.s2) 576) s o.core (fun r s2 =>
      (s2.modCore o.core (fun x => x.putA o.d (BitVec.ofNat 4608 r.1) (x.aflags o.d))).done o.core c r.2))

/-! ARND (R135, R141). -/

/-- The fields of ARND. -/
def arndRm (o : RRRF) : BitVec 3 := BitVec.ofNat 3 o.f.toNat
def arndTgt (o : RRRF) : Nat := o.f.toNat / 8 % 4
def arndClr (o : RRRF) : Bool := o.f.getLsbD 5
/-- A field of ARND that breaks R135. -/
def arndBad (o : RRRF) : Bool :=
  rmBad (arndRm o) || o.f.getLsbD 6 || !accField o.s1 ||
    (match arndTgt o with
     | 0 => decide (8 ≤ o.s2.toNat)
     | 1 => decide (16 ≤ o.s2.toNat)
     | _ => o.s2 != 0)

/-- What ARND writes: the target, and with CLR the cleared accumulator. -/
def Core.arndWrite (c : Core) (o : RRRF) (v : Nat) : Core :=
  let c1 :=
    match arndTgt o with
    | 0 => c.putV o.d (laneSet false (c.rv o.d) o.s2.toNat v)
    | 1 => c.putV o.d (laneSet true (c.rv o.d) o.s2.toNat v)
    | _ => c.wg o.d (BitVec.ofNat 64 v)
  if arndClr o then c1.putA o.s1 0 0 else c1

/-- ARND (R135, R141, R142). -/
def execArnd (o : RRRF) (s : State) : Out :=
  s.numInsn (RRRF.insn o (wRRRF 0x2B o) (arndBad o) .u) [] (fun c =>
    let r := accRound (tgtFmt (arndTgt o)) (c.rmOf (arndRm o)) (c.ra o.s1) (c.aflags o.s1)
    ([r.2], fun x => x.arndWrite o r.1))

end Sys2Proof.Machine
end

