-- ==== Sys2Proof/Machine/DbgInst.lean ====
section
/-! DEFINITION. Instructions that a debugger places in C_DBGINST (03 R99, 17 R450). -/
namespace Sys2Proof.Machine

/-- Execute a decoded core instruction. -/
def execCore (i : Instr) (s : State) : Out :=
  match i with
  | .add o => execAdd o s
  | .sub o => execSub o s
  | .and o => execAnd o s
  | .or o => execOr o s
  | .xor o => execXor o s
  | .andn o => execAndn o s
  | .sll o => execSll o s
  | .srl o => execSrl o s
  | .sra o => execSra o s
  | .ror o => execRor o s
  | .min o => execMin o s
  | .max o => execMax o s
  | .minu o => execMinu o s
  | .maxu o => execMaxu o s
  | .addw o => execAddw o s
  | .subw o => execSubw o s
  | .mul o => execMul o s
  | .mulh o => execMulh o s
  | .mulhu o => execMulhu o s
  | .div o => execDiv o s
  | .divu o => execDivu o s
  | .rem o => execRem o s
  | .remu o => execRemu o s
  | .clz o => execClz o s
  | .ctz o => execCtz o s
  | .popc o => execPopc o s
  | .bswap o => execBswap o s
  | .sextb o => execSextb o s
  | .sexth o => execSexth o s
  | .sextw o => execSextw o s
  | .zextw o => execZextw o s
  | .pand o => execPand o s
  | .por o => execPor o s
  | .pxor o => execPxor o s
  | .pandn o => execPandn o s
  | .porn o => execPorn o s
  | .pnot o => execPnot o s
  | .mfp o => execMfp o s
  | .mtp o => execMtp o s
  | .jr o => execJr o s
  | .ret o => execRet o s
  | .jalr o => execJalr o s
  | .nop o => execNop o s
  | .syscall o => execSyscall o s
  | .hcall o => execHcall o s
  | .mcall o => execMcall o s
  | .brk o => execBrk o s
  | .eret o => execEret o s
  | .wfi o => execWfi o s
  | .fence o => execFence o s
  | .fenceG o => execFenceG o s
  | .isync o => execIsync o s
  | .gcall o => execGcall o s
  | .gret o => execGret o s
  | .tlbiVa o => execTlbiVa o s
  | .tlbiAs o => execTlbiAs o s
  | .tlbiAll o => execTlbiAll o s
  | .tlbiS2 o => execTlbiS2 o s
  | .tlbsync o => execTlbsync o s
  | .lflush o => execLflush o s
  | .lclean o => execLclean o s
  | .ldrop o => execLdrop o s
  | .lzero o => execLzero o s
  | .idrop o => execIdrop o s
  | .idropall o => execIdropall o s
  | .swflush o => execSwflush o s
  | .prefetchR o => execPrefetchR o s
  | .prefetchW o => execPrefetchW o s
  | .asave o => execAsave o s
  | .aload o => execAload o s
  | .cmp o => execCmp o s
  | .ldx o => execLdx o s
  | .stx o => execStx o s
  | .vldf o => execVldf o s
  | .vstf o => execVstf o s
  | .arnd o => execArnd o s
  | .atomSwap o => execAtomSwap o s
  | .atomAdd o => execAtomAdd o s
  | .atomAnd o => execAtomAnd o s
  | .atomOr o => execAtomOr o s
  | .atomXor o => execAtomXor o s
  | .atomSmin o => execAtomSmin o s
  | .atomSmax o => execAtomSmax o s
  | .atomUmin o => execAtomUmin o s
  | .atomUmax o => execAtomUmax o s
  | .atomCas o => execAtomCas o s
  | .addi o => execAddi o s
  | .andi o => execAndi o s
  | .ori o => execOri o s
  | .xori o => execXori o s
  | .cmpi o => execCmpi o s
  | .cmpiu o => execCmpiu o s
  | .ldb o => execLdb o s
  | .ldbs o => execLdbs o s
  | .ldh o => execLdh o s
  | .ldhs o => execLdhs o s
  | .ldw o => execLdw o s
  | .ldws o => execLdws o s
  | .ldd o => execLdd o s
  | .stb o => execStb o s
  | .sth o => execSth o s
  | .stw o => execStw o s
  | .std o => execStd o s
  | .vld o => execVld o s
  | .vst o => execVst o s
  | .mfc o => execMfc o s
  | .mtc o => execMtc o s
  | .shiSll o => execShiSll o s
  | .shiSrl o => execShiSrl o s
  | .shiSra o => execShiSra o s
  | .shiRor o => execShiRor o s
  | .br o => execBr o s
  | .call o => execCall o s
  | .li o => execLi o s
  | .lsi o => execLsi o s
  | .addpc o => execAddpc o s
  | .fadd o => execFadd o s
  | .fsub o => execFsub o s
  | .fmul o => execFmul o s
  | .fdiv o => execFdiv o s
  | .fmin o => execFmin o s
  | .fmax o => execFmax o s
  | .fsqrt o => execFsqrt o s
  | .frint o => execFrint o s
  | .fma o => execFma o s
  | .fms o => execFms o s
  | .fnma o => execFnma o s
  | .fnms o => execFnms o s
  | .feq o => execFeq o s
  | .flt o => execFlt o s
  | .fle o => execFle o s
  | .funord o => execFunord o s
  | .fne o => execFne o s
  | .vcvtNative o => execVcvtNative o s
  | .vcvtToSigned o => execVcvtToSigned o s
  | .vcvtToUnsigned o => execVcvtToUnsigned o s
  | .vcvtFromSigned o => execVcvtFromSigned o s
  | .vcvtFromUnsigned o => execVcvtFromUnsigned o s
  | .vmov o => execVmov o s
  | .vsel o => execVsel o s
  | .vbcast o => execVbcast o s
  | .vget o => execVget o s
  | .vneg o => execVneg o s
  | .vabs o => execVabs o s
  | .vzero o => execVzero o s
  | .aclr o => execAclr o s
  | .aadd o => execAadd o s
  | .asub o => execAsub o s
  | .adot o => execAdot o s
  | .adotn o => execAdotn o s
  | .amov o => execAmov o s
  | .aacc o => execAacc o s
  | .asuba o => execAsuba o s
  | .aaddg o => execAaddg o s
  | .ainfo o => execAinfo o s
  | .apost o => execApost o s
  | _ => .next s

/-- The end of an instruction in C_DBGINST that does not wait. -/
def Core.endDebug (c : Core) : Core := if c.wait = .none then { c with dbg := false } else c

/-- The word is issued for the debugger: the halted core executes it at the halted PC. An undefined word raises ILLEGAL. False: it
must wait, and nothing of it is done. -/
def State.debugIssue (s : State) (core : CoreNo) (w : BitVec 32) : Bool × State :=
  let n := core.val
  let c := s.core n
  let s1 := s.modCore n (fun c => { c with dbg := true, word := if c.wait = .none then ~~~w else c.word })
  match decodeWord core w with
  | none => (true, (s1.trapInsn n (Exc.insn xILLEGAL (s1.core n).pc w false)).modCore n Core.endDebug)
  | some i =>
    match execCore i s1 with
    | .next s2 =>
      if (s2.core n).wait = .none ∧ (s2.core n).word ≠ w then (false, s2.modCore n (fun x => { x with dbg := false, word := c.word }))
      else (true, s2.modCore n Core.endDebug)
    | _ => (true, s)

/-- A halted core executes what waits in C_DBGINST, in the order in which it was written, and then the RESUME that follows it
(R99). The last argument bounds the instructions. -/
def State.runDebug (s : State) (core : CoreNo) : Nat → State
  | 0 => s
  | k + 1 =>
    let n := core.val
    let c := s.core n
    let go := fun (s1 : State) => if (s1.core n).dbg then s1 else State.runDebug s1 core k
    if c.dbg then go (s.debugIssue core c.word).2
    else
      match c.dbgQ with
      | [] => if c.resumeDue then s.modCore n (fun x => { x with resumeDue := false, run := .run }) else s
      | w :: _ =>
        let r := s.debugIssue core w
        if r.1 then go (r.2.modCore n (fun x => { x with dbgQ := x.dbgQ.drop 1 })) else r.2

/-- A halted core has an instruction in C_DBGINST, or a RESUME after one. -/
def Core.debugDue (c : Core) : Bool := c.run == .halted && (c.dbg || !c.dbgQ.isEmpty || c.resumeDue)

/-- What waits in the C_DBGINST of a core is executed. -/
def State.debugCore (s : State) (n : Nat) : State :=
  if h : n < 216 then
    if s.alive && (s.core n).debugDue then s.runDebug ⟨n, h⟩ ((s.core n).dbgQ.length + 2) else s
  else s

/-- What waits in the C_DBGINST of any core is executed (R99). -/
def State.debugAll (s : State) : State :=
  if s.cores.l.any (fun e => e.2.debugDue) then (s.cores.l.map (fun e => e.1)).foldl State.debugCore s else s

/-- C_DBGINST (R99): the row's instruction follows those that register writes have left; one that waits goes on. -/
def execCDbginst (core : CoreNo) (insn : BitVec 32) (s : State) : Out :=
  if s.alive && (s.core core).run == .halted && s.dbgControl core then
    .next ((s.modCore core (fun c => { c with dbgQ := c.dbgQ ++ [insn] })).debugCore core)
  else .next s

/-- RESUME (R96, R99). -/
def execResume (core : CoreNo) (s : State) : Out :=
  if s.alive then .next ((s.coreResume core).debugCore core) else .next s

/-! Rows whose writes may reach a C_DBGINST (R99). -/

/-- REGISTER_WRITE (00 R3). -/
def execRegisterWrite (i : Init) (off width : Nat) (data : Word) (s : State) : Out :=
  .next (s.registerWrite i off width data).debugAll

/-- SWARM_ACCESS (01 R35-R39). -/
def execSwarmAccess (i : Init) (off width : Nat) (write : Bool) (data : Word) (s : State) : Out :=
  .next (s.swarmAccess i off width write data).debugAll

/-- SWARM_HOLD_RELEASE (02 R53). -/
def execSwarmHoldRelease (s : State) : Out := .next s.swarmRelease.debugAll

end Sys2Proof.Machine
end

