-- ==== Sys2Proof/Machine/Dispatch.lean ====
section
/-! DEFINITION. Which meaning each command has. -/
namespace Sys2Proof.Machine

/-- The effect of a command. -/
def exec (i : Instr) (s : State) : Host.Outcome State Fault Refusal :=
  match i with
  | .registerWrite a_i off width data => Sys2Proof.Machine.execRegisterWrite a_i off width data s
  | .swarmAccess a_i off width write data => Sys2Proof.Machine.execSwarmAccess a_i off width write data s
  | .swarmHoldRelease => Sys2Proof.Machine.execSwarmHoldRelease s
  | .siteCodeSample site raw => Sys2Proof.Machine.execSiteCodeSample site raw s
  | .tickEdge => Sys2Proof.Machine.execTickEdge s
  | .tickStrobeArrival block => Sys2Proof.Machine.execTickStrobeArrival block s
  | .eventCrossing dom => Sys2Proof.Machine.execEventCrossing dom s
  | .tckRun => Sys2Proof.Machine.execTckRun s
  | .tckPeriodWrite data => Sys2Proof.Machine.execTckPeriodWrite data s
  | .scheduleCheckDone => Sys2Proof.Machine.execScheduleCheckDone s
  | .tckRateWrite data => Sys2Proof.Machine.execTckRateWrite data s
  | .tckTimeNsRead a_i off width => Sys2Proof.Machine.execTckTimeNsRead a_i off width s
  | .negativeStepAbsorbed => Sys2Proof.Machine.execNegativeStepAbsorbed s
  | .tickInEdge => Sys2Proof.Machine.execTickInEdge s
  | .tickInLockLoss => Sys2Proof.Machine.execTickInLockLoss s
  | .tickOutSecondPulse => Sys2Proof.Machine.execTickOutSecondPulse s
  | .tickOutPulseEnd => Sys2Proof.Machine.execTickOutPulseEnd s
  | .add o => Sys2Proof.Machine.execAdd o s
  | .sub o => Sys2Proof.Machine.execSub o s
  | .and o => Sys2Proof.Machine.execAnd o s
  | .or o => Sys2Proof.Machine.execOr o s
  | .xor o => Sys2Proof.Machine.execXor o s
  | .andn o => Sys2Proof.Machine.execAndn o s
  | .sll o => Sys2Proof.Machine.execSll o s
  | .srl o => Sys2Proof.Machine.execSrl o s
  | .sra o => Sys2Proof.Machine.execSra o s
  | .ror o => Sys2Proof.Machine.execRor o s
  | .min o => Sys2Proof.Machine.execMin o s
  | .max o => Sys2Proof.Machine.execMax o s
  | .minu o => Sys2Proof.Machine.execMinu o s
  | .maxu o => Sys2Proof.Machine.execMaxu o s
  | .addw o => Sys2Proof.Machine.execAddw o s
  | .subw o => Sys2Proof.Machine.execSubw o s
  | .mul o => Sys2Proof.Machine.execMul o s
  | .mulh o => Sys2Proof.Machine.execMulh o s
  | .mulhu o => Sys2Proof.Machine.execMulhu o s
  | .div o => Sys2Proof.Machine.execDiv o s
  | .divu o => Sys2Proof.Machine.execDivu o s
  | .rem o => Sys2Proof.Machine.execRem o s
  | .remu o => Sys2Proof.Machine.execRemu o s
  | .clz o => Sys2Proof.Machine.execClz o s
  | .ctz o => Sys2Proof.Machine.execCtz o s
  | .popc o => Sys2Proof.Machine.execPopc o s
  | .bswap o => Sys2Proof.Machine.execBswap o s
  | .sextb o => Sys2Proof.Machine.execSextb o s
  | .sexth o => Sys2Proof.Machine.execSexth o s
  | .sextw o => Sys2Proof.Machine.execSextw o s
  | .zextw o => Sys2Proof.Machine.execZextw o s
  | .addi o => Sys2Proof.Machine.execAddi o s
  | .andi o => Sys2Proof.Machine.execAndi o s
  | .ori o => Sys2Proof.Machine.execOri o s
  | .xori o => Sys2Proof.Machine.execXori o s
  | .shiSll o => Sys2Proof.Machine.execShiSll o s
  | .shiSrl o => Sys2Proof.Machine.execShiSrl o s
  | .shiSra o => Sys2Proof.Machine.execShiSra o s
  | .shiRor o => Sys2Proof.Machine.execShiRor o s
  | .cmp o => Sys2Proof.Machine.execCmp o s
  | .cmpi o => Sys2Proof.Machine.execCmpi o s
  | .cmpiu o => Sys2Proof.Machine.execCmpiu o s
  | .li o => Sys2Proof.Machine.execLi o s
  | .lsi o => Sys2Proof.Machine.execLsi o s
  | .addpc o => Sys2Proof.Machine.execAddpc o s
  | .pand o => Sys2Proof.Machine.execPand o s
  | .por o => Sys2Proof.Machine.execPor o s
  | .pxor o => Sys2Proof.Machine.execPxor o s
  | .pandn o => Sys2Proof.Machine.execPandn o s
  | .porn o => Sys2Proof.Machine.execPorn o s
  | .pnot o => Sys2Proof.Machine.execPnot o s
  | .mfp o => Sys2Proof.Machine.execMfp o s
  | .mtp o => Sys2Proof.Machine.execMtp o s
  | .ldb o => Sys2Proof.Machine.execLdb o s
  | .ldbs o => Sys2Proof.Machine.execLdbs o s
  | .ldh o => Sys2Proof.Machine.execLdh o s
  | .ldhs o => Sys2Proof.Machine.execLdhs o s
  | .ldw o => Sys2Proof.Machine.execLdw o s
  | .ldws o => Sys2Proof.Machine.execLdws o s
  | .ldd o => Sys2Proof.Machine.execLdd o s
  | .stb o => Sys2Proof.Machine.execStb o s
  | .sth o => Sys2Proof.Machine.execSth o s
  | .stw o => Sys2Proof.Machine.execStw o s
  | .std o => Sys2Proof.Machine.execStd o s
  | .ldx o => Sys2Proof.Machine.execLdx o s
  | .stx o => Sys2Proof.Machine.execStx o s
  | .atomSwap o => Sys2Proof.Machine.execAtomSwap o s
  | .atomAdd o => Sys2Proof.Machine.execAtomAdd o s
  | .atomAnd o => Sys2Proof.Machine.execAtomAnd o s
  | .atomOr o => Sys2Proof.Machine.execAtomOr o s
  | .atomXor o => Sys2Proof.Machine.execAtomXor o s
  | .atomSmin o => Sys2Proof.Machine.execAtomSmin o s
  | .atomSmax o => Sys2Proof.Machine.execAtomSmax o s
  | .atomUmin o => Sys2Proof.Machine.execAtomUmin o s
  | .atomUmax o => Sys2Proof.Machine.execAtomUmax o s
  | .atomCas o => Sys2Proof.Machine.execAtomCas o s
  | .br o => Sys2Proof.Machine.execBr o s
  | .call o => Sys2Proof.Machine.execCall o s
  | .jr o => Sys2Proof.Machine.execJr o s
  | .ret o => Sys2Proof.Machine.execRet o s
  | .jalr o => Sys2Proof.Machine.execJalr o s
  | .nop o => Sys2Proof.Machine.execNop o s
  | .syscall o => Sys2Proof.Machine.execSyscall o s
  | .hcall o => Sys2Proof.Machine.execHcall o s
  | .mcall o => Sys2Proof.Machine.execMcall o s
  | .brk o => Sys2Proof.Machine.execBrk o s
  | .eret o => Sys2Proof.Machine.execEret o s
  | .wfi o => Sys2Proof.Machine.execWfi o s
  | .wfiWake core => Sys2Proof.Machine.execWfiWake core s
  | .fence o => Sys2Proof.Machine.execFence o s
  | .fenceG o => Sys2Proof.Machine.execFenceG o s
  | .isync o => Sys2Proof.Machine.execIsync o s
  | .gcall o => Sys2Proof.Machine.execGcall o s
  | .gret o => Sys2Proof.Machine.execGret o s
  | .tlbiVa o => Sys2Proof.Machine.execTlbiVa o s
  | .tlbiAs o => Sys2Proof.Machine.execTlbiAs o s
  | .tlbiAll o => Sys2Proof.Machine.execTlbiAll o s
  | .tlbiS2 o => Sys2Proof.Machine.execTlbiS2 o s
  | .tlbsync o => Sys2Proof.Machine.execTlbsync o s
  | .tlbiReceive id target => Sys2Proof.Machine.execTlbiReceive id target s
  | .tlbiAck id target => Sys2Proof.Machine.execTlbiAck id target s
  | .tlbsyncTimeout core => Sys2Proof.Machine.execTlbsyncTimeout core s
  | .mfc o => Sys2Proof.Machine.execMfc o s
  | .mtc o => Sys2Proof.Machine.execMtc o s
  | .cacheopCleaninv o => Sys2Proof.Machine.execCacheopCleaninv o s
  | .cleaninvDone core => Sys2Proof.Machine.execCleaninvDone core s
  | .cacheopInvl1i o => Sys2Proof.Machine.execCacheopInvl1i o s
  | .cacheEnableChange o => Sys2Proof.Machine.execCacheEnableChange o s
  | .accstWrite o => Sys2Proof.Machine.execAccstWrite o s
  | .prinvItt o => Sys2Proof.Machine.execPrinvItt o s
  | .prinvRs o => Sys2Proof.Machine.execPrinvRs o s
  | .ieoi o => Sys2Proof.Machine.execIeoi o s
  | .lflush o => Sys2Proof.Machine.execLflush o s
  | .lclean o => Sys2Proof.Machine.execLclean o s
  | .ldrop o => Sys2Proof.Machine.execLdrop o s
  | .lzero o => Sys2Proof.Machine.execLzero o s
  | .idrop o => Sys2Proof.Machine.execIdrop o s
  | .idropall o => Sys2Proof.Machine.execIdropall o s
  | .swflush o => Sys2Proof.Machine.execSwflush o s
  | .prefetchR o => Sys2Proof.Machine.execPrefetchR o s
  | .prefetchW o => Sys2Proof.Machine.execPrefetchW o s
  | .hwPrefetch core va level2 => Sys2Proof.Machine.execHwPrefetch core va level2 s
  | .storeStatusReturn core => Sys2Proof.Machine.execStoreStatusReturn core s
  | .deferredBuserr core => Sys2Proof.Machine.execDeferredBuserr core s
  | .singleStepTrap core => Sys2Proof.Machine.execSingleStepTrap core s
  | .interruptTaken core => Sys2Proof.Machine.execInterruptTaken core s
  | .gatePreempt core => Sys2Proof.Machine.execGatePreempt core s
  | .coreRelease core => Sys2Proof.Machine.execCoreRelease core s
  | .haltreq core => Sys2Proof.Machine.execHaltreq core s
  | .debugHalt core => Sys2Proof.Machine.execDebugHalt core s
  | .resume core => Sys2Proof.Machine.execResume core s
  | .creset core => Sys2Proof.Machine.execCreset core s
  | .coreResetDone core => Sys2Proof.Machine.execCoreResetDone core s
  | .cDbginst core insn => Sys2Proof.Machine.execCDbginst core insn s
  | .fadd o => Sys2Proof.Machine.execFadd o s
  | .fsub o => Sys2Proof.Machine.execFsub o s
  | .fmul o => Sys2Proof.Machine.execFmul o s
  | .fdiv o => Sys2Proof.Machine.execFdiv o s
  | .fmin o => Sys2Proof.Machine.execFmin o s
  | .fmax o => Sys2Proof.Machine.execFmax o s
  | .fsqrt o => Sys2Proof.Machine.execFsqrt o s
  | .frint o => Sys2Proof.Machine.execFrint o s
  | .fma o => Sys2Proof.Machine.execFma o s
  | .fms o => Sys2Proof.Machine.execFms o s
  | .fnma o => Sys2Proof.Machine.execFnma o s
  | .fnms o => Sys2Proof.Machine.execFnms o s
  | .feq o => Sys2Proof.Machine.execFeq o s
  | .flt o => Sys2Proof.Machine.execFlt o s
  | .fle o => Sys2Proof.Machine.execFle o s
  | .funord o => Sys2Proof.Machine.execFunord o s
  | .fne o => Sys2Proof.Machine.execFne o s
  | .vcvtNative o => Sys2Proof.Machine.execVcvtNative o s
  | .vcvtToSigned o => Sys2Proof.Machine.execVcvtToSigned o s
  | .vcvtToUnsigned o => Sys2Proof.Machine.execVcvtToUnsigned o s
  | .vcvtFromSigned o => Sys2Proof.Machine.execVcvtFromSigned o s
  | .vcvtFromUnsigned o => Sys2Proof.Machine.execVcvtFromUnsigned o s
  | .vmov o => Sys2Proof.Machine.execVmov o s
  | .vsel o => Sys2Proof.Machine.execVsel o s
  | .vbcast o => Sys2Proof.Machine.execVbcast o s
  | .vget o => Sys2Proof.Machine.execVget o s
  | .vneg o => Sys2Proof.Machine.execVneg o s
  | .vabs o => Sys2Proof.Machine.execVabs o s
  | .vzero o => Sys2Proof.Machine.execVzero o s
  | .vld o => Sys2Proof.Machine.execVld o s
  | .vst o => Sys2Proof.Machine.execVst o s
  | .vldf o => Sys2Proof.Machine.execVldf o s
  | .vstf o => Sys2Proof.Machine.execVstf o s
  | .asave o => Sys2Proof.Machine.execAsave o s
  | .aload o => Sys2Proof.Machine.execAload o s
  | .aclr o => Sys2Proof.Machine.execAclr o s
  | .aadd o => Sys2Proof.Machine.execAadd o s
  | .asub o => Sys2Proof.Machine.execAsub o s
  | .adot o => Sys2Proof.Machine.execAdot o s
  | .adotn o => Sys2Proof.Machine.execAdotn o s
  | .amov o => Sys2Proof.Machine.execAmov o s
  | .aacc o => Sys2Proof.Machine.execAacc o s
  | .asuba o => Sys2Proof.Machine.execAsuba o s
  | .aaddg o => Sys2Proof.Machine.execAaddg o s
  | .ainfo o => Sys2Proof.Machine.execAinfo o s
  | .apost o => Sys2Proof.Machine.execApost o s
  | .arnd o => Sys2Proof.Machine.execArnd o s
  | .contributionRecord slot r a_i port => Sys2Proof.Machine.execContributionRecord slot r a_i port s
  | .recordAdded slot => Sys2Proof.Machine.execRecordAdded slot s
  | .portWrite a_i slot off width data => Sys2Proof.Machine.execPortWrite a_i slot off width data s
  | .prlGrant a_i data => Sys2Proof.Machine.execPrlGrant a_i data s
  | .grantCancel tag => Sys2Proof.Machine.execGrantCancel tag s
  | .grantAck tag => Sys2Proof.Machine.execGrantAck tag s
  | .slotSeal slot a_i => Sys2Proof.Machine.execSlotSeal slot a_i s
  | .slotClear slot a_i => Sys2Proof.Machine.execSlotClear slot a_i s
  | .slotRound slot a_i rm tgt => Sys2Proof.Machine.execSlotRound slot a_i rm tgt s
  | .roundResult slot => Sys2Proof.Machine.execRoundResult slot s
  | .slotDump slot a_i => Sys2Proof.Machine.execSlotDump slot a_i s
  | .dumpDone slot => Sys2Proof.Machine.execDumpDone slot s
  | .slotRenew slot a_i lease => Sys2Proof.Machine.execSlotRenew slot a_i lease s
  | .slotRelease slot a_i => Sys2Proof.Machine.execSlotRelease slot a_i s
  | .leaseExpiry => Sys2Proof.Machine.execLeaseExpiry s
  | .slotWiped slot => Sys2Proof.Machine.execSlotWiped slot s
  | .waiterGrant => Sys2Proof.Machine.execWaiterGrant s
  | .dumpAbandon slot => Sys2Proof.Machine.execDumpAbandon slot s
  | .branchMispredict core => Sys2Proof.Machine.execBranchMispredict core s
  | .cdaFlush site => Sys2Proof.Machine.execCdaFlush site s
  | .cdaFlushDone site => Sys2Proof.Machine.execCdaFlushDone site s
  | .atsTranslationRequest t => Sys2Proof.Machine.execAtsTranslationRequest t s
  | .transactionTimeout node tag => Sys2Proof.Machine.execTransactionTimeout node tag s
  | .quarantineEnd node tag => Sys2Proof.Machine.execQuarantineEnd node tag s
  | .lateReply node tag => Sys2Proof.Machine.execLateReply node tag s
  | .staleReply node gen tag => Sys2Proof.Machine.execStaleReply node gen tag s
  | .fenceAnswer dst src tag reply => Sys2Proof.Machine.execFenceAnswer dst src tag reply s
  | .routeArm => Sys2Proof.Machine.execRouteArm s
  | .routeDrained => Sys2Proof.Machine.execRouteDrained s
  | .eslotStart k => Sys2Proof.Machine.execEslotStart k s
  | .flitReceive p f => Sys2Proof.Machine.execFlitReceive p f s
  | .nakReceive p ack => Sys2Proof.Machine.execNakReceive p ack s
  | .controlFlitTimer p => Sys2Proof.Machine.execControlFlitTimer p s
  | .retrainPatternDetect p => Sys2Proof.Machine.execRetrainPatternDetect p s
  | .trainingDone site dir t => Sys2Proof.Machine.execTrainingDone site dir t s
  | .trainingFail site dir => Sys2Proof.Machine.execTrainingFail site dir s
  | .d2dPortEnable p en => Sys2Proof.Machine.execD2dPortEnable p en s
  | .d2dRetrain p => Sys2Proof.Machine.execD2dRetrain p s
  | .phyrst p => Sys2Proof.Machine.execPhyrst p s
  | .coreRequestAtCda core op line sec slice => Sys2Proof.Machine.execCoreRequestAtCda core op line sec slice s
  | .cohRds h r => Sys2Proof.Machine.execCohRds h r s
  | .cohRdo h r => Sys2Proof.Machine.execCohRdo h r s
  | .cohUpg h r => Sys2Proof.Machine.execCohUpg h r s
  | .cohOwnz h r => Sys2Proof.Machine.execCohOwnz h r s
  | .cohRdc h r => Sys2Proof.Machine.execCohRdc h r s
  | .cohWrf h r => Sys2Proof.Machine.execCohWrf h r s
  | .cohWrp h r => Sys2Proof.Machine.execCohWrp h r s
  | .cohCln h r => Sys2Proof.Machine.execCohCln h r s
  | .cohFls h r => Sys2Proof.Machine.execCohFls h r s
  | .cohAtomf h r => Sys2Proof.Machine.execCohAtomf h r s
  | .cohAtomm h r => Sys2Proof.Machine.execCohAtomm h r s
  | .cohWb h r => Sys2Proof.Machine.execCohWb h r s
  | .cohWbk h r => Sys2Proof.Machine.execCohWbk h r s
  | .cohEvc h r => Sys2Proof.Machine.execCohEvc h r s
  | .cohNcrd h r => Sys2Proof.Machine.execCohNcrd h r s
  | .cohNcwr h r => Sys2Proof.Machine.execCohNcwr h r s
  | .cohSnps site h tag line => Sys2Proof.Machine.execCohSnps site h tag line s
  | .cohSnpi site h tag line => Sys2Proof.Machine.execCohSnpi site h tag line s
  | .cohSnpc site h tag line => Sys2Proof.Machine.execCohSnpc site h tag line s
  | .cohSnpcl site h tag line => Sys2Proof.Machine.execCohSnpcl site h tag line s
  | .cohBinv site h tag line => Sys2Proof.Machine.execCohBinv site h tag line s
  | .snoopAnswer h site line st wbx dat => Sys2Proof.Machine.execSnoopAnswer h site line st wbx dat s
  | .cohAck h node tag line => Sys2Proof.Machine.execCohAck h node tag line s
  | .datReceive site tag st data poison => Sys2Proof.Machine.execDatReceive site tag st data poison s
  | .cmpReceive site tag status => Sys2Proof.Machine.execCmpReceive site tag status s
  | .cmpRsv site tag => Sys2Proof.Machine.execCmpRsv site tag s
  | .gnt site tag => Sys2Proof.Machine.execGnt site tag s
  | .reservationGrant h => Sys2Proof.Machine.execReservationGrant h s
  | .reservationLapse h node => Sys2Proof.Machine.execReservationLapse h node s
  | .cohDirq h line => Sys2Proof.Machine.execCohDirq h line s
  | .mergeWrite h r atomic => Sys2Proof.Machine.execMergeWrite h r atomic s
  | .mergeRetireTimeout h line => Sys2Proof.Machine.execMergeRetireTimeout h line s
  | .channelRead h line => Sys2Proof.Machine.execChannelRead h line s
  | .scrubRead h => Sys2Proof.Machine.execScrubRead h s
  | .channelEnable h => Sys2Proof.Machine.execChannelEnable h s
  | .channelTrained h ok step => Sys2Proof.Machine.execChannelTrained h ok step s
  | .memInjArm h a_i data => Sys2Proof.Machine.execMemInjArm h a_i data s
  | .mscDisable h => Sys2Proof.Machine.execMscDisable h s
  | .mramAccess r write => Sys2Proof.Machine.execMramAccess r write s
  | .dmaStart ch => Sys2Proof.Machine.execDmaStart ch s
  | .dmaStop ch => Sys2Proof.Machine.execDmaStop ch s
  | .dmaDoorbell ch => Sys2Proof.Machine.execDmaDoorbell ch s
  | .dmaClrhalt ch => Sys2Proof.Machine.execDmaClrhalt ch s
  | .dmaCreset ch => Sys2Proof.Machine.execDmaCreset ch s
  | .descriptorFetch ch ext => Sys2Proof.Machine.execDescriptorFetch ch ext s
  | .dmaReadComplete ch ext => Sys2Proof.Machine.execDmaReadComplete ch ext s
  | .dmaWriteAck ch ext => Sys2Proof.Machine.execDmaWriteAck ch ext s
  | .descriptorWritebackAck ch ext => Sys2Proof.Machine.execDescriptorWritebackAck ch ext s
  | .dmaBurstAdmit ch => Sys2Proof.Machine.execDmaBurstAdmit ch s
  | .outboundAccess a_i r => Sys2Proof.Machine.execOutboundAccess a_i r s
  | .completionReceive ctl tag good ep data => Sys2Proof.Machine.execCompletionReceive ctl tag good ep data s
  | .inboundRequest t => Sys2Proof.Machine.execInboundRequest t s
  | .configAccess a_i off width write data ans => Sys2Proof.Machine.execConfigAccess a_i off width write data ans s
  | .linkDown ctl port => Sys2Proof.Machine.execLinkDown ctl port s
  | .busMasterDisable func => Sys2Proof.Machine.execBusMasterDisable func s
  | .vfFlr a_s => Sys2Proof.Machine.execVfFlr a_s s
  | .pfReset linkLoss => Sys2Proof.Machine.execPfReset linkLoss s
  | .d3hotEntry func => Sys2Proof.Machine.execD3hotEntry func s
  | .resizableBarWrite vf size => Sys2Proof.Machine.execResizableBarWrite vf size s
  | .hpsFrame ins => Sys2Proof.Machine.execHpsFrame ins s
  | .presenceChange p present => Sys2Proof.Machine.execPresenceChange p present s
  | .attentionButton p => Sys2Proof.Machine.execAttentionButton p s
  | .powerFault p => Sys2Proof.Machine.execPowerFault p s
  | .powerControllerControl p turnOff => Sys2Proof.Machine.execPowerControllerControl p turnOff s
  | .indicatorControl p power v => Sys2Proof.Machine.execIndicatorControl p power v s
  | .commandCompleted p => Sys2Proof.Machine.execCommandCompleted p s
  | .perstRelease p => Sys2Proof.Machine.execPerstRelease p s
  | .atsInvalidate ctl data => Sys2Proof.Machine.execAtsInvalidate ctl data s
  | .invalidateCompletion ctl => Sys2Proof.Machine.execInvalidateCompletion ctl s
  | .atsTimeout ctl => Sys2Proof.Machine.execAtsTimeout ctl s
  | .vsfCreate a_i a_s => Sys2Proof.Machine.execVsfCreate a_i a_s s
  | .vsfDestroy a_i a_s => Sys2Proof.Machine.execVsfDestroy a_i a_s s
  | .sliceCommandDone => Sys2Proof.Machine.execSliceCommandDone s
  | .vsfPgranWrite a_i j data => Sys2Proof.Machine.execVsfPgranWrite a_i j data s
  | .granuleZero => Sys2Proof.Machine.execGranuleZero s
  | .granuleClean g => Sys2Proof.Machine.execGranuleClean g s
  | .vsfVrun a_i a_s => Sys2Proof.Machine.execVsfVrun a_i a_s s
  | .vsfPgrant a_i a_s data => Sys2Proof.Machine.execVsfPgrant a_i a_s data s
  | .vsfHdb a_i a_s bits => Sys2Proof.Machine.execVsfHdb a_i a_s bits s
  | .vsfSdb a_i a_s n => Sys2Proof.Machine.execVsfSdb a_i a_s n s
  | .slotProxyAccess a_i a_s n off width write data => Sys2Proof.Machine.execSlotProxyAccess a_i a_s n off width write data s
  | .ethFrameReceive q f => Sys2Proof.Machine.execEthFrameReceive q f s
  | .neighborSolicitation q target => Sys2Proof.Machine.execNeighborSolicitation q target s
  | .ptpMessage q t1 t2 t3 t4 => Sys2Proof.Machine.execPtpMessage q t1 t2 t3 t4 s
  | .fabData peer p => Sys2Proof.Machine.execFabData peer p s
  | .lysebAck peer ackpsn sack ece => Sys2Proof.Machine.execLysebAck peer ackpsn sack ece s
  | .fabHello peer o => Sys2Proof.Machine.execFabHello peer o s
  | .fabAccept peer o => Sys2Proof.Machine.execFabAccept peer o s
  | .fabFinish peer o => Sys2Proof.Machine.execFabFinish peer o s
  | .fabRekey peer psn => Sys2Proof.Machine.execFabRekey peer psn s
  | .fabClose peer psn => Sys2Proof.Machine.execFabClose peer psn s
  | .fabProbe peer n => Sys2Proof.Machine.execFabProbe peer n s
  | .fabProbeRep peer t1 t2 t3 t4 => Sys2Proof.Machine.execFabProbeRep peer t1 t2 t3 t4 s
  | .rnrResend peer => Sys2Proof.Machine.execRnrResend peer s
  | .peerEnable peer en => Sys2Proof.Machine.execPeerEnable peer en s
  | .helloResend peer => Sys2Proof.Machine.execHelloResend peer s
  | .handshakeTimeout peer => Sys2Proof.Machine.execHandshakeTimeout peer s
  | .failedRetry peer => Sys2Proof.Machine.execFailedRetry peer s
  | .closingTimeout peer => Sys2Proof.Machine.execClosingTimeout peer s
  | .ackTimer peer => Sys2Proof.Machine.execAckTimer peer s
  | .rtoExpiry peer => Sys2Proof.Machine.execRtoExpiry peer s
  | .linkFailure peer portLost => Sys2Proof.Machine.execLinkFailure peer portLost s
  | .fabricTransactionTout tag => Sys2Proof.Machine.execFabricTransactionTout tag s
  | .altPortMove peer => Sys2Proof.Machine.execAltPortMove peer s
  | .rekeyTrigger peer => Sys2Proof.Machine.execRekeyTrigger peer s
  | .oldKeyErase peer => Sys2Proof.Machine.execOldKeyErase peer s
  | .fabEslotStart k => Sys2Proof.Machine.execFabEslotStart k s
  | .fabEslotSpill k => Sys2Proof.Machine.execFabEslotSpill k s
  | .collStart n => Sys2Proof.Machine.execCollStart n s
  | .collGranted n => Sys2Proof.Machine.execCollGranted n s
  | .collEnd n => Sys2Proof.Machine.execCollEnd n s
  | .collAbort n => Sys2Proof.Machine.execCollAbort n s
  | .atlasLockLoss => Sys2Proof.Machine.execAtlasLockLoss s
  | .captureCut n => Sys2Proof.Machine.execCaptureCut n s
  | .captureAbandon n => Sys2Proof.Machine.execCaptureAbandon n s
  | .shipLine n line => Sys2Proof.Machine.execShipLine n line s
  | .sealSend n => Sys2Proof.Machine.execSealSend n s
  | .pairShip m => Sys2Proof.Machine.execPairShip m s
  | .pairSeal m => Sys2Proof.Machine.execPairSeal m s
  | .pairCommit m => Sys2Proof.Machine.execPairCommit m s
  | .pairOpen m => Sys2Proof.Machine.execPairOpen m s
  | .pairStop => Sys2Proof.Machine.execPairStop s
  | .pairHb => Sys2Proof.Machine.execPairHb s
  | .pairHbSend => Sys2Proof.Machine.execPairHbSend s
  | .pairCaps c => Sys2Proof.Machine.execPairCaps c s
  | .pairSwitchMsg m => Sys2Proof.Machine.execPairSwitchMsg m s
  | .pairSwack m => Sys2Proof.Machine.execPairSwack m s
  | .pairSilence => Sys2Proof.Machine.execPairSilence s
  | .resumption n => Sys2Proof.Machine.execResumption n s
  | .pairStart n => Sys2Proof.Machine.execPairStart n s
  | .pairSwitch n => Sys2Proof.Machine.execPairSwitch n s
  | .pairBreak n => Sys2Proof.Machine.execPairBreak n s
  | .pairResume n => Sys2Proof.Machine.execPairResume n s
  | .pairClear n => Sys2Proof.Machine.execPairClear n s
  | .pairLinkTrained lanes => Sys2Proof.Machine.execPairLinkTrained lanes s
  | .wldQuery a_i cls idx => Sys2Proof.Machine.execWldQuery a_i cls idx s
  | .handoverRelease a_i cls idx => Sys2Proof.Machine.execHandoverRelease a_i cls idx s
  | .wldClaim a_i cls idx secure => Sys2Proof.Machine.execWldClaim a_i cls idx secure s
  | .handoverResetDone cls idx => Sys2Proof.Machine.execHandoverResetDone cls idx s
  | .irtTrig a_i n => Sys2Proof.Machine.execIrtTrig a_i n s
  | .irtClrp a_i n => Sys2Proof.Machine.execIrtClrp a_i n s
  | .sourceEvent n => Sys2Proof.Machine.execSourceEvent n s
  | .irqOffer core => Sys2Proof.Machine.execIrqOffer core s
  | .pwrVoteWrite a_i k data => Sys2Proof.Machine.execPwrVoteWrite a_i k data s
  | .domainCleanDone core => Sys2Proof.Machine.execDomainCleanDone core s
  | .fenceDrained d => Sys2Proof.Machine.execFenceDrained d s
  | .domainEntryDone d => Sys2Proof.Machine.execDomainEntryDone d s
  | .domainExitDone d => Sys2Proof.Machine.execDomainExitDone d s
  | .pkgSleep a_i => Sys2Proof.Machine.execPkgSleep a_i s
  | .pkgDeep a_i => Sys2Proof.Machine.execPkgDeep a_i s
  | .pkgOff a_i => Sys2Proof.Machine.execPkgOff a_i s
  | .pkgCancel a_i => Sys2Proof.Machine.execPkgCancel a_i s
  | .pkgEntry => Sys2Proof.Machine.execPkgEntry s
  | .pkgWake src => Sys2Proof.Machine.execPkgWake src s
  | .wakeN => Sys2Proof.Machine.execWakeN s
  | .powerSample watts avg => Sys2Proof.Machine.execPowerSample watts avg s
  | .freqRaise core => Sys2Proof.Machine.execFreqRaise core s
  | .prochotN low => Sys2Proof.Machine.execProchotN low s
  | .junctionHot => Sys2Proof.Machine.execJunctionHot s
  | .thermtrip => Sys2Proof.Machine.execThermtrip s
  | .coldReset => Sys2Proof.Machine.execColdReset s
  | .warmReset => Sys2Proof.Machine.execWarmReset s
  | .pwrokFall => Sys2Proof.Machine.execPwrokFall s
  | .railUndervoltage => Sys2Proof.Machine.execRailUndervoltage s
  | .resetHoldEnd => Sys2Proof.Machine.execResetHoldEnd s
  | .refclkLoss => Sys2Proof.Machine.execRefclkLoss s
  | .bootStageDone w => Sys2Proof.Machine.execBootStageDone w s
  | .bootWarm a_i => Sys2Proof.Machine.execBootWarm a_i s
  | .svncommit a_i => Sys2Proof.Machine.execSvncommit a_i s
  | .bootRevoke a_i slots => Sys2Proof.Machine.execBootRevoke a_i slots s
  | .bootSpicmd a_i data => Sys2Proof.Machine.execBootSpicmd a_i data s
  | .spiCommandDone ok bytes => Sys2Proof.Machine.execSpiCommandDone ok bytes s
  | .idnExtend a_i index => Sys2Proof.Machine.execIdnExtend a_i index s
  | .lunaWatchdog => Sys2Proof.Machine.execLunaWatchdog s
  | .spdmRequest mctp code => Sys2Proof.Machine.execSpdmRequest mctp code s
  | .recGo => Sys2Proof.Machine.execRecGo s
  | .recProgram => Sys2Proof.Machine.execRecProgram s
  | .recReset => Sys2Proof.Machine.execRecReset s
  | .recoveryGoDone => Sys2Proof.Machine.execRecoveryGoDone s
  | .erbAcknowledge bank => Sys2Proof.Machine.execErbAcknowledge bank s
  | .dstopForce a_i => Sys2Proof.Machine.execDstopForce a_i s
  | .domainStop => Sys2Proof.Machine.execDomainStop s
  | .dstopChannelFlush => Sys2Proof.Machine.execDstopChannelFlush s
  | .dstopLog => Sys2Proof.Machine.execDstopLog s
  | .logRecordWrite => Sys2Proof.Machine.execLogRecordWrite s
  | .i3cRegrd off width => Sys2Proof.Machine.execI3cRegrd off width s
  | .i3cRegwr off width data => Sys2Proof.Machine.execI3cRegwr off width data s
  | .mctpPacket code => Sys2Proof.Machine.execMctpPacket code s
  | .jtagExtest cells => Sys2Proof.Machine.execJtagExtest cells s
  | .jtagSamplePreload cells => Sys2Proof.Machine.execJtagSamplePreload cells s
  | .jtagIdcode => Sys2Proof.Machine.execJtagIdcode s
  | .jtagClamp => Sys2Proof.Machine.execJtagClamp s
  | .jtagHighz => Sys2Proof.Machine.execJtagHighz s
  | .jtagRegacc dr => Sys2Proof.Machine.execJtagRegacc dr s
  | .jtagDiesel site => Sys2Proof.Machine.execJtagDiesel site s
  | .jtagStandalone => Sys2Proof.Machine.execJtagStandalone s
  | .jtagBypass => Sys2Proof.Machine.execJtagBypass s
  | .dmaResetDone ch => Sys2Proof.Machine.execDmaResetDone ch s
  | .hbLinkUp ctl port => Sys2Proof.Machine.execHbLinkUp ctl port s
  | .portLinkUp q => Sys2Proof.Machine.execPortLinkUp q s
  | .pairLinkDown st lanes => Sys2Proof.Machine.execPairLinkDown st lanes s
  | .pkgExitDone => Sys2Proof.Machine.execPkgExitDone s
  | .vccAoLoss => Sys2Proof.Machine.execVccAoLoss s
  | .refclkReturn => Sys2Proof.Machine.execRefclkReturn s
  | .dramHot h hot => Sys2Proof.Machine.execDramHot h hot s

end Sys2Proof.Machine
end

