-- ==== Sys2Proof/WellFormed.lean ====
section
/-! DEFINITION. Well-formed commands: a core instruction whose fields that must be zero are zero and whose field codes are
defined (03 R73-R80, 04 R111, R125-R135), and operands within the widths the spec gives them (01 R23, 05 R152, 09 R236). A
core instruction that is not well-formed raises ILLEGAL. -/
namespace Sys2Proof

/-- The predicate fields of the PRED group (03 R77). -/
def wfPred (o : RRR) (two : Bool) : Bool :=
  decide (o.d.toNat < 8) && decide (o.s1.toNat < 8) && (!two || decide (o.s2.toNat < 8))
/-- A rounding-mode code is defined (04 R111). -/
def wfRm (rm : BitVec 3) : Bool := rm != 5 && rm != 6
/-- A field that names an accumulator (04 R125). -/
def wfAcc (r : BitVec 5) : Bool := decide (r.toNat < 4)
/-- VSTF (04 R132). -/
def wfVstf (o : RRRF) : Bool :=
  decide (o.f.toNat % 16 < 8) && wfRm (BitVec.ofNat 3 (o.f.toNat / 16)) &&
    (!(o.f.toNat % 16 == 0 || o.f.toNat % 16 == 1 || o.f.toNat % 16 == 4) || o.f.toNat / 16 == 0)
/-- ARND (04 R135). -/
def wfArnd (o : RRRF) : Bool :=
  wfRm (BitVec.ofNat 3 o.f.toNat) && !o.f.getLsbD 6 && wfAcc o.s1 &&
    (match o.f.toNat / 8 % 4 with
     | 0 => decide (o.s2.toNat < 8)
     | 1 => decide (o.s2.toNat < 16)
     | _ => o.s2 == 0)
/-- An initiator: a node ID of 12 bits (09 R236), a slice number or none, a generation and a tag (09 R239). -/
def wfInit (i : Init) : Bool :=
  decide (i.node < 4096) && (decide (i.slice < 240) || i.slice == 0xFF) && decide (i.gen < 16) && decide (i.tag < 4096)
/-- The size of a register access in bits. -/
def wfWidth (w : Nat) : Bool := w == 8 || w == 16 || w == 32 || w == 64
/-- A line number of a 56-bit physical address (01 R23). -/
def wfLine (l : Nat) : Bool := decide (l < 2 ^ 49)
/-- The header fields of a record (05 R152). -/
def wfRecord (r : Record) : Bool :=
  decide (r.slot < 32) && decide (r.epoch < 256) && decide (r.lo < 64) && decide (r.hi < 64)
/-- The fields of a coherence request (09 R239, 10 R272). -/
def wfCohReq (r : CohReq) : Bool :=
  decide (r.node < 4096) && decide (r.gen < 16) && decide (r.tag < 4096) && wfLine r.line && decide (r.aoff < 128) &&
    decide (r.aop < 32)
/-- An inbound request of at most one line. -/
def wfTlp (t : Tlp) : Bool :=
  decide (t.addr < 2 ^ 64) && decide (t.addr % 4096 + t.len ≤ 4096) &&
    decide (t.len ≤ (if t.kind = 0 then 4096 else if t.kind = 1 then 512 else 8))
/-- An outbound access within one line of the host-bus range (01 R23). -/
def wfOutReq (r : OutReq) : Bool :=
  decide (0x400000000000 ≤ r.addr) && decide (r.addr < 0x800000000000) && decide (r.addr % 128 + r.size ≤ 128)

/-- A command is well-formed. -/
def Instr.wf : Instr → Bool
  | .registerWrite i _ width _ => wfInit i && wfWidth width
  | .swarmAccess i _ width _ _ => wfInit i && wfWidth width
  | .swarmHoldRelease => true
  | .siteCodeSample _ _ => true
  | .tickEdge => true
  | .tickStrobeArrival _ => true
  | .eventCrossing _ => true
  | .tckRun => true
  | .tckPeriodWrite _ => true
  | .scheduleCheckDone => true
  | .tckRateWrite _ => true
  | .tckTimeNsRead i _ width => wfInit i && wfWidth width
  | .negativeStepAbsorbed => true
  | .tickInEdge => true
  | .tickInLockLoss => true
  | .tickOutSecondPulse => true
  | .tickOutPulseEnd => true
  | .add _ => true
  | .sub _ => true
  | .and _ => true
  | .or _ => true
  | .xor _ => true
  | .andn _ => true
  | .sll _ => true
  | .srl _ => true
  | .sra _ => true
  | .ror _ => true
  | .min _ => true
  | .max _ => true
  | .minu _ => true
  | .maxu _ => true
  | .addw _ => true
  | .subw _ => true
  | .mul _ => true
  | .mulh _ => true
  | .mulhu _ => true
  | .div _ => true
  | .divu _ => true
  | .rem _ => true
  | .remu _ => true
  | .clz _ => true
  | .ctz _ => true
  | .popc _ => true
  | .bswap _ => true
  | .sextb _ => true
  | .sexth _ => true
  | .sextw _ => true
  | .zextw _ => true
  | .addi _ => true
  | .andi _ => true
  | .ori _ => true
  | .xori _ => true
  | .shiSll o => o.hi == 0
  | .shiSrl o => o.hi == 0
  | .shiSra o => o.hi == 0
  | .shiRor o => o.hi == 0
  | .cmp o => decide (o.d.toNat < 8) && decide (o.f.toNat % 16 < 8)
  | .cmpi _ => true
  | .cmpiu _ => true
  | .li _ => true
  | .lsi o => !o.imm.getLsbD 16
  | .addpc _ => true
  | .pand o => wfPred o true
  | .por o => wfPred o true
  | .pxor o => wfPred o true
  | .pandn o => wfPred o true
  | .porn o => wfPred o true
  | .pnot o => wfPred o false
  | .mfp _ => true
  | .mtp _ => true
  | .ldb _ => true
  | .ldbs _ => true
  | .ldh _ => true
  | .ldhs _ => true
  | .ldw _ => true
  | .ldws _ => true
  | .ldd _ => true
  | .stb _ => true
  | .sth _ => true
  | .stw _ => true
  | .std _ => true
  | .ldx o => decide (o.f.toNat < 16)
  | .stx o => decide (o.f.toNat < 16) && !o.f.getLsbD 2
  | .atomSwap _ => true
  | .atomAdd _ => true
  | .atomAnd _ => true
  | .atomOr _ => true
  | .atomXor _ => true
  | .atomSmin _ => true
  | .atomSmax _ => true
  | .atomUmin _ => true
  | .atomUmax _ => true
  | .atomCas _ => true
  | .br _ => true
  | .call _ => true
  | .jr _ => true
  | .ret _ => true
  | .jalr _ => true
  | .nop _ => true
  | .syscall _ => true
  | .hcall _ => true
  | .mcall _ => true
  | .brk _ => true
  | .eret _ => true
  | .wfi _ => true
  | .wfiWake _ => true
  | .fence _ => true
  | .fenceG _ => true
  | .isync _ => true
  | .gcall _ => true
  | .gret _ => true
  | .tlbiVa _ => true
  | .tlbiAs _ => true
  | .tlbiAll _ => true
  | .tlbiS2 _ => true
  | .tlbsync _ => true
  | .tlbiReceive _ _ => true
  | .tlbiAck _ _ => true
  | .tlbsyncTimeout _ => true
  | .mfc _ => true
  | .mtc _ => true
  | .cacheopCleaninv _ => true
  | .cleaninvDone _ => true
  | .cacheopInvl1i _ => true
  | .cacheEnableChange _ => true
  | .accstWrite _ => true
  | .prinvItt _ => true
  | .prinvRs _ => true
  | .ieoi _ => true
  | .lflush _ => true
  | .lclean _ => true
  | .ldrop _ => true
  | .lzero _ => true
  | .idrop _ => true
  | .idropall _ => true
  | .swflush _ => true
  | .prefetchR _ => true
  | .prefetchW _ => true
  | .hwPrefetch _ _ _ => true
  | .storeStatusReturn _ => true
  | .deferredBuserr _ => true
  | .singleStepTrap _ => true
  | .interruptTaken _ => true
  | .gatePreempt _ => true
  | .coreRelease _ => true
  | .haltreq _ => true
  | .debugHalt _ => true
  | .resume _ => true
  | .creset _ => true
  | .coreResetDone _ => true
  | .cDbginst _ _ => true
  | .fadd o => wfRm o.rm
  | .fsub o => wfRm o.rm
  | .fmul o => wfRm o.rm
  | .fdiv o => wfRm o.rm
  | .fmin o => o.rm == 0
  | .fmax o => o.rm == 0
  | .fsqrt o => wfRm o.rm && o.vs2 == 0
  | .frint o => wfRm o.rm && o.vs2 == 0
  | .fma o => wfRm o.rm
  | .fms o => wfRm o.rm
  | .fnma o => wfRm o.rm
  | .fnms o => wfRm o.rm
  | .feq o => o.rm == 0
  | .flt o => o.rm == 0
  | .fle o => o.rm == 0
  | .funord o => o.rm == 0
  | .fne o => o.rm == 0
  | .vcvtNative o => wfRm o.rm && o.vs2 == 0 && (!o.sz || o.rm == 0)
  | .vcvtToSigned o => wfRm o.rm && o.vs2 == 0
  | .vcvtToUnsigned o => wfRm o.rm && o.vs2 == 0
  | .vcvtFromSigned o => wfRm o.rm && o.vs2 == 0
  | .vcvtFromUnsigned o => wfRm o.rm && o.vs2 == 0
  | .vmov o => !o.sz && o.rm == 0 && o.vs2 == 0
  | .vsel o => o.rm == 0
  | .vbcast o => o.rm == 0 && o.vs2 == 0
  | .vget o => wfRm o.rm && decide (o.vs2.toNat < if o.sz then 16 else 8)
  | .vneg o => o.rm == 0 && o.vs2 == 0
  | .vabs o => o.rm == 0 && o.vs2 == 0
  | .vzero o => !o.sz && o.rm == 0 && o.vs1 == 0 && o.vs2 == 0
  | .vld _ => true
  | .vst _ => true
  | .vldf o => decide (o.f.toNat < 8)
  | .vstf o => wfVstf o
  | .asave o => wfAcc o.d
  | .aload o => wfAcc o.d
  | .aclr o => wfAcc o.d && !o.sz && o.s1 == 0 && o.s2 == 0
  | .aadd o => wfAcc o.d && o.s2 == 0
  | .asub o => wfAcc o.d && o.s2 == 0
  | .adot o => wfAcc o.d
  | .adotn o => wfAcc o.d
  | .amov o => wfAcc o.d && wfAcc o.s1 && !o.sz && o.s2 == 0
  | .aacc o => wfAcc o.d && wfAcc o.s1 && !o.sz
  | .asuba o => wfAcc o.d && wfAcc o.s1 && !o.sz
  | .aaddg o => wfAcc o.d
  | .ainfo o => wfAcc o.s2 && !o.sz
  | .apost o => wfAcc o.s2 && !o.sz
  | .arnd o => wfArnd o
  | .contributionRecord _ r i _ => wfRecord r && wfInit i
  | .recordAdded _ => true
  | .portWrite i _ _ width _ => wfInit i && wfWidth width
  | .prlGrant i _ => wfInit i
  | .grantCancel _ => true
  | .grantAck _ => true
  | .slotSeal _ i => wfInit i
  | .slotClear _ i => wfInit i
  | .slotRound _ i _ _ => wfInit i
  | .roundResult _ => true
  | .slotDump _ i => wfInit i
  | .dumpDone _ => true
  | .slotRenew _ i _ => wfInit i
  | .slotRelease _ i => wfInit i
  | .leaseExpiry => true
  | .slotWiped _ => true
  | .waiterGrant => true
  | .dumpAbandon _ => true
  | .branchMispredict _ => true
  | .cdaFlush _ => true
  | .cdaFlushDone _ => true
  | .atsTranslationRequest t => wfTlp t
  | .transactionTimeout node _ => decide (node < 4096)
  | .quarantineEnd node _ => decide (node < 4096)
  | .lateReply node _ => decide (node < 4096)
  | .staleReply node _ _ => decide (node < 4096)
  | .fenceAnswer dst src _ _ => decide (dst < 4096) && decide (src < 4096)
  | .routeArm => true
  | .routeDrained => true
  | .eslotStart _ => true
  | .flitReceive _ _ => true
  | .nakReceive _ _ => true
  | .controlFlitTimer _ => true
  | .retrainPatternDetect _ => true
  | .trainingDone _ _ _ => true
  | .trainingFail _ _ => true
  | .d2dPortEnable _ _ => true
  | .d2dRetrain _ => true
  | .phyrst _ => true
  | .coreRequestAtCda _ _ line _ _ => wfLine line
  | .cohRds _ r => wfCohReq r
  | .cohRdo _ r => wfCohReq r
  | .cohUpg _ r => wfCohReq r
  | .cohOwnz _ r => wfCohReq r
  | .cohRdc _ r => wfCohReq r
  | .cohWrf _ r => wfCohReq r
  | .cohWrp _ r => wfCohReq r
  | .cohCln _ r => wfCohReq r
  | .cohFls _ r => wfCohReq r
  | .cohAtomf _ r => wfCohReq r
  | .cohAtomm _ r => wfCohReq r
  | .cohWb _ r => wfCohReq r
  | .cohWbk _ r => wfCohReq r
  | .cohEvc _ r => wfCohReq r
  | .cohNcrd _ r => wfCohReq r
  | .cohNcwr _ r => wfCohReq r
  | .cohSnps _ _ _ line => wfLine line
  | .cohSnpi _ _ _ line => wfLine line
  | .cohSnpc _ _ _ line => wfLine line
  | .cohSnpcl _ _ _ line => wfLine line
  | .cohBinv _ _ _ line => wfLine line
  | .snoopAnswer _ _ line _ _ _ => wfLine line
  | .cohAck _ node _ line => decide (node < 4096) && wfLine line
  | .datReceive _ _ _ _ _ => true
  | .cmpReceive _ _ _ => true
  | .cmpRsv _ _ => true
  | .gnt _ _ => true
  | .reservationGrant _ => true
  | .reservationLapse _ node => decide (node < 4096)
  | .cohDirq _ line => wfLine line
  | .mergeWrite _ r _ => wfCohReq r
  | .mergeRetireTimeout _ line => wfLine line
  | .channelRead _ line => wfLine line
  | .scrubRead _ => true
  | .channelEnable _ => true
  | .channelTrained _ _ _ => true
  | .memInjArm _ i _ => wfInit i
  | .mscDisable _ => true
  | .mramAccess r _ => wfCohReq r
  | .dmaStart _ => true
  | .dmaStop _ => true
  | .dmaDoorbell _ => true
  | .dmaClrhalt _ => true
  | .dmaCreset _ => true
  | .descriptorFetch _ _ => true
  | .dmaReadComplete _ _ => true
  | .dmaWriteAck _ _ => true
  | .descriptorWritebackAck _ _ => true
  | .dmaBurstAdmit _ => true
  | .outboundAccess i r => wfInit i && wfOutReq r
  | .completionReceive _ _ _ _ _ => true
  | .inboundRequest t => wfTlp t
  | .configAccess i _ width _ _ _ => wfInit i && wfWidth width
  | .linkDown _ _ => true
  | .busMasterDisable _ => true
  | .vfFlr _ => true
  | .pfReset _ => true
  | .d3hotEntry _ => true
  | .resizableBarWrite _ _ => true
  | .hpsFrame _ => true
  | .presenceChange _ _ => true
  | .attentionButton _ => true
  | .powerFault _ => true
  | .powerControllerControl _ _ => true
  | .indicatorControl _ _ _ => true
  | .commandCompleted _ => true
  | .perstRelease _ => true
  | .atsInvalidate _ _ => true
  | .invalidateCompletion _ => true
  | .atsTimeout _ => true
  | .vsfCreate i _ => wfInit i
  | .vsfDestroy i _ => wfInit i
  | .sliceCommandDone => true
  | .vsfPgranWrite i _ _ => wfInit i
  | .granuleZero => true
  | .granuleClean _ => true
  | .vsfVrun i _ => wfInit i
  | .vsfPgrant i _ _ => wfInit i
  | .vsfHdb i _ _ => wfInit i
  | .vsfSdb i _ _ => wfInit i
  | .slotProxyAccess i _ _ _ width _ _ => wfInit i && wfWidth width
  | .ethFrameReceive _ _ => true
  | .neighborSolicitation _ _ => true
  | .ptpMessage _ _ _ _ _ => true
  | .fabData _ _ => true
  | .lysebAck _ _ _ _ => true
  | .fabHello _ _ => true
  | .fabAccept _ _ => true
  | .fabFinish _ _ => true
  | .fabRekey _ _ => true
  | .fabClose _ _ => true
  | .fabProbe _ _ => true
  | .fabProbeRep _ _ _ _ _ => true
  | .rnrResend _ => true
  | .peerEnable _ _ => true
  | .helloResend _ => true
  | .handshakeTimeout _ => true
  | .failedRetry _ => true
  | .closingTimeout _ => true
  | .ackTimer _ => true
  | .rtoExpiry _ => true
  | .linkFailure _ _ => true
  | .fabricTransactionTout _ => true
  | .altPortMove _ => true
  | .rekeyTrigger _ => true
  | .oldKeyErase _ => true
  | .fabEslotStart _ => true
  | .fabEslotSpill _ => true
  | .collStart _ => true
  | .collGranted _ => true
  | .collEnd _ => true
  | .collAbort _ => true
  | .atlasLockLoss => true
  | .captureCut _ => true
  | .captureAbandon _ => true
  | .shipLine _ line => wfLine line
  | .sealSend _ => true
  | .pairShip _ => true
  | .pairSeal _ => true
  | .pairCommit _ => true
  | .pairOpen _ => true
  | .pairStop => true
  | .pairHb => true
  | .pairHbSend => true
  | .pairCaps _ => true
  | .pairSwitchMsg _ => true
  | .pairSwack _ => true
  | .pairSilence => true
  | .resumption _ => true
  | .pairStart _ => true
  | .pairSwitch _ => true
  | .pairBreak _ => true
  | .pairResume _ => true
  | .pairClear _ => true
  | .pairLinkTrained _ => true
  | .wldQuery i _ _ => wfInit i
  | .handoverRelease i _ _ => wfInit i
  | .wldClaim i _ _ _ => wfInit i
  | .handoverResetDone _ _ => true
  | .irtTrig i _ => wfInit i
  | .irtClrp i _ => wfInit i
  | .sourceEvent _ => true
  | .irqOffer _ => true
  | .pwrVoteWrite i _ _ => wfInit i
  | .domainCleanDone _ => true
  | .fenceDrained _ => true
  | .domainEntryDone _ => true
  | .domainExitDone _ => true
  | .pkgSleep i => wfInit i
  | .pkgDeep i => wfInit i
  | .pkgOff i => wfInit i
  | .pkgCancel i => wfInit i
  | .pkgEntry => true
  | .pkgWake _ => true
  | .wakeN => true
  | .powerSample _ _ => true
  | .freqRaise _ => true
  | .prochotN _ => true
  | .junctionHot => true
  | .thermtrip => true
  | .coldReset => true
  | .warmReset => true
  | .pwrokFall => true
  | .railUndervoltage => true
  | .resetHoldEnd => true
  | .refclkLoss => true
  | .bootStageDone _ => true
  | .bootWarm i => wfInit i
  | .svncommit i => wfInit i
  | .bootRevoke i _ => wfInit i
  | .bootSpicmd i _ => wfInit i
  | .spiCommandDone _ _ => true
  | .idnExtend i _ => wfInit i
  | .lunaWatchdog => true
  | .spdmRequest _ _ => true
  | .recGo => true
  | .recProgram => true
  | .recReset => true
  | .recoveryGoDone => true
  | .erbAcknowledge _ => true
  | .dstopForce i => wfInit i
  | .domainStop => true
  | .dstopChannelFlush => true
  | .dstopLog => true
  | .logRecordWrite => true
  | .i3cRegrd _ width => wfWidth width
  | .i3cRegwr _ width _ => wfWidth width
  | .mctpPacket _ => true
  | .jtagExtest _ => true
  | .jtagSamplePreload _ => true
  | .jtagIdcode => true
  | .jtagClamp => true
  | .jtagHighz => true
  | .jtagRegacc _ => true
  | .jtagDiesel _ => true
  | .jtagStandalone => true
  | .jtagBypass => true
  | .dmaResetDone _ => true
  | .hbLinkUp _ _ => true
  | .portLinkUp _ => true
  | .pairLinkDown _ _ => true
  | .pkgExitDone => true
  | .vccAoLoss => true
  | .refclkReturn => true
  | .dramHot _ _ => true

end Sys2Proof
end

