-- ==== Sys2Proof/Safety.lean ====
section
/-! DEFINITION. The terms in which the statements speak: that a command answers a next state, that a core issues an
instruction, what an instruction leaves alone, and the sound states. -/
namespace Sys2Proof.Machine

/-- The command answers a next state of which `P` holds. -/
def Answers (i : Instr) (s : State) (P : State → Prop) : Prop := ∃ t, exec i s = .next t ∧ P t

/-- Core `n` issues the instruction word `w`: it is at a boundary with no event due (03 R70), and the fetch at its PC ends
without a fault in state `s1` (03 R69 steps 1-3). -/
def Issues (s : State) (n : Nat) (w : BitVec 32) (s1 : State) : Prop :=
  s.canIssue n = true ∧ (s.core n).wait = .none ∧ (s.core n).dbg = false ∧
    (s.modCore n (fun c => { c with word := w })).fetch n fetchTag = (.ok (), s1) ∧ (s1.core n).dbg = false

/-- Core `n` issues the well-formed instruction `i`, whose predicate `pred`, `pn` lets it execute (03 R74). -/
def Runs (i : Instr) (n : Nat) (pred : BitVec 3) (pn : Bool) (s s1 : State) : Prop :=
  i.wf = true ∧ Issues s n (wordOf i) s1 ∧ (s1.core n).executes pred pn = true

/-- The C_ registers that count (03 R100, R101): C_CYCLE, C_INSTRET, C_PMOVF, C_PMC0-5. -/
def countReg (k : Nat) : Bool := k == 0x060 || k == 0x061 || k == 0x063 || (0x068 ≤ k && k < 0x06E)

/-- Level, world and the bits of C_STATUS are the same. -/
def keepsMode (c d : Core) : Prop :=
  d.lvl = c.lvl ∧ d.sec = c.sec ∧ d.ie = c.ie ∧ d.ss = c.ss ∧ d.mcip = c.mcip

/-- Every C_ register but the counters is the same. -/
def keepsCreg (c d : Core) : Prop := ∀ k, countReg k = false → d.cr k = c.cr k

/-- A program sees the same core: registers, level and world, C_ registers but the counters. -/
def sameSeen (c d : Core) : Prop :=
  d.g = c.g ∧ d.p = c.p ∧ d.v = c.v ∧ d.a = c.a ∧ keepsMode c d ∧ keepsCreg c d

/-- Outside core `n` nothing that a program reads has changed: memory and its check bits, the memory-mapped registers, the
dies and the other cores. -/
def keepsRest (n : Nat) (s t : State) : Prop :=
  t.mem = s.mem ∧ t.chk = s.chk ∧ t.regs = s.regs ∧ t.dies = s.dies ∧ ∀ m, m ≠ n → t.core m = s.core m

/-- An instruction of core `n` has completed: the core is as `c` to a program, its PC is `npc`, and beside it nothing differs
from `s`. -/
def endsAs (n : Nat) (c : Core) (npc : Word) (s t : State) : Prop :=
  sameSeen c (t.core n) ∧ (t.core n).pc = npc ∧ keepsRest n s t

/-- An instruction has written at most g[d]: `v` is what g[d] reads now, every other register reads as before, the PC is at
the next instruction. -/
def wroteG (n : Nat) (d : BitVec 5) (v : Word) (s t : State) : Prop :=
  (t.core n).rg d = (if d = 0 then 0 else v) ∧ (∀ x : BitVec 5, x ≠ d → (t.core n).rg x = (s.core n).rg x) ∧
    (t.core n).p = (s.core n).p ∧ (t.core n).v = (s.core n).v ∧ (t.core n).a = (s.core n).a ∧
    keepsMode (s.core n) (t.core n) ∧ keepsCreg (s.core n) (t.core n) ∧ keepsRest n s t

/-- An instruction has written predicates only: `f` is what each reads now. -/
def wroteP (n : Nat) (f : BitVec 3 → Bool) (s t : State) : Prop :=
  (∀ r, (t.core n).rp r = f r) ∧ (t.core n).g = (s.core n).g ∧ (t.core n).v = (s.core n).v ∧
    (t.core n).a = (s.core n).a ∧ keepsMode (s.core n) (t.core n) ∧ keepsCreg (s.core n) (t.core n) ∧ keepsRest n s t

/-- A trap of `cause` has been taken to level `l` from the core `c`, with `epc` saved (03 R66): the bank of `l` holds PC,
status and cause; IE and SS are clear; the PC is at the vector; the registers of the program are as they were. -/
def trapped (n : Nat) (l : Level) (cause : Nat) (epc : Word) (c : Core) (t : State) : Prop :=
  (t.core n).lvl = l ∧ (t.core n).sec = c.sec ∧ (t.core n).ie = false ∧ (t.core n).ss = false ∧
    (t.core n).cr (bankKey l c.sec 1) = epc &&& ~~~(3 : Word) ∧
    (t.core n).cr (bankKey l c.sec 2) = statWord c.lvl c.sec c.ie c.ss ∧
    (t.core n).cr (bankKey l c.sec 3) = BitVec.ofNat 64 cause ∧
    (t.core n).pc = c.cr (bankKey l c.sec 0) + (if c.lvl = l then 0 else 0x200) ∧
    (t.core n).g = c.g ∧ (t.core n).p = c.p ∧ (t.core n).v = c.v ∧ (t.core n).a = c.a

/-- Memory and the sparse maps of the package are in canonical form. -/
def State.canonical (s : State) : Prop :=
  Memory.wf s.mem = true ∧ s.regs.wf = true ∧ s.chk.wf = true ∧ s.cores.wf = true ∧ s.dies.wf = true ∧
    s.homes.wf = true ∧ s.slots.wf = true ∧ s.dmas.wf = true

end Sys2Proof.Machine
end

