-- ==== Sys2Proof/Certificates/Slice0/Obligations.lean ====
section
/-! DEFINITION. The statements for the provers, in groups of commands of one shape. -/
namespace Sys2Proof.Machine

/-! Tables of the core instructions: constructor and what the rule says it computes. -/

/-- A row of the INT table. -/
abbrev AluRow := (RRR → Instr) × (Word → Word → Word)
/-- The INT group (03 R75): g[d] from g[s1] and g[s2]. -/
def aluTable : List AluRow :=
  ([(.add, fun a b => a + b), (.sub, fun a b => a - b), (.and, fun a b => a &&& b), (.or, fun a b => a ||| b),
   (.xor, fun a b => a ^^^ b), (.andn, fun a b => a &&& ~~~b), (.sll, fun a b => a <<< (b.toNat % 64)),
   (.srl, fun a b => a >>> (b.toNat % 64)), (.sra, fun a b => a.sshiftRight (b.toNat % 64)),
   (.ror, fun a b => a.rotateRight (b.toNat % 64))] : List AluRow) ++
  ([(.min, fun a b => if a.slt b then a else b), (.max, fun a b => if a.slt b then b else a),
   (.minu, fun a b => if a.ult b then a else b), (.maxu, fun a b => if a.ult b then b else a),
   (.addw, fun a b => (BitVec.setWidth 32 (a + b)).signExtend 64),
   (.subw, fun a b => (BitVec.setWidth 32 (a - b)).signExtend 64), (.mul, fun a b => a * b),
   (.mulh, fun a b => BitVec.ofInt 64 ((a.toInt * b.toInt) / 2 ^ 64)),
   (.mulhu, fun a b => BitVec.ofNat 64 (a.toNat * b.toNat / 2 ^ 64))] : List AluRow) ++
  ([(.div, divS), (.divu, divU), (.rem, remS), (.remu, remU), (.clz, fun a _ => clz a), (.ctz, fun a _ => ctz a),
   (.popc, fun a _ => popc a), (.bswap, fun a _ => bswap a),
   (.sextb, fun a _ => (BitVec.setWidth 8 a).signExtend 64), (.sexth, fun a _ => (BitVec.setWidth 16 a).signExtend 64),
   (.sextw, fun a _ => (BitVec.setWidth 32 a).signExtend 64), (.zextw, fun a _ => (BitVec.setWidth 32 a).setWidth 64)] : List AluRow)

/-- The immediates (03 R75). -/
def immTable : List ((RRI → Instr) × (Word → BitVec 12 → Word)) :=
  [(.addi, fun a i => a + i.signExtend 64), (.andi, fun a i => a &&& i.setWidth 64),
   (.ori, fun a i => a ||| i.setWidth 64), (.xori, fun a i => a ^^^ i.setWidth 64)]

/-- The shifts by an immediate (03 R75). -/
def shiTable : List ((ShiF → Instr) × (Word → Nat → Word)) :=
  [(.shiSll, fun a n => a <<< n), (.shiSrl, fun a n => a >>> n), (.shiSra, fun a n => a.sshiftRight n),
   (.shiRor, fun a n => a.rotateRight n)]

/-- Predicate logic (03 R77). -/
def predTable : List ((RRR → Instr) × (Bool → Bool → Bool)) :=
  [(.pand, fun a b => a && b), (.por, fun a b => a || b), (.pxor, fun a b => a ^^ b), (.pandn, fun a b => a && !b),
   (.porn, fun a b => a || !b), (.pnot, fun a _ => !a)]

/-- The loads of the M format (03 R78): bytes, and whether the value is sign-extended. -/
def loadTable : List ((RRI → Instr) × Nat × Bool) :=
  [(.ldb, 1, false), (.ldbs, 1, true), (.ldh, 2, false), (.ldhs, 2, true), (.ldw, 4, false), (.ldws, 4, true),
   (.ldd, 8, false)]

/-- The stores of the M format (03 R78). -/
def storeTable : List ((RRI → Instr) × Nat) := [(.stb, 1), (.sth, 2), (.stw, 4), (.std, 8)]

/-- The atomics (03 R80): the operation code. -/
def atomTable : List ((AtomF → Instr) × Nat) :=
  [(.atomSwap, 0), (.atomAdd, 1), (.atomAnd, 2), (.atomOr, 3), (.atomXor, 4), (.atomSmin, 5), (.atomSmax, 6),
   (.atomUmin, 7), (.atomUmax, 8), (.atomCas, 15)]

/-- Translation is off at the core's level (08 R212, R213): at M, or every enabled stage's ENABLE is 0 and none has been
written since it last took effect. -/
abbrev flat (c : Core) : Prop :=
  c.lvl = .m ∨ (c.creg60 = KMap.empty ∧ (c.lvl = .h → bitAt (c.cr cHTCTL) 0 = false) ∧
    (c.lvl = .u ∨ c.lvl = .k → bitAt (c.cr (wk cTCTL c.sec)) 0 = false ∧ (c.sec = false → bitAt (c.cr cS2CTL) 0 = false)))

/-- A core may access `size` bytes of installed DRAM at `va`, untranslated and with no watchpoint in force, its L2 enabled. -/
abbrev reaches (s : State) (n : Nat) (va : Word) (size : Nat) : Prop :=
  flat (s.core n) ∧ va.toNat + size ≤ s.installed ∧ va.toNat + size ≤ 0x400000000000 ∧
    s.tagBad n (s.core n).dbgSec = false ∧ s.dbgControl n = false ∧ (s.core n).l2en = true

/-- A core's L2 holds a line as `l`, with no mark and no bit of its entries in error. -/
abbrev holdsLine (s : State) (n line : Nat) (l : L2Line) : Prop :=
  (s.core n).l2.get? line = some l ∧ l.poison = 0 ∧ ∀ k, k < 4 → s.upsets.get? (upKey k n line) = none

/-- It holds it in E or M, and the core has no store that is not visible and no status under way. -/
abbrev ownsLine (s : State) (n line : Nat) (l : L2Line) : Prop :=
  holdsLine s n line l ∧ 2 ≤ l.st.rank ∧ (s.core n).sbuf = [] ∧ (s.core n).stq = []

/-- A line as its core sees it: what its L2 holds, under the stores that no one else sees yet. -/
def seenLine (c : Core) (line : Nat) (l : L2Line) : LineData := (c.overlay line c.dbgSec (l.data, 0)).1

/-- The core sees the line with bytes stored into what it was. -/
def storedIn (n line : Nat) (mask : BitVec 128) (d : LineData) (l : L2Line) (t : State) : Prop :=
  ∃ m, (t.core n).l2.get? line = some m ∧ seenLine (t.core n) line m = mergeLine l.data d mask

/-- The bytes of a number at their place in a line. -/
def placed (a size v : Nat) : LineData := BitVec.ofNat 1024 (v % 2 ^ (8 * size) * 2 ^ (8 * (a % 128)))

/-- The home of a line serves a request for it at once: no transaction, no reservation, its channel open and trained. -/
abbrev homeFree (s : State) (line : Nat) : Prop :=
  (s.home (homeOf line)).trk = [] ∧ (s.home (homeOf line)).rsv = [] ∧ s.memGated line = false

/-- The home of a line of installed DRAM serves a request for it at once, and no die is recorded as its holder. -/
abbrev atHome (s : State) (line : Nat) : Prop :=
  region (line * 128) = .dram ∧ line * 128 < s.installed ∧ homeFree s line ∧ (s.home (homeOf line)).dir.get? line = none

/-- A register access travelled: its request, and REGCPL with a status under the tag of its initiator. -/
def answered (s t : State) (i : Init) (st : Status) : Prop :=
  ∃ q r : Msg, t.net.taken = s.net.taken ++ [q, r] ∧ q.cls = 5 ∧ q.src = i.node ∧ q.tag = i.tag ∧ r.cls = 5 ∧ r.op = 2 ∧
    r.dst = i.node ∧ r.tag = i.tag ∧ r.status = st

/-- No halted core has an instruction waiting in its C_DBGINST. -/
abbrev noDebug (s : State) : Prop := ∀ e ∈ s.cores.l, e.2.debugDue = false

/-- No directory entry and no write-back buffer of a die has the line. -/
abbrev absent (s : State) (d line : Nat) : Prop :=
  (s.home (homeOf line)).dir.get? line = none ∧ (s.die d).wb.any (fun e => e.line == line) = false

/-- Core `n` alone holds a line, in E or M as `l`; its die's filter and the directory say so, without an error, and its home is
free. -/
abbrev onlyHere (s : State) (n line : Nat) (l : L2Line) : Prop :=
  ownsLine s n line l ∧ homeFree s line ∧ (s.die (n / 18)).filt.get? line = some ⟨l.st, 1 <<< (n % 18)⟩ ∧
    (s.die (n / 18)).dcache.get? line = none ∧ (s.die (n / 18)).wb.any (fun e => e.line == line) = false ∧
    ((s.home (homeOf line)).dir.get? line).map (fun e => (e.st, e.ptrs)) = some (2, [n / 18]) ∧ s.dieFenced (n / 18) = false ∧
    s.upsets.get? (upKey 6 (n / 18) line) = none ∧ s.upsets.get? (upKey 7 (homeOf line) line) = none

/-- No edge's lease work waits in the pool (05 R166). -/
abbrev State.settled (s : State) : Prop := s.poolEdge.expire = false ∧ s.poolEdge.grant = false

/-- A slot's queue is empty and its world is the sender's. -/
abbrev State.hears (s : State) (n : Nat) (i : Init) : Prop :=
  s.alive = true ∧ s.settled ∧ (s.slot n).queue = [] ∧ s.slotFd n PRL_SLOT_STAT.SEC = b2n i.sec

/-- No posted write waits in the queue of a link in Recovery. -/
abbrev quietLinks (s : State) : Prop := ∀ x ∈ s.hb.out, x.phase ≠ 1

/-- An outbound request as it goes out: port, initiator, tag, bus address, function. -/
abbrev goesOut (s : State) (i : Init) (r : OutReq) (k j bus func : Nat) (q : HbReq) : Prop :=
  q.ctl = k ∧ q.port = j ∧ q.node = i.node ∧ q.tag = r.tag ∧ q.gen = i.gen ∧ q.addr = bus ∧ q.size = r.size ∧ q.isRead = !r.write ∧
    q.data = r.data ∧ q.func = func ∧ q.htag = s.linkTag k j

/-- An outbound access can be issued: its tag is free, its controller has a tag and is not gated. -/
abbrev mayIssue (s : State) (i : Init) (r : OutReq) : Prop :=
  s.alive = true ∧ region r.addr = .hostBus ∧ s.tagFree i.node r.tag = true ∧ s.tagsGone r.addr = false ∧ s.hbGated r.addr = false

/-- A request of a link reaches its port while nothing stops it and no peer-to-peer request is before it. -/
abbrev arrives (s : State) (r : Tlp) : Prop :=
  s.alive = true ∧ s.err.halted = false ∧ s.gateClosed (244 + r.ctl) = false ∧ s.hbLink r.ctl r.port = true ∧ s.hb.out = []

/-- A configuration access of the package goes to a controller: the state in which it is performed. -/
abbrev cfgGoes (s : State) (i : Init) (off : Nat) (write : Bool) (data : Word) : State :=
  s.regRequest i (hbNode (cfgCtl off)) off write data

/-- A link carries no transaction and no request, and no collective uses the fabric. -/
abbrev State.linkBare (s : State) (n : Nat) : Prop :=
  s.fab.txns = [] ∧ (s.link n).inq = [] ∧ ∀ c, c < 256 → s.fb .FAB_CCTL FAB_CCTL.V 0 c = false

/-- `psn` is the next PSN in order of a link that holds no packet. -/
abbrev State.nextInOrder (s : State) (n psn : Nat) : Prop :=
  (s.link n).held = [] ∧ (s.link n).rxPsn < 2 ^ 32 ∧ psn = ((s.link n).rxPsn + 1) % 2 ^ 32

/-- Two packets are the same but for how far they have come. -/
def Msg.like (m x : Msg) : Bool := { x with place := 0, since := 0 } == { m with place := 0, since := 0 }

/-- A step puts one packet `m` more into the network. -/
def sends (s t : State) (m : Msg) : Prop :=
  (t.net.msgs.filter (Msg.like m)).length = (s.net.msgs.filter (Msg.like m)).length + 1

/-- A home replies to the request `r` with a packet of class `cls` and OP `op`, with a status. -/
def State.replied (s t : State) (h : Nat) (r : CohReq) (cls op : Nat) (st : Status) : Prop :=
  ∃ m : Msg, sends s t m ∧ m.cls = cls ∧ m.op = op ∧ m.status = st ∧ m.dst = r.node ∧ m.src = homeNode h ∧ m.tag = r.tag

/-- A home replies with DAT: the granted state `g`, the line and its marks (10 R274). -/
def State.repliedDat (s t : State) (h : Nat) (r : CohReq) (g : Nat) (d : LineData) (p : BitVec 16) : Prop :=
  ∃ m : Msg, sends s t m ∧ m.cls = 3 ∧ m.op = g + (if p = 0 then 0 else 4) ∧ m.status = .ok ∧ m.dst = r.node ∧
    m.src = homeNode h ∧ m.tag = r.tag ∧ m.data = d ∧ m.poison = p

/-- The state as a home works on a request: the request has left the network, and the entry of its line has been read. -/
def State.homeSees (s : State) (h : Nat) (r : CohReq) : State :=
  let u := s.consume (fun m => m.cls == 0 && m.dst == homeNode h && m.src == r.node && m.tag == r.tag)
  if (s.home h).dir.has r.line then (u.readEntry (upKey 7 h r.line)).2 else u

/-- No bit of a line's directory entry, and none of its home's tracker and reservation arrays, is in error. -/
abbrev State.homeSound (s : State) (h line : Nat) : Prop :=
  s.upsets.get? (upKey 7 h line) = none ∧ s.upsets.get? (upKey 8 h 0) = none

/-- A home that starts request `r` at once: it is its line's home, the target takes the request, nothing is under way at the home,
the entry that it reads has no error, and the line's set has room. -/
abbrev State.accepts (s : State) (op h : Nat) (r : CohReq) : Prop :=
  s.alive = true ∧ homeOf r.line = h ∧ s.homeGuard op r.node r.sec r.line = .serve ∧ homeFree s r.line ∧ s.homeSound h r.line ∧
    s.dirVictim h op r.line = none

/-- The line is Absent in its home's directory. -/
abbrev State.absent (s : State) (h line : Nat) : Prop := (s.home h).dir.get? line = none

/-- Die `d` owns the line in its home's directory (10 R276). -/
abbrev State.owned (s : State) (h line d : Nat) : Prop := ((s.home h).dir.get? line).map (fun e => (e.st, e.ptrs)) = some (2, [d])

/-- No entry of a die's arrays for a line has a bit in error. -/
abbrev State.dieSound (s : State) (d line : Nat) : Prop :=
  (∀ n, n < 216 → s.upsets.get? (upKey 2 n line) = none ∧ s.upsets.get? (upKey 3 n line) = none) ∧
    s.upsets.get? (upKey 4 d line) = none ∧ s.upsets.get? (upKey 5 d line) = none ∧ s.upsets.get? (upKey 6 d line) = none

/-- A core's L2 and its die's filter have room for a line. -/
abbrev State.l2HasRoom (s : State) (n line : Nat) : Prop :=
  ((s.core n).l2.l.filter (fun e => e.1 % 1024 == line % 1024)).length < 16 ∧
    ((s.die (n / 18)).filt.l.filter (fun e => Config.filterSet e.1 % 16384 == Config.filterSet line % 16384)).length < 24

/-- Every block and every agent is as a reset leaves it; only the MRAM keeps what memory held (19 R474, R476). -/
def State.cleared (s t : State) : Prop :=
  t.cores = KMap.empty ∧ t.homes = KMap.empty ∧ t.dmas = KMap.empty ∧ t.slots = KMap.empty ∧
    t.mem = s.mem.filter (fun c => region c.1 == .mram) ∧ t.boot.fuses = s.boot.fuses ∧ t.pending = s.pending

/-- Boot has stopped with a code (19 R478). -/
abbrev State.bootStopped (t : State) (code : Nat) : Prop :=
  t.fd .BOOT_STATUS BOOT_STATUS.STOPPED = 1 ∧ t.fd .BOOT_STATUS BOOT_STATUS.CODE = code ∧
    t.fd .BOOT_STATUS BOOT_STATUS.RECOVERY = 1

/-- A boot stage is in progress. -/
abbrev State.bootsAt (t : State) (n : Nat) : Prop := t.boot.stage = n ∧ t.fd .BOOT_STATUS BOOT_STATUS.STAGE = n

/-- A boot stage can end. -/
abbrev State.booting (s : State) (n : Nat) : Prop :=
  s.boot.pwrok = true ∧ s.boot.resetN = true ∧ s.pwr.tripped = false ∧ s.err.stopped = false ∧ s.boot.stage = n ∧
    s.fb .BOOT_STATUS BOOT_STATUS.STOPPED = false ∧ s.fb .BOOT_STATUS BOOT_STATUS.DONE = false

/-- The image in the buffer passes every check of stage 4 (19 R482 to R485, R538): format, length, reserved bytes and variant;
the key slot, the signature and the SVN; every record known and well formed, or unknown and not required; the count, END last,
BOOT, BOARD, CODE and CORE present; and a BIND record, if any, that names this package. -/
def State.imageGood (s : State) : Prop :=
  s.imgLe 0 4 = imgMagic ∧ s.img 4 = 2 ∧ 368 ≤ s.imgLen ∧ s.imgLen ≤ 0x800000 ∧ s.imgLe 6 2 = 0 ∧ s.imgLe 17 15 = 0 ∧
    (∀ i, i < 112 → s.img (144 + i) = 0) ∧ (s.img 16).toNat = s.fd .BOOT_STRAP BOOT_STRAP.VARIANT ∧
    (s.img 14).toNat ≤ 3 ∧ s.boot.fuses.prog.getLsbD (s.img 14).toNat = true ∧
    s.boot.fuses.revoked.getLsbD (s.img 14).toNat = false ∧
    Config.imageSigned (s.imgBytes 0 s.imgLen) (s.img 14).toNat = true ∧
    s.boot.fuses.svn ≤ (s.img 15).toNat ∧
    (∀ k, k < s.records.length → let r := s.records.getD k ⟨0, false, 0, 0, 0, 0, 0⟩
      (knownRec r = true → s.badRec (s.imgLen - 96)
        ((s.records.take k).any (fun q => knownRec q && q.typ == r.typ)) r = false) ∧
      (knownRec r = false → r.req = false)) ∧
    s.records.length = s.imgLe 12 2 ∧ (s.records.getLast?.map (fun r => r.typ)) = some 0xFF ∧
    (∀ n ∈ [1, 2, 3, 4], ∃ r ∈ s.records, r.typ = n ∧ knownRec r = true) ∧
    ((∃ r ∈ s.records, r.typ = 9 ∧ knownRec r = true) → ∃ r ∈ s.records, r.typ = 9 ∧ knownRec r = true ∧
      ∃ k, k < r.aux ∧ s.imgLe (r.off + 16 * k) 8 = (Config.identity 13).toNat ∧
        s.imgLe (r.off + 16 * k + 8) 8 = (Config.identity 14).toNat)

/-- The homes of the image slots of a mirror entry's cores serve their lines at once (16 R424 step 2). -/
abbrev State.imagesAtHome (s : State) (n : Nat) : Prop :=
  ∀ k, k < (s.pairCores n).length → ∀ j, j < 40 → atHome s (s.imageLine n k + j)

/-- The cores of an entry hold no store that is not visible and no line. -/
abbrev State.coresEmpty (s : State) (n : Nat) : Prop :=
  ∀ c ∈ s.pairCores n, (s.core c).sbuf = [] ∧ (s.core c).l2.l = []

/-- Nothing waits to leave: no held output and no held WACK. -/
abbrev State.nothingHeld (s : State) : Prop := s.pair.hold = [] ∧ s.pair.wacks = []

/-- Rows that do not ask for power: the rows of pins, of the test port and of power itself, and those that take away a
message, an event or a note already under way. -/
def actsWithoutPower (i : Instr) : Bool :=
  match i with
  | .tickStrobeArrival _ => true
  | .eventCrossing _ => true
  | .cleaninvDone _ => true
  | .storeStatusReturn _ => true
  | .branchMispredict _ => true
  | .quarantineEnd _ _ => true
  | .lateReply _ _ => true
  | .staleReply _ _ _ => true
  | .fenceAnswer _ _ _ _ => true
  | .routeDrained => true
  | .cohRds _ _ => true
  | .cohRdo _ _ => true
  | .cohUpg _ _ => true
  | .cohOwnz _ _ => true
  | .cohRdc _ _ => true
  | .cohWrf _ _ => true
  | .cohWrp _ _ => true
  | .cohCln _ _ => true
  | .cohFls _ _ => true
  | .cohAtomf _ _ => true
  | .cohAtomm _ _ => true
  | .cohWb _ _ => true
  | .cohWbk _ _ => true
  | .cohEvc _ _ => true
  | .cohNcrd _ _ => true
  | .cohNcwr _ _ => true
  | .cohSnps _ _ _ _ => true
  | .cohSnpi _ _ _ _ => true
  | .cohSnpc _ _ _ _ => true
  | .cohSnpcl _ _ _ _ => true
  | .cohBinv _ _ _ _ => true
  | .snoopAnswer _ _ _ _ _ _ => true
  | .cohAck _ _ _ _ => true
  | .datReceive _ _ _ _ _ => true
  | .cmpReceive _ _ _ => true
  | .cmpRsv _ _ => true
  | .gnt _ _ => true
  | .oldKeyErase _ => true
  | .prochotN _ => true
  | .coldReset => true
  | .resetHoldEnd => true
  | .pwrokFall => true
  | .vccAoLoss => true
  | .refclkLoss => true
  | .refclkReturn => true
  | .erbAcknowledge _ => true
  | .domainStop => true
  | .dstopChannelFlush => true
  | .dstopLog => true
  | .jtagExtest _ => true
  | .jtagSamplePreload _ => true
  | .jtagIdcode => true
  | .jtagClamp => true
  | .jtagHighz => true
  | .jtagRegacc _ => true
  | .jtagDiesel _ => true
  | .jtagStandalone => true
  | .jtagBypass => true
  | .dramHot _ _ => true
  | _ => false

/-- Power is not good, and every command waiting asks for power. -/
def State.powerOff (s : State) : Prop := s.boot.pwrok = false ∧ ∀ c ∈ s.pending, actsWithoutPower c = false

/-- Rows whose word another row has: an MTC to one register (R59), and MCALL with the monitor's whole service. -/
def sharesWord (i : Instr) : Bool :=
  match i with
  | .cacheopCleaninv _ => true
  | .cacheopInvl1i _ => true
  | .cacheEnableChange _ => true
  | .accstWrite _ => true
  | .prinvItt _ => true
  | .prinvRs _ => true
  | .ieoi _ => true
  | .mcall o => o.svc
  | _ => false

end Sys2Proof.Machine

open Sys2Proof Sys2Proof.Machine

/-- Each of the 31 INT instructions (ADD to ZEXTW), issued well-formed with a predicate that executes, answers a next
state in which g[d] reads the rule's function of g[s1] and g[s2] (0 when d is g0), the PC is 4 further, and every
other register, predicate, vector register, accumulator, C_ register but the counters, memory and every other core is
as before. The functions of the divisions: by zero all ones and the dividend as remainder, otherwise quotient times
divisor plus remainder is the dividend, the most negative number by -1 itself and remainder 0; CLZ and CTZ place the
highest and lowest set bit, 64 for zero; BSWAP reverses the bytes. (R75, R57, R70) -/
def Obligations.IntRegisterResults : Prop :=
  (∀ e ∈ aluTable, ∀ (o : RRR) (s s1 : State), Runs (e.1 o) o.core o.pred o.pn s s1 →
    Answers (e.1 o) s (fun t =>
      wroteG o.core o.d (e.2 ((s1.core o.core).rg o.s1) ((s1.core o.core).rg o.s2)) s1 t ∧
      (t.core o.core).pc = (s1.core o.core).pc + 4)) ∧
  (∀ a : Word, divS a 0 = BitVec.allOnes 64 ∧ divU a 0 = BitVec.allOnes 64 ∧ remS a 0 = a ∧ remU a 0 = a) ∧
  (∀ a b : Word, b ≠ 0 → divU a b * b + remU a b = a ∧ (remU a b).toNat < b.toNat) ∧
  (∀ a b : Word, b ≠ 0 → divS a b * b + remS a b = a) ∧
  (divS (BitVec.intMin 64) (-1) = BitVec.intMin 64 ∧ remS (BitVec.intMin 64) (-1) = 0) ∧
  (∀ a : Word, (a = 0 → clz a = 64 ∧ ctz a = 64) ∧
    (a ≠ 0 → (clz a).toNat ≤ 63 ∧ 2 ^ (63 - (clz a).toNat) ≤ a.toNat ∧ a.toNat < 2 ^ (64 - (clz a).toNat))) ∧
  (∀ (a : Word) (i : Nat), i < 64 → (bswap a).getLsbD i = a.getLsbD (8 * (7 - i / 8) + i % 8))

/-- ADDI, ANDI, ORI, XORI, the four SHI forms, LI, LSI, ADDPC and MFP answer a next state in which g[d] reads what R75
(for MFP R77) computes, with the frame of a register instruction. (R75, R77, R57) -/
def Obligations.ImmediateResults : Prop :=
  (∀ e ∈ immTable, ∀ (o : RRI) (s s1 : State), Runs (e.1 o) o.core o.pred o.pn s s1 →
    Answers (e.1 o) s (fun t => wroteG o.core o.d (e.2 ((s1.core o.core).rg o.s) o.imm) s1 t ∧
      (t.core o.core).pc = (s1.core o.core).pc + 4)) ∧
  (∀ e ∈ shiTable, ∀ (o : ShiF) (s s1 : State), Runs (e.1 o) o.core o.pred o.pn s s1 →
    Answers (e.1 o) s (fun t => wroteG o.core o.d (e.2 ((s1.core o.core).rg o.s) o.sh.toNat) s1 t ∧
      (t.core o.core).pc = (s1.core o.core).pc + 4)) ∧
  (∀ (o : LIF) (s s1 : State), Runs (.li o) o.core o.pred o.pn s s1 →
    Answers (.li o) s (fun t => wroteG o.core o.d (o.imm.signExtend 64) s1 t ∧
      (t.core o.core).pc = (s1.core o.core).pc + 4)) ∧
  (∀ (o : LIF) (s s1 : State), Runs (.lsi o) o.core o.pred o.pn s s1 →
    Answers (.lsi o) s (fun t =>
      wroteG o.core o.d (((s1.core o.core).rg o.d <<< 16) ||| (BitVec.setWidth 16 o.imm).setWidth 64) s1 t ∧
      (t.core o.core).pc = (s1.core o.core).pc + 4)) ∧
  (∀ (o : LIF) (s s1 : State), Runs (.addpc o) o.core o.pred o.pn s s1 →
    Answers (.addpc o) s (fun t => wroteG o.core o.d ((s1.core o.core).pc + (o.imm.signExtend 64 <<< 12)) s1 t ∧
      (t.core o.core).pc = (s1.core o.core).pc + 4)) ∧
  (∀ (o : RRR) (s s1 : State), Runs (.mfp o) o.core o.pred o.pn s s1 →
    Answers (.mfp o) s (fun t => wroteG o.core o.d (((s1.core o.core).p ||| 1).setWidth 64) s1 t ∧
      (t.core o.core).pc = (s1.core o.core).pc + 4))

/-- CMP, CMPI and CMPIU write the condition into one predicate and its complement into another, PAND to PNOT their
function, MTP the low byte of a register; p0 stays 1, and every other predicate and register is as before. Where a
compare names one predicate twice it reads the condition (the first write is the complement). (R76, R77, R57) -/
def Obligations.CompareAndPredicateResults : Prop :=
  (∀ (o : RRRF) (s s1 : State), Runs (.cmp o) o.core o.pred o.pn s s1 →
    Answers (.cmp o) s (fun t =>
      let b := cmpCond (o.f.toNat % 16) ((s1.core o.core).rg o.s1) ((s1.core o.core).rg o.s2)
      wroteP o.core (fun r => if r = 0 then true else if r = predOf o.d then b
        else if r = BitVec.ofNat 3 (o.f.toNat / 16) then !b else (s1.core o.core).rp r) s1 t ∧
      (t.core o.core).pc = (s1.core o.core).pc + 4)) ∧
  (∀ (o : RRI) (s s1 : State), Runs (.cmpi o) o.core o.pred o.pn s s1 →
    Answers (.cmpi o) s (fun t =>
      let b := cmpCond (o.d.toNat / 8) ((s1.core o.core).rg o.s) ((BitVec.setWidth 9 o.imm).signExtend 64)
      wroteP o.core (fun r => if r = 0 then true else if r = predOf o.d then b
        else if r = BitVec.ofNat 3 (o.imm.toNat / 512) then !b else (s1.core o.core).rp r) s1 t ∧
      (t.core o.core).pc = (s1.core o.core).pc + 4)) ∧
  (∀ (o : RRI) (s s1 : State), Runs (.cmpiu o) o.core o.pred o.pn s s1 →
    Answers (.cmpiu o) s (fun t =>
      let k := o.d.toNat / 8
      let b := cmpCond (if 2 ≤ k then k + 2 else k) ((s1.core o.core).rg o.s) ((BitVec.setWidth 9 o.imm).setWidth 64)
      wroteP o.core (fun r => if r = 0 then true else if r = predOf o.d then b
        else if r = BitVec.ofNat 3 (o.imm.toNat / 512) then !b else (s1.core o.core).rp r) s1 t ∧
      (t.core o.core).pc = (s1.core o.core).pc + 4)) ∧
  (∀ e ∈ predTable, ∀ (o : RRR) (s s1 : State), Runs (e.1 o) o.core o.pred o.pn s s1 →
    Answers (e.1 o) s (fun t =>
      wroteP o.core (fun r => if r = 0 then true else if r = predOf o.d then
        e.2 ((s1.core o.core).rp (predOf o.s1)) ((s1.core o.core).rp (predOf o.s2)) else (s1.core o.core).rp r) s1 t ∧
      (t.core o.core).pc = (s1.core o.core).pc + 4)) ∧
  (∀ (o : RRR) (s s1 : State), Runs (.mtp o) o.core o.pred o.pn s s1 →
    Answers (.mtp o) s (fun t =>
      wroteP o.core (fun r => r = 0 || ((s1.core o.core).rg o.s1).getLsbD r.toNat) s1 t ∧
      (t.core o.core).pc = (s1.core o.core).pc + 4))

/-- A load of the M format or LDX, untranslated, of bytes within one line of installed DRAM that the core's L2 holds
unmarked, answers a next state in which g[d] reads those bytes (under the core's own stores that no one else sees
yet), zero- or sign-extended from their size, every other register as before, the PC 4 further. Wherever the access
(state s2, value v) ends without an exception the same holds of its value; beside the access itself nothing changes. (R78, R79, R57, R82, R86, R92, R191, R192, R213) -/
def Obligations.LoadResults : Prop :=
  (∀ e ∈ loadTable, ∀ (o : RRI) (s s1 : State) (l : L2Line), Runs (e.1 o) o.core o.pred o.pn s s1 →
    let a := (s1.core o.core).rg o.s + sext o.imm * BitVec.ofNat 64 e.2.1
    reaches s1 o.core a e.2.1 → a.toNat % 128 + e.2.1 ≤ 128 → holdsLine s1 o.core (a.toNat / 128) l →
    Answers (e.1 o) s (fun t => wroteG o.core o.d (loadExt e.2.2 e.2.1
        (pieceBytes (seenLine (s1.core o.core) (a.toNat / 128) l) (a.toNat % 128) e.2.1)) s1 t ∧
      (t.core o.core).pc = (s1.core o.core).pc + 4)) ∧
  (∀ (o : RRRF) (s s1 : State) (l : L2Line), Runs (.ldx o) o.core o.pred o.pn s s1 →
    let a := (s1.core o.core).xAddr o
    let n := 2 ^ (o.f.toNat % 4)
    reaches s1 o.core a n → a.toNat % 128 + n ≤ 128 → holdsLine s1 o.core (a.toNat / 128) l →
    Answers (.ldx o) s (fun t => wroteG o.core o.d (loadExt (o.f.getLsbD 2) n
        (pieceBytes (seenLine (s1.core o.core) (a.toNat / 128) l) (a.toNat % 128) n)) s1 t ∧
      (t.core o.core).pc = (s1.core o.core).pc + 4)) ∧
  (∀ e ∈ loadTable, ∀ (o : RRI) (s s1 s2 : State) (v : Nat) (evs : List (Nat × Nat)), Runs (e.1 o) o.core o.pred o.pn s s1 →
    s1.loadBytes o.core ((s1.core o.core).rg o.s + sext o.imm * BitVec.ofNat 64 e.2.1) e.2.1 = (.ok (v, evs), s2) →
    (s2.core o.core).dbg = false →
    Answers (e.1 o) s (fun t => wroteG o.core o.d (loadExt e.2.2 e.2.1 v) s2 t ∧
      (t.core o.core).pc = (s1.core o.core).pc + 4)) ∧
  (∀ (o : RRRF) (s s1 s2 : State) (v : Nat) (evs : List (Nat × Nat)), Runs (.ldx o) o.core o.pred o.pn s s1 →
    s1.loadBytes o.core ((s1.core o.core).xAddr o) (2 ^ (o.f.toNat % 4)) = (.ok (v, evs), s2) →
    (s2.core o.core).dbg = false →
    Answers (.ldx o) s (fun t => wroteG o.core o.d (loadExt (o.f.getLsbD 2) (2 ^ (o.f.toNat % 4)) v) s2 t ∧
      (t.core o.core).pc = (s1.core o.core).pc + 4)) ∧
  (∀ v : Nat, v < 2 ^ 64 → loadExt false 8 v = BitVec.ofNat 64 v ∧ loadExt true 1 v = (BitVec.ofNat 8 v).signExtend 64 ∧
    loadExt true 2 v = (BitVec.ofNat 16 v).signExtend 64 ∧ loadExt true 4 v = (BitVec.ofNat 32 v).signExtend 64)

/-- A store (STB to STD, STX), untranslated, into a line of installed DRAM that the core's L2 holds in E or M answers a
next state in which the core sees the line with the low bytes of g[d] at the address, every register as before, the PC
4 further. An atomic of placement automatic or near at such a naturally aligned address answers one in which g[d]
reads the old value and L2 holds the line in M with the operation's result. Wherever the access ends without an
exception the instruction answers a next state that differs from the access's state s2 in g[d] (atomics), the PC and
the counters alone. (R78, R79, R80, R81, R82, R86, R213, R291) -/
def Obligations.StoreResults : Prop :=
  (∀ e ∈ storeTable, ∀ (o : RRI) (s s1 : State) (l : L2Line), Runs (e.1 o) o.core o.pred o.pn s s1 →
    let a := (s1.core o.core).rg o.s + sext o.imm * BitVec.ofNat 64 e.2
    reaches s1 o.core a e.2 → a.toNat % 128 + e.2 ≤ 128 → ownsLine s1 o.core (a.toNat / 128) l →
    Answers (e.1 o) s (fun t => endsAs o.core (s1.core o.core) ((s1.core o.core).pc + 4) s1 t ∧
      storedIn o.core (a.toNat / 128) (byteMask (a.toNat % 128) e.2) (placed a.toNat e.2 ((s1.core o.core).rg o.d).toNat) l t)) ∧
  (∀ (o : RRRF) (s s1 : State) (l : L2Line), Runs (.stx o) o.core o.pred o.pn s s1 →
    let a := (s1.core o.core).xAddr o
    let n := 2 ^ (o.f.toNat % 4)
    reaches s1 o.core a n → a.toNat % 128 + n ≤ 128 → ownsLine s1 o.core (a.toNat / 128) l →
    Answers (.stx o) s (fun t => endsAs o.core (s1.core o.core) ((s1.core o.core).pc + 4) s1 t ∧
      storedIn o.core (a.toNat / 128) (byteMask (a.toNat % 128) n) (placed a.toNat n ((s1.core o.core).rg o.d).toNat) l t)) ∧
  (∀ e ∈ atomTable, ∀ (o : AtomF) (s s1 : State) (l : L2Line), Runs (e.1 o) o.core o.pred o.pn s s1 →
    let c := s1.core o.core
    let a := (c.rg o.s1).toNat
    let n := if o.dbl then 8 else 4
    let old := lineBytes l.data (a % 128) n
    reaches s1 o.core (c.rg o.s1) n → a % n = 0 → o.place.toNat < 2 → ownsLine s1 o.core (a / 128) l →
    Answers (e.1 o) s (fun t => wroteG o.core o.d old s1 t ∧ (t.core o.core).pc = c.pc + 4 ∧
      (t.core o.core).l2.get? (a / 128) = some { l with
        st := .m, data := mergeLine l.data (lineAt (a % 128) (atomNew e.2 n old (c.rg o.s2) (c.rg o.d))) (byteMask (a % 128) n) })) ∧
  (∀ e ∈ storeTable, ∀ (o : RRI) (s s1 s2 : State) (evs : List (Nat × Nat)), Runs (e.1 o) o.core o.pred o.pn s s1 →
    s1.storeBytes o.core ((s1.core o.core).rg o.s + sext o.imm * BitVec.ofNat 64 e.2) e.2
      (((s1.core o.core).rg o.d).toNat % 2 ^ (8 * e.2)) = (.ok evs, s2) →
    (s2.core o.core).dbg = false →
    Answers (e.1 o) s (endsAs o.core (s2.core o.core) ((s1.core o.core).pc + 4) s2)) ∧
  (∀ (o : RRRF) (s s1 s2 : State) (evs : List (Nat × Nat)), Runs (.stx o) o.core o.pred o.pn s s1 →
    s1.storeBytes o.core ((s1.core o.core).xAddr o) (2 ^ (o.f.toNat % 4))
      (((s1.core o.core).rg o.d).toNat % 2 ^ (8 * 2 ^ (o.f.toNat % 4))) = (.ok evs, s2) →
    (s2.core o.core).dbg = false →
    Answers (.stx o) s (endsAs o.core (s2.core o.core) ((s1.core o.core).pc + 4) s2)) ∧
  (∀ e ∈ atomTable, ∀ (o : AtomF) (s s1 s2 : State) (v : Word) (evs : List (Nat × Nat)), Runs (e.1 o) o.core o.pred o.pn s s1 →
    s1.atomBytes o.core ((s1.core o.core).rg o.s1) (e.2 + 16 * b2n o.dbl) o.place.toNat ((s1.core o.core).rg o.s2)
      ((s1.core o.core).rg o.d) = (.ok (v, evs), s2) →
    (s2.core o.core).dbg = false →
    Answers (e.1 o) s (fun t => wroteG o.core o.d v s2 t ∧ (t.core o.core).pc = (s1.core o.core).pc + 4))

/-- BR, CALL, JR, RET and JALR to an aligned target answer a next state whose PC is the target; CALL links in g31, JALR in
g[d], with PC + 4; nothing else a program sees changes. With a false predicate the PC is 4 further. A target that is
not a multiple of 4 raises FETCH_ALIGN. (R83, R74, R69) -/
def Obligations.TransferResults : Prop :=
  let link := fun (i : Instr) (c : Core) => match i with
    | .call _ => c.wg 31 (c.pc + 4)
    | .jalr o => c.wg o.d (c.pc + 4)
    | _ => c
  let target := fun (i : Instr) (c : Core) => match i with
    | .br o => c.pc + (sext o.disp <<< 2)
    | .call o => c.pc + (sext o.disp <<< 2)
    | .jr o => c.rg o.s1
    | .ret o => c.rg o.s1
    | .jalr o => c.rg o.s1
    | _ => 0
  ∀ (i : Instr) (n : Nat) (pred : BitVec 3) (pn : Bool) (s s1 : State),
    ((∃ o : BF, (i = .br o ∨ i = .call o) ∧ n = o.core ∧ pred = o.pred ∧ pn = o.pn) ∨
     (∃ o : RRR, (i = .jr o ∨ i = .ret o ∨ i = .jalr o) ∧ n = o.core ∧ pred = o.pred ∧ pn = o.pn)) →
    Issues s n (wordOf i) s1 →
    ((s1.core n).executes pred pn = true → (target i (s1.core n)).toNat % 4 = 0 →
      Answers i s (endsAs n (link i (s1.core n)) (target i (s1.core n)) s1)) ∧
    ((s1.core n).executes pred pn = false → Answers i s (endsAs n (s1.core n) ((s1.core n).pc + 4) s1)) ∧
    ((s1.core n).executes pred pn = true → (target i (s1.core n)).toNat % 4 ≠ 0 →
      exec i s = .next (s1.trapInsn n (Exc.plain xFETCHALIGN (target i (s1.core n)))))

/-- SYSCALL, HCALL (at K of the normal world, H, or M), MCALL without its service and BRK without debug control, issued
outside the state in which M already handles a machine check, take their trap: level from the delegation, cause 3, 4,
5 or 6, C_EPC the next instruction, status saved, IE and SS clear, PC at the vector of the target level, the program's
registers kept. MCALL with the monitor's service, function 0, returns to the caller with status 0 in g1 and the
version in g2. BRK under debug control halts the core, with the PC past it. (R84, R66, R64, R69, R449) -/
def Obligations.SystemCalls : Prop :=
  (∀ e ∈ [((fun o => .syscall o : RRR → Instr), xSYSCALL), (fun o => .hcall o, xHCALL), (fun o => .mcall ⟨o.core, o.pred, o.pn, o.d, o.s1, o.s2, false⟩, xMCALL), (fun o => .brk o, xBRK)],
    ∀ (o : RRR) (s s1 : State), Runs (e.1 o) o.core o.pred o.pn s s1 →
      ¬ ((s1.core o.core).lvl = .m ∧ (s1.core o.core).mcip = true) →
      (e.2 ≠ xSYSCALL → e.2 ≠ xBRK → (s1.core o.core).lvl ≠ .u) →
      (e.2 = xHCALL → (s1.core o.core).sec = true → (s1.core o.core).lvl = .m) →
      (e.2 = xBRK → s1.dbgControl o.core = false) →
      Answers (e.1 o) s (fun t =>
        trapped o.core ((s1.core o.core).trapTarget (Exc.plain e.2 0)) e.2 ((s1.core o.core).pc + 4) (s1.core o.core) t)) ∧
  (∀ (o : McallF) (s s1 : State), o.svc = true → Runs (.mcall o) o.core o.pred o.pn s s1 → (s1.core o.core).lvl ≠ .u →
    ¬ ((s1.core o.core).lvl = .m ∧ (s1.core o.core).mcip = true) → ¬ ((s1.core o.core).lvl = .h ∧ (s1.core o.core).sec = true) →
    (s1.core o.core).rg 1 = 0 →
    Answers (.mcall o) s (fun t => (t.core o.core).rg 1 = 0 ∧ (t.core o.core).rg 2 = 0x10000 ∧
      (∀ k : BitVec 5, 2 < k.toNat → (t.core o.core).rg k = (s1.core o.core).rg k) ∧
      (t.core o.core).lvl = (s1.core o.core).lvl ∧ (t.core o.core).sec = (s1.core o.core).sec ∧
      (t.core o.core).ie = (s1.core o.core).ie ∧ (t.core o.core).ss = (s1.core o.core).ss ∧
      (t.core o.core).pc = ((s1.core o.core).pc + 4) &&& ~~~(3 : Word))) ∧
  (∀ (o : RRR) (s s1 : State), Runs (.brk o) o.core o.pred o.pn s s1 → s1.dbgControl o.core = true →
    Answers (.brk o) s (fun t => (t.core o.core).run = .halted ∧ (t.core o.core).haltReq = false ∧
      endsAs o.core (s1.core o.core) ((s1.core o.core).pc + 4) s1 t))

/-- Each, where its level allows it and nothing is left to wait for, answers a next state: NOP changes nothing but the PC;
ERET takes level, world, IE, SS and PC from the bank of the current level; WFI with no offered source waits; FENCE and
FENCE.G, once every store is visible, leave no store status under way; ISYNC makes every written register govern; a
TLBI adds its identifier to those of the core; TLBSYNC with none outstanding passes. (R60, R66, R70, R72, R84, R86, R88, R94, R229, R230) -/
def Obligations.SystemResults : Prop :=
  (∀ (o : RRR) (s s1 : State), Runs (.nop o) o.core o.pred o.pn s s1 →
    Answers (.nop o) s (endsAs o.core (s1.core o.core) ((s1.core o.core).pc + 4) s1)) ∧
  (∀ (o : RRR) (s s1 : State), Runs (.eret o) o.core o.pred o.pn s s1 → (s1.core o.core).lvl ≠ .u →
    let c := s1.core o.core
    let w := c.cr (bankKey c.lvl c.sec 2)
    (Level.of (w.toNat % 4)).num ≤ c.lvl.num → ¬ (c.lvl = .m ∧ bitAt w 2 = true ∧ Level.of (w.toNat % 4) = .h) →
    Answers (.eret o) s (fun t => (t.core o.core).lvl = Level.of (w.toNat % 4) ∧
      (t.core o.core).sec = (if c.lvl = .m then bitAt w 2 else c.sec) ∧ (t.core o.core).ie = bitAt w 3 ∧
      (t.core o.core).ss = bitAt w 4 ∧ (t.core o.core).pc = c.cr (bankKey c.lvl c.sec 1) &&& ~~~(3 : Word) ∧
      (t.core o.core).g = c.g ∧ (t.core o.core).p = c.p ∧ t.mem = s1.mem)) ∧
  (∀ (o : RRR) (s s1 : State), Runs (.wfi o) o.core o.pred o.pn s s1 → (s1.core o.core).lvl ≠ .u →
    (s1.core o.core).offers = [] → Answers (.wfi o) s (fun t => (t.core o.core).run = .wfi ∧
      (t.core o.core).pc = (s1.core o.core).pc)) ∧
  (∀ (o : RRR) (s s1 : State), Runs (.fence o) o.core o.pred o.pn s s1 → (s1.core o.core).sbuf = [] →
    Answers (.fence o) s (fun t => (t.core o.core).stq = [] ∧ endsAs o.core (s1.core o.core) ((s1.core o.core).pc + 4) s1 t)) ∧
  (∀ (o : RRR) (s s1 : State), Runs (.fenceG o) o.core o.pred o.pn s s1 → (s1.core o.core).openW = 0 →
    (s1.core o.core).sbuf = [] →
    Answers (.fenceG o) s (fun t => (t.core o.core).stq = [] ∧
      endsAs o.core (s1.core o.core) ((s1.core o.core).pc + 4) s1 t)) ∧
  (∀ f ∈ [(.fence : RRR → Instr), .fenceG], ∀ (o : RRR) (s s1 s2 : State), Runs (f o) o.core o.pred o.pn s s1 →
    s1.sbDrain o.core = (true, s2) → (s2.core o.core).dbg = false → (f o = .fenceG o → (s1.core o.core).openW = 0) →
    Answers (f o) s (fun t => (t.core o.core).stq = [] ∧ endsAs o.core (s2.core o.core) ((s1.core o.core).pc + 4) s2 t)) ∧
  (∀ (o : RRR) (s s1 : State), Runs (.isync o) o.core o.pred o.pn s s1 →
    Answers (.isync o) s (fun t => (t.core o.core).creg60 = KMap.empty ∧
      endsAs o.core (s1.core o.core) ((s1.core o.core).pc + 4) s1 t)) ∧
  (∀ f ∈ [(.tlbiVa : RRR → Instr), .tlbiAs, .tlbiAll, .tlbiS2], ∀ (o : RRR) (s s1 : State),
    Runs (f o) o.core o.pred o.pn s s1 → (s1.core o.core).lvl ≠ .u → (f o = .tlbiS2 o → (s1.core o.core).lvl = .h) →
    (s1.core o.core).tlbiOut.length < 32 →
    Answers (f o) s (fun t => (t.core o.core).tlbiOut = (s1.core o.core).tlbiOut ++ [s1.net.nextTlbi] ∧
      t.net.nextTlbi = s1.net.nextTlbi + 1 ∧ (t.core o.core).pc = (s1.core o.core).pc + 4)) ∧
  (∀ (o : RRR) (s s1 : State), Runs (.tlbsync o) o.core o.pred o.pn s s1 → (s1.core o.core).lvl ≠ .u →
    (s1.core o.core).tlbTout = false → (s1.core o.core).tlbiOut = [] →
    Answers (.tlbsync o) s (endsAs o.core (s1.core o.core) ((s1.core o.core).pc + 4) s1))

/-- On a line of installed DRAM, untranslated, that the core alone holds in E or M: LFLUSH and LDROP leave it in no cache
of the core and in no directory entry, a dirty one having been written to the home's system cache; LCLEAN leaves it in
E, LZERO as zeros in M. IDROP leaves no L1I copy of its line, SWFLUSH no L1D line in the set and way it names, and no
clean non-coherent L2 line; a prefetch of a held line, or with L1D disabled, changes nothing a program sees. In
general LFLUSH, LCLEAN, LDROP and LZERO whose line operation ends without an exception, IDROP whose translation does,
IDROPALL, SWFLUSH and both prefetches complete: beside the line operation's own state nothing changes but the PC and
the counters; IDROPALL leaves an empty instruction cache. (R85, R202, R203, R204, R187, R213, R281) -/
def Obligations.CacheInstructions : Prop :=
  (∀ f ∈ [(.lflush : RRR → Instr), .ldrop], ∀ (o : RRR) (s s1 : State) (l : L2Line), Runs (f o) o.core o.pred o.pn s s1 →
    (f o = .ldrop o → (s1.core o.core).lvl ≠ .u) →
    let a := (s1.core o.core).rg o.s1
    let line := a.toNat / 128
    reaches s1 o.core a 1 → onlyHere s1 o.core line l →
    Answers (f o) s (fun t => sameSeen (s1.core o.core) (t.core o.core) ∧ (t.core o.core).pc = (s1.core o.core).pc + 4 ∧
      (t.core o.core).l2.get? line = none ∧ (t.home (homeOf line)).dir.get? line = none ∧
      (l.st = .m → s1.fb .MSC_CTL MSC_CTL.EN (homeOf line) = true → (t.msc.get? line).map (fun v => v.data) = some l.data))) ∧
  (∀ (o : RRR) (s s1 : State) (l : L2Line), Runs (.lclean o) o.core o.pred o.pn s s1 →
    let a := (s1.core o.core).rg o.s1
    let line := a.toNat / 128
    reaches s1 o.core a 1 → onlyHere s1 o.core line l →
    Answers (.lclean o) s (fun t => sameSeen (s1.core o.core) (t.core o.core) ∧ (t.core o.core).pc = (s1.core o.core).pc + 4 ∧
      (t.core o.core).l2.get? line = some { l with st := .e } ∧
      (l.st = .m → s1.fb .MSC_CTL MSC_CTL.EN (homeOf line) = true → (t.msc.get? line).map (fun v => v.data) = some l.data))) ∧
  (∀ (o : RRR) (s s1 : State) (l : L2Line), Runs (.lzero o) o.core o.pred o.pn s s1 →
    let a := (s1.core o.core).rg o.s1
    let line := a.toNat / 128
    reaches s1 o.core a 1 → onlyHere s1 o.core line l →
    Answers (.lzero o) s (fun t => sameSeen (s1.core o.core) (t.core o.core) ∧ (t.core o.core).pc = (s1.core o.core).pc + 4 ∧
      ((t.core o.core).l2.get? line).map (fun m => (m.st, m.data, m.poison)) = some (.m, 0, 0))) ∧
  (∀ (o : RRR) (s s1 : State), Runs (.idrop o) o.core o.pred o.pn s s1 → flat (s1.core o.core) →
    ((s1.core o.core).rg o.s1).toNat < 0x400000000000 →
    Answers (.idrop o) s (fun t => endsAs o.core (s1.core o.core) ((s1.core o.core).pc + 4) s1 t ∧
      (t.core o.core).l1i.get? (((s1.core o.core).rg o.s1).toNat / 128) = none)) ∧
  (∀ (o : RRR) (s s1 : State), Runs (.swflush o) o.core o.pred o.pn s s1 → (s1.core o.core).lvl ≠ .u → (s1.core o.core).sbuf = [] →
    let w := (s1.core o.core).rg o.s1
    let way := w.toNat % 16
    let set := w.toNat / 16 % 1024
    (bitAt w 16 = false → Answers (.swflush o) s (fun t => endsAs o.core (s1.core o.core) ((s1.core o.core).pc + 4) s1 t ∧
      ∀ e, (s1.core o.core).l1d.l.find? (fun e => e.1 % 64 == set && e.2 == way) = some e → (t.core o.core).l1d.get? e.1 = none)) ∧
    (bitAt w 16 = true → (s1.core o.core).l2.l.find? (fun e => e.1 % 1024 == set && e.2.way == way) = none →
      Answers (.swflush o) s (endsAs o.core (s1.core o.core) ((s1.core o.core).pc + 4) s1)) ∧
    (∀ e, bitAt w 16 = true → (s1.core o.core).l2.l.find? (fun e => e.1 % 1024 == set && e.2.way == way) = some e →
      holdsLine s1 o.core e.1 e.2 → e.2.st = .nc → e.2.ncDirty = false →
      Answers (.swflush o) s (fun t => endsAs o.core (s1.core o.core) ((s1.core o.core).pc + 4) s1 t ∧
        (t.core o.core).l2.get? e.1 = none))) ∧
  (∀ f ∈ [(.prefetchR : RRR → Instr), .prefetchW], ∀ (o : RRR) (s s1 : State) (l : L2Line), Runs (f o) o.core o.pred o.pn s s1 →
    let a := (s1.core o.core).rg o.s1
    ((s1.core o.core).l1den = false → Answers (f o) s (endsAs o.core (s1.core o.core) ((s1.core o.core).pc + 4) s1)) ∧
    (reaches s1 o.core a 1 → ownsLine s1 o.core (a.toNat / 128) l →
      Answers (f o) s (fun t => endsAs o.core (s1.core o.core) ((s1.core o.core).pc + 4) s1 t ∧
        (t.core o.core).l2.get? (a.toNat / 128) = some l))) ∧
  (∀ e ∈ [((fun o => .lflush o : RRR → Instr), CmoKind.flush), (fun o => .lclean o, CmoKind.clean),
      (fun o => .ldrop o, CmoKind.drop), (fun o => .lzero o, CmoKind.zero)],
    ∀ (o : RRR) (s s1 s2 : State) (evs : List (Nat × Nat)), Runs (e.1 o) o.core o.pred o.pn s s1 →
      (e.2 = .drop → (s1.core o.core).lvl ≠ .u) →
      s1.cmoLine o.core ((s1.core o.core).rg o.s1) e.2 = (.ok evs, s2) → (s2.core o.core).dbg = false →
      Answers (e.1 o) s (endsAs o.core (s2.core o.core) ((s1.core o.core).pc + 4) s2)) ∧
  (∀ (o : RRR) (s s1 s2 : State), Runs (.idrop o) o.core o.pred o.pn s s1 →
    s1.idropLine o.core ((s1.core o.core).rg o.s1) = (.ok (), s2) → (s2.core o.core).dbg = false →
    Answers (.idrop o) s (endsAs o.core (s2.core o.core) ((s1.core o.core).pc + 4) s2)) ∧
  (∀ (o : RRR) (s s1 : State), Runs (.idropall o) o.core o.pred o.pn s s1 → (s1.core o.core).lvl ≠ .u →
    Answers (.idropall o) s (fun t => (t.core o.core).l1i = KMap.empty ∧
      endsAs o.core (s1.core o.core) ((s1.core o.core).pc + 4) s1 t)) ∧
  (∀ (o : RRR) (s s1 s2 : State), Runs (.swflush o) o.core o.pred o.pn s s1 → (s1.core o.core).lvl ≠ .u →
    s1.swFlush o.core ((s1.core o.core).rg o.s1) = (.ok (), s2) → (s2.core o.core).dbg = false →
    Answers (.swflush o) s (endsAs o.core (s2.core o.core) ((s1.core o.core).pc + 4) s2)) ∧
  (∀ e ∈ [((fun o => .prefetchR o : RRR → Instr), false), (fun o => .prefetchW o, true)],
    ∀ (o : RRR) (s s1 s2 : State), Runs (e.1 o) o.core o.pred o.pn s s1 →
      (if (s1.core o.core).l1den then s1.prefetchLine o.core ((s1.core o.core).rg o.s1) e.2 false else s1) = s2 →
      (s2.core o.core).dbg = false →
      Answers (e.1 o) s (endsAs o.core (s2.core o.core) ((s1.core o.core).pc + 4) s2))

/-- MFC of a register that its level may read writes the value to g[d]. MTC to a register that is no operation (a change
of a cache enable only once no store, remote write or request of the core is open) leaves the core as the register's
write does, all else as a completed instruction. MTC to C_CACHEOP invalidates L1I or starts the clean, to C_IEOI ends
the source, to C_ACCST keeps the defined bits; the rows CACHE_ENABLE_CHANGE, ACCST_WRITE and PRINV are MTCs to their
register. (R59, R60, R61, R110, R183, R200, R201) -/
def Obligations.SpecialRegisterAccess : Prop :=
  (∀ (o : RRI) (s s1 : State), Runs (.mfc o) o.core o.pred o.pn s s1 → cregPre o.imm.toNat false (s1.core o.core) = none →
    ((s1.mfcRead o.core o.imm.toNat).2.core o.core).dbg = false →
    Answers (.mfc o) s (fun t => wroteG o.core o.d (s1.mfcRead o.core o.imm.toNat).1 (s1.mfcRead o.core o.imm.toNat).2 t ∧
      (t.core o.core).pc = (s1.core o.core).pc + 4)) ∧
  (∀ e ∈ [((fun o => .mtc o : RRI → Instr), none), (fun o => .cacheEnableChange o, some 0x090), (fun o => .accstWrite o, some 0x0C2),
      (fun o => .prinvItt o, some 0x081), (fun o => .prinvRs o, some 0x081)],
    ∀ (o : RRI) (s s1 : State), Runs (e.1 o) o.core o.pred o.pn s s1 →
      let num := (e.2.getD o.imm.toNat : Nat)
      let w := (s1.core o.core).rg o.d
      cregPre num true (s1.core o.core) = none → num ≠ 0x092 → num ≠ 0x0D4 → (s1.core o.core).wait = .none →
      ((s1.core o.core).changesEnables num w = true → (s1.core o.core).openW = 0 ∧ (s1.core o.core).sbuf = [] ∧
        ∀ q ∈ (s1.die (o.core / 18)).reqs, q.core ≠ o.core) →
      Answers (e.1 o) s (fun t => ∃ u : State, endsAs o.core (s1.core o.core) ((s1.core o.core).pc + 4) s1 u ∧
        t = u.modCore o.core (fun c => c.mtcWrite num w))) ∧
  (∀ f ∈ [(fun o => .cacheopCleaninv o : RRI → Instr), (fun o => .cacheopInvl1i o)],
    ∀ (o : RRI) (s s1 : State), Runs (f o) o.core o.pred o.pn s s1 → cregPre 0x092 true (s1.core o.core) = none →
      (s1.core o.core).wait = .none →
      (bitAt ((s1.core o.core).rg o.d) 0 = true → (s1.core o.core).sbuf = [] →
        Answers (f o) s (fun t => (t.core o.core).wait = .cleaninv ∧ (t.core o.core).cleaning = true)) ∧
      (bitAt ((s1.core o.core).rg o.d) 0 = false → bitAt ((s1.core o.core).rg o.d) 1 = true →
        Answers (f o) s (fun t => (t.core o.core).l1i = KMap.empty ∧
          endsAs o.core (s1.core o.core) ((s1.core o.core).pc + 4) s1 t))) ∧
  (∀ (o : RRI) (s s1 : State), Runs (.ieoi o) o.core o.pred o.pn s s1 → cregPre 0x0D4 true (s1.core o.core) = none →
    (s1.core o.core).wait = .none →
    let k := ((s1.core o.core).rg o.d).toNat % 4096
    (s1.src k).active = some o.core.val → s1.fb .IRT_SRC IRT_SRC.SEC 0 k = (s1.core o.core).sec →
    Answers (.ieoi o) s (fun t => (t.src k).active = none ∧ (t.src k).pend = (s1.src k).pend ∧
      (t.core o.core).pc = (s1.core o.core).pc + 4)) ∧
  (∀ (c : Core) (w : Word), (c.mtcWrite 0x0C2 w).cr 0x0C2 = ((c.cr 0x0C2 &&& ~~~(0x1FFFFF : Word)) ||| (w &&& 0x1FFFFF)))

/-- GCALL in the normal world with no call open, through a table in the Chrysalis SRAM whose home and memory give its
entry clean, is not malformed and admits the caller, enters the secure world at the entry with the gate's stack in g30
and keeps the return in the frame. GRET in the gate with no deferred error returns to the caller's level and world at
the return address with g30, g31 restored, no frame, p0-p7 at reset and registers beyond the results zero.
GATE_PREEMPT of a preemptible call, whose image the homes of the save area take, leaves the secure world with the call
kept as preempted and the source active at the core. (R441, R442, R444, R445, R446) -/
def Obligations.GateCalls : Prop :=
  (∀ (o : RRR) (s s1 : State), Runs (.gcall o) o.core o.pred o.pn s s1 →
    let c := s1.core o.core
    let idx := (c.rg o.s1).toNat
    let base := (c.cr cGTB).toNat / 4096 * 4096
    let a := base + 32 * idx
    let m := s1.memRead (a / 128)
    let e := gateEntry m.data (a % 128)
    c.sec = false → c.gate = none → region base = .sram → region a = .sram → idx < (c.cr cGTB).toNat % 4096 →
    homeFree s1 (a / 128) → absent s1 (o.core / 18) (a / 128) → touched m.poison (a % 128) 32 = false →
    e.bad = false → e.admits c.lvl = true → c.sbuf = [] →
    Answers (.gcall o) s (fun t => (t.core o.core).sec = true ∧ (t.core o.core).pc = e.entry ∧
      (t.core o.core).lvl = (if bitAt e.w0 1 then .k else .u) ∧ (t.core o.core).ie = false ∧ (t.core o.core).ss = false ∧
      (t.core o.core).rg 30 = e.stack ∧ (t.core o.core).gate.map (fun f => (f.ret, f.lvl, f.g30)) = some (c.pc + 4, c.lvl, c.rg 30))) ∧
  (∀ (o : RRR) (s s1 s2 : State) (r : HReply), Runs (.gcall o) o.core o.pred o.pn s s1 →
    let c := s1.core o.core
    let idx := (c.rg o.s1).toNat
    let base := (c.cr cGTB).toNat / 4096 * 4096
    let a := base + 32 * idx
    let e := gateEntry r.data (a % 128)
    c.sec = false → c.gate = none → region base = .sram → idx < (c.cr cGTB).toNat % 4096 →
    s1.homePast o.core opRDC (a / 128) (s1.cdaReq (o.core / 18) (a / 128) true) = (r, s2) → r.status = .ok →
    touched r.poison (a % 128) 32 = false → e.bad = false → e.admits c.lvl = true → (s2.core o.core) = c → c.sbuf = [] →
    Answers (.gcall o) s (fun t => (t.core o.core).sec = true ∧ (t.core o.core).pc = e.entry ∧
      (t.core o.core).lvl = (if bitAt e.w0 1 then .k else .u) ∧ (t.core o.core).ie = false ∧ (t.core o.core).ss = false ∧
      (t.core o.core).rg 30 = e.stack ∧ (t.core o.core).gate.map (fun f => (f.ret, f.lvl, f.g30)) = some (c.pc + 4, c.lvl, c.rg 30))) ∧
  (∀ (o : RRR) (s s1 : State) (f : GateFrame), Runs (.gret o) o.core o.pred o.pn s s1 →
    (s1.core o.core).sec = true → (s1.core o.core).gate = some f → (s1.core o.core).defErr = none → (s1.core o.core).stq = [] →
    (s1.core o.core).sbuf = [] →
    Answers (.gret o) s (fun t => (t.core o.core).sec = false ∧ (t.core o.core).pc = f.ret ∧ (t.core o.core).lvl = f.lvl ∧
      (t.core o.core).ie = f.ie ∧ (t.core o.core).ss = f.ss ∧ (t.core o.core).gate = none ∧ (t.core o.core).p = 1 ∧
      (t.core o.core).rg 30 = f.g30 ∧ (t.core o.core).rg 31 = f.g31 ∧
      ∀ k : BitVec 5, f.nres < k.toNat → k.toNat < 30 → (t.core o.core).rg k = 0)) ∧
  (∀ (core : CoreNo) (s : State) (src : Nat) (f : GateFrame), s.atBoundary core = true → (s.core core).stepDue = false →
    (s.core core).defErr = none → (s.core core).stq = [] → (s.core core).sbuf = [] → s.nextInt core = some (src, .preempt) →
    (s.core core).gate = some f →
    (∀ k, k < 40 → let line := (((s.core core).cr cSSA).toNat + 0x400) / 128 + k
      region (line * 128) = .sram ∧ (s.home (homeOf line)).dir.get? line = none ∧
      (s.home (homeOf line)).trk = [] ∧ (s.home (homeOf line)).rsv = []) →
    Answers (.gatePreempt core) s (fun t => (t.core core).gate = some { f with preempted := true } ∧ (t.core core).sec = false ∧
      (t.src src).active = some core.val))

/-- FADD to FRINT, FMA to FNMS, the five compares and the conversions, when no lane raises an enabled exception, answer a
next state in which the destination holds the lane results (a compare its lane mask in g[vd]), C_NFLAGS has the lanes'
flags added, VUSED sets for a vector destination, and nothing else a program sees changes; an enabled exception in a
lane raises NUMERIC and writes no destination. (R106, R109, R117, R127, R128, R129, R130) -/
def Obligations.VectorResults : Prop :=
  let lanes := fun (o : VF) (c : Core) (f : Nat → Nat × Nat) =>
    ((List.range (laneN o.sz)).map (fun k => (f k).2), (c.raiseFlags (orFlags ((List.range (laneN o.sz)).map (fun k => (f k).2)))).putV
      o.vd (lanePack o.sz (fun k => (f k).1)))
  let done := fun (i : Instr) (o : VF) (s s1 : State) (fl : List Nat) (c : Core) =>
    (orFlags fl &&& (s1.core o.core).numEnables = 0 →
      Answers i s (endsAs o.core c ((s1.core o.core).pc + 4) s1)) ∧
    (orFlags fl &&& (s1.core o.core).numEnables ≠ 0 → exec i s = .next (s1.numTrap o.core (s1.core o.core) fl))
  (∀ e ∈ [((.fadd : VF → Instr), 0), (.fsub, 1), (.fmul, 2), (.fdiv, 3), (.fmin, 4), (.fmax, 5), (.fsqrt, 6), (.frint, 7)],
    ∀ (o : VF) (s s1 : State), Runs (e.1 o) o.core o.pred o.pn s s1 →
      let c := s1.core o.core
      let r := lanes o c (fun k => laneArith e.2 (laneFmt o.sz) c.prec (c.rmOf o.rm) (laneGet o.sz (c.rv o.vs1) k)
        (laneGet o.sz (c.rv o.vs2) k))
      done (e.1 o) o s s1 r.1 r.2) ∧
  (∀ e ∈ [((.fma : VF → Instr), 0), (.fms, 1), (.fnma, 2), (.fnms, 3)],
    ∀ (o : VF) (s s1 : State), Runs (e.1 o) o.core o.pred o.pn s s1 →
      let c := s1.core o.core
      let r := lanes o c (fun k => laneFma e.2 (laneFmt o.sz) c.prec (c.rmOf o.rm) (laneGet o.sz (c.rv o.vs1) k)
        (laneGet o.sz (c.rv o.vs2) k) (laneGet o.sz (c.rv o.vd) k))
      done (e.1 o) o s s1 r.1 r.2) ∧
  (∀ e ∈ [((.feq : VF → Instr), 0), (.flt, 1), (.fle, 2), (.funord, 3), (.fne, 4)],
    ∀ (o : VF) (s s1 : State), Runs (e.1 o) o.core o.pred o.pn s s1 →
      let c := s1.core o.core
      let r := fun k => laneCmp e.2 (laneFmt o.sz) (laneGet o.sz (c.rv o.vs1) k) (laneGet o.sz (c.rv o.vs2) k)
      let fl := (List.range (laneN o.sz)).map (fun k => (r k).2)
      done (e.1 o) o s s1 fl ((c.raiseFlags (orFlags fl)).wg o.vd
        (BitVec.ofNat 64 ((List.range (laneN o.sz)).foldl (fun a k => a + b2n (r k).1 * 2 ^ k) 0)))) ∧
  (∀ e ∈ [((.vcvtToSigned : VF → Instr), true), (.vcvtToUnsigned, false)],
    ∀ (o : VF) (s s1 : State), Runs (e.1 o) o.core o.pred o.pn s s1 →
      let c := s1.core o.core
      let r := lanes o c (fun k => laneToInt (laneFmt o.sz) e.2 (if o.sz then 32 else 64) (c.rmOf o.rm) (laneGet o.sz (c.rv o.vs1) k))
      done (e.1 o) o s s1 r.1 r.2) ∧
  (∀ e ∈ [((.vcvtFromSigned : VF → Instr), true), (.vcvtFromUnsigned, false)],
    ∀ (o : VF) (s s1 : State), Runs (e.1 o) o.core o.pred o.pn s s1 →
      let c := s1.core o.core
      let r := lanes o c (fun k => laneFromInt (laneFmt o.sz) c.prec e.2 (if o.sz then 32 else 64) (c.rmOf o.rm)
        (laneGet o.sz (c.rv o.vs1) k))
      done (e.1 o) o s s1 r.1 r.2) ∧
  (∀ (o : VF) (s s1 : State), Runs (.vcvtNative o) o.core o.pred o.pn s s1 →
      let c := s1.core o.core
      let r := fun k => fpConv (laneFmt o.sz) (laneFmt !o.sz) (c.rmOf o.rm) (laneGet o.sz (c.rv o.vs1) k)
      let fl := (List.range 8).map (fun k => (r k).2)
      done (.vcvtNative o) o s s1 fl ((c.raiseFlags (orFlags fl)).putV o.vd (lanePack (!o.sz) (fun k => if k < 8 then (r k).1 else 0))))

/-- VMOV, VSEL, VBCAST, VNEG, VABS and VZERO write v[d] with what R131 says and set VUSED; VGET writes one rounded lane to
g[d]; VLD and VLDF write the loaded image; VST and VSTF, where no element raises an enabled exception, complete with
nothing a program sees changed but C_NFLAGS and the bytes stored. Stated for bytes within one line of installed DRAM
that the core's L2 holds (for stores in E or M), untranslated, and for every access that ends without an exception. (R119, R121, R122, R124, R131, R132, R86, R213) -/
def Obligations.VectorMovesAndMemory : Prop :=
  (∀ e ∈ [((.vmov : VF → Instr), fun (o : VF) (c : Core) => c.rv o.vs1),
      (.vsel, fun o c => lanePack o.sz (fun k => if bitAt (c.rg o.vs2) k then laneGet o.sz (c.rv o.vs1) k else laneGet o.sz (c.rv o.vd) k)),
      (.vbcast, fun o c => lanePack o.sz (fun _ => if o.sz then fpWiden fmtB32 fmtF36 ((c.rg o.vs1).toNat % 2 ^ 32)
        else fpWiden fmtB64 fmtF72 (c.rg o.vs1).toNat)),
      (.vneg, fun o c => lanePack o.sz (fun k => (laneGet o.sz (c.rv o.vs1) k + 2 ^ (laneW o.sz - 1)) % 2 ^ laneW o.sz)),
      (.vabs, fun o c => lanePack o.sz (fun k => laneGet o.sz (c.rv o.vs1) k % 2 ^ (laneW o.sz - 1))),
      (.vzero, fun _ _ => 0)],
    ∀ (o : VF) (s s1 : State), Runs (e.1 o) o.core o.pred o.pn s s1 →
      Answers (e.1 o) s (endsAs o.core ((s1.core o.core).putV o.vd (e.2 o (s1.core o.core))) ((s1.core o.core).pc + 4) s1)) ∧
  (∀ (o : VF) (s s1 : State), Runs (.vget o) o.core o.pred o.pn s s1 →
    let c := s1.core o.core
    let r := fpStore (laneFmt o.sz) (if o.sz then fmtB32 else fmtB64) (c.rmOf o.rm) (laneGet o.sz (c.rv o.vs1) o.vs2.toNat)
    orFlags [r.2] &&& c.numEnables = 0 →
    Answers (.vget o) s (endsAs o.core ((c.raiseFlags (orFlags [r.2])).wg o.vd (BitVec.ofNat 64 r.1)) (c.pc + 4) s1)) ∧
  (∀ (o : RRI) (s s1 : State) (l : L2Line), Runs (.vld o) o.core o.pred o.pn s s1 →
    let c := s1.core o.core
    let a := c.mAddr o 64
    reaches s1 o.core a 64 → a.toNat % 128 + 64 ≤ 128 → holdsLine s1 o.core (a.toNat / 128) l →
    Answers (.vld o) s (endsAs o.core (c.putV o.d ((vform 2).load (pieceBytes (seenLine c (a.toNat / 128) l) (a.toNat % 128) 64)))
      (c.pc + 4) s1)) ∧
  (∀ (o : RRRF) (s s1 : State) (l : L2Line), Runs (.vldf o) o.core o.pred o.pn s s1 →
    let c := s1.core o.core
    let a := c.rg o.s1 + c.rg o.s2
    let m := vform o.f.toNat
    reaches s1 o.core a m.bytes → a.toNat % 128 + m.bytes ≤ 128 → holdsLine s1 o.core (a.toNat / 128) l →
    Answers (.vldf o) s (endsAs o.core (c.putV o.d (m.load (pieceBytes (seenLine c (a.toNat / 128) l) (a.toNat % 128) m.bytes)))
      (c.pc + 4) s1)) ∧
  (∀ (o : RRI) (s s1 : State) (l : L2Line), Runs (.vst o) o.core o.pred o.pn s s1 →
    let c := s1.core o.core
    let a := c.mAddr o 64
    let w := (vform 2).store (c.rmOf 7) (c.rv o.d)
    reaches s1 o.core a 64 → a.toNat % 128 + 64 ≤ 128 → ownsLine s1 o.core (a.toNat / 128) l → orFlags w.2 &&& c.numEnables = 0 →
    Answers (.vst o) s (fun t => endsAs o.core (c.raiseFlags (orFlags w.2)) (c.pc + 4) s1 t ∧
      storedIn o.core (a.toNat / 128) (byteMask (a.toNat % 128) 64) (placed a.toNat 64 w.1) l t)) ∧
  (∀ (o : RRRF) (s s1 : State) (l : L2Line), Runs (.vstf o) o.core o.pred o.pn s s1 →
    let c := s1.core o.core
    let m := vform (o.f.toNat % 16)
    let w := m.store (c.rmOf (vstfRm o)) (c.rv o.d)
    let a := c.rg o.s1 + c.rg o.s2
    reaches s1 o.core a m.bytes → a.toNat % 128 + m.bytes ≤ 128 → ownsLine s1 o.core (a.toNat / 128) l →
    orFlags w.2 &&& c.numEnables = 0 →
    Answers (.vstf o) s (fun t => endsAs o.core (c.raiseFlags (orFlags w.2)) (c.pc + 4) s1 t ∧
      storedIn o.core (a.toNat / 128) (byteMask (a.toNat % 128) m.bytes) (placed a.toNat m.bytes w.1) l t)) ∧
  (∀ (o : RRI) (s s1 s2 : State) (v : Nat) (evs : List (Nat × Nat)), Runs (.vld o) o.core o.pred o.pn s s1 →
    s1.loadBytes o.core ((s1.core o.core).mAddr o 64) 64 = (.ok (v, evs), s2) → (s2.core o.core).dbg = false →
    Answers (.vld o) s (endsAs o.core ((s2.core o.core).putV o.d ((vform 2).load v)) ((s1.core o.core).pc + 4) s2)) ∧
  (∀ (o : RRRF) (s s1 s2 : State) (v : Nat) (evs : List (Nat × Nat)), Runs (.vldf o) o.core o.pred o.pn s s1 →
    s1.loadBytes o.core ((s1.core o.core).rg o.s1 + (s1.core o.core).rg o.s2) (vform o.f.toNat).bytes = (.ok (v, evs), s2) →
    (s2.core o.core).dbg = false →
    Answers (.vldf o) s (endsAs o.core ((s2.core o.core).putV o.d ((vform o.f.toNat).load v)) ((s1.core o.core).pc + 4) s2)) ∧
  (∀ (o : RRI) (s s1 s2 s3 : State) (l : List Piece) (evs : List (Nat × Nat)), Runs (.vst o) o.core o.pred o.pn s s1 →
    let c := s1.core o.core
    let w := (vform 2).store (c.rmOf 7) (c.rv o.d)
    s1.dataPieces o.core (c.mAddr o 64) 64 needStore .store = (.ok l, s2) → orFlags w.2 &&& c.numEnables = 0 →
    s2.storeAll o.core (c.mAddr o 64) w.1 l = (.ok evs, s3) → (s3.core o.core).dbg = false →
    Answers (.vst o) s (endsAs o.core ((s3.core o.core).raiseFlags (orFlags w.2)) (c.pc + 4) s3)) ∧
  (∀ (o : RRRF) (s s1 s2 s3 : State) (l : List Piece) (evs : List (Nat × Nat)), Runs (.vstf o) o.core o.pred o.pn s s1 →
    let c := s1.core o.core
    let m := vform (o.f.toNat % 16)
    let w := m.store (c.rmOf (vstfRm o)) (c.rv o.d)
    let a := c.rg o.s1 + c.rg o.s2
    s1.dataPieces o.core a m.bytes needStore .store = (.ok l, s2) → orFlags w.2 &&& c.numEnables = 0 →
    s2.storeAll o.core a w.1 l = (.ok evs, s3) → (s3.core o.core).dbg = false →
    Answers (.vstf o) s (endsAs o.core ((s3.core o.core).raiseFlags (orFlags w.2)) (c.pc + 4) s3))

/-- ACLR, AMOV and AINFO write what R134 and R139 say; AADD to AADDG add their exact term and its flags to a[d]; ARND
writes the rounded accumulator and with CLR clears it; ASAVE stores and ALOAD loads 576 bytes (stated for a 128-byte
aligned run in one page of lines that L2 holds, and for every access that ends without an exception); APOST hands its
record to the pool and writes the pool's status to g[d]. Each completes under the named conditions with nothing else a
program sees changed. (R109, R133, R134, R135, R138, R139, R140, R141, R143, R153, R159) -/
def Obligations.AccumulatorResults : Prop :=
  (∀ e ∈ [((.aclr : AccF → Instr), fun (o : AccF) (c : Core) => c.putA o.d 0 0),
      (.amov, fun o c => c.putA o.d (c.ra o.s1) (c.aflags o.s1)),
      (.ainfo, fun o c => c.wg o.d (spanWord (accSpan (c.ra o.s2)) (c.aflags o.s2)))],
    ∀ (o : AccF) (s s1 : State), Runs (e.1 o) o.core o.pred o.pn s s1 →
      Answers (e.1 o) s (endsAs o.core (e.2 o (s1.core o.core)) ((s1.core o.core).pc + 4) s1)) ∧
  (∀ e ∈ [((.aadd : AccF → Instr), fun (o : AccF) (c : Core) => c.laneTerms o), (.asub, fun o c => (c.laneTerms o).negate),
      (.adot, fun o c => c.laneProducts o), (.adotn, fun o c => (c.laneProducts o).negate),
      (.aacc, fun o c => ⟨(c.ra o.s1).toInt, c.aflags o.s1, 0⟩), (.asuba, fun o c => ⟨-(c.ra o.s1).toInt, swapInf (c.aflags o.s1), 0⟩),
      (.aaddg, fun o c => termOf (if o.sz then fpDecode fmtB32 ((c.rg o.s1).toNat % 2 ^ 32) else fpDecode fmtB64 (c.rg o.s1).toNat))],
    ∀ (o : AccF) (s s1 : State), Runs (e.1 o) o.core o.pred o.pn s s1 →
      let t := e.2 o (s1.core o.core)
      orFlags [t.ex] &&& (s1.core o.core).numEnables = 0 →
      Answers (e.1 o) s (endsAs o.core (((s1.core o.core).raiseFlags (orFlags [t.ex])).addTerm o.d t) ((s1.core o.core).pc + 4) s1)) ∧
  (∀ (o : RRRF) (s s1 : State), Runs (.arnd o) o.core o.pred o.pn s s1 →
    let c := s1.core o.core
    let r := accRound (tgtFmt (arndTgt o)) (c.rmOf (arndRm o)) (c.ra o.s1) (c.aflags o.s1)
    orFlags [r.2] &&& c.numEnables = 0 →
    Answers (.arnd o) s (endsAs o.core ((c.raiseFlags (orFlags [r.2])).arndWrite o r.1) (c.pc + 4) s1)) ∧
  (∀ (o : RRR) (s s1 : State) (l : Nat → L2Line), Runs (.asave o) o.core o.pred o.pn s s1 →
    let c := s1.core o.core
    let a := c.rg o.s1 + c.rg o.s2
    reaches s1 o.core a 576 → a.toNat % 128 = 0 → a.toNat % 4096 + 576 ≤ 4096 →
    (∀ k, k < 5 → ownsLine s1 o.core (a.toNat / 128 + k) (l k)) →
    Answers (.asave o) s (fun t => endsAs o.core c (c.pc + 4) s1 t ∧ ∀ k, k < 5 →
      storedIn o.core (a.toNat / 128 + k) (byteMask 0 (if k = 4 then 64 else 128))
        (BitVec.ofNat 1024 ((c.ra o.d).toNat / 2 ^ (1024 * k))) (l k) t)) ∧
  (∀ (o : RRR) (s s1 : State) (l : Nat → L2Line), Runs (.aload o) o.core o.pred o.pn s s1 →
    let c := s1.core o.core
    let a := c.rg o.s1 + c.rg o.s2
    reaches s1 o.core a 576 → a.toNat % 128 = 0 → a.toNat % 4096 + 576 ≤ 4096 →
    (∀ k, k < 5 → holdsLine s1 o.core (a.toNat / 128 + k) (l k)) →
    Answers (.aload o) s (endsAs o.core (c.putA o.d (BitVec.ofNat 4608 ((List.range 5).foldl (fun v k =>
        v + (seenLine c (a.toNat / 128 + k) (l k)).toNat * 2 ^ (1024 * k)) 0)) (c.aflags o.d)) (c.pc + 4) s1)) ∧
  (∀ (o : AccF) (s s1 : State), Runs (.apost o) o.core o.pred o.pn s s1 →
    let c := s1.core o.core
    let r := c.apostRecord o
    let code := s1.recordStatus r.slot r (s1.coreInit o.core c.dbgSec (s1.coreTag o.core apostTag))
    s1.tagBad o.core c.dbgSec = false → c.reply = none → c.sbuf = [] → c.stq = [] →
    s1.poolEdge.expire = false → s1.poolEdge.grant = false → recordCount (s1.slot r.slot).queue < 8 →
    Answers (.apost o) s (fun t => (t.core o.core).rg o.d = (if o.d = 0 then 0 else BitVec.ofNat 64 code) ∧
      (∀ x : BitVec 5, x ≠ o.d → (t.core o.core).rg x = c.rg x) ∧ (t.core o.core).pc = c.pc + 4 ∧
      (code = 0 → (t.slot r.slot).queue = (s1.slot r.slot).queue ++ [.record r]) ∧
      (code ≠ 0 → (t.slot r.slot).queue = (s1.slot r.slot).queue))) ∧
  (∀ (o : RRR) (s s1 s2 : State) (evs : List (Nat × Nat)), Runs (.asave o) o.core o.pred o.pn s s1 →
    s1.storeBytes o.core ((s1.core o.core).rg o.s1 + (s1.core o.core).rg o.s2) 576 ((s1.core o.core).ra o.d).toNat = (.ok evs, s2) →
    (s2.core o.core).dbg = false →
    Answers (.asave o) s (endsAs o.core (s2.core o.core) ((s1.core o.core).pc + 4) s2)) ∧
  (∀ (o : RRR) (s s1 s2 : State) (v : Nat) (evs : List (Nat × Nat)), Runs (.aload o) o.core o.pred o.pn s s1 →
    s1.loadBytes o.core ((s1.core o.core).rg o.s1 + (s1.core o.core).rg o.s2) 576 = (.ok (v, evs), s2) →
    (s2.core o.core).dbg = false →
    Answers (.aload o) s (endsAs o.core ((s2.core o.core).putA o.d (BitVec.ofNat 4608 v) ((s2.core o.core).aflags o.d))
      ((s1.core o.core).pc + 4) s2)) ∧
  (∀ (o : AccF) (s s1 s3 : State) (code : Nat), Runs (.apost o) o.core o.pred o.pn s s1 →
    let c := s1.core o.core
    s1.tagBad o.core c.dbgSec = false → c.reply = none → c.sbuf = [] →
    (s1.modCore o.core Core.drainStores).takeRecord (c.apostRecord o).slot (c.apostRecord o)
      (s1.coreInit o.core c.dbgSec (s1.coreTag o.core apostTag)) = some (code, s3) →
    (s3.core o.core).dbg = false →
    Answers (.apost o) s (fun t => wroteG o.core o.d (BitVec.ofNat 64 code) s3 t ∧ (t.core o.core).pc = c.pc + 4))

/-- Every INT, immediate, shift, predicate, load, store, atomic, cache, system (but branches) and numeric instruction of
the tables, issued well-formed with a predicate that is false and passing its level, answers a next state in which
only the PC (4 further) and the counters changed. (R74, R70) -/
def Obligations.PredicateFalseSkips : Prop :=
  ∀ (i : Instr) (n : Nat) (pred : BitVec 3) (pn : Bool) (s s1 : State),
    ((∃ o : RRR, ((∃ e ∈ aluTable, i = e.1 o) ∨ (∃ e ∈ predTable, i = e.1 o) ∨
        i ∈ [Instr.nop o, .syscall o, .brk o, .fence o, .fenceG o, .isync o, .gcall o, .gret o, .lflush o, .lclean o, .lzero o, .idrop o,
          .prefetchR o, .prefetchW o, .asave o, .aload o]) ∧ n = o.core ∧ pred = o.pred ∧ pn = o.pn) ∨
     (∃ o : RRI, ((∃ e ∈ immTable, i = e.1 o) ∨ (∃ e ∈ loadTable, i = e.1 o) ∨ (∃ e ∈ storeTable, i = e.1 o) ∨
        i ∈ [Instr.cmpi o, .cmpiu o, .vld o, .vst o]) ∧ n = o.core ∧ pred = o.pred ∧ pn = o.pn) ∨
     (∃ o : AtomF, (∃ e ∈ atomTable, i = e.1 o) ∧ n = o.core ∧ pred = o.pred ∧ pn = o.pn) ∨
     (∃ o : VF, i ∈ [Instr.fadd o, .fsub o, .fmul o, .fdiv o, .fmin o, .fmax o, .fsqrt o, .frint o, .fma o, .fms o, .fnma o, .fnms o,
        .feq o, .flt o, .fle o, .funord o, .fne o, .vmov o, .vsel o, .vbcast o, .vget o, .vneg o, .vabs o, .vzero o] ∧
        n = o.core ∧ pred = o.pred ∧ pn = o.pn)) →
    i.wf = true → Issues s n (wordOf i) s1 → (s1.core n).executes pred pn = false →
    Answers i s (endsAs n (s1.core n) ((s1.core n).pc + 4) s1)

/-- ERET, WFI, TLBI, TLBSYNC, LDROP, IDROPALL and SWFLUSH issued at U (TLBI.S2 at every level but H, HCALL at U of the
normal world; in the secure world below M it takes ILLEGAL), whatever their predicate, take the exception PRIV with
the instruction word in C_EINFO and C_EPC at the instruction; LSI with imm[16] set, CMP with an undefined condition,
FMIN with an RM and ALOAD with a register above a3 take ILLEGAL in the same way. (R64, R66, R69, R75, R84, R85, R229) -/
def Obligations.PrivilegeTraps : Prop :=
  (∀ f ∈ [(.eret : RRR → Instr), .wfi, .tlbiVa, .tlbiAs, .tlbiAll, .tlbiS2, .tlbsync, .ldrop, .idropall, .swflush],
    ∀ (o : RRR) (s s1 : State), Issues s o.core (wordOf (f o)) s1 → (s1.core o.core).lvl = .u →
      exec (f o) s = .next (s1.trapInsn o.core (Exc.insn xPRIV (s1.core o.core).pc (wordOf (f o)) false)) ∧
      Answers (f o) s (fun t => trapped o.core ((s1.core o.core).trapTarget (Exc.insn xPRIV 0 0 false)) xPRIV (s1.core o.core).pc
        (s1.core o.core) t ∧ (t.core o.core).cr (bankKey ((s1.core o.core).trapTarget (Exc.insn xPRIV 0 0 false)) (s1.core o.core).sec 5) =
          zext (wordOf (f o)) <<< 32)) ∧
  (∀ (o : RRR) (s s1 : State), Issues s o.core (wordOf (.hcall o)) s1 →
    ((s1.core o.core).sec = false → (s1.core o.core).lvl = .u →
      exec (.hcall o) s = .next (s1.trapInsn o.core (Exc.insn xPRIV (s1.core o.core).pc (wordOf (.hcall o)) false))) ∧
    ((s1.core o.core).sec = true → (s1.core o.core).lvl ≠ .m →
      exec (.hcall o) s = .next (s1.trapInsn o.core (Exc.insn xILLEGAL (s1.core o.core).pc (wordOf (.hcall o)) false)))) ∧
  (∀ (o : RRR) (s s1 : State), Issues s o.core (wordOf (.tlbiS2 o)) s1 → (s1.core o.core).lvl ≠ .h →
    exec (.tlbiS2 o) s = .next (s1.trapInsn o.core (Exc.insn xPRIV (s1.core o.core).pc (wordOf (.tlbiS2 o)) false))) ∧
  (∀ (o : LIF) (s s1 : State), Issues s o.core (wordOf (.lsi o)) s1 → o.imm.getLsbD 16 = true →
    exec (.lsi o) s = .next (s1.trapInsn o.core (Exc.insn xILLEGAL (s1.core o.core).pc (wordOf (.lsi o)) false))) ∧
  (∀ (o : RRRF) (s s1 : State), Issues s o.core (wordOf (.cmp o)) s1 → 8 ≤ o.f.toNat % 16 →
    exec (.cmp o) s = .next (s1.trapInsn o.core (Exc.insn xILLEGAL (s1.core o.core).pc (wordOf (.cmp o)) false))) ∧
  (∀ (o : VF) (s s1 : State), Issues s o.core (wordOf (.fmin o)) s1 → o.rm ≠ 0 →
    exec (.fmin o) s = .next (s1.trapInsn o.core (Exc.insn xILLEGAL (s1.core o.core).pc (wordOf (.fmin o)) false))) ∧
  (∀ (o : RRR) (s s1 : State), Issues s o.core (wordOf (.aload o)) s1 → 4 ≤ o.d.toNat →
    exec (.aload o) s = .next (s1.trapInsn o.core (Exc.insn xILLEGAL (s1.core o.core).pc (wordOf (.aload o)) false)))

/-- TICK_EDGE of a counting package in RUN, with no strobe on its way and no shadow waiting, adds 1 to the frame number
(modulo 2^48), moves TCK_NEXT by the period and sends the strobe, which every HCLK block takes at once, and no other;
the strobe's arrival at a block behind a crossing that has ended applies that block's shadows once; TCK_RUN before the
first edge is due starts the counter at the fraction of TCK_TIME_FRAC; an event crossing ends, with XOVR of its domain
set or as before; an event that enters a crossing under way sets it; a negative step is used up. A step on an empty
queue adds TCK_RATE to package time while it counts and the edge is further off, and changes nothing while the tick is
stopped and nothing is left to do: that an empty queue lets one HCLK cycle pass is the model's choice (log 1). (R43, R45, R46, R48, R49) -/
def Obligations.PackageTime : Prop :=
  (∀ s : State, s.counting = true → s.tck.strobe = false → s.shad = KMap.empty → s.fd .PWR_STATUS PWR_STATUS.PKG = 0 →
    Answers .tickEdge s (fun t => t.frameNo = (s.frameNo + 1) % 2 ^ 48 ∧
      t.rg .TCK_NEXT = s.rg .TCK_NEXT + BitVec.ofNat 64 (s.fd .TCK_PERIOD TCK_PERIOD.NS) ∧
      t.tck.strobe = true ∧ (∀ e ∈ strobeBlocks, t.tck.reached.contains (e.1.base e.2) = (strobeDom e.1).isNone) ∧
      ∀ d, d < 12 → (t.die d).timeAt = (t.die d).timeRepl)) ∧
  (∀ s : State, ∀ e ∈ crossedBlocks, (∀ d, strobeDom e.1 = some d → s.crossing d 0 = false) → s.tck.strobe = true → s.alive = true →
    s.tck.reached.contains (e.1.base e.2) = false →
    Answers (.tickStrobeArrival (e.1.base e.2)) s (fun t => t.tck.reached = e.1.base e.2 :: s.tck.reached ∧
      t.tpend e.1 e.2 = false)) ∧
  (∀ s : State, s.alive = true → s.ticking = false →
    s.rwo.contains (RRef.key ⟨.TCK_CTL, 0, 0, 0⟩ TCK_CTL.RUN) = false → s.nowNs < (s.rg .TCK_NEXT).toNat →
    Answers .tckRun s (fun t => t.ticking = true ∧ t.fd .TCK_CTL TCK_CTL.RUN = 1 ∧
      t.tck.frac = s.fd .TCK_TIME_FRAC TCK_TIME_FRAC.FRAC ∧ t.nowNs = s.nowNs)) ∧
  (∀ (s : State) (d : Fin 6), (∃ e ∈ s.tck.xing.l, e.1 / 65536 = d.val) →
    Answers (.eventCrossing d) s (fun t => (∀ e ∈ t.tck.xing.l, e.1 / 65536 ≠ d.val) ∧
      (t.rg .TCK_XOVR = s.rg .TCK_XOVR ∨ t.rg .TCK_XOVR = s.rg .TCK_XOVR ||| BitVec.ofNat 64 (2 ^ d.val)))) ∧
  (∀ (s : State) (d e : Nat), d < 6 → s.crossing d e = true → bitAt ((s.crossInto d e).rg .TCK_XOVR) d = true) ∧
  (∀ s : State, s.counting = true → s.tck.negLeft ≠ 0 → s.timeU + s.halfCycles * (s.timeInc / 2) < s.nextU →
    Answers .negativeStepAbsorbed s (fun t => t.tck.negLeft = 0 ∧ t.timeU = s.timeU + s.halfCycles * (s.timeInc / 2))) ∧
  (∀ s : State, s.pending = [] → s.counting = true → s.tck.negLeft = 0 → s.fd .PWR_STATUS PWR_STATUS.PKG = 0 →
    s.timeU + s.fd .TCK_RATE TCK_RATE.RATE < s.nextU → (∀ n, (s.core n).debugDue = false) →
    ∃ t, step s = .next t ∧ t.timeU = s.timeU + s.fd .TCK_RATE TCK_RATE.RATE ∧ t.frameNo = s.frameNo ∧
      t.rg .TCK_NEXT = s.rg .TCK_NEXT ∧ t.tck.strobe = s.tck.strobe) ∧
  (∀ s : State, s.pending = [] → s.counting = false →
    s.alive = false ∨ ((∀ n, (s.core n).sbuf = [] ∧ (s.core n).debugDue = false) ∧ ∀ d, d < 261 → s.domState d = 0) →
    step s = .next s)

/-- A TICK_IN edge stamps package time and its fraction and sets INEV (INOVR where INEV was set or the edge comes within
1,000 ns); LOCK falls after 4 periods without an edge; in mode 3 package time passes to its next whole second, where
TICK_OUT rises, and it falls after its width; TCK_PERIOD and TCK_RATE writes within their limits are taken (the period
after its check) and others set PERR or SRCERR; a passed check leaves the period in its shadow, a failed one sets
PREJ; reading the low part of TCK_TIME_NS latches the fraction, and each half is answered to its initiator. (R50, R51, R54, R55, R56, R257) -/
def Obligations.TickContactsAndWrites : Prop :=
  (∀ s : State, s.powered = true → s.fb .TCK_IO TCK_IO.IEN = true → s.tck.inLast = none →
    Answers .tickInEdge s (fun t => ∃ u, s.timeU ≤ u ∧ u ≤ s.timeU + 31 * (16 * 2 ^ 32 / 1000) ∧
      t.rg .TCK_IN_STAMP = BitVec.ofNat 64 (u / 2 ^ 32) ∧
      t.fd .TCK_IN_FRAC TCK_IN_FRAC.FRAC = u % 2 ^ 32 ∧ t.fb .TCK_STATUS TCK_STATUS.INEV = true ∧
      (s.fb .TCK_STATUS TCK_STATUS.INEV = true → t.fb .TCK_STATUS TCK_STATUS.INOVR = true) ∧
      t.tck.inLast = some (u / 2 ^ 32, u % 2 ^ 32))) ∧
  (∀ s : State, s.powered = true → s.fb .TCK_IO TCK_IO.IEN = true → s.tck.inLast = some (s.nowNs, s.tck.frac) →
    Answers .tickInEdge s (fun t => t.fb .TCK_STATUS TCK_STATUS.INOVR = true ∧ t.rg .TCK_IN_STAMP = s.rg .TCK_IN_STAMP)) ∧
  (∀ (s : State) (ns fr : Nat), s.counting = true → s.fb .TCK_STATUS TCK_STATUS.LOCK = true → s.tck.inLast = some (ns, fr) →
    ns + 4 * s.fd .TCK_PERIOD TCK_PERIOD.NS ≤ s.nowNs →
    Answers .tickInLockLoss s (fun t => t.fb .TCK_STATUS TCK_STATUS.LOCK = false ∧ t.tck.inGood = 0)) ∧
  (∀ s : State, s.counting = true → s.fd .TCK_IO TCK_IO.OMODE = 3 → s.fd .PWR_STATUS PWR_STATUS.PKG = 0 → s.tck.negLeft = 0 →
    0x80000000 - 2147484 ≤ s.fd .TCK_RATE TCK_RATE.RATE →
    let sec := s.nowNs / 1000000000 + 1
    sec * 1000000000 * 2 ^ 32 < s.nextU →
    Answers .tickOutSecondPulse s (fun t => t.tck.outHigh = true ∧ t.tck.outRise = sec * 1000000000 ∧ t.nowNs / 1000000000 = sec ∧
      t.timeU < sec * 1000000000 * 2 ^ 32 + s.fd .TCK_RATE TCK_RATE.RATE)) ∧
  (∀ s : State, s.counting = true → s.tck.outHigh = true → s.tck.frac < 2 ^ 32 →
    s.tck.outRise + max 8 (s.fd .TCK_IO TCK_IO.OWIDTH) ≤ s.nowNs → s.fd .TCK_IO TCK_IO.OMODE ≠ 3 →
    Answers .tickOutPulseEnd s (fun t => t.tck.outHigh = false ∧ t.timeU = s.timeU)) ∧
  (∀ s : State, s.counting = true → s.tck.outHigh = true → s.fd .TCK_IO TCK_IO.OMODE ≠ 3 → s.fd .PWR_STATUS PWR_STATUS.PKG = 0 →
    s.tck.negLeft = 0 → 0x80000000 - 2147484 ≤ s.fd .TCK_RATE TCK_RATE.RATE →
    let e := s.tck.outRise + max 8 (s.fd .TCK_IO TCK_IO.OWIDTH)
    e * 2 ^ 32 < s.nextU →
    Answers .tickOutPulseEnd s (fun t => t.tck.outHigh = false ∧ t.timeU < max (s.timeU + 1) (e * 2 ^ 32 + s.fd .TCK_RATE TCK_RATE.RATE))) ∧
  (∀ (s : State) (data : BitVec 32), s.alive = true →
    (4000 ≤ data.toNat % 2 ^ 22 → data.toNat % 2 ^ 22 ≤ 4000000 →
      Answers (.tckPeriodWrite data) s (fun t => t.tck.checks =
        s.tck.checks ++ [⟨RegKind.TCK_PERIOD.addr, 32, BitVec.ofNat 64 (data.toNat % 2 ^ 22), none,
          s.limitFor (0x800000000000 + RegKind.TCK_PERIOD.addr)⟩])) ∧
    (4000 ≤ data.toNat % 2 ^ 22 → data.toNat % 2 ^ 22 ≤ 4000000 → s.tck.checks = [] →
      (∀ k, k < 64 → s.fb .NOC_ESLOT NOC_ESLOT.V 0 k = false ∧ s.shad.get? (RRef.key ⟨.NOC_ESLOT, 0, k, 0⟩ NOC_ESLOT.V) = none) →
      (∀ k, k < 256 → s.fb .FAB_ESLOT FAB_ESLOT.V 0 k = false ∧ s.shad.get? (RRef.key ⟨.FAB_ESLOT, 0, k, 0⟩ FAB_ESLOT.V) = none) →
      ∃ u, exec (.tckPeriodWrite data) s = .next u ∧ Answers .scheduleCheckDone u (fun t => t.tck.checks = [] ∧
        t.shad.get? (RRef.key ⟨.TCK_PERIOD, 0, 0, 0⟩ TCK_PERIOD.NS) = some ⟨TCK_PERIOD.NS, data.toNat % 2 ^ 22⟩ ∧
        t.rg .TCK_PERIOD = s.rg .TCK_PERIOD)) ∧
    (data.toNat % 2 ^ 22 < 4000 ∨ 4000000 < data.toNat % 2 ^ 22 →
      Answers (.tckPeriodWrite data) s (fun t => t.fb .TCK_STATUS TCK_STATUS.PERR = true ∧ t.tck.checks = s.tck.checks))) ∧
  (∀ (s : State) (data : BitVec 32), s.alive = true →
    (s.fd .TCK_CTL TCK_CTL.TSRC ≠ 0 → Answers (.tckRateWrite data) s (fun t => t.fb .TCK_STATUS TCK_STATUS.SRCERR = true)) ∧
    (s.fd .TCK_CTL TCK_CTL.TSRC = 0 → 0x80000000 - 2147484 ≤ data.toNat → data.toNat ≤ 0x80000000 + 2147484 →
      Answers (.tckRateWrite data) s (fun t => t.fd .TCK_RATE TCK_RATE.RATE = data.toNat)) ∧
    (s.fd .TCK_CTL TCK_CTL.TSRC = 0 → data.toNat < 0x80000000 - 2147484 ∨ 0x80000000 + 2147484 < data.toNat →
      Answers (.tckRateWrite data) s (fun t => t.fb .TCK_STATUS TCK_STATUS.PERR = true ∧ t.rg .TCK_RATE = s.rg .TCK_RATE))) ∧
  (∀ (s : State) (v limit : Nat) (i : Option Init) (rest : List SchedCheck), s.alive = true → v < 2 ^ 22 →
    s.tck.checks = ⟨RegKind.TCK_PERIOD.addr, 32, BitVec.ofNat 64 v, i, limit⟩ :: rest →
    let h : Hit := ⟨⟨.TCK_PERIOD, 0, 0, 0⟩, 0xFFFFFFFF, 0⟩
    let r := ({ s with tck := { s.tck with checks := rest } } : State).checkSchedules h.r (checkedWord s h (BitVec.ofNat 64 v))
    ((r.1 && r.2.1) = true → Answers .scheduleCheckDone s (fun t => t.tck.checks = rest ∧
      t.shad.get? (RRef.key ⟨.TCK_PERIOD, 0, 0, 0⟩ TCK_PERIOD.NS) = some ⟨TCK_PERIOD.NS, v⟩)) ∧
    ((r.1 && r.2.1) = false → Answers .scheduleCheckDone s (fun t => t.tck.checks = rest ∧
      t.fb .TCK_STATUS TCK_STATUS.PREJ = true))) ∧
  (∀ (s : State) (i : Init) (off width : Nat), s.powered = true → s.ticking = true → s.replyPasses i.node i.gen = true →
    (off, width) ∈ [(RegKind.TCK_TIME_NS.addr, 64), (RegKind.TCK_TIME_NS.addr, 32), (RegKind.TCK_TIME_NS.addr + 4, 32)] →
    Answers (.tckTimeNsRead i off width) s (fun t =>
      (t.fd .TCK_TIME_FRAC TCK_TIME_FRAC.FRAC =
        if off = RegKind.TCK_TIME_NS.addr then s.tck.frac % 2 ^ 32 else s.fd .TCK_TIME_FRAC TCK_TIME_FRAC.FRAC) ∧
      ∃ q r : Msg, t.net.taken = s.net.taken ++ [q, r] ∧ r.dst = i.node ∧ r.tag = i.tag ∧ r.status = .ok ∧
        r.data = (if width = 64 then BitVec.setWidth 1024 (s.rg .TCK_TIME_NS)
          else if off = RegKind.TCK_TIME_NS.addr then BitVec.setWidth 1024 (BitVec.setWidth 32 (s.rg .TCK_TIME_NS))
          else BitVec.setWidth 1024 (BitVec.setWidth 32 (s.rg .TCK_TIME_NS >>> 32)))))

/-- QUERY reports status 0 and the owner state of a resource; RELEASE of an owned vector, vote slot or domain starts its
reset; the reset's end frees it; CLAIM of a free one gives it to the asked world, the secure one only to a secure
initiator. TRIG and SOURCE_EVENT make an edge source pending, CLRP clears it, a normal-world TRIG of a secure source
is logged as kind 5, and an event leaves a level source alone. (R451, R452, R454, R455) -/
def Obligations.WorldsAndSources : Prop :=
  (∀ (s : State) (i : Init) (cls : BitVec 2) (idx : BitVec 12), s.alive = true → resourceOk cls.toNat idx.toNat = true →
    Answers (.wldQuery i cls idx) s (fun t => t.fd .WLD_HSTAT WLD_HSTAT.STATUS = 0 ∧
      t.fd .WLD_HSTAT WLD_HSTAT.STATE = (s.ownerOf cls.toNat idx.toNat).code ∧ t.owners = s.owners)) ∧
  (∀ (s : State) (i : Init) (cls : BitVec 2) (idx : BitVec 12), s.alive = true → resourceOk cls.toNat idx.toNat = true →
    cls ≠ 0 → s.ownerOf cls.toNat idx.toNat = .n ∨ (s.ownerOf cls.toNat idx.toNat = .s ∧ i.sec = true) →
    Answers (.handoverRelease i cls idx) s (fun t => t.ownerOf cls.toNat idx.toNat = .resetting ∧
      t.fd .WLD_HSTAT WLD_HSTAT.STATUS = 0)) ∧
  (∀ (s : State) (idx : BitVec 12), s.alive = true → s.ownerOf 1 idx.toNat = .resetting →
    Answers (.handoverResetDone 1 idx) s (fun t => t.ownerOf 1 idx.toNat = .free ∧ t.src idx.toNat = Src.reset)) ∧
  (∀ (s : State) (i : Init) (cls : BitVec 2) (idx : BitVec 12) (sec : Bool), s.alive = true →
    resourceOk cls.toNat idx.toNat = true → s.resourceHeld cls.toNat idx.toNat = false → s.ownerOf cls.toNat idx.toNat = .free →
    Answers (.wldClaim i cls idx sec) s (fun t => t.ownerOf cls.toNat idx.toNat = (if sec && i.sec then .s else .n) ∧
      t.fd .WLD_HSTAT WLD_HSTAT.STATUS = 0)) ∧
  (∀ (s : State) (i : Init) (n : Fin 4096), s.alive = true → srcEdge n = true →
    (i.sec = true ∨ s.fb .IRT_SRC IRT_SRC.SEC 0 n = false →
      Answers (.irtTrig i n) s (fun t => (t.src n).pend = true ∧ (t.src n).active = (s.src n).active) ∧
      Answers (.irtClrp i n) s (fun t => (t.src n).pend = false ∧ (t.src n).active = (s.src n).active)) ∧
    (i.sec = false → s.fb .IRT_SRC IRT_SRC.SEC 0 n = true → n.val ≠ 0xF8 →
      Answers (.irtTrig i n) s (fun t => (t.src n).pend = (s.src n).pend ∧ t.fd .WLD_VIOL WLD_VIOL.KIND = 5 ∧
        t.fd .WLD_VIOL WLD_VIOL.VALID = 1 ∧ t.fd .WLD_VIOL WLD_VIOL.SRC = i.node % 4096))) ∧
  (∀ (s : State) (n : Fin 4096), s.alive = true →
    (srcEdge n = true → Answers (.sourceEvent n) s (fun t => (t.src n).pend = true)) ∧
    (srcEdge n = false → exec (.sourceEvent n) s = .next s))

/-- IRQ_OFFER puts the best source of each world at a running core; INTERRUPT_TAKEN at a boundary with no step and no
deferred error takes the chosen source to its level: cause with bit 63, the interrupt vector, IE and SS clear, the
source ACTIVE at the core and an edge source no longer pending. DEFERRED_BUSERR takes BUSERR with the next instruction
in C_EPC and status and count in C_EINFO, SINGLE_STEP_TRAP takes STEP; STORE_STATUS_RETURN moves the oldest status to
the deferred error; WFI_WAKE completes the WFI. (R70, R71, R72, R94, R456, R66) -/
def Obligations.EventsAtACore : Prop :=
  (∀ (s : State) (n : CoreNo), s.alive = true → (s.core n).run = .run → s.domState n = 0 →
    Answers (.irqOffer n) s (fun t => (t.core n).offer = s.bestSrc n false ∧ (t.core n).offerS = s.bestSrc n true)) ∧
  (∀ (s : State) (n : CoreNo) (src : Nat) (l : Level), s.atBoundary n = true → (s.core n).stepDue = false →
    (s.core n).defErr = none → (s.core n).dbg = false → s.nextInt n = some (src, .take l) →
    Answers (.interruptTaken n) s (fun t => (t.core n).lvl = l ∧ (t.core n).ie = false ∧ (t.core n).ss = false ∧
      (t.core n).cr (bankKey l (s.core n).sec 1) = (s.core n).pc &&& ~~~(3 : Word) ∧
      (t.core n).cr (bankKey l (s.core n).sec 3) = BitVec.ofNat 64 (2 ^ 63 + src) ∧
      (t.core n).pc = (s.core n).cr (bankKey l (s.core n).sec 0) + (if (s.core n).lvl = l then 0 else 0x200) + 0x100 ∧
      (t.src src).active = some n.val ∧ (srcEdge src = true → (t.src src).pend = false) ∧ (t.core n).g = (s.core n).g)) ∧
  (∀ (s : State) (n : CoreNo) (d : DefErr), s.atBoundary n = true → (s.core n).stepDue = false → (s.core n).dbg = false →
    (s.core n).defErr = some d → ¬ ((s.core n).lvl = .m ∧ (s.core n).mcip = true) →
    let e : Exc := ⟨xBUSERR, 0, 0, true, false, none⟩
    Answers (.deferredBuserr n) s (fun t => trapped n ((s.core n).trapTarget e) xBUSERR (s.core n).pc (s.core n) t ∧
      (t.core n).defErr = none ∧
      (t.core n).cr (bankKey ((s.core n).trapTarget e) (s.core n).sec 4) = d.va ∧
      (t.core n).cr (bankKey ((s.core n).trapTarget e) (s.core n).sec 5) =
        BitVec.ofNat 64 (d.status + 0x10000 + 0x40000 + min 15 d.dovf * 2 ^ 19))) ∧
  (∀ (s : State) (n : CoreNo), s.atBoundary n = true → (s.core n).stepDue = true → (s.core n).dbg = false →
    ¬ ((s.core n).lvl = .m ∧ (s.core n).mcip = true) →
    Answers (.singleStepTrap n) s (fun t => trapped n ((s.core n).trapTarget ⟨xSTEP, 0, 0, true, false, none⟩) xSTEP
      (s.core n).pc (s.core n) t ∧ (t.core n).stepDue = false)) ∧
  (∀ (s : State) (n : CoreNo) (e : StoreOut) (r : List StoreOut), (s.core n).stq = e :: r →
    Answers (.storeStatusReturn n) s (fun t => (t.core n).stq = r ∧
      (t.core n).defErr = some (match (s.core n).defErr with
        | none => ⟨e.status, e.va, 0⟩
        | some d => ⟨d.status, d.va, min 15 (d.dovf + 1)⟩))) ∧
  (∀ (s : State) (n : CoreNo), s.alive = true → (s.core n).run = .wfi → s.pairStopped n = false → s.domState n = 0 →
    (s.core n).dbg = false → (s.core n).offers.any (fun m => s.intAct n m true != .no) = true →
    Answers (.wfiWake n) s (fun t => (t.core n).run = .run ∧ (t.core n).pc = (s.core n).pc + 4))

/-- CORE_RELEASE starts a HELD core at C_START; HALTREQ stands until DEBUG_HALT halts the core at a boundary under debug
control; RESUME lets a halted core run on; CRESET begins the reset and CORE_RESET_DONE ends it with reset values, the
next generation and an open fence; a C_DBGINST with ADD executes it and leaves core halted at its PC; CLEANINV_DONE
completes its MTC; a misprediction is cancelled; a hardware prefetch in the page of one of its streams is a fill where
its enable allows it: of the core's L2, and of L1D at level 1, with the line as the home's system cache has it. (R96, R97, R98, R99, R185, R195, R201) -/
def Obligations.RunControl : Prop :=
  (∀ (s : State) (n : CoreNo), s.alive = true → (s.core n).run = .held → s.dieHolding n = false →
    Answers (.coreRelease n) s (fun t => (t.core n).run = .run ∧ (t.core n).release = true ∧
      (t.core n).pc = s.rg .C_START n &&& 0xFFFFFFFFFFFFFC)) ∧
  (∀ (s : State) (n : CoreNo), s.alive = true → Answers (.haltreq n) s (fun t => (t.core n).haltReq = true)) ∧
  (∀ (s : State) (n : CoreNo), s.atBoundary n = true → (s.core n).haltReq = true → s.dbgControl n = true →
    Answers (.debugHalt n) s (fun t => (t.core n).run = .halted ∧ (t.core n).haltReq = false ∧
      (t.core n).pc = (s.core n).pc)) ∧
  (∀ (s : State) (n : CoreNo), s.alive = true → (s.core n).run = .halted → s.dbgControl n = true →
    (s.core n).dbg = false → (s.core n).dbgQ = [] →
    Answers (.resume n) s (fun t => (t.core n).run = .run ∧ (t.core n).pc = (s.core n).pc)) ∧
  (∀ (s : State) (n : CoreNo), s.alive = true → s.domState n < 3 → (s.core n).run ≠ .resetting →
    Answers (.creset n) s (fun t => (t.core n).run = .resetting ∧ (t.core n).wait = .none)) ∧
  (∀ (s : State) (n : CoreNo), s.alive = true → (s.core n).run = .resetting → s.dieHolding n = false →
    (s.core n).sbuf = [] → (s.core n).l2.l = [] →
    Answers (.coreResetDone n) s (fun t => t.core n = Core.reset ∧ t.fence (coreNode n) = 0 ∧
      t.genOf (coreNode n) = (s.genOf (coreNode n) + 1) % 16)) ∧
  (∀ (s : State) (n : CoreNo) (o : RRR) (w : BitVec 32), s.alive = true → (s.core n).run = .halted → s.dbgControl n = true →
    (s.core n).dbg = false → (s.core n).dbgQ = [] → (s.core n).resumeDue = false → (s.core n).wait = .none → decodeWord n w = some (.add o) →
    encode (.add o) = some w → o.core = n → (s.core n).executes o.pred o.pn = true →
    Answers (.cDbginst n w) s (fun t =>
      (t.core n).rg o.d = (if o.d = 0 then 0 else (s.core n).rg o.s1 + (s.core n).rg o.s2) ∧
      (t.core n).pc = (s.core n).pc ∧ (t.core n).run = .halted ∧ (t.core n).dbg = false ∧ (t.core n).dbgQ = [])) ∧
  (∀ (s : State) (n : CoreNo), s.coreLive n = true → (s.core n).wait = .cleaninv → (s.core n).dbg = false →
    (s.core n).l2.l = [] → (s.die (n.val / 18)).wb.all (fun e => !e.dirty) = true →
    Answers (.cleaninvDone n) s (fun t => (t.core n).cleaning = false ∧ (t.core n).wait = .none ∧
      (t.core n).pc = (s.core n).pc + 4)) ∧
  (∀ (s : State) (n : CoreNo), (s.core n).mispred = true →
    Answers (.branchMispredict n) s (fun t => (t.core n).mispred = false ∧ (t.core n).pc = (s.core n).pc ∧
      (t.core n).g = (s.core n).g ∧ (t.core n).p = (s.core n).p ∧ (t.core n).v = (s.core n).v ∧ (t.core n).a = (s.core n).a ∧
      keepsMode (s.core n) (t.core n))) ∧
  (∀ (s : State) (n : CoreNo) (va : Word), s.coreLive n = true → s.pairStopped n = false →
    (bitAt ((s.core n).cr cCACHECTL) 4 = true → (s.core n).l2en = true → (s.core n).pf2.contains (va.toNat / 4096) = true →
      exec (.hwPrefetch n va true) s = .next (s.prefetchLine n va false true)) ∧
    (bitAt ((s.core n).cr cCACHECTL) 3 = true → (s.core n).l1den = true → (s.core n).pf1.contains (va.toNat / 4096) = true →
      exec (.hwPrefetch n va false) s = .next (s.prefetchLine n va false false)) ∧
    ((s.core n).l2en = false → exec (.hwPrefetch n va true) s = .next s ∧ exec (.hwPrefetch n va false) s = .next s)) ∧
  (∀ (s : State) (n : CoreNo) (va : Word) (l2 : Bool) (m : DcLine), s.coreLive n = true → s.pairStopped n = false →
    let c := s.core n
    let d := n.val / 18
    let line := va.toNat / 128
    bitAt (c.cr cCACHECTL) (if l2 then 4 else 3) = true → (if l2 then c.pf2 else c.pf1).contains (va.toNat / 4096) = true →
    c.l1den = true → c.l1d = KMap.empty → c.l1dRet = [] → c.l2 = KMap.empty → reaches s n va 1 → s.upsets = KMap.empty →
    (s.die d).filt = KMap.empty → (s.die d).dcache = KMap.empty → (s.die d).wb = [] → homeFree s line →
    (s.home (homeOf line)).dir = KMap.empty → s.fb .MSC_CTL MSC_CTL.EN (homeOf line) = true → s.msc.get? line = some m → m.poison = 0 →
    Answers (.hwPrefetch n va l2) s (fun t => (∃ x, (t.core n).l2.get? line = some x ∧ x.data = m.data ∧ x.poison = 0) ∧
      (t.core n).l1d.has line = !l2 ∧ sameSeen c (t.core n) ∧ (t.core n).pc = c.pc))

/-- PWR_VOTE_WRITE by the owning world stores the vote and by the other world is logged as kind 4; a core's clean that has
written everything back moves the transition to its fence; FENCE_DRAINED closes the fence; DOMAIN_ENTRY_DONE puts the
domain in its target state; DOMAIN_EXIT_DONE of a die ends the transition in the shallower of its state and its
target. (R453, R454, R463, R464, R465, R466) -/
def Obligations.DomainTransitions : Prop :=
  (∀ (s : State) (i : Init) (k : Fin 1024) (data : Word), s.alive = true → s.ownerOf 2 k = .n →
    (i.sec = false → s.pwr.trans = KMap.empty → Answers (.pwrVoteWrite i k data) s (fun t =>
      t.rg .PWR_VOTE 0 k = (data &&& 0x1FFF) ||| (if s.fb .PWR_VOTE PWR_VOTE.SEC 0 k then 0x2000 else 0))) ∧
    (i.sec = true → Answers (.pwrVoteWrite i k data) s (fun t => t.rg .PWR_VOTE 0 k = s.rg .PWR_VOTE 0 k ∧
      t.fd .WLD_VIOL WLD_VIOL.KIND = 4))) ∧
  (∀ (s : State) (n : CoreNo) (g : Nat), s.alive = true → s.pwr.trans.get? n = some ⟨g, 1⟩ →
    (s.core n).sbuf = [] → (s.core n).l2.l = [] →
    Answers (.domainCleanDone n) s (fun t => t.pwr.trans.get? n = some ⟨g, 2⟩ ∧ t.fence (coreNode n) = 1 ∧
      (t.core n).l1i = KMap.empty ∧ (t.core n).cleaning = false)) ∧
  (∀ (s : State) (d : Fin 263) (g : Nat), s.alive = true → s.pwr.trans.get? d = some ⟨g, 2⟩ → s.domBusy d = false →
    Answers (.fenceDrained d) s (fun t => t.pwr.trans.get? d = some ⟨g, 3⟩ ∧ ∀ n, domNode d = some n → t.fence n = 3)) ∧
  (∀ (s : State) (d : Fin 263) (g : Nat), s.alive = true → d.val < 228 → g ≤ 4 → s.pwr.trans.get? d = some ⟨g, 3⟩ →
    Answers (.domainEntryDone d) s (fun t => t.domState d = g)) ∧
  (∀ (s : State) (d : Fin 263) (g : Nat), s.alive = true → 216 ≤ d.val → d.val < 228 → s.pwr.trans.get? d = some ⟨g, 4⟩ →
    Answers (.domainExitDone d) s (fun t => t.domState d = min (s.domState d) (s.domTarget d) ∧
      t.pwr.trans.get? d = none))

/-- PKG_SLEEP, PKG_DEEP and PKG_OFF with none waiting and the package not stopped wait with status 1, and with one waiting
are rejected; PKG_CANCEL takes the waiting one back; PKG_ENTRY of an allowed OFF enters it and loses all but MRAM;
PKG_WAKE by an enabled source that holds starts the exit and names the source; PKG_EXIT_DONE returns to RUN; a power
sample is recorded, and one that threatens a limit lowers the clock of every running core by 100 MHz, not below 0.8
GHz; a clock with headroom rises 100 MHz; PROCHOT_N and a hot junction cut every clock to 0.8 GHz with HOTEV. (R468, R469, R471, R472) -/
def Obligations.PackagePower : Prop :=
  (∀ e ∈ [((.pkgSleep : Init → Instr), 1), (.pkgDeep, 2), (.pkgOff, 3)], ∀ (s : State) (i : Init), s.boot.pwrok = true →
    (s.pwr.cmd = none → s.err.stopped = false → Answers (e.1 i) s (fun t => t.pwr.cmd = some (e.2, !i.sec) ∧
      t.fd .PWR_PKGCMD PWR_PKGCMD.STATUS = 1)) ∧
    (s.pwr.cmd ≠ none → Answers (e.1 i) s (fun t => t.pwr.cmd = s.pwr.cmd ∧ t.fb .PWR_STATUS PWR_STATUS.CMDREJ = true ∧
      t.fb .PWR_STATUS PWR_STATUS.CMDEV = true))) ∧
  (∀ (s : State) (i : Init), s.boot.pwrok = true → s.pwr.cmd ≠ none →
    Answers (.pkgCancel i) s (fun t => t.pwr.cmd = none ∧ t.fd .PWR_PKGCMD PWR_PKGCMD.STATUS = 0 ∧
      t.fb .PWR_STATUS PWR_STATUS.CMDEV = true)) ∧
  (∀ (s : State) (b : Bool), s.alive = true → s.pwr.cmd = some (3, b) → s.pkgReady 3 b = true →
    Answers .pkgEntry s (fun t => t.pwr.cmd = none ∧ t.fd .PWR_STATUS PWR_STATUS.PKG = 4 ∧ t.cores = KMap.empty ∧
      t.mem = s.mem.filter (fun c => region c.1 == .mram))) ∧
  (∀ (s : State) (k : Fin 4), s.pkgAsleep = true → bitAt (s.rg .PWR_WAKEEN) k = true → s.wakeHolds k = true →
    Answers (.pkgWake k) s (fun t => t.pwr.exiting = true ∧ t.fb .PWR_STATUS PWR_STATUS.WAKEEV = true ∧
      t.fd .PWR_WAKESRC PWR_WAKESRC.SRC = 2 ^ k.val)) ∧
  (∀ s : State, s.boot.pwrok = true → s.pwr.exiting = true →
    Answers .pkgExitDone s (fun t => t.pwr.exiting = false ∧ t.fd .PWR_STATUS PWR_STATUS.PKG = 0 ∧
      t.fd .PWR_PKGCMD PWR_PKGCMD.STATUS = 0)) ∧
  (∀ (s : State) (w a : BitVec 16), s.powered = true →
    (let s1 := s.setRg (setF (setF 0 PWR_POWER.SAMPLE w.toNat) PWR_POWER.AVG a.toNat) .PWR_POWER
     s1.powerThreat = false → exec (.powerSample w a) s = .next s1 ∧ s1.fd .PWR_POWER PWR_POWER.SAMPLE = w.toNat ∧
       s1.fd .PWR_POWER PWR_POWER.AVG = a.toNat) ∧
    (s.powerLimit < a.toNat ∨ 1150 < w.toNat → Answers (.powerSample w a) s (fun t => t.fd .PWR_POWER PWR_POWER.SAMPLE = w.toNat ∧
      t.fd .PWR_POWER PWR_POWER.AVG = a.toNat ∧ ∀ n, n < 216 → t.fd .PWR_DOM PWR_DOM.GFREQ 0 n =
        if (s.core n).run = .run then max 8 (s.fd .PWR_DOM PWR_DOM.GFREQ 0 n - 1) else s.fd .PWR_DOM PWR_DOM.GFREQ 0 n))) ∧
  (∀ (s : State) (n : CoreNo), s.alive = true → s.fd .PWR_DOM PWR_DOM.GFREQ 0 n < s.freqOf n → s.powerThreat = false →
    s.prochotActs = false →
    Answers (.freqRaise n) s (fun t => t.fd .PWR_DOM PWR_DOM.GFREQ 0 n = s.fd .PWR_DOM PWR_DOM.GFREQ 0 n + 1)) ∧
  (∀ (s : State) (low : Bool), s.alive = true → Answers (.prochotN low) s (fun t => t.pwr.prochot = low ∧
    (low = true → s.fb .PWR_LIMIT PWR_LIMIT.PHEN = true → t.fb .PWR_STATUS PWR_STATUS.HOTEV = true ∧
      ∀ n, n < 216 → t.fd .PWR_DOM PWR_DOM.GFREQ 0 n = 8))) ∧
  (∀ s : State, s.alive = true → Answers .junctionHot s (fun t => t.fb .PWR_STATUS PWR_STATUS.HOTEV = true ∧
    ∀ n, n < 216 → t.fd .PWR_DOM PWR_DOM.GFREQ 0 n = 8))

/-- Acknowledging a bank clears its record, address, detail and time; a secure FORCE stops the package with cause 7 and
bank 0xFFF at the present time and a normal one is logged as kind 1; the stop reaches the package (packets gone,
CATERR_N low), then the channels are flushed into self-refresh, then the stop is logged; a log write, at a free home
or in a stopped package, advances NEXTSEQ, and beyond 1,000 in a second the record is dropped and counted. (R500, R506, R507, R508, R509) -/
def Obligations.ErrorRecordsAndStop : Prop :=
  (∀ (s : State) (b : Fin 326), Answers (.erbAcknowledge b) s (fun t =>
    t.rg .ERB_REC (nthBank b).1 (nthBank b).2 = 0 ∧ t.rg .ERB_ADDR (nthBank b).1 (nthBank b).2 = 0 ∧
    t.rg .ERB_MISC (nthBank b).1 (nthBank b).2 = 0 ∧ t.rg .ERB_TIME (nthBank b).1 (nthBank b).2 = 0)) ∧
  (∀ (s : State) (i : Init), s.alive = true →
    (i.sec = true → s.err.stopped = false → Answers (.dstopForce i) s (fun t => t.err.stopped = true ∧
      t.fd .ERB_DSTOP ERB_DSTOP.STOPPED = 1 ∧ t.fd .ERB_DSTOP ERB_DSTOP.CAUSE = 7 ∧ t.fd .ERB_DSTOP ERB_DSTOP.BANK = 0xFFF ∧
      t.fd .ERB_DSTOP ERB_DSTOP.MORE = 0 ∧ t.fd .ERB_DSTIME ERB_DSTIME.NS = s.nowNs)) ∧
    (i.sec = false → Answers (.dstopForce i) s (fun t => t.err.stopped = s.err.stopped ∧ t.fd .WLD_VIOL WLD_VIOL.KIND = 1))) ∧
  (∀ s : State, s.err.stopped = true → s.err.halted = false →
    Answers .domainStop s (fun t => t.err.halted = true ∧ t.net.msgs = [] ∧ t.pins.catErr = true)) ∧
  (∀ s : State, s.err.halted = true → s.err.flushed = false →
    Answers .dstopChannelFlush s (fun t => t.err.flushed = true)) ∧
  (∀ s : State, s.err.halted = true → s.err.stopLogged = false → s.err.logq = [] →
    Answers .dstopLog s (fun t => t.err.stopLogged = true ∧ ∃ r l, t.err.logq = r :: l ∧ r.rtype = 2 ∧
      r.bank = s.fd .ERB_DSTOP ERB_DSTOP.BANK)) ∧
  (∀ (s : State) (r : LogRec) (l : List LogRec), s.boot.pwrok = true → s.pwr.tripped = false → s.err.logq = r :: l →
    s.fd .ERB_LOG ERB_LOG.NEXTSEQ ≠ 0 →
    ((if s.err.second = s.nowNs / 1000000000 then s.err.written else 0) < 1000 →
      (s.err.halted = false → let line := logAddr ((s.fd .ERB_LOG ERB_LOG.NEXTSEQ - 1) % 16384) / 128
        homeFree s line ∧ (s.home (homeOf line)).dir.get? line = none) →
      Answers .logRecordWrite s (fun t => t.err.dropSince = 0 ∧
        t.fd .ERB_LOG ERB_LOG.NEXTSEQ = seqNext (s.fd .ERB_LOG ERB_LOG.NEXTSEQ) % 2 ^ 32)) ∧
    (1000 ≤ (if s.err.second = s.nowNs / 1000000000 then s.err.written else 0) →
      Answers .logRecordWrite s (fun t => t.err.logq = l ∧ t.err.dropSince = s.err.dropSince + 1 ∧ t.mem = s.mem ∧
        t.fd .ERB_LOG ERB_LOG.DROPPED = min 0xFFFF (s.fd .ERB_LOG ERB_LOG.DROPPED + 1))))

/-- A REGRD or REGWR of a width other than 4 or 8 answers status 2, at an offset with no register status 1 (a read with
zero data), else status 0. Each JTAG instruction is in the instruction register after its row; EXTEST and
SAMPLE/PRELOAD load the cells, EXTEST and CLAMP let them drive, HIGHZ nothing; IDCODE gives the code, DIESEL the site;
a REGACC to no register reports status 1; STANDALONE in reset puts the selected die into stand-alone mode. (R530, R531, R532, R511) -/
def Obligations.ManagementPorts : Prop :=
  (∀ (s : State) (off w : Nat) (d : Word), s.portsOn = true → w ≠ 4 → w ≠ 8 →
    Answers (.i3cRegrd off w) s (fun t => t.tap.i3cResp = [2]) ∧ Answers (.i3cRegwr off w d) s (fun t => t.tap.i3cResp = [2])) ∧
  (∀ (s : State) (off : Nat) (d : Word), s.portsOn = true → s.sideHit off 32 = none →
    Answers (.i3cRegrd off 4) s (fun t => t.tap.i3cResp = [1, 0, 0, 0, 0]) ∧
    Answers (.i3cRegwr off 4 d) s (fun t => t.tap.i3cResp = [1])) ∧
  (∀ (s : State) (off : Nat) (d : Word) (h : Hit), s.portsOn = true → s.sideHit off 32 = some h →
    Answers (.i3cRegrd off 4) s (fun t => t.tap.i3cResp = 0 :: leBytes 4 (s.hitRead h s.sideSec)) ∧
    Answers (.i3cRegwr off 4 d) s (fun t => t.tap.i3cResp = [0])) ∧
  (∀ (s : State) (c : Nat), Answers (.jtagExtest c) s (fun t => t.tap.ir = 0x00 ∧ t.tap.drive = 1 ∧ t.tap.cells = c) ∧
    Answers (.jtagSamplePreload c) s (fun t => t.tap.ir = 0x01 ∧ t.tap.drive = 0 ∧ t.tap.cells = c) ∧
    Answers .jtagIdcode s (fun t => t.tap.ir = 0x02 ∧ t.tap.dr = BitVec.ofNat 72 s.idcode) ∧
    Answers .jtagClamp s (fun t => t.tap.ir = 0x04 ∧ t.tap.drive = 1 ∧ t.tap.cells = s.tap.cells) ∧
    Answers .jtagHighz s (fun t => t.tap.ir = 0x08 ∧ t.tap.drive = 2) ∧
    Answers .jtagBypass s (fun t => t.tap.ir = 0xFF ∧ t.tap.drive = 0)) ∧
  (∀ (s : State) (site : BitVec 4), Answers (.jtagDiesel site) s (fun t => t.tap.ir = 0x30 ∧ t.tap.diesel = site.toNat)) ∧
  (∀ (s : State) (dr : BitVec 72), s.portsOn = true → s.sideHit (dr.toNat % 2 ^ 32) 32 = none →
    Answers (.jtagRegacc dr) s (fun t => t.tap.ir = 0x20 ∧ t.tap.dr.toNat / 2 ^ 68 = 1)) ∧
  (∀ s : State, s.boot.pwrok = true → s.boot.resetN = false → s.tap.diesel < 12 → s.tap.standalone.contains s.tap.diesel = false →
    Answers .jtagStandalone s (fun t => t.tap.ir = 0x31 ∧ t.tap.standalone = s.tap.diesel :: s.tap.standalone ∧
      t.fd .D2D_SITE D2D_SITE.ROT s.tap.diesel = 0))

/-- The valid site code of a site is recorded once with its site and rotation and, outside stand-alone mode, puts the
ports in training, an invalid one holds the die's cores in reset; a flit in order is accepted and acknowledged flits
leave the replay buffer, a CRC error counts and answers a control flit; NAK counts a replay; a control flit takes the
next SEQ; an end that sees the retrain pattern or is told to retrain goes to RETRAIN; training that leaves enough
blocks and the same major level brings both sides UP at the width and features it finds, another major level refuses
the die, too few blocks fail, and the third failure in a row makes both ends DEAD; EN = 0 takes an UP port's side
DOWN; PHYRST returns its width to 16. (R16, R17, R261, R262, R263, R264, R265, R260) -/
def Obligations.DieToDiePorts : Prop :=
  (∀ (s : State) (site : SiteNo) (raw : BitVec 16), s.boot.pwrok = true → (s.die site).sampled = false →
    (raw.toNat = siteCode site → Answers (.siteCodeSample site raw) s (fun t => (t.die site).sampled = true ∧
      t.fd .D2D_SITE D2D_SITE.RAW site = siteCode site ∧ t.fd .D2D_SITE D2D_SITE.CODE_OK site = 1 ∧
      t.fd .D2D_SITE D2D_SITE.SITE site = site ∧
      t.fd .D2D_SITE D2D_SITE.ROT site = (if s.tap.standalone.contains site.val then 0 else siteRot site) ∧
      (s.tap.standalone.contains site.val = false →
        ∀ dir : Fin 4, t.pstate ⟨true, site, dir⟩ = 1 ∧ t.pstate ⟨false, site, dir⟩ = 1))) ∧
    (siteCodeOk raw = false → Answers (.siteCodeSample site raw) s (fun t => (t.die site).sampled = true ∧
      t.fd .D2D_SITE D2D_SITE.CODE_OK site = 0 ∧ ∀ c, c < 18 → (t.core (18 * site.val + c)).run = .resetting))) ∧
  (∀ (s : State) (p : PortRef) (f : FlitIn), s.dead = false → s.pstate p = 2 → (s.pside p).stopped = false →
    f.crcBad = false → f.wstamp.val = widthCode (s.pst p D2D_PSTAT.WIDTH) → f.nak = false →
    f.seq % 4096 = ((s.pside p).lastGood + 1) % 4096 →
    Answers (.flitReceive p f) s (fun t => (t.pside p).lastGood = f.seq % 4096 ∧ (t.pside p).naks = 0 ∧
      ((s.pside p).queue = [] → (s.pside p).nakDue = false →
        (t.pside p).replay = ackFlits (f.ack % 4096) (s.pside p).replay) ∧
      (f.credits % 65536 ≠ 0 → (t.pside p).cred.getD f.crVc.val 0 =
        min (vcCredits f.crVc.val) ((s.pside p).cred.getD f.crVc.val 0 + f.credits % 65536)) ∧
      (t.pside p).rx = (if f.ctrl then (s.pside p).rx else (s.pside p).rx ++ [⟨f.seq % 4096, false, f.body⟩]))) ∧
  (∀ (s : State) (p : PortRef) (f : FlitIn), s.dead = false → s.pstate p = 2 → (s.pside p).stopped = false →
    f.crcBad = true → (s.pside p).naks < 7 →
    Answers (.flitReceive p f) s (fun t => (t.pside p).lastGood = (s.pside p).lastGood ∧ (t.pside p).rx = (s.pside p).rx ∧
      t.fd .D2D_ERRCNT D2D_ERRCNT.CRCERR (portInst p) (s.pidx p) =
        satInc D2D_ERRCNT.CRCERR.len (s.fd .D2D_ERRCNT D2D_ERRCNT.CRCERR (portInst p) (s.pidx p)))) ∧
  (∀ (s : State) (p : PortRef) (ack : Nat), s.dead = false → s.pstate p = 2 → (s.pside p).queue = [] → (s.pside p).nakDue = false →
    Answers (.nakReceive p ack) s (fun t => (t.pside p).replay = ackFlits (ack % 4096) (s.pside p).replay ∧
      (t.pside p).sent.length = (s.pside p).sent.length + (ackFlits (ack % 4096) (s.pside p).replay).length ∧
      t.fd .D2D_ERRCNT D2D_ERRCNT.REPLAYS (portInst p) (s.pidx p) =
        satInc D2D_ERRCNT.REPLAYS.len (s.fd .D2D_ERRCNT D2D_ERRCNT.REPLAYS (portInst p) (s.pidx p)))) ∧
  (∀ (s : State) (p : PortRef), s.dead = false → s.pstate p = 2 → (s.pside p).replay.length < s.replayCap p →
    Answers (.controlFlitTimer p) s (fun t => (t.pside p).nextSeq = ((s.pside p).nextSeq + 1) % 4096 ∧
      (t.pside p).replay = (s.pside p).replay ++ [⟨(s.pside p).nextSeq, true, 0⟩])) ∧
  (∀ (s : State) (p : PortRef), s.alive = true → s.pstate p = 2 →
    Answers (.d2dRetrain p) s (fun t => t.pstate p = 3 ∧ ∃ u : State, u.pstate p = 3 ∧ t = u.linkEvent p) ∧
    (s.pstate (portOther p) = 3 → s.trainable p.site = true →
      Answers (.retrainPatternDetect p) s (fun t => t.pstate p = 3 ∧ ∃ u : State, u.pstate p = 3 ∧ t = u.linkEvent p)) ∧
    Answers (.phyrst p) s (fun t => t.pst p D2D_PSTAT.WIDTH = 16)) ∧
  (∀ (s : State) (site : SiteNo) (dir : Fin 4) (i : TrainInfo), s.dead = false → s.inTraining site dir = true →
    s.fd .IDN_DIE_REV IDN_DIE_REV.D2D_MAJOR 0 (site.val + 1) = 0 → s.fd .IDN_DIE_REV IDN_DIE_REV.FEAT 0 (site.val + 1) = 0 →
    let feat := hubFeat &&& i.feat
    let w := portWidth (feat.testBit 1) ((List.range 16).filter (fun j => blockState (feat.testBit 0)
      ((failedLanes i).filter (fun k => k / 36 == j)) != 3)).length
    (w = 0 → exec (.trainingDone site dir i) s = .next (s.trainFails site dir)) ∧
    (w ≠ 0 → i.major = 2 → Answers (.trainingDone site dir i) s (fun t =>
      (∀ b : Bool, t.pstate ⟨b, site, dir⟩ = 2 ∧ t.pst ⟨b, site, dir⟩ D2D_PSTAT.WIDTH = w ∧ t.pst ⟨b, site, dir⟩ D2D_PSTAT.FAILS = 0 ∧
        (t.fd .D2D_PEER D2D_PEER.LIVE (portInst ⟨b, site, dir⟩)).testBit dir.val = true ∧
        t.fd .D2D_PEER D2D_PEER.FEAT (portInst ⟨b, site, dir⟩) = feat % 2 ^ D2D_PEER.FEAT.len))) ∧
    (w ≠ 0 → i.major ≠ 2 → Answers (.trainingDone site dir i) s (fun t =>
      (∀ (b : Bool) (h : Fin 4), t.pstate ⟨b, site, h⟩ = 6) ∧ t.fd .IDN_DIE_REV IDN_DIE_REV.REFUSED 0 (site.val + 1) = 1))) ∧
  (∀ (s : State) (site : SiteNo) (dir : Fin 4), s.dead = false → s.pstate ⟨true, site, dir⟩ = 1 →
    (let hub : PortRef := ⟨true, site, dir⟩
     let n := s.pst hub D2D_PSTAT.FAILS + 1
     (n < 3 → Answers (.trainingFail site dir) s (fun t => t.pst hub D2D_PSTAT.FAILS = n ∧
       t.pst (portOther hub) D2D_PSTAT.FAILS = n ∧ t.pstate hub = 1)) ∧
     (3 ≤ n → Answers (.trainingFail site dir) s (fun t => t.pstate hub = 4 ∧ ∃ u : State, u.pstate hub = 4 ∧ u.pstate (portOther hub) = 4 ∧
       u.pst hub D2D_PSTAT.WIDTH = 0 ∧ t = u.portDown site dir)))) ∧
  (∀ (s : State) (p : PortRef), s.alive = true → s.pstate p = 2 →
    Answers (.d2dPortEnable p false) s (fun t => t.pstate p = 0 ∧ t.pstate (portOther p) = 0 ∧
      t.fd .D2D_PCTL D2D_PCTL.EN (portInst p) (s.pidx p) = 0 ∧
      (t.fd .D2D_PEER D2D_PEER.LIVE p.site).testBit p.dir.val = false)) ∧
  (∀ (s : State) (p : PortRef), s.alive = true → s.pstate p = 0 →
    (s.trainable p.site = true →
      Answers (.d2dPortEnable p true) s (fun t => t.pstate p = 3 ∧ ∃ u : State, u.pstate p = 3 ∧ t = u.linkEvent p)) ∧
    Answers (.d2dPortEnable p false) s (fun t => t.pstate p = 0 ∧
      t.fd .D2D_PCTL D2D_PCTL.EN (portInst p) (s.pidx p) = 0))

/-- A quarantined tag is free again after its time or its late reply, which is counted; a reply of another generation is
counted as stale and dropped; a fence that is not OPEN answers a request with TARGET_OFF or TARGET_RESET and drops a
reply to a node in reset or off; ROUTE_ARM arms a drained network and else reports ARMERR; the last old packet drains
it; a valid slot becomes active once a frame. (R249, R251, R252, R255, R256) -/
def Obligations.NetworkRows : Prop :=
  (∀ (s : State) (n tag : Nat), Answers (.quarantineEnd n tag) s (fun t => t.quarantined n tag = false ∧
    ∀ m u, ¬ (m = n ∧ u = tag) → t.quarantined m u = s.quarantined m u)) ∧
  (∀ (s : State) (n tag : Nat), s.quarantined n tag = true →
    Answers (.lateReply n tag) s (fun t => t.quarantined n tag = false ∧
      t.fd .NOC_AGENT NOC_AGENT.LATECNT 0 (n / 256) (n % 256) =
        satInc NOC_AGENT.LATECNT.len (s.fd .NOC_AGENT NOC_AGENT.LATECNT 0 (n / 256) (n % 256)))) ∧
  (∀ (s : State) (n g tag : Nat), g % 16 ≠ s.genOf n →
    Answers (.staleReply n g tag) s (fun t => t.fd .NOC_AGENT NOC_AGENT.STALECNT 0 (n / 256) (n % 256) =
      satInc NOC_AGENT.STALECNT.len (s.fd .NOC_AGENT NOC_AGENT.STALECNT 0 (n / 256) (n % 256)))) ∧
  (∀ (s : State) (dst src tag : Nat),
    (s.fence dst = 2 → src < 0xF00 ∨ 0xF10 ≤ src ∨ dst % 256 ≠ 0x20 →
      Answers (.fenceAnswer dst src tag false) s (fun t => ∃ m ∈ t.net.msgs, m.dst = src ∧ m.src = dst ∧ m.tag = tag ∧
        m.status = .targetReset)) ∧
    (s.fence dst = 1 ∨ s.fence dst = 3 → src < 0xF00 ∨ 0xF10 ≤ src ∨ dst % 256 ≠ 0x20 →
      Answers (.fenceAnswer dst src tag false) s (fun t => ∃ m ∈ t.net.msgs, m.dst = src ∧ m.src = dst ∧ m.tag = tag ∧
        m.status = .targetOff)) ∧
    (∀ (h : HomeNo) (x : Tracker), s.fence dst ≠ 0 → src = 0xF00 + h.val → dst % 256 = 0x20 →
      (s.home h).trk.find? (fun v => v.tag == tag && v.snoops.contains (dst / 256)) = some x →
      exec (.fenceAnswer dst src tag false) s = .next (s.snoopFenced h (dst / 256) x.req.line)) ∧
    (s.fence dst = 2 ∨ s.fence dst = 3 → exec (.fenceAnswer dst src tag true) s = .next (s.countStale dst))) ∧
  (∀ s : State, s.alive = true →
    (s.fb .NOC_RT_STATUS NOC_RT_STATUS.DRAINED = true → Answers .routeArm s (fun t => t.fb .NOC_RT_CTL NOC_RT_CTL.ARM = true)) ∧
    (s.fb .NOC_RT_STATUS NOC_RT_STATUS.DRAINED = false → Answers .routeArm s (fun t =>
      t.fb .NOC_RT_STATUS NOC_RT_STATUS.ARMERR = true))) ∧
  (∀ s : State, (∀ m ∈ s.net.msgs, m.rv = s.fd .NOC_RT_STATUS NOC_RT_STATUS.ACTIVE) →
    Answers .routeDrained s (fun t => t.oldPackets = 0 ∧ t.fd .NOC_RT_STATUS NOC_RT_STATUS.DRAINED = 1)) ∧
  (∀ (s : State) (k : Fin 64), s.alive = true → s.ticking = true → s.fb .NOC_ECTL NOC_ECTL.EN = true →
    s.fb .NOC_ESLOT NOC_ESLOT.V 0 k = true → s.net.estarted.contains k.val = false → s.fd .NOC_ESLOT NOC_ESLOT.BYTES 0 k ≠ 0 →
    s.frameInstant (s.fd .NOC_ESLOT NOC_ESLOT.START 0 k) < s.nextU →
    Answers (.eslotStart k) s (fun t => t.net.estarted = k.val :: s.net.estarted ∧
      t.net.eslots.get? k.val = some (64 * s.fd .NOC_ESLOT NOC_ESLOT.BYTES 0 k)))

/-- With nothing queued, SEAL makes an OPEN slot COMPLETE with CEV and keeps its value; CLEAR leaves value, flags and
COUNT 0 and the slot OPEN; ROUND with a valid RM holds the rounded value and clears RES until it is announced; DUMP at
a valid address takes the image of the value; RENEW with a nonzero ARG sets EXPF to the frame plus ARG; RELEASE makes
the slot CLOSING; in every other state the command only sets CERR. (R158, R165, R168, R169, R170, R171) -/
def Obligations.PoolCommands : Prop :=
  (∀ (slot : SlotNo) (i : Init) (s : State), s.hears slot i →
    (s.slotState slot = 1 → s.fb .PRL_SLOT_CTL PRL_SLOT_CTL.ADUMP 0 slot = false → s.slotFd slot PRL_SLOT_STAT.OKIND ≠ 3 →
      Answers (.slotSeal slot i) s (fun t => t.slotState slot = 2 ∧ t.slotFd slot PRL_SLOT_STAT.CEV = 1 ∧ t.slot slot = s.slot slot)) ∧
    (s.slotState slot ≠ 1 → Answers (.slotSeal slot i) s (fun t => t.slotState slot = s.slotState slot ∧
      t.slotFd slot PRL_SLOT_STAT.CERR = 1))) ∧
  (∀ (slot : SlotNo) (i : Init) (s : State), s.hears slot i → s.slotState slot = 1 ∨ s.slotState slot = 2 →
    Answers (.slotClear slot i) s (fun t => t.slotState slot = 1 ∧ (t.slot slot).value = 0 ∧ t.slotFlags slot = 0 ∧
      t.fd .PRL_SLOT_CNT PRL_SLOT_CNT.COUNT 0 slot = 0) ∧
    (∀ (rm : BitVec 3) (tgt : BitVec 2), rm.toNat ≤ 4 →
      Answers (.slotRound slot i rm tgt) s (fun t => t.rg .PRL_SLOT_RESX 0 slot = 0 ∧ (t.slot slot).value = (s.slot slot).value ∧
        (t.slot slot).round = (let r := accRound (tgtFmt tgt.toNat) rm.toNat (s.slot slot).value (s.slotFlags slot).toNat
          some (BitVec.ofNat 64 r.1, r.1 / 2 ^ 64, r.2)))) ∧
    ((s.slot slot).dump = none → s.dumpOk (s.dumpAddr slot) = true →
      Answers (.slotDump slot i) s (fun t => (t.slot slot).dump = some ⟨(s.slot slot).value, s.dumpAddr slot⟩)) ∧
    (s.dumpOk (s.dumpAddr slot) = false → (s.slot slot).dump = none →
      Answers (.slotDump slot i) s (fun t => t.slotFd slot PRL_SLOT_STAT.CERR = 1 ∧ (t.slot slot).dump = none)) ∧
    (∀ lease : BitVec 16, lease ≠ 0 → Answers (.slotRenew slot i lease) s (fun t =>
      t.fd .PRL_SLOT_LEASE PRL_SLOT_LEASE.EXPF 0 slot = (s.frameNo + lease.toNat) % 2 ^ 48 ∧ t.slotState slot = s.slotState slot)) ∧
    Answers (.slotRelease slot i) s (fun t => t.slotState slot = 3 ∧ (t.slot slot).released = true)) ∧
  (∀ (slot : SlotNo) (i : Init) (s : State), s.hears slot i → s.slotState slot = 0 ∨ s.slotState slot = 3 →
    Answers (.slotClear slot i) s (fun t => t.slotState slot = s.slotState slot ∧ t.slotFd slot PRL_SLOT_STAT.CERR = 1) ∧
    Answers (.slotRelease slot i) s (fun t => t.slotState slot = s.slotState slot ∧ t.slotFd slot PRL_SLOT_STAT.CERR = 1)) ∧
  (∀ (slot : SlotNo) (i : Init) (s : State), s.alive = true → s.settled → s.slotFd slot PRL_SLOT_STAT.SEC = 1 → i.sec = false →
    Answers (.slotSeal slot i) s (fun t => t.slots = s.slots ∧ t.slotState slot = s.slotState slot ∧
      t.fb .WLD_VIOL WLD_VIOL.VALID = true))

/-- A record in the slot's epoch and world, for an OPEN slot of the enabled pool with room, from no other slice and with
EXPECT 0, is accepted: COUNT rises by 1 and the record is queued; a record of the wrong epoch or with a format error
only counts as refused; RECORD_ADDED adds the record's value modulo 2^4608 and ORs its flags; a port write of the
first 8 bytes by a DMA channel starts an assembly; a write by another node changes nothing; a ROUND result appears
with RVALID. (R148, R152, R153, R154, R156, R169) -/
def Obligations.PoolRecords : Prop :=
  (∀ (slot : SlotNo) (r : Record) (i : Init) (port : Bool) (s : State), s.alive = true → s.settled →
    recordCount (s.slot slot).queue < 8 → r.mbz = true → r.slot = slot →
    (r.lo ≤ r.hi → s.fb .PRL_CTL PRL_CTL.EN = true → s.slotState slot = 1 → r.epoch = s.slotFd slot PRL_SLOT_STAT.EPOCH →
      s.slotFd slot PRL_SLOT_STAT.SEC = b2n i.sec → s.slotForeign slot i = false → s.fd .PRL_SLOT_CNT PRL_SLOT_CNT.EXPECT 0 slot = 0 →
      Answers (.contributionRecord slot r i port) s (fun t => (t.slot slot).queue = (s.slot slot).queue ++ [.record r] ∧
        (t.slot slot).value = (s.slot slot).value ∧
        t.fd .PRL_SLOT_CNT PRL_SLOT_CNT.COUNT 0 slot = satInc 16 (s.fd .PRL_SLOT_CNT PRL_SLOT_CNT.COUNT 0 slot))) ∧
    (r.hi < r.lo ∨ (s.fb .PRL_CTL PRL_CTL.EN = true ∧ s.slotState slot = 1 ∧ r.epoch ≠ s.slotFd slot PRL_SLOT_STAT.EPOCH) →
      Answers (.contributionRecord slot r i port) s (fun t => t.slots = s.slots ∧
        t.fd .PRL_SLOT_CNT PRL_SLOT_CNT.REFUSED 0 slot =
          satInc PRL_SLOT_CNT.REFUSED.len (s.fd .PRL_SLOT_CNT PRL_SLOT_CNT.REFUSED 0 slot)))) ∧
  (∀ (slot : SlotNo) (r : Record) (s : State), s.dead = false → s.settled → (s.slot slot).queue = [.record r] → r.zero = false →
    s.fd .PRL_SLOT_CNT PRL_SLOT_CNT.EXPECT 0 slot = 0 →
    Answers (.recordAdded slot) s (fun t => (t.slot slot).queue = [] ∧ t.slotState slot = s.slotState slot ∧
      (let a := accAdd (s.slot slot).value (fromSpan r.lo r.hi r.neg r.words).toInt
       (t.slot slot).value = a.1 ∧ (a.2 = false → t.slotFlags slot = s.slotFlags slot ||| r.flags)))) ∧
  (∀ (i : Init) (slot : SlotNo) (ch : Nat) (data : Word) (s : State), s.alive = true → s.settled →
    nodeDma i.node = some ch → (s.slot slot).port = none → data.toNat / 2 ^ 16 % 64 ≤ data.toNat / 2 ^ 24 % 64 →
    Answers (.portWrite i slot 0 64 data) s (fun t => (t.slot slot).port = some ⟨ch, data, 8, 0⟩ ∧
      (t.slot slot).value = (s.slot slot).value)) ∧
  (∀ (i : Init) (slot : SlotNo) (off width : Nat) (data : Word) (s : State), s.alive = true → s.settled →
    nodeDma i.node = none → exec (.portWrite i slot off width data) s = .next s) ∧
  (∀ (slot : SlotNo) (s : State) (r : Word × Nat × Nat), s.dead = false → (s.slot slot).round = some r →
    Answers (.roundResult slot) s (fun t => t.rg .PRL_SLOT_RES 0 slot = r.1 ∧
      t.fd .PRL_SLOT_RESX PRL_SLOT_RESX.RVALID 0 slot = 1 ∧ (t.slot slot).round = none ∧
      (t.slot slot).value = (s.slot slot).value))

/-- At the work of an edge every OPEN or COMPLETE slot whose EXPF has just ended becomes CLOSING with LEV, and no other; a
CLOSING slot without a dump becomes FREE with value 0 and its epoch kept; the end of a dump, whose lines the homes
take and the system cache then has, sets DEV, and DERR when a line failed; an abandoned dump sets LOVR and leaves the
slot FREE; a waiter below its quota gets a slot that was FREE at the edge, with the next epoch. (R162, R163, R164, R165, R166, R167, R171) -/
def Obligations.PoolLeases : Prop :=
  (∀ s : State, s.dead = false → s.poolEdge.expire = true → s.poolEdge.late = [] →
    (∀ k, k < 32 → s.slotFd k PRL_SLOT_STAT.OKIND ≠ 3) →
    Answers .leaseExpiry s (fun t => ∀ k, k < 32 →
      (((s.slotState k = 1 ∨ s.slotState k = 2) ∧
          (s.fd .PRL_SLOT_LEASE PRL_SLOT_LEASE.EXPF 0 k + 1) % 2 ^ 48 = s.frameNo) →
        t.slotState k = 3 ∧ t.slotFd k PRL_SLOT_STAT.LEV = 1 ∧ t.slot k = s.slot k) ∧
      (¬ ((s.slotState k = 1 ∨ s.slotState k = 2) ∧
          (s.fd .PRL_SLOT_LEASE PRL_SLOT_LEASE.EXPF 0 k + 1) % 2 ^ 48 = s.frameNo) →
        t.rg .PRL_SLOT_STAT 0 k = s.rg .PRL_SLOT_STAT 0 k))) ∧
  (∀ (slot : SlotNo) (s : State), s.dead = false → s.settled → s.slotState slot = 3 → (s.slot slot).dump = none → (s.slot slot).queue = [] →
    Answers (.slotWiped slot) s (fun t => t.slotState slot = 0 ∧ (t.slot slot).value = 0 ∧ (t.slot slot).port = none ∧
      t.slotFd slot PRL_SLOT_STAT.EPOCH = s.slotFd slot PRL_SLOT_STAT.EPOCH ∧
      (t.slot slot).ended = if (s.slot slot).released then 2 else 1)) ∧
  (∀ (slot : SlotNo) (d : DumpRun) (s : State), s.dead = false → s.settled → (s.slot slot).dump = some d → (s.slot slot).queue = [] →
    d.addr % 128 = 0 → d.addr + 640 ≤ s.installed → d.addr + 640 ≤ 0x400000000000 → s.msc = KMap.empty →
    (∀ k, k < 5 → homeFree s (d.addr / 128 + k) ∧ (s.home (homeOf (d.addr / 128 + k))).dir.get? (d.addr / 128 + k) = none) →
    Answers (.dumpDone slot) s (fun t => t.slotFd slot PRL_SLOT_STAT.DEV = 1 ∧ (t.slot slot).dump = none ∧
      t.slotFd slot PRL_SLOT_STAT.DERR = s.slotFd slot PRL_SLOT_STAT.DERR ∧
      ∀ k, k < 4 → s.fb .MSC_CTL MSC_CTL.EN (homeOf (d.addr / 128 + k)) = true →
        (t.msc.get? (d.addr / 128 + k)).map (fun v => v.data) = some (BitVec.setWidth 1024 (d.image >>> (1024 * k))))) ∧
  (∀ (slot : SlotNo) (d : DumpRun) (ok : Bool) (s u : State), s.dead = false → s.settled → (s.slot slot).dump = some d →
    s.dumpLines d (s.slotFd slot PRL_SLOT_STAT.SEC == 1) = (ok, false, u) → (u.slot slot).queue = [] →
    Answers (.dumpDone slot) s (fun t => t.slotFd slot PRL_SLOT_STAT.DEV = 1 ∧ (t.slot slot).dump = none ∧ t.mem = u.mem ∧
      t.slotFd slot PRL_SLOT_STAT.DERR = if ok then u.slotFd slot PRL_SLOT_STAT.DERR else 1)) ∧
  (∀ (slot : SlotNo) (d : DumpRun) (s : State), s.dead = false → s.poolEdge.late = [slot.val] → (s.slot slot).dump = some d →
    (let u := State.dumpSome { s with poolEdge := { s.poolEdge with late := [] } } d (s.slotFd slot PRL_SLOT_STAT.SEC == 1)
     u.slotState slot = 3 ∧ (u.slot slot).queue = []) →
    Answers (.dumpAbandon slot) s (fun t => t.fb .PRL_STATUS PRL_STATUS.LOVR = true ∧ t.slotState slot = 0 ∧
      (t.slot slot).dump = none ∧ t.slotFd slot PRL_SLOT_STAT.DERR = 1)) ∧
  (∀ (slot : SlotNo) (d : DumpRun) (s : State), s.dead = false → s.poolEdge.late = [slot.val] → (s.slot slot).dump = some d →
    s.slotState slot = 3 → (s.slot slot).queue = [] →
    Answers (.dumpAbandon slot) s (fun t => t.fb .PRL_STATUS PRL_STATUS.LOVR = true ∧ t.slotState slot = 0 ∧
      (t.slot slot).dump = none ∧ t.slotFd slot PRL_SLOT_STAT.DERR = 1 ∧ t.poolEdge.late = [])) ∧
  (∀ (s : State) (q : Waiter) (n : Nat), s.dead = false → s.poolEdge.expire = false → s.poolEdge.grant = true →
    s.poolEdge.free = [n] → s.waitq = [q] → q.dest = 0 → q.tag < 16 → s.slotState n = 0 → n < 32 →
    s.prlHolding q.okind q.oid < s.prlQuota q.okind q.oid →
    Answers .waiterGrant s (fun t => t.waitq = [] ∧ t.slotState n = 1 ∧
      t.slotFd n PRL_SLOT_STAT.EPOCH = wrapInc 8 (s.slotFd n PRL_SLOT_STAT.EPOCH) ∧
      t.fd .PRL_SLOT_LEASE PRL_SLOT_LEASE.EXPF 0 n = (s.frameNo + q.lease) % 2 ^ 48 ∧
      t.fd .PRL_GREST PRL_GREST.STATUS 0 q.tag = 2 ∧ t.fd .PRL_GREST PRL_GREST.SLOT 0 q.tag = n))

/-- A request of a partition below its quota, with a lease, gets the lowest FREE slot: OPEN, the next epoch, EXPF the
frame plus the lease, COUNT 0, outcome GRANTED; with no free slot and WAIT it is queued as WAITING, without WAIT it
gets NOSLOT; with the pool disabled it gets DISABLED; a tag already WAITING only sets GERR; CANCEL makes a WAITING tag
NOSLOT and withdraws it; ACK clears any other status. (R160, R161, R162, R163, R164, R165) -/
def Obligations.PoolGrants : Prop :=
  (∀ (i : Init) (data : Word) (s : State), s.alive = true → s.settled →
    s.fd .PRL_GREST PRL_GREST.STATUS 0 (getF data PRL_GRANT.TAG) ≠ 1 →
    (s.fb .PRL_CTL PRL_CTL.EN = false → Answers (.prlGrant i data) s (fun t =>
      t.fd .PRL_GREST PRL_GREST.STATUS 0 (getF data PRL_GRANT.TAG) = 6 ∧ t.slots = s.slots ∧ t.waitq = s.waitq)) ∧
    (s.fb .PRL_CTL PRL_CTL.EN = true → getF data PRL_GRANT.LEASE = 0 → Answers (.prlGrant i data) s (fun t =>
      t.fd .PRL_GREST PRL_GREST.STATUS 0 (getF data PRL_GRANT.TAG) = 5 ∧ t.slots = s.slots ∧ t.waitq = s.waitq)) ∧
    (s.fb .PRL_CTL PRL_CTL.EN = true → getF data PRL_GRANT.LEASE ≠ 0 → getF data PRL_GRANT.OKIND = 1 →
      getF data PRL_GRANT.OID < 64 → s.prlHolding 1 (getF data PRL_GRANT.OID) < s.prlQuota 1 (getF data PRL_GRANT.OID) →
      (∀ n, n < 32 → s.slotState n = 0 → (∀ k, k < n → s.slotState k ≠ 0) → s.waitq = [] →
        Answers (.prlGrant i data) s (fun t => t.slotState n = 1 ∧
          t.slotFd n PRL_SLOT_STAT.EPOCH = wrapInc 8 (s.slotFd n PRL_SLOT_STAT.EPOCH) ∧
          t.slotFd n PRL_SLOT_STAT.OKIND = 1 ∧ t.slotFd n PRL_SLOT_STAT.OID = getF data PRL_GRANT.OID ∧
          t.slotFd n PRL_SLOT_STAT.SEC = b2n i.sec ∧ t.fd .PRL_SLOT_CNT PRL_SLOT_CNT.COUNT 0 n = 0 ∧
          t.fd .PRL_SLOT_LEASE PRL_SLOT_LEASE.EXPF 0 n = (s.frameNo + getF data PRL_GRANT.LEASE) % 2 ^ 48 ∧
          t.fd .PRL_GREST PRL_GREST.STATUS 0 (getF data PRL_GRANT.TAG) = 2 ∧
          t.fd .PRL_GREST PRL_GREST.SLOT 0 (getF data PRL_GRANT.TAG) = n)) ∧
      ((∀ k, k < 32 → s.slotState k ≠ 0) → s.waitq = [] → Answers (.prlGrant i data) s (fun t => t.slots = s.slots ∧
        t.fd .PRL_GREST PRL_GREST.STATUS 0 (getF data PRL_GRANT.TAG) = (if getF data PRL_GRANT.WAIT = 1 then 1 else 3) ∧
        t.waitq.length = getF data PRL_GRANT.WAIT)))) ∧
  (∀ (i : Init) (data : Word) (s : State), s.alive = true → s.settled →
    s.fd .PRL_GREST PRL_GREST.STATUS 0 (getF data PRL_GRANT.TAG) = 1 →
    Answers (.prlGrant i data) s (fun t => t.fb .PRL_STATUS PRL_STATUS.GERR = true ∧ t.waitq = s.waitq)) ∧
  (∀ (tag : Fin 16) (s : State), s.alive = true → s.settled → s.fd .PRL_GREST PRL_GREST.STATUS 0 tag = 1 →
    Answers (.grantCancel tag) s (fun t => t.fd .PRL_GREST PRL_GREST.STATUS 0 tag = 3 ∧
      ∀ q, q ∈ t.waitq ↔ q ∈ s.waitq ∧ ¬ (q.dest = 0 ∧ q.tag = tag.val))) ∧
  (∀ (tag : Fin 16) (s : State), s.alive = true → s.settled →
    (s.fd .PRL_GREST PRL_GREST.STATUS 0 tag ≠ 1 → Answers (.grantAck tag) s (fun t => t.fd .PRL_GREST PRL_GREST.STATUS 0 tag = 0)) ∧
    (s.fd .PRL_GREST PRL_GREST.STATUS 0 tag = 1 → exec (.grantAck tag) s = .next s))

/-- A slice command while another is under way only sets CERR; otherwise the first failing check gives STATUS with BUSY
clear; a CREATE that passes marks the slice CREATING with the lowest free cores, clean granules, channels and contexts
and sets BUSY; a DESTROY of a LIVE slice that passes marks it DESTROYING; when the slice under CREATE is quiet and the
homes of its tables are free its command ends: the slice is LIVE with RUN clear, its cores carry its tag and DONE
sets; likewise a DESTROY, after which the slice is FREE and its granules are dirty. (R367, R368, R369, R370, R371, R372) -/
def Obligations.SliceCommands : Prop :=
  (∀ (i : Init) (n : BitVec 8) (s : State), s.alive = true →
    (s.fb .VSF_CMDSTAT VSF_CMDSTAT.BUSY = true →
      Answers (.vsfCreate i n) s (fun t => t.fd .VSF_CMDSTAT VSF_CMDSTAT.CERR = 1 ∧ t.vsf = s.vsf) ∧
      Answers (.vsfDestroy i n) s (fun t => t.fd .VSF_CMDSTAT VSF_CMDSTAT.CERR = 1 ∧ t.vsf = s.vsf)) ∧
    (s.fb .VSF_CMDSTAT VSF_CMDSTAT.BUSY = false →
      (s.sliceCheck 1 n.toNat ≠ 0 → Answers (.vsfCreate i n) s (fun t => t.vsf = s.vsf ∧
        t.fd .VSF_CMDSTAT VSF_CMDSTAT.BUSY = 0 ∧ t.fd .VSF_CMDSTAT VSF_CMDSTAT.STATUS = s.sliceCheck 1 n.toNat)) ∧
      (s.sliceCheck 2 n.toNat ≠ 0 → Answers (.vsfDestroy i n) s (fun t => t.vsf = s.vsf ∧
        t.fd .VSF_CMDSTAT VSF_CMDSTAT.BUSY = 0 ∧ t.fd .VSF_CMDSTAT VSF_CMDSTAT.STATUS = s.sliceCheck 2 n.toNat)) ∧
      (s.sliceCheck 2 n.toNat = 0 → (s.slice n.toNat).st = 3 →
        Answers (.vsfDestroy i n) s (fun t => t.vsf.cmd = some (2, n.toNat) ∧ t.fd .VSF_CMDSTAT VSF_CMDSTAT.BUSY = 1)))) ∧
  (∀ (i : Init) (n : BitVec 8) (s u : State), s.alive = true → s.fb .VSF_CMDSTAT VSF_CMDSTAT.BUSY = false →
    s.sliceCheck 1 n.toNat = 0 → u = s.cmdStat true 0 n.toNat →
    Answers (.vsfCreate i n) s (fun t => t = u.createStart n.toNat) ∧
    ∃ (w : State) (v : Slice), u.createStart n.toNat = w.sliceResets v ∧ w.slice n.toNat = v ∧ v.st = 1 ∧
      v.cores = s.freeCores.take (getF (s.rg .VSF_ARG0) VSF_ARG0.CORES) ∧
      v.grans = s.cleanGrans.take (getF (s.rg .VSF_ARG0) VSF_ARG0.GRAN) ∧
      v.dmas = s.freeDmas.take (getF (s.rg .VSF_ARG0) VSF_ARG0.DMA) ∧ w.vsf.cmd = some (1, n.toNat) ∧
      w.fd .VSF_CMDSTAT VSF_CMDSTAT.BUSY = 1) ∧
  (∀ (s : State) (n : Nat), s.alive = true → s.vsf.cmd = some (1, n) → s.sliceQuiet (s.slice n) = true →
    homeFree s (s.ioCtxAddr (16 + n) / 128) → (∀ k, k < 96 → homeFree s (s.sliceTbl n / 128 + k)) → s.vsf.destroys = [] →
    Answers .sliceCommandDone s (fun t => t = (s.createEnd n).endCommand n ∧ t.slice n = { s.slice n with st := 2, run := false } ∧
      t.vsf.cmd = none ∧ t.fd .VSF_CMDSTAT VSF_CMDSTAT.DONE = 1 ∧ t.fd .VSF_CMDSTAT VSF_CMDSTAT.BUSY = 0 ∧
      ∀ c ∈ (s.slice n).cores, t.vsf.coreTag.get? c = some n) ∧
    (s.createEnd n).slice n = { s.slice n with st := 2, run := false }) ∧
  (∀ (s : State) (n : Nat), s.alive = true → s.vsf.cmd = some (2, n) → (s.slice n).st = 3 → s.sliceQuiet (s.slice n) = true →
    homeFree s (s.ioCtxAddr (16 + n) / 128) → s.vsf.destroys = [] →
    Answers .sliceCommandDone s (fun t => t.slice n = Slice.reset ∧ t.vsf.cmd = none ∧ t.fd .VSF_CMDSTAT VSF_CMDSTAT.DONE = 1 ∧
      ∀ g ∈ (s.slice n).grans, t.vsf.clean.contains g = false))

/-- A write of VSF_PGRAN from the Normal world is a world violation and changes nothing else; from the Secure world it
makes every granule whose eligibility rises dirty; an enabled manager begins to zero the lowest dirty granule; a
zeroed granule is clean; VSF_VRUN of a LIVE slice sets RUN, releases its HELD cores and ends the manager's votes;
VSF_PGRANT and VSF_HDB do nothing while the slice is not LIVE, VSF_HDB sets doorbell bits of a LIVE one, VSF_SDB sends
the vector of the virtual function or counts a spoof. (R368, R373, R375, R376) -/
def Obligations.SliceWindow : Prop :=
  (∀ (i : Init) (j : Fin 64) (data : Word) (s : State), s.alive = true →
    (i.sec = false → Answers (.vsfPgranWrite i j data) s (fun t => t.vsf = s.vsf ∧ t.fb .WLD_VIOL WLD_VIOL.VALID = true ∧
      t.rg .VSF_PGRAN 0 j = s.rg .VSF_PGRAN 0 j)) ∧
    (i.sec = true → Answers (.vsfPgranWrite i j data) s (fun t => t.rg .VSF_PGRAN 0 j = data ∧
      ∀ g, g ∈ t.vsf.clean ↔ g ∈ s.vsf.clean ∧
        ¬ (g / 64 = j.val ∧ bitAt data (g % 64) = true ∧ bitAt (s.rg .VSF_PGRAN 0 j) (g % 64) = false)))) ∧
  (∀ (s : State) (g : Nat), s.alive = true → s.vsf.zeroing = [] → s.fb .VSF_CTL VSF_CTL.EN = true → s.nextDirty = some g →
    Answers .granuleZero s (fun t => t = { s with vsf := { s.vsf with zeroing := [g] } })) ∧
  (∀ (s : State) (g : Fin 4096), s.alive = true → s.vsf.zeroing.contains g.val = true →
    (∀ k, k < 0x800000 → homeFree s (g.val * 0x800000 + k)) →
    Answers (.granuleClean g) s (fun t => t.vsf.zeroing = [] ∧ t.vsf.clean.contains g.val = true)) ∧
  (∀ (i : Init) (n : Fin 240) (s : State), s.alive = true →
    ((s.slice n).st = 2 → Answers (.vsfVrun i n) s (fun t => t.slice n = { s.slice n with run := true } ∧
      ∀ c, c ∈ (s.slice n).cores → t.vsf.votes.contains c = false ∧
        ((s.core c).run = .held → s.dieHolding c = false → (t.core c).run = .run))) ∧
    ((s.slice n).st ≠ 2 → exec (.vsfVrun i n) s = .next s)) ∧
  (∀ (i : Init) (n : Fin 240) (data : Word) (s : State), s.alive = true →
    ((s.slice n).st ≠ 2 ∨ 4 ≤ getF data VSF_PGRANT.TAG → exec (.vsfPgrant i n data) s = .next s) ∧
    ((s.slice n).st = 2 → getF data VSF_PGRANT.TAG < 4 → s.settled →
      s.fd .VSF_PGREST VSF_PGREST.STATUS 0 n (getF data VSF_PGRANT.TAG) ≠ 1 → s.fb .PRL_CTL PRL_CTL.EN = true →
      getF data VSF_PGRANT.LEASE ≠ 0 → s.prlQuota 2 n ≤ s.prlHolding 2 n →
      Answers (.vsfPgrant i n data) s (fun t => t.slots = s.slots ∧
        t.fd .VSF_PGREST VSF_PGREST.STATUS 0 n (getF data VSF_PGRANT.TAG) = 4)) ∧
    (∀ m, m < 32 → (s.slice n).st = 2 → getF data VSF_PGRANT.TAG < 4 → s.settled →
      s.fd .VSF_PGREST VSF_PGREST.STATUS 0 n (getF data VSF_PGRANT.TAG) ≠ 1 → s.fb .PRL_CTL PRL_CTL.EN = true →
      getF data VSF_PGRANT.LEASE ≠ 0 → s.prlHolding 2 n < s.prlQuota 2 n → s.waitq = [] →
      s.slotState m = 0 → (∀ k, k < m → s.slotState k ≠ 0) →
      Answers (.vsfPgrant i n data) s (fun t => t.slotState m = 1 ∧ t.slotFd m PRL_SLOT_STAT.OKIND = 2 ∧
        t.slotFd m PRL_SLOT_STAT.OID = n ∧ t.fd .VSF_PGREST VSF_PGREST.STATUS 0 n (getF data VSF_PGRANT.TAG) = 2 ∧
        t.fd .VSF_PGREST VSF_PGREST.SLOT 0 n (getF data VSF_PGRANT.TAG) = m))) ∧
  (∀ (i : Init) (n : Fin 240) (bits : Word) (s : State), s.alive = true →
    ((s.slice n).st = 2 → Answers (.vsfHdb i n bits) s (fun t => t.rg .VSF_HDBPEND 0 n = s.rg .VSF_HDBPEND 0 n ||| bits)) ∧
    ((s.slice n).st ≠ 2 → exec (.vsfHdb i n bits) s = .next s)) ∧
  (∀ (i : Init) (n : Fin 240) (v : BitVec 11) (s : State), s.alive = true → (s.slice n).st = 2 →
    (v.toNat < (s.slice n).vec → s.epMaster (16 + n) = true → s.hb.msixTab.getD ((16 + n) * 4096 + 2 * v.toNat + 1) 0 = 0 →
      Answers (.vsfSdb i n v) s (fun t => t.vsf.msix = s.vsf.msix ++ [(16 + n.val, v.toNat)])) ∧
    ((s.slice n).vec ≤ v.toNat → Answers (.vsfSdb i n v) s (fun t => t.vsf = s.vsf ∧
      t.fd .VSF_SPOOF VSF_SPOOF.REG 0 n = satInc VSF_SPOOF.REG.len (s.fd .VSF_SPOOF VSF_SPOOF.REG 0 n))))

/-- START of an IDLE channel enters RUN and reads the descriptor, in another state it only sets CERR; STOP takes RUN to
STOPPING and EMPTY to IDLE; DOORBELL is kept in RUN and STOPPING, takes EMPTY to RUN and else sets CERR; CLRHALT takes
HALTED to IDLE; a reset clears the channel but SEC and SLICE and closes its fence; its end leaves the channel IDLE,
the generation one higher, the fence open. (R325, R326, R328, R252) -/
def Obligations.DmaCommandsAndStates : Prop :=
  ∀ (ch : DmaNo) (s : State),
    (s.alive = true → s.dmaState ch = 0 → Answers (.dmaStart ch) s (fun t => t.dmaState ch = 1 ∧ (t.dma ch).fetching = true ∧
      (t.dma ch).desc = none ∧ (t.dma ch).budget = (s.dma ch).budget)) ∧
    (s.alive = true → s.dmaState ch ≠ 0 → Answers (.dmaStart ch) s (fun t => t.dmas = s.dmas ∧ t.dmaState ch = s.dmaState ch ∧
      t.fd .DMA_STATUS DMA_STATUS.CERR ch = 1)) ∧
    (s.alive = true → s.dmaState ch = 1 → Answers (.dmaStop ch) s (fun t => t.dmaState ch = 3 ∧ t.dma ch = s.dma ch)) ∧
    (s.alive = true → s.dmaState ch = 2 → Answers (.dmaStop ch) s (fun t => t.dmaState ch = 0)) ∧
    (s.alive = true → s.dmaState ch ≠ 1 → s.dmaState ch ≠ 2 → exec (.dmaStop ch) s = .next s) ∧
    (s.alive = true → s.dmaState ch = 1 ∨ s.dmaState ch = 3 → Answers (.dmaDoorbell ch) s (fun t =>
      t.dma ch = { s.dma ch with bell := true } ∧ t.regs = s.regs)) ∧
    (s.alive = true → s.dmaState ch = 2 → Answers (.dmaDoorbell ch) s (fun t => t.dmaState ch = 1 ∧ (t.dma ch).fetching = true)) ∧
    (s.alive = true → s.dmaState ch = 0 ∨ s.dmaState ch = 4 → Answers (.dmaDoorbell ch) s (fun t => t.dmas = s.dmas ∧
      t.fd .DMA_STATUS DMA_STATUS.CERR ch = 1)) ∧
    (s.alive = true → s.dmaState ch = 4 → Answers (.dmaClrhalt ch) s (fun t => t.dmaState ch = 0 ∧ (t.dma ch).bell = false)) ∧
    (s.alive = true → s.dmaState ch ≠ 5 → Answers (.dmaCreset ch) s (fun t => t.dmaState ch = 5 ∧ t.fence (dmaNode ch) = 2 ∧
      t.dma ch = Dma.reset ∧ t.fd .DMA_CFG DMA_CFG.SEC ch = s.fd .DMA_CFG DMA_CFG.SEC ch ∧
      t.fd .DMA_CFG DMA_CFG.SLICE ch = s.fd .DMA_CFG DMA_CFG.SLICE ch ∧ t.rg .DMA_NEXT ch = 0)) ∧
    (s.dead = false → s.dmaState ch = 5 → Answers (.dmaResetDone ch) s (fun t => t.dmaState ch = 0 ∧ t.fence (dmaNode ch) = 0 ∧
      t.genOf (dmaNode ch) = wrapInc 4 (s.genOf (dmaNode ch))))

/-- For a working physical channel, with the descriptor or the piece in installed DRAM that no die holds and whose home is
free, and wherever the access ends so: a valid well-formed descriptor that has been read becomes the current one with
PROG 0; one with V 0 takes RUN to EMPTY; an OK read of the next source piece appends its bytes; a failed one records
its status and ends the descriptor as BAD; an acknowledged destination piece moves PROG, and the last one ends the
descriptor as DONE; outside the overlap of source and destination the bytes written are those read; an acknowledged
write-back of DONE counts, follows NEXT and stops at LAST; a burst of up to 32 accesses is charged at once. (R317, R318, R319, R320, R321, R322, R325, R327, R330) -/
def Obligations.DmaDescriptors : Prop :=
  (∀ (ch : DmaNo) (ext : ExtReply) (s : State), s.dmaActive ch = true → (s.dma ch).fetching = true →
    s.fb .DMA_CFG DMA_CFG.XLAT ch = false → ¬ (s.fd .DMA_CFG DMA_CFG.SLICE ch ≠ 0xFF ∧ s.fb .DMA_CFG DMA_CFG.SEC ch = true) →
    s.dmaState ch = 1 →
    (let a := s.fold (s.dmaDesc ch)
     let m := s.memRead (a / 128)
     let l := listLine 0 (lineList m.data (a % 128) 32)
     let d : Desc := ⟨lineWord l 0, lineWord l 1, lineWord l 2, lineWord l 3⟩
     atHome s (a / 128) → touched m.poison (a % 128) 32 = false →
     (bitAt d.w3 0 = true → s.dmaMalformed ch d = false → d.epc = false → d.len ≠ 0 →
       Answers (.descriptorFetch ch ext) s (fun t => (t.dma ch).desc = some d ∧ (t.dma ch).fetching = false ∧ t.dmaProg ch = 0 ∧
         t.dmaState ch = 1)) ∧
     (bitAt d.w3 0 = true → s.dmaMalformed ch d = true → Answers (.descriptorFetch ch ext) s (fun t =>
       t.fd .DMA_ERR DMA_ERR.KIND ch = 3 ∧ (t.dma ch).writingBack = true ∧ (t.dma ch).dstat = 2)) ∧
     (bitAt d.w3 0 = false → (s.dma ch).bell = false → Answers (.descriptorFetch ch ext) s (fun t => t.dmaState ch = 2 ∧
       (t.dma ch).fetching = false)))) ∧
  (∀ (ch : DmaNo) (ext : ExtReply) (d : Desc) (s : State), s.dmaActive ch = true → (s.dma ch).desc = some d →
    s.fb .DMA_CFG DMA_CFG.XLAT ch = false → ¬ (s.fd .DMA_CFG DMA_CFG.SLICE ch ≠ 0xFF ∧ s.fb .DMA_CFG DMA_CFG.SEC ch = true) →
    (s.dma ch).writingBack = false → (s.dma ch).held = none →
    ((s.dma ch).issued < d.len → (s.dma ch).bytes.length + 128 < 4096 →
      let p := s.dmaPiece ch d d.src (s.dma ch).issued d.sfix needSrc
      let a := s.fold p.1
      let m := s.memRead (a / 128)
      atHome s (a / 128) → touched m.poison (a % 128) p.2 = false →
      Answers (.dmaReadComplete ch ext) s (fun t => (t.dma ch).bytes = (s.dma ch).bytes ++ lineList m.data (a % 128) p.2 ∧
        (t.dma ch).issued = (s.dma ch).issued + p.2)) ∧
    (s.rshare ch = 0 → d.epc = false →
      let p := s.dmaPiece ch d d.dst (s.dmaProg ch) d.dfix needDst
      let a := s.fold p.1
      0 < p.2 → p.2 ≤ (s.dma ch).bytes.length → s.dmaProg ch + p.2 ≤ d.len → a % 128 + p.2 ≤ 128 → atHome s (a / 128) →
      Answers (.dmaWriteAck ch ext) s (fun t => t.dmaProg ch = s.dmaProg ch + p.2 ∧
        (p.2 = 128 → s.fb .MSC_CTL MSC_CTL.EN (homeOf (a / 128)) = true →
          (t.msc.get? (a / 128)).map (fun v => v.data) = some (listLine 0 (s.dmaData d p.1 ((s.dma ch).bytes.take p.2)).1)) ∧
        (s.dmaProg ch + p.2 = d.len → (t.dma ch).writingBack = true ∧ (t.dma ch).dstat = 1) ∧
        (s.dmaProg ch + p.2 ≠ d.len → (t.dma ch).bytes = (s.dma ch).bytes.drop p.2)))) ∧
  (∀ (ch : DmaNo) (ext : ExtReply) (d : Desc) (s : State), s.dmaActive ch = true → (s.dma ch).desc = some d →
    s.fb .DMA_CFG DMA_CFG.XLAT ch = false → ¬ (s.fd .DMA_CFG DMA_CFG.SLICE ch ≠ 0xFF ∧ s.fb .DMA_CFG DMA_CFG.SEC ch = true) →
    (s.dma ch).writingBack = true → (s.dma ch).dstat = 1 → (s.dma ch).held = none → atHome s (s.fold (s.dmaDesc ch + 24) / 128) →
    Answers (.descriptorWritebackAck ch ext) s (fun t => (t.dma ch).desc = none ∧ (t.dma ch).writingBack = false ∧
      t.fd .DMA_CNT DMA_CNT.DONE ch = satInc DMA_CNT.DONE.len (s.fd .DMA_CNT DMA_CNT.DONE ch) ∧
      t.fd .DMA_NEXT DMA_NEXT.ADDR ch = d.next ∧ (d.irq = true → t.fd .DMA_STATUS DMA_STATUS.DONEEV ch = 1) ∧
      (d.last = true → t.dmaState ch = 0) ∧ (d.last = false → s.dmaState ch = 1 → (t.dma ch).fetching = true))) ∧
  (∀ (ch : DmaNo) (ext : ExtReply) (b : List Byte) (s u : State), s.dmaActive ch = true → (s.dma ch).fetching = true →
    s.fb .DMA_CFG DMA_CFG.XLAT ch = false → s.dmaRead ch (s.dmaFetchTag ch) (s.dmaDesc ch) 32 ext = (.ok b false, u) → u.dmaState ch = 1 →
    (let l := listLine 0 b
     let d : Desc := ⟨lineWord l 0, lineWord l 1, lineWord l 2, lineWord l 3⟩
     (bitAt d.w3 0 = true → u.dmaMalformed ch d = false → d.epc = false → d.len ≠ 0 →
       Answers (.descriptorFetch ch ext) s (fun t => (t.dma ch).desc = some d ∧ (t.dma ch).fetching = false ∧ t.dmaProg ch = 0 ∧
         t.dmaState ch = 1)) ∧
     (bitAt d.w3 0 = true → u.dmaMalformed ch d = true → Answers (.descriptorFetch ch ext) s (fun t =>
       t.fd .DMA_ERR DMA_ERR.KIND ch = 3 ∧ (t.dma ch).writingBack = true ∧ (t.dma ch).dstat = 2)) ∧
     (bitAt d.w3 0 = false → (u.dma ch).bell = false → Answers (.descriptorFetch ch ext) s (fun t => t.dmaState ch = 2 ∧
       (t.dma ch).fetching = false)))) ∧
  (∀ (ch : DmaNo) (ext : ExtReply) (d : Desc) (s u : State), s.dmaActive ch = true → (s.dma ch).desc = some d →
    (s.dma ch).writingBack = false → (s.dma ch).issued < d.len → (s.dma ch).bytes.length + 128 < 4096 →
    (let p := s.dmaPiece ch d d.src (s.dma ch).issued d.sfix needSrc
     (∀ b : List Byte, s.dmaRead ch (s.dmaReadTag ch) p.1 p.2 ext = (.ok b false, u) → Answers (.dmaReadComplete ch ext) s (fun t =>
       (t.dma ch).bytes = (s.dma ch).bytes ++ b ∧ (t.dma ch).issued = (s.dma ch).issued + b.length ∧ t.mem = u.mem)) ∧
     (∀ st, st ≠ .masterOff → s.dmaRead ch (s.dmaReadTag ch) p.1 p.2 ext = (.status st, u) → Answers (.dmaReadComplete ch ext) s (fun t =>
       t.fd .DMA_ERR DMA_ERR.KIND ch = 1 ∧ t.fd .DMA_ERR DMA_ERR.STATUS ch = Status.code st ∧
       t.fd .DMA_STATUS DMA_STATUS.ERREV ch = 1 ∧ (t.dma ch).writingBack = true ∧ (t.dma ch).dstat = 2)))) ∧
  (∀ (ch : DmaNo) (ext : ExtReply) (d : Desc) (b : List Byte) (bad : Bool) (s u : State), s.dmaActive ch = true →
    (s.dma ch).desc = some d → (s.dma ch).writingBack = false → s.rshare ch = 0 → d.epc = false → (s.dma ch).held = none →
    (let p := s.dmaPiece ch d d.dst (s.dmaProg ch) d.dfix needDst
     0 < p.2 → p.2 ≤ (s.dma ch).bytes.length → s.dmaProg ch + p.2 ≤ d.len →
     (s.dmaData d p.1 ((s.dma ch).bytes.take p.2)).2.dmaWrite ch (s.dmaWriteTag ch) false p.1 (s.dmaData d p.1 ((s.dma ch).bytes.take p.2)).1 ext =
         (.ok b bad, u) →
     Answers (.dmaWriteAck ch ext) s (fun t => t.dmaProg ch = s.dmaProg ch + p.2 ∧ t.mem = u.mem ∧
       (s.dmaProg ch + p.2 = d.len → (t.dma ch).writingBack = true ∧ (t.dma ch).dstat = 1) ∧
       (s.dmaProg ch + p.2 ≠ d.len → (t.dma ch).bytes = (s.dma ch).bytes.drop p.2)))) ∧
  (∀ (d : Desc) (a : Nat) (l : List Byte) (s : State), l.length ≤ 128 →
    (s.dmaData d a l).1.length = l.length ∧ (s.dmaData d a l).2.mem = s.mem ∧ (s.dmaData d a l).2.regs = s.regs ∧
    (∀ j, j < l.length → d.inSrc (a + j) = false → (s.dmaData d a l).1.getD j 0 = l.getD j 0)) ∧
  (∀ (ch : DmaNo) (ext : ExtReply) (d : Desc) (b : List Byte) (bad : Bool) (s u : State), s.dmaActive ch = true →
    (s.dma ch).desc = some d → (s.dma ch).writingBack = true → (s.dma ch).dstat = 1 → (s.dma ch).held = none →
    (s.setDma ch { s.dma ch with held := none }).dmaWrite ch (s.dmaBackTag ch) false (s.dmaDesc ch + 24) ((List.range 8).map (wordByte (backWord d.w3 1))) ext = (.ok b bad, u) →
    Answers (.descriptorWritebackAck ch ext) s (fun t => (t.dma ch).desc = none ∧ (t.dma ch).writingBack = false ∧
      t.fd .DMA_CNT DMA_CNT.DONE ch = satInc DMA_CNT.DONE.len (u.fd .DMA_CNT DMA_CNT.DONE ch) ∧
      t.fd .DMA_NEXT DMA_NEXT.ADDR ch = d.next ∧ (d.irq = true → t.fd .DMA_STATUS DMA_STATUS.DONEEV ch = 1) ∧
      (d.last = true → t.dmaState ch = 0) ∧ (d.last = false → u.dmaState ch = 1 → (t.dma ch).fetching = true))) ∧
  (∀ (ch : DmaNo) (d : Desc) (s : State), s.dmaActive ch = true → (s.dma ch).desc = some d → (s.dma ch).writingBack = false →
    (s.dma ch).burst = 0 → s.rshare ch ≠ 0 →
    (let n := min (min 32 (s.dmaLeft ch d)) (dmaBudget (s.rshare ch) (if ch.val < 192 then 1024 else 512) (s.fd .TCK_PERIOD TCK_PERIOD.NS))
     0 < n → n ≤ (s.dma ch).budget → Answers (.dmaBurstAdmit ch) s (fun t => (t.dma ch).burst = n ∧
       (t.dma ch).budget + n = (s.dma ch).budget ∧ t.regs = s.regs)))

/-- For a sender outside every slice that a reply reaches, while no halted core has an instruction to execute: an access
of a wrong width or alignment is answered DECERR, and one to a reserved offset OK, and neither changes a register; an
RW field of class L takes what is written; a secure write sets an SRW field and a Normal one is a violation that
leaves it; a W1C bit is cleared by a 1 only; a T field goes to its shadow and its live value stays; a Q field of a
busy block keeps its value and sets WERR; each is answered OK. A swarm write reaches every member whose fence is open,
an L field at once and a T field in its shadow, and a swarm read gives the OR of the members; near an edge a write of
a T field is held, and SWARM_HOLD_RELEASE delivers the oldest once the edge is further off, and answers its initiator. (R3, R4, R6, R7, R8, R10, R39, R53, R241) -/
def Obligations.RegisterAccesses : Prop :=
  (∀ (i : Init) (off width : Nat) (data : Word) (s : State), s.alive = true → i.slice = 0xFF → off < 0x100000000 →
    s.replyPasses i.node i.gen = true → noDebug s →
    (regAccessOk off width = false → Answers (.registerWrite i off width data) s (fun t => answered s t i .decerr ∧
      t.regs = s.regs ∧ t.shad = s.shad ∧ t.cores = s.cores)) ∧
    (regAccessOk off width = true → s.swarmAt off = none → s.offFence off = none → portAt off = none → proxyAt off = none →
      hitOf off width = none → Answers (.registerWrite i off width data) s (fun t => answered s t i .ok ∧ t.regs = s.regs ∧
        t.shad = s.shad ∧ t.cores = s.cores))) ∧
  (∀ (i : Init) (data : Word) (s : State), s.alive = true → i.slice = 0xFF → s.replyPasses i.node i.gen = true → noDebug s →
    (s.fence (hubNode 4) = 0 → Answers (.registerWrite i (RegKind.addr .PWR_WAKETIME) 64 data) s (fun t => answered s t i .ok ∧
      t.rg .PWR_WAKETIME = data ∧ t.cores = s.cores)) ∧
    (s.fence (hubNode 0) = 0 →
      (i.sec = true → Answers (.registerWrite i (RegKind.addr .VSF_PVEC) 32 data) s (fun t => answered s t i .ok ∧
        t.fd .VSF_PVEC VSF_PVEC.N = data.toNat % 2 ^ 15)) ∧
      (i.sec = false → Answers (.registerWrite i (RegKind.addr .VSF_PVEC) 32 data) s (fun t => answered s t i .ok ∧
        t.rg .VSF_PVEC = s.rg .VSF_PVEC ∧ t.fb .WLD_VIOL WLD_VIOL.VALID = true ∧ t.fd .WLD_VIOL WLD_VIOL.SRC = i.node % 2 ^ 12)) ∧
      (i.sec = true → s.vsfQuiet = false → Answers (.registerWrite i (RegKind.addr .VSF_TBLBASE) 64 data) s (fun t =>
        answered s t i .ok ∧ t.rg .VSF_TBLBASE = s.rg .VSF_TBLBASE ∧ t.fb .VSF_CMDSTAT VSF_CMDSTAT.WERR = true)))) ∧
  (∀ (i : Init) (data : Word) (s : State), s.alive = true → i.slice = 0xFF → s.fence (dmaNode 192) = 0 →
    s.replyPasses i.node i.gen = true → noDebug s →
    Answers (.registerWrite i (RegKind.addr .DMA_ERR 192) 64 data) s (fun t => answered s t i .ok ∧ t.rg .DMA_ERR 192 =
      s.rg .DMA_ERR 192 &&& ~~~(data &&& 0x8000000000000000)) ∧
    Answers (.registerWrite i (RegKind.addr .DMA_CFG 192) 32 (BitVec.setWidth 64 (BitVec.setWidth 11 data))) s (fun t =>
      answered s t i .ok ∧ t.fd .DMA_CFG DMA_CFG.RSHARE 192 = s.fd .DMA_CFG DMA_CFG.RSHARE 192 ∧
      t.shad.get? (RRef.key ⟨.DMA_CFG, 192, 0, 0⟩ DMA_CFG.RSHARE) = some ⟨DMA_CFG.RSHARE, data.toNat % 2 ^ 11⟩)) ∧
  (∀ (i : Init) (data : Word) (s : State), s.alive = true → i.slice = 0xFF → (∀ h, h < 16 → s.fence (memNode h) = 0) →
    s.replyPasses i.node i.gen = true → noDebug s →
    Answers (.swarmAccess i 0xBF0028 64 true data) s (fun t => answered s t i .ok ∧ t.held = s.held ∧
      ∀ h, h < 16 → t.rg .MEM_ECCCNT h = data) ∧
    Answers (.swarmAccess i 0xBF0028 64 false data) s (fun t => t.regs = s.regs ∧ t.shad = s.shad ∧
      ∃ q r : Msg, t.net.taken = s.net.taken ++ [q, r] ∧ r.dst = i.node ∧ r.tag = i.tag ∧ r.status = .ok ∧
        r.data = BitVec.setWidth 1024 ((List.range 16).foldl (fun w h => w ||| s.rg .MEM_ECCCNT h) 0)) ∧
    (s.nearEdge = false → Answers (.swarmAccess i 0xBF0018 64 true data) s (fun t => answered s t i .ok ∧ t.held = s.held ∧
      ∀ h, h < 16 → t.fd .MEM_SLIMIT MEM_SLIMIT.SLIMIT h = s.fd .MEM_SLIMIT MEM_SLIMIT.SLIMIT h ∧
        t.shad.get? (RRef.key ⟨.MEM_SLIMIT, h, 0, 0⟩ MEM_SLIMIT.SLIMIT) = some ⟨MEM_SLIMIT.SLIMIT, data.toNat % 2 ^ 32⟩)) ∧
    (s.nearEdge = true → Answers (.swarmAccess i 0xBF0018 64 true data) s (fun t => t.regs = s.regs ∧ t.shad = s.shad ∧
      t.held = s.held ++ [⟨(List.range 16).map (fun h => RegKind.addr .MEM_SLIMIT h), 6, 64, data, i,
        s.limitFor (0x800000000000 + 0xBF0018)⟩]))) ∧
  (∀ (i : Init) (off width f : Nat) (l : List (Nat × Nat)) (write : Bool) (data : Word) (s : State), s.alive = true →
    i.slice = 0xFF → s.swarmAt off = some (f, l) → regAccessOk off width = true → s.nearEdge = false →
    Answers (.swarmAccess i off width write data) s (fun t => ∃ (st : Status) (v : Word) (u : State),
      (s.regRequest i (regNode off) off write data).swarmDo i f l width write data = (st, v, u) ∧
      t = (u.regReply i (regNode off) off st v).debugAll)) ∧
  (∀ (i : Init) (off width f : Nat) (l : List (Nat × Nat)) (data : Word) (s : State), s.alive = true → i.slice = 0xFF → noDebug s →
    s.swarmAt off = some (f, l) → regAccessOk off width = true → s.nearEdge = true → (∃ e, e ∈ l ∧ carriesT e.2 width = true) →
    Answers (.swarmAccess i off width true data) s (fun t => t.regs = s.regs ∧
      t.held = s.held ++ [⟨l.map (fun e => e.2), f, width, data, i, s.limitFor (0x800000000000 + off)⟩])) ∧
  (∀ (q : HeldSwarm) (l : List HeldSwarm) (s : State), s.alive = true → s.nearEdge = false → s.held = q :: l →
    Answers .swarmHoldRelease s (fun t => t = (State.swarmDeliver { s with held := l } q).debugAll)) ∧
  (∀ (i : Init) (data : Word) (limit : Nat) (l : List HeldSwarm) (s : State), s.alive = true → s.nearEdge = false → limit ≠ 0 →
    s.held = ⟨(List.range 16).map (fun h => RegKind.addr .MEM_SLIMIT h), 6, 64, data, i, limit⟩ :: l → noDebug s →
    (∀ h, h < 16 → s.fence (memNode h) = 0) → s.replyPasses i.node i.gen = true → nodeCore i.node = none → nodeDma i.node = none →
    ¬ (0xF40 ≤ i.node ∧ i.node < 0xF48) →
    Answers .swarmHoldRelease s (fun t => t.held = l ∧
      (∀ h, h < 16 → t.fd .MEM_SLIMIT MEM_SLIMIT.SLIMIT h = s.fd .MEM_SLIMIT MEM_SLIMIT.SLIMIT h ∧
        t.shad.get? (RRef.key ⟨.MEM_SLIMIT, h, 0, 0⟩ MEM_SLIMIT.SLIMIT) = some ⟨MEM_SLIMIT.SLIMIT, data.toNat % 2 ^ 32⟩) ∧
      ∃ r : Msg, t.net.taken = s.net.taken ++ [r] ∧ r.cls = 5 ∧ r.op = 2 ∧ r.dst = i.node ∧ r.tag = i.tag ∧ r.status = .ok))

/-- A running core that a TLBI reaches drops exactly the entries that match and acknowledges; the hub drops its own and
acknowledges, and stands for a core that is held, in reset or off; the acknowledgement of the last target completes
the TLBI at its core; a time-out is recorded in the hub and its core waits no longer for that TLBI, while the targets
may still act on it: at a core that does not wait it is kept for the next TLBSYNC, at one that waits it raises BUSERR
with status TOUT; a completed PTP exchange is recorded, and the eighth good offset in a row at a slave sets COARSE. (R230, R231, R232, R413) -/
def Obligations.TlbInvalidation : Prop :=
  (∀ (id : Nat) (target : Fin 217) (r : TlbiRun) (s : State), s.dead = false → s.net.tlbis = [r] → r.id = id →
    r.left.contains target.val = true → s.net.msgs = [] →
    (target.val < 216 → s.tlbiHubAck target = false → Answers (.tlbiReceive id target) s (fun t =>
      t.core target = (s.core target).tlbRemove r ∧ t.hb.iotlb = s.hb.iotlb ∧
      ∃ m ∈ t.net.msgs, m.dst = coreNode r.core ∧ m.src = tlbiNode target ∧ m.cls = 5 ∧ m.op = 9 ∧ m.tag = id)) ∧
    (target.val < 216 → s.tlbiHubAck target = true → s.domState target ≠ 2 → Answers (.tlbiReceive id target) s (fun t =>
      t.cores = s.cores ∧ t.hb.iotlb = s.hb.iotlb ∧
      ∃ m ∈ t.net.msgs, m.dst = coreNode r.core ∧ m.src = tlbiNode target ∧ m.cls = 5 ∧ m.op = 9 ∧ m.tag = id)) ∧
    (target.val = 216 → Answers (.tlbiReceive id target) s (fun t => t.cores = s.cores ∧
      t.hb.iotlb = s.hb.iotlb.filter (fun e => !r.hits e) ∧
      ∃ m ∈ t.net.msgs, m.dst = coreNode r.core ∧ m.src = iotlbNode ∧ m.cls = 5 ∧ m.op = 9 ∧ m.tag = id))) ∧
  (∀ (id : Nat) (target : Fin 217) (r : TlbiRun) (m : Msg) (s : State), s.dead = false → s.net.tlbis = [r] → r.id = id →
    r.left = [target.val] → s.net.msgs = [m] → m.cls = 5 → m.op = 9 → m.tag = id → m.src = tlbiNode target →
    Answers (.tlbiAck id target) s (fun t => t.net.tlbis = [] ∧ t.net.msgs = [] ∧ (t.core r.core).tlbiOut.contains id = false)) ∧
  (∀ (core : CoreNo) (r : TlbiRun) (s : State), s.alive = true → s.net.tlbis = [r] → r.core = core.val → r.left ≠ [] →
    (s.core core).tlbiOut.contains r.id = true →
    ((s.core core).wait ≠ .tlbsync → Answers (.tlbsyncTimeout core) s (fun t => t.net.tlbis = [r] ∧ (t.core core).tlbTout = true ∧
      (t.core core).tlbiOut.contains r.id = false ∧ (t.core core).pc = (s.core core).pc ∧
      t.fb .ERB_REC ERB_REC.VALID 12 0x30 = true)) ∧
    ((s.core core).wait = .tlbsync → Answers (.tlbsyncTimeout core) s (fun t => ∃ u : State, (u.core core).wait = .none ∧
      (u.core core).tlbiOut = (s.core core).tlbiOut.filter (fun x => x != r.id) ∧ u.net.tlbis = [r] ∧
      u.fb .ERB_REC ERB_REC.VALID 12 0x30 = true ∧
      t = u.raiseExc core ⟨xBUSERR, 4, 0, false, false, none⟩ ((s.core core).pc + 4)))) ∧
  (∀ (q : Fin 16) (t1 t2 t3 t4 : Nat) (s : State), s.alive = true → s.portUp q = true →
    (s.fb .FAB_ATLAS_CTL FAB_ATLAS_CTL.EN = false → Answers (.ptpMessage q t1 t2 t3 t4) s (fun t =>
      t.fab.ptp = s.fab.ptp ++ [(q.val, t2)] ∧ t.regs = s.regs)) ∧
    (s.fb .FAB_ATLAS_CTL FAB_ATLAS_CTL.EN = true → s.fb .FAB_ATLAS_CTL FAB_ATLAS_CTL.ROOT = false →
      s.fd .FAB_ATLAS_CTL FAB_ATLAS_CTL.PPORT = q.val → s.fab.coarseGood = 7 → t1 = t2 → t3 = t4 →
      s.fb .FAB_ATLAS_STAT FAB_ATLAS_STAT.LOCK = true →
      Answers (.ptpMessage q t1 t2 t3 t4) s (fun t => t.fd .FAB_ATLAS_STAT FAB_ATLAS_STAT.COARSE = 1 ∧ t.fab.coarseGood = 8)))

/-- An outbound access goes out on the port that claims it, one of the endpoint upstream while its function is a master; a
posted one is done or queued, any other waits for its completion, and it is DECERR where no port claims it; an
expected completion answers and a failed one also records KIND 3, an unexpected one is counted in UCDROP; a
configuration access of a slice is spoofed, one to no function or with UR reads ones, one of a device reads its value,
one behind a link that is down is DECERR, one without an answer is TOUT with KIND 2; a slice's window reaches the
registers of a slot it owns, and of no other; a time-out quarantines the tag, counts and answers TOUT; an inbound
request to a port without Bus Master Enable is refused (a posted one in AER with KIND 6, another with a UR completion
and KIND 4), one in the interrupt window becomes an interrupt, a write goes to its channel, a read completes with the
data; an upstream one that hits no BAR is refused; a translation request is answered with the translated page, or with
no permission where the context is invalid. (R345, R353, R336, R337, R339, R377, R249, R347, R348, R357, R342, R235) -/
def Obligations.HostRequests : Prop :=
  (∀ (i : Init) (r : OutReq) (s : State), mayIssue s i r → quietLinks s →
    (s.boot.attached = false →
      (∀ k j : Nat, s.claimPort (r.addr % 2 ^ 46) = some (k, j) → s.hbLink k j = true →
        (r.posted = false → Answers (.outboundAccess i r) s (fun t => t.mem = s.mem ∧ t.net = s.net ∧
          ∃ q : HbReq, goesOut s i r k j (r.addr % 2 ^ 46) 0 q ∧ t.hb.sent = s.hb.sent ++ [q] ∧ t.hb.out = s.hb.out ++ [q])) ∧
        (r.posted = true → Answers (.outboundAccess i r) s (fun t => t.mem = s.mem ∧
          ∃ q : HbReq, goesOut s i r k j (r.addr % 2 ^ 46) 0 q ∧
            ((t.hb.sent = s.hb.sent ++ [q] ∧ t.hb.out = s.hb.out) ∨
             (t.hb.sent = s.hb.sent ∧ t.hb.out = s.hb.out ++ [{ q with phase := 1 }]))))) ∧
      (s.claimPort (r.addr % 2 ^ 46) = none →
        exec (.outboundAccess i r) s = .next (s.drawBit.2.replyTo i.node i.gen r.tag .decerr 0 0 0))) ∧
    (s.boot.attached = true → 0x600000000000 ≤ r.addr → i.slice = 0xFF → s.hbLink 0 0 = true →
      (let bus := (r.addr - 0x600000000000 + (s.rg .HBU_UPOFF 0).toNat) % 2 ^ 64
       s.ownBar bus = false →
       (s.epMaster 0 = true → (s.epf 0).atsEn = false → r.posted = false → Answers (.outboundAccess i r) s (fun t =>
         ∃ q : HbReq, goesOut s i r 0 0 bus 0 q ∧ t.hb.sent = s.hb.sent ++ [q] ∧ t.hb.out = s.hb.out ++ [q])) ∧
       (s.epMaster 0 = false → Answers (.outboundAccess i r) s (fun t => ∃ u : State, u.fd .HBU_ERR HBU_ERR.KIND 0 = 6 ∧
         u.hb.sent = s.hb.sent ∧ t = u.replyTo i.node i.gen r.tag (masterOffFor i.node) 0 0 0))))) ∧
  (∀ (ctl : Fin 8) (tag : Nat) (ep : Bool) (data : LineData) (s : State), s.dead = false → s.gateClosed (244 + ctl.val) = false →
    (∀ good : Bool, s.hb.out = [] → Answers (.completionReceive ctl tag good ep data) s (fun t => t.hb = s.hb ∧
      t.fd .HBU_CNT HBU_CNT.UCDROP ctl = satInc HBU_CNT.UCDROP.len (s.fd .HBU_CNT HBU_CNT.UCDROP ctl))) ∧
    (∀ q : HbReq, s.hb.out = [q] → q.ctl = ctl.val → q.htag = tag → q.phase = 0 → q.node < 0xF40 →
      Answers (.completionReceive ctl tag true ep data) s (fun t => ∃ u : State, u.hb.out = [] ∧ u.regs = s.regs ∧ u.mem = s.mem ∧
        t = u.replyTo q.node q.gen q.tag .ok data (if ep then BitVec.allOnes 16 else 0) (BitVec.setWidth 64 data)) ∧
      (cfgPa q.addr = false → Answers (.completionReceive ctl tag false ep data) s (fun t => ∃ u : State, u.hb.out = [] ∧
        u.fd .HBU_ERR HBU_ERR.KIND ctl = 3 ∧ u.fd .HBU_STATUS HBU_STATUS.ERREV ctl = 1 ∧
        t = u.replyTo q.node q.gen q.tag .decerr 0 0 0)) ∧
      (cfgPa q.addr = true → Answers (.completionReceive ctl tag false ep data) s (fun t => ∃ u : State, u.hb.out = [] ∧
        u.regs = s.regs ∧ t = u.replyTo q.node q.gen q.tag .ok (BitVec.allOnes 1024) 0 0)))) ∧
  (∀ (node tag : Nat) (s : State), s.dead = false → (s.outTags node).contains tag = true → s.fab.txns = [] →
    (s.hb.out = [] → node % 256 ≠ 0x20 → node < 0xF00 → nodeDma node = none →
      Answers (.transactionTimeout node tag) s (fun t => ∃ u : State,
        u.net.quar = s.net.quar ++ [⟨node, tag, s.limitOf node tag⟩] ∧ u.hb = s.hb ∧
        u.fd .NOC_AGENT NOC_AGENT.TOUTCNT 0 (node / 256) (node % 256) =
          satInc NOC_AGENT.TOUTCNT.len (s.fd .NOC_AGENT NOC_AGENT.TOUTCNT 0 (node / 256) (node % 256)) ∧
        t = u.replyTo node (s.genOf node) tag .tout 0 0 0) ∧
      (∀ n : Nat, nodeCore node = some n → s.fence node = 0 → (s.core n).wait = .reply tag →
        Answers (.transactionTimeout node tag) s (fun t => (t.core n).reply = some ⟨tag, .tout, 0, 0, 0⟩ ∧
          t.quarantined node tag = true))) ∧
    (∀ q : HbReq, s.hb.out = [q] → q.node = node → q.tag = tag → q.ctl < 8 → q.phase < 2 →
      Answers (.transactionTimeout node tag) s (fun t => ∃ u : State,
        u.net.quar = s.net.quar ++ [⟨node, tag, s.limitOf node tag⟩] ∧ u.fd .HBU_ERR HBU_ERR.KIND q.ctl = 2 ∧ t = u.hbEnd q .tout))) ∧
  (∀ (i : Init) (off width : Nat) (write : Bool) (data : Word) (ans : CfgAnswer) (s : State), s.alive = true →
    0x80000000 ≤ off → off < 0x100000000 →
    (i.node ≠ hbNode 0 →
      (let u := cfgGoes s i off write data
       let ud := cfgGoes s i off false data
       let n := hbNode (cfgCtl off)
       (regAccessOk off width = false → exec (.configAccess i off width write data ans) s = .next (u.regReply i n off .decerr 0)) ∧
       (regAccessOk off width = true → i.slice ≠ 0xFF → exec (.configAccess i off width write data ans) s =
         .next ((u.spoof i.slice 4 i.node (0x800000000000 + off)).regReply i n off .decerr 0)) ∧
       (regAccessOk off 32 = true → i.slice = 0xFF →
         (s.cfgTo off = .nothing → exec (.configAccess i off 32 false data ans) s = .next (ud.regReply i n off .ok 0xFFFFFFFF)) ∧
         (s.cfgTo off = .down → exec (.configAccess i off 32 write data ans) s = .next (u.regReply i n off .decerr 0)) ∧
         (∀ k j reg : Nat, s.cfgTo off = .rp k j reg → exec (.configAccess i off 32 false data ans) s =
           .next (ud.regReply i n off .ok (BitVec.setWidth 64 (s.rpDword k j reg)))) ∧
         (∀ k j : Nat, s.cfgTo off = .dev k j → k < 8 → quietLinks s →
           (∀ v : Word, Answers (.configAccess i off 32 false data (.value v)) s (fun t => ∃ (u : State) (q : HbReq),
             u.hb.sent = s.hb.sent ++ [q] ∧ q.ctl = k ∧ q.port = j ∧ q.isRead = true ∧ u.regs = s.regs ∧
             t = u.regReply i n off .ok (v &&& 0xFFFFFFFF))) ∧
           Answers (.configAccess i off 32 false data .ur) s (fun t => ∃ (u : State) (q : HbReq), u.hb.sent = s.hb.sent ++ [q] ∧
             q.ctl = k ∧ q.port = j ∧ q.isRead = true ∧ u.regs = s.regs ∧ t = u.regReply i n off .ok 0xFFFFFFFF) ∧
           Answers (.configAccess i off 32 false data .none) s (fun t => ∃ u : State, u.fd .HBU_ERR HBU_ERR.KIND k = 2 ∧
             t = u.regReply i n off .tout 0))))) ∧
    (i.node = hbNode 0 → s.boot.attached = true → s.hbLink 0 0 = true → (s.epf (off / 0x1000 % 256)).resetting = false → quietLinks s →
      Answers (.configAccess i off 32 false data ans) s (fun t => t.regs = s.regs ∧ ∃ q : HbReq, t.hb.sent = s.hb.sent ++ [q] ∧
        q.ctl = 0 ∧ q.port = 0 ∧ q.tag = 0 ∧ q.func = i.tag ∧
        q.data = BitVec.setWidth 1024 (s.epDword (off / 0x1000 % 256) (off % 0x1000 / 4 * 4))))) ∧
  (∀ (i : Init) (sl : Fin 240) (n : SlotNo) (data : Word) (s : State), s.alive = true → i.slice = 0xFF ∨ i.slice = sl.val →
    s.settled → s.fence (hubNode 0) = 0 → s.replyPasses i.node i.gen = true → s.slotFd n PRL_SLOT_STAT.SEC = 0 →
    (s.ownsSlot sl n = true →
      Answers (.slotProxyAccess i sl n 0x38 64 true data) s (fun t => answered s t i .ok ∧
        t.fd .PRL_SLOT_DADDR PRL_SLOT_DADDR.ADDR 0 n = data.toNat / 128 % 2 ^ 49) ∧
      Answers (.slotProxyAccess i sl n 0x38 64 false data) s (fun t => t.regs = s.regs ∧ ∃ q r : Msg, t.net.taken = s.net.taken ++ [q, r] ∧
        r.dst = i.node ∧ r.tag = i.tag ∧ r.status = .ok ∧
        r.data = BitVec.setWidth 1024 (setF 0 PRL_SLOT_DADDR.ADDR (s.fd .PRL_SLOT_DADDR PRL_SLOT_DADDR.ADDR 0 n)))) ∧
    (s.ownsSlot sl n = false →
      Answers (.slotProxyAccess i sl n 0x38 64 true data) s (fun t => answered s t i .ok ∧
        t.rg .PRL_SLOT_DADDR 0 n = s.rg .PRL_SLOT_DADDR 0 n ∧ t.fd .VSF_SPLOG VSF_SPLOG.KIND = 3) ∧
      Answers (.slotProxyAccess i sl n 0x38 64 false data) s (fun t => t.regs = s.regs ∧ ∃ q r : Msg, t.net.taken = s.net.taken ++ [q, r] ∧
        r.dst = i.node ∧ r.status = .ok ∧ r.data = 0))) ∧
  (∀ (i : Init) (sl : Fin 240) (n : SlotNo) (off width : Nat) (write : Bool) (data v : Word) (st : Status) (s u : State),
    s.alive = true → off < 0x80 →
    (let o := vfBase sl + 0x1000 + 0x80 * n.val + off
     (s.regRequest i (regNode o) o write data).regAccess i o width write data = (.done st v, u) →
     exec (.slotProxyAccess i sl n off width write data) s = .next (u.regReply i (regNode o) o st v))) ∧
  (∀ (r : Tlp) (s : State), arrives s r → s.upstream r = false → s.rpExists r.ctl r.port = true →
    (s.rpBme r.ctl r.port = false → r.kind = 1 → Answers (.inboundRequest r) s (fun t => t.mem = s.mem ∧ t.hb.sent = s.hb.sent ∧
      t.fd .HBU_ERR HBU_ERR.KIND r.ctl = 6 ∧ t.cfgD (s.aerBase r + 4) = s.hb.cfg.getD (s.aerBase r + 4) 0 ||| 0x100000)) ∧
    (s.rpBme r.ctl r.port = false → r.kind ≠ 1 → Answers (.inboundRequest r) s (fun t => t.mem = s.mem ∧
      t.fd .HBU_CNT HBU_CNT.URSENT r.ctl = satInc HBU_CNT.URSENT.len (s.fd .HBU_CNT HBU_CNT.URSENT r.ctl) ∧
      t.fd .HBU_ERR HBU_ERR.KIND r.ctl = 4 ∧ ∃ q : HbReq, t.hb.sent = s.hb.sent ++ [q] ∧ q.tag = 1 ∧ q.addr = r.addr ∧ q.func = r.rid.toNat)) ∧
    (s.rpBme r.ctl r.port = true → s.msiHit r.ctl r.addr = true → r.kind = 1 → r.len = 4 →
      exec (.inboundRequest r) s = .next (s.irtMsi (r.data.toNat % 2 ^ 32))) ∧
    (s.rpBme r.ctl r.port = true → s.msiHit r.ctl r.addr = false → r.pasid = none → 0 < r.len → r.addr % 128 + r.len ≤ 128 →
      s.fb .HBU_CTXBASE HBU_CTXBASE.EN r.ctl = false → region (s.fold (r.addr % 2 ^ 56)) = .dram →
      (let node := hbNode r.ctl
       let pa := s.fold (r.addr % 2 ^ 56)
       let mask := byteMask (pa % 128) r.len
       let d := BitVec.shiftLeft (tlpPart r 0) (8 * (pa % 128))
       let base : CohReq := { CohReq.bare node (pa / 128) false with gen := s.genOf node, tag := r.port.val }
       let m := s.memRead (pa / 128)
       (r.kind = 0 → atHome s (pa / 128) → touched m.poison (pa % 128) r.len = false →
         Answers (.inboundRequest r) s (fun t => ∃ q : HbReq, t.hb.sent = s.hb.sent ++ [q] ∧ q.ctl = r.ctl.val ∧ q.port = r.port.val ∧
           q.tag = 0 ∧ q.func = r.rid.toNat ∧ q.addr = r.addr ∧ q.size = r.len ∧
           q.data = BitVec.setWidth 1024 (BitVec.setWidth (8 * r.len) (BitVec.ushiftRight m.data (8 * (pa % 128)))))) ∧
       (r.kind = 1 → r.ep = false → mask ≠ fullMask → atHome s (pa / 128) → s.pair.entries.l = [] →
         (s.chan (homeOf (pa / 128))).mbuf = [] → Answers (.inboundRequest r) s (fun t => t.hb.sent = s.hb.sent ∧
           (t.chan (homeOf (pa / 128))).mbuf = [⟨pa / 128, mask, mergeLine 0 d mask, 0⟩])) ∧
       (r.kind = 1 → r.ep = false → mask = fullMask → atHome s (pa / 128) → s.fb .MSC_CTL MSC_CTL.EN (homeOf (pa / 128)) = true →
         Answers (.inboundRequest r) s (fun t => t.hb.sent = s.hb.sent ∧
           (t.msc.get? (pa / 128)).map (fun v => v.data) = some d)) ∧
       (∀ (h : HReply) (u : State), r.kind = 1 → r.ep = false → mask ≠ fullMask →
         s.homeDo opWRP { base with mask := mask, data := d } = (h, u) → h.status = .ok → exec (.inboundRequest r) s = .next u) ∧
       (∀ (h : HReply) (u : State), r.kind = 0 → s.homeDo opRDC base = (h, u) → h.status = .ok → touched h.poison (pa % 128) r.len = false →
         u.hbLink r.ctl r.port = true → quietLinks u →
         Answers (.inboundRequest r) s (fun t => t.mem = u.mem ∧ t.regs = u.regs ∧ ∃ q : HbReq, t.hb.sent = u.hb.sent ++ [q] ∧ q.tag = 0 ∧
           q.data = BitVec.setWidth 1024 (BitVec.setWidth (8 * r.len) (BitVec.ushiftRight h.data (8 * (pa % 128)))))) ∧
       (∀ (h : HReply) (u : State), r.kind = 0 → s.homeDo opRDC base = (h, u) → h.status = .retry → exec (.inboundRequest r) s = .next u)))) ∧
  (∀ (r : Tlp) (s : State), arrives s r → s.upstream r = true → s.barHit r.addr = none → r.kind ≠ 1 →
    Answers (.inboundRequest r) s (fun t => t.mem = s.mem ∧ t.fd .HBU_ERR HBU_ERR.KIND 0 = 4 ∧
      ∃ q : HbReq, t.hb.sent = s.hb.sent ++ [q] ∧ q.tag = 1 ∧ q.func = r.rid.toNat)) ∧
  (∀ (r : Tlp) (s : State), arrives s r → s.rpExists r.ctl r.port = true →
    (s.rpBme r.ctl r.port = false ∨ s.fb .HBU_CTXBASE HBU_CTXBASE.EN r.ctl = false →
      exec (.atsTranslationRequest r) s = .next (s.inboundRefuse r)) ∧
    (s.rpBme r.ctl r.port = true → s.fb .HBU_CTXBASE HBU_CTXBASE.EN r.ctl = true → r.pasid = none →
      (let a := s.fold (s.hbCtx r.ctl r.rid.toNat)
       let m := s.memRead (a / 128)
       let w := lineWord m.data (a % 128 / 8)
       atHome s (a / 128) → touched m.poison (a % 128) 32 = false →
       (bitAt w 0 = true → bitAt w 1 = false → bitAt w 2 = false → bitAt w 5 = true →
         Answers (.atsTranslationRequest r) s (fun t => ∃ q : HbReq, t.hb.sent = s.hb.sent ++ [q] ∧ q.tag = 0 ∧ q.func = r.rid.toNat ∧
           q.data = BitVec.ofNat 1024 (r.addr % 2 ^ 56 / 4096 * 4096 + (if r.kind = 0 then 1 else 3)))) ∧
       (bitAt w 0 = false → Answers (.atsTranslationRequest r) s (fun t => t.fd .HBU_ERR HBU_ERR.KIND r.ctl = 7 ∧
         ∃ q : HbReq, t.hb.sent = s.hb.sent ++ [q] ∧ q.tag = 0 ∧ q.func = r.rid.toNat ∧ q.data = 0)))) ∧
    (∀ (w0 w1 w2 w3 : Word) (u : State) (x : Xlated) (v : State), s.rpBme r.ctl r.port = true → s.fb .HBU_CTXBASE HBU_CTXBASE.EN r.ctl = true →
      s.ctxRead (hbNode r.ctl) (s.hbCtx r.ctl r.rid.toNat) false = (.ok (w0, w1, w2, w3), u) → bitAt w0 0 = true →
      bitAt w0 5 = true → r.pasid = none → r.kind = 0 →
      u.ioTranslate w0 w1 w2 (hbNode r.ctl) (ioNeed true false) r.addr = (.ok x, v) →
      exec (.atsTranslationRequest r) s = .next (v.hbComplete r 0 (BitVec.ofNat 1024 (x.pa / 4096 * 4096 + 1)) false)))

/-- A powered port out of PERST reaches DL_Active, with the state-changed bit, and no other link changes; a link that is
lost counts, records KIND 1 and ends its requests, and at the attached port resets the PF; a frame latches the inputs
and sends every slot's outputs; presence, button and power fault set their Slot Status bits, a fault takes power and
asserts PERST; Power Controller Control and indicators drive the outputs and leave a change pending; the frame that
carried it completes the command; PERST is released. (R355, R361, R362, R363, R364) -/
def Obligations.HostSlotsAndLinks : Prop :=
  (∀ (ctl : Fin 8) (port : Fin 4) (s : State), s.alive = true → s.gateClosed (244 + ctl.val) = false → s.hbLink ctl port = false →
    (s.fb .BOOT_STATUS BOOT_STATUS.RECOVERY = false → s.rpExists ctl port = true →
      (s.hps (4 * ctl.val + port.val)).pwren = true → (s.hps (4 * ctl.val + port.val)).perst = true →
      Answers (.hbLinkUp ctl port) s (fun t => t.hbLink ctl port = true ∧ (t.rpD ctl port 0x60).testBit 29 = true ∧
        (t.rpD ctl port 0x68).testBit ssDLLSC = true ∧ 1 ≤ (t.hbPort ctl port).rate ∧ (t.hbPort ctl port).rate ≤ 6 ∧
        ∀ (k : Fin 8) (j : Fin 4), (k, j) ≠ (ctl, port) → t.hbLink k j = s.hbLink k j)) ∧
    (s.fb .BOOT_STATUS BOOT_STATUS.RECOVERY = true → ctl = 0 → port = 0 →
      Answers (.hbLinkUp ctl port) s (fun t => t.hbLink 0 0 = true))) ∧
  (∀ (ctl : Fin 8) (port : Fin 4) (s : State), s.alive = true → s.hbLink ctl port = true →
    (s.attachedHb ctl = false → s.hb.out = [] → Answers (.linkDown ctl port) s (fun t => t.hbLink ctl port = false ∧
      t.fd .HBU_CNT HBU_CNT.LINKDN ctl = satInc HBU_CNT.LINKDN.len (s.fd .HBU_CNT HBU_CNT.LINKDN ctl) ∧
      t.fd .HBU_ERR HBU_ERR.KIND ctl = 1 ∧ t.fd .HBU_ERR HBU_ERR.PORT ctl = port.val)) ∧
    (∀ q : HbReq, s.attachedHb ctl = false → s.hb.out = [q] → q.ctl = ctl.val → q.port = port.val → q.phase = 0 →
      Answers (.linkDown ctl port) s (fun t => ∃ u : State, u.hbLink ctl port = false ∧ t = u.hbEnd q .decerr)) ∧
    (s.attachedHb ctl = true → port = 0 → exec (.linkDown ctl port) s = .next (s.linkLost ctl port).pfResetOp)) ∧
  (∀ (ins : BitVec 256) (s : State), s.alive = true → Answers (.hpsFrame ins) s (fun t => t.hb.hpIn = ins ∧ t.regs = s.regs ∧
    ∃ b : Bool, ∀ n : Nat, (t.hps n).sent = (s.hps n).outBits b ∧ (t.hps n).cmdSent = (s.hps n).cmdPending ∧ (t.hps n).present = (s.hps n).present ∧ (t.hps n).perst = (s.hps n).perst ∧
      (t.hps n).pwren = ((s.hps n).pwren && !((s.hps n).dropDue && !(s.hps n).sent.getLsbD 6)))) ∧
  (∀ (p : Fin 32) (s : State), s.alive = true → s.hpCapable p = true →
    (∀ b : Bool, s.hb.hpIn.getLsbD (8 * p.val) = !b → (s.hps p).present = !b → Answers (.presenceChange p b) s (fun t =>
      (t.hps p).present = b ∧ (t.rpD (p.val / 4) (p.val % 4) 0x68).testBit ssPDS = b ∧
      (t.rpD (p.val / 4) (p.val % 4) 0x68).testBit ssPDC = true ∧ t.regs = s.regs)) ∧
    (s.hb.hpIn.getLsbD (8 * p.val + 1) = false → Answers (.attentionButton p) s (fun t => (t.hps p).button = true ∧
      (t.rpD (p.val / 4) (p.val % 4) 0x68).testBit ssABP = true ∧ t.regs = s.regs)) ∧
    (s.hb.hpIn.getLsbD (8 * p.val + 2) = false → Answers (.powerFault p) s (fun t => ∃ u : State, (u.hps p).fault = true ∧
      (u.hps p).pwren = false ∧ (u.hps p).perst = false ∧ (u.rpD (p.val / 4) (p.val % 4) 0x68).testBit ssPFD = true ∧
      t = u.linkLost (p.val / 4) (p.val % 4))) ∧
    Answers (.powerControllerControl p false) s (fun t => (t.hps p).pwren = true ∧ (t.hps p).perstDue = !(s.hps p).perst ∧
      (t.hps p).cmdPending = true ∧ (t.rpD (p.val / 4) (p.val % 4) 0x68).testBit 10 = false) ∧
    Answers (.powerControllerControl p true) s (fun t => ∃ u : State, (u.hps p).perst = false ∧
      (u.hps p).dropDue = (s.hps p).pwren ∧ (u.hps p).cmdPending = true ∧
      (u.rpD (p.val / 4) (p.val % 4) 0x68).testBit 10 = true ∧ t = u.linkLost (p.val / 4) (p.val % 4)) ∧
    (∀ v : BitVec 2, v ≠ 0 →
      Answers (.indicatorControl p true v) s (fun t => (t.hps p).pwrLed = v.toNat ∧ (t.hps p).attnLed = (s.hps p).attnLed ∧
        (t.hps p).cmdPending = true ∧ t.rpD (p.val / 4) (p.val % 4) 0x68 / 256 % 4 = v.toNat) ∧
      Answers (.indicatorControl p false v) s (fun t => (t.hps p).attnLed = v.toNat ∧ (t.hps p).pwrLed = (s.hps p).pwrLed ∧
        (t.hps p).cmdPending = true ∧ t.rpD (p.val / 4) (p.val % 4) 0x68 / 64 % 4 = v.toNat))) ∧
  (∀ (p : Fin 32) (s : State), s.alive = true →
    ((s.hps p).cmdPending = true → (s.hps p).cmdSent = true → Answers (.commandCompleted p) s (fun t =>
      (t.hps p).cmdPending = false ∧ (t.rpD (p.val / 4) (p.val % 4) 0x68).testBit ssCC = true)) ∧
    ((s.hps p).perstDue = true → (s.hps p).pwren = true → Answers (.perstRelease p) s (fun t => (t.hps p).perst = true ∧
      (t.hps p).perstDue = false ∧ ∀ n : Nat, n ≠ p.val → t.hps n = s.hps n)))

/-- A function whose Bus Master Enable clears or that enters D3hot ends its requests with MASTER_OFF as its initiator sees
it: a read that has been sent keeps its link tag for the completion that will be discarded, a queued write is
discarded with KIND 6; a VF reset returns the function's configuration to reset values and destroys its slice; a PF
reset clears VF Enable and the PF's enables; a Resizable BAR takes the sizes listed and aligns its base, and keeps its
size on any other; GO sends an Invalidate Request and sets BUSY, a write while BUSY sets WERR, the completion sets
DONE and the time-out TOUT. (R350, R356, R358, R359, R360, R365) -/
def Obligations.HostFunctionsAndInvalidation : Prop :=
  (∀ (f : Nat) (s : State), s.alive = true → s.boot.attached = true →
    (s.hb.out = [] →
      Answers (.busMasterDisable f) s (fun t => t.epf f = { s.epf f with bme := false } ∧ t.regs = s.regs ∧ t.mem = s.mem ∧
        ∀ g : Nat, g ≠ f → t.epf g = s.epf g) ∧
      Answers (.d3hotEntry f) s (fun t => t.epf f = { s.epf f with d3hot := true } ∧ t.regs = s.regs ∧ t.mem = s.mem ∧
        ∀ g : Nat, g ≠ f → t.epf g = s.epf g)) ∧
    (∀ q : HbReq, s.hb.out = [q] → q.ctl = 0 → q.func = f →
      (q.phase = 0 →
        Answers (.busMasterDisable f) s (fun t => ∃ u : State, (u.epf f).bme = false ∧ u.hb.out = [{ q with phase := 3 }] ∧
          t = u.hbAnswer q (masterOffFor q.node) 0 0 0) ∧
        Answers (.d3hotEntry f) s (fun t => ∃ u : State, (u.epf f).d3hot = true ∧ u.hb.out = [{ q with phase := 3 }] ∧
          t = u.hbAnswer q (masterOffFor q.node) 0 0 0)) ∧
      (q.phase = 1 →
        Answers (.busMasterDisable f) s (fun t => ∃ u : State, (u.epf f).bme = false ∧ u.fd .HBU_ERR HBU_ERR.KIND 0 = 6 ∧
          t = u.hbEnd q (masterOffFor q.node)) ∧
        Answers (.d3hotEntry f) s (fun t => ∃ u : State, (u.epf f).d3hot = true ∧ u.fd .HBU_ERR HBU_ERR.KIND 0 = 6 ∧
          t = u.hbEnd q (masterOffFor q.node))))) ∧
  (∀ (n : Fin 240) (s : State), s.alive = true → s.boot.attached = true → s.hb.vfEn = true → n.val < s.hb.numVfs → s.hb.out = [] →
    Answers (.vfFlr n) s (fun t => ∃ u : State, u.epf (16 + n.val) = { EpFunc.reset with resetting := (s.slice n).st != 0 } ∧
      u.slice n = s.slice n ∧ t = u.destroyRequest n)) ∧
  (∀ (linkLoss : Bool) (s : State), s.alive = true → s.boot.attached = true → Answers (.pfReset linkLoss) s (fun t =>
    t.hb.vfEn = false ∧ t.hb.numVfs = 0 ∧ (t.epf 0).bme = false ∧ (t.epf 0).mse = false ∧ (t.epf 0).d3hot = false ∧
    (t.epf 0).pba = [])) ∧
  (∀ (n : BitVec 6) (s : State), s.alive = true → s.boot.attached = true →
    (8 ≤ n.toNat → n.toNat ≤ 18 → Answers (.resizableBarWrite true n) s (fun t => t.hb.vfBar2size = 2 ^ (n.toNat + 20) ∧
      t.hb.vfBar2 = s.hb.vfBar2 / 2 ^ (n.toNat + 20) * 2 ^ (n.toNat + 20))) ∧
    (10 ≤ n.toNat → n.toNat ≤ 22 → Answers (.resizableBarWrite false n) s (fun t => (t.epf 0).bar2size = 2 ^ (n.toNat + 20) ∧
      (t.epf 0).bar2 = (s.epf 0).bar2 / 2 ^ (n.toNat + 20) * 2 ^ (n.toNat + 20))) ∧
    (n.toNat < 8 ∨ 18 < n.toNat → exec (.resizableBarWrite true n) s = .next s) ∧
    (n.toNat < 10 ∨ 22 < n.toNat → exec (.resizableBarWrite false n) s = .next s)) ∧
  (∀ (ctl : Fin 8) (data : Word) (s : State),
    (s.alive = true → s.fb .HBU_ATSSTAT HBU_ATSSTAT.BUSY ctl = true → Answers (.atsInvalidate ctl data) s (fun t =>
      t.fd .HBU_STATUS HBU_STATUS.WERR ctl = 1 ∧ t.hb = s.hb ∧ t.rg .HBU_ATSCMD ctl = s.rg .HBU_ATSCMD ctl)) ∧
    (s.alive = true → s.fb .HBU_ATSSTAT HBU_ATSSTAT.BUSY ctl = false → getF data HBU_ATSCMD.GO = 1 → quietLinks s →
      Answers (.atsInvalidate ctl data) s (fun t => t.fb .HBU_ATSSTAT HBU_ATSSTAT.BUSY ctl = true ∧
        t.fd .HBU_ATSCMD HBU_ATSCMD.RID ctl = getF data HBU_ATSCMD.RID ∧
        ∃ q : HbReq, t.hb.sent = s.hb.sent ++ [q] ∧ q.ctl = ctl.val ∧ q.addr = (s.rg .HBU_ATSADDR ctl).toNat)) ∧
    (s.alive = true → s.fb .HBU_ATSSTAT HBU_ATSSTAT.BUSY ctl = false → getF data HBU_ATSCMD.GO = 0 →
      Answers (.atsInvalidate ctl data) s (fun t => t.fb .HBU_ATSSTAT HBU_ATSSTAT.BUSY ctl = false ∧ t.hb = s.hb ∧
        t.fd .HBU_ATSCMD HBU_ATSCMD.RID ctl = getF data HBU_ATSCMD.RID)) ∧
    (s.dead = false → s.fb .HBU_ATSSTAT HBU_ATSSTAT.BUSY ctl = true → s.gateClosed (244 + ctl.val) = false →
      Answers (.invalidateCompletion ctl) s (fun t => t.fb .HBU_ATSSTAT HBU_ATSSTAT.BUSY ctl = false ∧
        t.fb .HBU_ATSSTAT HBU_ATSSTAT.DONE ctl = true ∧ t.hb = s.hb) ∧
      Answers (.atsTimeout ctl) s (fun t => t.fb .HBU_ATSSTAT HBU_ATSSTAT.BUSY ctl = false ∧
        t.fb .HBU_ATSSTAT HBU_ATSSTAT.TOUT ctl = true ∧ t.hb = s.hb)))

/-- A port that exists comes up; a received PAUSE frame counts in OTHER, a frame that is not untagged IPv6 to the port
counts in STRANGER, a solicited port answers, a Lyseb frame that passes every check changes nothing but, with a CE
mark, CESEEN and the link's echo; a PROBE is answered with PROBEREP; a PROBEREP of the parent is kept as a sample;
after 8 bad frames LOCK is lost with LOSTEV. (R381, R383, R394, R413, R414, R415) -/
def Obligations.FabricPorts : Prop :=
  (∀ (q : Fin 16) (s : State), s.alive = true → s.portExists q = true → s.domState (252 + q.val / 2) = 0 →
    s.gateClosed (252 + q.val / 2) = false →
    Answers (.portLinkUp q) s (fun t => t.portUp q = true ∧ ∀ p, p < 16 → p ≠ q.val → t.portUp p = s.portUp p)) ∧
  (∀ (q : Fin 16) (f : EthFrame) (s : State), s.alive = true → s.portUp q = true → s.gateClosed (252 + q.val / 2) = false →
    (f.pauseFrame = true → Answers (.ethFrameReceive q f) s (fun t => t.fab = s.fab ∧
      t.fd .FAB_PCNT FAB_PCNT.OTHER (q.val / 2) (q.val % 2) = satInc FAB_PCNT.OTHER.len (s.fd .FAB_PCNT FAB_PCNT.OTHER (q.val / 2) (q.val % 2)))) ∧
    (f.pauseFrame = false → f.ipv6 = false ∨ 9216 < f.len ∨
        (f.icmp = false ∧ f.udp ≠ 319 ∧ f.udp ≠ 320 ∧ f.dstOk ≠ s.portAddr q) → Answers (.ethFrameReceive q f) s (fun t => t.fab = s.fab ∧
      t.fd .FAB_PCNT FAB_PCNT.STRANGER (q.val / 2) (q.val % 2) =
        satInc FAB_PCNT.STRANGER.len (s.fd .FAB_PCNT FAB_PCNT.STRANGER (q.val / 2) (q.val % 2)))) ∧
    (f.pauseFrame = false → f.ipv6 = true → f.len ≤ 9216 → f.dstOk = s.portAddr q → f.icmp = false → f.udp = s.fd .FAB_CTL FAB_CTL.UDP →
      f.udp ≠ 319 → f.udp ≠ 320 → f.major = 2 → f.typ = 0 → f.dstpkg = s.pkgNum → f.srcpkg < 512 → f.src = s.peerAddr f.srcpkg →
      s.lstate f.srcpkg = 2 → f.tagOk = true →
      (f.ce = false → exec (.ethFrameReceive q f) s = .next s) ∧
      (f.ce = true → Answers (.ethFrameReceive q f) s (fun t => (t.link f.srcpkg).ece = true ∧
        t.fd .FAB_PCNTX FAB_PCNTX.CESEEN (q.val / 2) (q.val % 2) =
          satInc FAB_PCNTX.CESEEN.len (s.fd .FAB_PCNTX FAB_PCNTX.CESEEN (q.val / 2) (q.val % 2)))))) ∧
  (∀ (q : Fin 16) (a : BitVec 128) (s : State), s.alive = true → s.portUp q = true → s.gateClosed (252 + q.val / 2) = false →
    (a = s.portAddr q → Answers (.neighborSolicitation q a) s (fun t =>
      t.fab.ndSent.getD q.val 0 = s.fab.ndSent.getD q.val 0 + 1 ∧ t.regs = s.regs)) ∧
    (a ≠ s.portAddr q → exec (.neighborSolicitation q a) s = .next s)) ∧
  (∀ (peer : Fin 512) (n : Nat) (s : State), s.alive = true → s.lstate peer = 2 → s.linkFeat peer 4 = true →
    Answers (.fabProbe peer n) s (fun t => ∃ q : FabPkt, t.fab.sent = s.fab.sent ++ [(peer.val, q)] ∧ q.typ = 8 ∧ q.psn = n % 2 ^ 32 ∧
      t.regs = s.regs ∧ ∃ t2 t3 : Nat, q.times = [t2, t3] ∧ t2 / 1024 = s.nowNs ∧ t2 ≤ t3)) ∧
  (∀ (peer : Fin 512) (t1 t2 t3 t4 : Nat) (s : State), s.alive = true → s.lstate peer = 2 → s.linkFeat peer 4 = true →
    s.atlasFine = true → s.fd .FAB_ATLAS_CTL FAB_ATLAS_CTL.PARENT = peer.val →
    Answers (.fabProbeRep peer t1 t2 t3 t4) s (fun t => t.regs = s.regs ∧ t.fab.probes = s.fab.probes ++
      [(1000 * (((t2 : Int) - t1) - ((t4 : Int) - t3)) - 1024 * s.asym, ((t4 : Int) - t1) - ((t3 : Int) - t2))])) ∧
  (∀ s : State, s.alive = true → s.fb .FAB_ATLAS_STAT FAB_ATLAS_STAT.LOCK = true → 8 ≤ s.fab.lockBad →
    Answers .atlasLockLoss s (fun t => t.fd .FAB_ATLAS_STAT FAB_ATLAS_STAT.LOCK = 0 ∧
      t.fd .FAB_ATLAS_STAT FAB_ATLAS_STAT.LOSTEV = 1))

/-- A responder in CLOSED with EN answers a HELLO that shares a major with ACCEPT and is OPENING; a HELLO of its own
number sets DUPPKG; the initiator answers a good ACCEPT with FINISH and is OPEN with new sequence numbers; a bad
identity sets IDFAIL and leaves FAILED; a good FINISH opens the responder; EN starts an initiator's HELLO and its fall
closes an OPENING or FAILED link and puts an OPEN one into CLOSING; HELLO is repeated; a handshake time-out fails the
link; a FAILED link tries again; CLOSING ends after its time-out. (R387, R388, R389, R390, R393) -/
def Obligations.FabricHandshake : Prop :=
  (∀ (peer : Fin 512) (o : Offer) (s : State), s.alive = true →
    (o.srcpkg = s.pkgNum → Answers (.fabHello peer o) s (fun t => t.fd .FAB_STATUS FAB_STATUS.DUPPKG = 1 ∧ t.fab = s.fab)) ∧
    (o.srcpkg ≠ s.pkgNum → peer.val < s.pkgNum → s.lstate peer = 0 → s.fb .FAB_PEER_CTL FAB_PEER_CTL.EN 0 peer = true →
      (agree o ≠ 0 → Answers (.fabHello peer o) s (fun t => t.lstate peer = 1 ∧ (t.link peer).feat = agree o ∧
        ∃ q : FabPkt, t.fab.sent = s.fab.sent ++ [(peer.val, q)] ∧ q.typ = 3)) ∧
      (agree o = 0 → Answers (.fabHello peer o) s (fun t => t.lstate peer = 4 ∧
        t.fd .FAB_PEER_STAT FAB_PEER_STAT.CAUSE 0 peer = 3)))) ∧
  (∀ (peer : Fin 512) (o : Offer) (s : State), s.alive = true → o.srcpkg ≠ s.pkgNum → s.lstate peer = 1 →
    (s.link peer).helloOut = true →
    (o.idOk = true → agree o ≠ 0 → Answers (.fabAccept peer o) s (fun t => t.lstate peer = 2 ∧
      (t.link peer).rxPsn = 2 ^ 32 - 1 ∧ (t.link peer).nextPsn = 0 ∧ (t.link peer).unacked = [] ∧
      t.fd .FAB_PEER_STAT FAB_PEER_STAT.KEYID 0 peer = 0 ∧ t.fd .FAB_PEER_STAT FAB_PEER_STAT.FEAT 0 peer = agree o % 256 ∧
      ∃ q : FabPkt, t.fab.sent = s.fab.sent ++ [(peer.val, q)] ∧ q.typ = 4)) ∧
    (o.idOk = false → Answers (.fabAccept peer o) s (fun t => t.lstate peer = 4 ∧
      t.fd .FAB_PEER_STAT FAB_PEER_STAT.CAUSE 0 peer = 2 ∧ t.fd .FAB_STATUS FAB_STATUS.IDFAIL = 1))) ∧
  (∀ (peer : Fin 512) (o : Offer) (s : State), s.alive = true → s.lstate peer = 1 → ¬ s.pkgNum < peer.val →
    (s.link peer).feat ≠ 0 →
    (o.idOk = true → Answers (.fabFinish peer o) s (fun t => t.lstate peer = 2 ∧ (t.link peer).rxPsn = 2 ^ 32 - 1)) ∧
    (o.idOk = false → Answers (.fabFinish peer o) s (fun t => t.lstate peer = 4 ∧ t.fd .FAB_STATUS FAB_STATUS.IDFAIL = 1))) ∧
  (∀ (peer : Fin 512) (s : State), s.alive = true → peer.val ≠ s.pkgNum →
    (s.lstate peer = 0 → s.fb .FAB_CTL FAB_CTL.EN = true → s.pkgNum < peer.val →
      Answers (.peerEnable peer true) s (fun t => t.lstate peer = 1 ∧ t.fd .FAB_PEER_CTL FAB_PEER_CTL.EN 0 peer = 1 ∧
        (t.link peer).helloOut = true ∧ ∃ q : FabPkt, t.fab.sent = s.fab.sent ++ [(peer.val, q)] ∧ q.typ = 2)) ∧
    (s.lstate peer = 1 ∨ s.lstate peer = 4 → Answers (.peerEnable peer false) s (fun t => t.lstate peer = 0 ∧
      t.fd .FAB_PEER_CTL FAB_PEER_CTL.EN 0 peer = 0)) ∧
    (s.lstate peer = 2 → Answers (.peerEnable peer false) s (fun t => t.lstate peer = 3))) ∧
  (∀ (peer : Fin 512) (s : State), s.alive = true →
    (s.lstate peer = 1 → (s.link peer).helloOut = true → Answers (.helloResend peer) s (fun t => t.regs = s.regs ∧
      ∃ q : FabPkt, t.fab.sent = s.fab.sent ++ [(peer.val, q)] ∧ q.typ = 2)) ∧
    (s.lstate peer = 1 → Answers (.handshakeTimeout peer) s (fun t => t.lstate peer = 4 ∧
      t.fd .FAB_PEER_STAT FAB_PEER_STAT.CAUSE 0 peer = 1)) ∧
    (s.lstate peer = 4 → s.fb .FAB_PEER_CTL FAB_PEER_CTL.EN 0 peer = true → s.fb .FAB_CTL FAB_CTL.EN = true →
      Answers (.failedRetry peer) s (fun t => t.lstate peer = 1)) ∧
    (s.lstate peer = 3 → Answers (.closingTimeout peer) s (fun t => ∃ u : State, u.lstate peer = 0 ∧
      u.fd .FAB_PEER_STAT FAB_PEER_STAT.CAUSE 0 peer = 0 ∧ t = (u.failColls peer).serveIn peer (u.link peer).inq.length)))

/-- A numbered packet in order moves the received PSN and its messages take effect (a WACK ends the write that waits for
it), one out of order is held; an acknowledgement removes exactly the packets it covers; REKEY in order changes the
key and keeps the old one until it is erased; CLOSE in order closes the link with cause 7; the ACK timer acknowledges;
the RTO sends the oldest packet again and halves down to one packet; RNR resends the message; a link failure leaves
FAILED and FAB_ERR kind 2; a transaction that times out ends with TOUT and FAB_ERR kind 1; a lost port moves its links
to the alternate port. (R388, R391, R392, R395, R396, R397, R398, R399) -/
def Obligations.FabricTransport : Prop :=
  (∀ (peer : Fin 512) (p : FabIn) (s : State), s.alive = true → s.lstate peer = 2 →
    b2n p.keyid = s.fd .FAB_PEER_STAT FAB_PEER_STAT.KEYID 0 peer →
    ((s.link peer).unacked = [] → (s.link peer).bqueue = [] → s.nextInOrder peer (p.psn % 2 ^ 32) →
      (p.msgs = [] → Answers (.fabData peer p) s (fun t => (t.link peer).rxPsn = p.psn % 2 ^ 32 ∧ (t.link peer).unacked = [] ∧
        t.lstate peer = 2)) ∧
      (∀ (m : FabMsg) (x : FabTxn), p.msgs = [m] → m.mop = 7 → m.status = .ok → s.fab.txns = [x] → x.peer = peer.val → x.status = .ok →
        x.tag = m.tag → x.msg.mop = 1 → nodeCore x.node = none → x.node ≠ pairNode → s.replyPasses x.node x.gen = true →
        Answers (.fabData peer p) s (fun t => (t.link peer).rxPsn = p.psn % 2 ^ 32 ∧ t.fab.txns = [] ∧
          ∃ r : Msg, t.net.taken = s.net.taken ++ [r] ∧ r.dst = x.node ∧ r.tag = x.ntag ∧ r.status = .ok))) ∧
    (∀ u : State, u = s.takeFabAck peer (p.ackpsn % 2 ^ 32) p.sack.toNat p.ece →
     (u.lstate peer = 2 → u.nextInOrder peer (p.psn % 2 ^ 32) → p.msgs = [] →
       Answers (.fabData peer p) s (fun t => (t.link peer).rxPsn = p.psn % 2 ^ 32 ∧ (t.link peer).unacked = (u.link peer).unacked)) ∧
     (u.lstate peer = 2 → exec (.fabData peer p) s =
       .next (u.takePkt peer ⟨p.psn % 2 ^ 32, 0, b2n p.keyid, 0, 0, 0, false, p.eclass, p.msgs, []⟩)) ∧
     (u.lstate peer = 2 → (u.link peer).held = [] → u.linkFeat peer 0 = true → (u.link peer).rxPsn < 2 ^ 32 →
       p.psn % 2 ^ 32 = ((u.link peer).rxPsn + 2) % 2 ^ 32 →
       Answers (.fabData peer p) s (fun t => (t.link peer).rxPsn = (u.link peer).rxPsn ∧ (t.link peer).held.length = 1)))) ∧
  (∀ (peer : Fin 512) (ackpsn : Nat) (sack : BitVec 32) (ece : Bool) (s : State), s.alive = true → s.lstate peer = 2 →
    (s.link peer).bqueue = [] → Answers (.lysebAck peer ackpsn sack ece) s (fun t => (t.link peer).unacked =
      (s.link peer).unacked.filter (fun p => !ackCovers (s.linkFeat peer 0) (ackpsn % 2 ^ 32) sack.toNat p.psn))) ∧
  (∀ (peer : Fin 512) (psn : Nat) (s : State), s.alive = true → s.lstate peer = 2 → s.nextInOrder peer (psn % 2 ^ 32) →
    Answers (.fabRekey peer psn) s (fun t => (t.link peer).oldKey = true ∧ (t.link peer).rekeying = false ∧
      (t.link peer).rxPsn = psn % 2 ^ 32 ∧
      t.fd .FAB_PEER_STAT FAB_PEER_STAT.KEYID 0 peer = 1 - s.fd .FAB_PEER_STAT FAB_PEER_STAT.KEYID 0 peer) ∧
    (s.linkBare peer → Answers (.fabClose peer psn) s (fun t => t.lstate peer = 0 ∧
      t.fd .FAB_PEER_STAT FAB_PEER_STAT.CAUSE 0 peer = 7))) ∧
  (∀ (peer : Fin 512) (s : State), s.alive = true → s.lstate peer = 2 →
    ((s.link peer).inq = [] → (s.link peer).sinceAck ≠ 0 → Answers (.ackTimer peer) s (fun t => (t.link peer).sinceAck = 0 ∧
      ∃ q : FabPkt, t.fab.sent = s.fab.sent ++ [(peer.val, q)] ∧ q.typ = 1)) ∧
    (∀ (p : FabPkt) (l : List FabPkt), (s.link peer).unacked = p :: l → s.linkFeat peer 0 = true → Answers (.rtoExpiry peer) s (fun t =>
      (t.link peer).cwnd = 65536 ∧ (t.link peer).rto = min 1000000 (2 * (s.link peer).rto) ∧ (t.link peer).unacked = p :: l ∧
      ∃ q : FabPkt, t.fab.sent = s.fab.sent ++ [(peer.val, q)] ∧ q.psn = p.psn ∧ q.typ = p.typ)) ∧
    (∀ (m : FabMsg) (l : List FabMsg), (s.link peer).rnr = m :: l → Answers (.rnrResend peer) s (fun t => (t.link peer).rnr = l ∧ t.regs = s.regs)) ∧
    (∀ lost : Bool, (s.link peer).unacked ≠ [] → s.linkBare peer → Answers (.linkFailure peer lost) s (fun t => t.lstate peer = 4 ∧
      t.fd .FAB_PEER_STAT FAB_PEER_STAT.CAUSE 0 peer = (if lost then 5 else 4) ∧ t.fd .FAB_ERR FAB_ERR.KIND = 2 ∧
      t.fd .FAB_ERR FAB_ERR.PEER = peer.val)) ∧
    (s.fb .FAB_PEER_STAT FAB_PEER_STAT.ONALT 0 peer = false → s.fb .FAB_PEER_CTL FAB_PEER_CTL.ALTEN 0 peer = true →
      s.portUp (s.fd .FAB_PEER_CTL FAB_PEER_CTL.ALTPORT 0 peer) = true →
      Answers (.altPortMove peer) s (fun t => t.fd .FAB_PEER_STAT FAB_PEER_STAT.ONALT 0 peer = 1 ∧
        t.portUp (s.fd .FAB_PEER_CTL FAB_PEER_CTL.PORT 0 peer) = false ∧
        t.fab.sent.length = s.fab.sent.length + (s.link peer).unacked.length)) ∧
    ((s.link peer).rekeying = false → 2 ^ 48 ≤ (s.link peer).txc ∨ s.fd .FAB_CTL FAB_CTL.REKEYM ≠ 0 →
      Answers (.rekeyTrigger peer) s (fun t => (t.link peer).rekeying = true ∧
        ∃ p : FabPkt, (t.link peer).unacked = (s.link peer).unacked ++ [p] ∧ p.typ = 5))) ∧
  (∀ (peer : Fin 512) (s : State), Answers (.oldKeyErase peer) s (fun t => t.link peer = { s.link peer with oldKey := false })) ∧
  (∀ (x : FabTxn) (s : State), s.alive = true → s.fab.txns = [x] → x.status = .ok → s.lstate x.peer = 2 →
    nodeCore x.node = none → x.node ≠ pairNode → s.replyPasses x.node x.gen = true →
    Answers (.fabricTransactionTout x.tag) s (fun t => t.fab.txns = [] ∧
      t.fd .FAB_ERR FAB_ERR.KIND = 1 ∧ t.fd .FAB_ERR FAB_ERR.STATUS = 4 ∧
      ∃ m : Msg, t.net.taken = s.net.taken ++ [m] ∧ m.dst = x.node ∧ m.tag = x.ntag ∧ m.status = .tout))

/-- A valid slot of the enabled table starts with its bytes; what is left at its end moves to B-class with OVR; COLL_START
outside IDLE only sets CERR, with a neighbour that is not OPEN it fails with cause 2, else the context is GRANTING
with the next SEQ; a grant makes it GATHER, a refusal fails it with cause 6; END returns DONE and FAILED to IDLE;
ABORT of an active context fails it with cause 4 and releases its slot. (R406, R408, R409, R410, R411) -/
def Obligations.FabricSlotsAndCollectives : Prop :=
  (∀ (k : Fin 256) (s : State), s.alive = true → s.fb .FAB_CTL FAB_CTL.EEN = true → s.fb .FAB_ESLOT FAB_ESLOT.V 0 k = true →
    s.fab.eslots.has k.val = false → s.ticking = true → s.frameInstant (s.fd .FAB_ESLOT FAB_ESLOT.START 0 k) < s.nextU →
    Answers (.fabEslotStart k) s (fun t => t.fab.eslots.has k.val = true ∧
      (∀ j, j ≠ k.val → t.fab.eslots.get? j = s.fab.eslots.get? j) ∧
      ((s.link (s.fd .FAB_ESLOT FAB_ESLOT.PEER 0 k)).equeue = [] →
        t.fab.eslots.get? k.val = some (64 * s.fd .FAB_ESLOT FAB_ESLOT.BYTES 0 k)))) ∧
  (∀ (k : Fin 256) (s : State), s.alive = true → s.fab.eslots.has k.val = true → 0 < s.fab.eleft.getD k.val 0 →
    Answers (.fabEslotSpill k) s (fun t => t.fd .FAB_ESTATUS FAB_ESTATUS.OVR = 1 ∧ t.fab.eslots.getD k.val 0 = 0 ∧
      (t.link (s.fd .FAB_ESLOT FAB_ESLOT.PEER 0 k)).equeue =
        (s.link (s.fd .FAB_ESLOT FAB_ESLOT.PEER 0 k)).equeue.drop (s.fab.eleft.getD k.val 0))) ∧
  (∀ (n : Fin 256) (s : State), s.alive = true →
    (s.collState n ≠ 0 ∨ s.isColl n = false → Answers (.collStart n) s (fun t => t.fd .FAB_STATUS FAB_STATUS.CERR = 1 ∧
      t.collState n = s.collState n)) ∧
    (s.collState n = 0 → s.isColl n = true → (∃ p : Nat, p ∈ s.collNeighbours n ∧ s.lstate p ≠ 2) →
      Answers (.collStart n) s (fun t => t.collState n = 5 ∧ t.fd .FAB_CSTAT FAB_CSTAT.CAUSE 0 n = 2)) ∧
    (s.collState n = 0 → s.isColl n = true → s.settled → (∀ p, p ∈ s.collNeighbours n → s.lstate p = 2 ∧ s.linkFeat p 2 = true) →
      Answers (.collStart n) s (fun t => t.collState n = 1 ∧
        t.fd .FAB_CSTAT FAB_CSTAT.SEQ 0 n = wrapInc 16 (s.fd .FAB_CSTAT FAB_CSTAT.SEQ 0 n)))) ∧
  (∀ (n : Fin 256) (s : State), s.alive = true → s.collState n = 1 →
    ((s.coll n).outcome = some 2 → s.slotState (s.fd .FAB_CSTAT FAB_CSTAT.SLOT 0 n) ≠ 2 →
      Answers (.collGranted n) s (fun t => t.collState n = 2)) ∧
    (∀ x, x ≠ 2 → (s.coll n).outcome = some x → Answers (.collGranted n) s (fun t => t.collState n = 5 ∧
      t.fd .FAB_CSTAT FAB_CSTAT.CAUSE 0 n = 6)) ∧
    ((s.coll n).outcome = none → exec (.collGranted n) s = .next s)) ∧
  (∀ (n : Fin 256) (s : State), s.alive = true →
    (s.collState n = 4 ∨ s.collState n = 5 → Answers (.collEnd n) s (fun t => t.collState n = 0)) ∧
    (s.collState n ≠ 4 → s.collState n ≠ 5 → Answers (.collEnd n) s (fun t => t.collState n = s.collState n ∧
      t.fd .FAB_STATUS FAB_STATUS.CERR = 1)) ∧
    (s.collState n = 1 ∨ s.collState n = 2 ∨ s.collState n = 3 →
      (let k := s.fd .FAB_CSTAT FAB_CSTAT.SLOT 0 n
       (s.slotFd k PRL_SLOT_STAT.OKIND ≠ 3 → Answers (.collAbort n) s (fun t => t.collState n = 5 ∧
         t.fd .FAB_CSTAT FAB_CSTAT.CAUSE 0 n = 4)) ∧
       (s.slotFd k PRL_SLOT_STAT.OKIND = 3 → s.slotFd k PRL_SLOT_STAT.OID = n.val → s.slotState k = 1 ∨ s.slotState k = 2 →
         (s.slot k).queue = [] → Answers (.collAbort n) s (fun t => t.collState n = 5 ∧
           t.fd .FAB_CSTAT FAB_CSTAT.CAUSE 0 n = 4 ∧ t.slotState k = 3)))) ∧
    (s.collState n = 0 ∨ s.collState n = 4 ∨ s.collState n = 5 → Answers (.collAbort n) s (fun t => t.collState n = s.collState n ∧
      t.fd .FAB_STATUS FAB_STATUS.CERR = 1)))

/-- For an Absent line a home that accepts RDS, RDO, or UPG from a die that holds nothing answers DAT in state E with what
memory holds, makes the die the owner and waits for its ACK; UPG of the only sharer and OWNZ are answered without
data; RDC and NCRD are answered with data in no state and leave the directory; an RDS of an owned line snoops the
owner; a busy line gives RETRY with a reservation; a target that does not take the request answers DECERR, or zero
with a violation. (R274, R276, R280, R281, R282, R288, R289) -/
def Obligations.HomeReads : Prop :=
  (∀ (h : HomeNo) (r : CohReq) (d : Nat) (s : State), s.absent h r.line → dieOfNode r.node = some d →
    (let rd := (s.homeSees h r).memRead r.line
     let granted := fun (t : State) => s.repliedDat t h r 2 rd.data rd.poison ∧ t.owned h r.line d ∧
       ∃ x, x ∈ (t.home h).trk ∧ x.waitAck = true ∧ x.req = r
     (s.accepts opRDS h r → Answers (.cohRds h r) s granted) ∧
     (s.accepts opRDO h r → Answers (.cohRdo h r) s granted) ∧
     (s.accepts opUPG h r → Answers (.cohUpg h r) s granted) ∧
     (s.accepts opOWNZ h r → Answers (.cohOwnz h r) s (fun t => s.replied t h r 2 0x08 .ok ∧ t.owned h r.line d ∧ t.mem = s.mem)) ∧
     (s.accepts opRDC h r → Answers (.cohRdc h r) s (fun t => s.repliedDat t h r 0 rd.data rd.poison ∧ t.absent h r.line)) ∧
     (s.accepts opNCRD h r → Answers (.cohNcrd h r) s (fun t => s.repliedDat t h r 0 rd.data rd.poison ∧ t.absent h r.line)))) ∧
  (∀ (h : HomeNo) (r : CohReq) (d e : Nat) (s : State), s.accepts opUPG h r → dieOfNode r.node = some d →
    (s.home h).dir.get? r.line = some ⟨1, [d], e⟩ → Answers (.cohUpg h r) s (fun t => s.replied t h r 2 0x08 .ok ∧
      t.owned h r.line d ∧ t.mem = s.mem)) ∧
  (∀ (h : HomeNo) (r : CohReq) (e x : Nat) (s : State), s.accepts opRDS h r →
    (s.home h).dir.get? r.line = some ⟨2, [x], e⟩ → Answers (.cohRds h r) s (fun t =>
      (∃ y, y ∈ (t.home h).trk ∧ y.req = r ∧ y.snoops = [x]) ∧
      ∃ m : Msg, sends s t m ∧ m.cls = 1 ∧ m.op = 0 ∧ m.dst = cdaNode x ∧ m.addr = r.line * 128)) ∧
  (∀ (h : HomeNo) (r : CohReq) (s : State), s.alive = true → homeOf r.line = h → s.homeGuard opRDS r.node r.sec r.line = .serve →
    s.memGated r.line = false → s.homeSound h r.line → (s.home h).rsv = [] → s.lineBusy h r.line = true →
    Answers (.cohRds h r) s (fun t => s.replied t h r 2 0x09 .retry ∧ (t.home h).dir = (s.home h).dir ∧
      (t.home h).rsv = [⟨r.node, r.gen, r.tag, r.line, false, opRDS, 0, 0, []⟩])) ∧
  (∀ (h : HomeNo) (r : CohReq) (s : State), s.alive = true → homeOf r.line = h → homeFree s r.line → s.homeSound h r.line →
    (s.homeGuard opRDS r.node r.sec r.line = .decerr → Answers (.cohRds h r) s (fun t => s.replied t h r 2 0x08 .decerr ∧
      t.mem = s.mem ∧ t.homes = s.homes)) ∧
    (∀ k, s.homeGuard opRDS r.node r.sec r.line = .zero k → Answers (.cohRds h r) s (fun t => t.mem = s.mem ∧
      t.fb .WLD_VIOL WLD_VIOL.VALID = true ∧ t.homes = s.homes ∧ s.repliedDat t h r 0 0 0)))

/-- For an Absent line an accepted WRF or WRP writes memory with its mask and leaves the line Absent, NCWR writes too, CLN
and FLS change no memory, and each is answered OK; an aligned atomic is answered with the old value as ADAT and one
placed at the home reads memory for it; a write-back of the owner writes the line and WB leaves it Absent while WBK
keeps the directory; the owner's EVC leaves it Absent; a write-back of a die that is not the owner is a protocol
fault, the EVC of one that is no holder is answered OK. (R281, R287, R291, R294) -/
def Obligations.HomeWrites : Prop :=
  (∀ (h : HomeNo) (r : CohReq) (s : State), s.absent h r.line →
    (let u := s.homeSees h r
     (s.accepts opWRF h r → Answers (.cohWrf h r) s (fun t => s.replied t h r 2 0x08 .ok ∧ t.absent h r.line ∧
       t.mem = (u.memWrite r.line true fullMask r.data r.poison).mem)) ∧
     (s.accepts opWRP h r → Answers (.cohWrp h r) s (fun t => s.replied t h r 2 0x08 .ok ∧ t.absent h r.line ∧
       t.mem = (u.memWrite r.line false r.mask r.data r.poison).mem)) ∧
     (s.accepts opNCWR h r → Answers (.cohNcwr h r) s (fun t => s.replied t h r 2 0x08 .ok ∧ t.absent h r.line ∧
       t.mem = (u.memWrite r.line false r.mask r.data r.poison).mem)) ∧
     (s.accepts opCLN h r → Answers (.cohCln h r) s (fun t => s.replied t h r 2 0x08 .ok ∧ t.absent h r.line ∧ t.mem = s.mem)) ∧
     (s.accepts opFLS h r → Answers (.cohFls h r) s (fun t => s.replied t h r 2 0x08 .ok ∧ t.absent h r.line ∧ t.mem = s.mem)) ∧
     (s.accepts opATOMF h r → r.aoff % atomSize r.aop = 0 → Answers (.cohAtomf h r) s (fun t => s.replied t h r 3 0x20 .ok ∧
       t.absent h r.line ∧ (s.fd .COH_CTL COH_CTL.AOVR h = 1 → ∃ m : Msg, sends s t m ∧ m.dst = r.node ∧
         m.data = BitVec.setWidth 1024 (lineBytes (u.memRead r.line).data r.aoff (atomSize r.aop))))) ∧
     (s.accepts opATOMM h r → r.aoff % atomSize r.aop = 0 → Answers (.cohAtomm h r) s (fun t => s.replied t h r 3 0x20 .ok ∧
       t.absent h r.line)))) ∧
  (∀ (h : HomeNo) (r : CohReq) (d : Nat) (s : State), dieOfNode r.node = some d →
    (let u := s.homeSees h r
     (s.owned h r.line d →
       (s.accepts opWB h r → Answers (.cohWb h r) s (fun t => s.replied t h r 2 0x08 .ok ∧ t.absent h r.line ∧
         t.mem = (u.memWrite r.line true fullMask r.data r.poison).mem)) ∧
       (s.accepts opWBK h r → Answers (.cohWbk h r) s (fun t => s.replied t h r 2 0x08 .ok ∧ (t.home h).dir = (s.home h).dir ∧
         t.mem = (u.memWrite r.line true fullMask r.data r.poison).mem)) ∧
       (s.accepts opEVC h r → Answers (.cohEvc h r) s (fun t => s.replied t h r 2 0x08 .ok ∧
         t.absent h r.line ∧ t.mem = s.mem))) ∧
     (s.isOwner h r.line d = false →
       (s.accepts opWB h r → Answers (.cohWb h r) s (fun t => t.fb .COH_STATUS COH_STATUS.PFAULT h = true ∧ t.mem = s.mem)) ∧
       (s.accepts opWBK h r → Answers (.cohWbk h r) s (fun t => t.fb .COH_STATUS COH_STATUS.PFAULT h = true ∧ t.mem = s.mem))) ∧
     (s.isHolder h r.line d = false → s.accepts opEVC h r →
       Answers (.cohEvc h r) s (fun t => s.replied t h r 2 0x08 .ok ∧ t.homes = s.homes)))) ∧
  (∀ (h : HomeNo) (r : CohReq) (s : State), s.alive = true → homeOf r.line ≠ h → s.memGated r.line = false →
    Answers (.cohWrf h r) s (fun t => t.fb .COH_STATUS COH_STATUS.PFAULT h = true ∧ t.mem = s.mem))

/-- An answer that an open transaction awaits is taken out of it, and the last one of a flush completes it with the line
Absent and OK to the requester; an unawaited answer is a protocol fault; the ACK of the requester closes its read; the
oldest reservation that nothing blocks is granted, and holds a way of the directory where its request needs one; a
granted one that is not used lapses; a directory lookup reports DONE and whether the line is listed; an uncorrectable
error in the tracker array stops the domain instead. (R276, R279, R280, R287, R288, R289, R294) -/
def Obligations.HomeTransactions : Prop :=
  (∀ (h : HomeNo) (site : SiteNo) (line : Nat) (st : Fin 4) (wbx : Bool) (dat : Option (LineData × BitVec 16)) (s : State),
    s.alive = true →
    (s.upsets.get? (upKey 8 h 0) = none →
      (∀ x y, (s.home h).trk = [x] → x.req.line = line → x.snoops = [site.val, y] → y ≠ site.val →
        Answers (.snoopAnswer h site line st wbx dat) s (fun t => ∃ z, (t.home h).trk = [z] ∧ z.snoops = [y] ∧ z.req = x.req ∧
          z.ans = st.val ∧ (x.got = none → z.got = dat))) ∧
      (∀ x, (s.home h).trk = [x] → x.req.line = line → x.snoops = [site.val] → x.ties = [] → x.op = opFLS → x.victimFor = none →
        x.got = none → Answers (.snoopAnswer h site line st false none) s (fun t => (t.home h).trk = [] ∧ t.absent h line ∧
          s.replied t h x.req 2 0x08 .ok)) ∧
      ((s.home h).trk = [] → Answers (.snoopAnswer h site line st wbx dat) s (fun t => t.mem = s.mem ∧
        t.fb .COH_STATUS COH_STATUS.PFAULT h = true))) ∧
    (s.upsetOf (upKey 8 h 0) = 2 → (s.home h).trk ≠ [] → s.err.stopped = false →
      Answers (.snoopAnswer h site line st wbx dat) s (fun t => t.err.stopped = true ∧ t.homes = s.homes ∧ t.mem = s.mem))) ∧
  (∀ (h : HomeNo) (node tag line : Nat) (s : State), s.alive = true → s.upsets.get? (upKey 8 h 0) = none →
    ((∃ x, x ∈ (s.home h).trk ∧ x.waitAck = true ∧ x.req.line = line ∧ x.req.node = node ∧ x.req.tag = tag) →
      Answers (.cohAck h node tag line) s (fun t => (t.home h).trk = (s.home h).trk.filter (fun x => x.req.line != line) ∧
        t.mem = s.mem)) ∧
    ((s.home h).trk = [] → Answers (.cohAck h node tag line) s (fun t => t.fb .COH_STATUS COH_STATUS.PFAULT h = true))) ∧
  (∀ (h : HomeNo) (v : Rsv) (s : State), s.alive = true → s.upsets.get? (upKey 8 h 0) = none → (s.home h).rsv = [v] → v.granted = false →
    (s.home h).trk = [] → s.dirVictim h v.op v.line = none → s.replyPasses v.node v.gen = true →
    Answers (.reservationGrant h) s (fun t =>
      (t.home h).rsv = [{ v with granted := true, way := if needsEntry v.op && !(s.home h).dir.has v.line then 1 else 0 }] ∧
      ∃ m : Msg, sends s t m ∧ m.cls = 2 ∧ m.op = 0x0A ∧ m.dst = v.node ∧ m.tag = v.tag)) ∧
  (∀ (h : HomeNo) (node : Nat) (s : State), s.alive = true →
    ((∃ v, v ∈ (s.home h).rsv ∧ v.granted = true ∧ v.node = node) → Answers (.reservationLapse h node) s (fun t =>
      (t.home h).rsv = (s.home h).rsv.filter (fun v => v.node != node) ∧ (t.home h).dir = (s.home h).dir)) ∧
    ((∀ v, v ∈ (s.home h).rsv → ¬ (v.granted = true ∧ v.node = node)) → exec (.reservationLapse h node) s = .next s)) ∧
  (∀ (h : HomeNo) (line : Nat) (s : State), s.alive = true → Answers (.cohDirq h line) s (fun t =>
    t.fd .COH_DIRR COH_DIRR.DONE h = 1 ∧ t.fd .COH_DIRR COH_DIRR.HIT h = b2n ((s.home h).dir.get? line).isSome ∧
    t.fd .COH_DIRR COH_DIRR.NOTHOME h = b2n (homeOf line != h) ∧ t.homes = s.homes))

/-- With no array entry of the line in error: a snoop of a line the die does not hold is answered SACK I with nothing
changed, a fence answers in a die's place, SNPI and BINV of a dirty line return it and drop every copy, SNPC changes
nothing; a core's request that its die cannot serve is sent to the line's home under the CDA's tag, a false slice is a
spoof; DAT fills the core's L2, which has room, and is acknowledged; CMP frees a write-back entry or the request; a
reservation makes the request wait for GNT, which sends it again; FLUSH sets FLUSHBUSY, which clears when the die
cache is empty and nothing waits. (R210, R252, R284, R285, R286, R289, R293, R378) -/
def Obligations.DieAgent : Prop :=
  (∀ (site : SiteNo) (h : HomeNo) (tag line : Nat) (s : State), s.alive = true →
    (s.fence (cdaNode site) = 0 → (∀ e, e ∈ (s.die site).wb → e.line ≠ line) → s.dieSound site line →
      (s.dieState site line = 0 →
        (let none_ := fun (t : State) => t.cores = s.cores ∧ t.dies = s.dies ∧
           ∃ m : Msg, sends s t m ∧ m.cls = 2 ∧ m.op = 0 ∧ m.dst = homeNode h ∧ m.tag = tag ∧ m.status = .ok
         Answers (.cohSnps site h tag line) s none_ ∧ Answers (.cohSnpi site h tag line) s none_ ∧
         Answers (.cohSnpc site h tag line) s none_ ∧ Answers (.cohSnpcl site h tag line) s none_ ∧
         Answers (.cohBinv site h tag line) s none_)) ∧
      (∀ x, s.dieState site line ≠ 0 → s.dieDirty site line = some x →
        (let gone := fun (t : State) => (t.die site).filt.get? line = none ∧ (t.die site).dcache.get? line = none ∧
           ∃ m : Msg, sends s t m ∧ m.cls = 3 ∧ m.op = 8 + (if x.2 = 0 then 0 else 4) ∧ m.dst = homeNode h ∧ m.data = x.1 ∧ m.poison = x.2
         Answers (.cohSnpi site h tag line) s gone ∧ Answers (.cohBinv site h tag line) s gone ∧
         Answers (.cohSnpc site h tag line) s (fun t => t.cores = s.cores ∧ t.dies = s.dies ∧ ∃ m : Msg, sends s t m ∧ m.cls = 3 ∧
           m.data = x.1))) ∧
      (s.dieState site line ≠ 0 → s.dieDirty site line = none → Answers (.cohSnps site h tag line) s (fun t =>
        ∃ m : Msg, sends s t m ∧ m.cls = 2 ∧ m.op = 1 ∧ m.dst = homeNode h)) ∧
      (s.dieState site line = 1 ∨ s.dieState site line = 2 → Answers (.cohSnpcl site h tag line) s (fun t => t.dies = s.dies ∧
        ∃ m : Msg, sends s t m ∧ m.cls = 2 ∧ m.op = s.dieState site line))) ∧
    (s.fence (cdaNode site) = 2 → (s.home h).trk = [] → Answers (.cohSnpi site h tag line) s (fun t => t.cores = s.cores ∧
      t.dies = s.dies ∧ ∃ m : Msg, t.net.taken = s.net.taken ++ [m] ∧ m.status = .targetReset ∧ m.dst = homeNode h))) ∧
  (∀ (core : CoreNo) (op : Fin 6) (line : Nat) (sec : Bool) (slice : Nat) (s : State), s.alive = true →
    (let d := core.val / 18
     let st := s.dieState d line
     (s.coreSlice core = slice → slice = 0xFF ∨ sec = false → s.inWb d line = false → (s.core core).l2en = true →
       s.dcen d = true ∨ (s.die d).dcache.get? line = none →
       (op.val = 0 ∧ st = 0) ∨ (op.val = 1 ∧ st < 2) ∨ (op.val = 2 ∧ st < 2) ∨ 3 ≤ op.val →
       Answers (.coreRequestAtCda core op line sec slice) s (fun t => (t.die d).reqs = (s.die d).reqs ++
           [⟨core.val, op.val, line, s.cdaTag d, 0, sec, slice, s.limitFor (line * 128)⟩] ∧
         ∃ m : Msg, sends s t m ∧ m.cls = 0 ∧ m.op = cdaOp op.val st true ∧ m.dst = homeNode (homeOf line) ∧
           m.src = cdaNode d ∧ m.tag = s.cdaTag d)) ∧
     (s.coreSlice core ≠ slice → Answers (.coreRequestAtCda core op line sec slice) s (fun t => t.dies = s.dies ∧
       t.net = s.net ∧ t.fd .VSF_SPLOG VSF_SPLOG.VALID = 1)))) ∧
  (∀ (site : SiteNo) (tag : Nat) (st : Fin 4) (data : LineData) (poison : BitVec 16) (q : CdaReq) (s : State), s.alive = true →
    s.cdaHeld site tag = some q → s.net.msgs = [] → s.fence (cdaNode site) = 0 →
    (st.val = 0 → Answers (.datReceive site tag st data poison) s (fun t => t.cores = s.cores ∧
      (t.die site).reqs = (s.die site).reqs.filter (fun x => x.tag != tag))) ∧
    (st.val ≠ 0 → q.core < 216 → q.core / 18 = site.val → (s.core q.core).run ≠ .resetting → (s.core q.core).l2en = true →
      s.l2HasRoom q.core q.line → Answers (.datReceive site tag st data poison) s (fun t =>
        (∃ e, (t.core q.core).l2.get? q.line = some e ∧ e.data = data ∧ e.poison = poison ∧ e.st = grantState st.val) ∧
        (t.die site).reqs = (s.die site).reqs.filter (fun x => x.tag != tag) ∧
        ∃ m : Msg, sends s t m ∧ m.cls = 2 ∧ m.op = 0x0C ∧ m.dst = homeNode (homeOf q.line) ∧ m.tag = tag))) ∧
  (∀ (site : SiteNo) (tag : Nat) (s : State), s.alive = true → s.net.msgs = [] → s.fence (cdaNode site) = 0 →
    (∀ st, st = .ok ∨ st = .stale → (∃ e, e ∈ (s.die site).wb ∧ e.tag = tag) → (∀ q, q ∈ (s.die site).reqs → q.wait ≠ 3) →
      Answers (.cmpReceive site tag st) s (fun t =>
        (t.die site).wb = (s.die site).wb.filter (fun e => e.tag != tag) ∧ t.mem = s.mem)) ∧
    (∀ q, (∀ e, e ∈ (s.die site).wb → e.tag ≠ tag) → s.cdaHeld site tag = some q → 3 ≤ q.op →
      Answers (.cmpReceive site tag .ok) s (fun t => (t.die site).reqs = (s.die site).reqs.filter (fun x => x.tag != tag))) ∧
    Answers (.cmpRsv site tag) s (fun t => (t.die site).reqs = (s.die site).reqs.map (fun x =>
      if x.tag = tag then { x with wait := 1 } else x) ∧
      (t.die site).wb = (s.die site).wb.map (fun x => if x.tag = tag then { x with wait := 1 } else x)) ∧
    (∀ q, s.cdaHeld site tag = some q → (∀ x, x ∈ (s.die site).reqs → x.wait ≠ 2) → (∀ x, x ∈ (s.die site).wb → x.wait ≠ 2) →
      Answers (.gnt site tag) s (fun t => (t.die site).reqs = (s.die site).reqs.map (fun x =>
        if x.tag = tag then { x with wait := 0 } else x) ∧
      ∃ m : Msg, sends s t m ∧ m.cls = 0 ∧ m.op = cdaOp q.op (s.dieState site q.line) (s.core q.core).l2en ∧
        m.dst = homeNode (homeOf q.line) ∧ m.tag = tag))) ∧
  (∀ (site : SiteNo) (s : State), s.alive = true →
    Answers (.cdaFlush site) s (fun t => (t.die site).flushing = true ∧ t.fd .CDA_STATUS CDA_STATUS.FLUSHBUSY site = 1) ∧
    ((s.die site).flushing = true → (s.die site).dcache.l = [] →
      ((s.die site).wb = [] → Answers (.cdaFlushDone site) s (fun t => (t.die site).flushing = false ∧
        t.fd .CDA_STATUS CDA_STATUS.FLUSHBUSY site = 0 ∧ t.mem = s.mem)) ∧
      ((s.die site).wb ≠ [] → exec (.cdaFlushDone site) s = .next s)) ∧
    ((s.die site).flushing = true →
      (((s.dieFlush site).die site).wb = [] → ((s.dieFlush site).die site).dcache.l = [] →
        Answers (.cdaFlushDone site) s (fun t => (t.die site).flushing = false ∧
          t.fd .CDA_STATUS CDA_STATUS.FLUSHBUSY site = 0 ∧ t.mem = (s.dieFlush site).mem)) ∧
      (((s.dieFlush site).die site).wb ≠ [] → exec (.cdaFlushDone site) s = .next (s.dieFlush site))) ∧
    ((s.die site).flushing = false → exec (.cdaFlushDone site) s = .next s))

/-- A partial write to a line without an entry is merged into a new one and changes no memory, a full one leaves no entry;
the retirement of an entry removes it; a read of a line whose words are clean changes nothing, one that finds a
corrected or an uncorrectable word counts and records it and has it rewritten through the merge buffer, the latter
with its mark; a scrub read of a clean line moves SPTR and ends a pass at the limit; enabling sets EN, training sets
TRAINED or TFAIL and forgets the merge buffer; a secure write arms the injection; disabling a system-cache slice
empties it; a full write to an unlocked megabyte of the MRAM stores its words, a Normal access to a secure megabyte of
the MRAM is a violation. (R298, R304, R305, R306, R307, R310, R312, R314, R315) -/
def Obligations.MemoryChannels : Prop :=
  (∀ (h : HomeNo) (r : CohReq) (s : State), s.alive = true → homeOf r.line = h → s.mergeOf h r.line = none → s.memGated r.line = false →
    (s.chan h).mbuf.length < 48 →
    (r.mask ≠ BitVec.allOnes 128 → Answers (.mergeWrite h r false) s (fun t => t.mem = s.mem ∧ (t.chan h).mbuf = (s.chan h).mbuf ++
      [⟨r.line, r.mask, mergeLine 0 r.data r.mask, mergePoison 0 r.poison r.mask⟩])) ∧
    (r.mask = BitVec.allOnes 128 → Answers (.mergeWrite h r false) s (fun t => (t.chan h).mbuf = (s.chan h).mbuf)) ∧
    exec (.mergeWrite h r true) s = .next (s.chanAtom r).2.2) ∧
  (∀ (h : HomeNo) (line : Nat) (e : MergeEntry) (s : State), s.alive = true → s.mergeOf h line = some e →
    Answers (.mergeRetireTimeout h line) s (fun t => t.mergeOf h line = none ∧
      (t.chan h).mbuf = (s.chan h).mbuf.filter (fun x => x.line != line))) ∧
  (∀ (h : HomeNo) (line : Nat) (s : State), s.alive = true → homeOf line = h → s.memGated line = false →
    ((∀ k, k < 16 → (classify (s.rawWord (line * 16 + k))).cls = 0) → exec (.channelRead h line) s = .next s) ∧
    (∀ j, j < 16 → (s.chan h).mbuf = [] → (∀ k, k < 16 → k ≠ j → (classify (s.rawWord (line * 16 + k))).cls = 0) →
      (let e := classify (s.rawWord (line * 16 + j))
       let fixed := fun (p : BitVec 16) => [(⟨line, maskOfWord j, mergeLine 0 (setLineWord 0 j e.data) (maskOfWord j), p⟩ : MergeEntry)]
       (e.cls = 1 → e.poison = false → Answers (.channelRead h line) s (fun t => (t.chan h).mbuf = fixed 0 ∧
         t.fd .MEM_ECCCNT MEM_ECCCNT.CE1 h = satInc MEM_ECCCNT.CE1.len (s.fd .MEM_ECCCNT MEM_ECCCNT.CE1 h) ∧
         t.fd .MEM_ELAST MEM_ELAST.WORD h = j ∧ t.fd .MEM_ELAST MEM_ELAST.CLASS h = 1 ∧ t.mem = s.mem)) ∧
       (e.cls = 3 → Answers (.channelRead h line) s (fun t => (t.chan h).mbuf = fixed (1 <<< j) ∧
         t.fd .MEM_ECCCNT MEM_ECCCNT.UE h = satInc MEM_ECCCNT.UE.len (s.fd .MEM_ECCCNT MEM_ECCCNT.UE h) ∧
         t.fd .MEM_ELAST MEM_ELAST.WORD h = j ∧ t.fd .MEM_ELAST MEM_ELAST.CLASS h = 3 ∧ t.mem = s.mem))))) ∧
  (∀ (h : HomeNo) (l : Nat) (q : List Nat) (s : State), s.alive = true → (s.chan h).scrubQ = l :: q → l + 1 < 2 ^ 32 →
    (∀ k, k < 16 → (classify (s.rawWord (lineOfChan h l * 16 + k))).cls = 0) →
    Answers (.scrubRead h) s (fun t => (t.chan h).scrubQ = q ∧ t.mem = s.mem ∧ t.fd .MEM_SPTR MEM_SPTR.SPTR h =
        (if s.fd .MEM_SLIMIT MEM_SLIMIT.SLIMIT h ≤ l + 1 then 0 else l + 1) ∧
      (s.fd .MEM_SLIMIT MEM_SLIMIT.SLIMIT h ≤ l + 1 → t.fd .MEM_SCRUB MEM_SCRUB.PASS h = 1))) ∧
  (∀ (h : HomeNo) (s : State), s.alive = true →
    (s.fb .MEM_CFG MEM_CFG.EN h = false → Answers (.channelEnable h) s (fun t => t.fd .MEM_CFG MEM_CFG.EN h = 1 ∧ t.mem = s.mem)) ∧
    (∀ step : BitVec 4, s.fb .MEM_CFG MEM_CFG.EN h = true → s.fb .MEM_STATUS MEM_STATUS.TRAINED h = false →
      Answers (.channelTrained h true step) s (fun t => t.fd .MEM_STATUS MEM_STATUS.TRAINED h = 1 ∧ (t.chan h).mbuf = []) ∧
      Answers (.channelTrained h false step) s (fun t => t.fd .MEM_STATUS MEM_STATUS.TFAIL h = 1 ∧
        t.fd .MEM_STATUS MEM_STATUS.TSTEP h = step.toNat ∧ t.fd .MEM_STATUS MEM_STATUS.TRAINED h = 0)) ∧
    (∀ (i : Init) (data : BitVec 32),
      (i.sec = true → Answers (.memInjArm h i data) s (fun t => t.rg .MEM_INJ h = BitVec.setWidth 64 data &&& 0x017F7F7F)) ∧
      (i.sec = false → Answers (.memInjArm h i data) s (fun t => t.rg .MEM_INJ h = s.rg .MEM_INJ h ∧
        t.fb .WLD_VIOL WLD_VIOL.VALID = true))) ∧
    Answers (.mscDisable h) s (fun t => t.fd .MSC_CTL MSC_CTL.EN h = 0 ∧ ∀ line, homeOf line = h → t.msc.get? line = none) ∧
    (∀ hot : Bool, Answers (.dramHot h hot) s (fun t => (t.chan h).hot = hot ∧ t.mem = s.mem ∧ t.regs = s.regs))) ∧
  (∀ (r : CohReq) (s : State), s.alive = true → region (r.line * 128) = .mram → r.mask = fullMask → homeFree s r.line →
    (s.home (homeOf r.line)).dir.get? r.line = none → r.line * 128 / 0x100000 % 16 < 15 →
    bitAt (s.rg .MGT_MRAM_OWN) (r.line * 128 / 0x100000 % 16) = false → bitAt (s.rg .MGT_MRAM_OWN) (16 + r.line * 128 / 0x100000 % 16) = false →
    Answers (.mramAccess r true) s (fun t => ∀ k, k < 16 →
      t.rawWord (r.line * 16 + k) = encodeWordEcc (lineWord r.data k) (r.poison.getLsbD k))) ∧
  (∀ (r : CohReq) (write : Bool) (s : State), s.alive = true → region (r.line * 128) = .mram →
    (exec (.mramAccess r write) s = .next (s.homeDo (if write then (if r.mask = fullMask then opWRF else opWRP) else opRDC) r).2) ∧
    (r.line * 128 / 0x100000 % 16 = 15 → r.sec = false → Answers (.mramAccess r write) s (fun t => t.mem = s.mem ∧
      t.fb .WLD_VIOL WLD_VIOL.VALID = true ∧ t.fd .WLD_VIOL WLD_VIOL.KIND = 3)))

/-- A cold reset clears every block and agent, keeps the MRAM and the fuses, samples the straps and begins stage 1; a warm
reset does the same but keeps BOOT_STRAP; a fall of PWROK, an undervoltage and the loss of VCC_AO leave the MRAM and
the fuses with power not good; a held rise of RESET_N ends in a cold reset; REFCLK is lost and returns; WAKE_N boots a
package in OFF and wakes one in SLEEP or DEEP; THERMTRIP stops every clock. (R472, R474, R475, R476, R520, R523, R524, R525, R526, R536) -/
def Obligations.BootResets : Prop :=
  (∀ s : State, Answers .coldReset s (fun t => s.cleared t ∧ t.bootsAt 1 ∧ t.boot.pwrok = true ∧ t.boot.resetN = true ∧
    (s.boot.strapGlitch = false → t.rg .BOOT_STRAP = strapWord s.boot.straps))) ∧
  (∀ s : State, s.boot.pwrok = true → s.pwr.tripped = false → Answers .warmReset s (fun t => s.cleared t ∧ t.bootsAt 1 ∧
    t.boot.resetN = true ∧ t.rg .BOOT_STRAP = s.rg .BOOT_STRAP)) ∧
  (∀ s : State, Answers .pwrokFall s (fun t => s.cleared t ∧ t.boot.pwrok = false ∧ t.boot.stage = 0) ∧
    Answers .vccAoLoss s (fun t => s.cleared t ∧ t.boot.pwrok = false ∧ t.boot.stage = 0) ∧
    (s.boot.pwrok = true → Answers .railUndervoltage s (fun t => s.cleared t ∧ t.boot.pwrok = false ∧ t.boot.stage = 0)) ∧
    (s.boot.pwrok = false → exec .railUndervoltage s = .next s)) ∧
  (∀ s : State, s.boot.held = true → Answers .resetHoldEnd s (fun t => s.cleared t ∧ t.bootsAt 1 ∧
    t.boot.held = false ∧ t.boot.pwrok = true ∧ t.boot.resetN = true)) ∧
  (∀ s : State, exec .refclkLoss s = .next { s with boot := { s.boot with refclk := false } } ∧
    exec .refclkReturn s = .next { s with boot := { s.boot with refclk := true } }) ∧
  (∀ s : State, s.boot.pwrok = true →
    (s.fd .PWR_STATUS PWR_STATUS.PKG = 4 → Answers .wakeN s (fun t => s.cleared t ∧ t.bootsAt 1 ∧ t.rg .PWR_WAKESRC = 1)) ∧
    (s.pkgAsleep = true → bitAt (s.rg .PWR_WAKEEN) 0 = true → Answers .wakeN s (fun t => t.pwr.exiting = true ∧
      t.fd .PWR_WAKESRC PWR_WAKESRC.SRC = 1 ∧ t.fd .PWR_STATUS PWR_STATUS.WAKEEV = 1)) ∧
    Answers .thermtrip s (fun t => t.pwr.tripped = true ∧ t.pins.thermTrip = true ∧ t.mem = s.mem)) ∧
  (∀ (i : Init) (s : State), s.alive = true →
    (i.sec = true → Answers (.bootWarm i) s (fun t => t = s.warmReset ∧ s.cleared t ∧ t.bootsAt 1)) ∧
    (i.sec = false → Answers (.bootWarm i) s (fun t => t.boot = s.boot ∧ t.fb .WLD_VIOL WLD_VIOL.VALID = true))) ∧
  (∀ s : State, s.boot.pwrok = true → s.boot.resetN = true → s.fb .BOOT_STATUS BOOT_STATUS.RECOVERY = true →
    Answers .recReset s (fun t => s.cleared t ∧ t.bootsAt 1))

/-- Stage 1 with good fuses begins stage 2 and else stops with code 0x40; stage 2 begins stage 3 with the identity hash
shown; stage 3 begins stage 4 for a flash copy that begins with the magic value, tries copy 1 after a bad copy 0, and
enters recovery when BOOT_SRC asks for it; stage 4 begins stage 5 for a good image and stops with the first failure of
copy 1; stages 5 to 9 begin the next one or stop with 0x10, 0x20 and 8; stage 10 sets DONE and releases the boot core;
GO is taken in recovery; its end boots a good image from the buffer, which PROGRAM also writes to flash copy 0, and a
buffer without the magic value stops with code 1. (R477, R478, R480, R490, R494, R538) -/
def Obligations.BootStages : Prop :=
  (∀ (w : BootWork) (s : State), s.booting 1 →
    (w.fuseOk = true → Answers (.bootStageDone w) s (fun t => t.bootsAt 2)) ∧
    (w.fuseOk = false → Answers (.bootStageDone w) s (fun t => t.bootStopped 0x40))) ∧
  (∀ (w : BootWork) (s : State), s.booting 2 → Answers (.bootStageDone w) s (fun t => t.bootsAt 3 ∧
    t.rg .IDN_IDHASH 0 0 = Config.identity 13)) ∧
  (∀ (w : BootWork) (s : State), s.booting 3 → s.boot.fromBuf = false →
    (s.fd .BOOT_STRAP BOOT_STRAP.BOOT_SRC = 3 → Answers (.bootStageDone w) s (fun t => t.fd .BOOT_STATUS BOOT_STATUS.RECOVERY = 1 ∧
      t.boot = s.boot)) ∧
    (s.fd .BOOT_STRAP BOOT_STRAP.BOOT_SRC ≠ 3 → w.flashOk = true → s.fb .BOOT_STATUS BOOT_STATUS.COPY = false →
      (List.range 4).map s.flashByte = [0x46, 0x52, 0x56, 0x4C] →
      Answers (.bootStageDone w) s (fun t => t.bootsAt 4 ∧ t.imgLe 0 4 = imgMagic)) ∧
    (s.fd .BOOT_STRAP BOOT_STRAP.BOOT_SRC ≠ 3 → w.flashOk = false → s.fb .BOOT_STATUS BOOT_STATUS.COPY = false →
      Answers (.bootStageDone w) s (fun t => t.bootsAt 3 ∧ t.fd .BOOT_STATUS BOOT_STATUS.COPY = 1))) ∧
  (∀ (w : BootWork) (s : State), s.booting 4 → (s.imageGood → Answers (.bootStageDone w) s (fun t =>
      t.bootsAt 5 ∧ t.fd .BOOT_STATUS BOOT_STATUS.SVN = (s.img 15).toNat ∧
        t.fd .BOOT_STATUS BOOT_STATUS.KEYSLOT = (s.img 14).toNat)) ∧
    (s.boot.fromBuf = false → s.fb .BOOT_STATUS BOOT_STATUS.COPY = true →
      (s.img 4 ≠ 2 → Answers (.bootStageDone w) s (fun t => t.bootStopped 3)) ∧
      (s.img 4 = 2 → s.imgLen < 368 → Answers (.bootStageDone w) s (fun t => t.bootStopped 6)) ∧
      (∀ e, s.verifyImage = some e → e.1 < 256 → Answers (.bootStageDone w) s (fun t => t.bootStopped e.1)))) ∧
  (∀ (w : BootWork) (s : State), s.booting 5 →
    ((∀ d, d < 12 → s.fd .D2D_PEER D2D_PEER.LIVE d ≠ 0 ∧ s.fb .IDN_DIE_REV IDN_DIE_REV.REFUSED 0 (d + 1) = false) →
      Answers (.bootStageDone w) s (fun t => t.bootsAt 6)) ∧
    ((∃ d, d < 12 ∧ s.fd .D2D_PEER D2D_PEER.LIVE d = 0) → Answers (.bootStageDone w) s (fun t => t.bootStopped 0x10))) ∧
  (∀ (w : BootWork) (s : State), s.booting 6 →
    ((∀ h, h < 16 → w.dimmCap.getD h 0 ≠ 0 ∧ w.dimmType.getD h 0 = w.dimmType.getD 0 0 ∧ capOk (w.dimmCap.getD h 0) = true ∧
        w.trained.getD h false = true) →
      Answers (.bootStageDone w) s (fun t => t.bootsAt 7 ∧ ∀ h, h < 16 → t.fd .MEM_STATUS MEM_STATUS.TRAINED h = 1 ∧
        t.fd .MEM_CFG MEM_CFG.EN h = 1)) ∧
    ((∃ h, h < 16 ∧ w.dimmCap.getD h 0 = 0) → Answers (.bootStageDone w) s (fun t => t.bootStopped 0x20))) ∧
  (∀ (w : BootWork) (s : State), s.booting 7 → Answers (.bootStageDone w) s (fun t => t.bootsAt 8)) ∧
  (∀ (w : BootWork) (s : State), s.booting 8 →
    (let q := s.records.findIdx? (fun r => r.typ == 3 && knownRec r && region r.aux == .dram && decide (s.installed < r.aux + r.plen))
     (q = none → Answers (.bootStageDone w) s (fun t => t.bootsAt 9)) ∧
     (∀ k, q = some k → Answers (.bootStageDone w) s (fun t => t.bootStopped 8 ∧ t.mem = s.mem)))) ∧
  (∀ (w : BootWork) (s : State), s.booting 9 → Answers (.bootStageDone w) s (fun t => t.bootsAt 10)) ∧
  (∀ (w : BootWork) (r : ImgRec) (s : State), s.booting 10 → s.records.find? (fun r => r.typ == 4) = some r →
    Answers (.bootStageDone w) s (fun t => t.fd .BOOT_STATUS BOOT_STATUS.DONE = 1 ∧
      ((s.core (s.imgLe r.off 8)).run = .held → (t.core (s.imgLe r.off 8)).run = .run))) ∧
  (∀ s : State, s.boot.pwrok = true → s.boot.resetN = true →
    (s.fb .BOOT_STATUS BOOT_STATUS.RECOVERY = true → s.fb .REC_RESULT REC_RESULT.BUSY = false →
      Answers .recGo s (fun t => t.boot.going = some false ∧ t.fd .REC_RESULT REC_RESULT.BUSY = 1) ∧
      Answers .recProgram s (fun t => t.boot.going = some true ∧ t.fd .REC_RESULT REC_RESULT.BUSY = 1)) ∧
    (∀ prog, s.boot.going = some prog →
      (s.imageGood → Answers .recoveryGoDone s (fun t => t.bootsAt 5 ∧ t.boot.going = none ∧ t.boot.fromBuf = true ∧
        t.fd .REC_RESULT REC_RESULT.BUSY = 0 ∧ t.fd .REC_RESULT REC_RESULT.CODE = 0 ∧
        t.fd .BOOT_STATUS BOOT_STATUS.STOPPED = 0 ∧ t.fd .BOOT_STATUS BOOT_STATUS.RECOVERY = 0 ∧
        (prog = false → t.boot.flash = s.boot.flash) ∧
        (prog = true → ∀ a, t.flashByte a = if a < s.imgLen then s.img a else s.flashByte a))) ∧
      (s.imgLe 0 4 ≠ imgMagic → Answers .recoveryGoDone s (fun t => t.bootStopped 1 ∧
        t.boot.going = none ∧ t.fd .REC_RESULT REC_RESULT.BUSY = 0 ∧ t.fd .REC_RESULT REC_RESULT.CODE = 1))))

/-- SVNCOMMIT raises the fuse value to the running image's SVN; REVOKE revokes only asked slots and never the running one;
a GO of the flash interface makes it BUSY and one while BUSY sets ERR; the end of a command clears BUSY, shows ERR or
the bytes read; IDN_EXTEND replaces a measurement by the digest of it and the data; each of these by the Normal world
is a violation that changes no fuse; the watchdog counts and gives the Luna controller a new generation; SPDM requests
are answered. (R481, R487, R489, R491, R492) -/
def Obligations.BootServices : Prop :=
  (∀ (i : Init) (s : State), s.alive = true → i.sec = true →
    Answers (.svncommit i) s (fun t => t.boot.fuses = { s.boot.fuses with
      svn := max s.boot.fuses.svn (s.fd .BOOT_STATUS BOOT_STATUS.SVN) }) ∧
    (∀ slots : BitVec 4, Answers (.bootRevoke i slots) s (fun t => t.boot.fuses.prog = s.boot.fuses.prog ∧
      ∀ k, k < 4 → (s.boot.fuses.revoked.getLsbD k = true → t.boot.fuses.revoked.getLsbD k = true) ∧
        (t.boot.fuses.revoked.getLsbD k = true → s.boot.fuses.revoked.getLsbD k = true ∨
          (slots.getLsbD k = true ∧ k ≠ s.fd .BOOT_STATUS BOOT_STATUS.KEYSLOT)))) ∧
    (∀ index : BitVec 4, Answers (.idnExtend i index) s (fun t => ∀ j, j < 6 → t.rg .IDN_MEAS 0 (16 + index.toNat) j =
      digestWord (Config.sha384 (wordsBytes ((List.range 6).map (fun j => s.rg .IDN_MEAS 0 (16 + index.toNat) j) ++
        (List.range 6).map (fun j => s.rg .IDN_EXTDATA 0 j)))) j)) ∧
    (∀ data : Word, s.fb .BOOT_STATUS BOOT_STATUS.DONE = true → bitAt data 50 = true →
      (s.boot.spi = none → Answers (.bootSpicmd i data) s (fun t => t.boot.spi = some data ∧
        t.fd .BOOT_SPICMD BOOT_SPICMD.BUSY = 1 ∧ t.fd .BOOT_SPICMD BOOT_SPICMD.ERR = 0)) ∧
      (s.boot.spi ≠ none → Answers (.bootSpicmd i data) s (fun t => t.boot = s.boot ∧
        t.fd .BOOT_SPICMD BOOT_SPICMD.ERR = 1)))) ∧
  (∀ (i : Init) (slots index : BitVec 4) (data : Word) (s : State), s.alive = true → i.sec = false →
    (let refused := fun (t : State) => t.boot = s.boot ∧ t.fb .WLD_VIOL WLD_VIOL.VALID = true
     Answers (.svncommit i) s refused ∧ Answers (.bootRevoke i slots) s refused ∧ Answers (.idnExtend i index) s refused ∧
     Answers (.bootSpicmd i data) s refused)) ∧
  (∀ (w : Word) (bytes : List Byte) (s : State), s.alive = true → s.boot.spi = some w →
    Answers (.spiCommandDone false bytes) s (fun t => t.boot.spi = none ∧ t.fd .BOOT_SPICMD BOOT_SPICMD.BUSY = 0 ∧
      t.fd .BOOT_SPICMD BOOT_SPICMD.ERR = 1) ∧
    (getF w BOOT_SPICMD.WR = 0 → Answers (.spiCommandDone true bytes) s (fun t => t.boot.spi = none ∧
      t.fd .BOOT_SPICMD BOOT_SPICMD.BUSY = 0 ∧
      ∀ j, j < min 256 (getF w BOOT_SPICMD.LEN) → t.spiByte j = bytes.getD j 0))) ∧
  (∀ s : State, s.alive = true → Answers .lunaWatchdog s (fun t => t.fd .BOOT_STATUS BOOT_STATUS.LUNARST =
      satInc BOOT_STATUS.LUNARST.len (s.fd .BOOT_STATUS BOOT_STATUS.LUNARST) ∧
    t.genOf lunaNode = (s.genOf lunaNode + 1) % 16 ∧ t.mem = s.mem)) ∧
  (∀ (mctp : Bool) (code : BitVec 8) (s : State), s.alive = true →
    (let k := b2n mctp + (if [0x84, 0xE1, 0xE3, 0x81, 0x82, 0x83, 0xE0].contains code.toNat then 0 else 2)
     Answers (.spdmRequest mctp code) s (fun t => t.boot.spdm.getD k 0 = s.boot.spdm.getD k 0 + 1 ∧ t.regs = s.regs))) ∧
  (∀ (code : BitVec 8) (s : State), s.boot.pwrok = true → s.pwr.tripped = false →
    Answers (.mctpPacket code) s (fun t => t = s.spdm true code.toNat ∧ t.regs = s.regs))

/-- A trained link with at least 4 lanes sends CAPS and one with fewer is DEAD; a link that goes down, retrains or dies
takes that state with LINKEV; CAPS of another major, of the same side or of an unknown identity refuses the link with
cause 1, 2 or 3, good CAPS makes it UP; HB clears SILENT; HB_SEND sends; STOP is kept and breaks a partner entry in
SYNC with cause 3; silence sets SILENT and suspends a primary. (R418, R419, R420, R434, R436) -/
def Obligations.PairLinkRows : Prop :=
  (∀ (lanes : Fin 17) (s : State), s.alive = true → s.gateClosed 260 = false → s.fb .PAIR_CTL PAIR_CTL.EN = true → s.domState 260 = 0 →
    s.plink = 1 →
    (4 ≤ lanes.val → Answers (.pairLinkTrained lanes) s (fun t => t.plink = 1 ∧
      t.fd .PAIR_LINK PAIR_LINK.LANES = pairLanes lanes.val ∧ t.pair.sent = s.pair.sent ++ [⟨0, 0, 0, 0, 0, s.capsData⟩])) ∧
    (lanes.val < 4 → Answers (.pairLinkTrained lanes) s (fun t => t.plink = 4 ∧ t.pair = s.pair))) ∧
  (∀ (st : Fin 3) (lanes : Fin 17) (s : State), s.alive = true → s.plink ≠ 0 → Answers (.pairLinkDown st lanes) s (fun t =>
    t.plink = (if st.val = 2 then 4 else st.val) ∧ t.fd .PAIR_LINK PAIR_LINK.LANES = pairLanes lanes.val ∧
    t.fd .PAIR_STATUS PAIR_STATUS.LINKEV = 1)) ∧
  (∀ (c : CapsIn) (s : State), s.alive = true → s.gateClosed 260 = false → s.plink = 1 →
    s.fd .PAIR_LINK PAIR_LINK.LANES ≠ 0 →
    (c.major ≠ 1 → Answers (.pairCaps c) s (fun t => t.plink = 3 ∧ t.fd .PAIR_LINK PAIR_LINK.CAUSE = 1)) ∧
    (c.major = 1 → c.side = s.fb .BOOT_STRAP BOOT_STRAP.PAIR_SIDE → Answers (.pairCaps c) s (fun t => t.plink = 3 ∧
      t.fd .PAIR_LINK PAIR_LINK.CAUSE = 2)) ∧
    (c.major = 1 → c.side ≠ s.fb .BOOT_STRAP BOOT_STRAP.PAIR_SIDE → c.idOk = false → Answers (.pairCaps c) s (fun t =>
      t.plink = 3 ∧ t.fd .PAIR_LINK PAIR_LINK.CAUSE = 3)) ∧
    (c.major = 1 → c.side ≠ s.fb .BOOT_STRAP BOOT_STRAP.PAIR_SIDE → c.idOk = true →
      c.feat % 2 = 1 ∨ 8 ≤ s.fd .PAIR_LINK PAIR_LINK.LANES → Answers (.pairCaps c) s (fun t => t.plink = 2 ∧
        t.pair.peerPkg = c.pkg % 512 ∧ t.fd .PAIR_LINK PAIR_LINK.FEAT = c.feat % 8))) ∧
  (∀ s : State, s.pairUp = true →
    Answers .pairHb s (fun t => t.fd .PAIR_LINK PAIR_LINK.SILENT = 0 ∧ t.plink = 2 ∧ t.pair = s.pair) ∧
    Answers .pairHbSend s (fun t => t.pair.sent = s.pair.sent ++ [⟨4, 0, 0, 0, 0, 0⟩] ∧ t.regs = s.regs) ∧
    (s.pair.entries.l = [] → Answers .pairStop s (fun t => t.pair.stopSeen = true ∧ t.plink = 2)) ∧
    (∀ n m, n < 16 → s.pair.entries.l = [(n, m)] → s.mst n = 1 → s.mpartner n = true → Answers .pairStop s (fun t =>
      t.pair.stopSeen = true ∧ t.mst n = 5 ∧ t.fd .PAIR_MP_STAT PAIR_MP_STAT.CAUSE 0 n = 3))) ∧
  (∀ (n : Nat) (m : Mirror) (s : State), n < 16 → s.alive = true → s.fb .PAIR_CTL PAIR_CTL.EN = true →
    s.pair.entries.l = [(n, m)] → s.mpartner n = false → s.mst n = 2 → Answers .pairSilence s (fun t =>
      t.fd .PAIR_LINK PAIR_LINK.SILENT = 1 ∧ t.mst n = 3 ∧ (t.mirror n).capturing = false))

/-- A capture whose cores stand at boundaries and whose images and sweeps can be done ends in the cut: marking starts anew
and the marked lines are to be shipped; one that took too long counts a skip; a line still to be shipped is sent as
SHIP with what memory holds; when all are shipped SEAL goes out with their number; the partner writes a shipped line
and keeps the old one; an agreeing SEAL commits with COMMIT, another breaks the entry with cause 2; COMMIT of the
frame lets its held output leave. (R424, R426, R427, R428, R429, R430, R431, R432) -/
def Obligations.PairFrames : Prop :=
  (∀ (n : Fin 16) (s u v : State), s.alive = true → (s.mirror n).capturing = true →
    (∀ c, c ∈ s.pairCores n → (s.core c).capturable = true ∧ (s.core c).stq = [] ∧ (s.core c).sbuf = []) →
    State.captureImages n (s.pairCores n) 0 s = (true, u) → State.sweepAll (List.range 12) u = (true, v) →
    Answers (.captureCut n) s (fun t => (t.mirror n).capturing = false ∧ (t.mirror n).committed = false ∧
      (t.mirror n).marks = [] ∧ t.mem = v.mem ∧ ((v.mirror n).bulk ≠ 1 → (t.mirror n).ship = (v.mirror n).marks))) ∧
  (∀ (n : Fin 16) (s : State), s.alive = true → (s.mirror n).capturing = true →
    (∀ c, c ∈ s.pairCores n → (s.core c).capturable = true ∧ (s.core c).stq = [] ∧ (s.core c).sbuf = []) → s.imagesAtHome n →
    (∀ d, d < 12 → s.sweepLines d = [] ∧ (s.die d).wb = []) →
    Answers (.captureCut n) s (fun t => (t.mirror n).capturing = false ∧ (t.mirror n).committed = false ∧
      (t.mirror n).sealed = false ∧ (t.mirror n).marks = [] ∧
      ((s.mirror n).bulk ≠ 1 → ∀ line, line ∈ (s.mirror n).marks → line ∈ (t.mirror n).ship) ∧
      ((s.mirror n).bulk = 1 → (t.mirror n).bulk = 2) ∧
      ((s.mirror n).switching = true → (t.mirror n).stopped = s.pairCores n))) ∧
  (∀ (n : Fin 16) (s : State), s.alive = true → (s.mirror n).capturing = true → Answers (.captureAbandon n) s (fun t =>
    (t.mirror n).capturing = false ∧
    t.fd .PAIR_MP_CNT PAIR_MP_CNT.SKIPS 0 n = satInc PAIR_MP_CNT.SKIPS.len (s.fd .PAIR_MP_CNT PAIR_MP_CNT.SKIPS 0 n) ∧
    (s.mst n = 2 → t.fd .PAIR_STATUS PAIR_STATUS.MOVR = 1))) ∧
  (∀ (n : Fin 16) (line : Nat) (s : State), s.shipping n = true → s.mirrorHolds n line = true → (s.mirror n).toShip line = true →
    Answers (.shipLine n line) s (fun t => t.mirror n = (s.mirror n).shipped line ∧ ∃ m, t.pair.sent = s.pair.sent ++ [m] ∧
      m.typ = 1 ∧ m.entry = n.val ∧ m.arg = line ∧ m.frame = (s.mirror n).frame ∧ m.data = (s.memRead line).data)) ∧
  (∀ (n : Fin 16) (s : State), s.shipping n = true → s.allShipped n = true → Answers (.sealSend n) s (fun t =>
    (t.mirror n).sealed = true ∧ t.pair.sent = s.pair.sent ++ [⟨2, n, 0, (s.mirror n).frame, (s.mirror n).ships, 0⟩])) ∧
  (∀ (m : PairIn) (s : State), s.pairUp = true → s.mpartner m.entry = true → s.mst m.entry = 1 ∨ s.mst m.entry = 2 →
    (let u := s.pairHeard
     (u.undoRoom = true →
       (let o := u.readLine pairNode (m.arg % 2 ^ 49) false
        let w := o.2.writeLine pairNode (m.arg % 2 ^ 49) false fullMask m.data m.psn
        o.1.status = .ok → w.1.status = .ok → Answers (.pairShip m) s (fun t => t.mem = w.2.mem ∧
          t.mirror m.entry = { w.2.mirror m.entry with
            performed := (w.2.mirror m.entry).performed + 1
            undo := ⟨m.arg % 2 ^ 49, m.frame, o.1.data, o.1.poison⟩ :: (w.2.mirror m.entry).undo }))) ∧
     (s.undoRoom = true → atHome s (m.arg % 2 ^ 49) → Answers (.pairShip m) s (fun t => t.mirror m.entry =
       { s.mirror m.entry with
         performed := (s.mirror m.entry).performed + 1
         undo := ⟨m.arg % 2 ^ 49, m.frame, (s.memRead (m.arg % 2 ^ 49)).data, (s.memRead (m.arg % 2 ^ 49)).poison⟩ ::
           (s.mirror m.entry).undo })) ∧
     ((s.mirror m.entry).performed = m.arg % 2 ^ 49 → Answers (.pairSeal m) s (fun t => t.mst m.entry = 2 ∧
       t.fd .PAIR_MP_STAT PAIR_MP_STAT.CFRAME 0 m.entry = m.frame % 2 ^ 48 ∧ (t.mirror m.entry).undo = [] ∧
       t.pair.sent = s.pair.sent ++ [⟨3, m.entry, 0, m.frame, 0, 0⟩])) ∧
     ((s.mirror m.entry).performed ≠ m.arg % 2 ^ 49 → Answers (.pairSeal m) s (fun t => t.mst m.entry = 5 ∧
       t.fd .PAIR_MP_STAT PAIR_MP_STAT.CAUSE 0 m.entry = 2 ∧ t.pair.sent = s.pair.sent ++ [⟨3, m.entry, 0, m.frame, 1, 0⟩])))) ∧
  (∀ (m : PairIn) (s : State), s.pairUp = true → s.mpartner m.entry = false → s.mst m.entry = 1 ∨ s.mst m.entry = 2 →
    (s.mirror m.entry).sealed = true → (s.mirror m.entry).committed = false → m.frame = (s.mirror m.entry).frame →
    (m.arg % 16 = 0 → (s.mirror m.entry).switching = false → Answers (.pairCommit m) s (fun t => ∃ u : State,
      u.mst m.entry = 2 ∧ u.fd .PAIR_MP_STAT PAIR_MP_STAT.CFRAME 0 m.entry = m.frame % 2 ^ 48 ∧
      (u.mirror m.entry).committed = true ∧
      t = (u.releaseHold (fun h => h.entry == m.entry.val && decide (h.frame ≤ m.frame))).releaseWacks m.entry m.frame)) ∧
    (m.arg % 16 = 0 → s.nothingHeld → Answers (.pairCommit m) s (fun t => t.mst m.entry = 2 ∧
      t.fd .PAIR_MP_STAT PAIR_MP_STAT.CFRAME 0 m.entry = m.frame % 2 ^ 48 ∧ (t.mirror m.entry).committed = true ∧
      ((s.mirror m.entry).switching = true → (s.mirror m.entry).stopped ≠ [] →
        t.pair.sent = s.pair.sent ++ [⟨7, m.entry, 0, m.frame, 0, 0⟩]))) ∧
    (m.arg % 16 ≠ 0 → s.nothingHeld → Answers (.pairCommit m) s (fun t => t.mst m.entry = 5 ∧
      t.fd .PAIR_MP_STAT PAIR_MP_STAT.CAUSE 0 m.entry = 2 ∧ t.mirror m.entry = Mirror.reset)) ∧
    (m.arg % 16 ≠ 0 → Answers (.pairCommit m) s (fun t => ∃ u : State, u.mst m.entry = 5 ∧
      u.fd .PAIR_MP_STAT PAIR_MP_STAT.CAUSE 0 m.entry = 2 ∧ t = u.releaseAll m.entry)))

/-- START of a valid primary in OFF or RESUMED over a link that is UP sends OPEN, and else sets CERR; a partner matches an
OPEN, enters SYNC and answers, and a mismatch breaks it with cause 1; a primary that waits matches the answer; SWITCH
marks a primary in MIRROR; BREAK of a live primary turns it OFF and lets its output leave; RESUME marks a partner in
MIRROR; CLEAR turns BROKEN and RESUMED OFF; a partner that resumes rolls back, loads its cores and is RESUMED with
FOEV; SWITCH and SWACK exchange the roles. (R423, R434, R436, R437, R438) -/
def Obligations.PairCommands : Prop :=
  (∀ (n : Fin 16) (s : State), s.alive = true →
    (s.mst n = 0 ∨ s.mst n = 4 → s.fb .PAIR_MP_CTL PAIR_MP_CTL.V 0 n = true → s.mpartner n = false → s.plink = 2 →
      (s.mirror n).opening = false → Answers (.pairStart n) s (fun t => (t.mirror n).opening = true ∧
        t.pair.sent = s.pair.sent ++ [⟨6, n, 0, 0, 0, s.openData n⟩])) ∧
    (s.plink ≠ 2 → Answers (.pairStart n) s (fun t => t.pair = s.pair ∧ t.fd .PAIR_STATUS PAIR_STATUS.CERR = 1)) ∧
    (s.mst n = 2 → s.mpartner n = false → (s.fd .PAIR_LINK PAIR_LINK.FEAT).testBit 1 = true → Answers (.pairSwitch n) s (fun t =>
      t.mirror n = { s.mirror n with switching := true } ∧ t.regs = s.regs)) ∧
    (s.mst n = 1 ∨ s.mst n = 2 ∨ s.mst n = 3 → s.mpartner n = false → Answers (.pairBreak n) s (fun t => ∃ u : State,
      u.mst n = 0 ∧ u.mirror n = Mirror.reset ∧ t = u.releaseAll n)) ∧
    (s.mst n = 1 ∨ s.mst n = 2 ∨ s.mst n = 3 → s.mpartner n = false → s.nothingHeld → Answers (.pairBreak n) s (fun t =>
      t.mst n = 0 ∧ t.mirror n = Mirror.reset)) ∧
    (s.mst n = 2 → s.mpartner n = true → Answers (.pairResume n) s (fun t => (t.mirror n).resuming = true ∧ t.regs = s.regs)) ∧
    (s.mst n = 5 ∨ s.mst n = 4 → Answers (.pairClear n) s (fun t => t.mst n = 0 ∧ t.mirror n = Mirror.reset)) ∧
    (s.mst n = 0 → Answers (.pairSwitch n) s (fun t => t.pair = s.pair ∧ t.fd .PAIR_STATUS PAIR_STATUS.CERR = 1) ∧
      Answers (.pairBreak n) s (fun t => t.pair = s.pair ∧ t.fd .PAIR_STATUS PAIR_STATUS.CERR = 1) ∧
      Answers (.pairResume n) s (fun t => t.pair = s.pair ∧ t.fd .PAIR_STATUS PAIR_STATUS.CERR = 1) ∧
      Answers (.pairClear n) s (fun t => t.pair = s.pair ∧ t.fd .PAIR_STATUS PAIR_STATUS.CERR = 1))) ∧
  (∀ (m : PairIn) (s : State), s.pairUp = true →
    (s.mpartner m.entry = true → s.openMatches m = true → Answers (.pairOpen m) s (fun t => t.mst m.entry = 1 ∧
      t.pair.sent = s.pair.sent ++ [⟨6, m.entry, 0, 0, 0, s.openData m.entry⟩])) ∧
    (s.mpartner m.entry = true → s.openMatches m = false → Answers (.pairOpen m) s (fun t => t.mst m.entry = 5 ∧
      t.fd .PAIR_MP_STAT PAIR_MP_STAT.CAUSE 0 m.entry = 1)) ∧
    (s.mpartner m.entry = false → (s.mirror m.entry).opening = true → s.openMatches m = true → Answers (.pairOpen m) s (fun t =>
      t.mst m.entry = 1 ∧ (t.mirror m.entry).bulk = 1 ∧ (t.mirror m.entry).opening = false))) ∧
  (∀ (n : Fin 16) (s u v : State), s.alive = true → s.mpartner n = true → (s.mirror n).resuming = true ∨ s.peerGone = true →
    s.mst n = 2 → s.rollBack n = (true, u) → State.resumeCores n (u.pairCores n) 0 u = some v →
    Answers (.resumption n) s (fun t => t.mst n = 4 ∧ t.mirror n = Mirror.reset ∧ t.fd .PAIR_STATUS PAIR_STATUS.FOEV = 1 ∧
      t.mem = v.mem ∧ t.cores = v.cores)) ∧
  (∀ (n : Fin 16) (s : State), s.alive = true → s.mpartner n = true → (s.mirror n).resuming = true ∨ s.peerGone = true →
    s.mst n = 2 → (∀ u ∈ (s.mirror n).undo, atHome s u.line) → s.imagesAtHome n → s.coresEmpty n →
    Answers (.resumption n) s (fun t => t.mst n = 4 ∧ t.mirror n = Mirror.reset ∧ t.fd .PAIR_STATUS PAIR_STATUS.FOEV = 1 ∧
      ∀ c ∈ s.pairCores n, (t.core c).run = .run ∧ (t.core c).sec = false ∧ (t.core c).release = true)) ∧
  (∀ (m : PairIn) (s : State), s.pairUp = true → s.mpartner m.entry = true → s.mst m.entry = 2 → s.imagesAtHome m.entry →
    s.coresEmpty m.entry →
    Answers (.pairSwitchMsg m) s (fun t => t.mpartner m.entry = false ∧ (t.mirror m.entry).committed = true ∧
      t.pair.sent = s.pair.sent ++ [⟨8, m.entry, 0, m.frame, 0, 0⟩] ∧
      ∀ c ∈ s.pairCores m.entry, (t.core c).run = .run ∧ (t.core c).sec = false ∧ (t.core c).release = true)) ∧
  (∀ (m : PairIn) (s v : State), s.pairUp = true → s.mpartner m.entry = true → s.mst m.entry = 2 →
    State.resumeCores m.entry (s.pairHeard.pairCores m.entry) 0 s.pairHeard = some v →
    Answers (.pairSwitchMsg m) s (fun t => t.mpartner m.entry = false ∧ (t.mirror m.entry).committed = true ∧ t.cores = v.cores ∧
      t.pair.sent = v.pair.sent ++ [⟨8, m.entry, 0, m.frame, 0, 0⟩])) ∧
  (∀ (m : PairIn) (s : State), s.pairUp = true → s.mpartner m.entry = false → s.mst m.entry = 2 →
    (s.mirror m.entry).switchSent = true →
    Answers (.pairSwack m) s (fun t => ∃ u : State, u.mpartner m.entry = true ∧
      u.mirror m.entry = Mirror.reset ∧ t = (u.pairCores m.entry).foldl (fun s c => s.coreBeginReset c) u) ∧
    (s.pair.hold = [] → s.coresEmpty m.entry → s.err.halted = false → Answers (.pairSwack m) s (fun t =>
      t.mpartner m.entry = true ∧ t.mirror m.entry = Mirror.reset ∧
      ∀ c ∈ s.pairCores m.entry, s.domState c < 3 → (t.core c).run = .resetting)))

/-- For every command c and every state s, a step of s with c at the front of its queue is exec of c on s with the queue's
rest. (R45, R96) -/
def Obligations.StepRunsFront : Prop :=
  ∀ (c : Instr) (rest : List Instr) (s : State), step { s with pending := c :: rest } = exec c { s with pending := rest }

/-- Where a core's reset ends (its stores are visible and its lines have left, and neither its die nor a stopped boot
holds it), g1 to g31, p1 to p7, every vector register and every accumulator are zero, every C_ register is zero
(translation off, C_NCTL, C_NFLAGS, C_ACCST and C_NTRAP zero), the core is at M in the secure world with interrupts
disabled; released, it runs from C_START and the rest is the same. (R58, R108) -/
def Obligations.CoreResetState : Prop :=
  ∀ (n : CoreNo) (s : State), s.alive = true → (s.core n).run = .resetting → s.dieHolding n = false → (s.core n).sbuf = [] →
    (s.core n).l2.l = [] →
    ∃ t u : State, exec (.coreResetDone n) s = .next t ∧ exec (.coreRelease n) t = .next u ∧
      (u.core n).pc = u.rg .C_START n &&& 0xFFFFFFFFFFFFFC ∧ (u.core n).run = .run ∧
      ∀ c : Core, c = t.core n ∨ c = u.core n →
        (∀ r : BitVec 5, c.rg r = 0) ∧ (∀ r : BitVec 3, r ≠ 0 → c.rp r = false) ∧ c.lvl = .m ∧ c.sec = true ∧ c.ie = false ∧
        (∀ k : Nat, c.cr k = 0) ∧ (∀ r, c.rv r = 0) ∧ (∀ r, c.ra r = 0)

/-- For a sender outside every slice that a reply reaches, while no halted core has an instruction to execute: a swarm
write that reaches no instance is answered OK at once and no register, shadow, core, home, slot, die or memory
changes; a swarm read that reaches none is answered OK with zero. (R37) -/
def Obligations.EmptySwarmGroup : Prop :=
  ∀ (i : Init) (off width f : Nat) (write : Bool) (data : Word) (s : State), s.alive = true → i.slice = 0xFF →
    regAccessOk off width = true → s.swarmAt off = some (f, []) → s.replyPasses i.node i.gen = true → noDebug s →
    Answers (.swarmAccess i off width write data) s (fun t => t.regs = s.regs ∧ t.shad = s.shad ∧ t.held = s.held ∧
      t.cores = s.cores ∧ t.mem = s.mem ∧ t.homes = s.homes ∧ t.slots = s.slots ∧ t.dies = s.dies ∧
      ∃ q r : Msg, t.net.taken = s.net.taken ++ [q, r] ∧ r.cls = 5 ∧ r.op = 2 ∧ r.dst = i.node ∧ r.tag = i.tag ∧ r.status = .ok ∧
        r.data = 0)

/-- In every state in which power is not good and every waiting command is one that asks for power, a step leaves memory,
registers, cores and dies as they are, takes the command away, and power is still off: the invariant is kept by every
step. The fall of PWROK leaves such a state when such commands wait. (R476, R520, R536) -/
def Obligations.PowerOffIsKept : Prop :=
  (∀ s t : State, s.powerOff → step s = .next t → t.powerOff ∧ t.mem = s.mem ∧ t.regs = s.regs ∧ t.cores = s.cores ∧
    t.dies = s.dies ∧ t.pending = s.pending.tail) ∧
  (∀ s : State, s.powerOff → ∃ t, step s = .next t) ∧
  (∀ s : State, (∀ c ∈ s.pending, actsWithoutPower c = false) → ∃ t, exec .pwrokFall s = .next t ∧ t.powerOff)

/-- For every core instruction, with every operand at every value its encoding admits, decoding its word at its core gives
that instruction back; and whatever instruction a word decodes to, that instruction's word is the word: no bit is
dropped and no two instructions share a word. Left out are the rows that are an MTC to one register, which share MTC's
words, and MCALL with the whole service, which shares MCALL's word. (R73, R74, R75, R125, R126) -/
def Obligations.DecodeEncode : Prop :=
  (∀ (i : Instr) (w : BitVec 32), encode i = some w → sharesWord i = false → ∃ c, decodeWord c w = some i) ∧
  (∀ (c : CoreNo) (w : BitVec 32) (i : Instr), decodeWord c w = some i → encode i = some w ∧ sharesWord i = false)
end

