-- ==== Sys2Proof/Laws/KMap.lean ====
section
/-! SUPPORT. The sparse map: what reading finds after writing, and that writing keeps the canonical form. -/
namespace Sys2Proof.Machine

variable {α : Type}

theorem kfind_kinsert_self (k : Nat) (v : α) (l : List (Nat × α)) : kfind k (kinsert k v l) = some v := by
  induction l with
  | nil => simp [kinsert, kfind]
  | cons h t ih =>
    obtain ⟨a, w⟩ := h
    unfold kinsert
    by_cases h1 : a = k
    · simp [h1, kfind]
    · by_cases h2 : k < a
      · simp [h1, h2, kfind]
      · simp [h1, h2, kfind, ih]

theorem kfind_kinsert_ne {j k : Nat} (v : α) (l : List (Nat × α)) (hj : j ≠ k) :
    kfind j (kinsert k v l) = kfind j l := by
  induction l with
  | nil => simp [kinsert, kfind, hj.symm]
  | cons h t ih =>
    obtain ⟨a, w⟩ := h
    unfold kinsert
    by_cases h1 : a = k
    · subst h1; simp [kfind, hj.symm]
    · by_cases h2 : k < a
      · simp [h1, h2, kfind, hj.symm]
      · simp only [h1, h2, if_false, kfind, ih]

@[simp] theorem KMap.get?_set_self (m : KMap α) (k : Nat) (v : α) : (m.set k v).get? k = some v :=
  kfind_kinsert_self k v m.l

theorem KMap.get?_set_ne (m : KMap α) {j k : Nat} (v : α) (h : j ≠ k) : (m.set k v).get? j = m.get? j :=
  kfind_kinsert_ne v m.l h

@[simp] theorem KMap.getD_set_self (m : KMap α) (k : Nat) (v d : α) : (m.set k v).getD k d = v := by
  simp [KMap.getD]

theorem KMap.getD_set_ne (m : KMap α) {j k : Nat} (v d : α) (h : j ≠ k) : (m.set k v).getD j d = m.getD j d := by
  simp [KMap.getD, KMap.get?_set_ne m v h]

@[simp] theorem KMap.getD_empty (k : Nat) (d : α) : (KMap.empty : KMap α).getD k d = d := rfl

/-- The keys of a pair list rise strictly from above `b`. -/
def kabove (b : Nat) : List (Nat × α) → Prop
  | [] => True
  | (a, _) :: t => b < a ∧ kabove a t

theorem kwf_cons (a : Nat) (v : α) (t : List (Nat × α)) : kwf ((a, v) :: t) = true ↔ kabove a t := by
  induction t generalizing a v with
  | nil => simp [kwf, kabove]
  | cons h t ih =>
    obtain ⟨b, w⟩ := h
    simp [kwf, kabove, ih b w]

theorem kabove_mono {a b : Nat} {l : List (Nat × α)} (h : a ≤ b) (hl : kabove b l) : kabove a l := by
  cases l with
  | nil => trivial
  | cons x t => exact ⟨Nat.lt_of_le_of_lt h hl.1, hl.2⟩

theorem kabove_kinsert {b k : Nat} (v : α) {l : List (Nat × α)} (hb : b < k) (h : kabove b l) :
    kabove b (kinsert k v l) := by
  induction l generalizing b with
  | nil => exact ⟨hb, trivial⟩
  | cons x t ih =>
    obtain ⟨a, w⟩ := x
    unfold kinsert
    by_cases h1 : a = k
    · subst h1; simp only [if_true]; exact ⟨h.1, h.2⟩
    · by_cases h2 : k < a
      · simp only [h1, h2, if_true, if_false]; exact ⟨hb, h2, h.2⟩
      · simp only [h1, h2, if_false]; exact ⟨h.1, ih (by omega) h.2⟩

theorem kwf_kinsert (k : Nat) (v : α) (l : List (Nat × α)) (h : kwf l = true) : kwf (kinsert k v l) = true := by
  cases l with
  | nil => rfl
  | cons x t =>
    obtain ⟨a, w⟩ := x
    rw [kwf_cons] at h
    unfold kinsert
    by_cases h1 : a = k
    · subst h1; simp only [if_true]; rw [kwf_cons]; exact h
    · by_cases h2 : k < a
      · simp only [h1, h2, if_true, if_false]; rw [kwf_cons]; exact ⟨h2, h⟩
      · simp only [h1, h2, if_false]; rw [kwf_cons]; exact kabove_kinsert v (by omega) h

/-- Writing keeps the canonical form. -/
theorem KMap.set_wf (m : KMap α) (k : Nat) (v : α) (h : m.wf = true) : (m.set k v).wf = true := kwf_kinsert k v m.l h

theorem KMap.empty_wf : (KMap.empty : KMap α).wf = true := rfl

theorem kabove_filter {b : Nat} (p : Nat × α → Bool) {l : List (Nat × α)} (h : kabove b l) : kabove b (l.filter p) := by
  induction l generalizing b with
  | nil => trivial
  | cons x t ih =>
    by_cases hp : p x
    · simp only [List.filter_cons, hp, if_true]; exact ⟨h.1, ih h.2⟩
    · simp only [List.filter_cons, hp]; exact ih (kabove_mono (Nat.le_of_lt h.1) h.2)

theorem kwf_filter (p : Nat × α → Bool) (l : List (Nat × α)) (h : kwf l = true) : kwf (l.filter p) = true := by
  induction l with
  | nil => rfl
  | cons x t ih =>
    obtain ⟨a, w⟩ := x
    have h0 := (kwf_cons a w t).mp h
    by_cases hp : p (a, w)
    · simp only [List.filter_cons, hp, if_true]; rw [kwf_cons]; exact kabove_filter p h0
    · simp only [List.filter_cons, hp]
      apply ih
      cases t with
      | nil => rfl
      | cons y u => obtain ⟨b, z⟩ := y; rw [kwf_cons]; exact h0.2

/-- Taking pairs out keeps the canonical form. -/
theorem KMap.keep_wf (m : KMap α) (p : Nat → Bool) (h : m.wf = true) : (m.keep p).wf = true := kwf_filter _ m.l h

theorem KMap.erase_wf (m : KMap α) (k : Nat) (h : m.wf = true) : (m.erase k).wf = true := m.keep_wf _ h

end Sys2Proof.Machine
end

