-- ==== Sys2Proof/Laws/State.lean ====
section
/-! SUPPORT. What each update of the state leaves alone, field by field; and what the update of a numbered part leaves. -/
namespace Sys2Proof.Machine

@[simp] theorem setCore_pending (s : State) (n : Nat) (c : Core) : (s.setCore n c).pending = s.pending := rfl
@[simp] theorem setCore_fresh (s : State) (n : Nat) (c : Core) : (s.setCore n c).fresh = s.fresh := rfl
@[simp] theorem setCore_regs (s : State) (n : Nat) (c : Core) : (s.setCore n c).regs = s.regs := rfl
@[simp] theorem setCore_shad (s : State) (n : Nat) (c : Core) : (s.setCore n c).shad = s.shad := rfl
@[simp] theorem setCore_rwo (s : State) (n : Nat) (c : Core) : (s.setCore n c).rwo = s.rwo := rfl
@[simp] theorem setCore_dies (s : State) (n : Nat) (c : Core) : (s.setCore n c).dies = s.dies := rfl
@[simp] theorem setCore_homes (s : State) (n : Nat) (c : Core) : (s.setCore n c).homes = s.homes := rfl
@[simp] theorem setCore_chans (s : State) (n : Nat) (c : Core) : (s.setCore n c).chans = s.chans := rfl
@[simp] theorem setCore_msc (s : State) (n : Nat) (c : Core) : (s.setCore n c).msc = s.msc := rfl
@[simp] theorem setCore_upsets (s : State) (n : Nat) (c : Core) : (s.setCore n c).upsets = s.upsets := rfl
@[simp] theorem setCore_mem (s : State) (n : Nat) (c : Core) : (s.setCore n c).mem = s.mem := rfl
@[simp] theorem setCore_chk (s : State) (n : Nat) (c : Core) : (s.setCore n c).chk = s.chk := rfl
@[simp] theorem setCore_tck (s : State) (n : Nat) (c : Core) : (s.setCore n c).tck = s.tck := rfl
@[simp] theorem setCore_held (s : State) (n : Nat) (c : Core) : (s.setCore n c).held = s.held := rfl
@[simp] theorem setCore_srcs (s : State) (n : Nat) (c : Core) : (s.setCore n c).srcs = s.srcs := rfl
@[simp] theorem setCore_grpLast (s : State) (n : Nat) (c : Core) : (s.setCore n c).grpLast = s.grpLast := rfl
@[simp] theorem setCore_owners (s : State) (n : Nat) (c : Core) : (s.setCore n c).owners = s.owners := rfl
@[simp] theorem setCore_err (s : State) (n : Nat) (c : Core) : (s.setCore n c).err = s.err := rfl
@[simp] theorem setCore_slots (s : State) (n : Nat) (c : Core) : (s.setCore n c).slots = s.slots := rfl
@[simp] theorem setCore_waitq (s : State) (n : Nat) (c : Core) : (s.setCore n c).waitq = s.waitq := rfl
@[simp] theorem setCore_poolEdge (s : State) (n : Nat) (c : Core) : (s.setCore n c).poolEdge = s.poolEdge := rfl
@[simp] theorem setCore_d2d (s : State) (n : Nat) (c : Core) : (s.setCore n c).d2d = s.d2d := rfl
@[simp] theorem setCore_net (s : State) (n : Nat) (c : Core) : (s.setCore n c).net = s.net := rfl
@[simp] theorem setCore_dmas (s : State) (n : Nat) (c : Core) : (s.setCore n c).dmas = s.dmas := rfl
@[simp] theorem setCore_hb (s : State) (n : Nat) (c : Core) : (s.setCore n c).hb = s.hb := rfl
@[simp] theorem setCore_vsf (s : State) (n : Nat) (c : Core) : (s.setCore n c).vsf = s.vsf := rfl
@[simp] theorem setCore_fab (s : State) (n : Nat) (c : Core) : (s.setCore n c).fab = s.fab := rfl
@[simp] theorem setCore_pair (s : State) (n : Nat) (c : Core) : (s.setCore n c).pair = s.pair := rfl
@[simp] theorem setCore_pwr (s : State) (n : Nat) (c : Core) : (s.setCore n c).pwr = s.pwr := rfl
@[simp] theorem setCore_boot (s : State) (n : Nat) (c : Core) : (s.setCore n c).boot = s.boot := rfl
@[simp] theorem setCore_tap (s : State) (n : Nat) (c : Core) : (s.setCore n c).tap = s.tap := rfl
@[simp] theorem setCore_pins (s : State) (n : Nat) (c : Core) : (s.setCore n c).pins = s.pins := rfl
@[simp] theorem modCore_pending (s : State) (n : Nat) (f : Core → Core) : (s.modCore n f).pending = s.pending := rfl
@[simp] theorem modCore_fresh (s : State) (n : Nat) (f : Core → Core) : (s.modCore n f).fresh = s.fresh := rfl
@[simp] theorem modCore_regs (s : State) (n : Nat) (f : Core → Core) : (s.modCore n f).regs = s.regs := rfl
@[simp] theorem modCore_shad (s : State) (n : Nat) (f : Core → Core) : (s.modCore n f).shad = s.shad := rfl
@[simp] theorem modCore_rwo (s : State) (n : Nat) (f : Core → Core) : (s.modCore n f).rwo = s.rwo := rfl
@[simp] theorem modCore_dies (s : State) (n : Nat) (f : Core → Core) : (s.modCore n f).dies = s.dies := rfl
@[simp] theorem modCore_homes (s : State) (n : Nat) (f : Core → Core) : (s.modCore n f).homes = s.homes := rfl
@[simp] theorem modCore_chans (s : State) (n : Nat) (f : Core → Core) : (s.modCore n f).chans = s.chans := rfl
@[simp] theorem modCore_msc (s : State) (n : Nat) (f : Core → Core) : (s.modCore n f).msc = s.msc := rfl
@[simp] theorem modCore_upsets (s : State) (n : Nat) (f : Core → Core) : (s.modCore n f).upsets = s.upsets := rfl
@[simp] theorem modCore_mem (s : State) (n : Nat) (f : Core → Core) : (s.modCore n f).mem = s.mem := rfl
@[simp] theorem modCore_chk (s : State) (n : Nat) (f : Core → Core) : (s.modCore n f).chk = s.chk := rfl
@[simp] theorem modCore_tck (s : State) (n : Nat) (f : Core → Core) : (s.modCore n f).tck = s.tck := rfl
@[simp] theorem modCore_held (s : State) (n : Nat) (f : Core → Core) : (s.modCore n f).held = s.held := rfl
@[simp] theorem modCore_srcs (s : State) (n : Nat) (f : Core → Core) : (s.modCore n f).srcs = s.srcs := rfl
@[simp] theorem modCore_grpLast (s : State) (n : Nat) (f : Core → Core) : (s.modCore n f).grpLast = s.grpLast := rfl
@[simp] theorem modCore_owners (s : State) (n : Nat) (f : Core → Core) : (s.modCore n f).owners = s.owners := rfl
@[simp] theorem modCore_err (s : State) (n : Nat) (f : Core → Core) : (s.modCore n f).err = s.err := rfl
@[simp] theorem modCore_slots (s : State) (n : Nat) (f : Core → Core) : (s.modCore n f).slots = s.slots := rfl
@[simp] theorem modCore_waitq (s : State) (n : Nat) (f : Core → Core) : (s.modCore n f).waitq = s.waitq := rfl
@[simp] theorem modCore_poolEdge (s : State) (n : Nat) (f : Core → Core) : (s.modCore n f).poolEdge = s.poolEdge := rfl
@[simp] theorem modCore_d2d (s : State) (n : Nat) (f : Core → Core) : (s.modCore n f).d2d = s.d2d := rfl
@[simp] theorem modCore_net (s : State) (n : Nat) (f : Core → Core) : (s.modCore n f).net = s.net := rfl
@[simp] theorem modCore_dmas (s : State) (n : Nat) (f : Core → Core) : (s.modCore n f).dmas = s.dmas := rfl
@[simp] theorem modCore_hb (s : State) (n : Nat) (f : Core → Core) : (s.modCore n f).hb = s.hb := rfl
@[simp] theorem modCore_vsf (s : State) (n : Nat) (f : Core → Core) : (s.modCore n f).vsf = s.vsf := rfl
@[simp] theorem modCore_fab (s : State) (n : Nat) (f : Core → Core) : (s.modCore n f).fab = s.fab := rfl
@[simp] theorem modCore_pair (s : State) (n : Nat) (f : Core → Core) : (s.modCore n f).pair = s.pair := rfl
@[simp] theorem modCore_pwr (s : State) (n : Nat) (f : Core → Core) : (s.modCore n f).pwr = s.pwr := rfl
@[simp] theorem modCore_boot (s : State) (n : Nat) (f : Core → Core) : (s.modCore n f).boot = s.boot := rfl
@[simp] theorem modCore_tap (s : State) (n : Nat) (f : Core → Core) : (s.modCore n f).tap = s.tap := rfl
@[simp] theorem modCore_pins (s : State) (n : Nat) (f : Core → Core) : (s.modCore n f).pins = s.pins := rfl
@[simp] theorem setDie_pending (s : State) (n : Nat) (v : Die) : (s.setDie n v).pending = s.pending := rfl
@[simp] theorem setDie_fresh (s : State) (n : Nat) (v : Die) : (s.setDie n v).fresh = s.fresh := rfl
@[simp] theorem setDie_regs (s : State) (n : Nat) (v : Die) : (s.setDie n v).regs = s.regs := rfl
@[simp] theorem setDie_shad (s : State) (n : Nat) (v : Die) : (s.setDie n v).shad = s.shad := rfl
@[simp] theorem setDie_rwo (s : State) (n : Nat) (v : Die) : (s.setDie n v).rwo = s.rwo := rfl
@[simp] theorem setDie_cores (s : State) (n : Nat) (v : Die) : (s.setDie n v).cores = s.cores := rfl
@[simp] theorem setDie_homes (s : State) (n : Nat) (v : Die) : (s.setDie n v).homes = s.homes := rfl
@[simp] theorem setDie_chans (s : State) (n : Nat) (v : Die) : (s.setDie n v).chans = s.chans := rfl
@[simp] theorem setDie_msc (s : State) (n : Nat) (v : Die) : (s.setDie n v).msc = s.msc := rfl
@[simp] theorem setDie_upsets (s : State) (n : Nat) (v : Die) : (s.setDie n v).upsets = s.upsets := rfl
@[simp] theorem setDie_mem (s : State) (n : Nat) (v : Die) : (s.setDie n v).mem = s.mem := rfl
@[simp] theorem setDie_chk (s : State) (n : Nat) (v : Die) : (s.setDie n v).chk = s.chk := rfl
@[simp] theorem setDie_tck (s : State) (n : Nat) (v : Die) : (s.setDie n v).tck = s.tck := rfl
@[simp] theorem setDie_held (s : State) (n : Nat) (v : Die) : (s.setDie n v).held = s.held := rfl
@[simp] theorem setDie_srcs (s : State) (n : Nat) (v : Die) : (s.setDie n v).srcs = s.srcs := rfl
@[simp] theorem setDie_grpLast (s : State) (n : Nat) (v : Die) : (s.setDie n v).grpLast = s.grpLast := rfl
@[simp] theorem setDie_owners (s : State) (n : Nat) (v : Die) : (s.setDie n v).owners = s.owners := rfl
@[simp] theorem setDie_err (s : State) (n : Nat) (v : Die) : (s.setDie n v).err = s.err := rfl
@[simp] theorem setDie_slots (s : State) (n : Nat) (v : Die) : (s.setDie n v).slots = s.slots := rfl
@[simp] theorem setDie_waitq (s : State) (n : Nat) (v : Die) : (s.setDie n v).waitq = s.waitq := rfl
@[simp] theorem setDie_poolEdge (s : State) (n : Nat) (v : Die) : (s.setDie n v).poolEdge = s.poolEdge := rfl
@[simp] theorem setDie_d2d (s : State) (n : Nat) (v : Die) : (s.setDie n v).d2d = s.d2d := rfl
@[simp] theorem setDie_net (s : State) (n : Nat) (v : Die) : (s.setDie n v).net = s.net := rfl
@[simp] theorem setDie_dmas (s : State) (n : Nat) (v : Die) : (s.setDie n v).dmas = s.dmas := rfl
@[simp] theorem setDie_hb (s : State) (n : Nat) (v : Die) : (s.setDie n v).hb = s.hb := rfl
@[simp] theorem setDie_vsf (s : State) (n : Nat) (v : Die) : (s.setDie n v).vsf = s.vsf := rfl
@[simp] theorem setDie_fab (s : State) (n : Nat) (v : Die) : (s.setDie n v).fab = s.fab := rfl
@[simp] theorem setDie_pair (s : State) (n : Nat) (v : Die) : (s.setDie n v).pair = s.pair := rfl
@[simp] theorem setDie_pwr (s : State) (n : Nat) (v : Die) : (s.setDie n v).pwr = s.pwr := rfl
@[simp] theorem setDie_boot (s : State) (n : Nat) (v : Die) : (s.setDie n v).boot = s.boot := rfl
@[simp] theorem setDie_tap (s : State) (n : Nat) (v : Die) : (s.setDie n v).tap = s.tap := rfl
@[simp] theorem setDie_pins (s : State) (n : Nat) (v : Die) : (s.setDie n v).pins = s.pins := rfl
@[simp] theorem setHome_pending (s : State) (n : Nat) (v : Home) : (s.setHome n v).pending = s.pending := rfl
@[simp] theorem setHome_fresh (s : State) (n : Nat) (v : Home) : (s.setHome n v).fresh = s.fresh := rfl
@[simp] theorem setHome_regs (s : State) (n : Nat) (v : Home) : (s.setHome n v).regs = s.regs := rfl
@[simp] theorem setHome_shad (s : State) (n : Nat) (v : Home) : (s.setHome n v).shad = s.shad := rfl
@[simp] theorem setHome_rwo (s : State) (n : Nat) (v : Home) : (s.setHome n v).rwo = s.rwo := rfl
@[simp] theorem setHome_cores (s : State) (n : Nat) (v : Home) : (s.setHome n v).cores = s.cores := rfl
@[simp] theorem setHome_dies (s : State) (n : Nat) (v : Home) : (s.setHome n v).dies = s.dies := rfl
@[simp] theorem setHome_chans (s : State) (n : Nat) (v : Home) : (s.setHome n v).chans = s.chans := rfl
@[simp] theorem setHome_msc (s : State) (n : Nat) (v : Home) : (s.setHome n v).msc = s.msc := rfl
@[simp] theorem setHome_upsets (s : State) (n : Nat) (v : Home) : (s.setHome n v).upsets = s.upsets := rfl
@[simp] theorem setHome_mem (s : State) (n : Nat) (v : Home) : (s.setHome n v).mem = s.mem := rfl
@[simp] theorem setHome_chk (s : State) (n : Nat) (v : Home) : (s.setHome n v).chk = s.chk := rfl
@[simp] theorem setHome_tck (s : State) (n : Nat) (v : Home) : (s.setHome n v).tck = s.tck := rfl
@[simp] theorem setHome_held (s : State) (n : Nat) (v : Home) : (s.setHome n v).held = s.held := rfl
@[simp] theorem setHome_srcs (s : State) (n : Nat) (v : Home) : (s.setHome n v).srcs = s.srcs := rfl
@[simp] theorem setHome_grpLast (s : State) (n : Nat) (v : Home) : (s.setHome n v).grpLast = s.grpLast := rfl
@[simp] theorem setHome_owners (s : State) (n : Nat) (v : Home) : (s.setHome n v).owners = s.owners := rfl
@[simp] theorem setHome_err (s : State) (n : Nat) (v : Home) : (s.setHome n v).err = s.err := rfl
@[simp] theorem setHome_slots (s : State) (n : Nat) (v : Home) : (s.setHome n v).slots = s.slots := rfl
@[simp] theorem setHome_waitq (s : State) (n : Nat) (v : Home) : (s.setHome n v).waitq = s.waitq := rfl
@[simp] theorem setHome_poolEdge (s : State) (n : Nat) (v : Home) : (s.setHome n v).poolEdge = s.poolEdge := rfl
@[simp] theorem setHome_d2d (s : State) (n : Nat) (v : Home) : (s.setHome n v).d2d = s.d2d := rfl
@[simp] theorem setHome_net (s : State) (n : Nat) (v : Home) : (s.setHome n v).net = s.net := rfl
@[simp] theorem setHome_dmas (s : State) (n : Nat) (v : Home) : (s.setHome n v).dmas = s.dmas := rfl
@[simp] theorem setHome_hb (s : State) (n : Nat) (v : Home) : (s.setHome n v).hb = s.hb := rfl
@[simp] theorem setHome_vsf (s : State) (n : Nat) (v : Home) : (s.setHome n v).vsf = s.vsf := rfl
@[simp] theorem setHome_fab (s : State) (n : Nat) (v : Home) : (s.setHome n v).fab = s.fab := rfl
@[simp] theorem setHome_pair (s : State) (n : Nat) (v : Home) : (s.setHome n v).pair = s.pair := rfl
@[simp] theorem setHome_pwr (s : State) (n : Nat) (v : Home) : (s.setHome n v).pwr = s.pwr := rfl
@[simp] theorem setHome_boot (s : State) (n : Nat) (v : Home) : (s.setHome n v).boot = s.boot := rfl
@[simp] theorem setHome_tap (s : State) (n : Nat) (v : Home) : (s.setHome n v).tap = s.tap := rfl
@[simp] theorem setHome_pins (s : State) (n : Nat) (v : Home) : (s.setHome n v).pins = s.pins := rfl
@[simp] theorem setChan_pending (s : State) (n : Nat) (v : Chan) : (s.setChan n v).pending = s.pending := rfl
@[simp] theorem setChan_fresh (s : State) (n : Nat) (v : Chan) : (s.setChan n v).fresh = s.fresh := rfl
@[simp] theorem setChan_regs (s : State) (n : Nat) (v : Chan) : (s.setChan n v).regs = s.regs := rfl
@[simp] theorem setChan_shad (s : State) (n : Nat) (v : Chan) : (s.setChan n v).shad = s.shad := rfl
@[simp] theorem setChan_rwo (s : State) (n : Nat) (v : Chan) : (s.setChan n v).rwo = s.rwo := rfl
@[simp] theorem setChan_cores (s : State) (n : Nat) (v : Chan) : (s.setChan n v).cores = s.cores := rfl
@[simp] theorem setChan_dies (s : State) (n : Nat) (v : Chan) : (s.setChan n v).dies = s.dies := rfl
@[simp] theorem setChan_homes (s : State) (n : Nat) (v : Chan) : (s.setChan n v).homes = s.homes := rfl
@[simp] theorem setChan_msc (s : State) (n : Nat) (v : Chan) : (s.setChan n v).msc = s.msc := rfl
@[simp] theorem setChan_upsets (s : State) (n : Nat) (v : Chan) : (s.setChan n v).upsets = s.upsets := rfl
@[simp] theorem setChan_mem (s : State) (n : Nat) (v : Chan) : (s.setChan n v).mem = s.mem := rfl
@[simp] theorem setChan_chk (s : State) (n : Nat) (v : Chan) : (s.setChan n v).chk = s.chk := rfl
@[simp] theorem setChan_tck (s : State) (n : Nat) (v : Chan) : (s.setChan n v).tck = s.tck := rfl
@[simp] theorem setChan_held (s : State) (n : Nat) (v : Chan) : (s.setChan n v).held = s.held := rfl
@[simp] theorem setChan_srcs (s : State) (n : Nat) (v : Chan) : (s.setChan n v).srcs = s.srcs := rfl
@[simp] theorem setChan_grpLast (s : State) (n : Nat) (v : Chan) : (s.setChan n v).grpLast = s.grpLast := rfl
@[simp] theorem setChan_owners (s : State) (n : Nat) (v : Chan) : (s.setChan n v).owners = s.owners := rfl
@[simp] theorem setChan_err (s : State) (n : Nat) (v : Chan) : (s.setChan n v).err = s.err := rfl
@[simp] theorem setChan_slots (s : State) (n : Nat) (v : Chan) : (s.setChan n v).slots = s.slots := rfl
@[simp] theorem setChan_waitq (s : State) (n : Nat) (v : Chan) : (s.setChan n v).waitq = s.waitq := rfl
@[simp] theorem setChan_poolEdge (s : State) (n : Nat) (v : Chan) : (s.setChan n v).poolEdge = s.poolEdge := rfl
@[simp] theorem setChan_d2d (s : State) (n : Nat) (v : Chan) : (s.setChan n v).d2d = s.d2d := rfl
@[simp] theorem setChan_net (s : State) (n : Nat) (v : Chan) : (s.setChan n v).net = s.net := rfl
@[simp] theorem setChan_dmas (s : State) (n : Nat) (v : Chan) : (s.setChan n v).dmas = s.dmas := rfl
@[simp] theorem setChan_hb (s : State) (n : Nat) (v : Chan) : (s.setChan n v).hb = s.hb := rfl
@[simp] theorem setChan_vsf (s : State) (n : Nat) (v : Chan) : (s.setChan n v).vsf = s.vsf := rfl
@[simp] theorem setChan_fab (s : State) (n : Nat) (v : Chan) : (s.setChan n v).fab = s.fab := rfl
@[simp] theorem setChan_pair (s : State) (n : Nat) (v : Chan) : (s.setChan n v).pair = s.pair := rfl
@[simp] theorem setChan_pwr (s : State) (n : Nat) (v : Chan) : (s.setChan n v).pwr = s.pwr := rfl
@[simp] theorem setChan_boot (s : State) (n : Nat) (v : Chan) : (s.setChan n v).boot = s.boot := rfl
@[simp] theorem setChan_tap (s : State) (n : Nat) (v : Chan) : (s.setChan n v).tap = s.tap := rfl
@[simp] theorem setChan_pins (s : State) (n : Nat) (v : Chan) : (s.setChan n v).pins = s.pins := rfl
@[simp] theorem setDma_pending (s : State) (n : Nat) (v : Dma) : (s.setDma n v).pending = s.pending := rfl
@[simp] theorem setDma_fresh (s : State) (n : Nat) (v : Dma) : (s.setDma n v).fresh = s.fresh := rfl
@[simp] theorem setDma_regs (s : State) (n : Nat) (v : Dma) : (s.setDma n v).regs = s.regs := rfl
@[simp] theorem setDma_shad (s : State) (n : Nat) (v : Dma) : (s.setDma n v).shad = s.shad := rfl
@[simp] theorem setDma_rwo (s : State) (n : Nat) (v : Dma) : (s.setDma n v).rwo = s.rwo := rfl
@[simp] theorem setDma_cores (s : State) (n : Nat) (v : Dma) : (s.setDma n v).cores = s.cores := rfl
@[simp] theorem setDma_dies (s : State) (n : Nat) (v : Dma) : (s.setDma n v).dies = s.dies := rfl
@[simp] theorem setDma_homes (s : State) (n : Nat) (v : Dma) : (s.setDma n v).homes = s.homes := rfl
@[simp] theorem setDma_chans (s : State) (n : Nat) (v : Dma) : (s.setDma n v).chans = s.chans := rfl
@[simp] theorem setDma_msc (s : State) (n : Nat) (v : Dma) : (s.setDma n v).msc = s.msc := rfl
@[simp] theorem setDma_upsets (s : State) (n : Nat) (v : Dma) : (s.setDma n v).upsets = s.upsets := rfl
@[simp] theorem setDma_mem (s : State) (n : Nat) (v : Dma) : (s.setDma n v).mem = s.mem := rfl
@[simp] theorem setDma_chk (s : State) (n : Nat) (v : Dma) : (s.setDma n v).chk = s.chk := rfl
@[simp] theorem setDma_tck (s : State) (n : Nat) (v : Dma) : (s.setDma n v).tck = s.tck := rfl
@[simp] theorem setDma_held (s : State) (n : Nat) (v : Dma) : (s.setDma n v).held = s.held := rfl
@[simp] theorem setDma_srcs (s : State) (n : Nat) (v : Dma) : (s.setDma n v).srcs = s.srcs := rfl
@[simp] theorem setDma_grpLast (s : State) (n : Nat) (v : Dma) : (s.setDma n v).grpLast = s.grpLast := rfl
@[simp] theorem setDma_owners (s : State) (n : Nat) (v : Dma) : (s.setDma n v).owners = s.owners := rfl
@[simp] theorem setDma_err (s : State) (n : Nat) (v : Dma) : (s.setDma n v).err = s.err := rfl
@[simp] theorem setDma_slots (s : State) (n : Nat) (v : Dma) : (s.setDma n v).slots = s.slots := rfl
@[simp] theorem setDma_waitq (s : State) (n : Nat) (v : Dma) : (s.setDma n v).waitq = s.waitq := rfl
@[simp] theorem setDma_poolEdge (s : State) (n : Nat) (v : Dma) : (s.setDma n v).poolEdge = s.poolEdge := rfl
@[simp] theorem setDma_d2d (s : State) (n : Nat) (v : Dma) : (s.setDma n v).d2d = s.d2d := rfl
@[simp] theorem setDma_net (s : State) (n : Nat) (v : Dma) : (s.setDma n v).net = s.net := rfl
@[simp] theorem setDma_hb (s : State) (n : Nat) (v : Dma) : (s.setDma n v).hb = s.hb := rfl
@[simp] theorem setDma_vsf (s : State) (n : Nat) (v : Dma) : (s.setDma n v).vsf = s.vsf := rfl
@[simp] theorem setDma_fab (s : State) (n : Nat) (v : Dma) : (s.setDma n v).fab = s.fab := rfl
@[simp] theorem setDma_pair (s : State) (n : Nat) (v : Dma) : (s.setDma n v).pair = s.pair := rfl
@[simp] theorem setDma_pwr (s : State) (n : Nat) (v : Dma) : (s.setDma n v).pwr = s.pwr := rfl
@[simp] theorem setDma_boot (s : State) (n : Nat) (v : Dma) : (s.setDma n v).boot = s.boot := rfl
@[simp] theorem setDma_tap (s : State) (n : Nat) (v : Dma) : (s.setDma n v).tap = s.tap := rfl
@[simp] theorem setDma_pins (s : State) (n : Nat) (v : Dma) : (s.setDma n v).pins = s.pins := rfl
@[simp] theorem setSlot_pending (s : State) (n : Nat) (v : Slot) : (s.setSlot n v).pending = s.pending := rfl
@[simp] theorem setSlot_fresh (s : State) (n : Nat) (v : Slot) : (s.setSlot n v).fresh = s.fresh := rfl
@[simp] theorem setSlot_regs (s : State) (n : Nat) (v : Slot) : (s.setSlot n v).regs = s.regs := rfl
@[simp] theorem setSlot_shad (s : State) (n : Nat) (v : Slot) : (s.setSlot n v).shad = s.shad := rfl
@[simp] theorem setSlot_rwo (s : State) (n : Nat) (v : Slot) : (s.setSlot n v).rwo = s.rwo := rfl
@[simp] theorem setSlot_cores (s : State) (n : Nat) (v : Slot) : (s.setSlot n v).cores = s.cores := rfl
@[simp] theorem setSlot_dies (s : State) (n : Nat) (v : Slot) : (s.setSlot n v).dies = s.dies := rfl
@[simp] theorem setSlot_homes (s : State) (n : Nat) (v : Slot) : (s.setSlot n v).homes = s.homes := rfl
@[simp] theorem setSlot_chans (s : State) (n : Nat) (v : Slot) : (s.setSlot n v).chans = s.chans := rfl
@[simp] theorem setSlot_msc (s : State) (n : Nat) (v : Slot) : (s.setSlot n v).msc = s.msc := rfl
@[simp] theorem setSlot_upsets (s : State) (n : Nat) (v : Slot) : (s.setSlot n v).upsets = s.upsets := rfl
@[simp] theorem setSlot_mem (s : State) (n : Nat) (v : Slot) : (s.setSlot n v).mem = s.mem := rfl
@[simp] theorem setSlot_chk (s : State) (n : Nat) (v : Slot) : (s.setSlot n v).chk = s.chk := rfl
@[simp] theorem setSlot_tck (s : State) (n : Nat) (v : Slot) : (s.setSlot n v).tck = s.tck := rfl
@[simp] theorem setSlot_held (s : State) (n : Nat) (v : Slot) : (s.setSlot n v).held = s.held := rfl
@[simp] theorem setSlot_srcs (s : State) (n : Nat) (v : Slot) : (s.setSlot n v).srcs = s.srcs := rfl
@[simp] theorem setSlot_grpLast (s : State) (n : Nat) (v : Slot) : (s.setSlot n v).grpLast = s.grpLast := rfl
@[simp] theorem setSlot_owners (s : State) (n : Nat) (v : Slot) : (s.setSlot n v).owners = s.owners := rfl
@[simp] theorem setSlot_err (s : State) (n : Nat) (v : Slot) : (s.setSlot n v).err = s.err := rfl
@[simp] theorem setSlot_waitq (s : State) (n : Nat) (v : Slot) : (s.setSlot n v).waitq = s.waitq := rfl
@[simp] theorem setSlot_poolEdge (s : State) (n : Nat) (v : Slot) : (s.setSlot n v).poolEdge = s.poolEdge := rfl
@[simp] theorem setSlot_d2d (s : State) (n : Nat) (v : Slot) : (s.setSlot n v).d2d = s.d2d := rfl
@[simp] theorem setSlot_net (s : State) (n : Nat) (v : Slot) : (s.setSlot n v).net = s.net := rfl
@[simp] theorem setSlot_dmas (s : State) (n : Nat) (v : Slot) : (s.setSlot n v).dmas = s.dmas := rfl
@[simp] theorem setSlot_hb (s : State) (n : Nat) (v : Slot) : (s.setSlot n v).hb = s.hb := rfl
@[simp] theorem setSlot_vsf (s : State) (n : Nat) (v : Slot) : (s.setSlot n v).vsf = s.vsf := rfl
@[simp] theorem setSlot_fab (s : State) (n : Nat) (v : Slot) : (s.setSlot n v).fab = s.fab := rfl
@[simp] theorem setSlot_pair (s : State) (n : Nat) (v : Slot) : (s.setSlot n v).pair = s.pair := rfl
@[simp] theorem setSlot_pwr (s : State) (n : Nat) (v : Slot) : (s.setSlot n v).pwr = s.pwr := rfl
@[simp] theorem setSlot_boot (s : State) (n : Nat) (v : Slot) : (s.setSlot n v).boot = s.boot := rfl
@[simp] theorem setSlot_tap (s : State) (n : Nat) (v : Slot) : (s.setSlot n v).tap = s.tap := rfl
@[simp] theorem setSlot_pins (s : State) (n : Nat) (v : Slot) : (s.setSlot n v).pins = s.pins := rfl
@[simp] theorem setSrc_pending (s : State) (n : Nat) (v : Src) : (s.setSrc n v).pending = s.pending := rfl
@[simp] theorem setSrc_fresh (s : State) (n : Nat) (v : Src) : (s.setSrc n v).fresh = s.fresh := rfl
@[simp] theorem setSrc_regs (s : State) (n : Nat) (v : Src) : (s.setSrc n v).regs = s.regs := rfl
@[simp] theorem setSrc_shad (s : State) (n : Nat) (v : Src) : (s.setSrc n v).shad = s.shad := rfl
@[simp] theorem setSrc_rwo (s : State) (n : Nat) (v : Src) : (s.setSrc n v).rwo = s.rwo := rfl
@[simp] theorem setSrc_cores (s : State) (n : Nat) (v : Src) : (s.setSrc n v).cores = s.cores := rfl
@[simp] theorem setSrc_dies (s : State) (n : Nat) (v : Src) : (s.setSrc n v).dies = s.dies := rfl
@[simp] theorem setSrc_homes (s : State) (n : Nat) (v : Src) : (s.setSrc n v).homes = s.homes := rfl
@[simp] theorem setSrc_chans (s : State) (n : Nat) (v : Src) : (s.setSrc n v).chans = s.chans := rfl
@[simp] theorem setSrc_msc (s : State) (n : Nat) (v : Src) : (s.setSrc n v).msc = s.msc := rfl
@[simp] theorem setSrc_upsets (s : State) (n : Nat) (v : Src) : (s.setSrc n v).upsets = s.upsets := rfl
@[simp] theorem setSrc_mem (s : State) (n : Nat) (v : Src) : (s.setSrc n v).mem = s.mem := rfl
@[simp] theorem setSrc_chk (s : State) (n : Nat) (v : Src) : (s.setSrc n v).chk = s.chk := rfl
@[simp] theorem setSrc_tck (s : State) (n : Nat) (v : Src) : (s.setSrc n v).tck = s.tck := rfl
@[simp] theorem setSrc_held (s : State) (n : Nat) (v : Src) : (s.setSrc n v).held = s.held := rfl
@[simp] theorem setSrc_grpLast (s : State) (n : Nat) (v : Src) : (s.setSrc n v).grpLast = s.grpLast := rfl
@[simp] theorem setSrc_owners (s : State) (n : Nat) (v : Src) : (s.setSrc n v).owners = s.owners := rfl
@[simp] theorem setSrc_err (s : State) (n : Nat) (v : Src) : (s.setSrc n v).err = s.err := rfl
@[simp] theorem setSrc_slots (s : State) (n : Nat) (v : Src) : (s.setSrc n v).slots = s.slots := rfl
@[simp] theorem setSrc_waitq (s : State) (n : Nat) (v : Src) : (s.setSrc n v).waitq = s.waitq := rfl
@[simp] theorem setSrc_poolEdge (s : State) (n : Nat) (v : Src) : (s.setSrc n v).poolEdge = s.poolEdge := rfl
@[simp] theorem setSrc_d2d (s : State) (n : Nat) (v : Src) : (s.setSrc n v).d2d = s.d2d := rfl
@[simp] theorem setSrc_net (s : State) (n : Nat) (v : Src) : (s.setSrc n v).net = s.net := rfl
@[simp] theorem setSrc_dmas (s : State) (n : Nat) (v : Src) : (s.setSrc n v).dmas = s.dmas := rfl
@[simp] theorem setSrc_hb (s : State) (n : Nat) (v : Src) : (s.setSrc n v).hb = s.hb := rfl
@[simp] theorem setSrc_vsf (s : State) (n : Nat) (v : Src) : (s.setSrc n v).vsf = s.vsf := rfl
@[simp] theorem setSrc_fab (s : State) (n : Nat) (v : Src) : (s.setSrc n v).fab = s.fab := rfl
@[simp] theorem setSrc_pair (s : State) (n : Nat) (v : Src) : (s.setSrc n v).pair = s.pair := rfl
@[simp] theorem setSrc_pwr (s : State) (n : Nat) (v : Src) : (s.setSrc n v).pwr = s.pwr := rfl
@[simp] theorem setSrc_boot (s : State) (n : Nat) (v : Src) : (s.setSrc n v).boot = s.boot := rfl
@[simp] theorem setSrc_tap (s : State) (n : Nat) (v : Src) : (s.setSrc n v).tap = s.tap := rfl
@[simp] theorem setSrc_pins (s : State) (n : Nat) (v : Src) : (s.setSrc n v).pins = s.pins := rfl
@[simp] theorem setPort_pending (s : State) (n : Nat) (v : PortSide) : (s.setPort n v).pending = s.pending := rfl
@[simp] theorem setPort_fresh (s : State) (n : Nat) (v : PortSide) : (s.setPort n v).fresh = s.fresh := rfl
@[simp] theorem setPort_regs (s : State) (n : Nat) (v : PortSide) : (s.setPort n v).regs = s.regs := rfl
@[simp] theorem setPort_shad (s : State) (n : Nat) (v : PortSide) : (s.setPort n v).shad = s.shad := rfl
@[simp] theorem setPort_rwo (s : State) (n : Nat) (v : PortSide) : (s.setPort n v).rwo = s.rwo := rfl
@[simp] theorem setPort_cores (s : State) (n : Nat) (v : PortSide) : (s.setPort n v).cores = s.cores := rfl
@[simp] theorem setPort_dies (s : State) (n : Nat) (v : PortSide) : (s.setPort n v).dies = s.dies := rfl
@[simp] theorem setPort_homes (s : State) (n : Nat) (v : PortSide) : (s.setPort n v).homes = s.homes := rfl
@[simp] theorem setPort_chans (s : State) (n : Nat) (v : PortSide) : (s.setPort n v).chans = s.chans := rfl
@[simp] theorem setPort_msc (s : State) (n : Nat) (v : PortSide) : (s.setPort n v).msc = s.msc := rfl
@[simp] theorem setPort_upsets (s : State) (n : Nat) (v : PortSide) : (s.setPort n v).upsets = s.upsets := rfl
@[simp] theorem setPort_mem (s : State) (n : Nat) (v : PortSide) : (s.setPort n v).mem = s.mem := rfl
@[simp] theorem setPort_chk (s : State) (n : Nat) (v : PortSide) : (s.setPort n v).chk = s.chk := rfl
@[simp] theorem setPort_tck (s : State) (n : Nat) (v : PortSide) : (s.setPort n v).tck = s.tck := rfl
@[simp] theorem setPort_held (s : State) (n : Nat) (v : PortSide) : (s.setPort n v).held = s.held := rfl
@[simp] theorem setPort_srcs (s : State) (n : Nat) (v : PortSide) : (s.setPort n v).srcs = s.srcs := rfl
@[simp] theorem setPort_grpLast (s : State) (n : Nat) (v : PortSide) : (s.setPort n v).grpLast = s.grpLast := rfl
@[simp] theorem setPort_owners (s : State) (n : Nat) (v : PortSide) : (s.setPort n v).owners = s.owners := rfl
@[simp] theorem setPort_err (s : State) (n : Nat) (v : PortSide) : (s.setPort n v).err = s.err := rfl
@[simp] theorem setPort_slots (s : State) (n : Nat) (v : PortSide) : (s.setPort n v).slots = s.slots := rfl
@[simp] theorem setPort_waitq (s : State) (n : Nat) (v : PortSide) : (s.setPort n v).waitq = s.waitq := rfl
@[simp] theorem setPort_poolEdge (s : State) (n : Nat) (v : PortSide) : (s.setPort n v).poolEdge = s.poolEdge := rfl
@[simp] theorem setPort_net (s : State) (n : Nat) (v : PortSide) : (s.setPort n v).net = s.net := rfl
@[simp] theorem setPort_dmas (s : State) (n : Nat) (v : PortSide) : (s.setPort n v).dmas = s.dmas := rfl
@[simp] theorem setPort_hb (s : State) (n : Nat) (v : PortSide) : (s.setPort n v).hb = s.hb := rfl
@[simp] theorem setPort_vsf (s : State) (n : Nat) (v : PortSide) : (s.setPort n v).vsf = s.vsf := rfl
@[simp] theorem setPort_fab (s : State) (n : Nat) (v : PortSide) : (s.setPort n v).fab = s.fab := rfl
@[simp] theorem setPort_pair (s : State) (n : Nat) (v : PortSide) : (s.setPort n v).pair = s.pair := rfl
@[simp] theorem setPort_pwr (s : State) (n : Nat) (v : PortSide) : (s.setPort n v).pwr = s.pwr := rfl
@[simp] theorem setPort_boot (s : State) (n : Nat) (v : PortSide) : (s.setPort n v).boot = s.boot := rfl
@[simp] theorem setPort_tap (s : State) (n : Nat) (v : PortSide) : (s.setPort n v).tap = s.tap := rfl
@[simp] theorem setPort_pins (s : State) (n : Nat) (v : PortSide) : (s.setPort n v).pins = s.pins := rfl
@[simp] theorem setLink_pending (s : State) (n : Nat) (v : Link) : (s.setLink n v).pending = s.pending := rfl
@[simp] theorem setLink_fresh (s : State) (n : Nat) (v : Link) : (s.setLink n v).fresh = s.fresh := rfl
@[simp] theorem setLink_regs (s : State) (n : Nat) (v : Link) : (s.setLink n v).regs = s.regs := rfl
@[simp] theorem setLink_shad (s : State) (n : Nat) (v : Link) : (s.setLink n v).shad = s.shad := rfl
@[simp] theorem setLink_rwo (s : State) (n : Nat) (v : Link) : (s.setLink n v).rwo = s.rwo := rfl
@[simp] theorem setLink_cores (s : State) (n : Nat) (v : Link) : (s.setLink n v).cores = s.cores := rfl
@[simp] theorem setLink_dies (s : State) (n : Nat) (v : Link) : (s.setLink n v).dies = s.dies := rfl
@[simp] theorem setLink_homes (s : State) (n : Nat) (v : Link) : (s.setLink n v).homes = s.homes := rfl
@[simp] theorem setLink_chans (s : State) (n : Nat) (v : Link) : (s.setLink n v).chans = s.chans := rfl
@[simp] theorem setLink_msc (s : State) (n : Nat) (v : Link) : (s.setLink n v).msc = s.msc := rfl
@[simp] theorem setLink_upsets (s : State) (n : Nat) (v : Link) : (s.setLink n v).upsets = s.upsets := rfl
@[simp] theorem setLink_mem (s : State) (n : Nat) (v : Link) : (s.setLink n v).mem = s.mem := rfl
@[simp] theorem setLink_chk (s : State) (n : Nat) (v : Link) : (s.setLink n v).chk = s.chk := rfl
@[simp] theorem setLink_tck (s : State) (n : Nat) (v : Link) : (s.setLink n v).tck = s.tck := rfl
@[simp] theorem setLink_held (s : State) (n : Nat) (v : Link) : (s.setLink n v).held = s.held := rfl
@[simp] theorem setLink_srcs (s : State) (n : Nat) (v : Link) : (s.setLink n v).srcs = s.srcs := rfl
@[simp] theorem setLink_grpLast (s : State) (n : Nat) (v : Link) : (s.setLink n v).grpLast = s.grpLast := rfl
@[simp] theorem setLink_owners (s : State) (n : Nat) (v : Link) : (s.setLink n v).owners = s.owners := rfl
@[simp] theorem setLink_err (s : State) (n : Nat) (v : Link) : (s.setLink n v).err = s.err := rfl
@[simp] theorem setLink_slots (s : State) (n : Nat) (v : Link) : (s.setLink n v).slots = s.slots := rfl
@[simp] theorem setLink_waitq (s : State) (n : Nat) (v : Link) : (s.setLink n v).waitq = s.waitq := rfl
@[simp] theorem setLink_poolEdge (s : State) (n : Nat) (v : Link) : (s.setLink n v).poolEdge = s.poolEdge := rfl
@[simp] theorem setLink_d2d (s : State) (n : Nat) (v : Link) : (s.setLink n v).d2d = s.d2d := rfl
@[simp] theorem setLink_net (s : State) (n : Nat) (v : Link) : (s.setLink n v).net = s.net := rfl
@[simp] theorem setLink_dmas (s : State) (n : Nat) (v : Link) : (s.setLink n v).dmas = s.dmas := rfl
@[simp] theorem setLink_hb (s : State) (n : Nat) (v : Link) : (s.setLink n v).hb = s.hb := rfl
@[simp] theorem setLink_vsf (s : State) (n : Nat) (v : Link) : (s.setLink n v).vsf = s.vsf := rfl
@[simp] theorem setLink_pair (s : State) (n : Nat) (v : Link) : (s.setLink n v).pair = s.pair := rfl
@[simp] theorem setLink_pwr (s : State) (n : Nat) (v : Link) : (s.setLink n v).pwr = s.pwr := rfl
@[simp] theorem setLink_boot (s : State) (n : Nat) (v : Link) : (s.setLink n v).boot = s.boot := rfl
@[simp] theorem setLink_tap (s : State) (n : Nat) (v : Link) : (s.setLink n v).tap = s.tap := rfl
@[simp] theorem setLink_pins (s : State) (n : Nat) (v : Link) : (s.setLink n v).pins = s.pins := rfl
@[simp] theorem setMirror_pending (s : State) (n : Nat) (v : Mirror) : (s.setMirror n v).pending = s.pending := rfl
@[simp] theorem setMirror_fresh (s : State) (n : Nat) (v : Mirror) : (s.setMirror n v).fresh = s.fresh := rfl
@[simp] theorem setMirror_regs (s : State) (n : Nat) (v : Mirror) : (s.setMirror n v).regs = s.regs := rfl
@[simp] theorem setMirror_shad (s : State) (n : Nat) (v : Mirror) : (s.setMirror n v).shad = s.shad := rfl
@[simp] theorem setMirror_rwo (s : State) (n : Nat) (v : Mirror) : (s.setMirror n v).rwo = s.rwo := rfl
@[simp] theorem setMirror_cores (s : State) (n : Nat) (v : Mirror) : (s.setMirror n v).cores = s.cores := rfl
@[simp] theorem setMirror_dies (s : State) (n : Nat) (v : Mirror) : (s.setMirror n v).dies = s.dies := rfl
@[simp] theorem setMirror_homes (s : State) (n : Nat) (v : Mirror) : (s.setMirror n v).homes = s.homes := rfl
@[simp] theorem setMirror_chans (s : State) (n : Nat) (v : Mirror) : (s.setMirror n v).chans = s.chans := rfl
@[simp] theorem setMirror_msc (s : State) (n : Nat) (v : Mirror) : (s.setMirror n v).msc = s.msc := rfl
@[simp] theorem setMirror_upsets (s : State) (n : Nat) (v : Mirror) : (s.setMirror n v).upsets = s.upsets := rfl
@[simp] theorem setMirror_mem (s : State) (n : Nat) (v : Mirror) : (s.setMirror n v).mem = s.mem := rfl
@[simp] theorem setMirror_chk (s : State) (n : Nat) (v : Mirror) : (s.setMirror n v).chk = s.chk := rfl
@[simp] theorem setMirror_tck (s : State) (n : Nat) (v : Mirror) : (s.setMirror n v).tck = s.tck := rfl
@[simp] theorem setMirror_held (s : State) (n : Nat) (v : Mirror) : (s.setMirror n v).held = s.held := rfl
@[simp] theorem setMirror_srcs (s : State) (n : Nat) (v : Mirror) : (s.setMirror n v).srcs = s.srcs := rfl
@[simp] theorem setMirror_grpLast (s : State) (n : Nat) (v : Mirror) : (s.setMirror n v).grpLast = s.grpLast := rfl
@[simp] theorem setMirror_owners (s : State) (n : Nat) (v : Mirror) : (s.setMirror n v).owners = s.owners := rfl
@[simp] theorem setMirror_err (s : State) (n : Nat) (v : Mirror) : (s.setMirror n v).err = s.err := rfl
@[simp] theorem setMirror_slots (s : State) (n : Nat) (v : Mirror) : (s.setMirror n v).slots = s.slots := rfl
@[simp] theorem setMirror_waitq (s : State) (n : Nat) (v : Mirror) : (s.setMirror n v).waitq = s.waitq := rfl
@[simp] theorem setMirror_poolEdge (s : State) (n : Nat) (v : Mirror) : (s.setMirror n v).poolEdge = s.poolEdge := rfl
@[simp] theorem setMirror_d2d (s : State) (n : Nat) (v : Mirror) : (s.setMirror n v).d2d = s.d2d := rfl
@[simp] theorem setMirror_net (s : State) (n : Nat) (v : Mirror) : (s.setMirror n v).net = s.net := rfl
@[simp] theorem setMirror_dmas (s : State) (n : Nat) (v : Mirror) : (s.setMirror n v).dmas = s.dmas := rfl
@[simp] theorem setMirror_hb (s : State) (n : Nat) (v : Mirror) : (s.setMirror n v).hb = s.hb := rfl
@[simp] theorem setMirror_vsf (s : State) (n : Nat) (v : Mirror) : (s.setMirror n v).vsf = s.vsf := rfl
@[simp] theorem setMirror_fab (s : State) (n : Nat) (v : Mirror) : (s.setMirror n v).fab = s.fab := rfl
@[simp] theorem setMirror_pwr (s : State) (n : Nat) (v : Mirror) : (s.setMirror n v).pwr = s.pwr := rfl
@[simp] theorem setMirror_boot (s : State) (n : Nat) (v : Mirror) : (s.setMirror n v).boot = s.boot := rfl
@[simp] theorem setMirror_tap (s : State) (n : Nat) (v : Mirror) : (s.setMirror n v).tap = s.tap := rfl
@[simp] theorem setMirror_pins (s : State) (n : Nat) (v : Mirror) : (s.setMirror n v).pins = s.pins := rfl
@[simp] theorem setSlice_pending (s : State) (n : Nat) (v : Slice) : (s.setSlice n v).pending = s.pending := rfl
@[simp] theorem setSlice_fresh (s : State) (n : Nat) (v : Slice) : (s.setSlice n v).fresh = s.fresh := rfl
@[simp] theorem setSlice_regs (s : State) (n : Nat) (v : Slice) : (s.setSlice n v).regs = s.regs := rfl
@[simp] theorem setSlice_shad (s : State) (n : Nat) (v : Slice) : (s.setSlice n v).shad = s.shad := rfl
@[simp] theorem setSlice_rwo (s : State) (n : Nat) (v : Slice) : (s.setSlice n v).rwo = s.rwo := rfl
@[simp] theorem setSlice_cores (s : State) (n : Nat) (v : Slice) : (s.setSlice n v).cores = s.cores := rfl
@[simp] theorem setSlice_dies (s : State) (n : Nat) (v : Slice) : (s.setSlice n v).dies = s.dies := rfl
@[simp] theorem setSlice_homes (s : State) (n : Nat) (v : Slice) : (s.setSlice n v).homes = s.homes := rfl
@[simp] theorem setSlice_chans (s : State) (n : Nat) (v : Slice) : (s.setSlice n v).chans = s.chans := rfl
@[simp] theorem setSlice_msc (s : State) (n : Nat) (v : Slice) : (s.setSlice n v).msc = s.msc := rfl
@[simp] theorem setSlice_upsets (s : State) (n : Nat) (v : Slice) : (s.setSlice n v).upsets = s.upsets := rfl
@[simp] theorem setSlice_mem (s : State) (n : Nat) (v : Slice) : (s.setSlice n v).mem = s.mem := rfl
@[simp] theorem setSlice_chk (s : State) (n : Nat) (v : Slice) : (s.setSlice n v).chk = s.chk := rfl
@[simp] theorem setSlice_tck (s : State) (n : Nat) (v : Slice) : (s.setSlice n v).tck = s.tck := rfl
@[simp] theorem setSlice_held (s : State) (n : Nat) (v : Slice) : (s.setSlice n v).held = s.held := rfl
@[simp] theorem setSlice_srcs (s : State) (n : Nat) (v : Slice) : (s.setSlice n v).srcs = s.srcs := rfl
@[simp] theorem setSlice_grpLast (s : State) (n : Nat) (v : Slice) : (s.setSlice n v).grpLast = s.grpLast := rfl
@[simp] theorem setSlice_owners (s : State) (n : Nat) (v : Slice) : (s.setSlice n v).owners = s.owners := rfl
@[simp] theorem setSlice_err (s : State) (n : Nat) (v : Slice) : (s.setSlice n v).err = s.err := rfl
@[simp] theorem setSlice_slots (s : State) (n : Nat) (v : Slice) : (s.setSlice n v).slots = s.slots := rfl
@[simp] theorem setSlice_waitq (s : State) (n : Nat) (v : Slice) : (s.setSlice n v).waitq = s.waitq := rfl
@[simp] theorem setSlice_poolEdge (s : State) (n : Nat) (v : Slice) : (s.setSlice n v).poolEdge = s.poolEdge := rfl
@[simp] theorem setSlice_d2d (s : State) (n : Nat) (v : Slice) : (s.setSlice n v).d2d = s.d2d := rfl
@[simp] theorem setSlice_net (s : State) (n : Nat) (v : Slice) : (s.setSlice n v).net = s.net := rfl
@[simp] theorem setSlice_dmas (s : State) (n : Nat) (v : Slice) : (s.setSlice n v).dmas = s.dmas := rfl
@[simp] theorem setSlice_hb (s : State) (n : Nat) (v : Slice) : (s.setSlice n v).hb = s.hb := rfl
@[simp] theorem setSlice_fab (s : State) (n : Nat) (v : Slice) : (s.setSlice n v).fab = s.fab := rfl
@[simp] theorem setSlice_pair (s : State) (n : Nat) (v : Slice) : (s.setSlice n v).pair = s.pair := rfl
@[simp] theorem setSlice_pwr (s : State) (n : Nat) (v : Slice) : (s.setSlice n v).pwr = s.pwr := rfl
@[simp] theorem setSlice_boot (s : State) (n : Nat) (v : Slice) : (s.setSlice n v).boot = s.boot := rfl
@[simp] theorem setSlice_tap (s : State) (n : Nat) (v : Slice) : (s.setSlice n v).tap = s.tap := rfl
@[simp] theorem setSlice_pins (s : State) (n : Nat) (v : Slice) : (s.setSlice n v).pins = s.pins := rfl
@[simp] theorem setRg_pending (s : State) (w : Word) (k : RegKind) (x i j : Nat) : (s.setRg w k x i j).pending = s.pending := rfl
@[simp] theorem setRg_fresh (s : State) (w : Word) (k : RegKind) (x i j : Nat) : (s.setRg w k x i j).fresh = s.fresh := rfl
@[simp] theorem setRg_shad (s : State) (w : Word) (k : RegKind) (x i j : Nat) : (s.setRg w k x i j).shad = s.shad := rfl
@[simp] theorem setRg_rwo (s : State) (w : Word) (k : RegKind) (x i j : Nat) : (s.setRg w k x i j).rwo = s.rwo := rfl
@[simp] theorem setRg_cores (s : State) (w : Word) (k : RegKind) (x i j : Nat) : (s.setRg w k x i j).cores = s.cores := rfl
@[simp] theorem setRg_dies (s : State) (w : Word) (k : RegKind) (x i j : Nat) : (s.setRg w k x i j).dies = s.dies := rfl
@[simp] theorem setRg_homes (s : State) (w : Word) (k : RegKind) (x i j : Nat) : (s.setRg w k x i j).homes = s.homes := rfl
@[simp] theorem setRg_chans (s : State) (w : Word) (k : RegKind) (x i j : Nat) : (s.setRg w k x i j).chans = s.chans := rfl
@[simp] theorem setRg_msc (s : State) (w : Word) (k : RegKind) (x i j : Nat) : (s.setRg w k x i j).msc = s.msc := rfl
@[simp] theorem setRg_upsets (s : State) (w : Word) (k : RegKind) (x i j : Nat) : (s.setRg w k x i j).upsets = s.upsets := rfl
@[simp] theorem setRg_mem (s : State) (w : Word) (k : RegKind) (x i j : Nat) : (s.setRg w k x i j).mem = s.mem := rfl
@[simp] theorem setRg_chk (s : State) (w : Word) (k : RegKind) (x i j : Nat) : (s.setRg w k x i j).chk = s.chk := rfl
@[simp] theorem setRg_tck (s : State) (w : Word) (k : RegKind) (x i j : Nat) : (s.setRg w k x i j).tck = s.tck := rfl
@[simp] theorem setRg_held (s : State) (w : Word) (k : RegKind) (x i j : Nat) : (s.setRg w k x i j).held = s.held := rfl
@[simp] theorem setRg_srcs (s : State) (w : Word) (k : RegKind) (x i j : Nat) : (s.setRg w k x i j).srcs = s.srcs := rfl
@[simp] theorem setRg_grpLast (s : State) (w : Word) (k : RegKind) (x i j : Nat) : (s.setRg w k x i j).grpLast = s.grpLast := rfl
@[simp] theorem setRg_owners (s : State) (w : Word) (k : RegKind) (x i j : Nat) : (s.setRg w k x i j).owners = s.owners := rfl
@[simp] theorem setRg_err (s : State) (w : Word) (k : RegKind) (x i j : Nat) : (s.setRg w k x i j).err = s.err := rfl
@[simp] theorem setRg_slots (s : State) (w : Word) (k : RegKind) (x i j : Nat) : (s.setRg w k x i j).slots = s.slots := rfl
@[simp] theorem setRg_waitq (s : State) (w : Word) (k : RegKind) (x i j : Nat) : (s.setRg w k x i j).waitq = s.waitq := rfl
@[simp] theorem setRg_poolEdge (s : State) (w : Word) (k : RegKind) (x i j : Nat) : (s.setRg w k x i j).poolEdge = s.poolEdge := rfl
@[simp] theorem setRg_d2d (s : State) (w : Word) (k : RegKind) (x i j : Nat) : (s.setRg w k x i j).d2d = s.d2d := rfl
@[simp] theorem setRg_net (s : State) (w : Word) (k : RegKind) (x i j : Nat) : (s.setRg w k x i j).net = s.net := rfl
@[simp] theorem setRg_dmas (s : State) (w : Word) (k : RegKind) (x i j : Nat) : (s.setRg w k x i j).dmas = s.dmas := rfl
@[simp] theorem setRg_hb (s : State) (w : Word) (k : RegKind) (x i j : Nat) : (s.setRg w k x i j).hb = s.hb := rfl
@[simp] theorem setRg_vsf (s : State) (w : Word) (k : RegKind) (x i j : Nat) : (s.setRg w k x i j).vsf = s.vsf := rfl
@[simp] theorem setRg_fab (s : State) (w : Word) (k : RegKind) (x i j : Nat) : (s.setRg w k x i j).fab = s.fab := rfl
@[simp] theorem setRg_pair (s : State) (w : Word) (k : RegKind) (x i j : Nat) : (s.setRg w k x i j).pair = s.pair := rfl
@[simp] theorem setRg_pwr (s : State) (w : Word) (k : RegKind) (x i j : Nat) : (s.setRg w k x i j).pwr = s.pwr := rfl
@[simp] theorem setRg_boot (s : State) (w : Word) (k : RegKind) (x i j : Nat) : (s.setRg w k x i j).boot = s.boot := rfl
@[simp] theorem setRg_tap (s : State) (w : Word) (k : RegKind) (x i j : Nat) : (s.setRg w k x i j).tap = s.tap := rfl
@[simp] theorem setRg_pins (s : State) (w : Word) (k : RegKind) (x i j : Nat) : (s.setRg w k x i j).pins = s.pins := rfl
@[simp] theorem setFd_pending (s : State) (k : RegKind) (f : Fld) (v x i j : Nat) : (s.setFd k f v x i j).pending = s.pending := rfl
@[simp] theorem setFd_fresh (s : State) (k : RegKind) (f : Fld) (v x i j : Nat) : (s.setFd k f v x i j).fresh = s.fresh := rfl
@[simp] theorem setFd_shad (s : State) (k : RegKind) (f : Fld) (v x i j : Nat) : (s.setFd k f v x i j).shad = s.shad := rfl
@[simp] theorem setFd_rwo (s : State) (k : RegKind) (f : Fld) (v x i j : Nat) : (s.setFd k f v x i j).rwo = s.rwo := rfl
@[simp] theorem setFd_cores (s : State) (k : RegKind) (f : Fld) (v x i j : Nat) : (s.setFd k f v x i j).cores = s.cores := rfl
@[simp] theorem setFd_dies (s : State) (k : RegKind) (f : Fld) (v x i j : Nat) : (s.setFd k f v x i j).dies = s.dies := rfl
@[simp] theorem setFd_homes (s : State) (k : RegKind) (f : Fld) (v x i j : Nat) : (s.setFd k f v x i j).homes = s.homes := rfl
@[simp] theorem setFd_chans (s : State) (k : RegKind) (f : Fld) (v x i j : Nat) : (s.setFd k f v x i j).chans = s.chans := rfl
@[simp] theorem setFd_msc (s : State) (k : RegKind) (f : Fld) (v x i j : Nat) : (s.setFd k f v x i j).msc = s.msc := rfl
@[simp] theorem setFd_upsets (s : State) (k : RegKind) (f : Fld) (v x i j : Nat) : (s.setFd k f v x i j).upsets = s.upsets := rfl
@[simp] theorem setFd_mem (s : State) (k : RegKind) (f : Fld) (v x i j : Nat) : (s.setFd k f v x i j).mem = s.mem := rfl
@[simp] theorem setFd_chk (s : State) (k : RegKind) (f : Fld) (v x i j : Nat) : (s.setFd k f v x i j).chk = s.chk := rfl
@[simp] theorem setFd_tck (s : State) (k : RegKind) (f : Fld) (v x i j : Nat) : (s.setFd k f v x i j).tck = s.tck := rfl
@[simp] theorem setFd_held (s : State) (k : RegKind) (f : Fld) (v x i j : Nat) : (s.setFd k f v x i j).held = s.held := rfl
@[simp] theorem setFd_srcs (s : State) (k : RegKind) (f : Fld) (v x i j : Nat) : (s.setFd k f v x i j).srcs = s.srcs := rfl
@[simp] theorem setFd_grpLast (s : State) (k : RegKind) (f : Fld) (v x i j : Nat) : (s.setFd k f v x i j).grpLast = s.grpLast := rfl
@[simp] theorem setFd_owners (s : State) (k : RegKind) (f : Fld) (v x i j : Nat) : (s.setFd k f v x i j).owners = s.owners := rfl
@[simp] theorem setFd_err (s : State) (k : RegKind) (f : Fld) (v x i j : Nat) : (s.setFd k f v x i j).err = s.err := rfl
@[simp] theorem setFd_slots (s : State) (k : RegKind) (f : Fld) (v x i j : Nat) : (s.setFd k f v x i j).slots = s.slots := rfl
@[simp] theorem setFd_waitq (s : State) (k : RegKind) (f : Fld) (v x i j : Nat) : (s.setFd k f v x i j).waitq = s.waitq := rfl
@[simp] theorem setFd_poolEdge (s : State) (k : RegKind) (f : Fld) (v x i j : Nat) : (s.setFd k f v x i j).poolEdge = s.poolEdge := rfl
@[simp] theorem setFd_d2d (s : State) (k : RegKind) (f : Fld) (v x i j : Nat) : (s.setFd k f v x i j).d2d = s.d2d := rfl
@[simp] theorem setFd_net (s : State) (k : RegKind) (f : Fld) (v x i j : Nat) : (s.setFd k f v x i j).net = s.net := rfl
@[simp] theorem setFd_dmas (s : State) (k : RegKind) (f : Fld) (v x i j : Nat) : (s.setFd k f v x i j).dmas = s.dmas := rfl
@[simp] theorem setFd_hb (s : State) (k : RegKind) (f : Fld) (v x i j : Nat) : (s.setFd k f v x i j).hb = s.hb := rfl
@[simp] theorem setFd_vsf (s : State) (k : RegKind) (f : Fld) (v x i j : Nat) : (s.setFd k f v x i j).vsf = s.vsf := rfl
@[simp] theorem setFd_fab (s : State) (k : RegKind) (f : Fld) (v x i j : Nat) : (s.setFd k f v x i j).fab = s.fab := rfl
@[simp] theorem setFd_pair (s : State) (k : RegKind) (f : Fld) (v x i j : Nat) : (s.setFd k f v x i j).pair = s.pair := rfl
@[simp] theorem setFd_pwr (s : State) (k : RegKind) (f : Fld) (v x i j : Nat) : (s.setFd k f v x i j).pwr = s.pwr := rfl
@[simp] theorem setFd_boot (s : State) (k : RegKind) (f : Fld) (v x i j : Nat) : (s.setFd k f v x i j).boot = s.boot := rfl
@[simp] theorem setFd_tap (s : State) (k : RegKind) (f : Fld) (v x i j : Nat) : (s.setFd k f v x i j).tap = s.tap := rfl
@[simp] theorem setFd_pins (s : State) (k : RegKind) (f : Fld) (v x i j : Nat) : (s.setFd k f v x i j).pins = s.pins := rfl
@[simp] theorem satFd_pending (s : State) (k : RegKind) (f : Fld) (x i j : Nat) : (s.satFd k f x i j).pending = s.pending := rfl
@[simp] theorem satFd_fresh (s : State) (k : RegKind) (f : Fld) (x i j : Nat) : (s.satFd k f x i j).fresh = s.fresh := rfl
@[simp] theorem satFd_shad (s : State) (k : RegKind) (f : Fld) (x i j : Nat) : (s.satFd k f x i j).shad = s.shad := rfl
@[simp] theorem satFd_rwo (s : State) (k : RegKind) (f : Fld) (x i j : Nat) : (s.satFd k f x i j).rwo = s.rwo := rfl
@[simp] theorem satFd_cores (s : State) (k : RegKind) (f : Fld) (x i j : Nat) : (s.satFd k f x i j).cores = s.cores := rfl
@[simp] theorem satFd_dies (s : State) (k : RegKind) (f : Fld) (x i j : Nat) : (s.satFd k f x i j).dies = s.dies := rfl
@[simp] theorem satFd_homes (s : State) (k : RegKind) (f : Fld) (x i j : Nat) : (s.satFd k f x i j).homes = s.homes := rfl
@[simp] theorem satFd_chans (s : State) (k : RegKind) (f : Fld) (x i j : Nat) : (s.satFd k f x i j).chans = s.chans := rfl
@[simp] theorem satFd_msc (s : State) (k : RegKind) (f : Fld) (x i j : Nat) : (s.satFd k f x i j).msc = s.msc := rfl
@[simp] theorem satFd_upsets (s : State) (k : RegKind) (f : Fld) (x i j : Nat) : (s.satFd k f x i j).upsets = s.upsets := rfl
@[simp] theorem satFd_mem (s : State) (k : RegKind) (f : Fld) (x i j : Nat) : (s.satFd k f x i j).mem = s.mem := rfl
@[simp] theorem satFd_chk (s : State) (k : RegKind) (f : Fld) (x i j : Nat) : (s.satFd k f x i j).chk = s.chk := rfl
@[simp] theorem satFd_tck (s : State) (k : RegKind) (f : Fld) (x i j : Nat) : (s.satFd k f x i j).tck = s.tck := rfl
@[simp] theorem satFd_held (s : State) (k : RegKind) (f : Fld) (x i j : Nat) : (s.satFd k f x i j).held = s.held := rfl
@[simp] theorem satFd_srcs (s : State) (k : RegKind) (f : Fld) (x i j : Nat) : (s.satFd k f x i j).srcs = s.srcs := rfl
@[simp] theorem satFd_grpLast (s : State) (k : RegKind) (f : Fld) (x i j : Nat) : (s.satFd k f x i j).grpLast = s.grpLast := rfl
@[simp] theorem satFd_owners (s : State) (k : RegKind) (f : Fld) (x i j : Nat) : (s.satFd k f x i j).owners = s.owners := rfl
@[simp] theorem satFd_err (s : State) (k : RegKind) (f : Fld) (x i j : Nat) : (s.satFd k f x i j).err = s.err := rfl
@[simp] theorem satFd_slots (s : State) (k : RegKind) (f : Fld) (x i j : Nat) : (s.satFd k f x i j).slots = s.slots := rfl
@[simp] theorem satFd_waitq (s : State) (k : RegKind) (f : Fld) (x i j : Nat) : (s.satFd k f x i j).waitq = s.waitq := rfl
@[simp] theorem satFd_poolEdge (s : State) (k : RegKind) (f : Fld) (x i j : Nat) : (s.satFd k f x i j).poolEdge = s.poolEdge := rfl
@[simp] theorem satFd_d2d (s : State) (k : RegKind) (f : Fld) (x i j : Nat) : (s.satFd k f x i j).d2d = s.d2d := rfl
@[simp] theorem satFd_net (s : State) (k : RegKind) (f : Fld) (x i j : Nat) : (s.satFd k f x i j).net = s.net := rfl
@[simp] theorem satFd_dmas (s : State) (k : RegKind) (f : Fld) (x i j : Nat) : (s.satFd k f x i j).dmas = s.dmas := rfl
@[simp] theorem satFd_hb (s : State) (k : RegKind) (f : Fld) (x i j : Nat) : (s.satFd k f x i j).hb = s.hb := rfl
@[simp] theorem satFd_vsf (s : State) (k : RegKind) (f : Fld) (x i j : Nat) : (s.satFd k f x i j).vsf = s.vsf := rfl
@[simp] theorem satFd_fab (s : State) (k : RegKind) (f : Fld) (x i j : Nat) : (s.satFd k f x i j).fab = s.fab := rfl
@[simp] theorem satFd_pair (s : State) (k : RegKind) (f : Fld) (x i j : Nat) : (s.satFd k f x i j).pair = s.pair := rfl
@[simp] theorem satFd_pwr (s : State) (k : RegKind) (f : Fld) (x i j : Nat) : (s.satFd k f x i j).pwr = s.pwr := rfl
@[simp] theorem satFd_boot (s : State) (k : RegKind) (f : Fld) (x i j : Nat) : (s.satFd k f x i j).boot = s.boot := rfl
@[simp] theorem satFd_tap (s : State) (k : RegKind) (f : Fld) (x i j : Nat) : (s.satFd k f x i j).tap = s.tap := rfl
@[simp] theorem satFd_pins (s : State) (k : RegKind) (f : Fld) (x i j : Nat) : (s.satFd k f x i j).pins = s.pins := rfl
@[simp] theorem setShadow_pending (s : State) (r : RRef) (f : Fld) (v : Nat) : (s.setShadow r f v).pending = s.pending := rfl
@[simp] theorem setShadow_fresh (s : State) (r : RRef) (f : Fld) (v : Nat) : (s.setShadow r f v).fresh = s.fresh := rfl
@[simp] theorem setShadow_rwo (s : State) (r : RRef) (f : Fld) (v : Nat) : (s.setShadow r f v).rwo = s.rwo := rfl
@[simp] theorem setShadow_cores (s : State) (r : RRef) (f : Fld) (v : Nat) : (s.setShadow r f v).cores = s.cores := rfl
@[simp] theorem setShadow_dies (s : State) (r : RRef) (f : Fld) (v : Nat) : (s.setShadow r f v).dies = s.dies := rfl
@[simp] theorem setShadow_homes (s : State) (r : RRef) (f : Fld) (v : Nat) : (s.setShadow r f v).homes = s.homes := rfl
@[simp] theorem setShadow_chans (s : State) (r : RRef) (f : Fld) (v : Nat) : (s.setShadow r f v).chans = s.chans := rfl
@[simp] theorem setShadow_msc (s : State) (r : RRef) (f : Fld) (v : Nat) : (s.setShadow r f v).msc = s.msc := rfl
@[simp] theorem setShadow_upsets (s : State) (r : RRef) (f : Fld) (v : Nat) : (s.setShadow r f v).upsets = s.upsets := rfl
@[simp] theorem setShadow_mem (s : State) (r : RRef) (f : Fld) (v : Nat) : (s.setShadow r f v).mem = s.mem := rfl
@[simp] theorem setShadow_chk (s : State) (r : RRef) (f : Fld) (v : Nat) : (s.setShadow r f v).chk = s.chk := rfl
@[simp] theorem setShadow_tck (s : State) (r : RRef) (f : Fld) (v : Nat) : (s.setShadow r f v).tck = s.tck := rfl
@[simp] theorem setShadow_held (s : State) (r : RRef) (f : Fld) (v : Nat) : (s.setShadow r f v).held = s.held := rfl
@[simp] theorem setShadow_srcs (s : State) (r : RRef) (f : Fld) (v : Nat) : (s.setShadow r f v).srcs = s.srcs := rfl
@[simp] theorem setShadow_grpLast (s : State) (r : RRef) (f : Fld) (v : Nat) : (s.setShadow r f v).grpLast = s.grpLast := rfl
@[simp] theorem setShadow_owners (s : State) (r : RRef) (f : Fld) (v : Nat) : (s.setShadow r f v).owners = s.owners := rfl
@[simp] theorem setShadow_err (s : State) (r : RRef) (f : Fld) (v : Nat) : (s.setShadow r f v).err = s.err := rfl
@[simp] theorem setShadow_slots (s : State) (r : RRef) (f : Fld) (v : Nat) : (s.setShadow r f v).slots = s.slots := rfl
@[simp] theorem setShadow_waitq (s : State) (r : RRef) (f : Fld) (v : Nat) : (s.setShadow r f v).waitq = s.waitq := rfl
@[simp] theorem setShadow_poolEdge (s : State) (r : RRef) (f : Fld) (v : Nat) : (s.setShadow r f v).poolEdge = s.poolEdge := rfl
@[simp] theorem setShadow_d2d (s : State) (r : RRef) (f : Fld) (v : Nat) : (s.setShadow r f v).d2d = s.d2d := rfl
@[simp] theorem setShadow_net (s : State) (r : RRef) (f : Fld) (v : Nat) : (s.setShadow r f v).net = s.net := rfl
@[simp] theorem setShadow_dmas (s : State) (r : RRef) (f : Fld) (v : Nat) : (s.setShadow r f v).dmas = s.dmas := rfl
@[simp] theorem setShadow_hb (s : State) (r : RRef) (f : Fld) (v : Nat) : (s.setShadow r f v).hb = s.hb := rfl
@[simp] theorem setShadow_vsf (s : State) (r : RRef) (f : Fld) (v : Nat) : (s.setShadow r f v).vsf = s.vsf := rfl
@[simp] theorem setShadow_fab (s : State) (r : RRef) (f : Fld) (v : Nat) : (s.setShadow r f v).fab = s.fab := rfl
@[simp] theorem setShadow_pair (s : State) (r : RRef) (f : Fld) (v : Nat) : (s.setShadow r f v).pair = s.pair := rfl
@[simp] theorem setShadow_pwr (s : State) (r : RRef) (f : Fld) (v : Nat) : (s.setShadow r f v).pwr = s.pwr := rfl
@[simp] theorem setShadow_boot (s : State) (r : RRef) (f : Fld) (v : Nat) : (s.setShadow r f v).boot = s.boot := rfl
@[simp] theorem setShadow_tap (s : State) (r : RRef) (f : Fld) (v : Nat) : (s.setShadow r f v).tap = s.tap := rfl
@[simp] theorem setShadow_pins (s : State) (r : RRef) (f : Fld) (v : Nat) : (s.setShadow r f v).pins = s.pins := rfl
@[simp] theorem deliver_pending (s : State) (m : Msg) : (s.deliver m).pending = s.pending := rfl
@[simp] theorem deliver_fresh (s : State) (m : Msg) : (s.deliver m).fresh = s.fresh := rfl
@[simp] theorem deliver_regs (s : State) (m : Msg) : (s.deliver m).regs = s.regs := rfl
@[simp] theorem deliver_shad (s : State) (m : Msg) : (s.deliver m).shad = s.shad := rfl
@[simp] theorem deliver_rwo (s : State) (m : Msg) : (s.deliver m).rwo = s.rwo := rfl
@[simp] theorem deliver_cores (s : State) (m : Msg) : (s.deliver m).cores = s.cores := rfl
@[simp] theorem deliver_dies (s : State) (m : Msg) : (s.deliver m).dies = s.dies := rfl
@[simp] theorem deliver_homes (s : State) (m : Msg) : (s.deliver m).homes = s.homes := rfl
@[simp] theorem deliver_chans (s : State) (m : Msg) : (s.deliver m).chans = s.chans := rfl
@[simp] theorem deliver_msc (s : State) (m : Msg) : (s.deliver m).msc = s.msc := rfl
@[simp] theorem deliver_upsets (s : State) (m : Msg) : (s.deliver m).upsets = s.upsets := rfl
@[simp] theorem deliver_mem (s : State) (m : Msg) : (s.deliver m).mem = s.mem := rfl
@[simp] theorem deliver_chk (s : State) (m : Msg) : (s.deliver m).chk = s.chk := rfl
@[simp] theorem deliver_tck (s : State) (m : Msg) : (s.deliver m).tck = s.tck := rfl
@[simp] theorem deliver_held (s : State) (m : Msg) : (s.deliver m).held = s.held := rfl
@[simp] theorem deliver_srcs (s : State) (m : Msg) : (s.deliver m).srcs = s.srcs := rfl
@[simp] theorem deliver_grpLast (s : State) (m : Msg) : (s.deliver m).grpLast = s.grpLast := rfl
@[simp] theorem deliver_owners (s : State) (m : Msg) : (s.deliver m).owners = s.owners := rfl
@[simp] theorem deliver_err (s : State) (m : Msg) : (s.deliver m).err = s.err := rfl
@[simp] theorem deliver_slots (s : State) (m : Msg) : (s.deliver m).slots = s.slots := rfl
@[simp] theorem deliver_waitq (s : State) (m : Msg) : (s.deliver m).waitq = s.waitq := rfl
@[simp] theorem deliver_poolEdge (s : State) (m : Msg) : (s.deliver m).poolEdge = s.poolEdge := rfl
@[simp] theorem deliver_d2d (s : State) (m : Msg) : (s.deliver m).d2d = s.d2d := rfl
@[simp] theorem deliver_dmas (s : State) (m : Msg) : (s.deliver m).dmas = s.dmas := rfl
@[simp] theorem deliver_hb (s : State) (m : Msg) : (s.deliver m).hb = s.hb := rfl
@[simp] theorem deliver_vsf (s : State) (m : Msg) : (s.deliver m).vsf = s.vsf := rfl
@[simp] theorem deliver_fab (s : State) (m : Msg) : (s.deliver m).fab = s.fab := rfl
@[simp] theorem deliver_pair (s : State) (m : Msg) : (s.deliver m).pair = s.pair := rfl
@[simp] theorem deliver_pwr (s : State) (m : Msg) : (s.deliver m).pwr = s.pwr := rfl
@[simp] theorem deliver_boot (s : State) (m : Msg) : (s.deliver m).boot = s.boot := rfl
@[simp] theorem deliver_tap (s : State) (m : Msg) : (s.deliver m).tap = s.tap := rfl
@[simp] theorem deliver_pins (s : State) (m : Msg) : (s.deliver m).pins = s.pins := rfl
@[simp] theorem drawBit_pending (s : State) : s.drawBit.2.pending = s.pending := rfl
@[simp] theorem drawBit_regs (s : State) : s.drawBit.2.regs = s.regs := rfl
@[simp] theorem drawBit_shad (s : State) : s.drawBit.2.shad = s.shad := rfl
@[simp] theorem drawBit_rwo (s : State) : s.drawBit.2.rwo = s.rwo := rfl
@[simp] theorem drawBit_cores (s : State) : s.drawBit.2.cores = s.cores := rfl
@[simp] theorem drawBit_dies (s : State) : s.drawBit.2.dies = s.dies := rfl
@[simp] theorem drawBit_homes (s : State) : s.drawBit.2.homes = s.homes := rfl
@[simp] theorem drawBit_chans (s : State) : s.drawBit.2.chans = s.chans := rfl
@[simp] theorem drawBit_msc (s : State) : s.drawBit.2.msc = s.msc := rfl
@[simp] theorem drawBit_upsets (s : State) : s.drawBit.2.upsets = s.upsets := rfl
@[simp] theorem drawBit_mem (s : State) : s.drawBit.2.mem = s.mem := rfl
@[simp] theorem drawBit_chk (s : State) : s.drawBit.2.chk = s.chk := rfl
@[simp] theorem drawBit_tck (s : State) : s.drawBit.2.tck = s.tck := rfl
@[simp] theorem drawBit_held (s : State) : s.drawBit.2.held = s.held := rfl
@[simp] theorem drawBit_srcs (s : State) : s.drawBit.2.srcs = s.srcs := rfl
@[simp] theorem drawBit_grpLast (s : State) : s.drawBit.2.grpLast = s.grpLast := rfl
@[simp] theorem drawBit_owners (s : State) : s.drawBit.2.owners = s.owners := rfl
@[simp] theorem drawBit_err (s : State) : s.drawBit.2.err = s.err := rfl
@[simp] theorem drawBit_slots (s : State) : s.drawBit.2.slots = s.slots := rfl
@[simp] theorem drawBit_waitq (s : State) : s.drawBit.2.waitq = s.waitq := rfl
@[simp] theorem drawBit_poolEdge (s : State) : s.drawBit.2.poolEdge = s.poolEdge := rfl
@[simp] theorem drawBit_d2d (s : State) : s.drawBit.2.d2d = s.d2d := rfl
@[simp] theorem drawBit_net (s : State) : s.drawBit.2.net = s.net := rfl
@[simp] theorem drawBit_dmas (s : State) : s.drawBit.2.dmas = s.dmas := rfl
@[simp] theorem drawBit_hb (s : State) : s.drawBit.2.hb = s.hb := rfl
@[simp] theorem drawBit_vsf (s : State) : s.drawBit.2.vsf = s.vsf := rfl
@[simp] theorem drawBit_fab (s : State) : s.drawBit.2.fab = s.fab := rfl
@[simp] theorem drawBit_pair (s : State) : s.drawBit.2.pair = s.pair := rfl
@[simp] theorem drawBit_pwr (s : State) : s.drawBit.2.pwr = s.pwr := rfl
@[simp] theorem drawBit_boot (s : State) : s.drawBit.2.boot = s.boot := rfl
@[simp] theorem drawBit_tap (s : State) : s.drawBit.2.tap = s.tap := rfl
@[simp] theorem drawBit_pins (s : State) : s.drawBit.2.pins = s.pins := rfl
@[simp] theorem drawNat_pending (s : State) : s.drawNat.2.pending = s.pending := rfl
@[simp] theorem drawNat_regs (s : State) : s.drawNat.2.regs = s.regs := rfl
@[simp] theorem drawNat_shad (s : State) : s.drawNat.2.shad = s.shad := rfl
@[simp] theorem drawNat_rwo (s : State) : s.drawNat.2.rwo = s.rwo := rfl
@[simp] theorem drawNat_cores (s : State) : s.drawNat.2.cores = s.cores := rfl
@[simp] theorem drawNat_dies (s : State) : s.drawNat.2.dies = s.dies := rfl
@[simp] theorem drawNat_homes (s : State) : s.drawNat.2.homes = s.homes := rfl
@[simp] theorem drawNat_chans (s : State) : s.drawNat.2.chans = s.chans := rfl
@[simp] theorem drawNat_msc (s : State) : s.drawNat.2.msc = s.msc := rfl
@[simp] theorem drawNat_upsets (s : State) : s.drawNat.2.upsets = s.upsets := rfl
@[simp] theorem drawNat_mem (s : State) : s.drawNat.2.mem = s.mem := rfl
@[simp] theorem drawNat_chk (s : State) : s.drawNat.2.chk = s.chk := rfl
@[simp] theorem drawNat_tck (s : State) : s.drawNat.2.tck = s.tck := rfl
@[simp] theorem drawNat_held (s : State) : s.drawNat.2.held = s.held := rfl
@[simp] theorem drawNat_srcs (s : State) : s.drawNat.2.srcs = s.srcs := rfl
@[simp] theorem drawNat_grpLast (s : State) : s.drawNat.2.grpLast = s.grpLast := rfl
@[simp] theorem drawNat_owners (s : State) : s.drawNat.2.owners = s.owners := rfl
@[simp] theorem drawNat_err (s : State) : s.drawNat.2.err = s.err := rfl
@[simp] theorem drawNat_slots (s : State) : s.drawNat.2.slots = s.slots := rfl
@[simp] theorem drawNat_waitq (s : State) : s.drawNat.2.waitq = s.waitq := rfl
@[simp] theorem drawNat_poolEdge (s : State) : s.drawNat.2.poolEdge = s.poolEdge := rfl
@[simp] theorem drawNat_d2d (s : State) : s.drawNat.2.d2d = s.d2d := rfl
@[simp] theorem drawNat_net (s : State) : s.drawNat.2.net = s.net := rfl
@[simp] theorem drawNat_dmas (s : State) : s.drawNat.2.dmas = s.dmas := rfl
@[simp] theorem drawNat_hb (s : State) : s.drawNat.2.hb = s.hb := rfl
@[simp] theorem drawNat_vsf (s : State) : s.drawNat.2.vsf = s.vsf := rfl
@[simp] theorem drawNat_fab (s : State) : s.drawNat.2.fab = s.fab := rfl
@[simp] theorem drawNat_pair (s : State) : s.drawNat.2.pair = s.pair := rfl
@[simp] theorem drawNat_pwr (s : State) : s.drawNat.2.pwr = s.pwr := rfl
@[simp] theorem drawNat_boot (s : State) : s.drawNat.2.boot = s.boot := rfl
@[simp] theorem drawNat_tap (s : State) : s.drawNat.2.tap = s.tap := rfl
@[simp] theorem drawNat_pins (s : State) : s.drawNat.2.pins = s.pins := rfl
@[simp] theorem drawWord_pending (s : State) : s.drawWord.2.pending = s.pending := rfl
@[simp] theorem drawWord_regs (s : State) : s.drawWord.2.regs = s.regs := rfl
@[simp] theorem drawWord_shad (s : State) : s.drawWord.2.shad = s.shad := rfl
@[simp] theorem drawWord_rwo (s : State) : s.drawWord.2.rwo = s.rwo := rfl
@[simp] theorem drawWord_cores (s : State) : s.drawWord.2.cores = s.cores := rfl
@[simp] theorem drawWord_dies (s : State) : s.drawWord.2.dies = s.dies := rfl
@[simp] theorem drawWord_homes (s : State) : s.drawWord.2.homes = s.homes := rfl
@[simp] theorem drawWord_chans (s : State) : s.drawWord.2.chans = s.chans := rfl
@[simp] theorem drawWord_msc (s : State) : s.drawWord.2.msc = s.msc := rfl
@[simp] theorem drawWord_upsets (s : State) : s.drawWord.2.upsets = s.upsets := rfl
@[simp] theorem drawWord_mem (s : State) : s.drawWord.2.mem = s.mem := rfl
@[simp] theorem drawWord_chk (s : State) : s.drawWord.2.chk = s.chk := rfl
@[simp] theorem drawWord_tck (s : State) : s.drawWord.2.tck = s.tck := rfl
@[simp] theorem drawWord_held (s : State) : s.drawWord.2.held = s.held := rfl
@[simp] theorem drawWord_srcs (s : State) : s.drawWord.2.srcs = s.srcs := rfl
@[simp] theorem drawWord_grpLast (s : State) : s.drawWord.2.grpLast = s.grpLast := rfl
@[simp] theorem drawWord_owners (s : State) : s.drawWord.2.owners = s.owners := rfl
@[simp] theorem drawWord_err (s : State) : s.drawWord.2.err = s.err := rfl
@[simp] theorem drawWord_slots (s : State) : s.drawWord.2.slots = s.slots := rfl
@[simp] theorem drawWord_waitq (s : State) : s.drawWord.2.waitq = s.waitq := rfl
@[simp] theorem drawWord_poolEdge (s : State) : s.drawWord.2.poolEdge = s.poolEdge := rfl
@[simp] theorem drawWord_d2d (s : State) : s.drawWord.2.d2d = s.d2d := rfl
@[simp] theorem drawWord_net (s : State) : s.drawWord.2.net = s.net := rfl
@[simp] theorem drawWord_dmas (s : State) : s.drawWord.2.dmas = s.dmas := rfl
@[simp] theorem drawWord_hb (s : State) : s.drawWord.2.hb = s.hb := rfl
@[simp] theorem drawWord_vsf (s : State) : s.drawWord.2.vsf = s.vsf := rfl
@[simp] theorem drawWord_fab (s : State) : s.drawWord.2.fab = s.fab := rfl
@[simp] theorem drawWord_pair (s : State) : s.drawWord.2.pair = s.pair := rfl
@[simp] theorem drawWord_pwr (s : State) : s.drawWord.2.pwr = s.pwr := rfl
@[simp] theorem drawWord_boot (s : State) : s.drawWord.2.boot = s.boot := rfl
@[simp] theorem drawWord_tap (s : State) : s.drawWord.2.tap = s.tap := rfl
@[simp] theorem drawWord_pins (s : State) : s.drawWord.2.pins = s.pins := rfl
@[simp] theorem drawLine_pending (s : State) : s.drawLine.2.pending = s.pending := rfl
@[simp] theorem drawLine_regs (s : State) : s.drawLine.2.regs = s.regs := rfl
@[simp] theorem drawLine_shad (s : State) : s.drawLine.2.shad = s.shad := rfl
@[simp] theorem drawLine_rwo (s : State) : s.drawLine.2.rwo = s.rwo := rfl
@[simp] theorem drawLine_cores (s : State) : s.drawLine.2.cores = s.cores := rfl
@[simp] theorem drawLine_dies (s : State) : s.drawLine.2.dies = s.dies := rfl
@[simp] theorem drawLine_homes (s : State) : s.drawLine.2.homes = s.homes := rfl
@[simp] theorem drawLine_chans (s : State) : s.drawLine.2.chans = s.chans := rfl
@[simp] theorem drawLine_msc (s : State) : s.drawLine.2.msc = s.msc := rfl
@[simp] theorem drawLine_upsets (s : State) : s.drawLine.2.upsets = s.upsets := rfl
@[simp] theorem drawLine_mem (s : State) : s.drawLine.2.mem = s.mem := rfl
@[simp] theorem drawLine_chk (s : State) : s.drawLine.2.chk = s.chk := rfl
@[simp] theorem drawLine_tck (s : State) : s.drawLine.2.tck = s.tck := rfl
@[simp] theorem drawLine_held (s : State) : s.drawLine.2.held = s.held := rfl
@[simp] theorem drawLine_srcs (s : State) : s.drawLine.2.srcs = s.srcs := rfl
@[simp] theorem drawLine_grpLast (s : State) : s.drawLine.2.grpLast = s.grpLast := rfl
@[simp] theorem drawLine_owners (s : State) : s.drawLine.2.owners = s.owners := rfl
@[simp] theorem drawLine_err (s : State) : s.drawLine.2.err = s.err := rfl
@[simp] theorem drawLine_slots (s : State) : s.drawLine.2.slots = s.slots := rfl
@[simp] theorem drawLine_waitq (s : State) : s.drawLine.2.waitq = s.waitq := rfl
@[simp] theorem drawLine_poolEdge (s : State) : s.drawLine.2.poolEdge = s.poolEdge := rfl
@[simp] theorem drawLine_d2d (s : State) : s.drawLine.2.d2d = s.d2d := rfl
@[simp] theorem drawLine_net (s : State) : s.drawLine.2.net = s.net := rfl
@[simp] theorem drawLine_dmas (s : State) : s.drawLine.2.dmas = s.dmas := rfl
@[simp] theorem drawLine_hb (s : State) : s.drawLine.2.hb = s.hb := rfl
@[simp] theorem drawLine_vsf (s : State) : s.drawLine.2.vsf = s.vsf := rfl
@[simp] theorem drawLine_fab (s : State) : s.drawLine.2.fab = s.fab := rfl
@[simp] theorem drawLine_pair (s : State) : s.drawLine.2.pair = s.pair := rfl
@[simp] theorem drawLine_pwr (s : State) : s.drawLine.2.pwr = s.pwr := rfl
@[simp] theorem drawLine_boot (s : State) : s.drawLine.2.boot = s.boot := rfl
@[simp] theorem drawLine_tap (s : State) : s.drawLine.2.tap = s.tap := rfl
@[simp] theorem drawLine_pins (s : State) : s.drawLine.2.pins = s.pins := rfl

/-! The network's work (09 R242-R246) changes the network and the die-to-die ports' credits only. -/

theorem returnCredits_frame (s : State) (m : Msg) : ∃ d, s.returnCredits m = { s with d2d := d } := by
  unfold State.returnCredits
  split
  · exact ⟨s.d2d, rfl⟩
  · exact ⟨_, rfl⟩
theorem spendCredits_frame (s : State) (m : Msg) (l : Nat) : ∃ d, s.spendCredits m l = { s with d2d := d } := by
  unfold State.spendCredits
  split
  · exact ⟨s.d2d, rfl⟩
  · exact ⟨_, rfl⟩
theorem moveTo_frame (s : State) (i : Nat) (m : Msg) (l : Nat) : ∃ n d, s.moveTo i m l = { s with net := n, d2d := d } := by
  obtain ⟨d1, h1⟩ := returnCredits_frame s m
  obtain ⟨d2, h2⟩ := spendCredits_frame { s with d2d := d1 } m l
  exact ⟨_, d2, by unfold State.moveTo; rw [h1, h2]⟩
theorem netMoves_frame (k : Nat) (s : State) : ∃ n d, State.netMoves k s = { s with net := n, d2d := d } := by
  induction k generalizing s with
  | zero => exact ⟨s.net, s.d2d, rfl⟩
  | succ k ih =>
    unfold State.netMoves
    split
    · exact ⟨s.net, s.d2d, rfl⟩
    · rename_i i m l _
      obtain ⟨n1, d1, h1⟩ := moveTo_frame s i m l
      rw [h1]
      exact ih _
theorem netRun_frame (s : State) : ∃ n d, s.netRun = { s with net := n, d2d := d } := by
  unfold State.netRun
  split
  · exact ⟨s.net, s.d2d, rfl⟩
  · exact netMoves_frame _ _
theorem send_frame (s : State) (m : Msg) : ∃ n d, s.send m = { s with net := n, d2d := d } := by
  unfold State.send State.reserve
  split <;> exact netRun_frame _
theorem consume_frame (s : State) (p : Msg → Bool) : ∃ n d, s.consume p = { s with net := n, d2d := d } := by
  unfold State.consume
  split
  · exact ⟨s.net, s.d2d, rfl⟩
  · rename_i m _
    obtain ⟨d1, h1⟩ := returnCredits_frame s m
    rw [h1]
    unfold State.unreserve
    split <;> exact netRun_frame _

@[simp] theorem send_pending (s : State) (m : Msg) : (s.send m).pending = s.pending := by obtain ⟨_, _, h⟩ := send_frame s m; rw [h]
@[simp] theorem send_fresh (s : State) (m : Msg) : (s.send m).fresh = s.fresh := by obtain ⟨_, _, h⟩ := send_frame s m; rw [h]
@[simp] theorem send_regs (s : State) (m : Msg) : (s.send m).regs = s.regs := by obtain ⟨_, _, h⟩ := send_frame s m; rw [h]
@[simp] theorem send_shad (s : State) (m : Msg) : (s.send m).shad = s.shad := by obtain ⟨_, _, h⟩ := send_frame s m; rw [h]
@[simp] theorem send_rwo (s : State) (m : Msg) : (s.send m).rwo = s.rwo := by obtain ⟨_, _, h⟩ := send_frame s m; rw [h]
@[simp] theorem send_cores (s : State) (m : Msg) : (s.send m).cores = s.cores := by obtain ⟨_, _, h⟩ := send_frame s m; rw [h]
@[simp] theorem send_dies (s : State) (m : Msg) : (s.send m).dies = s.dies := by obtain ⟨_, _, h⟩ := send_frame s m; rw [h]
@[simp] theorem send_homes (s : State) (m : Msg) : (s.send m).homes = s.homes := by obtain ⟨_, _, h⟩ := send_frame s m; rw [h]
@[simp] theorem send_chans (s : State) (m : Msg) : (s.send m).chans = s.chans := by obtain ⟨_, _, h⟩ := send_frame s m; rw [h]
@[simp] theorem send_msc (s : State) (m : Msg) : (s.send m).msc = s.msc := by obtain ⟨_, _, h⟩ := send_frame s m; rw [h]
@[simp] theorem send_upsets (s : State) (m : Msg) : (s.send m).upsets = s.upsets := by obtain ⟨_, _, h⟩ := send_frame s m; rw [h]
@[simp] theorem send_mem (s : State) (m : Msg) : (s.send m).mem = s.mem := by obtain ⟨_, _, h⟩ := send_frame s m; rw [h]
@[simp] theorem send_chk (s : State) (m : Msg) : (s.send m).chk = s.chk := by obtain ⟨_, _, h⟩ := send_frame s m; rw [h]
@[simp] theorem send_tck (s : State) (m : Msg) : (s.send m).tck = s.tck := by obtain ⟨_, _, h⟩ := send_frame s m; rw [h]
@[simp] theorem send_held (s : State) (m : Msg) : (s.send m).held = s.held := by obtain ⟨_, _, h⟩ := send_frame s m; rw [h]
@[simp] theorem send_srcs (s : State) (m : Msg) : (s.send m).srcs = s.srcs := by obtain ⟨_, _, h⟩ := send_frame s m; rw [h]
@[simp] theorem send_grpLast (s : State) (m : Msg) : (s.send m).grpLast = s.grpLast := by obtain ⟨_, _, h⟩ := send_frame s m; rw [h]
@[simp] theorem send_owners (s : State) (m : Msg) : (s.send m).owners = s.owners := by obtain ⟨_, _, h⟩ := send_frame s m; rw [h]
@[simp] theorem send_err (s : State) (m : Msg) : (s.send m).err = s.err := by obtain ⟨_, _, h⟩ := send_frame s m; rw [h]
@[simp] theorem send_slots (s : State) (m : Msg) : (s.send m).slots = s.slots := by obtain ⟨_, _, h⟩ := send_frame s m; rw [h]
@[simp] theorem send_waitq (s : State) (m : Msg) : (s.send m).waitq = s.waitq := by obtain ⟨_, _, h⟩ := send_frame s m; rw [h]
@[simp] theorem send_poolEdge (s : State) (m : Msg) : (s.send m).poolEdge = s.poolEdge := by obtain ⟨_, _, h⟩ := send_frame s m; rw [h]
@[simp] theorem send_dmas (s : State) (m : Msg) : (s.send m).dmas = s.dmas := by obtain ⟨_, _, h⟩ := send_frame s m; rw [h]
@[simp] theorem send_hb (s : State) (m : Msg) : (s.send m).hb = s.hb := by obtain ⟨_, _, h⟩ := send_frame s m; rw [h]
@[simp] theorem send_vsf (s : State) (m : Msg) : (s.send m).vsf = s.vsf := by obtain ⟨_, _, h⟩ := send_frame s m; rw [h]
@[simp] theorem send_fab (s : State) (m : Msg) : (s.send m).fab = s.fab := by obtain ⟨_, _, h⟩ := send_frame s m; rw [h]
@[simp] theorem send_pair (s : State) (m : Msg) : (s.send m).pair = s.pair := by obtain ⟨_, _, h⟩ := send_frame s m; rw [h]
@[simp] theorem send_pwr (s : State) (m : Msg) : (s.send m).pwr = s.pwr := by obtain ⟨_, _, h⟩ := send_frame s m; rw [h]
@[simp] theorem send_boot (s : State) (m : Msg) : (s.send m).boot = s.boot := by obtain ⟨_, _, h⟩ := send_frame s m; rw [h]
@[simp] theorem send_tap (s : State) (m : Msg) : (s.send m).tap = s.tap := by obtain ⟨_, _, h⟩ := send_frame s m; rw [h]
@[simp] theorem send_pins (s : State) (m : Msg) : (s.send m).pins = s.pins := by obtain ⟨_, _, h⟩ := send_frame s m; rw [h]
@[simp] theorem consume_pending (s : State) (p : Msg → Bool) : (s.consume p).pending = s.pending := by obtain ⟨_, _, h⟩ := consume_frame s p; rw [h]
@[simp] theorem consume_fresh (s : State) (p : Msg → Bool) : (s.consume p).fresh = s.fresh := by obtain ⟨_, _, h⟩ := consume_frame s p; rw [h]
@[simp] theorem consume_regs (s : State) (p : Msg → Bool) : (s.consume p).regs = s.regs := by obtain ⟨_, _, h⟩ := consume_frame s p; rw [h]
@[simp] theorem consume_shad (s : State) (p : Msg → Bool) : (s.consume p).shad = s.shad := by obtain ⟨_, _, h⟩ := consume_frame s p; rw [h]
@[simp] theorem consume_rwo (s : State) (p : Msg → Bool) : (s.consume p).rwo = s.rwo := by obtain ⟨_, _, h⟩ := consume_frame s p; rw [h]
@[simp] theorem consume_cores (s : State) (p : Msg → Bool) : (s.consume p).cores = s.cores := by obtain ⟨_, _, h⟩ := consume_frame s p; rw [h]
@[simp] theorem consume_dies (s : State) (p : Msg → Bool) : (s.consume p).dies = s.dies := by obtain ⟨_, _, h⟩ := consume_frame s p; rw [h]
@[simp] theorem consume_homes (s : State) (p : Msg → Bool) : (s.consume p).homes = s.homes := by obtain ⟨_, _, h⟩ := consume_frame s p; rw [h]
@[simp] theorem consume_chans (s : State) (p : Msg → Bool) : (s.consume p).chans = s.chans := by obtain ⟨_, _, h⟩ := consume_frame s p; rw [h]
@[simp] theorem consume_msc (s : State) (p : Msg → Bool) : (s.consume p).msc = s.msc := by obtain ⟨_, _, h⟩ := consume_frame s p; rw [h]
@[simp] theorem consume_upsets (s : State) (p : Msg → Bool) : (s.consume p).upsets = s.upsets := by obtain ⟨_, _, h⟩ := consume_frame s p; rw [h]
@[simp] theorem consume_mem (s : State) (p : Msg → Bool) : (s.consume p).mem = s.mem := by obtain ⟨_, _, h⟩ := consume_frame s p; rw [h]
@[simp] theorem consume_chk (s : State) (p : Msg → Bool) : (s.consume p).chk = s.chk := by obtain ⟨_, _, h⟩ := consume_frame s p; rw [h]
@[simp] theorem consume_tck (s : State) (p : Msg → Bool) : (s.consume p).tck = s.tck := by obtain ⟨_, _, h⟩ := consume_frame s p; rw [h]
@[simp] theorem consume_held (s : State) (p : Msg → Bool) : (s.consume p).held = s.held := by obtain ⟨_, _, h⟩ := consume_frame s p; rw [h]
@[simp] theorem consume_srcs (s : State) (p : Msg → Bool) : (s.consume p).srcs = s.srcs := by obtain ⟨_, _, h⟩ := consume_frame s p; rw [h]
@[simp] theorem consume_grpLast (s : State) (p : Msg → Bool) : (s.consume p).grpLast = s.grpLast := by obtain ⟨_, _, h⟩ := consume_frame s p; rw [h]
@[simp] theorem consume_owners (s : State) (p : Msg → Bool) : (s.consume p).owners = s.owners := by obtain ⟨_, _, h⟩ := consume_frame s p; rw [h]
@[simp] theorem consume_err (s : State) (p : Msg → Bool) : (s.consume p).err = s.err := by obtain ⟨_, _, h⟩ := consume_frame s p; rw [h]
@[simp] theorem consume_slots (s : State) (p : Msg → Bool) : (s.consume p).slots = s.slots := by obtain ⟨_, _, h⟩ := consume_frame s p; rw [h]
@[simp] theorem consume_waitq (s : State) (p : Msg → Bool) : (s.consume p).waitq = s.waitq := by obtain ⟨_, _, h⟩ := consume_frame s p; rw [h]
@[simp] theorem consume_poolEdge (s : State) (p : Msg → Bool) : (s.consume p).poolEdge = s.poolEdge := by obtain ⟨_, _, h⟩ := consume_frame s p; rw [h]
@[simp] theorem consume_dmas (s : State) (p : Msg → Bool) : (s.consume p).dmas = s.dmas := by obtain ⟨_, _, h⟩ := consume_frame s p; rw [h]
@[simp] theorem consume_hb (s : State) (p : Msg → Bool) : (s.consume p).hb = s.hb := by obtain ⟨_, _, h⟩ := consume_frame s p; rw [h]
@[simp] theorem consume_vsf (s : State) (p : Msg → Bool) : (s.consume p).vsf = s.vsf := by obtain ⟨_, _, h⟩ := consume_frame s p; rw [h]
@[simp] theorem consume_fab (s : State) (p : Msg → Bool) : (s.consume p).fab = s.fab := by obtain ⟨_, _, h⟩ := consume_frame s p; rw [h]
@[simp] theorem consume_pair (s : State) (p : Msg → Bool) : (s.consume p).pair = s.pair := by obtain ⟨_, _, h⟩ := consume_frame s p; rw [h]
@[simp] theorem consume_pwr (s : State) (p : Msg → Bool) : (s.consume p).pwr = s.pwr := by obtain ⟨_, _, h⟩ := consume_frame s p; rw [h]
@[simp] theorem consume_boot (s : State) (p : Msg → Bool) : (s.consume p).boot = s.boot := by obtain ⟨_, _, h⟩ := consume_frame s p; rw [h]
@[simp] theorem consume_tap (s : State) (p : Msg → Bool) : (s.consume p).tap = s.tap := by obtain ⟨_, _, h⟩ := consume_frame s p; rw [h]
@[simp] theorem consume_pins (s : State) (p : Msg → Bool) : (s.consume p).pins = s.pins := by obtain ⟨_, _, h⟩ := consume_frame s p; rw [h]

/-! Reading a numbered part after writing one. -/

@[simp] theorem core_setCore_self (s : State) (n : Nat) (v : Core) : (s.setCore n v).core n = v := by
  simp [State.core, State.setCore]
theorem core_setCore_ne (s : State) {m n : Nat} (v : Core) (h : m ≠ n) : (s.setCore n v).core m = s.core m := by
  simp [State.core, State.setCore, KMap.getD_set_ne _ _ _ h]
@[simp] theorem die_setDie_self (s : State) (n : Nat) (v : Die) : (s.setDie n v).die n = v := by
  simp [State.die, State.setDie]
theorem die_setDie_ne (s : State) {m n : Nat} (v : Die) (h : m ≠ n) : (s.setDie n v).die m = s.die m := by
  simp [State.die, State.setDie, KMap.getD_set_ne _ _ _ h]
@[simp] theorem home_setHome_self (s : State) (n : Nat) (v : Home) : (s.setHome n v).home n = v := by
  simp [State.home, State.setHome]
theorem home_setHome_ne (s : State) {m n : Nat} (v : Home) (h : m ≠ n) : (s.setHome n v).home m = s.home m := by
  simp [State.home, State.setHome, KMap.getD_set_ne _ _ _ h]
@[simp] theorem chan_setChan_self (s : State) (n : Nat) (v : Chan) : (s.setChan n v).chan n = v := by
  simp [State.chan, State.setChan]
theorem chan_setChan_ne (s : State) {m n : Nat} (v : Chan) (h : m ≠ n) : (s.setChan n v).chan m = s.chan m := by
  simp [State.chan, State.setChan, KMap.getD_set_ne _ _ _ h]
@[simp] theorem dma_setDma_self (s : State) (n : Nat) (v : Dma) : (s.setDma n v).dma n = v := by
  simp [State.dma, State.setDma]
theorem dma_setDma_ne (s : State) {m n : Nat} (v : Dma) (h : m ≠ n) : (s.setDma n v).dma m = s.dma m := by
  simp [State.dma, State.setDma, KMap.getD_set_ne _ _ _ h]
@[simp] theorem slot_setSlot_self (s : State) (n : Nat) (v : Slot) : (s.setSlot n v).slot n = v := by
  simp [State.slot, State.setSlot]
theorem slot_setSlot_ne (s : State) {m n : Nat} (v : Slot) (h : m ≠ n) : (s.setSlot n v).slot m = s.slot m := by
  simp [State.slot, State.setSlot, KMap.getD_set_ne _ _ _ h]
@[simp] theorem src_setSrc_self (s : State) (n : Nat) (v : Src) : (s.setSrc n v).src n = v := by
  simp [State.src, State.setSrc]
theorem src_setSrc_ne (s : State) {m n : Nat} (v : Src) (h : m ≠ n) : (s.setSrc n v).src m = s.src m := by
  simp [State.src, State.setSrc, KMap.getD_set_ne _ _ _ h]
@[simp] theorem port_setPort_self (s : State) (n : Nat) (v : PortSide) : (s.setPort n v).port n = v := by
  simp [State.port, State.setPort]
theorem port_setPort_ne (s : State) {m n : Nat} (v : PortSide) (h : m ≠ n) : (s.setPort n v).port m = s.port m := by
  simp [State.port, State.setPort, KMap.getD_set_ne _ _ _ h]
@[simp] theorem link_setLink_self (s : State) (n : Nat) (v : Link) : (s.setLink n v).link n = v := by
  simp [State.link, State.setLink]
theorem link_setLink_ne (s : State) {m n : Nat} (v : Link) (h : m ≠ n) : (s.setLink n v).link m = s.link m := by
  simp [State.link, State.setLink, KMap.getD_set_ne _ _ _ h]
@[simp] theorem mirror_setMirror_self (s : State) (n : Nat) (v : Mirror) : (s.setMirror n v).mirror n = v := by
  simp [State.mirror, State.setMirror]
theorem mirror_setMirror_ne (s : State) {m n : Nat} (v : Mirror) (h : m ≠ n) : (s.setMirror n v).mirror m = s.mirror m := by
  simp [State.mirror, State.setMirror, KMap.getD_set_ne _ _ _ h]
@[simp] theorem slice_setSlice_self (s : State) (n : Nat) (v : Slice) : (s.setSlice n v).slice n = v := by
  simp [State.slice, State.setSlice]
theorem slice_setSlice_ne (s : State) {m n : Nat} (v : Slice) (h : m ≠ n) : (s.setSlice n v).slice m = s.slice m := by
  simp [State.slice, State.setSlice, KMap.getD_set_ne _ _ _ h]
@[simp] theorem core_modCore_self (s : State) (n : Nat) (f : Core → Core) : (s.modCore n f).core n = f (s.core n) := by
  simp [State.modCore]
theorem core_modCore_ne (s : State) {m n : Nat} (f : Core → Core) (h : m ≠ n) : (s.modCore n f).core m = s.core m := by
  simp [State.modCore, core_setCore_ne s _ h]
theorem modCore_modCore (s : State) (n : Nat) (f g : Core → Core) : ((s.modCore n f).modCore n g).core n = g (f (s.core n)) := by
  simp

/-! Registers of the space. -/

@[simp] theorem rg_setRg_self (s : State) (w : Word) (k : RegKind) (x i j : Nat) : (s.setRg w k x i j).rg k x i j = w := by
  simp [State.rg, State.setRg]
theorem rg_setRg_ne (s : State) (w : Word) (k k2 : RegKind) (x i j x2 i2 j2 : Nat) (h : k2.addr x2 i2 j2 ≠ k.addr x i j) :
    (s.setRg w k x i j).rg k2 x2 i2 j2 = s.rg k2 x2 i2 j2 := by
  simp [State.rg, State.setRg, KMap.getD_set_ne _ _ _ h]
theorem rg_of_regs {s t : State} (h : t.regs = s.regs) (k : RegKind) (x i j : Nat) : t.rg k x i j = s.rg k x i j := by
  simp [State.rg, h]
theorem fd_of_regs {s t : State} (h : t.regs = s.regs) (k : RegKind) (f : Fld) (x i j : Nat) : t.fd k f x i j = s.fd k f x i j := by
  simp [State.fd, rg_of_regs h]

/-- The value of a field after the field has been set: the value cut to the field. -/
theorem getF_setF_self (w : Word) (f : Fld) (v : Nat) (h : f.lo + f.len ≤ 64) : getF (setF w f v) f = v % 2 ^ f.len := by
  apply Nat.eq_of_testBit_eq
  intro k
  simp only [getF, setF, maskF, Nat.testBit_mod_two_pow, Nat.testBit_shiftRight]
  by_cases hk : k < f.len
  · have h1 : f.lo + k < 64 := by omega
    have h2 : ¬ (f.lo + k < f.lo) := by omega
    have hs : f.lo + k - f.lo = k := by omega
    have h3 : f.lo ≤ f.lo + k := by omega
    simp only [hk, BitVec.testBit_toNat, BitVec.getLsbD_or, BitVec.getLsbD_and, BitVec.getLsbD_not, h1,
      BitVec.getLsbD_ofNat, Nat.testBit_shiftLeft, Nat.testBit_two_pow_sub_one, Nat.testBit_mod_two_pow, decide_true,
      Bool.true_and, hs, h3]
    simp
  · simp [hk]

/-- Setting a field leaves a field that shares no bit with it. -/
theorem getF_setF_disjoint (w : Word) (f g : Fld) (v : Nat) (h : f.lo + f.len ≤ g.lo ∨ g.lo + g.len ≤ f.lo) (hg : g.lo + g.len ≤ 64) :
    getF (setF w f v) g = getF w g := by
  apply Nat.eq_of_testBit_eq
  intro k
  simp only [getF, setF, maskF, Nat.testBit_mod_two_pow, Nat.testBit_shiftRight]
  by_cases hk : k < g.len
  · have h1 : g.lo + k < 64 := by omega
    have h2 : ¬ (f.lo ≤ g.lo + k ∧ g.lo + k - f.lo < f.len) := by omega
    simp only [hk, BitVec.testBit_toNat, BitVec.getLsbD_or, BitVec.getLsbD_and, BitVec.getLsbD_not, h1,
      BitVec.getLsbD_ofNat, Nat.testBit_shiftLeft, Nat.testBit_two_pow_sub_one, Nat.testBit_mod_two_pow, decide_true,
      Bool.true_and]
    by_cases ha : f.lo ≤ g.lo + k
    · have hb : ¬ (g.lo + k - f.lo < f.len) := by omega
      simp [ha, hb]
    · simp [ha]
  · simp [hk]

theorem fd_setFd_self (s : State) (k : RegKind) (f : Fld) (v x i j : Nat) (h : f.lo + f.len ≤ 64) :
    (s.setFd k f v x i j).fd k f x i j = v % 2 ^ f.len := by
  simp [State.fd, State.setFd, getF_setF_self _ _ _ h]
theorem fd_setFd_disjoint (s : State) (k : RegKind) (f g : Fld) (v x i j : Nat)
    (h : f.lo + f.len ≤ g.lo ∨ g.lo + g.len ≤ f.lo) (hg : g.lo + g.len ≤ 64) :
    (s.setFd k f v x i j).fd k g x i j = s.fd k g x i j := by
  simp [State.fd, State.setFd, getF_setF_disjoint _ _ _ _ h hg]
theorem rg_setFd_ne (s : State) (k k2 : RegKind) (f : Fld) (v x i j x2 i2 j2 : Nat) (h : k2.addr x2 i2 j2 ≠ k.addr x i j) :
    (s.setFd k f v x i j).rg k2 x2 i2 j2 = s.rg k2 x2 i2 j2 := rg_setRg_ne s _ _ _ _ _ _ _ _ _ h
theorem fd_setFd_ne (s : State) (k k2 : RegKind) (f g : Fld) (v x i j x2 i2 j2 : Nat) (h : k2.addr x2 i2 j2 ≠ k.addr x i j) :
    (s.setFd k f v x i j).fd k2 g x2 i2 j2 = s.fd k2 g x2 i2 j2 := by
  simp [State.fd, rg_setFd_ne s _ _ _ _ _ _ _ _ _ _ h]
theorem fd_satFd_self (s : State) (k : RegKind) (f : Fld) (x i j : Nat) (h : f.lo + f.len ≤ 64) :
    (s.satFd k f x i j).fd k f x i j = satInc f.len (s.fd k f x i j) := by
  rw [State.satFd, fd_setFd_self _ _ _ _ _ _ _ h]
  apply Nat.mod_eq_of_lt
  unfold satInc
  have := Nat.two_pow_pos f.len
  split <;> omega

/-! Raising an interrupt changes its source only. -/

@[simp] theorem raiseSrc_pending (s : State) (n : Nat) : (s.raiseSrc n).pending = s.pending := by unfold State.raiseSrc; split <;> rfl
@[simp] theorem raiseSrc_fresh (s : State) (n : Nat) : (s.raiseSrc n).fresh = s.fresh := by unfold State.raiseSrc; split <;> rfl
@[simp] theorem raiseSrc_regs (s : State) (n : Nat) : (s.raiseSrc n).regs = s.regs := by unfold State.raiseSrc; split <;> rfl
@[simp] theorem raiseSrc_shad (s : State) (n : Nat) : (s.raiseSrc n).shad = s.shad := by unfold State.raiseSrc; split <;> rfl
@[simp] theorem raiseSrc_rwo (s : State) (n : Nat) : (s.raiseSrc n).rwo = s.rwo := by unfold State.raiseSrc; split <;> rfl
@[simp] theorem raiseSrc_cores (s : State) (n : Nat) : (s.raiseSrc n).cores = s.cores := by unfold State.raiseSrc; split <;> rfl
@[simp] theorem raiseSrc_dies (s : State) (n : Nat) : (s.raiseSrc n).dies = s.dies := by unfold State.raiseSrc; split <;> rfl
@[simp] theorem raiseSrc_homes (s : State) (n : Nat) : (s.raiseSrc n).homes = s.homes := by unfold State.raiseSrc; split <;> rfl
@[simp] theorem raiseSrc_chans (s : State) (n : Nat) : (s.raiseSrc n).chans = s.chans := by unfold State.raiseSrc; split <;> rfl
@[simp] theorem raiseSrc_msc (s : State) (n : Nat) : (s.raiseSrc n).msc = s.msc := by unfold State.raiseSrc; split <;> rfl
@[simp] theorem raiseSrc_upsets (s : State) (n : Nat) : (s.raiseSrc n).upsets = s.upsets := by unfold State.raiseSrc; split <;> rfl
@[simp] theorem raiseSrc_mem (s : State) (n : Nat) : (s.raiseSrc n).mem = s.mem := by unfold State.raiseSrc; split <;> rfl
@[simp] theorem raiseSrc_chk (s : State) (n : Nat) : (s.raiseSrc n).chk = s.chk := by unfold State.raiseSrc; split <;> rfl
@[simp] theorem raiseSrc_tck (s : State) (n : Nat) : (s.raiseSrc n).tck = s.tck := by unfold State.raiseSrc; split <;> rfl
@[simp] theorem raiseSrc_held (s : State) (n : Nat) : (s.raiseSrc n).held = s.held := by unfold State.raiseSrc; split <;> rfl
@[simp] theorem raiseSrc_grpLast (s : State) (n : Nat) : (s.raiseSrc n).grpLast = s.grpLast := by unfold State.raiseSrc; split <;> rfl
@[simp] theorem raiseSrc_owners (s : State) (n : Nat) : (s.raiseSrc n).owners = s.owners := by unfold State.raiseSrc; split <;> rfl
@[simp] theorem raiseSrc_err (s : State) (n : Nat) : (s.raiseSrc n).err = s.err := by unfold State.raiseSrc; split <;> rfl
@[simp] theorem raiseSrc_slots (s : State) (n : Nat) : (s.raiseSrc n).slots = s.slots := by unfold State.raiseSrc; split <;> rfl
@[simp] theorem raiseSrc_waitq (s : State) (n : Nat) : (s.raiseSrc n).waitq = s.waitq := by unfold State.raiseSrc; split <;> rfl
@[simp] theorem raiseSrc_poolEdge (s : State) (n : Nat) : (s.raiseSrc n).poolEdge = s.poolEdge := by unfold State.raiseSrc; split <;> rfl
@[simp] theorem raiseSrc_d2d (s : State) (n : Nat) : (s.raiseSrc n).d2d = s.d2d := by unfold State.raiseSrc; split <;> rfl
@[simp] theorem raiseSrc_net (s : State) (n : Nat) : (s.raiseSrc n).net = s.net := by unfold State.raiseSrc; split <;> rfl
@[simp] theorem raiseSrc_dmas (s : State) (n : Nat) : (s.raiseSrc n).dmas = s.dmas := by unfold State.raiseSrc; split <;> rfl
@[simp] theorem raiseSrc_hb (s : State) (n : Nat) : (s.raiseSrc n).hb = s.hb := by unfold State.raiseSrc; split <;> rfl
@[simp] theorem raiseSrc_vsf (s : State) (n : Nat) : (s.raiseSrc n).vsf = s.vsf := by unfold State.raiseSrc; split <;> rfl
@[simp] theorem raiseSrc_fab (s : State) (n : Nat) : (s.raiseSrc n).fab = s.fab := by unfold State.raiseSrc; split <;> rfl
@[simp] theorem raiseSrc_pair (s : State) (n : Nat) : (s.raiseSrc n).pair = s.pair := by unfold State.raiseSrc; split <;> rfl
@[simp] theorem raiseSrc_pwr (s : State) (n : Nat) : (s.raiseSrc n).pwr = s.pwr := by unfold State.raiseSrc; split <;> rfl
@[simp] theorem raiseSrc_boot (s : State) (n : Nat) : (s.raiseSrc n).boot = s.boot := by unfold State.raiseSrc; split <;> rfl
@[simp] theorem raiseSrc_tap (s : State) (n : Nat) : (s.raiseSrc n).tap = s.tap := by unfold State.raiseSrc; split <;> rfl
@[simp] theorem raiseSrc_pins (s : State) (n : Nat) : (s.raiseSrc n).pins = s.pins := by unfold State.raiseSrc; split <;> rfl
@[simp] theorem raiseSrc_rg (s : State) (n : Nat) (k : RegKind) (x i j : Nat) : (s.raiseSrc n).rg k x i j = s.rg k x i j := rg_of_regs (by simp) _ _ _ _
theorem raiseSrc_pend (s : State) (n : Nat) (h : srcEdge n = true) : ((s.raiseSrc n).src n).pend = true := by simp [State.raiseSrc, h]

end Sys2Proof.Machine
end

