-- ==== Sys2Proof/Laws/Core.lean ====
section
/-! SUPPORT. What each update of a core leaves alone, field by field; and what a register reads after a write. -/
namespace Sys2Proof.Machine

@[simp] theorem wg_run (c : Core) (r : BitVec 5) (w : Word) : (c.wg r w).run = c.run := by unfold Core.wg; split <;> rfl
@[simp] theorem wg_release (c : Core) (r : BitVec 5) (w : Word) : (c.wg r w).release = c.release := by unfold Core.wg; split <;> rfl
@[simp] theorem wg_haltReq (c : Core) (r : BitVec 5) (w : Word) : (c.wg r w).haltReq = c.haltReq := by unfold Core.wg; split <;> rfl
@[simp] theorem wg_werr (c : Core) (r : BitVec 5) (w : Word) : (c.wg r w).werr = c.werr := by unfold Core.wg; split <;> rfl
@[simp] theorem wg_p (c : Core) (r : BitVec 5) (w : Word) : (c.wg r w).p = c.p := by unfold Core.wg; split <;> rfl
@[simp] theorem wg_pc (c : Core) (r : BitVec 5) (w : Word) : (c.wg r w).pc = c.pc := by unfold Core.wg; split <;> rfl
@[simp] theorem wg_lvl (c : Core) (r : BitVec 5) (w : Word) : (c.wg r w).lvl = c.lvl := by unfold Core.wg; split <;> rfl
@[simp] theorem wg_sec (c : Core) (r : BitVec 5) (w : Word) : (c.wg r w).sec = c.sec := by unfold Core.wg; split <;> rfl
@[simp] theorem wg_ie (c : Core) (r : BitVec 5) (w : Word) : (c.wg r w).ie = c.ie := by unfold Core.wg; split <;> rfl
@[simp] theorem wg_ss (c : Core) (r : BitVec 5) (w : Word) : (c.wg r w).ss = c.ss := by unfold Core.wg; split <;> rfl
@[simp] theorem wg_mcip (c : Core) (r : BitVec 5) (w : Word) : (c.wg r w).mcip = c.mcip := by unfold Core.wg; split <;> rfl
@[simp] theorem wg_v (c : Core) (r : BitVec 5) (w : Word) : (c.wg r w).v = c.v := by unfold Core.wg; split <;> rfl
@[simp] theorem wg_a (c : Core) (r : BitVec 5) (w : Word) : (c.wg r w).a = c.a := by unfold Core.wg; split <;> rfl
@[simp] theorem wg_creg (c : Core) (r : BitVec 5) (w : Word) : (c.wg r w).creg = c.creg := by unfold Core.wg; split <;> rfl
@[simp] theorem wg_creg60 (c : Core) (r : BitVec 5) (w : Word) : (c.wg r w).creg60 = c.creg60 := by unfold Core.wg; split <;> rfl
@[simp] theorem wg_frozen (c : Core) (r : BitVec 5) (w : Word) : (c.wg r w).frozen = c.frozen := by unfold Core.wg; split <;> rfl
@[simp] theorem wg_wait (c : Core) (r : BitVec 5) (w : Word) : (c.wg r w).wait = c.wait := by unfold Core.wg; split <;> rfl
@[simp] theorem wg_word (c : Core) (r : BitVec 5) (w : Word) : (c.wg r w).word = c.word := by unfold Core.wg; split <;> rfl
@[simp] theorem wg_reply (c : Core) (r : BitVec 5) (w : Word) : (c.wg r w).reply = c.reply := by unfold Core.wg; split <;> rfl
@[simp] theorem wg_rbuf (c : Core) (r : BitVec 5) (w : Word) : (c.wg r w).rbuf = c.rbuf := by unfold Core.wg; split <;> rfl
@[simp] theorem wg_stepDue (c : Core) (r : BitVec 5) (w : Word) : (c.wg r w).stepDue = c.stepDue := by unfold Core.wg; split <;> rfl
@[simp] theorem wg_defErr (c : Core) (r : BitVec 5) (w : Word) : (c.wg r w).defErr = c.defErr := by unfold Core.wg; split <;> rfl
@[simp] theorem wg_stq (c : Core) (r : BitVec 5) (w : Word) : (c.wg r w).stq = c.stq := by unfold Core.wg; split <;> rfl
@[simp] theorem wg_openW (c : Core) (r : BitVec 5) (w : Word) : (c.wg r w).openW = c.openW := by unfold Core.wg; split <;> rfl
@[simp] theorem wg_openR (c : Core) (r : BitVec 5) (w : Word) : (c.wg r w).openR = c.openR := by unfold Core.wg; split <;> rfl
@[simp] theorem wg_offer (c : Core) (r : BitVec 5) (w : Word) : (c.wg r w).offer = c.offer := by unfold Core.wg; split <;> rfl
@[simp] theorem wg_offerS (c : Core) (r : BitVec 5) (w : Word) : (c.wg r w).offerS = c.offerS := by unfold Core.wg; split <;> rfl
@[simp] theorem wg_l1i (c : Core) (r : BitVec 5) (w : Word) : (c.wg r w).l1i = c.l1i := by unfold Core.wg; split <;> rfl
@[simp] theorem wg_l1d (c : Core) (r : BitVec 5) (w : Word) : (c.wg r w).l1d = c.l1d := by unfold Core.wg; split <;> rfl
@[simp] theorem wg_l2 (c : Core) (r : BitVec 5) (w : Word) : (c.wg r w).l2 = c.l2 := by unfold Core.wg; split <;> rfl
@[simp] theorem wg_l1iRet (c : Core) (r : BitVec 5) (w : Word) : (c.wg r w).l1iRet = c.l1iRet := by unfold Core.wg; split <;> rfl
@[simp] theorem wg_l1dRet (c : Core) (r : BitVec 5) (w : Word) : (c.wg r w).l1dRet = c.l1dRet := by unfold Core.wg; split <;> rfl
@[simp] theorem wg_cleaning (c : Core) (r : BitVec 5) (w : Word) : (c.wg r w).cleaning = c.cleaning := by unfold Core.wg; split <;> rfl
@[simp] theorem wg_itlb (c : Core) (r : BitVec 5) (w : Word) : (c.wg r w).itlb = c.itlb := by unfold Core.wg; split <;> rfl
@[simp] theorem wg_dtlb (c : Core) (r : BitVec 5) (w : Word) : (c.wg r w).dtlb = c.dtlb := by unfold Core.wg; split <;> rfl
@[simp] theorem wg_tlb2 (c : Core) (r : BitVec 5) (w : Word) : (c.wg r w).tlb2 = c.tlb2 := by unfold Core.wg; split <;> rfl
@[simp] theorem wg_tlb2big (c : Core) (r : BitVec 5) (w : Word) : (c.wg r w).tlb2big = c.tlb2big := by unfold Core.wg; split <;> rfl
@[simp] theorem wg_wcache (c : Core) (r : BitVec 5) (w : Word) : (c.wg r w).wcache = c.wcache := by unfold Core.wg; split <;> rfl
@[simp] theorem wg_tlbFlushDue (c : Core) (r : BitVec 5) (w : Word) : (c.wg r w).tlbFlushDue = c.tlbFlushDue := by unfold Core.wg; split <;> rfl
@[simp] theorem wg_tlbiOut (c : Core) (r : BitVec 5) (w : Word) : (c.wg r w).tlbiOut = c.tlbiOut := by unfold Core.wg; split <;> rfl
@[simp] theorem wg_tlbTout (c : Core) (r : BitVec 5) (w : Word) : (c.wg r w).tlbTout = c.tlbTout := by unfold Core.wg; split <;> rfl
@[simp] theorem wg_hist (c : Core) (r : BitVec 5) (w : Word) : (c.wg r w).hist = c.hist := by unfold Core.wg; split <;> rfl
@[simp] theorem wg_itt (c : Core) (r : BitVec 5) (w : Word) : (c.wg r w).itt = c.itt := by unfold Core.wg; split <;> rfl
@[simp] theorem wg_rstack (c : Core) (r : BitVec 5) (w : Word) : (c.wg r w).rstack = c.rstack := by unfold Core.wg; split <;> rfl
@[simp] theorem wg_mispred (c : Core) (r : BitVec 5) (w : Word) : (c.wg r w).mispred = c.mispred := by unfold Core.wg; split <;> rfl
@[simp] theorem wg_clrBusy (c : Core) (r : BitVec 5) (w : Word) : (c.wg r w).clrBusy = c.clrBusy := by unfold Core.wg; split <;> rfl
@[simp] theorem wg_gate (c : Core) (r : BitVec 5) (w : Word) : (c.wg r w).gate = c.gate := by unfold Core.wg; split <;> rfl
@[simp] theorem wg_dbg (c : Core) (r : BitVec 5) (w : Word) : (c.wg r w).dbg = c.dbg := by unfold Core.wg; split <;> rfl
@[simp] theorem wg_dbgQ (c : Core) (r : BitVec 5) (w : Word) : (c.wg r w).dbgQ = c.dbgQ := by unfold Core.wg; split <;> rfl
@[simp] theorem wg_resumeDue (c : Core) (r : BitVec 5) (w : Word) : (c.wg r w).resumeDue = c.resumeDue := by unfold Core.wg; split <;> rfl
@[simp] theorem wg_sbuf (c : Core) (r : BitVec 5) (w : Word) : (c.wg r w).sbuf = c.sbuf := by unfold Core.wg; split <;> rfl
@[simp] theorem wg_pmEv (c : Core) (r : BitVec 5) (w : Word) : (c.wg r w).pmEv = c.pmEv := by unfold Core.wg; split <;> rfl
@[simp] theorem wg_arrErr (c : Core) (r : BitVec 5) (w : Word) : (c.wg r w).arrErr = c.arrErr := by unfold Core.wg; split <;> rfl
@[simp] theorem wg_pf1 (c : Core) (r : BitVec 5) (w : Word) : (c.wg r w).pf1 = c.pf1 := by unfold Core.wg; split <;> rfl
@[simp] theorem wg_pf2 (c : Core) (r : BitVec 5) (w : Word) : (c.wg r w).pf2 = c.pf2 := by unfold Core.wg; split <;> rfl
@[simp] theorem wg_apLimit (c : Core) (r : BitVec 5) (w : Word) : (c.wg r w).apLimit = c.apLimit := by unfold Core.wg; split <;> rfl
@[simp] theorem wp_run (c : Core) (r : BitVec 3) (b : Bool) : (c.wp r b).run = c.run := by unfold Core.wp; split <;> rfl
@[simp] theorem wp_release (c : Core) (r : BitVec 3) (b : Bool) : (c.wp r b).release = c.release := by unfold Core.wp; split <;> rfl
@[simp] theorem wp_haltReq (c : Core) (r : BitVec 3) (b : Bool) : (c.wp r b).haltReq = c.haltReq := by unfold Core.wp; split <;> rfl
@[simp] theorem wp_werr (c : Core) (r : BitVec 3) (b : Bool) : (c.wp r b).werr = c.werr := by unfold Core.wp; split <;> rfl
@[simp] theorem wp_g (c : Core) (r : BitVec 3) (b : Bool) : (c.wp r b).g = c.g := by unfold Core.wp; split <;> rfl
@[simp] theorem wp_pc (c : Core) (r : BitVec 3) (b : Bool) : (c.wp r b).pc = c.pc := by unfold Core.wp; split <;> rfl
@[simp] theorem wp_lvl (c : Core) (r : BitVec 3) (b : Bool) : (c.wp r b).lvl = c.lvl := by unfold Core.wp; split <;> rfl
@[simp] theorem wp_sec (c : Core) (r : BitVec 3) (b : Bool) : (c.wp r b).sec = c.sec := by unfold Core.wp; split <;> rfl
@[simp] theorem wp_ie (c : Core) (r : BitVec 3) (b : Bool) : (c.wp r b).ie = c.ie := by unfold Core.wp; split <;> rfl
@[simp] theorem wp_ss (c : Core) (r : BitVec 3) (b : Bool) : (c.wp r b).ss = c.ss := by unfold Core.wp; split <;> rfl
@[simp] theorem wp_mcip (c : Core) (r : BitVec 3) (b : Bool) : (c.wp r b).mcip = c.mcip := by unfold Core.wp; split <;> rfl
@[simp] theorem wp_v (c : Core) (r : BitVec 3) (b : Bool) : (c.wp r b).v = c.v := by unfold Core.wp; split <;> rfl
@[simp] theorem wp_a (c : Core) (r : BitVec 3) (b : Bool) : (c.wp r b).a = c.a := by unfold Core.wp; split <;> rfl
@[simp] theorem wp_creg (c : Core) (r : BitVec 3) (b : Bool) : (c.wp r b).creg = c.creg := by unfold Core.wp; split <;> rfl
@[simp] theorem wp_creg60 (c : Core) (r : BitVec 3) (b : Bool) : (c.wp r b).creg60 = c.creg60 := by unfold Core.wp; split <;> rfl
@[simp] theorem wp_frozen (c : Core) (r : BitVec 3) (b : Bool) : (c.wp r b).frozen = c.frozen := by unfold Core.wp; split <;> rfl
@[simp] theorem wp_wait (c : Core) (r : BitVec 3) (b : Bool) : (c.wp r b).wait = c.wait := by unfold Core.wp; split <;> rfl
@[simp] theorem wp_word (c : Core) (r : BitVec 3) (b : Bool) : (c.wp r b).word = c.word := by unfold Core.wp; split <;> rfl
@[simp] theorem wp_reply (c : Core) (r : BitVec 3) (b : Bool) : (c.wp r b).reply = c.reply := by unfold Core.wp; split <;> rfl
@[simp] theorem wp_rbuf (c : Core) (r : BitVec 3) (b : Bool) : (c.wp r b).rbuf = c.rbuf := by unfold Core.wp; split <;> rfl
@[simp] theorem wp_stepDue (c : Core) (r : BitVec 3) (b : Bool) : (c.wp r b).stepDue = c.stepDue := by unfold Core.wp; split <;> rfl
@[simp] theorem wp_defErr (c : Core) (r : BitVec 3) (b : Bool) : (c.wp r b).defErr = c.defErr := by unfold Core.wp; split <;> rfl
@[simp] theorem wp_stq (c : Core) (r : BitVec 3) (b : Bool) : (c.wp r b).stq = c.stq := by unfold Core.wp; split <;> rfl
@[simp] theorem wp_openW (c : Core) (r : BitVec 3) (b : Bool) : (c.wp r b).openW = c.openW := by unfold Core.wp; split <;> rfl
@[simp] theorem wp_openR (c : Core) (r : BitVec 3) (b : Bool) : (c.wp r b).openR = c.openR := by unfold Core.wp; split <;> rfl
@[simp] theorem wp_offer (c : Core) (r : BitVec 3) (b : Bool) : (c.wp r b).offer = c.offer := by unfold Core.wp; split <;> rfl
@[simp] theorem wp_offerS (c : Core) (r : BitVec 3) (b : Bool) : (c.wp r b).offerS = c.offerS := by unfold Core.wp; split <;> rfl
@[simp] theorem wp_l1i (c : Core) (r : BitVec 3) (b : Bool) : (c.wp r b).l1i = c.l1i := by unfold Core.wp; split <;> rfl
@[simp] theorem wp_l1d (c : Core) (r : BitVec 3) (b : Bool) : (c.wp r b).l1d = c.l1d := by unfold Core.wp; split <;> rfl
@[simp] theorem wp_l2 (c : Core) (r : BitVec 3) (b : Bool) : (c.wp r b).l2 = c.l2 := by unfold Core.wp; split <;> rfl
@[simp] theorem wp_l1iRet (c : Core) (r : BitVec 3) (b : Bool) : (c.wp r b).l1iRet = c.l1iRet := by unfold Core.wp; split <;> rfl
@[simp] theorem wp_l1dRet (c : Core) (r : BitVec 3) (b : Bool) : (c.wp r b).l1dRet = c.l1dRet := by unfold Core.wp; split <;> rfl
@[simp] theorem wp_cleaning (c : Core) (r : BitVec 3) (b : Bool) : (c.wp r b).cleaning = c.cleaning := by unfold Core.wp; split <;> rfl
@[simp] theorem wp_itlb (c : Core) (r : BitVec 3) (b : Bool) : (c.wp r b).itlb = c.itlb := by unfold Core.wp; split <;> rfl
@[simp] theorem wp_dtlb (c : Core) (r : BitVec 3) (b : Bool) : (c.wp r b).dtlb = c.dtlb := by unfold Core.wp; split <;> rfl
@[simp] theorem wp_tlb2 (c : Core) (r : BitVec 3) (b : Bool) : (c.wp r b).tlb2 = c.tlb2 := by unfold Core.wp; split <;> rfl
@[simp] theorem wp_tlb2big (c : Core) (r : BitVec 3) (b : Bool) : (c.wp r b).tlb2big = c.tlb2big := by unfold Core.wp; split <;> rfl
@[simp] theorem wp_wcache (c : Core) (r : BitVec 3) (b : Bool) : (c.wp r b).wcache = c.wcache := by unfold Core.wp; split <;> rfl
@[simp] theorem wp_tlbFlushDue (c : Core) (r : BitVec 3) (b : Bool) : (c.wp r b).tlbFlushDue = c.tlbFlushDue := by unfold Core.wp; split <;> rfl
@[simp] theorem wp_tlbiOut (c : Core) (r : BitVec 3) (b : Bool) : (c.wp r b).tlbiOut = c.tlbiOut := by unfold Core.wp; split <;> rfl
@[simp] theorem wp_tlbTout (c : Core) (r : BitVec 3) (b : Bool) : (c.wp r b).tlbTout = c.tlbTout := by unfold Core.wp; split <;> rfl
@[simp] theorem wp_hist (c : Core) (r : BitVec 3) (b : Bool) : (c.wp r b).hist = c.hist := by unfold Core.wp; split <;> rfl
@[simp] theorem wp_itt (c : Core) (r : BitVec 3) (b : Bool) : (c.wp r b).itt = c.itt := by unfold Core.wp; split <;> rfl
@[simp] theorem wp_rstack (c : Core) (r : BitVec 3) (b : Bool) : (c.wp r b).rstack = c.rstack := by unfold Core.wp; split <;> rfl
@[simp] theorem wp_mispred (c : Core) (r : BitVec 3) (b : Bool) : (c.wp r b).mispred = c.mispred := by unfold Core.wp; split <;> rfl
@[simp] theorem wp_clrBusy (c : Core) (r : BitVec 3) (b : Bool) : (c.wp r b).clrBusy = c.clrBusy := by unfold Core.wp; split <;> rfl
@[simp] theorem wp_gate (c : Core) (r : BitVec 3) (b : Bool) : (c.wp r b).gate = c.gate := by unfold Core.wp; split <;> rfl
@[simp] theorem wp_dbg (c : Core) (r : BitVec 3) (b : Bool) : (c.wp r b).dbg = c.dbg := by unfold Core.wp; split <;> rfl
@[simp] theorem wp_dbgQ (c : Core) (r : BitVec 3) (b : Bool) : (c.wp r b).dbgQ = c.dbgQ := by unfold Core.wp; split <;> rfl
@[simp] theorem wp_resumeDue (c : Core) (r : BitVec 3) (b : Bool) : (c.wp r b).resumeDue = c.resumeDue := by unfold Core.wp; split <;> rfl
@[simp] theorem wp_sbuf (c : Core) (r : BitVec 3) (b : Bool) : (c.wp r b).sbuf = c.sbuf := by unfold Core.wp; split <;> rfl
@[simp] theorem wp_pmEv (c : Core) (r : BitVec 3) (b : Bool) : (c.wp r b).pmEv = c.pmEv := by unfold Core.wp; split <;> rfl
@[simp] theorem wp_arrErr (c : Core) (r : BitVec 3) (b : Bool) : (c.wp r b).arrErr = c.arrErr := by unfold Core.wp; split <;> rfl
@[simp] theorem wp_pf1 (c : Core) (r : BitVec 3) (b : Bool) : (c.wp r b).pf1 = c.pf1 := by unfold Core.wp; split <;> rfl
@[simp] theorem wp_pf2 (c : Core) (r : BitVec 3) (b : Bool) : (c.wp r b).pf2 = c.pf2 := by unfold Core.wp; split <;> rfl
@[simp] theorem wp_apLimit (c : Core) (r : BitVec 3) (b : Bool) : (c.wp r b).apLimit = c.apLimit := by unfold Core.wp; split <;> rfl
@[simp] theorem wv_run (c : Core) (r : BitVec 5) (x : BitVec 576) : (c.wv r x).run = c.run := rfl
@[simp] theorem wv_release (c : Core) (r : BitVec 5) (x : BitVec 576) : (c.wv r x).release = c.release := rfl
@[simp] theorem wv_haltReq (c : Core) (r : BitVec 5) (x : BitVec 576) : (c.wv r x).haltReq = c.haltReq := rfl
@[simp] theorem wv_werr (c : Core) (r : BitVec 5) (x : BitVec 576) : (c.wv r x).werr = c.werr := rfl
@[simp] theorem wv_g (c : Core) (r : BitVec 5) (x : BitVec 576) : (c.wv r x).g = c.g := rfl
@[simp] theorem wv_p (c : Core) (r : BitVec 5) (x : BitVec 576) : (c.wv r x).p = c.p := rfl
@[simp] theorem wv_pc (c : Core) (r : BitVec 5) (x : BitVec 576) : (c.wv r x).pc = c.pc := rfl
@[simp] theorem wv_lvl (c : Core) (r : BitVec 5) (x : BitVec 576) : (c.wv r x).lvl = c.lvl := rfl
@[simp] theorem wv_sec (c : Core) (r : BitVec 5) (x : BitVec 576) : (c.wv r x).sec = c.sec := rfl
@[simp] theorem wv_ie (c : Core) (r : BitVec 5) (x : BitVec 576) : (c.wv r x).ie = c.ie := rfl
@[simp] theorem wv_ss (c : Core) (r : BitVec 5) (x : BitVec 576) : (c.wv r x).ss = c.ss := rfl
@[simp] theorem wv_mcip (c : Core) (r : BitVec 5) (x : BitVec 576) : (c.wv r x).mcip = c.mcip := rfl
@[simp] theorem wv_a (c : Core) (r : BitVec 5) (x : BitVec 576) : (c.wv r x).a = c.a := rfl
@[simp] theorem wv_creg (c : Core) (r : BitVec 5) (x : BitVec 576) : (c.wv r x).creg = c.creg := rfl
@[simp] theorem wv_creg60 (c : Core) (r : BitVec 5) (x : BitVec 576) : (c.wv r x).creg60 = c.creg60 := rfl
@[simp] theorem wv_frozen (c : Core) (r : BitVec 5) (x : BitVec 576) : (c.wv r x).frozen = c.frozen := rfl
@[simp] theorem wv_wait (c : Core) (r : BitVec 5) (x : BitVec 576) : (c.wv r x).wait = c.wait := rfl
@[simp] theorem wv_word (c : Core) (r : BitVec 5) (x : BitVec 576) : (c.wv r x).word = c.word := rfl
@[simp] theorem wv_reply (c : Core) (r : BitVec 5) (x : BitVec 576) : (c.wv r x).reply = c.reply := rfl
@[simp] theorem wv_rbuf (c : Core) (r : BitVec 5) (x : BitVec 576) : (c.wv r x).rbuf = c.rbuf := rfl
@[simp] theorem wv_stepDue (c : Core) (r : BitVec 5) (x : BitVec 576) : (c.wv r x).stepDue = c.stepDue := rfl
@[simp] theorem wv_defErr (c : Core) (r : BitVec 5) (x : BitVec 576) : (c.wv r x).defErr = c.defErr := rfl
@[simp] theorem wv_stq (c : Core) (r : BitVec 5) (x : BitVec 576) : (c.wv r x).stq = c.stq := rfl
@[simp] theorem wv_openW (c : Core) (r : BitVec 5) (x : BitVec 576) : (c.wv r x).openW = c.openW := rfl
@[simp] theorem wv_openR (c : Core) (r : BitVec 5) (x : BitVec 576) : (c.wv r x).openR = c.openR := rfl
@[simp] theorem wv_offer (c : Core) (r : BitVec 5) (x : BitVec 576) : (c.wv r x).offer = c.offer := rfl
@[simp] theorem wv_offerS (c : Core) (r : BitVec 5) (x : BitVec 576) : (c.wv r x).offerS = c.offerS := rfl
@[simp] theorem wv_l1i (c : Core) (r : BitVec 5) (x : BitVec 576) : (c.wv r x).l1i = c.l1i := rfl
@[simp] theorem wv_l1d (c : Core) (r : BitVec 5) (x : BitVec 576) : (c.wv r x).l1d = c.l1d := rfl
@[simp] theorem wv_l2 (c : Core) (r : BitVec 5) (x : BitVec 576) : (c.wv r x).l2 = c.l2 := rfl
@[simp] theorem wv_l1iRet (c : Core) (r : BitVec 5) (x : BitVec 576) : (c.wv r x).l1iRet = c.l1iRet := rfl
@[simp] theorem wv_l1dRet (c : Core) (r : BitVec 5) (x : BitVec 576) : (c.wv r x).l1dRet = c.l1dRet := rfl
@[simp] theorem wv_cleaning (c : Core) (r : BitVec 5) (x : BitVec 576) : (c.wv r x).cleaning = c.cleaning := rfl
@[simp] theorem wv_itlb (c : Core) (r : BitVec 5) (x : BitVec 576) : (c.wv r x).itlb = c.itlb := rfl
@[simp] theorem wv_dtlb (c : Core) (r : BitVec 5) (x : BitVec 576) : (c.wv r x).dtlb = c.dtlb := rfl
@[simp] theorem wv_tlb2 (c : Core) (r : BitVec 5) (x : BitVec 576) : (c.wv r x).tlb2 = c.tlb2 := rfl
@[simp] theorem wv_tlb2big (c : Core) (r : BitVec 5) (x : BitVec 576) : (c.wv r x).tlb2big = c.tlb2big := rfl
@[simp] theorem wv_wcache (c : Core) (r : BitVec 5) (x : BitVec 576) : (c.wv r x).wcache = c.wcache := rfl
@[simp] theorem wv_tlbFlushDue (c : Core) (r : BitVec 5) (x : BitVec 576) : (c.wv r x).tlbFlushDue = c.tlbFlushDue := rfl
@[simp] theorem wv_tlbiOut (c : Core) (r : BitVec 5) (x : BitVec 576) : (c.wv r x).tlbiOut = c.tlbiOut := rfl
@[simp] theorem wv_tlbTout (c : Core) (r : BitVec 5) (x : BitVec 576) : (c.wv r x).tlbTout = c.tlbTout := rfl
@[simp] theorem wv_hist (c : Core) (r : BitVec 5) (x : BitVec 576) : (c.wv r x).hist = c.hist := rfl
@[simp] theorem wv_itt (c : Core) (r : BitVec 5) (x : BitVec 576) : (c.wv r x).itt = c.itt := rfl
@[simp] theorem wv_rstack (c : Core) (r : BitVec 5) (x : BitVec 576) : (c.wv r x).rstack = c.rstack := rfl
@[simp] theorem wv_mispred (c : Core) (r : BitVec 5) (x : BitVec 576) : (c.wv r x).mispred = c.mispred := rfl
@[simp] theorem wv_clrBusy (c : Core) (r : BitVec 5) (x : BitVec 576) : (c.wv r x).clrBusy = c.clrBusy := rfl
@[simp] theorem wv_gate (c : Core) (r : BitVec 5) (x : BitVec 576) : (c.wv r x).gate = c.gate := rfl
@[simp] theorem wv_dbg (c : Core) (r : BitVec 5) (x : BitVec 576) : (c.wv r x).dbg = c.dbg := rfl
@[simp] theorem wv_dbgQ (c : Core) (r : BitVec 5) (x : BitVec 576) : (c.wv r x).dbgQ = c.dbgQ := rfl
@[simp] theorem wv_resumeDue (c : Core) (r : BitVec 5) (x : BitVec 576) : (c.wv r x).resumeDue = c.resumeDue := rfl
@[simp] theorem wv_sbuf (c : Core) (r : BitVec 5) (x : BitVec 576) : (c.wv r x).sbuf = c.sbuf := rfl
@[simp] theorem wv_pmEv (c : Core) (r : BitVec 5) (x : BitVec 576) : (c.wv r x).pmEv = c.pmEv := rfl
@[simp] theorem wv_arrErr (c : Core) (r : BitVec 5) (x : BitVec 576) : (c.wv r x).arrErr = c.arrErr := rfl
@[simp] theorem wv_pf1 (c : Core) (r : BitVec 5) (x : BitVec 576) : (c.wv r x).pf1 = c.pf1 := rfl
@[simp] theorem wv_pf2 (c : Core) (r : BitVec 5) (x : BitVec 576) : (c.wv r x).pf2 = c.pf2 := rfl
@[simp] theorem wv_apLimit (c : Core) (r : BitVec 5) (x : BitVec 576) : (c.wv r x).apLimit = c.apLimit := rfl
@[simp] theorem wa_run (c : Core) (r : BitVec 5) (x : BitVec 4608) : (c.wa r x).run = c.run := rfl
@[simp] theorem wa_release (c : Core) (r : BitVec 5) (x : BitVec 4608) : (c.wa r x).release = c.release := rfl
@[simp] theorem wa_haltReq (c : Core) (r : BitVec 5) (x : BitVec 4608) : (c.wa r x).haltReq = c.haltReq := rfl
@[simp] theorem wa_werr (c : Core) (r : BitVec 5) (x : BitVec 4608) : (c.wa r x).werr = c.werr := rfl
@[simp] theorem wa_g (c : Core) (r : BitVec 5) (x : BitVec 4608) : (c.wa r x).g = c.g := rfl
@[simp] theorem wa_p (c : Core) (r : BitVec 5) (x : BitVec 4608) : (c.wa r x).p = c.p := rfl
@[simp] theorem wa_pc (c : Core) (r : BitVec 5) (x : BitVec 4608) : (c.wa r x).pc = c.pc := rfl
@[simp] theorem wa_lvl (c : Core) (r : BitVec 5) (x : BitVec 4608) : (c.wa r x).lvl = c.lvl := rfl
@[simp] theorem wa_sec (c : Core) (r : BitVec 5) (x : BitVec 4608) : (c.wa r x).sec = c.sec := rfl
@[simp] theorem wa_ie (c : Core) (r : BitVec 5) (x : BitVec 4608) : (c.wa r x).ie = c.ie := rfl
@[simp] theorem wa_ss (c : Core) (r : BitVec 5) (x : BitVec 4608) : (c.wa r x).ss = c.ss := rfl
@[simp] theorem wa_mcip (c : Core) (r : BitVec 5) (x : BitVec 4608) : (c.wa r x).mcip = c.mcip := rfl
@[simp] theorem wa_v (c : Core) (r : BitVec 5) (x : BitVec 4608) : (c.wa r x).v = c.v := rfl
@[simp] theorem wa_creg (c : Core) (r : BitVec 5) (x : BitVec 4608) : (c.wa r x).creg = c.creg := rfl
@[simp] theorem wa_creg60 (c : Core) (r : BitVec 5) (x : BitVec 4608) : (c.wa r x).creg60 = c.creg60 := rfl
@[simp] theorem wa_frozen (c : Core) (r : BitVec 5) (x : BitVec 4608) : (c.wa r x).frozen = c.frozen := rfl
@[simp] theorem wa_wait (c : Core) (r : BitVec 5) (x : BitVec 4608) : (c.wa r x).wait = c.wait := rfl
@[simp] theorem wa_word (c : Core) (r : BitVec 5) (x : BitVec 4608) : (c.wa r x).word = c.word := rfl
@[simp] theorem wa_reply (c : Core) (r : BitVec 5) (x : BitVec 4608) : (c.wa r x).reply = c.reply := rfl
@[simp] theorem wa_rbuf (c : Core) (r : BitVec 5) (x : BitVec 4608) : (c.wa r x).rbuf = c.rbuf := rfl
@[simp] theorem wa_stepDue (c : Core) (r : BitVec 5) (x : BitVec 4608) : (c.wa r x).stepDue = c.stepDue := rfl
@[simp] theorem wa_defErr (c : Core) (r : BitVec 5) (x : BitVec 4608) : (c.wa r x).defErr = c.defErr := rfl
@[simp] theorem wa_stq (c : Core) (r : BitVec 5) (x : BitVec 4608) : (c.wa r x).stq = c.stq := rfl
@[simp] theorem wa_openW (c : Core) (r : BitVec 5) (x : BitVec 4608) : (c.wa r x).openW = c.openW := rfl
@[simp] theorem wa_openR (c : Core) (r : BitVec 5) (x : BitVec 4608) : (c.wa r x).openR = c.openR := rfl
@[simp] theorem wa_offer (c : Core) (r : BitVec 5) (x : BitVec 4608) : (c.wa r x).offer = c.offer := rfl
@[simp] theorem wa_offerS (c : Core) (r : BitVec 5) (x : BitVec 4608) : (c.wa r x).offerS = c.offerS := rfl
@[simp] theorem wa_l1i (c : Core) (r : BitVec 5) (x : BitVec 4608) : (c.wa r x).l1i = c.l1i := rfl
@[simp] theorem wa_l1d (c : Core) (r : BitVec 5) (x : BitVec 4608) : (c.wa r x).l1d = c.l1d := rfl
@[simp] theorem wa_l2 (c : Core) (r : BitVec 5) (x : BitVec 4608) : (c.wa r x).l2 = c.l2 := rfl
@[simp] theorem wa_l1iRet (c : Core) (r : BitVec 5) (x : BitVec 4608) : (c.wa r x).l1iRet = c.l1iRet := rfl
@[simp] theorem wa_l1dRet (c : Core) (r : BitVec 5) (x : BitVec 4608) : (c.wa r x).l1dRet = c.l1dRet := rfl
@[simp] theorem wa_cleaning (c : Core) (r : BitVec 5) (x : BitVec 4608) : (c.wa r x).cleaning = c.cleaning := rfl
@[simp] theorem wa_itlb (c : Core) (r : BitVec 5) (x : BitVec 4608) : (c.wa r x).itlb = c.itlb := rfl
@[simp] theorem wa_dtlb (c : Core) (r : BitVec 5) (x : BitVec 4608) : (c.wa r x).dtlb = c.dtlb := rfl
@[simp] theorem wa_tlb2 (c : Core) (r : BitVec 5) (x : BitVec 4608) : (c.wa r x).tlb2 = c.tlb2 := rfl
@[simp] theorem wa_tlb2big (c : Core) (r : BitVec 5) (x : BitVec 4608) : (c.wa r x).tlb2big = c.tlb2big := rfl
@[simp] theorem wa_wcache (c : Core) (r : BitVec 5) (x : BitVec 4608) : (c.wa r x).wcache = c.wcache := rfl
@[simp] theorem wa_tlbFlushDue (c : Core) (r : BitVec 5) (x : BitVec 4608) : (c.wa r x).tlbFlushDue = c.tlbFlushDue := rfl
@[simp] theorem wa_tlbiOut (c : Core) (r : BitVec 5) (x : BitVec 4608) : (c.wa r x).tlbiOut = c.tlbiOut := rfl
@[simp] theorem wa_tlbTout (c : Core) (r : BitVec 5) (x : BitVec 4608) : (c.wa r x).tlbTout = c.tlbTout := rfl
@[simp] theorem wa_hist (c : Core) (r : BitVec 5) (x : BitVec 4608) : (c.wa r x).hist = c.hist := rfl
@[simp] theorem wa_itt (c : Core) (r : BitVec 5) (x : BitVec 4608) : (c.wa r x).itt = c.itt := rfl
@[simp] theorem wa_rstack (c : Core) (r : BitVec 5) (x : BitVec 4608) : (c.wa r x).rstack = c.rstack := rfl
@[simp] theorem wa_mispred (c : Core) (r : BitVec 5) (x : BitVec 4608) : (c.wa r x).mispred = c.mispred := rfl
@[simp] theorem wa_clrBusy (c : Core) (r : BitVec 5) (x : BitVec 4608) : (c.wa r x).clrBusy = c.clrBusy := rfl
@[simp] theorem wa_gate (c : Core) (r : BitVec 5) (x : BitVec 4608) : (c.wa r x).gate = c.gate := rfl
@[simp] theorem wa_dbg (c : Core) (r : BitVec 5) (x : BitVec 4608) : (c.wa r x).dbg = c.dbg := rfl
@[simp] theorem wa_dbgQ (c : Core) (r : BitVec 5) (x : BitVec 4608) : (c.wa r x).dbgQ = c.dbgQ := rfl
@[simp] theorem wa_resumeDue (c : Core) (r : BitVec 5) (x : BitVec 4608) : (c.wa r x).resumeDue = c.resumeDue := rfl
@[simp] theorem wa_sbuf (c : Core) (r : BitVec 5) (x : BitVec 4608) : (c.wa r x).sbuf = c.sbuf := rfl
@[simp] theorem wa_pmEv (c : Core) (r : BitVec 5) (x : BitVec 4608) : (c.wa r x).pmEv = c.pmEv := rfl
@[simp] theorem wa_arrErr (c : Core) (r : BitVec 5) (x : BitVec 4608) : (c.wa r x).arrErr = c.arrErr := rfl
@[simp] theorem wa_pf1 (c : Core) (r : BitVec 5) (x : BitVec 4608) : (c.wa r x).pf1 = c.pf1 := rfl
@[simp] theorem wa_pf2 (c : Core) (r : BitVec 5) (x : BitVec 4608) : (c.wa r x).pf2 = c.pf2 := rfl
@[simp] theorem wa_apLimit (c : Core) (r : BitVec 5) (x : BitVec 4608) : (c.wa r x).apLimit = c.apLimit := rfl
@[simp] theorem setCr_run (c : Core) (n : Nat) (w : Word) : (c.setCr n w).run = c.run := rfl
@[simp] theorem setCr_release (c : Core) (n : Nat) (w : Word) : (c.setCr n w).release = c.release := rfl
@[simp] theorem setCr_haltReq (c : Core) (n : Nat) (w : Word) : (c.setCr n w).haltReq = c.haltReq := rfl
@[simp] theorem setCr_werr (c : Core) (n : Nat) (w : Word) : (c.setCr n w).werr = c.werr := rfl
@[simp] theorem setCr_g (c : Core) (n : Nat) (w : Word) : (c.setCr n w).g = c.g := rfl
@[simp] theorem setCr_p (c : Core) (n : Nat) (w : Word) : (c.setCr n w).p = c.p := rfl
@[simp] theorem setCr_pc (c : Core) (n : Nat) (w : Word) : (c.setCr n w).pc = c.pc := rfl
@[simp] theorem setCr_lvl (c : Core) (n : Nat) (w : Word) : (c.setCr n w).lvl = c.lvl := rfl
@[simp] theorem setCr_sec (c : Core) (n : Nat) (w : Word) : (c.setCr n w).sec = c.sec := rfl
@[simp] theorem setCr_ie (c : Core) (n : Nat) (w : Word) : (c.setCr n w).ie = c.ie := rfl
@[simp] theorem setCr_ss (c : Core) (n : Nat) (w : Word) : (c.setCr n w).ss = c.ss := rfl
@[simp] theorem setCr_mcip (c : Core) (n : Nat) (w : Word) : (c.setCr n w).mcip = c.mcip := rfl
@[simp] theorem setCr_v (c : Core) (n : Nat) (w : Word) : (c.setCr n w).v = c.v := rfl
@[simp] theorem setCr_a (c : Core) (n : Nat) (w : Word) : (c.setCr n w).a = c.a := rfl
@[simp] theorem setCr_creg60 (c : Core) (n : Nat) (w : Word) : (c.setCr n w).creg60 = c.creg60 := rfl
@[simp] theorem setCr_frozen (c : Core) (n : Nat) (w : Word) : (c.setCr n w).frozen = c.frozen := rfl
@[simp] theorem setCr_wait (c : Core) (n : Nat) (w : Word) : (c.setCr n w).wait = c.wait := rfl
@[simp] theorem setCr_word (c : Core) (n : Nat) (w : Word) : (c.setCr n w).word = c.word := rfl
@[simp] theorem setCr_reply (c : Core) (n : Nat) (w : Word) : (c.setCr n w).reply = c.reply := rfl
@[simp] theorem setCr_rbuf (c : Core) (n : Nat) (w : Word) : (c.setCr n w).rbuf = c.rbuf := rfl
@[simp] theorem setCr_stepDue (c : Core) (n : Nat) (w : Word) : (c.setCr n w).stepDue = c.stepDue := rfl
@[simp] theorem setCr_defErr (c : Core) (n : Nat) (w : Word) : (c.setCr n w).defErr = c.defErr := rfl
@[simp] theorem setCr_stq (c : Core) (n : Nat) (w : Word) : (c.setCr n w).stq = c.stq := rfl
@[simp] theorem setCr_openW (c : Core) (n : Nat) (w : Word) : (c.setCr n w).openW = c.openW := rfl
@[simp] theorem setCr_openR (c : Core) (n : Nat) (w : Word) : (c.setCr n w).openR = c.openR := rfl
@[simp] theorem setCr_offer (c : Core) (n : Nat) (w : Word) : (c.setCr n w).offer = c.offer := rfl
@[simp] theorem setCr_offerS (c : Core) (n : Nat) (w : Word) : (c.setCr n w).offerS = c.offerS := rfl
@[simp] theorem setCr_l1i (c : Core) (n : Nat) (w : Word) : (c.setCr n w).l1i = c.l1i := rfl
@[simp] theorem setCr_l1d (c : Core) (n : Nat) (w : Word) : (c.setCr n w).l1d = c.l1d := rfl
@[simp] theorem setCr_l2 (c : Core) (n : Nat) (w : Word) : (c.setCr n w).l2 = c.l2 := rfl
@[simp] theorem setCr_l1iRet (c : Core) (n : Nat) (w : Word) : (c.setCr n w).l1iRet = c.l1iRet := rfl
@[simp] theorem setCr_l1dRet (c : Core) (n : Nat) (w : Word) : (c.setCr n w).l1dRet = c.l1dRet := rfl
@[simp] theorem setCr_cleaning (c : Core) (n : Nat) (w : Word) : (c.setCr n w).cleaning = c.cleaning := rfl
@[simp] theorem setCr_itlb (c : Core) (n : Nat) (w : Word) : (c.setCr n w).itlb = c.itlb := rfl
@[simp] theorem setCr_dtlb (c : Core) (n : Nat) (w : Word) : (c.setCr n w).dtlb = c.dtlb := rfl
@[simp] theorem setCr_tlb2 (c : Core) (n : Nat) (w : Word) : (c.setCr n w).tlb2 = c.tlb2 := rfl
@[simp] theorem setCr_tlb2big (c : Core) (n : Nat) (w : Word) : (c.setCr n w).tlb2big = c.tlb2big := rfl
@[simp] theorem setCr_wcache (c : Core) (n : Nat) (w : Word) : (c.setCr n w).wcache = c.wcache := rfl
@[simp] theorem setCr_tlbFlushDue (c : Core) (n : Nat) (w : Word) : (c.setCr n w).tlbFlushDue = c.tlbFlushDue := rfl
@[simp] theorem setCr_tlbiOut (c : Core) (n : Nat) (w : Word) : (c.setCr n w).tlbiOut = c.tlbiOut := rfl
@[simp] theorem setCr_tlbTout (c : Core) (n : Nat) (w : Word) : (c.setCr n w).tlbTout = c.tlbTout := rfl
@[simp] theorem setCr_hist (c : Core) (n : Nat) (w : Word) : (c.setCr n w).hist = c.hist := rfl
@[simp] theorem setCr_itt (c : Core) (n : Nat) (w : Word) : (c.setCr n w).itt = c.itt := rfl
@[simp] theorem setCr_rstack (c : Core) (n : Nat) (w : Word) : (c.setCr n w).rstack = c.rstack := rfl
@[simp] theorem setCr_mispred (c : Core) (n : Nat) (w : Word) : (c.setCr n w).mispred = c.mispred := rfl
@[simp] theorem setCr_clrBusy (c : Core) (n : Nat) (w : Word) : (c.setCr n w).clrBusy = c.clrBusy := rfl
@[simp] theorem setCr_gate (c : Core) (n : Nat) (w : Word) : (c.setCr n w).gate = c.gate := rfl
@[simp] theorem setCr_dbg (c : Core) (n : Nat) (w : Word) : (c.setCr n w).dbg = c.dbg := rfl
@[simp] theorem setCr_dbgQ (c : Core) (n : Nat) (w : Word) : (c.setCr n w).dbgQ = c.dbgQ := rfl
@[simp] theorem setCr_resumeDue (c : Core) (n : Nat) (w : Word) : (c.setCr n w).resumeDue = c.resumeDue := rfl
@[simp] theorem setCr_sbuf (c : Core) (n : Nat) (w : Word) : (c.setCr n w).sbuf = c.sbuf := rfl
@[simp] theorem setCr_pmEv (c : Core) (n : Nat) (w : Word) : (c.setCr n w).pmEv = c.pmEv := rfl
@[simp] theorem setCr_arrErr (c : Core) (n : Nat) (w : Word) : (c.setCr n w).arrErr = c.arrErr := rfl
@[simp] theorem setCr_pf1 (c : Core) (n : Nat) (w : Word) : (c.setCr n w).pf1 = c.pf1 := rfl
@[simp] theorem setCr_pf2 (c : Core) (n : Nat) (w : Word) : (c.setCr n w).pf2 = c.pf2 := rfl
@[simp] theorem setCr_apLimit (c : Core) (n : Nat) (w : Word) : (c.setCr n w).apLimit = c.apLimit := rfl
@[simp] theorem raiseFlags_run (c : Core) (f : Nat) : (c.raiseFlags f).run = c.run := rfl
@[simp] theorem raiseFlags_release (c : Core) (f : Nat) : (c.raiseFlags f).release = c.release := rfl
@[simp] theorem raiseFlags_haltReq (c : Core) (f : Nat) : (c.raiseFlags f).haltReq = c.haltReq := rfl
@[simp] theorem raiseFlags_werr (c : Core) (f : Nat) : (c.raiseFlags f).werr = c.werr := rfl
@[simp] theorem raiseFlags_g (c : Core) (f : Nat) : (c.raiseFlags f).g = c.g := rfl
@[simp] theorem raiseFlags_p (c : Core) (f : Nat) : (c.raiseFlags f).p = c.p := rfl
@[simp] theorem raiseFlags_pc (c : Core) (f : Nat) : (c.raiseFlags f).pc = c.pc := rfl
@[simp] theorem raiseFlags_lvl (c : Core) (f : Nat) : (c.raiseFlags f).lvl = c.lvl := rfl
@[simp] theorem raiseFlags_sec (c : Core) (f : Nat) : (c.raiseFlags f).sec = c.sec := rfl
@[simp] theorem raiseFlags_ie (c : Core) (f : Nat) : (c.raiseFlags f).ie = c.ie := rfl
@[simp] theorem raiseFlags_ss (c : Core) (f : Nat) : (c.raiseFlags f).ss = c.ss := rfl
@[simp] theorem raiseFlags_mcip (c : Core) (f : Nat) : (c.raiseFlags f).mcip = c.mcip := rfl
@[simp] theorem raiseFlags_v (c : Core) (f : Nat) : (c.raiseFlags f).v = c.v := rfl
@[simp] theorem raiseFlags_a (c : Core) (f : Nat) : (c.raiseFlags f).a = c.a := rfl
@[simp] theorem raiseFlags_creg60 (c : Core) (f : Nat) : (c.raiseFlags f).creg60 = c.creg60 := rfl
@[simp] theorem raiseFlags_frozen (c : Core) (f : Nat) : (c.raiseFlags f).frozen = c.frozen := rfl
@[simp] theorem raiseFlags_wait (c : Core) (f : Nat) : (c.raiseFlags f).wait = c.wait := rfl
@[simp] theorem raiseFlags_word (c : Core) (f : Nat) : (c.raiseFlags f).word = c.word := rfl
@[simp] theorem raiseFlags_reply (c : Core) (f : Nat) : (c.raiseFlags f).reply = c.reply := rfl
@[simp] theorem raiseFlags_rbuf (c : Core) (f : Nat) : (c.raiseFlags f).rbuf = c.rbuf := rfl
@[simp] theorem raiseFlags_stepDue (c : Core) (f : Nat) : (c.raiseFlags f).stepDue = c.stepDue := rfl
@[simp] theorem raiseFlags_defErr (c : Core) (f : Nat) : (c.raiseFlags f).defErr = c.defErr := rfl
@[simp] theorem raiseFlags_stq (c : Core) (f : Nat) : (c.raiseFlags f).stq = c.stq := rfl
@[simp] theorem raiseFlags_openW (c : Core) (f : Nat) : (c.raiseFlags f).openW = c.openW := rfl
@[simp] theorem raiseFlags_openR (c : Core) (f : Nat) : (c.raiseFlags f).openR = c.openR := rfl
@[simp] theorem raiseFlags_offer (c : Core) (f : Nat) : (c.raiseFlags f).offer = c.offer := rfl
@[simp] theorem raiseFlags_offerS (c : Core) (f : Nat) : (c.raiseFlags f).offerS = c.offerS := rfl
@[simp] theorem raiseFlags_l1i (c : Core) (f : Nat) : (c.raiseFlags f).l1i = c.l1i := rfl
@[simp] theorem raiseFlags_l1d (c : Core) (f : Nat) : (c.raiseFlags f).l1d = c.l1d := rfl
@[simp] theorem raiseFlags_l2 (c : Core) (f : Nat) : (c.raiseFlags f).l2 = c.l2 := rfl
@[simp] theorem raiseFlags_l1iRet (c : Core) (f : Nat) : (c.raiseFlags f).l1iRet = c.l1iRet := rfl
@[simp] theorem raiseFlags_l1dRet (c : Core) (f : Nat) : (c.raiseFlags f).l1dRet = c.l1dRet := rfl
@[simp] theorem raiseFlags_cleaning (c : Core) (f : Nat) : (c.raiseFlags f).cleaning = c.cleaning := rfl
@[simp] theorem raiseFlags_itlb (c : Core) (f : Nat) : (c.raiseFlags f).itlb = c.itlb := rfl
@[simp] theorem raiseFlags_dtlb (c : Core) (f : Nat) : (c.raiseFlags f).dtlb = c.dtlb := rfl
@[simp] theorem raiseFlags_tlb2 (c : Core) (f : Nat) : (c.raiseFlags f).tlb2 = c.tlb2 := rfl
@[simp] theorem raiseFlags_tlb2big (c : Core) (f : Nat) : (c.raiseFlags f).tlb2big = c.tlb2big := rfl
@[simp] theorem raiseFlags_wcache (c : Core) (f : Nat) : (c.raiseFlags f).wcache = c.wcache := rfl
@[simp] theorem raiseFlags_tlbFlushDue (c : Core) (f : Nat) : (c.raiseFlags f).tlbFlushDue = c.tlbFlushDue := rfl
@[simp] theorem raiseFlags_tlbiOut (c : Core) (f : Nat) : (c.raiseFlags f).tlbiOut = c.tlbiOut := rfl
@[simp] theorem raiseFlags_tlbTout (c : Core) (f : Nat) : (c.raiseFlags f).tlbTout = c.tlbTout := rfl
@[simp] theorem raiseFlags_hist (c : Core) (f : Nat) : (c.raiseFlags f).hist = c.hist := rfl
@[simp] theorem raiseFlags_itt (c : Core) (f : Nat) : (c.raiseFlags f).itt = c.itt := rfl
@[simp] theorem raiseFlags_rstack (c : Core) (f : Nat) : (c.raiseFlags f).rstack = c.rstack := rfl
@[simp] theorem raiseFlags_mispred (c : Core) (f : Nat) : (c.raiseFlags f).mispred = c.mispred := rfl
@[simp] theorem raiseFlags_clrBusy (c : Core) (f : Nat) : (c.raiseFlags f).clrBusy = c.clrBusy := rfl
@[simp] theorem raiseFlags_gate (c : Core) (f : Nat) : (c.raiseFlags f).gate = c.gate := rfl
@[simp] theorem raiseFlags_dbg (c : Core) (f : Nat) : (c.raiseFlags f).dbg = c.dbg := rfl
@[simp] theorem raiseFlags_dbgQ (c : Core) (f : Nat) : (c.raiseFlags f).dbgQ = c.dbgQ := rfl
@[simp] theorem raiseFlags_resumeDue (c : Core) (f : Nat) : (c.raiseFlags f).resumeDue = c.resumeDue := rfl
@[simp] theorem raiseFlags_sbuf (c : Core) (f : Nat) : (c.raiseFlags f).sbuf = c.sbuf := rfl
@[simp] theorem raiseFlags_pmEv (c : Core) (f : Nat) : (c.raiseFlags f).pmEv = c.pmEv := rfl
@[simp] theorem raiseFlags_arrErr (c : Core) (f : Nat) : (c.raiseFlags f).arrErr = c.arrErr := rfl
@[simp] theorem raiseFlags_pf1 (c : Core) (f : Nat) : (c.raiseFlags f).pf1 = c.pf1 := rfl
@[simp] theorem raiseFlags_pf2 (c : Core) (f : Nat) : (c.raiseFlags f).pf2 = c.pf2 := rfl
@[simp] theorem raiseFlags_apLimit (c : Core) (f : Nat) : (c.raiseFlags f).apLimit = c.apLimit := rfl
@[simp] theorem setAflags_run (c : Core) (r : BitVec 5) (f : Nat) : (c.setAflags r f).run = c.run := rfl
@[simp] theorem setAflags_release (c : Core) (r : BitVec 5) (f : Nat) : (c.setAflags r f).release = c.release := rfl
@[simp] theorem setAflags_haltReq (c : Core) (r : BitVec 5) (f : Nat) : (c.setAflags r f).haltReq = c.haltReq := rfl
@[simp] theorem setAflags_werr (c : Core) (r : BitVec 5) (f : Nat) : (c.setAflags r f).werr = c.werr := rfl
@[simp] theorem setAflags_g (c : Core) (r : BitVec 5) (f : Nat) : (c.setAflags r f).g = c.g := rfl
@[simp] theorem setAflags_p (c : Core) (r : BitVec 5) (f : Nat) : (c.setAflags r f).p = c.p := rfl
@[simp] theorem setAflags_pc (c : Core) (r : BitVec 5) (f : Nat) : (c.setAflags r f).pc = c.pc := rfl
@[simp] theorem setAflags_lvl (c : Core) (r : BitVec 5) (f : Nat) : (c.setAflags r f).lvl = c.lvl := rfl
@[simp] theorem setAflags_sec (c : Core) (r : BitVec 5) (f : Nat) : (c.setAflags r f).sec = c.sec := rfl
@[simp] theorem setAflags_ie (c : Core) (r : BitVec 5) (f : Nat) : (c.setAflags r f).ie = c.ie := rfl
@[simp] theorem setAflags_ss (c : Core) (r : BitVec 5) (f : Nat) : (c.setAflags r f).ss = c.ss := rfl
@[simp] theorem setAflags_mcip (c : Core) (r : BitVec 5) (f : Nat) : (c.setAflags r f).mcip = c.mcip := rfl
@[simp] theorem setAflags_v (c : Core) (r : BitVec 5) (f : Nat) : (c.setAflags r f).v = c.v := rfl
@[simp] theorem setAflags_a (c : Core) (r : BitVec 5) (f : Nat) : (c.setAflags r f).a = c.a := rfl
@[simp] theorem setAflags_creg60 (c : Core) (r : BitVec 5) (f : Nat) : (c.setAflags r f).creg60 = c.creg60 := rfl
@[simp] theorem setAflags_frozen (c : Core) (r : BitVec 5) (f : Nat) : (c.setAflags r f).frozen = c.frozen := rfl
@[simp] theorem setAflags_wait (c : Core) (r : BitVec 5) (f : Nat) : (c.setAflags r f).wait = c.wait := rfl
@[simp] theorem setAflags_word (c : Core) (r : BitVec 5) (f : Nat) : (c.setAflags r f).word = c.word := rfl
@[simp] theorem setAflags_reply (c : Core) (r : BitVec 5) (f : Nat) : (c.setAflags r f).reply = c.reply := rfl
@[simp] theorem setAflags_rbuf (c : Core) (r : BitVec 5) (f : Nat) : (c.setAflags r f).rbuf = c.rbuf := rfl
@[simp] theorem setAflags_stepDue (c : Core) (r : BitVec 5) (f : Nat) : (c.setAflags r f).stepDue = c.stepDue := rfl
@[simp] theorem setAflags_defErr (c : Core) (r : BitVec 5) (f : Nat) : (c.setAflags r f).defErr = c.defErr := rfl
@[simp] theorem setAflags_stq (c : Core) (r : BitVec 5) (f : Nat) : (c.setAflags r f).stq = c.stq := rfl
@[simp] theorem setAflags_openW (c : Core) (r : BitVec 5) (f : Nat) : (c.setAflags r f).openW = c.openW := rfl
@[simp] theorem setAflags_openR (c : Core) (r : BitVec 5) (f : Nat) : (c.setAflags r f).openR = c.openR := rfl
@[simp] theorem setAflags_offer (c : Core) (r : BitVec 5) (f : Nat) : (c.setAflags r f).offer = c.offer := rfl
@[simp] theorem setAflags_offerS (c : Core) (r : BitVec 5) (f : Nat) : (c.setAflags r f).offerS = c.offerS := rfl
@[simp] theorem setAflags_l1i (c : Core) (r : BitVec 5) (f : Nat) : (c.setAflags r f).l1i = c.l1i := rfl
@[simp] theorem setAflags_l1d (c : Core) (r : BitVec 5) (f : Nat) : (c.setAflags r f).l1d = c.l1d := rfl
@[simp] theorem setAflags_l2 (c : Core) (r : BitVec 5) (f : Nat) : (c.setAflags r f).l2 = c.l2 := rfl
@[simp] theorem setAflags_l1iRet (c : Core) (r : BitVec 5) (f : Nat) : (c.setAflags r f).l1iRet = c.l1iRet := rfl
@[simp] theorem setAflags_l1dRet (c : Core) (r : BitVec 5) (f : Nat) : (c.setAflags r f).l1dRet = c.l1dRet := rfl
@[simp] theorem setAflags_cleaning (c : Core) (r : BitVec 5) (f : Nat) : (c.setAflags r f).cleaning = c.cleaning := rfl
@[simp] theorem setAflags_itlb (c : Core) (r : BitVec 5) (f : Nat) : (c.setAflags r f).itlb = c.itlb := rfl
@[simp] theorem setAflags_dtlb (c : Core) (r : BitVec 5) (f : Nat) : (c.setAflags r f).dtlb = c.dtlb := rfl
@[simp] theorem setAflags_tlb2 (c : Core) (r : BitVec 5) (f : Nat) : (c.setAflags r f).tlb2 = c.tlb2 := rfl
@[simp] theorem setAflags_tlb2big (c : Core) (r : BitVec 5) (f : Nat) : (c.setAflags r f).tlb2big = c.tlb2big := rfl
@[simp] theorem setAflags_wcache (c : Core) (r : BitVec 5) (f : Nat) : (c.setAflags r f).wcache = c.wcache := rfl
@[simp] theorem setAflags_tlbFlushDue (c : Core) (r : BitVec 5) (f : Nat) : (c.setAflags r f).tlbFlushDue = c.tlbFlushDue := rfl
@[simp] theorem setAflags_tlbiOut (c : Core) (r : BitVec 5) (f : Nat) : (c.setAflags r f).tlbiOut = c.tlbiOut := rfl
@[simp] theorem setAflags_tlbTout (c : Core) (r : BitVec 5) (f : Nat) : (c.setAflags r f).tlbTout = c.tlbTout := rfl
@[simp] theorem setAflags_hist (c : Core) (r : BitVec 5) (f : Nat) : (c.setAflags r f).hist = c.hist := rfl
@[simp] theorem setAflags_itt (c : Core) (r : BitVec 5) (f : Nat) : (c.setAflags r f).itt = c.itt := rfl
@[simp] theorem setAflags_rstack (c : Core) (r : BitVec 5) (f : Nat) : (c.setAflags r f).rstack = c.rstack := rfl
@[simp] theorem setAflags_mispred (c : Core) (r : BitVec 5) (f : Nat) : (c.setAflags r f).mispred = c.mispred := rfl
@[simp] theorem setAflags_clrBusy (c : Core) (r : BitVec 5) (f : Nat) : (c.setAflags r f).clrBusy = c.clrBusy := rfl
@[simp] theorem setAflags_gate (c : Core) (r : BitVec 5) (f : Nat) : (c.setAflags r f).gate = c.gate := rfl
@[simp] theorem setAflags_dbg (c : Core) (r : BitVec 5) (f : Nat) : (c.setAflags r f).dbg = c.dbg := rfl
@[simp] theorem setAflags_dbgQ (c : Core) (r : BitVec 5) (f : Nat) : (c.setAflags r f).dbgQ = c.dbgQ := rfl
@[simp] theorem setAflags_resumeDue (c : Core) (r : BitVec 5) (f : Nat) : (c.setAflags r f).resumeDue = c.resumeDue := rfl
@[simp] theorem setAflags_sbuf (c : Core) (r : BitVec 5) (f : Nat) : (c.setAflags r f).sbuf = c.sbuf := rfl
@[simp] theorem setAflags_pmEv (c : Core) (r : BitVec 5) (f : Nat) : (c.setAflags r f).pmEv = c.pmEv := rfl
@[simp] theorem setAflags_arrErr (c : Core) (r : BitVec 5) (f : Nat) : (c.setAflags r f).arrErr = c.arrErr := rfl
@[simp] theorem setAflags_pf1 (c : Core) (r : BitVec 5) (f : Nat) : (c.setAflags r f).pf1 = c.pf1 := rfl
@[simp] theorem setAflags_pf2 (c : Core) (r : BitVec 5) (f : Nat) : (c.setAflags r f).pf2 = c.pf2 := rfl
@[simp] theorem setAflags_apLimit (c : Core) (r : BitVec 5) (f : Nat) : (c.setAflags r f).apLimit = c.apLimit := rfl
@[simp] theorem vused_run (c : Core)  : (c.vused).run = c.run := rfl
@[simp] theorem vused_release (c : Core)  : (c.vused).release = c.release := rfl
@[simp] theorem vused_haltReq (c : Core)  : (c.vused).haltReq = c.haltReq := rfl
@[simp] theorem vused_werr (c : Core)  : (c.vused).werr = c.werr := rfl
@[simp] theorem vused_g (c : Core)  : (c.vused).g = c.g := rfl
@[simp] theorem vused_p (c : Core)  : (c.vused).p = c.p := rfl
@[simp] theorem vused_pc (c : Core)  : (c.vused).pc = c.pc := rfl
@[simp] theorem vused_lvl (c : Core)  : (c.vused).lvl = c.lvl := rfl
@[simp] theorem vused_sec (c : Core)  : (c.vused).sec = c.sec := rfl
@[simp] theorem vused_ie (c : Core)  : (c.vused).ie = c.ie := rfl
@[simp] theorem vused_ss (c : Core)  : (c.vused).ss = c.ss := rfl
@[simp] theorem vused_mcip (c : Core)  : (c.vused).mcip = c.mcip := rfl
@[simp] theorem vused_v (c : Core)  : (c.vused).v = c.v := rfl
@[simp] theorem vused_a (c : Core)  : (c.vused).a = c.a := rfl
@[simp] theorem vused_creg60 (c : Core)  : (c.vused).creg60 = c.creg60 := rfl
@[simp] theorem vused_frozen (c : Core)  : (c.vused).frozen = c.frozen := rfl
@[simp] theorem vused_wait (c : Core)  : (c.vused).wait = c.wait := rfl
@[simp] theorem vused_word (c : Core)  : (c.vused).word = c.word := rfl
@[simp] theorem vused_reply (c : Core)  : (c.vused).reply = c.reply := rfl
@[simp] theorem vused_rbuf (c : Core)  : (c.vused).rbuf = c.rbuf := rfl
@[simp] theorem vused_stepDue (c : Core)  : (c.vused).stepDue = c.stepDue := rfl
@[simp] theorem vused_defErr (c : Core)  : (c.vused).defErr = c.defErr := rfl
@[simp] theorem vused_stq (c : Core)  : (c.vused).stq = c.stq := rfl
@[simp] theorem vused_openW (c : Core)  : (c.vused).openW = c.openW := rfl
@[simp] theorem vused_openR (c : Core)  : (c.vused).openR = c.openR := rfl
@[simp] theorem vused_offer (c : Core)  : (c.vused).offer = c.offer := rfl
@[simp] theorem vused_offerS (c : Core)  : (c.vused).offerS = c.offerS := rfl
@[simp] theorem vused_l1i (c : Core)  : (c.vused).l1i = c.l1i := rfl
@[simp] theorem vused_l1d (c : Core)  : (c.vused).l1d = c.l1d := rfl
@[simp] theorem vused_l2 (c : Core)  : (c.vused).l2 = c.l2 := rfl
@[simp] theorem vused_l1iRet (c : Core)  : (c.vused).l1iRet = c.l1iRet := rfl
@[simp] theorem vused_l1dRet (c : Core)  : (c.vused).l1dRet = c.l1dRet := rfl
@[simp] theorem vused_cleaning (c : Core)  : (c.vused).cleaning = c.cleaning := rfl
@[simp] theorem vused_itlb (c : Core)  : (c.vused).itlb = c.itlb := rfl
@[simp] theorem vused_dtlb (c : Core)  : (c.vused).dtlb = c.dtlb := rfl
@[simp] theorem vused_tlb2 (c : Core)  : (c.vused).tlb2 = c.tlb2 := rfl
@[simp] theorem vused_tlb2big (c : Core)  : (c.vused).tlb2big = c.tlb2big := rfl
@[simp] theorem vused_wcache (c : Core)  : (c.vused).wcache = c.wcache := rfl
@[simp] theorem vused_tlbFlushDue (c : Core)  : (c.vused).tlbFlushDue = c.tlbFlushDue := rfl
@[simp] theorem vused_tlbiOut (c : Core)  : (c.vused).tlbiOut = c.tlbiOut := rfl
@[simp] theorem vused_tlbTout (c : Core)  : (c.vused).tlbTout = c.tlbTout := rfl
@[simp] theorem vused_hist (c : Core)  : (c.vused).hist = c.hist := rfl
@[simp] theorem vused_itt (c : Core)  : (c.vused).itt = c.itt := rfl
@[simp] theorem vused_rstack (c : Core)  : (c.vused).rstack = c.rstack := rfl
@[simp] theorem vused_mispred (c : Core)  : (c.vused).mispred = c.mispred := rfl
@[simp] theorem vused_clrBusy (c : Core)  : (c.vused).clrBusy = c.clrBusy := rfl
@[simp] theorem vused_gate (c : Core)  : (c.vused).gate = c.gate := rfl
@[simp] theorem vused_dbg (c : Core)  : (c.vused).dbg = c.dbg := rfl
@[simp] theorem vused_dbgQ (c : Core)  : (c.vused).dbgQ = c.dbgQ := rfl
@[simp] theorem vused_resumeDue (c : Core)  : (c.vused).resumeDue = c.resumeDue := rfl
@[simp] theorem vused_sbuf (c : Core)  : (c.vused).sbuf = c.sbuf := rfl
@[simp] theorem vused_pmEv (c : Core)  : (c.vused).pmEv = c.pmEv := rfl
@[simp] theorem vused_arrErr (c : Core)  : (c.vused).arrErr = c.arrErr := rfl
@[simp] theorem vused_pf1 (c : Core)  : (c.vused).pf1 = c.pf1 := rfl
@[simp] theorem vused_pf2 (c : Core)  : (c.vused).pf2 = c.pf2 := rfl
@[simp] theorem vused_apLimit (c : Core)  : (c.vused).apLimit = c.apLimit := rfl
@[simp] theorem cmpWrite_run (c : Core) (x y : BitVec 3) (b : Bool) : (c.cmpWrite x y b).run = c.run := by simp [Core.cmpWrite]
@[simp] theorem cmpWrite_release (c : Core) (x y : BitVec 3) (b : Bool) : (c.cmpWrite x y b).release = c.release := by simp [Core.cmpWrite]
@[simp] theorem cmpWrite_haltReq (c : Core) (x y : BitVec 3) (b : Bool) : (c.cmpWrite x y b).haltReq = c.haltReq := by simp [Core.cmpWrite]
@[simp] theorem cmpWrite_werr (c : Core) (x y : BitVec 3) (b : Bool) : (c.cmpWrite x y b).werr = c.werr := by simp [Core.cmpWrite]
@[simp] theorem cmpWrite_g (c : Core) (x y : BitVec 3) (b : Bool) : (c.cmpWrite x y b).g = c.g := by simp [Core.cmpWrite]
@[simp] theorem cmpWrite_pc (c : Core) (x y : BitVec 3) (b : Bool) : (c.cmpWrite x y b).pc = c.pc := by simp [Core.cmpWrite]
@[simp] theorem cmpWrite_lvl (c : Core) (x y : BitVec 3) (b : Bool) : (c.cmpWrite x y b).lvl = c.lvl := by simp [Core.cmpWrite]
@[simp] theorem cmpWrite_sec (c : Core) (x y : BitVec 3) (b : Bool) : (c.cmpWrite x y b).sec = c.sec := by simp [Core.cmpWrite]
@[simp] theorem cmpWrite_ie (c : Core) (x y : BitVec 3) (b : Bool) : (c.cmpWrite x y b).ie = c.ie := by simp [Core.cmpWrite]
@[simp] theorem cmpWrite_ss (c : Core) (x y : BitVec 3) (b : Bool) : (c.cmpWrite x y b).ss = c.ss := by simp [Core.cmpWrite]
@[simp] theorem cmpWrite_mcip (c : Core) (x y : BitVec 3) (b : Bool) : (c.cmpWrite x y b).mcip = c.mcip := by simp [Core.cmpWrite]
@[simp] theorem cmpWrite_v (c : Core) (x y : BitVec 3) (b : Bool) : (c.cmpWrite x y b).v = c.v := by simp [Core.cmpWrite]
@[simp] theorem cmpWrite_a (c : Core) (x y : BitVec 3) (b : Bool) : (c.cmpWrite x y b).a = c.a := by simp [Core.cmpWrite]
@[simp] theorem cmpWrite_creg (c : Core) (x y : BitVec 3) (b : Bool) : (c.cmpWrite x y b).creg = c.creg := by simp [Core.cmpWrite]
@[simp] theorem cmpWrite_creg60 (c : Core) (x y : BitVec 3) (b : Bool) : (c.cmpWrite x y b).creg60 = c.creg60 := by simp [Core.cmpWrite]
@[simp] theorem cmpWrite_frozen (c : Core) (x y : BitVec 3) (b : Bool) : (c.cmpWrite x y b).frozen = c.frozen := by simp [Core.cmpWrite]
@[simp] theorem cmpWrite_wait (c : Core) (x y : BitVec 3) (b : Bool) : (c.cmpWrite x y b).wait = c.wait := by simp [Core.cmpWrite]
@[simp] theorem cmpWrite_word (c : Core) (x y : BitVec 3) (b : Bool) : (c.cmpWrite x y b).word = c.word := by simp [Core.cmpWrite]
@[simp] theorem cmpWrite_reply (c : Core) (x y : BitVec 3) (b : Bool) : (c.cmpWrite x y b).reply = c.reply := by simp [Core.cmpWrite]
@[simp] theorem cmpWrite_rbuf (c : Core) (x y : BitVec 3) (b : Bool) : (c.cmpWrite x y b).rbuf = c.rbuf := by simp [Core.cmpWrite]
@[simp] theorem cmpWrite_stepDue (c : Core) (x y : BitVec 3) (b : Bool) : (c.cmpWrite x y b).stepDue = c.stepDue := by simp [Core.cmpWrite]
@[simp] theorem cmpWrite_defErr (c : Core) (x y : BitVec 3) (b : Bool) : (c.cmpWrite x y b).defErr = c.defErr := by simp [Core.cmpWrite]
@[simp] theorem cmpWrite_stq (c : Core) (x y : BitVec 3) (b : Bool) : (c.cmpWrite x y b).stq = c.stq := by simp [Core.cmpWrite]
@[simp] theorem cmpWrite_openW (c : Core) (x y : BitVec 3) (b : Bool) : (c.cmpWrite x y b).openW = c.openW := by simp [Core.cmpWrite]
@[simp] theorem cmpWrite_openR (c : Core) (x y : BitVec 3) (b : Bool) : (c.cmpWrite x y b).openR = c.openR := by simp [Core.cmpWrite]
@[simp] theorem cmpWrite_offer (c : Core) (x y : BitVec 3) (b : Bool) : (c.cmpWrite x y b).offer = c.offer := by simp [Core.cmpWrite]
@[simp] theorem cmpWrite_offerS (c : Core) (x y : BitVec 3) (b : Bool) : (c.cmpWrite x y b).offerS = c.offerS := by simp [Core.cmpWrite]
@[simp] theorem cmpWrite_l1i (c : Core) (x y : BitVec 3) (b : Bool) : (c.cmpWrite x y b).l1i = c.l1i := by simp [Core.cmpWrite]
@[simp] theorem cmpWrite_l1d (c : Core) (x y : BitVec 3) (b : Bool) : (c.cmpWrite x y b).l1d = c.l1d := by simp [Core.cmpWrite]
@[simp] theorem cmpWrite_l2 (c : Core) (x y : BitVec 3) (b : Bool) : (c.cmpWrite x y b).l2 = c.l2 := by simp [Core.cmpWrite]
@[simp] theorem cmpWrite_l1iRet (c : Core) (x y : BitVec 3) (b : Bool) : (c.cmpWrite x y b).l1iRet = c.l1iRet := by simp [Core.cmpWrite]
@[simp] theorem cmpWrite_l1dRet (c : Core) (x y : BitVec 3) (b : Bool) : (c.cmpWrite x y b).l1dRet = c.l1dRet := by simp [Core.cmpWrite]
@[simp] theorem cmpWrite_cleaning (c : Core) (x y : BitVec 3) (b : Bool) : (c.cmpWrite x y b).cleaning = c.cleaning := by simp [Core.cmpWrite]
@[simp] theorem cmpWrite_itlb (c : Core) (x y : BitVec 3) (b : Bool) : (c.cmpWrite x y b).itlb = c.itlb := by simp [Core.cmpWrite]
@[simp] theorem cmpWrite_dtlb (c : Core) (x y : BitVec 3) (b : Bool) : (c.cmpWrite x y b).dtlb = c.dtlb := by simp [Core.cmpWrite]
@[simp] theorem cmpWrite_tlb2 (c : Core) (x y : BitVec 3) (b : Bool) : (c.cmpWrite x y b).tlb2 = c.tlb2 := by simp [Core.cmpWrite]
@[simp] theorem cmpWrite_tlb2big (c : Core) (x y : BitVec 3) (b : Bool) : (c.cmpWrite x y b).tlb2big = c.tlb2big := by simp [Core.cmpWrite]
@[simp] theorem cmpWrite_wcache (c : Core) (x y : BitVec 3) (b : Bool) : (c.cmpWrite x y b).wcache = c.wcache := by simp [Core.cmpWrite]
@[simp] theorem cmpWrite_tlbFlushDue (c : Core) (x y : BitVec 3) (b : Bool) : (c.cmpWrite x y b).tlbFlushDue = c.tlbFlushDue := by simp [Core.cmpWrite]
@[simp] theorem cmpWrite_tlbiOut (c : Core) (x y : BitVec 3) (b : Bool) : (c.cmpWrite x y b).tlbiOut = c.tlbiOut := by simp [Core.cmpWrite]
@[simp] theorem cmpWrite_tlbTout (c : Core) (x y : BitVec 3) (b : Bool) : (c.cmpWrite x y b).tlbTout = c.tlbTout := by simp [Core.cmpWrite]
@[simp] theorem cmpWrite_hist (c : Core) (x y : BitVec 3) (b : Bool) : (c.cmpWrite x y b).hist = c.hist := by simp [Core.cmpWrite]
@[simp] theorem cmpWrite_itt (c : Core) (x y : BitVec 3) (b : Bool) : (c.cmpWrite x y b).itt = c.itt := by simp [Core.cmpWrite]
@[simp] theorem cmpWrite_rstack (c : Core) (x y : BitVec 3) (b : Bool) : (c.cmpWrite x y b).rstack = c.rstack := by simp [Core.cmpWrite]
@[simp] theorem cmpWrite_mispred (c : Core) (x y : BitVec 3) (b : Bool) : (c.cmpWrite x y b).mispred = c.mispred := by simp [Core.cmpWrite]
@[simp] theorem cmpWrite_clrBusy (c : Core) (x y : BitVec 3) (b : Bool) : (c.cmpWrite x y b).clrBusy = c.clrBusy := by simp [Core.cmpWrite]
@[simp] theorem cmpWrite_gate (c : Core) (x y : BitVec 3) (b : Bool) : (c.cmpWrite x y b).gate = c.gate := by simp [Core.cmpWrite]
@[simp] theorem cmpWrite_dbg (c : Core) (x y : BitVec 3) (b : Bool) : (c.cmpWrite x y b).dbg = c.dbg := by simp [Core.cmpWrite]
@[simp] theorem cmpWrite_dbgQ (c : Core) (x y : BitVec 3) (b : Bool) : (c.cmpWrite x y b).dbgQ = c.dbgQ := by simp [Core.cmpWrite]
@[simp] theorem cmpWrite_resumeDue (c : Core) (x y : BitVec 3) (b : Bool) : (c.cmpWrite x y b).resumeDue = c.resumeDue := by simp [Core.cmpWrite]
@[simp] theorem cmpWrite_sbuf (c : Core) (x y : BitVec 3) (b : Bool) : (c.cmpWrite x y b).sbuf = c.sbuf := by simp [Core.cmpWrite]
@[simp] theorem cmpWrite_pmEv (c : Core) (x y : BitVec 3) (b : Bool) : (c.cmpWrite x y b).pmEv = c.pmEv := by simp [Core.cmpWrite]
@[simp] theorem cmpWrite_arrErr (c : Core) (x y : BitVec 3) (b : Bool) : (c.cmpWrite x y b).arrErr = c.arrErr := by simp [Core.cmpWrite]
@[simp] theorem cmpWrite_pf1 (c : Core) (x y : BitVec 3) (b : Bool) : (c.cmpWrite x y b).pf1 = c.pf1 := by simp [Core.cmpWrite]
@[simp] theorem cmpWrite_pf2 (c : Core) (x y : BitVec 3) (b : Bool) : (c.cmpWrite x y b).pf2 = c.pf2 := by simp [Core.cmpWrite]
@[simp] theorem cmpWrite_apLimit (c : Core) (x y : BitVec 3) (b : Bool) : (c.cmpWrite x y b).apLimit = c.apLimit := by simp [Core.cmpWrite]
@[simp] theorem bumpCtr_run (c : Core) (n b k : Nat) : (c.bumpCtr n b k).run = c.run := by unfold Core.bumpCtr; dsimp only; split <;> rfl
@[simp] theorem bumpCtr_release (c : Core) (n b k : Nat) : (c.bumpCtr n b k).release = c.release := by unfold Core.bumpCtr; dsimp only; split <;> rfl
@[simp] theorem bumpCtr_haltReq (c : Core) (n b k : Nat) : (c.bumpCtr n b k).haltReq = c.haltReq := by unfold Core.bumpCtr; dsimp only; split <;> rfl
@[simp] theorem bumpCtr_werr (c : Core) (n b k : Nat) : (c.bumpCtr n b k).werr = c.werr := by unfold Core.bumpCtr; dsimp only; split <;> rfl
@[simp] theorem bumpCtr_g (c : Core) (n b k : Nat) : (c.bumpCtr n b k).g = c.g := by unfold Core.bumpCtr; dsimp only; split <;> rfl
@[simp] theorem bumpCtr_p (c : Core) (n b k : Nat) : (c.bumpCtr n b k).p = c.p := by unfold Core.bumpCtr; dsimp only; split <;> rfl
@[simp] theorem bumpCtr_pc (c : Core) (n b k : Nat) : (c.bumpCtr n b k).pc = c.pc := by unfold Core.bumpCtr; dsimp only; split <;> rfl
@[simp] theorem bumpCtr_lvl (c : Core) (n b k : Nat) : (c.bumpCtr n b k).lvl = c.lvl := by unfold Core.bumpCtr; dsimp only; split <;> rfl
@[simp] theorem bumpCtr_sec (c : Core) (n b k : Nat) : (c.bumpCtr n b k).sec = c.sec := by unfold Core.bumpCtr; dsimp only; split <;> rfl
@[simp] theorem bumpCtr_ie (c : Core) (n b k : Nat) : (c.bumpCtr n b k).ie = c.ie := by unfold Core.bumpCtr; dsimp only; split <;> rfl
@[simp] theorem bumpCtr_ss (c : Core) (n b k : Nat) : (c.bumpCtr n b k).ss = c.ss := by unfold Core.bumpCtr; dsimp only; split <;> rfl
@[simp] theorem bumpCtr_mcip (c : Core) (n b k : Nat) : (c.bumpCtr n b k).mcip = c.mcip := by unfold Core.bumpCtr; dsimp only; split <;> rfl
@[simp] theorem bumpCtr_v (c : Core) (n b k : Nat) : (c.bumpCtr n b k).v = c.v := by unfold Core.bumpCtr; dsimp only; split <;> rfl
@[simp] theorem bumpCtr_a (c : Core) (n b k : Nat) : (c.bumpCtr n b k).a = c.a := by unfold Core.bumpCtr; dsimp only; split <;> rfl
@[simp] theorem bumpCtr_creg60 (c : Core) (n b k : Nat) : (c.bumpCtr n b k).creg60 = c.creg60 := by unfold Core.bumpCtr; dsimp only; split <;> rfl
@[simp] theorem bumpCtr_frozen (c : Core) (n b k : Nat) : (c.bumpCtr n b k).frozen = c.frozen := by unfold Core.bumpCtr; dsimp only; split <;> rfl
@[simp] theorem bumpCtr_wait (c : Core) (n b k : Nat) : (c.bumpCtr n b k).wait = c.wait := by unfold Core.bumpCtr; dsimp only; split <;> rfl
@[simp] theorem bumpCtr_word (c : Core) (n b k : Nat) : (c.bumpCtr n b k).word = c.word := by unfold Core.bumpCtr; dsimp only; split <;> rfl
@[simp] theorem bumpCtr_reply (c : Core) (n b k : Nat) : (c.bumpCtr n b k).reply = c.reply := by unfold Core.bumpCtr; dsimp only; split <;> rfl
@[simp] theorem bumpCtr_rbuf (c : Core) (n b k : Nat) : (c.bumpCtr n b k).rbuf = c.rbuf := by unfold Core.bumpCtr; dsimp only; split <;> rfl
@[simp] theorem bumpCtr_stepDue (c : Core) (n b k : Nat) : (c.bumpCtr n b k).stepDue = c.stepDue := by unfold Core.bumpCtr; dsimp only; split <;> rfl
@[simp] theorem bumpCtr_defErr (c : Core) (n b k : Nat) : (c.bumpCtr n b k).defErr = c.defErr := by unfold Core.bumpCtr; dsimp only; split <;> rfl
@[simp] theorem bumpCtr_stq (c : Core) (n b k : Nat) : (c.bumpCtr n b k).stq = c.stq := by unfold Core.bumpCtr; dsimp only; split <;> rfl
@[simp] theorem bumpCtr_openW (c : Core) (n b k : Nat) : (c.bumpCtr n b k).openW = c.openW := by unfold Core.bumpCtr; dsimp only; split <;> rfl
@[simp] theorem bumpCtr_openR (c : Core) (n b k : Nat) : (c.bumpCtr n b k).openR = c.openR := by unfold Core.bumpCtr; dsimp only; split <;> rfl
@[simp] theorem bumpCtr_offer (c : Core) (n b k : Nat) : (c.bumpCtr n b k).offer = c.offer := by unfold Core.bumpCtr; dsimp only; split <;> rfl
@[simp] theorem bumpCtr_offerS (c : Core) (n b k : Nat) : (c.bumpCtr n b k).offerS = c.offerS := by unfold Core.bumpCtr; dsimp only; split <;> rfl
@[simp] theorem bumpCtr_l1i (c : Core) (n b k : Nat) : (c.bumpCtr n b k).l1i = c.l1i := by unfold Core.bumpCtr; dsimp only; split <;> rfl
@[simp] theorem bumpCtr_l1d (c : Core) (n b k : Nat) : (c.bumpCtr n b k).l1d = c.l1d := by unfold Core.bumpCtr; dsimp only; split <;> rfl
@[simp] theorem bumpCtr_l2 (c : Core) (n b k : Nat) : (c.bumpCtr n b k).l2 = c.l2 := by unfold Core.bumpCtr; dsimp only; split <;> rfl
@[simp] theorem bumpCtr_l1iRet (c : Core) (n b k : Nat) : (c.bumpCtr n b k).l1iRet = c.l1iRet := by unfold Core.bumpCtr; dsimp only; split <;> rfl
@[simp] theorem bumpCtr_l1dRet (c : Core) (n b k : Nat) : (c.bumpCtr n b k).l1dRet = c.l1dRet := by unfold Core.bumpCtr; dsimp only; split <;> rfl
@[simp] theorem bumpCtr_cleaning (c : Core) (n b k : Nat) : (c.bumpCtr n b k).cleaning = c.cleaning := by unfold Core.bumpCtr; dsimp only; split <;> rfl
@[simp] theorem bumpCtr_itlb (c : Core) (n b k : Nat) : (c.bumpCtr n b k).itlb = c.itlb := by unfold Core.bumpCtr; dsimp only; split <;> rfl
@[simp] theorem bumpCtr_dtlb (c : Core) (n b k : Nat) : (c.bumpCtr n b k).dtlb = c.dtlb := by unfold Core.bumpCtr; dsimp only; split <;> rfl
@[simp] theorem bumpCtr_tlb2 (c : Core) (n b k : Nat) : (c.bumpCtr n b k).tlb2 = c.tlb2 := by unfold Core.bumpCtr; dsimp only; split <;> rfl
@[simp] theorem bumpCtr_tlb2big (c : Core) (n b k : Nat) : (c.bumpCtr n b k).tlb2big = c.tlb2big := by unfold Core.bumpCtr; dsimp only; split <;> rfl
@[simp] theorem bumpCtr_wcache (c : Core) (n b k : Nat) : (c.bumpCtr n b k).wcache = c.wcache := by unfold Core.bumpCtr; dsimp only; split <;> rfl
@[simp] theorem bumpCtr_tlbFlushDue (c : Core) (n b k : Nat) : (c.bumpCtr n b k).tlbFlushDue = c.tlbFlushDue := by unfold Core.bumpCtr; dsimp only; split <;> rfl
@[simp] theorem bumpCtr_tlbiOut (c : Core) (n b k : Nat) : (c.bumpCtr n b k).tlbiOut = c.tlbiOut := by unfold Core.bumpCtr; dsimp only; split <;> rfl
@[simp] theorem bumpCtr_tlbTout (c : Core) (n b k : Nat) : (c.bumpCtr n b k).tlbTout = c.tlbTout := by unfold Core.bumpCtr; dsimp only; split <;> rfl
@[simp] theorem bumpCtr_hist (c : Core) (n b k : Nat) : (c.bumpCtr n b k).hist = c.hist := by unfold Core.bumpCtr; dsimp only; split <;> rfl
@[simp] theorem bumpCtr_itt (c : Core) (n b k : Nat) : (c.bumpCtr n b k).itt = c.itt := by unfold Core.bumpCtr; dsimp only; split <;> rfl
@[simp] theorem bumpCtr_rstack (c : Core) (n b k : Nat) : (c.bumpCtr n b k).rstack = c.rstack := by unfold Core.bumpCtr; dsimp only; split <;> rfl
@[simp] theorem bumpCtr_mispred (c : Core) (n b k : Nat) : (c.bumpCtr n b k).mispred = c.mispred := by unfold Core.bumpCtr; dsimp only; split <;> rfl
@[simp] theorem bumpCtr_clrBusy (c : Core) (n b k : Nat) : (c.bumpCtr n b k).clrBusy = c.clrBusy := by unfold Core.bumpCtr; dsimp only; split <;> rfl
@[simp] theorem bumpCtr_gate (c : Core) (n b k : Nat) : (c.bumpCtr n b k).gate = c.gate := by unfold Core.bumpCtr; dsimp only; split <;> rfl
@[simp] theorem bumpCtr_dbg (c : Core) (n b k : Nat) : (c.bumpCtr n b k).dbg = c.dbg := by unfold Core.bumpCtr; dsimp only; split <;> rfl
@[simp] theorem bumpCtr_dbgQ (c : Core) (n b k : Nat) : (c.bumpCtr n b k).dbgQ = c.dbgQ := by unfold Core.bumpCtr; dsimp only; split <;> rfl
@[simp] theorem bumpCtr_resumeDue (c : Core) (n b k : Nat) : (c.bumpCtr n b k).resumeDue = c.resumeDue := by unfold Core.bumpCtr; dsimp only; split <;> rfl
@[simp] theorem bumpCtr_sbuf (c : Core) (n b k : Nat) : (c.bumpCtr n b k).sbuf = c.sbuf := by unfold Core.bumpCtr; dsimp only; split <;> rfl
@[simp] theorem bumpCtr_pmEv (c : Core) (n b k : Nat) : (c.bumpCtr n b k).pmEv = c.pmEv := by unfold Core.bumpCtr; dsimp only; split <;> rfl
@[simp] theorem bumpCtr_arrErr (c : Core) (n b k : Nat) : (c.bumpCtr n b k).arrErr = c.arrErr := by unfold Core.bumpCtr; dsimp only; split <;> rfl
@[simp] theorem bumpCtr_pf1 (c : Core) (n b k : Nat) : (c.bumpCtr n b k).pf1 = c.pf1 := by unfold Core.bumpCtr; dsimp only; split <;> rfl
@[simp] theorem bumpCtr_pf2 (c : Core) (n b k : Nat) : (c.bumpCtr n b k).pf2 = c.pf2 := by unfold Core.bumpCtr; dsimp only; split <;> rfl
@[simp] theorem bumpCtr_apLimit (c : Core) (n b k : Nat) : (c.bumpCtr n b k).apLimit = c.apLimit := by unfold Core.bumpCtr; dsimp only; split <;> rfl
@[simp] theorem putV_run (c : Core) (r : BitVec 5) (x : BitVec 576) : (c.putV r x).run = c.run := rfl
@[simp] theorem putV_release (c : Core) (r : BitVec 5) (x : BitVec 576) : (c.putV r x).release = c.release := rfl
@[simp] theorem putV_haltReq (c : Core) (r : BitVec 5) (x : BitVec 576) : (c.putV r x).haltReq = c.haltReq := rfl
@[simp] theorem putV_werr (c : Core) (r : BitVec 5) (x : BitVec 576) : (c.putV r x).werr = c.werr := rfl
@[simp] theorem putV_g (c : Core) (r : BitVec 5) (x : BitVec 576) : (c.putV r x).g = c.g := rfl
@[simp] theorem putV_p (c : Core) (r : BitVec 5) (x : BitVec 576) : (c.putV r x).p = c.p := rfl
@[simp] theorem putV_pc (c : Core) (r : BitVec 5) (x : BitVec 576) : (c.putV r x).pc = c.pc := rfl
@[simp] theorem putV_lvl (c : Core) (r : BitVec 5) (x : BitVec 576) : (c.putV r x).lvl = c.lvl := rfl
@[simp] theorem putV_sec (c : Core) (r : BitVec 5) (x : BitVec 576) : (c.putV r x).sec = c.sec := rfl
@[simp] theorem putV_ie (c : Core) (r : BitVec 5) (x : BitVec 576) : (c.putV r x).ie = c.ie := rfl
@[simp] theorem putV_ss (c : Core) (r : BitVec 5) (x : BitVec 576) : (c.putV r x).ss = c.ss := rfl
@[simp] theorem putV_mcip (c : Core) (r : BitVec 5) (x : BitVec 576) : (c.putV r x).mcip = c.mcip := rfl
@[simp] theorem putV_a (c : Core) (r : BitVec 5) (x : BitVec 576) : (c.putV r x).a = c.a := rfl
@[simp] theorem putV_creg60 (c : Core) (r : BitVec 5) (x : BitVec 576) : (c.putV r x).creg60 = c.creg60 := rfl
@[simp] theorem putV_frozen (c : Core) (r : BitVec 5) (x : BitVec 576) : (c.putV r x).frozen = c.frozen := rfl
@[simp] theorem putV_wait (c : Core) (r : BitVec 5) (x : BitVec 576) : (c.putV r x).wait = c.wait := rfl
@[simp] theorem putV_word (c : Core) (r : BitVec 5) (x : BitVec 576) : (c.putV r x).word = c.word := rfl
@[simp] theorem putV_reply (c : Core) (r : BitVec 5) (x : BitVec 576) : (c.putV r x).reply = c.reply := rfl
@[simp] theorem putV_rbuf (c : Core) (r : BitVec 5) (x : BitVec 576) : (c.putV r x).rbuf = c.rbuf := rfl
@[simp] theorem putV_stepDue (c : Core) (r : BitVec 5) (x : BitVec 576) : (c.putV r x).stepDue = c.stepDue := rfl
@[simp] theorem putV_defErr (c : Core) (r : BitVec 5) (x : BitVec 576) : (c.putV r x).defErr = c.defErr := rfl
@[simp] theorem putV_stq (c : Core) (r : BitVec 5) (x : BitVec 576) : (c.putV r x).stq = c.stq := rfl
@[simp] theorem putV_openW (c : Core) (r : BitVec 5) (x : BitVec 576) : (c.putV r x).openW = c.openW := rfl
@[simp] theorem putV_openR (c : Core) (r : BitVec 5) (x : BitVec 576) : (c.putV r x).openR = c.openR := rfl
@[simp] theorem putV_offer (c : Core) (r : BitVec 5) (x : BitVec 576) : (c.putV r x).offer = c.offer := rfl
@[simp] theorem putV_offerS (c : Core) (r : BitVec 5) (x : BitVec 576) : (c.putV r x).offerS = c.offerS := rfl
@[simp] theorem putV_l1i (c : Core) (r : BitVec 5) (x : BitVec 576) : (c.putV r x).l1i = c.l1i := rfl
@[simp] theorem putV_l1d (c : Core) (r : BitVec 5) (x : BitVec 576) : (c.putV r x).l1d = c.l1d := rfl
@[simp] theorem putV_l2 (c : Core) (r : BitVec 5) (x : BitVec 576) : (c.putV r x).l2 = c.l2 := rfl
@[simp] theorem putV_l1iRet (c : Core) (r : BitVec 5) (x : BitVec 576) : (c.putV r x).l1iRet = c.l1iRet := rfl
@[simp] theorem putV_l1dRet (c : Core) (r : BitVec 5) (x : BitVec 576) : (c.putV r x).l1dRet = c.l1dRet := rfl
@[simp] theorem putV_cleaning (c : Core) (r : BitVec 5) (x : BitVec 576) : (c.putV r x).cleaning = c.cleaning := rfl
@[simp] theorem putV_itlb (c : Core) (r : BitVec 5) (x : BitVec 576) : (c.putV r x).itlb = c.itlb := rfl
@[simp] theorem putV_dtlb (c : Core) (r : BitVec 5) (x : BitVec 576) : (c.putV r x).dtlb = c.dtlb := rfl
@[simp] theorem putV_tlb2 (c : Core) (r : BitVec 5) (x : BitVec 576) : (c.putV r x).tlb2 = c.tlb2 := rfl
@[simp] theorem putV_tlb2big (c : Core) (r : BitVec 5) (x : BitVec 576) : (c.putV r x).tlb2big = c.tlb2big := rfl
@[simp] theorem putV_wcache (c : Core) (r : BitVec 5) (x : BitVec 576) : (c.putV r x).wcache = c.wcache := rfl
@[simp] theorem putV_tlbFlushDue (c : Core) (r : BitVec 5) (x : BitVec 576) : (c.putV r x).tlbFlushDue = c.tlbFlushDue := rfl
@[simp] theorem putV_tlbiOut (c : Core) (r : BitVec 5) (x : BitVec 576) : (c.putV r x).tlbiOut = c.tlbiOut := rfl
@[simp] theorem putV_tlbTout (c : Core) (r : BitVec 5) (x : BitVec 576) : (c.putV r x).tlbTout = c.tlbTout := rfl
@[simp] theorem putV_hist (c : Core) (r : BitVec 5) (x : BitVec 576) : (c.putV r x).hist = c.hist := rfl
@[simp] theorem putV_itt (c : Core) (r : BitVec 5) (x : BitVec 576) : (c.putV r x).itt = c.itt := rfl
@[simp] theorem putV_rstack (c : Core) (r : BitVec 5) (x : BitVec 576) : (c.putV r x).rstack = c.rstack := rfl
@[simp] theorem putV_mispred (c : Core) (r : BitVec 5) (x : BitVec 576) : (c.putV r x).mispred = c.mispred := rfl
@[simp] theorem putV_clrBusy (c : Core) (r : BitVec 5) (x : BitVec 576) : (c.putV r x).clrBusy = c.clrBusy := rfl
@[simp] theorem putV_gate (c : Core) (r : BitVec 5) (x : BitVec 576) : (c.putV r x).gate = c.gate := rfl
@[simp] theorem putV_dbg (c : Core) (r : BitVec 5) (x : BitVec 576) : (c.putV r x).dbg = c.dbg := rfl
@[simp] theorem putV_dbgQ (c : Core) (r : BitVec 5) (x : BitVec 576) : (c.putV r x).dbgQ = c.dbgQ := rfl
@[simp] theorem putV_resumeDue (c : Core) (r : BitVec 5) (x : BitVec 576) : (c.putV r x).resumeDue = c.resumeDue := rfl
@[simp] theorem putV_sbuf (c : Core) (r : BitVec 5) (x : BitVec 576) : (c.putV r x).sbuf = c.sbuf := rfl
@[simp] theorem putV_pmEv (c : Core) (r : BitVec 5) (x : BitVec 576) : (c.putV r x).pmEv = c.pmEv := rfl
@[simp] theorem putV_arrErr (c : Core) (r : BitVec 5) (x : BitVec 576) : (c.putV r x).arrErr = c.arrErr := rfl
@[simp] theorem putV_pf1 (c : Core) (r : BitVec 5) (x : BitVec 576) : (c.putV r x).pf1 = c.pf1 := rfl
@[simp] theorem putV_pf2 (c : Core) (r : BitVec 5) (x : BitVec 576) : (c.putV r x).pf2 = c.pf2 := rfl
@[simp] theorem putV_apLimit (c : Core) (r : BitVec 5) (x : BitVec 576) : (c.putV r x).apLimit = c.apLimit := rfl
@[simp] theorem putA_run (c : Core) (r : BitVec 5) (x : BitVec 4608) (f : Nat) : (c.putA r x f).run = c.run := rfl
@[simp] theorem putA_release (c : Core) (r : BitVec 5) (x : BitVec 4608) (f : Nat) : (c.putA r x f).release = c.release := rfl
@[simp] theorem putA_haltReq (c : Core) (r : BitVec 5) (x : BitVec 4608) (f : Nat) : (c.putA r x f).haltReq = c.haltReq := rfl
@[simp] theorem putA_werr (c : Core) (r : BitVec 5) (x : BitVec 4608) (f : Nat) : (c.putA r x f).werr = c.werr := rfl
@[simp] theorem putA_g (c : Core) (r : BitVec 5) (x : BitVec 4608) (f : Nat) : (c.putA r x f).g = c.g := rfl
@[simp] theorem putA_p (c : Core) (r : BitVec 5) (x : BitVec 4608) (f : Nat) : (c.putA r x f).p = c.p := rfl
@[simp] theorem putA_pc (c : Core) (r : BitVec 5) (x : BitVec 4608) (f : Nat) : (c.putA r x f).pc = c.pc := rfl
@[simp] theorem putA_lvl (c : Core) (r : BitVec 5) (x : BitVec 4608) (f : Nat) : (c.putA r x f).lvl = c.lvl := rfl
@[simp] theorem putA_sec (c : Core) (r : BitVec 5) (x : BitVec 4608) (f : Nat) : (c.putA r x f).sec = c.sec := rfl
@[simp] theorem putA_ie (c : Core) (r : BitVec 5) (x : BitVec 4608) (f : Nat) : (c.putA r x f).ie = c.ie := rfl
@[simp] theorem putA_ss (c : Core) (r : BitVec 5) (x : BitVec 4608) (f : Nat) : (c.putA r x f).ss = c.ss := rfl
@[simp] theorem putA_mcip (c : Core) (r : BitVec 5) (x : BitVec 4608) (f : Nat) : (c.putA r x f).mcip = c.mcip := rfl
@[simp] theorem putA_v (c : Core) (r : BitVec 5) (x : BitVec 4608) (f : Nat) : (c.putA r x f).v = c.v := rfl
@[simp] theorem putA_creg60 (c : Core) (r : BitVec 5) (x : BitVec 4608) (f : Nat) : (c.putA r x f).creg60 = c.creg60 := rfl
@[simp] theorem putA_frozen (c : Core) (r : BitVec 5) (x : BitVec 4608) (f : Nat) : (c.putA r x f).frozen = c.frozen := rfl
@[simp] theorem putA_wait (c : Core) (r : BitVec 5) (x : BitVec 4608) (f : Nat) : (c.putA r x f).wait = c.wait := rfl
@[simp] theorem putA_word (c : Core) (r : BitVec 5) (x : BitVec 4608) (f : Nat) : (c.putA r x f).word = c.word := rfl
@[simp] theorem putA_reply (c : Core) (r : BitVec 5) (x : BitVec 4608) (f : Nat) : (c.putA r x f).reply = c.reply := rfl
@[simp] theorem putA_rbuf (c : Core) (r : BitVec 5) (x : BitVec 4608) (f : Nat) : (c.putA r x f).rbuf = c.rbuf := rfl
@[simp] theorem putA_stepDue (c : Core) (r : BitVec 5) (x : BitVec 4608) (f : Nat) : (c.putA r x f).stepDue = c.stepDue := rfl
@[simp] theorem putA_defErr (c : Core) (r : BitVec 5) (x : BitVec 4608) (f : Nat) : (c.putA r x f).defErr = c.defErr := rfl
@[simp] theorem putA_stq (c : Core) (r : BitVec 5) (x : BitVec 4608) (f : Nat) : (c.putA r x f).stq = c.stq := rfl
@[simp] theorem putA_openW (c : Core) (r : BitVec 5) (x : BitVec 4608) (f : Nat) : (c.putA r x f).openW = c.openW := rfl
@[simp] theorem putA_openR (c : Core) (r : BitVec 5) (x : BitVec 4608) (f : Nat) : (c.putA r x f).openR = c.openR := rfl
@[simp] theorem putA_offer (c : Core) (r : BitVec 5) (x : BitVec 4608) (f : Nat) : (c.putA r x f).offer = c.offer := rfl
@[simp] theorem putA_offerS (c : Core) (r : BitVec 5) (x : BitVec 4608) (f : Nat) : (c.putA r x f).offerS = c.offerS := rfl
@[simp] theorem putA_l1i (c : Core) (r : BitVec 5) (x : BitVec 4608) (f : Nat) : (c.putA r x f).l1i = c.l1i := rfl
@[simp] theorem putA_l1d (c : Core) (r : BitVec 5) (x : BitVec 4608) (f : Nat) : (c.putA r x f).l1d = c.l1d := rfl
@[simp] theorem putA_l2 (c : Core) (r : BitVec 5) (x : BitVec 4608) (f : Nat) : (c.putA r x f).l2 = c.l2 := rfl
@[simp] theorem putA_l1iRet (c : Core) (r : BitVec 5) (x : BitVec 4608) (f : Nat) : (c.putA r x f).l1iRet = c.l1iRet := rfl
@[simp] theorem putA_l1dRet (c : Core) (r : BitVec 5) (x : BitVec 4608) (f : Nat) : (c.putA r x f).l1dRet = c.l1dRet := rfl
@[simp] theorem putA_cleaning (c : Core) (r : BitVec 5) (x : BitVec 4608) (f : Nat) : (c.putA r x f).cleaning = c.cleaning := rfl
@[simp] theorem putA_itlb (c : Core) (r : BitVec 5) (x : BitVec 4608) (f : Nat) : (c.putA r x f).itlb = c.itlb := rfl
@[simp] theorem putA_dtlb (c : Core) (r : BitVec 5) (x : BitVec 4608) (f : Nat) : (c.putA r x f).dtlb = c.dtlb := rfl
@[simp] theorem putA_tlb2 (c : Core) (r : BitVec 5) (x : BitVec 4608) (f : Nat) : (c.putA r x f).tlb2 = c.tlb2 := rfl
@[simp] theorem putA_tlb2big (c : Core) (r : BitVec 5) (x : BitVec 4608) (f : Nat) : (c.putA r x f).tlb2big = c.tlb2big := rfl
@[simp] theorem putA_wcache (c : Core) (r : BitVec 5) (x : BitVec 4608) (f : Nat) : (c.putA r x f).wcache = c.wcache := rfl
@[simp] theorem putA_tlbFlushDue (c : Core) (r : BitVec 5) (x : BitVec 4608) (f : Nat) : (c.putA r x f).tlbFlushDue = c.tlbFlushDue := rfl
@[simp] theorem putA_tlbiOut (c : Core) (r : BitVec 5) (x : BitVec 4608) (f : Nat) : (c.putA r x f).tlbiOut = c.tlbiOut := rfl
@[simp] theorem putA_tlbTout (c : Core) (r : BitVec 5) (x : BitVec 4608) (f : Nat) : (c.putA r x f).tlbTout = c.tlbTout := rfl
@[simp] theorem putA_hist (c : Core) (r : BitVec 5) (x : BitVec 4608) (f : Nat) : (c.putA r x f).hist = c.hist := rfl
@[simp] theorem putA_itt (c : Core) (r : BitVec 5) (x : BitVec 4608) (f : Nat) : (c.putA r x f).itt = c.itt := rfl
@[simp] theorem putA_rstack (c : Core) (r : BitVec 5) (x : BitVec 4608) (f : Nat) : (c.putA r x f).rstack = c.rstack := rfl
@[simp] theorem putA_mispred (c : Core) (r : BitVec 5) (x : BitVec 4608) (f : Nat) : (c.putA r x f).mispred = c.mispred := rfl
@[simp] theorem putA_clrBusy (c : Core) (r : BitVec 5) (x : BitVec 4608) (f : Nat) : (c.putA r x f).clrBusy = c.clrBusy := rfl
@[simp] theorem putA_gate (c : Core) (r : BitVec 5) (x : BitVec 4608) (f : Nat) : (c.putA r x f).gate = c.gate := rfl
@[simp] theorem putA_dbg (c : Core) (r : BitVec 5) (x : BitVec 4608) (f : Nat) : (c.putA r x f).dbg = c.dbg := rfl
@[simp] theorem putA_dbgQ (c : Core) (r : BitVec 5) (x : BitVec 4608) (f : Nat) : (c.putA r x f).dbgQ = c.dbgQ := rfl
@[simp] theorem putA_resumeDue (c : Core) (r : BitVec 5) (x : BitVec 4608) (f : Nat) : (c.putA r x f).resumeDue = c.resumeDue := rfl
@[simp] theorem putA_sbuf (c : Core) (r : BitVec 5) (x : BitVec 4608) (f : Nat) : (c.putA r x f).sbuf = c.sbuf := rfl
@[simp] theorem putA_pmEv (c : Core) (r : BitVec 5) (x : BitVec 4608) (f : Nat) : (c.putA r x f).pmEv = c.pmEv := rfl
@[simp] theorem putA_arrErr (c : Core) (r : BitVec 5) (x : BitVec 4608) (f : Nat) : (c.putA r x f).arrErr = c.arrErr := rfl
@[simp] theorem putA_pf1 (c : Core) (r : BitVec 5) (x : BitVec 4608) (f : Nat) : (c.putA r x f).pf1 = c.pf1 := rfl
@[simp] theorem putA_pf2 (c : Core) (r : BitVec 5) (x : BitVec 4608) (f : Nat) : (c.putA r x f).pf2 = c.pf2 := rfl
@[simp] theorem putA_apLimit (c : Core) (r : BitVec 5) (x : BitVec 4608) (f : Nat) : (c.putA r x f).apLimit = c.apLimit := rfl

/-- A g register reads what was written, g0 zero (03 R57). -/
theorem rg_wg_self (c : Core) (r : BitVec 5) (w : Word) : (c.wg r w).rg r = if r = 0 then 0 else w := by
  unfold Core.rg Core.wg
  by_cases h : r = 0#5 <;> simp [h]
theorem rg_wg_ne (c : Core) {r x : BitVec 5} (w : Word) (h : x ≠ r) : (c.wg r w).rg x = c.rg x := by
  unfold Core.rg Core.wg
  by_cases h0 : r = 0#5
  · simp [h0]
  · have hn : r.toNat ≠ x.toNat := fun e => h (BitVec.eq_of_toNat_eq e.symm)
    simp [h0, Vector.getElem_set, hn]
theorem rg_of_g {c d : Core} (h : d.g = c.g) (r : BitVec 5) : d.rg r = c.rg r := by simp [Core.rg, h]
@[simp] theorem rg_zero (c : Core) : c.rg 0 = 0 := by simp [Core.rg]

theorem bit8 : ∀ r < 8, ∀ x < 8, ((1 : BitVec 8) <<< r).getLsbD x = decide (x = r) := by decide
theorem bit8n : ∀ r < 8, ∀ x < 8, (BitVec.ofNat 8 (1 <<< r)).getLsbD x = decide (x = r) := by decide

/-- A predicate reads what was written, p0 one (03 R57). -/
theorem rp_wp_self (c : Core) (r : BitVec 3) (b : Bool) : (c.wp r b).rp r = (decide (r = 0) || b) := by
  unfold Core.rp Core.wp
  by_cases h : r = 0
  · simp [h]
  · have hr : r.toNat < 8 := r.isLt
    rw [if_neg h]
    cases b
    · simp only [Bool.false_eq_true, if_false, BitVec.getLsbD_and, BitVec.getLsbD_not, bit8 _ hr _ hr]; simp
    · simp only [if_true, BitVec.getLsbD_or, BitVec.natCast_eq_ofNat, bit8n _ hr _ hr]; simp
theorem rp_wp_ne (c : Core) {r x : BitVec 3} (b : Bool) (h : x ≠ r) : (c.wp r b).rp x = c.rp x := by
  unfold Core.rp Core.wp
  by_cases h0 : r = 0
  · rw [if_pos h0]
  · have hn : x.toNat ≠ r.toNat := fun e => h (BitVec.eq_of_toNat_eq e)
    have hx : x.toNat < 8 := x.isLt
    have hr : r.toNat < 8 := r.isLt
    rw [if_neg h0]
    cases b
    · simp only [Bool.false_eq_true, if_false, BitVec.getLsbD_and, BitVec.getLsbD_not, bit8 _ hr _ hx, hn]; simp [hx]
    · simp only [if_true, BitVec.getLsbD_or, BitVec.natCast_eq_ofNat, bit8n _ hr _ hx, hn]; simp

@[simp] theorem cr_setCr_self (c : Core) (n : Nat) (w : Word) : (c.setCr n w).cr n = w := by simp [Core.cr, Core.setCr]
theorem cr_setCr_ne (c : Core) {m n : Nat} (w : Word) (h : m ≠ n) : (c.setCr n w).cr m = c.cr m := by
  simp [Core.cr, Core.setCr, KMap.getD_set_ne _ _ _ h]
theorem cr_of_creg {c d : Core} (h : d.creg = c.creg) (n : Nat) : d.cr n = c.cr n := by simp [Core.cr, h]

theorem clrwOne_eq (o c : Core) (b : Bool) : ∃ itt rs q, Core.clrwOne o c b = { c with itt := itt, rstack := rs, clrBusy := q } := by
  unfold Core.clrwOne
  split
  · exact ⟨_, _, _, rfl⟩
  · exact ⟨c.itt, c.rstack, c.clrBusy, rfl⟩

theorem clrw_eq (o c : Core) : ∃ itt rs q, Core.clrw o c = { c with itt := itt, rstack := rs, clrBusy := q } := by
  obtain ⟨i1, r1, q1, h1⟩ := clrwOne_eq o c false
  obtain ⟨i2, r2, q2, h2⟩ := clrwOne_eq o { c with itt := i1, rstack := r1, clrBusy := q1 } true
  exact ⟨i2, r2, q2, by rw [Core.clrw, h1, h2]⟩

@[simp] theorem clrw_run (o c : Core) : (Core.clrw o c).run = c.run := by obtain ⟨_, _, _, h⟩ := clrw_eq o c; rw [h]
@[simp] theorem clrw_release (o c : Core) : (Core.clrw o c).release = c.release := by obtain ⟨_, _, _, h⟩ := clrw_eq o c; rw [h]
@[simp] theorem clrw_haltReq (o c : Core) : (Core.clrw o c).haltReq = c.haltReq := by obtain ⟨_, _, _, h⟩ := clrw_eq o c; rw [h]
@[simp] theorem clrw_werr (o c : Core) : (Core.clrw o c).werr = c.werr := by obtain ⟨_, _, _, h⟩ := clrw_eq o c; rw [h]
@[simp] theorem clrw_g (o c : Core) : (Core.clrw o c).g = c.g := by obtain ⟨_, _, _, h⟩ := clrw_eq o c; rw [h]
@[simp] theorem clrw_p (o c : Core) : (Core.clrw o c).p = c.p := by obtain ⟨_, _, _, h⟩ := clrw_eq o c; rw [h]
@[simp] theorem clrw_pc (o c : Core) : (Core.clrw o c).pc = c.pc := by obtain ⟨_, _, _, h⟩ := clrw_eq o c; rw [h]
@[simp] theorem clrw_lvl (o c : Core) : (Core.clrw o c).lvl = c.lvl := by obtain ⟨_, _, _, h⟩ := clrw_eq o c; rw [h]
@[simp] theorem clrw_sec (o c : Core) : (Core.clrw o c).sec = c.sec := by obtain ⟨_, _, _, h⟩ := clrw_eq o c; rw [h]
@[simp] theorem clrw_ie (o c : Core) : (Core.clrw o c).ie = c.ie := by obtain ⟨_, _, _, h⟩ := clrw_eq o c; rw [h]
@[simp] theorem clrw_ss (o c : Core) : (Core.clrw o c).ss = c.ss := by obtain ⟨_, _, _, h⟩ := clrw_eq o c; rw [h]
@[simp] theorem clrw_mcip (o c : Core) : (Core.clrw o c).mcip = c.mcip := by obtain ⟨_, _, _, h⟩ := clrw_eq o c; rw [h]
@[simp] theorem clrw_v (o c : Core) : (Core.clrw o c).v = c.v := by obtain ⟨_, _, _, h⟩ := clrw_eq o c; rw [h]
@[simp] theorem clrw_a (o c : Core) : (Core.clrw o c).a = c.a := by obtain ⟨_, _, _, h⟩ := clrw_eq o c; rw [h]
@[simp] theorem clrw_creg (o c : Core) : (Core.clrw o c).creg = c.creg := by obtain ⟨_, _, _, h⟩ := clrw_eq o c; rw [h]
@[simp] theorem clrw_creg60 (o c : Core) : (Core.clrw o c).creg60 = c.creg60 := by obtain ⟨_, _, _, h⟩ := clrw_eq o c; rw [h]
@[simp] theorem clrw_frozen (o c : Core) : (Core.clrw o c).frozen = c.frozen := by obtain ⟨_, _, _, h⟩ := clrw_eq o c; rw [h]
@[simp] theorem clrw_wait (o c : Core) : (Core.clrw o c).wait = c.wait := by obtain ⟨_, _, _, h⟩ := clrw_eq o c; rw [h]
@[simp] theorem clrw_word (o c : Core) : (Core.clrw o c).word = c.word := by obtain ⟨_, _, _, h⟩ := clrw_eq o c; rw [h]
@[simp] theorem clrw_reply (o c : Core) : (Core.clrw o c).reply = c.reply := by obtain ⟨_, _, _, h⟩ := clrw_eq o c; rw [h]
@[simp] theorem clrw_rbuf (o c : Core) : (Core.clrw o c).rbuf = c.rbuf := by obtain ⟨_, _, _, h⟩ := clrw_eq o c; rw [h]
@[simp] theorem clrw_stepDue (o c : Core) : (Core.clrw o c).stepDue = c.stepDue := by obtain ⟨_, _, _, h⟩ := clrw_eq o c; rw [h]
@[simp] theorem clrw_defErr (o c : Core) : (Core.clrw o c).defErr = c.defErr := by obtain ⟨_, _, _, h⟩ := clrw_eq o c; rw [h]
@[simp] theorem clrw_stq (o c : Core) : (Core.clrw o c).stq = c.stq := by obtain ⟨_, _, _, h⟩ := clrw_eq o c; rw [h]
@[simp] theorem clrw_openW (o c : Core) : (Core.clrw o c).openW = c.openW := by obtain ⟨_, _, _, h⟩ := clrw_eq o c; rw [h]
@[simp] theorem clrw_openR (o c : Core) : (Core.clrw o c).openR = c.openR := by obtain ⟨_, _, _, h⟩ := clrw_eq o c; rw [h]
@[simp] theorem clrw_offer (o c : Core) : (Core.clrw o c).offer = c.offer := by obtain ⟨_, _, _, h⟩ := clrw_eq o c; rw [h]
@[simp] theorem clrw_offerS (o c : Core) : (Core.clrw o c).offerS = c.offerS := by obtain ⟨_, _, _, h⟩ := clrw_eq o c; rw [h]
@[simp] theorem clrw_l1i (o c : Core) : (Core.clrw o c).l1i = c.l1i := by obtain ⟨_, _, _, h⟩ := clrw_eq o c; rw [h]
@[simp] theorem clrw_l1d (o c : Core) : (Core.clrw o c).l1d = c.l1d := by obtain ⟨_, _, _, h⟩ := clrw_eq o c; rw [h]
@[simp] theorem clrw_l2 (o c : Core) : (Core.clrw o c).l2 = c.l2 := by obtain ⟨_, _, _, h⟩ := clrw_eq o c; rw [h]
@[simp] theorem clrw_l1iRet (o c : Core) : (Core.clrw o c).l1iRet = c.l1iRet := by obtain ⟨_, _, _, h⟩ := clrw_eq o c; rw [h]
@[simp] theorem clrw_l1dRet (o c : Core) : (Core.clrw o c).l1dRet = c.l1dRet := by obtain ⟨_, _, _, h⟩ := clrw_eq o c; rw [h]
@[simp] theorem clrw_cleaning (o c : Core) : (Core.clrw o c).cleaning = c.cleaning := by obtain ⟨_, _, _, h⟩ := clrw_eq o c; rw [h]
@[simp] theorem clrw_itlb (o c : Core) : (Core.clrw o c).itlb = c.itlb := by obtain ⟨_, _, _, h⟩ := clrw_eq o c; rw [h]
@[simp] theorem clrw_dtlb (o c : Core) : (Core.clrw o c).dtlb = c.dtlb := by obtain ⟨_, _, _, h⟩ := clrw_eq o c; rw [h]
@[simp] theorem clrw_tlb2 (o c : Core) : (Core.clrw o c).tlb2 = c.tlb2 := by obtain ⟨_, _, _, h⟩ := clrw_eq o c; rw [h]
@[simp] theorem clrw_tlb2big (o c : Core) : (Core.clrw o c).tlb2big = c.tlb2big := by obtain ⟨_, _, _, h⟩ := clrw_eq o c; rw [h]
@[simp] theorem clrw_wcache (o c : Core) : (Core.clrw o c).wcache = c.wcache := by obtain ⟨_, _, _, h⟩ := clrw_eq o c; rw [h]
@[simp] theorem clrw_tlbFlushDue (o c : Core) : (Core.clrw o c).tlbFlushDue = c.tlbFlushDue := by obtain ⟨_, _, _, h⟩ := clrw_eq o c; rw [h]
@[simp] theorem clrw_tlbiOut (o c : Core) : (Core.clrw o c).tlbiOut = c.tlbiOut := by obtain ⟨_, _, _, h⟩ := clrw_eq o c; rw [h]
@[simp] theorem clrw_tlbTout (o c : Core) : (Core.clrw o c).tlbTout = c.tlbTout := by obtain ⟨_, _, _, h⟩ := clrw_eq o c; rw [h]
@[simp] theorem clrw_hist (o c : Core) : (Core.clrw o c).hist = c.hist := by obtain ⟨_, _, _, h⟩ := clrw_eq o c; rw [h]
@[simp] theorem clrw_mispred (o c : Core) : (Core.clrw o c).mispred = c.mispred := by obtain ⟨_, _, _, h⟩ := clrw_eq o c; rw [h]
@[simp] theorem clrw_gate (o c : Core) : (Core.clrw o c).gate = c.gate := by obtain ⟨_, _, _, h⟩ := clrw_eq o c; rw [h]
@[simp] theorem clrw_dbg (o c : Core) : (Core.clrw o c).dbg = c.dbg := by obtain ⟨_, _, _, h⟩ := clrw_eq o c; rw [h]
@[simp] theorem clrw_dbgQ (o c : Core) : (Core.clrw o c).dbgQ = c.dbgQ := by obtain ⟨_, _, _, h⟩ := clrw_eq o c; rw [h]
@[simp] theorem clrw_resumeDue (o c : Core) : (Core.clrw o c).resumeDue = c.resumeDue := by obtain ⟨_, _, _, h⟩ := clrw_eq o c; rw [h]
@[simp] theorem clrw_sbuf (o c : Core) : (Core.clrw o c).sbuf = c.sbuf := by obtain ⟨_, _, _, h⟩ := clrw_eq o c; rw [h]
@[simp] theorem clrw_pmEv (o c : Core) : (Core.clrw o c).pmEv = c.pmEv := by obtain ⟨_, _, _, h⟩ := clrw_eq o c; rw [h]
@[simp] theorem clrw_arrErr (o c : Core) : (Core.clrw o c).arrErr = c.arrErr := by obtain ⟨_, _, _, h⟩ := clrw_eq o c; rw [h]
@[simp] theorem clrw_pf1 (o c : Core) : (Core.clrw o c).pf1 = c.pf1 := by obtain ⟨_, _, _, h⟩ := clrw_eq o c; rw [h]
@[simp] theorem clrw_pf2 (o c : Core) : (Core.clrw o c).pf2 = c.pf2 := by obtain ⟨_, _, _, h⟩ := clrw_eq o c; rw [h]
@[simp] theorem clrw_apLimit (o c : Core) : (Core.clrw o c).apLimit = c.apLimit := by obtain ⟨_, _, _, h⟩ := clrw_eq o c; rw [h]
@[simp] theorem saveBank_run (c : Core) (t : Level) (ec info addr epc : Word) : (c.saveBank t ec info addr epc).run = c.run := by simp [Core.saveBank]
@[simp] theorem saveBank_release (c : Core) (t : Level) (ec info addr epc : Word) : (c.saveBank t ec info addr epc).release = c.release := by simp [Core.saveBank]
@[simp] theorem saveBank_haltReq (c : Core) (t : Level) (ec info addr epc : Word) : (c.saveBank t ec info addr epc).haltReq = c.haltReq := by simp [Core.saveBank]
@[simp] theorem saveBank_werr (c : Core) (t : Level) (ec info addr epc : Word) : (c.saveBank t ec info addr epc).werr = c.werr := by simp [Core.saveBank]
@[simp] theorem saveBank_g (c : Core) (t : Level) (ec info addr epc : Word) : (c.saveBank t ec info addr epc).g = c.g := by simp [Core.saveBank]
@[simp] theorem saveBank_p (c : Core) (t : Level) (ec info addr epc : Word) : (c.saveBank t ec info addr epc).p = c.p := by simp [Core.saveBank]
@[simp] theorem saveBank_pc (c : Core) (t : Level) (ec info addr epc : Word) : (c.saveBank t ec info addr epc).pc = c.pc := by simp [Core.saveBank]
@[simp] theorem saveBank_lvl (c : Core) (t : Level) (ec info addr epc : Word) : (c.saveBank t ec info addr epc).lvl = c.lvl := by simp [Core.saveBank]
@[simp] theorem saveBank_sec (c : Core) (t : Level) (ec info addr epc : Word) : (c.saveBank t ec info addr epc).sec = c.sec := by simp [Core.saveBank]
@[simp] theorem saveBank_ie (c : Core) (t : Level) (ec info addr epc : Word) : (c.saveBank t ec info addr epc).ie = c.ie := by simp [Core.saveBank]
@[simp] theorem saveBank_ss (c : Core) (t : Level) (ec info addr epc : Word) : (c.saveBank t ec info addr epc).ss = c.ss := by simp [Core.saveBank]
@[simp] theorem saveBank_mcip (c : Core) (t : Level) (ec info addr epc : Word) : (c.saveBank t ec info addr epc).mcip = c.mcip := by simp [Core.saveBank]
@[simp] theorem saveBank_v (c : Core) (t : Level) (ec info addr epc : Word) : (c.saveBank t ec info addr epc).v = c.v := by simp [Core.saveBank]
@[simp] theorem saveBank_a (c : Core) (t : Level) (ec info addr epc : Word) : (c.saveBank t ec info addr epc).a = c.a := by simp [Core.saveBank]
@[simp] theorem saveBank_creg60 (c : Core) (t : Level) (ec info addr epc : Word) : (c.saveBank t ec info addr epc).creg60 = c.creg60 := by simp [Core.saveBank]
@[simp] theorem saveBank_frozen (c : Core) (t : Level) (ec info addr epc : Word) : (c.saveBank t ec info addr epc).frozen = c.frozen := by simp [Core.saveBank]
@[simp] theorem saveBank_wait (c : Core) (t : Level) (ec info addr epc : Word) : (c.saveBank t ec info addr epc).wait = c.wait := by simp [Core.saveBank]
@[simp] theorem saveBank_word (c : Core) (t : Level) (ec info addr epc : Word) : (c.saveBank t ec info addr epc).word = c.word := by simp [Core.saveBank]
@[simp] theorem saveBank_reply (c : Core) (t : Level) (ec info addr epc : Word) : (c.saveBank t ec info addr epc).reply = c.reply := by simp [Core.saveBank]
@[simp] theorem saveBank_rbuf (c : Core) (t : Level) (ec info addr epc : Word) : (c.saveBank t ec info addr epc).rbuf = c.rbuf := by simp [Core.saveBank]
@[simp] theorem saveBank_stepDue (c : Core) (t : Level) (ec info addr epc : Word) : (c.saveBank t ec info addr epc).stepDue = c.stepDue := by simp [Core.saveBank]
@[simp] theorem saveBank_defErr (c : Core) (t : Level) (ec info addr epc : Word) : (c.saveBank t ec info addr epc).defErr = c.defErr := by simp [Core.saveBank]
@[simp] theorem saveBank_stq (c : Core) (t : Level) (ec info addr epc : Word) : (c.saveBank t ec info addr epc).stq = c.stq := by simp [Core.saveBank]
@[simp] theorem saveBank_openW (c : Core) (t : Level) (ec info addr epc : Word) : (c.saveBank t ec info addr epc).openW = c.openW := by simp [Core.saveBank]
@[simp] theorem saveBank_openR (c : Core) (t : Level) (ec info addr epc : Word) : (c.saveBank t ec info addr epc).openR = c.openR := by simp [Core.saveBank]
@[simp] theorem saveBank_offer (c : Core) (t : Level) (ec info addr epc : Word) : (c.saveBank t ec info addr epc).offer = c.offer := by simp [Core.saveBank]
@[simp] theorem saveBank_offerS (c : Core) (t : Level) (ec info addr epc : Word) : (c.saveBank t ec info addr epc).offerS = c.offerS := by simp [Core.saveBank]
@[simp] theorem saveBank_l1i (c : Core) (t : Level) (ec info addr epc : Word) : (c.saveBank t ec info addr epc).l1i = c.l1i := by simp [Core.saveBank]
@[simp] theorem saveBank_l1d (c : Core) (t : Level) (ec info addr epc : Word) : (c.saveBank t ec info addr epc).l1d = c.l1d := by simp [Core.saveBank]
@[simp] theorem saveBank_l2 (c : Core) (t : Level) (ec info addr epc : Word) : (c.saveBank t ec info addr epc).l2 = c.l2 := by simp [Core.saveBank]
@[simp] theorem saveBank_l1iRet (c : Core) (t : Level) (ec info addr epc : Word) : (c.saveBank t ec info addr epc).l1iRet = c.l1iRet := by simp [Core.saveBank]
@[simp] theorem saveBank_l1dRet (c : Core) (t : Level) (ec info addr epc : Word) : (c.saveBank t ec info addr epc).l1dRet = c.l1dRet := by simp [Core.saveBank]
@[simp] theorem saveBank_cleaning (c : Core) (t : Level) (ec info addr epc : Word) : (c.saveBank t ec info addr epc).cleaning = c.cleaning := by simp [Core.saveBank]
@[simp] theorem saveBank_itlb (c : Core) (t : Level) (ec info addr epc : Word) : (c.saveBank t ec info addr epc).itlb = c.itlb := by simp [Core.saveBank]
@[simp] theorem saveBank_dtlb (c : Core) (t : Level) (ec info addr epc : Word) : (c.saveBank t ec info addr epc).dtlb = c.dtlb := by simp [Core.saveBank]
@[simp] theorem saveBank_tlb2 (c : Core) (t : Level) (ec info addr epc : Word) : (c.saveBank t ec info addr epc).tlb2 = c.tlb2 := by simp [Core.saveBank]
@[simp] theorem saveBank_tlb2big (c : Core) (t : Level) (ec info addr epc : Word) : (c.saveBank t ec info addr epc).tlb2big = c.tlb2big := by simp [Core.saveBank]
@[simp] theorem saveBank_wcache (c : Core) (t : Level) (ec info addr epc : Word) : (c.saveBank t ec info addr epc).wcache = c.wcache := by simp [Core.saveBank]
@[simp] theorem saveBank_tlbFlushDue (c : Core) (t : Level) (ec info addr epc : Word) : (c.saveBank t ec info addr epc).tlbFlushDue = c.tlbFlushDue := by simp [Core.saveBank]
@[simp] theorem saveBank_tlbiOut (c : Core) (t : Level) (ec info addr epc : Word) : (c.saveBank t ec info addr epc).tlbiOut = c.tlbiOut := by simp [Core.saveBank]
@[simp] theorem saveBank_tlbTout (c : Core) (t : Level) (ec info addr epc : Word) : (c.saveBank t ec info addr epc).tlbTout = c.tlbTout := by simp [Core.saveBank]
@[simp] theorem saveBank_hist (c : Core) (t : Level) (ec info addr epc : Word) : (c.saveBank t ec info addr epc).hist = c.hist := by simp [Core.saveBank]
@[simp] theorem saveBank_itt (c : Core) (t : Level) (ec info addr epc : Word) : (c.saveBank t ec info addr epc).itt = c.itt := by simp [Core.saveBank]
@[simp] theorem saveBank_rstack (c : Core) (t : Level) (ec info addr epc : Word) : (c.saveBank t ec info addr epc).rstack = c.rstack := by simp [Core.saveBank]
@[simp] theorem saveBank_mispred (c : Core) (t : Level) (ec info addr epc : Word) : (c.saveBank t ec info addr epc).mispred = c.mispred := by simp [Core.saveBank]
@[simp] theorem saveBank_clrBusy (c : Core) (t : Level) (ec info addr epc : Word) : (c.saveBank t ec info addr epc).clrBusy = c.clrBusy := by simp [Core.saveBank]
@[simp] theorem saveBank_gate (c : Core) (t : Level) (ec info addr epc : Word) : (c.saveBank t ec info addr epc).gate = c.gate := by simp [Core.saveBank]
@[simp] theorem saveBank_dbg (c : Core) (t : Level) (ec info addr epc : Word) : (c.saveBank t ec info addr epc).dbg = c.dbg := by simp [Core.saveBank]
@[simp] theorem saveBank_dbgQ (c : Core) (t : Level) (ec info addr epc : Word) : (c.saveBank t ec info addr epc).dbgQ = c.dbgQ := by simp [Core.saveBank]
@[simp] theorem saveBank_resumeDue (c : Core) (t : Level) (ec info addr epc : Word) : (c.saveBank t ec info addr epc).resumeDue = c.resumeDue := by simp [Core.saveBank]
@[simp] theorem saveBank_sbuf (c : Core) (t : Level) (ec info addr epc : Word) : (c.saveBank t ec info addr epc).sbuf = c.sbuf := by simp [Core.saveBank]
@[simp] theorem saveBank_pmEv (c : Core) (t : Level) (ec info addr epc : Word) : (c.saveBank t ec info addr epc).pmEv = c.pmEv := by simp [Core.saveBank]
@[simp] theorem saveBank_arrErr (c : Core) (t : Level) (ec info addr epc : Word) : (c.saveBank t ec info addr epc).arrErr = c.arrErr := by simp [Core.saveBank]
@[simp] theorem saveBank_pf1 (c : Core) (t : Level) (ec info addr epc : Word) : (c.saveBank t ec info addr epc).pf1 = c.pf1 := by simp [Core.saveBank]
@[simp] theorem saveBank_pf2 (c : Core) (t : Level) (ec info addr epc : Word) : (c.saveBank t ec info addr epc).pf2 = c.pf2 := by simp [Core.saveBank]
@[simp] theorem saveBank_apLimit (c : Core) (t : Level) (ec info addr epc : Word) : (c.saveBank t ec info addr epc).apLimit = c.apLimit := by simp [Core.saveBank]

end Sys2Proof.Machine
end

