-- ==== Sys2Proof/Laws/Issue.lean ====
section
/-! SUPPORT. What the frame of an instruction does: issuing it, and completing it. -/
namespace Sys2Proof.Machine

/-- An instruction that is issued, passes its checks and executes does what its body says. -/
theorem issueOr_runs {s s1 : State} {i : Insn} (off : State → Out) (body : Core → State → Out)
    (h : Issues s i.n i.w s1) (hp : i.pre (s1.core i.n) = none) (he : (s1.core i.n).executes i.pred i.pn = true) :
    s.issueOr i off body = body (s1.core i.n) s1 := by
  obtain ⟨h1, h2, h3, h4, -⟩ := h
  simp [State.issueOr, h1, h2, h3, h4, Core.mine, Res.andThen, State.gated, hp, he]

/-- A false predicate. -/
theorem issueOr_skips {s s1 : State} {i : Insn} (off : State → Out) (body : Core → State → Out)
    (h : Issues s i.n i.w s1) (hp : i.pre (s1.core i.n) = none) (he : (s1.core i.n).executes i.pred i.pn = false) :
    s.issueOr i off body = off s1 := by
  obtain ⟨h1, h2, h3, h4, -⟩ := h
  simp [State.issueOr, h1, h2, h3, h4, Core.mine, Res.andThen, State.gated, hp, he]

/-- A check before the predicate raises its exception. -/
theorem issueOr_traps {s s1 : State} {i : Insn} {x : Nat} (off : State → Out) (body : Core → State → Out)
    (h : Issues s i.n i.w s1) (hp : i.pre (s1.core i.n) = some x) :
    s.issueOr i off body = .next (s1.trapInsn i.n (Exc.insn x (s1.core i.n).pc i.w false)) := by
  obtain ⟨h1, h2, h3, h4, -⟩ := h
  simp [State.issueOr, h1, h2, h3, h4, Core.mine, Res.andThen, State.gated, hp]

/-- `s` and `t` differ in the counters of core `n` and the free-value counter only. -/
def counted (n : Nat) (s t : State) : Prop :=
  (∃ cr : KMap Word, t = { s with cores := t.cores, fresh := t.fresh } ∧ t.core n = { s.core n with creg := cr }) ∧
    (∀ k, countReg k = false → (t.core n).cr k = (s.core n).cr k) ∧ ∀ m, m ≠ n → t.core m = s.core m

theorem counted_refl (n : Nat) (s : State) : counted n s s :=
  ⟨⟨(s.core n).creg, rfl, rfl⟩, fun _ _ => rfl, fun _ _ => rfl⟩

theorem counted_trans {n : Nat} {s t u : State} (h1 : counted n s t) (h2 : counted n t u) : counted n s u := by
  obtain ⟨⟨c1, e1, f1⟩, g1, o1⟩ := h1
  obtain ⟨⟨c2, e2, f2⟩, g2, o2⟩ := h2
  refine ⟨⟨c2, ?_, ?_⟩, fun k hk => (g2 k hk).trans (g1 k hk), fun m hm => (o2 m hm).trans (o1 m hm)⟩
  · rw [e2, e1]
  · rw [f2, f1]

theorem counted_draw (n : Nat) (s : State) : counted n s s.drawNat.2 :=
  ⟨⟨(s.core n).creg, rfl, rfl⟩, fun _ _ => rfl, fun _ _ => rfl⟩

theorem bumpCtr_cr (c : Core) {num k : Nat} (b x : Nat) (h1 : k ≠ num) (h2 : k ≠ 0x063) : (c.bumpCtr num b x).cr k = c.cr k := by
  unfold Core.bumpCtr
  dsimp only
  split
  · rw [cr_setCr_ne _ _ h2, cr_setCr_ne _ _ h1]
  · rw [cr_setCr_ne _ _ h1]

theorem bumpCtr_eq (c : Core) (num b x : Nat) : c.bumpCtr num b x = { c with creg := (c.bumpCtr num b x).creg } := by
  unfold Core.bumpCtr
  dsimp only
  split <;> rfl

theorem counted_bump {n num : Nat} (s : State) (b x : Nat) (h : countReg num = true) :
    counted n s (s.modCore n (fun c => c.bumpCtr num b x)) := by
  refine ⟨⟨((s.core n).bumpCtr num b x).creg, rfl, ?_⟩, fun k hk => ?_, fun m hm => core_modCore_ne s _ hm⟩
  · rw [core_modCore_self]; exact bumpCtr_eq _ _ _ _
  · rw [core_modCore_self]
    apply bumpCtr_cr
    · intro e; subst e; simp [h] at hk
    · intro e; subst e; revert hk; decide

theorem counted_pmc (n : Nat) (s : State) (lvl : Level) (evs : List (Nat × Nat)) {k : Nat} (hk : k < 6) :
    counted n s (s.countPmc n lvl evs k) := by
  have hc : countReg (cPMC + k) = true := by simp [countReg, cPMC]; omega
  unfold State.countPmc
  dsimp only
  split
  · exact counted_refl n s
  · split
    · exact counted_trans (counted_draw n s) (counted_bump _ k _ hc)
    · split
      · exact counted_trans (counted_draw n s) (counted_bump _ k _ hc)
      · split
        · exact counted_refl n s
        · exact counted_bump s k _ hc

theorem counted_fold (n : Nat) (lvl : Level) (evs : List (Nat × Nat)) (l : List Nat) (hl : ∀ k ∈ l, k < 6) (s : State) :
    counted n s (l.foldl (fun s k => s.countPmc n lvl evs k) s) := by
  induction l generalizing s with
  | nil => exact counted_refl n s
  | cons k t ih =>
    exact counted_trans (counted_pmc n s lvl evs (hl k (by simp))) (ih (fun j hj => hl j (List.mem_cons_of_mem _ hj)) _)

/-- Counting changes counters only (03 R100, R101). -/
theorem counted_count (n : Nat) (s : State) (c0 : Core) (ret : Bool) (evs : List (Nat × Nat)) :
    counted n s (s.count n c0 ret evs) := by
  unfold State.count
  dsimp only
  split
  · exact counted_refl n s
  · refine counted_trans (counted_trans (counted_draw n s) ?_)
      (counted_fold n _ _ (List.range 6) (fun k hk => List.mem_range.mp hk) _)
    cases ret with
    | false => exact counted_bump _ 6 _ (by decide)
    | true =>
      have h := counted_trans (counted_bump (n := n) s.drawNat.2 6 s.drawNat.1 (num := cCYCLE) (by decide))
        (counted_bump (n := n) _ 7 1 (num := cINSTRET) (by decide))
      refine ⟨⟨(((s.drawNat.2.core n).bumpCtr cCYCLE 6 s.drawNat.1).bumpCtr cINSTRET 7 1).creg, rfl, ?_⟩,
        fun k hk => ?_, fun m hm => ?_⟩
      · simp only [core_modCore_self, if_true]
        rw [bumpCtr_eq, bumpCtr_eq]
      · have h2 := h.2.1 k hk
        simp only [core_modCore_self, if_true] at h2 ⊢
        exact h2
      · rw [core_modCore_ne _ _ hm]

/-- What completing an instruction outside C_DBGINST leaves (03 R70, R100): the PC is at the next instruction, nothing waits,
only counters have changed besides. -/
theorem retire_core {n : Nat} {s : State} (c0 : Core) (npc : Word) (jump : Bool) (evs : List (Nat × Nat))
    (hd : (s.core n).dbg = false) :
    (∃ cr : KMap Word, (s.retireInsn n c0 npc jump evs).core n =
      { s.core n with creg := cr, pc := npc, wait := .none, reply := none, rbuf := .empty, dbg := false, pmEv := .empty,
                      stepDue := (s.core n).stepDue || (c0.ss && c0.lvl != .m) }) ∧
    (∀ k, countReg k = false → ((s.retireInsn n c0 npc jump evs).core n).cr k = (s.core n).cr k) ∧
    (∀ m, m ≠ n → (s.retireInsn n c0 npc jump evs).core m = s.core m) ∧
    (s.retireInsn n c0 npc jump evs) =
      { s with cores := (s.retireInsn n c0 npc jump evs).cores, fresh := (s.retireInsn n c0 npc jump evs).fresh } := by
  obtain ⟨⟨cr, e, f⟩, g, o⟩ := counted_count n s c0 true evs
  refine ⟨⟨cr, ?_⟩, fun k hk => ?_, fun m hm => ?_, ?_⟩
  · simp only [State.retireInsn, core_modCore_self]
    rw [f]
    simp [hd]
  · simp only [State.retireInsn, core_modCore_self]
    exact g k hk
  · rw [State.retireInsn, core_modCore_ne _ _ hm]; exact o m hm
  · simp only [State.retireInsn, State.modCore, State.setCore]
    rw [e]

/-- A completed instruction: the core as it was before completing, the PC at `npc` (03 R70). -/
theorem retire_endsAs {n : Nat} {s : State} (c0 : Core) (npc : Word) (jump : Bool) (evs : List (Nat × Nat))
    (hd : (s.core n).dbg = false) : endsAs n (s.core n) npc s (s.retireInsn n c0 npc jump evs) := by
  obtain ⟨⟨cr, e⟩, g, o, f⟩ := retire_core c0 npc jump evs hd
  refine ⟨⟨?_, ?_, ?_, ?_, ⟨?_, ?_, ?_, ?_, ?_⟩, g⟩, ?_, ?_, ?_, ?_, ?_, o⟩
  all_goals first | (rw [e]) | (rw [f])

/-- An instruction that writes one g register and completes (03 R70). -/
theorem done_wroteG {n : Nat} {s : State} (c0 : Core) (npc : Word) (d : BitVec 5) (v : Word) (evs : List (Nat × Nat))
    (hd : (s.core n).dbg = false) :
    wroteG n d v s ((s.modCore n (fun c => c.wg d v)).retireInsn n c0 npc false evs) ∧
      (((s.modCore n (fun c => c.wg d v)).retireInsn n c0 npc false evs).core n).pc = npc := by
  have hd' : ((s.modCore n (fun c => c.wg d v)).core n).dbg = false := by simp [hd]
  obtain ⟨⟨h1, h2, h3, h4, ⟨h5, h6, h7, h8, h9⟩, h10⟩, h11, h12, h13, h14, h15, h16⟩ := retire_endsAs c0 npc false evs hd'
  rw [core_modCore_self] at h1 h2 h3 h4 h5 h6 h7 h8 h9 h10
  refine ⟨⟨?_, fun x hx => ?_, ?_, ?_, ?_, ⟨?_, ?_, ?_, ?_, ?_⟩, fun k hk => ?_, h12, h13, h14, h15, fun m hm => ?_⟩, h11⟩
  · rw [rg_of_g h1]; exact rg_wg_self _ _ _
  · rw [rg_of_g h1]; exact rg_wg_ne _ _ hx
  · simpa using h2
  · simpa using h3
  · simpa using h4
  · simpa using h5
  · simpa using h6
  · simpa using h7
  · simpa using h8
  · simpa using h9
  · rw [h10 k hk]; simp [Core.cr]
  · rw [h16 m hm, core_modCore_ne _ _ hm]

/-- An instruction that only computes registers (03 R70). -/
theorem compute_runs {s s1 : State} {i : Insn} (f : Core → Core) (h : Issues s i.n i.w s1) (hp : i.pre (s1.core i.n) = none)
    (he : (s1.core i.n).executes i.pred i.pn = true) :
    s.compute i f = .next ((s1.modCore i.n f).retireInsn i.n (s1.core i.n) ((s1.core i.n).pc + 4) false []) := by
  rw [State.compute, State.issue, issueOr_runs _ _ h hp he]; rfl

/-- Every level may execute an instruction of minimum level U. -/
theorem preChk_u (c : Core) : preChk false .u c = none := by
  cases h : c.lvl <;> simp [preChk, Level.below, Level.num, h]

/-! Traps. -/

theorem bankKey_inj {t : Level} {b : Bool} {r q : Nat} (h : r ≠ q) : bankKey t b r ≠ bankKey t b q := by
  cases t <;> cases b <;> simp [bankKey, wk] <;> omega

/-- What the bank of the target holds after a trap (03 R66). -/
theorem saveBank_cr (c : Core) (t : Level) (ec info addr epc : Word) :
    (c.saveBank t ec info addr epc).cr (bankKey t c.sec 0) = c.cr (bankKey t c.sec 0) ∧
    (c.saveBank t ec info addr epc).cr (bankKey t c.sec 1) = epc &&& ~~~(3 : Word) ∧
    (c.saveBank t ec info addr epc).cr (bankKey t c.sec 2) = statWord c.lvl c.sec c.ie c.ss ∧
    (c.saveBank t ec info addr epc).cr (bankKey t c.sec 3) = ec ∧
    (c.saveBank t ec info addr epc).cr (bankKey t c.sec 4) = addr ∧
    (c.saveBank t ec info addr epc).cr (bankKey t c.sec 5) = info := by
  have h := fun {r q : Nat} (h : r ≠ q) => bankKey_inj (t := t) (b := c.sec) h
  unfold Core.saveBank
  refine ⟨?_, ?_, ?_, ?_, ?_, ?_⟩ <;> dsimp only
  · rw [cr_setCr_ne _ _ (h (by decide)), cr_setCr_ne _ _ (h (by decide)), cr_setCr_ne _ _ (h (by decide)),
      cr_setCr_ne _ _ (h (by decide)), cr_setCr_ne _ _ (h (by decide))]
  · rw [cr_setCr_ne _ _ (h (by decide)), cr_setCr_ne _ _ (h (by decide)), cr_setCr_ne _ _ (h (by decide)),
      cr_setCr_ne _ _ (h (by decide)), cr_setCr_self]
  · rw [cr_setCr_ne _ _ (h (by decide)), cr_setCr_ne _ _ (h (by decide)), cr_setCr_ne _ _ (h (by decide)), cr_setCr_self]
  · rw [cr_setCr_ne _ _ (h (by decide)), cr_setCr_ne _ _ (h (by decide)), cr_setCr_self]
  · rw [cr_setCr_ne _ _ (h (by decide)), cr_setCr_self]
  · rw [cr_setCr_self]

/-- What a trap that is no interrupt and no machine check leaves, register by register (03 R66). -/
theorem takeTrap_facts (c : Core) (t : Level) (ec info addr epc : Word) (hd : c.dbg = false) :
    let d := c.takeTrap t false false ec info addr epc
    d.lvl = t ∧ d.sec = c.sec ∧ d.ie = false ∧ d.ss = false ∧
      d.cr (bankKey t c.sec 1) = epc &&& ~~~(3 : Word) ∧ d.cr (bankKey t c.sec 2) = statWord c.lvl c.sec c.ie c.ss ∧
      d.cr (bankKey t c.sec 3) = ec ∧ d.pc = c.cr (bankKey t c.sec 0) + (if c.lvl = t then 0 else 0x200) ∧
      d.g = c.g ∧ d.p = c.p ∧ d.v = c.v ∧ d.a = c.a ∧
      d.cr (bankKey t c.sec 4) = addr ∧ d.cr (bankKey t c.sec 5) = info := by
  obtain ⟨b0, b1, b2, b3, b4, b5⟩ := saveBank_cr c t ec info addr epc
  have hcr : ∀ k, (c.takeTrap t false false ec info addr epc).cr k = (c.saveBank t ec info addr epc).cr k := by
    intro k; simp [Core.takeTrap, hd, Core.cr]
  refine ⟨?_, ?_, ?_, ?_, (hcr _).trans b1, (hcr _).trans b2, (hcr _).trans b3, ?_, ?_, ?_, ?_, ?_, (hcr _).trans b4,
    (hcr _).trans b5⟩ <;> simp [Core.takeTrap, hd, b0]

/-- Two cores that count differently only. -/
theorem trapTarget_counted {n : Nat} {s t : State} (h : counted n s t) (e : Exc) :
    (t.core n).trapTarget e = (s.core n).trapTarget e := by
  obtain ⟨⟨cr, -, hc⟩, hk, -⟩ := h
  have h1 := hk cMDELEGN (by decide)
  have h2 := hk cMDELEGS (by decide)
  have h3 := hk cHDELEG (by decide)
  have hs : (t.core n).sec = (s.core n).sec := by rw [hc]
  have hl : (t.core n).lvl = (s.core n).lvl := by rw [hc]
  cases hb : (s.core n).sec <;> simp [Core.trapTarget, hs, hl, hb, h1, h2, h3]

theorem bankKey_count (t : Level) (b : Bool) {r : Nat} (h : r < 7) : countReg (bankKey t b r) = false := by
  revert r; cases t <;> cases b <;> decide

/-- Raising an exception other than a machine check, outside M's handling of one, takes its trap (03 R64-R67). -/
theorem raiseExc_trapped {n : Nat} {s : State} (e : Exc) (npc : Word) (hd : (s.core n).dbg = false)
    (hm : ¬ ((s.core n).lvl = .m ∧ (s.core n).mcip = true)) (hmc : e.mc = none) (hk : isMcheck e.cause = false) :
    trapped n ((s.core n).trapTarget e) e.cause (if e.next then npc else (s.core n).pc) (s.core n) (s.raiseExc n e npc) ∧
      ((s.raiseExc n e npc).core n).cr (bankKey ((s.core n).trapTarget e) (s.core n).sec 4) = e.addr ∧
      ((s.raiseExc n e npc).core n).cr (bankKey ((s.core n).trapTarget e) (s.core n).sec 5) = e.info := by
  have hc : ∃ u, counted n s u ∧ s.raiseExc n e npc = u.modCore n (fun c =>
      c.takeTrap (c.trapTarget e) false false (BitVec.ofNat 64 e.cause) e.info e.addr (if e.next then npc else c.pc)) := by
    have hm' : ¬ ((s.core n).mcip = true ∧ ((s.core n).lvl = .m ∨ isMcheck e.cause = true)) := by
      rw [hk]; rintro ⟨h1, h2 | h2⟩
      · exact hm ⟨h2, h1⟩
      · cases h2
    unfold State.raiseExc
    dsimp only
    rw [if_neg hm', hmc, hk]
    dsimp only
    split
    · exact ⟨s, counted_refl n s, rfl⟩
    · exact ⟨_, counted_count n s _ false _, rfl⟩
  obtain ⟨u, hu, he⟩ := hc
  have ht := trapTarget_counted hu e
  obtain ⟨⟨cr, -, hc⟩, hk, -⟩ := hu
  have hud : (u.core n).dbg = false := by rw [hc]; exact hd
  have hus : (u.core n).sec = (s.core n).sec := by rw [hc]
  have hul : (u.core n).lvl = (s.core n).lvl := by rw [hc]
  have hup : (u.core n).pc = (s.core n).pc := by rw [hc]
  have hui : (u.core n).ie = (s.core n).ie := by rw [hc]
  have huss : (u.core n).ss = (s.core n).ss := by rw [hc]
  have hT := takeTrap_facts (u.core n) ((s.core n).trapTarget e) (BitVec.ofNat 64 e.cause) e.info e.addr
    (if e.next then npc else (s.core n).pc) hud
  have hv := hk (bankKey ((s.core n).trapTarget e) (s.core n).sec 0) (bankKey_count _ _ (by decide))
  have hcore : (s.raiseExc n e npc).core n = (u.core n).takeTrap ((s.core n).trapTarget e) false false
      (BitVec.ofNat 64 e.cause) e.info e.addr (if e.next then npc else (s.core n).pc) := by
    rw [he, core_modCore_self, ht, hup]
  rw [← hcore, hus, hul, hui, huss, hv] at hT
  obtain ⟨h1, h2, h3, h4, h5, h6, h7, h8, h9, hA, hB, hC, hD, hE⟩ := hT
  exact ⟨⟨h1, h2, h3, h4, h5, h6, h7, h8, h9.trans (by rw [hc]), hA.trans (by rw [hc]), hB.trans (by rw [hc]),
    hC.trans (by rw [hc])⟩, hD, hE⟩

/-- An instruction that completes and then traps leaves what its trap leaves, with the next instruction's address
saved (03 R66, R69). -/
theorem completeTrap_trapped {n : Nat} {s : State} (e : Exc) (hd : (s.core n).dbg = false)
    (hm : ¬ ((s.core n).lvl = .m ∧ (s.core n).mcip = true)) (hmc : e.mc = none) (hk : isMcheck e.cause = false) :
    trapped n ((s.core n).trapTarget e) e.cause ((s.core n).pc + 4) (s.core n) (s.completeTrap n (s.core n) e) := by
  have hc := counted_count n s (s.core n) true []
  unfold State.completeTrap
  have h1 : ((s.count n (s.core n) true []).core n).clearWait.trapTarget { e with next := true } = (s.core n).trapTarget e := by
    rw [← trapTarget_counted hc e]; rfl
  obtain ⟨⟨cr, -, hcc⟩, hkk, -⟩ := hc
  have key := (raiseExc_trapped (n := n) (s := (s.count n (s.core n) true []).modCore n Core.clearWait) { e with next := true }
    ((s.core n).pc + 4) (by simp only [core_modCore_self]; rw [hcc]; exact hd) (by simp only [core_modCore_self]; rw [hcc]; exact hm) hmc hk).1
  rw [core_modCore_self, h1] at key
  obtain ⟨a1, a2, a3, a4, a5, a6, a7, a8, a9, aA, aB, aC⟩ := key
  have hv := hkk (bankKey ((s.core n).trapTarget e) (s.core n).sec 0) (bankKey_count _ _ (by decide))
  have e1 : ((s.count n (s.core n) true []).core n).clearWait.sec = (s.core n).sec := by rw [hcc]; rfl
  have e2 : ((s.count n (s.core n) true []).core n).clearWait.lvl = (s.core n).lvl := by rw [hcc]; rfl
  have e3 : ((s.count n (s.core n) true []).core n).clearWait.ie = (s.core n).ie := by rw [hcc]; rfl
  have e4 : ((s.count n (s.core n) true []).core n).clearWait.ss = (s.core n).ss := by rw [hcc]; rfl
  have e5 : ((s.count n (s.core n) true []).core n).clearWait.cr (bankKey ((s.core n).trapTarget e) (s.core n).sec 0) = (s.core n).cr (bankKey ((s.core n).trapTarget e) (s.core n).sec 0) := hv
  rw [e1] at a5 a6 a7 a8
  rw [e2, e3, e4] at a6
  rw [e2, e5] at a8
  exact ⟨a1, a2.trans e1, a3, a4, a5, a6, a7, a8, a9.trans (by rw [hcc]; rfl), aA.trans (by rw [hcc]; rfl), aB.trans (by rw [hcc]; rfl), aC.trans (by rw [hcc]; rfl)⟩

/-- An instruction of level K or above passes its level check there. -/
theorem preChk_k {c : Core} (h : c.lvl ≠ .u) : preChk false .k c = none := by
  cases h1 : c.lvl <;> simp_all [preChk, Level.below, Level.num]

/-- Where power is not good, no core issues. -/
theorem canIssue_noPower {s : State} (h : s.boot.pwrok = false) (n : Nat) : s.canIssue n = false := by
  have hd : s.dead = true := by simp [State.dead, h]
  have ha : s.alive = false := by simp [State.alive, hd]
  simp [State.canIssue, State.coreLive, ha]

/-- Where a core cannot issue, a row of an instruction changes nothing. -/
theorem issueOr_idle {s : State} {i : Insn} (off : State → Out) (body : Core → State → Out) (h : s.canIssue i.n = false) :
    s.issueOr i off body = .next s := by simp [State.issueOr, h]

end Sys2Proof.Machine
end

