-- ==== Sys2Proof/Laws/Memory.lean ====
section
/-! SUPPORT. Memory: what reading a byte finds after writing one, and that the canonical form is kept. -/
namespace Sys2Proof.Machine

theorem kfind_filter_self (a : Nat) (m : List Host.Cell) : kfind a (m.filter (fun c => c.1 != a)) = none := by
  induction m with
  | nil => rfl
  | cons h t ih =>
    obtain ⟨k, b⟩ := h
    by_cases hk : k = a
    · subst hk; simpa using ih
    · simp [hk, kfind, ih]

theorem kfind_filter_ne {a x : Nat} (m : List Host.Cell) (h : x ≠ a) :
    kfind x (m.filter (fun c => c.1 != a)) = kfind x m := by
  induction m with
  | nil => rfl
  | cons c t ih =>
    obtain ⟨k, b⟩ := c
    by_cases hk : k = a
    · subst hk; simp [kfind, ih, h.symm]
    · simp [hk, kfind, ih]

/-- The byte written is the byte read. -/
theorem byteAt_memPut_self (s : State) (a : Nat) (b : Byte) : ({ s with mem := memPut s.mem a b } : State).byteAt a = some b := by
  by_cases h : unlisted a = some b
  · simp [State.byteAt, memPut, h, kfind_filter_self]
  · simp [State.byteAt, memPut, h, kfind_kinsert_self]

/-- A write of one byte leaves every other byte alone. -/
theorem byteAt_memPut_ne (s : State) {a x : Nat} (b : Byte) (h : x ≠ a) :
    ({ s with mem := memPut s.mem a b } : State).byteAt x = s.byteAt x := by
  by_cases hu : unlisted a = some b
  · simp [State.byteAt, memPut, hu, kfind_filter_ne s.mem h]
  · simp [State.byteAt, memPut, hu, kfind_kinsert_ne b s.mem h]

theorem mem_kinsert {k : Nat} {v : Byte} {l : List Host.Cell} {c : Host.Cell} (h : c ∈ kinsert k v l) : c = (k, v) ∨ c ∈ l := by
  induction l with
  | nil => simpa [kinsert] using h
  | cons x t ih =>
    obtain ⟨a, w⟩ := x
    unfold kinsert at h
    by_cases h1 : a = k
    · simp only [h1, if_true, List.mem_cons] at h
      rcases h with h | h
      · exact .inl h
      · exact .inr (List.mem_cons_of_mem _ h)
    · by_cases h2 : k < a
      · simp only [h1, h2, if_true, if_false, List.mem_cons] at h
        rcases h with h | h
        · exact .inl h
        · exact .inr (List.mem_cons.mpr h)
      · simp only [h1, h2, if_false, List.mem_cons] at h
        rcases h with h | h
        · exact .inr (by simp [h])
        · rcases ih h with h | h
          · exact .inl h
          · exact .inr (List.mem_cons_of_mem _ h)

/-- Writing a byte keeps the canonical form of memory. -/
theorem memPut_wf (m : List Host.Cell) (a : Nat) (b : Byte) (h : Memory.wf m = true) : Memory.wf (memPut m a b) = true := by
  simp only [Memory.wf, Bool.and_eq_true, List.all_eq_true] at h ⊢
  unfold memPut
  split
  · exact ⟨kwf_filter _ _ h.1, fun c hc => h.2 c (List.mem_of_mem_filter hc)⟩
  · rename_i hu
    refine ⟨kwf_kinsert a b m h.1, fun c hc => ?_⟩
    rcases mem_kinsert hc with rfl | hc
    · simpa using hu
    · exact h.2 c hc

/-- Writing a list of bytes keeps the canonical form. -/
theorem memPut_fold_wf {ι : Type} (l : List ι) (f : ι → Nat) (g : ι → Byte) (m : List Host.Cell) (h : Memory.wf m = true) :
    Memory.wf (l.foldl (fun m i => memPut m (f i) (g i)) m) = true := by
  induction l generalizing m with
  | nil => exact h
  | cons x t ih => exact ih _ (memPut_wf m _ _ h)

/-- Storing a word keeps the canonical form. -/
theorem putRaw_wf (s : State) (wa : Nat) (c : ChWord) (h : Memory.wf s.mem = true) : Memory.wf (s.putRaw wa c).mem = true :=
  memPut_fold_wf _ _ _ _ h

theorem chanPut_wf (s : State) (k wa : Nat) (c : ChWord) (h : Memory.wf s.mem = true) :
    Memory.wf (s.chanPut k wa c).mem = true := by
  unfold State.chanPut
  split
  · exact putRaw_wf _ wa _ h
  · exact putRaw_wf _ wa _ h

/-- Taking bytes out keeps the canonical form. -/
theorem memory_filter_wf (p : Host.Cell → Bool) (m : List Host.Cell) (h : Memory.wf m = true) : Memory.wf (m.filter p) = true := by
  simp only [Memory.wf, Bool.and_eq_true, List.all_eq_true] at h ⊢
  exact ⟨kwf_filter p m h.1, fun c hc => h.2 c (List.mem_of_mem_filter hc)⟩

/-- Memory after reset is in canonical form. -/
theorem reset_memory_wf : Memory.wf State.reset.mem = true := rfl

/-- Storing a word leaves every byte outside it alone. -/
theorem byteAt_putRaw_ne (s : State) (wa : Nat) (c : ChWord) {x : Nat} (h : x / 8 ≠ wa) :
    (s.putRaw wa c).byteAt x = s.byteAt x := by
  have key : ∀ (l : List Nat) (m : List Host.Cell), (∀ i ∈ l, i < 8) →
      ({ s with mem := l.foldl (fun m i => memPut m (wa * 8 + i) (wordByte (cwData c) i)) m } : State).byteAt x =
        ({ s with mem := m } : State).byteAt x := by
    intro l
    induction l with
    | nil => intro m _; rfl
    | cons i t ih =>
      intro m hl
      rw [List.foldl_cons, ih _ (fun j hj => hl j (List.mem_cons_of_mem _ hj))]
      exact byteAt_memPut_ne { s with mem := m } _ (by have := hl i (by simp); omega)
  have := key (List.range 8) s.mem (fun i hi => List.mem_range.mp hi)
  simpa [State.putRaw, State.byteAt] using this

end Sys2Proof.Machine
end

