-- ==== Sys2Proof/Laws/PerInstr.lean ====
section
/-! SUPPORT. Of every instruction: no core instruction's word has one of the major opcodes that are permanently undefined
(03 R75), so an all-zero or all-one word is no instruction; a command that is no core instruction has no word. -/
namespace Sys2Proof.Laws.Coded

/-- The word of an instruction, where it has one, has neither major opcode 0x00 nor 0x3F (03 R75). -/
def Statement (i : Instr) : Prop := ∀ w, encode i = some w → fOpc w ≠ 0x00 ∧ fOpc w ≠ 0x3F

/-- A command without a word. -/
theorem statement_none {i : Instr} (h : encode i = none) : Statement i := by
  intro w hw; rw [h] at hw; cases hw

/-- An instruction whose word has a major opcode that is not one of the two. -/
theorem statement_some {i : Instr} {w : BitVec 32} (opc : BitVec 6) (h : encode i = some w) (ho : fOpc w = opc)
    (h0 : opc ≠ 0x00) (h1 : opc ≠ 0x3F) : Statement i := by
  intro v hv; rw [h] at hv; cases hv; rw [ho]; exact ⟨h0, h1⟩

theorem fOpc_wRRR (opc : BitVec 6) (f : BitVec 7) (o : RRR) : fOpc (wRRR opc f o) = opc := by
  show BitVec.extractLsb' (n := 3 + 1 + 6 + 5 + 5 + 5 + 7) 22 6 (o.pred ++ BitVec.ofBool o.pn ++ opc ++ o.d ++ o.s1 ++ o.s2 ++ f) = _
  apply BitVec.eq_of_getLsbD_eq; intro i hi
  have : i = 0 ∨ i = 1 ∨ i = 2 ∨ i = 3 ∨ i = 4 ∨ i = 5 := by omega
  simp only [BitVec.getLsbD_extractLsb', BitVec.getLsbD_append]
  rcases this with rfl | rfl | rfl | rfl | rfl | rfl <;> simp
theorem fOpc_wRRRF (opc : BitVec 6) (o : RRRF) : fOpc (wRRRF opc o) = opc := by
  show BitVec.extractLsb' (n := 3 + 1 + 6 + 5 + 5 + 5 + 7) 22 6 (o.pred ++ BitVec.ofBool o.pn ++ opc ++ o.d ++ o.s1 ++ o.s2 ++ o.f) = _
  apply BitVec.eq_of_getLsbD_eq; intro i hi
  have : i = 0 ∨ i = 1 ∨ i = 2 ∨ i = 3 ∨ i = 4 ∨ i = 5 := by omega
  simp only [BitVec.getLsbD_extractLsb', BitVec.getLsbD_append]
  rcases this with rfl | rfl | rfl | rfl | rfl | rfl <;> simp
theorem fOpc_wAtom (op : BitVec 4) (o : AtomF) : fOpc (wAtom op o) = 0x1E := by
  show BitVec.extractLsb' (n := 3 + 1 + 6 + 5 + 5 + 5 + 2 + 1 + 4) 22 6 (o.pred ++ BitVec.ofBool o.pn ++ (0x1E : BitVec 6) ++ o.d ++ o.s1 ++ o.s2 ++ o.place ++ BitVec.ofBool o.dbl ++ op) = _
  apply BitVec.eq_of_getLsbD_eq; intro i hi
  have : i = 0 ∨ i = 1 ∨ i = 2 ∨ i = 3 ∨ i = 4 ∨ i = 5 := by omega
  simp only [BitVec.getLsbD_extractLsb', BitVec.getLsbD_append]
  rcases this with rfl | rfl | rfl | rfl | rfl | rfl <;> simp
theorem fOpc_wRRI (opc : BitVec 6) (o : RRI) : fOpc (wRRI opc o) = opc := by
  show BitVec.extractLsb' (n := 3 + 1 + 6 + 5 + 5 + 12) 22 6 (o.pred ++ BitVec.ofBool o.pn ++ opc ++ o.d ++ o.s ++ o.imm) = _
  apply BitVec.eq_of_getLsbD_eq; intro i hi
  have : i = 0 ∨ i = 1 ∨ i = 2 ∨ i = 3 ∨ i = 4 ∨ i = 5 := by omega
  simp only [BitVec.getLsbD_extractLsb', BitVec.getLsbD_append]
  rcases this with rfl | rfl | rfl | rfl | rfl | rfl <;> simp
theorem fOpc_wShi (k : BitVec 2) (o : ShiF) : fOpc (wShi k o) = 0x06 := by
  show BitVec.extractLsb' (n := 3 + 1 + 6 + 5 + 5 + 4 + 2 + 6) 22 6 (o.pred ++ BitVec.ofBool o.pn ++ (0x06 : BitVec 6) ++ o.d ++ o.s ++ o.hi ++ k ++ o.sh) = _
  apply BitVec.eq_of_getLsbD_eq; intro i hi
  have : i = 0 ∨ i = 1 ∨ i = 2 ∨ i = 3 ∨ i = 4 ∨ i = 5 := by omega
  simp only [BitVec.getLsbD_extractLsb', BitVec.getLsbD_append]
  rcases this with rfl | rfl | rfl | rfl | rfl | rfl <;> simp
theorem fOpc_wB (opc : BitVec 6) (o : BF) : fOpc (wB opc o) = opc := by
  show BitVec.extractLsb' (n := 3 + 1 + 6 + 1 + 21) 22 6 (o.pred ++ BitVec.ofBool o.pn ++ opc ++ BitVec.ofBool o.h ++ o.disp) = _
  apply BitVec.eq_of_getLsbD_eq; intro i hi
  have : i = 0 ∨ i = 1 ∨ i = 2 ∨ i = 3 ∨ i = 4 ∨ i = 5 := by omega
  simp only [BitVec.getLsbD_extractLsb', BitVec.getLsbD_append]
  rcases this with rfl | rfl | rfl | rfl | rfl | rfl <;> simp
theorem fOpc_wLI (opc : BitVec 6) (o : LIF) : fOpc (wLI opc o) = opc := by
  show BitVec.extractLsb' (n := 3 + 1 + 6 + 5 + 17) 22 6 (o.pred ++ BitVec.ofBool o.pn ++ opc ++ o.d ++ o.imm) = _
  apply BitVec.eq_of_getLsbD_eq; intro i hi
  have : i = 0 ∨ i = 1 ∨ i = 2 ∨ i = 3 ∨ i = 4 ∨ i = 5 := by omega
  simp only [BitVec.getLsbD_extractLsb', BitVec.getLsbD_append]
  rcases this with rfl | rfl | rfl | rfl | rfl | rfl <;> simp
theorem fOpc_wV (opc : BitVec 6) (op : BitVec 3) (o : VF) : fOpc (wV opc op o) = opc := by
  show BitVec.extractLsb' (n := 3 + 1 + 6 + 5 + 5 + 5 + 1 + 3 + 3) 22 6 (o.pred ++ BitVec.ofBool o.pn ++ opc ++ o.vd ++ o.vs1 ++ o.vs2 ++ BitVec.ofBool o.sz ++ o.rm ++ op) = _
  apply BitVec.eq_of_getLsbD_eq; intro i hi
  have : i = 0 ∨ i = 1 ∨ i = 2 ∨ i = 3 ∨ i = 4 ∨ i = 5 := by omega
  simp only [BitVec.getLsbD_extractLsb', BitVec.getLsbD_append]
  rcases this with rfl | rfl | rfl | rfl | rfl | rfl <;> simp
theorem fOpc_wAcc (op : BitVec 6) (o : AccF) : fOpc (wAcc op o) = 0x2A := by
  show BitVec.extractLsb' (n := 3 + 1 + 6 + 5 + 5 + 5 + 1 + 6) 22 6 (o.pred ++ BitVec.ofBool o.pn ++ (0x2A : BitVec 6) ++ o.d ++ o.s1 ++ o.s2 ++ BitVec.ofBool o.sz ++ op) = _
  apply BitVec.eq_of_getLsbD_eq; intro i hi
  have : i = 0 ∨ i = 1 ∨ i = 2 ∨ i = 3 ∨ i = 4 ∨ i = 5 := by omega
  simp only [BitVec.getLsbD_extractLsb', BitVec.getLsbD_append]
  rcases this with rfl | rfl | rfl | rfl | rfl | rfl <;> simp

theorem registerWrite (i : Init) (off width : Nat) (data : Word) : Statement (.registerWrite i off width data) := statement_none rfl
theorem swarmAccess (i : Init) (off width : Nat) (write : Bool) (data : Word) : Statement (.swarmAccess i off width write data) := statement_none rfl
theorem swarmHoldRelease : Statement (.swarmHoldRelease) := statement_none rfl
theorem siteCodeSample (site : SiteNo) (raw : BitVec 16) : Statement (.siteCodeSample site raw) := statement_none rfl
theorem tickEdge : Statement (.tickEdge) := statement_none rfl
theorem tickStrobeArrival (block : Nat) : Statement (.tickStrobeArrival block) := statement_none rfl
theorem eventCrossing (dom : Fin 6) : Statement (.eventCrossing dom) := statement_none rfl
theorem tckRun : Statement (.tckRun) := statement_none rfl
theorem tckPeriodWrite (data : BitVec 32) : Statement (.tckPeriodWrite data) := statement_none rfl
theorem scheduleCheckDone : Statement (.scheduleCheckDone) := statement_none rfl
theorem tckRateWrite (data : BitVec 32) : Statement (.tckRateWrite data) := statement_none rfl
theorem tckTimeNsRead (i : Init) (off width : Nat) : Statement (.tckTimeNsRead i off width) := statement_none rfl
theorem negativeStepAbsorbed : Statement (.negativeStepAbsorbed) := statement_none rfl
theorem tickInEdge : Statement (.tickInEdge) := statement_none rfl
theorem tickInLockLoss : Statement (.tickInLockLoss) := statement_none rfl
theorem tickOutSecondPulse : Statement (.tickOutSecondPulse) := statement_none rfl
theorem tickOutPulseEnd : Statement (.tickOutPulseEnd) := statement_none rfl
theorem add (o : RRR) : Statement (.add o) := statement_some 0x01 rfl (fOpc_wRRR _ _ _) (by decide) (by decide)
theorem sub (o : RRR) : Statement (.sub o) := statement_some 0x01 rfl (fOpc_wRRR _ _ _) (by decide) (by decide)
theorem and (o : RRR) : Statement (.and o) := statement_some 0x01 rfl (fOpc_wRRR _ _ _) (by decide) (by decide)
theorem or (o : RRR) : Statement (.or o) := statement_some 0x01 rfl (fOpc_wRRR _ _ _) (by decide) (by decide)
theorem xor (o : RRR) : Statement (.xor o) := statement_some 0x01 rfl (fOpc_wRRR _ _ _) (by decide) (by decide)
theorem andn (o : RRR) : Statement (.andn o) := statement_some 0x01 rfl (fOpc_wRRR _ _ _) (by decide) (by decide)
theorem sll (o : RRR) : Statement (.sll o) := statement_some 0x01 rfl (fOpc_wRRR _ _ _) (by decide) (by decide)
theorem srl (o : RRR) : Statement (.srl o) := statement_some 0x01 rfl (fOpc_wRRR _ _ _) (by decide) (by decide)
theorem sra (o : RRR) : Statement (.sra o) := statement_some 0x01 rfl (fOpc_wRRR _ _ _) (by decide) (by decide)
theorem ror (o : RRR) : Statement (.ror o) := statement_some 0x01 rfl (fOpc_wRRR _ _ _) (by decide) (by decide)
theorem min (o : RRR) : Statement (.min o) := statement_some 0x01 rfl (fOpc_wRRR _ _ _) (by decide) (by decide)
theorem max (o : RRR) : Statement (.max o) := statement_some 0x01 rfl (fOpc_wRRR _ _ _) (by decide) (by decide)
theorem minu (o : RRR) : Statement (.minu o) := statement_some 0x01 rfl (fOpc_wRRR _ _ _) (by decide) (by decide)
theorem maxu (o : RRR) : Statement (.maxu o) := statement_some 0x01 rfl (fOpc_wRRR _ _ _) (by decide) (by decide)
theorem addw (o : RRR) : Statement (.addw o) := statement_some 0x01 rfl (fOpc_wRRR _ _ _) (by decide) (by decide)
theorem subw (o : RRR) : Statement (.subw o) := statement_some 0x01 rfl (fOpc_wRRR _ _ _) (by decide) (by decide)
theorem mul (o : RRR) : Statement (.mul o) := statement_some 0x01 rfl (fOpc_wRRR _ _ _) (by decide) (by decide)
theorem mulh (o : RRR) : Statement (.mulh o) := statement_some 0x01 rfl (fOpc_wRRR _ _ _) (by decide) (by decide)
theorem mulhu (o : RRR) : Statement (.mulhu o) := statement_some 0x01 rfl (fOpc_wRRR _ _ _) (by decide) (by decide)
theorem div (o : RRR) : Statement (.div o) := statement_some 0x01 rfl (fOpc_wRRR _ _ _) (by decide) (by decide)
theorem divu (o : RRR) : Statement (.divu o) := statement_some 0x01 rfl (fOpc_wRRR _ _ _) (by decide) (by decide)
theorem rem (o : RRR) : Statement (.rem o) := statement_some 0x01 rfl (fOpc_wRRR _ _ _) (by decide) (by decide)
theorem remu (o : RRR) : Statement (.remu o) := statement_some 0x01 rfl (fOpc_wRRR _ _ _) (by decide) (by decide)
theorem clz (o : RRR) : Statement (.clz o) := statement_some 0x01 rfl (fOpc_wRRR _ _ _) (by decide) (by decide)
theorem ctz (o : RRR) : Statement (.ctz o) := statement_some 0x01 rfl (fOpc_wRRR _ _ _) (by decide) (by decide)
theorem popc (o : RRR) : Statement (.popc o) := statement_some 0x01 rfl (fOpc_wRRR _ _ _) (by decide) (by decide)
theorem bswap (o : RRR) : Statement (.bswap o) := statement_some 0x01 rfl (fOpc_wRRR _ _ _) (by decide) (by decide)
theorem sextb (o : RRR) : Statement (.sextb o) := statement_some 0x01 rfl (fOpc_wRRR _ _ _) (by decide) (by decide)
theorem sexth (o : RRR) : Statement (.sexth o) := statement_some 0x01 rfl (fOpc_wRRR _ _ _) (by decide) (by decide)
theorem sextw (o : RRR) : Statement (.sextw o) := statement_some 0x01 rfl (fOpc_wRRR _ _ _) (by decide) (by decide)
theorem zextw (o : RRR) : Statement (.zextw o) := statement_some 0x01 rfl (fOpc_wRRR _ _ _) (by decide) (by decide)
theorem addi (o : RRI) : Statement (.addi o) := statement_some 0x02 rfl (fOpc_wRRI _ _) (by decide) (by decide)
theorem andi (o : RRI) : Statement (.andi o) := statement_some 0x03 rfl (fOpc_wRRI _ _) (by decide) (by decide)
theorem ori (o : RRI) : Statement (.ori o) := statement_some 0x04 rfl (fOpc_wRRI _ _) (by decide) (by decide)
theorem xori (o : RRI) : Statement (.xori o) := statement_some 0x05 rfl (fOpc_wRRI _ _) (by decide) (by decide)
theorem shiSll (o : ShiF) : Statement (.shiSll o) := statement_some 0x06 rfl (fOpc_wShi _ _) (by decide) (by decide)
theorem shiSrl (o : ShiF) : Statement (.shiSrl o) := statement_some 0x06 rfl (fOpc_wShi _ _) (by decide) (by decide)
theorem shiSra (o : ShiF) : Statement (.shiSra o) := statement_some 0x06 rfl (fOpc_wShi _ _) (by decide) (by decide)
theorem shiRor (o : ShiF) : Statement (.shiRor o) := statement_some 0x06 rfl (fOpc_wShi _ _) (by decide) (by decide)
theorem cmp (o : RRRF) : Statement (.cmp o) := statement_some 0x0C rfl (fOpc_wRRRF _ _) (by decide) (by decide)
theorem cmpi (o : RRI) : Statement (.cmpi o) := statement_some 0x07 rfl (fOpc_wRRI _ _) (by decide) (by decide)
theorem cmpiu (o : RRI) : Statement (.cmpiu o) := statement_some 0x08 rfl (fOpc_wRRI _ _) (by decide) (by decide)
theorem li (o : LIF) : Statement (.li o) := statement_some 0x09 rfl (fOpc_wLI _ _) (by decide) (by decide)
theorem lsi (o : LIF) : Statement (.lsi o) := statement_some 0x0A rfl (fOpc_wLI _ _) (by decide) (by decide)
theorem addpc (o : LIF) : Statement (.addpc o) := statement_some 0x0B rfl (fOpc_wLI _ _) (by decide) (by decide)
theorem pand (o : RRR) : Statement (.pand o) := statement_some 0x0D rfl (fOpc_wRRR _ _ _) (by decide) (by decide)
theorem por (o : RRR) : Statement (.por o) := statement_some 0x0D rfl (fOpc_wRRR _ _ _) (by decide) (by decide)
theorem pxor (o : RRR) : Statement (.pxor o) := statement_some 0x0D rfl (fOpc_wRRR _ _ _) (by decide) (by decide)
theorem pandn (o : RRR) : Statement (.pandn o) := statement_some 0x0D rfl (fOpc_wRRR _ _ _) (by decide) (by decide)
theorem porn (o : RRR) : Statement (.porn o) := statement_some 0x0D rfl (fOpc_wRRR _ _ _) (by decide) (by decide)
theorem pnot (o : RRR) : Statement (.pnot o) := statement_some 0x0D rfl (fOpc_wRRR _ _ _) (by decide) (by decide)
theorem mfp (o : RRR) : Statement (.mfp o) := statement_some 0x0D rfl (fOpc_wRRR _ _ _) (by decide) (by decide)
theorem mtp (o : RRR) : Statement (.mtp o) := statement_some 0x0D rfl (fOpc_wRRR _ _ _) (by decide) (by decide)
theorem ldb (o : RRI) : Statement (.ldb o) := statement_some 0x10 rfl (fOpc_wRRI _ _) (by decide) (by decide)
theorem ldbs (o : RRI) : Statement (.ldbs o) := statement_some 0x11 rfl (fOpc_wRRI _ _) (by decide) (by decide)
theorem ldh (o : RRI) : Statement (.ldh o) := statement_some 0x12 rfl (fOpc_wRRI _ _) (by decide) (by decide)
theorem ldhs (o : RRI) : Statement (.ldhs o) := statement_some 0x13 rfl (fOpc_wRRI _ _) (by decide) (by decide)
theorem ldw (o : RRI) : Statement (.ldw o) := statement_some 0x14 rfl (fOpc_wRRI _ _) (by decide) (by decide)
theorem ldws (o : RRI) : Statement (.ldws o) := statement_some 0x15 rfl (fOpc_wRRI _ _) (by decide) (by decide)
theorem ldd (o : RRI) : Statement (.ldd o) := statement_some 0x16 rfl (fOpc_wRRI _ _) (by decide) (by decide)
theorem stb (o : RRI) : Statement (.stb o) := statement_some 0x18 rfl (fOpc_wRRI _ _) (by decide) (by decide)
theorem sth (o : RRI) : Statement (.sth o) := statement_some 0x19 rfl (fOpc_wRRI _ _) (by decide) (by decide)
theorem stw (o : RRI) : Statement (.stw o) := statement_some 0x1A rfl (fOpc_wRRI _ _) (by decide) (by decide)
theorem std (o : RRI) : Statement (.std o) := statement_some 0x1B rfl (fOpc_wRRI _ _) (by decide) (by decide)
theorem ldx (o : RRRF) : Statement (.ldx o) := statement_some 0x1C rfl (fOpc_wRRRF _ _) (by decide) (by decide)
theorem stx (o : RRRF) : Statement (.stx o) := statement_some 0x1D rfl (fOpc_wRRRF _ _) (by decide) (by decide)
theorem atomSwap (o : AtomF) : Statement (.atomSwap o) := statement_some 0x1E rfl (fOpc_wAtom _ _) (by decide) (by decide)
theorem atomAdd (o : AtomF) : Statement (.atomAdd o) := statement_some 0x1E rfl (fOpc_wAtom _ _) (by decide) (by decide)
theorem atomAnd (o : AtomF) : Statement (.atomAnd o) := statement_some 0x1E rfl (fOpc_wAtom _ _) (by decide) (by decide)
theorem atomOr (o : AtomF) : Statement (.atomOr o) := statement_some 0x1E rfl (fOpc_wAtom _ _) (by decide) (by decide)
theorem atomXor (o : AtomF) : Statement (.atomXor o) := statement_some 0x1E rfl (fOpc_wAtom _ _) (by decide) (by decide)
theorem atomSmin (o : AtomF) : Statement (.atomSmin o) := statement_some 0x1E rfl (fOpc_wAtom _ _) (by decide) (by decide)
theorem atomSmax (o : AtomF) : Statement (.atomSmax o) := statement_some 0x1E rfl (fOpc_wAtom _ _) (by decide) (by decide)
theorem atomUmin (o : AtomF) : Statement (.atomUmin o) := statement_some 0x1E rfl (fOpc_wAtom _ _) (by decide) (by decide)
theorem atomUmax (o : AtomF) : Statement (.atomUmax o) := statement_some 0x1E rfl (fOpc_wAtom _ _) (by decide) (by decide)
theorem atomCas (o : AtomF) : Statement (.atomCas o) := statement_some 0x1E rfl (fOpc_wAtom _ _) (by decide) (by decide)
theorem br (o : BF) : Statement (.br o) := statement_some 0x30 rfl (fOpc_wB _ _) (by decide) (by decide)
theorem call (o : BF) : Statement (.call o) := statement_some 0x31 rfl (fOpc_wB _ _) (by decide) (by decide)
theorem jr (o : RRR) : Statement (.jr o) := statement_some 0x32 rfl (fOpc_wRRR _ _ _) (by decide) (by decide)
theorem ret (o : RRR) : Statement (.ret o) := statement_some 0x32 rfl (fOpc_wRRR _ _ _) (by decide) (by decide)
theorem jalr (o : RRR) : Statement (.jalr o) := statement_some 0x33 rfl (fOpc_wRRR _ _ _) (by decide) (by decide)
theorem nop (o : RRR) : Statement (.nop o) := statement_some 0x38 rfl (fOpc_wRRR _ _ _) (by decide) (by decide)
theorem syscall (o : RRR) : Statement (.syscall o) := statement_some 0x38 rfl (fOpc_wRRR _ _ _) (by decide) (by decide)
theorem hcall (o : RRR) : Statement (.hcall o) := statement_some 0x38 rfl (fOpc_wRRR _ _ _) (by decide) (by decide)
theorem mcall (o : McallF) : Statement (.mcall o) := statement_some 0x38 rfl (fOpc_wRRR _ _ _) (by decide) (by decide)
theorem brk (o : RRR) : Statement (.brk o) := statement_some 0x38 rfl (fOpc_wRRR _ _ _) (by decide) (by decide)
theorem eret (o : RRR) : Statement (.eret o) := statement_some 0x38 rfl (fOpc_wRRR _ _ _) (by decide) (by decide)
theorem wfi (o : RRR) : Statement (.wfi o) := statement_some 0x38 rfl (fOpc_wRRR _ _ _) (by decide) (by decide)
theorem wfiWake (core : CoreNo) : Statement (.wfiWake core) := statement_none rfl
theorem fence (o : RRR) : Statement (.fence o) := statement_some 0x38 rfl (fOpc_wRRR _ _ _) (by decide) (by decide)
theorem fenceG (o : RRR) : Statement (.fenceG o) := statement_some 0x38 rfl (fOpc_wRRR _ _ _) (by decide) (by decide)
theorem isync (o : RRR) : Statement (.isync o) := statement_some 0x38 rfl (fOpc_wRRR _ _ _) (by decide) (by decide)
theorem gcall (o : RRR) : Statement (.gcall o) := statement_some 0x38 rfl (fOpc_wRRR _ _ _) (by decide) (by decide)
theorem gret (o : RRR) : Statement (.gret o) := statement_some 0x38 rfl (fOpc_wRRR _ _ _) (by decide) (by decide)
theorem tlbiVa (o : RRR) : Statement (.tlbiVa o) := statement_some 0x38 rfl (fOpc_wRRR _ _ _) (by decide) (by decide)
theorem tlbiAs (o : RRR) : Statement (.tlbiAs o) := statement_some 0x38 rfl (fOpc_wRRR _ _ _) (by decide) (by decide)
theorem tlbiAll (o : RRR) : Statement (.tlbiAll o) := statement_some 0x38 rfl (fOpc_wRRR _ _ _) (by decide) (by decide)
theorem tlbiS2 (o : RRR) : Statement (.tlbiS2 o) := statement_some 0x38 rfl (fOpc_wRRR _ _ _) (by decide) (by decide)
theorem tlbsync (o : RRR) : Statement (.tlbsync o) := statement_some 0x38 rfl (fOpc_wRRR _ _ _) (by decide) (by decide)
theorem tlbiReceive (id : Nat) (target : Fin 217) : Statement (.tlbiReceive id target) := statement_none rfl
theorem tlbiAck (id : Nat) (target : Fin 217) : Statement (.tlbiAck id target) := statement_none rfl
theorem tlbsyncTimeout (core : CoreNo) : Statement (.tlbsyncTimeout core) := statement_none rfl
theorem mfc (o : RRI) : Statement (.mfc o) := statement_some 0x39 rfl (fOpc_wRRI _ _) (by decide) (by decide)
theorem mtc (o : RRI) : Statement (.mtc o) := statement_some 0x3A rfl (fOpc_wRRI _ _) (by decide) (by decide)
theorem cacheopCleaninv (o : RRI) : Statement (.cacheopCleaninv o) := statement_some 0x3A rfl (fOpc_wRRI _ _) (by decide) (by decide)
theorem cleaninvDone (core : CoreNo) : Statement (.cleaninvDone core) := statement_none rfl
theorem cacheopInvl1i (o : RRI) : Statement (.cacheopInvl1i o) := statement_some 0x3A rfl (fOpc_wRRI _ _) (by decide) (by decide)
theorem cacheEnableChange (o : RRI) : Statement (.cacheEnableChange o) := statement_some 0x3A rfl (fOpc_wRRI _ _) (by decide) (by decide)
theorem accstWrite (o : RRI) : Statement (.accstWrite o) := statement_some 0x3A rfl (fOpc_wRRI _ _) (by decide) (by decide)
theorem prinvItt (o : RRI) : Statement (.prinvItt o) := statement_some 0x3A rfl (fOpc_wRRI _ _) (by decide) (by decide)
theorem prinvRs (o : RRI) : Statement (.prinvRs o) := statement_some 0x3A rfl (fOpc_wRRI _ _) (by decide) (by decide)
theorem ieoi (o : RRI) : Statement (.ieoi o) := statement_some 0x3A rfl (fOpc_wRRI _ _) (by decide) (by decide)
theorem lflush (o : RRR) : Statement (.lflush o) := statement_some 0x3B rfl (fOpc_wRRR _ _ _) (by decide) (by decide)
theorem lclean (o : RRR) : Statement (.lclean o) := statement_some 0x3B rfl (fOpc_wRRR _ _ _) (by decide) (by decide)
theorem ldrop (o : RRR) : Statement (.ldrop o) := statement_some 0x3B rfl (fOpc_wRRR _ _ _) (by decide) (by decide)
theorem lzero (o : RRR) : Statement (.lzero o) := statement_some 0x3B rfl (fOpc_wRRR _ _ _) (by decide) (by decide)
theorem idrop (o : RRR) : Statement (.idrop o) := statement_some 0x3B rfl (fOpc_wRRR _ _ _) (by decide) (by decide)
theorem idropall (o : RRR) : Statement (.idropall o) := statement_some 0x3B rfl (fOpc_wRRR _ _ _) (by decide) (by decide)
theorem swflush (o : RRR) : Statement (.swflush o) := statement_some 0x3B rfl (fOpc_wRRR _ _ _) (by decide) (by decide)
theorem prefetchR (o : RRR) : Statement (.prefetchR o) := statement_some 0x3B rfl (fOpc_wRRR _ _ _) (by decide) (by decide)
theorem prefetchW (o : RRR) : Statement (.prefetchW o) := statement_some 0x3B rfl (fOpc_wRRR _ _ _) (by decide) (by decide)
theorem hwPrefetch (core : CoreNo) (va : Word) (level2 : Bool) : Statement (.hwPrefetch core va level2) := statement_none rfl
theorem storeStatusReturn (core : CoreNo) : Statement (.storeStatusReturn core) := statement_none rfl
theorem deferredBuserr (core : CoreNo) : Statement (.deferredBuserr core) := statement_none rfl
theorem singleStepTrap (core : CoreNo) : Statement (.singleStepTrap core) := statement_none rfl
theorem interruptTaken (core : CoreNo) : Statement (.interruptTaken core) := statement_none rfl
theorem gatePreempt (core : CoreNo) : Statement (.gatePreempt core) := statement_none rfl
theorem coreRelease (core : CoreNo) : Statement (.coreRelease core) := statement_none rfl
theorem haltreq (core : CoreNo) : Statement (.haltreq core) := statement_none rfl
theorem debugHalt (core : CoreNo) : Statement (.debugHalt core) := statement_none rfl
theorem resume (core : CoreNo) : Statement (.resume core) := statement_none rfl
theorem creset (core : CoreNo) : Statement (.creset core) := statement_none rfl
theorem coreResetDone (core : CoreNo) : Statement (.coreResetDone core) := statement_none rfl
theorem cDbginst (core : CoreNo) (insn : BitVec 32) : Statement (.cDbginst core insn) := statement_none rfl
theorem fadd (o : VF) : Statement (.fadd o) := statement_some 0x20 rfl (fOpc_wV _ _ _) (by decide) (by decide)
theorem fsub (o : VF) : Statement (.fsub o) := statement_some 0x20 rfl (fOpc_wV _ _ _) (by decide) (by decide)
theorem fmul (o : VF) : Statement (.fmul o) := statement_some 0x20 rfl (fOpc_wV _ _ _) (by decide) (by decide)
theorem fdiv (o : VF) : Statement (.fdiv o) := statement_some 0x20 rfl (fOpc_wV _ _ _) (by decide) (by decide)
theorem fmin (o : VF) : Statement (.fmin o) := statement_some 0x20 rfl (fOpc_wV _ _ _) (by decide) (by decide)
theorem fmax (o : VF) : Statement (.fmax o) := statement_some 0x20 rfl (fOpc_wV _ _ _) (by decide) (by decide)
theorem fsqrt (o : VF) : Statement (.fsqrt o) := statement_some 0x20 rfl (fOpc_wV _ _ _) (by decide) (by decide)
theorem frint (o : VF) : Statement (.frint o) := statement_some 0x20 rfl (fOpc_wV _ _ _) (by decide) (by decide)
theorem fma (o : VF) : Statement (.fma o) := statement_some 0x21 rfl (fOpc_wV _ _ _) (by decide) (by decide)
theorem fms (o : VF) : Statement (.fms o) := statement_some 0x21 rfl (fOpc_wV _ _ _) (by decide) (by decide)
theorem fnma (o : VF) : Statement (.fnma o) := statement_some 0x21 rfl (fOpc_wV _ _ _) (by decide) (by decide)
theorem fnms (o : VF) : Statement (.fnms o) := statement_some 0x21 rfl (fOpc_wV _ _ _) (by decide) (by decide)
theorem feq (o : VF) : Statement (.feq o) := statement_some 0x22 rfl (fOpc_wV _ _ _) (by decide) (by decide)
theorem flt (o : VF) : Statement (.flt o) := statement_some 0x22 rfl (fOpc_wV _ _ _) (by decide) (by decide)
theorem fle (o : VF) : Statement (.fle o) := statement_some 0x22 rfl (fOpc_wV _ _ _) (by decide) (by decide)
theorem funord (o : VF) : Statement (.funord o) := statement_some 0x22 rfl (fOpc_wV _ _ _) (by decide) (by decide)
theorem fne (o : VF) : Statement (.fne o) := statement_some 0x22 rfl (fOpc_wV _ _ _) (by decide) (by decide)
theorem vcvtNative (o : VF) : Statement (.vcvtNative o) := statement_some 0x23 rfl (fOpc_wV _ _ _) (by decide) (by decide)
theorem vcvtToSigned (o : VF) : Statement (.vcvtToSigned o) := statement_some 0x23 rfl (fOpc_wV _ _ _) (by decide) (by decide)
theorem vcvtToUnsigned (o : VF) : Statement (.vcvtToUnsigned o) := statement_some 0x23 rfl (fOpc_wV _ _ _) (by decide) (by decide)
theorem vcvtFromSigned (o : VF) : Statement (.vcvtFromSigned o) := statement_some 0x23 rfl (fOpc_wV _ _ _) (by decide) (by decide)
theorem vcvtFromUnsigned (o : VF) : Statement (.vcvtFromUnsigned o) := statement_some 0x23 rfl (fOpc_wV _ _ _) (by decide) (by decide)
theorem vmov (o : VF) : Statement (.vmov o) := statement_some 0x24 rfl (fOpc_wV _ _ _) (by decide) (by decide)
theorem vsel (o : VF) : Statement (.vsel o) := statement_some 0x24 rfl (fOpc_wV _ _ _) (by decide) (by decide)
theorem vbcast (o : VF) : Statement (.vbcast o) := statement_some 0x24 rfl (fOpc_wV _ _ _) (by decide) (by decide)
theorem vget (o : VF) : Statement (.vget o) := statement_some 0x24 rfl (fOpc_wV _ _ _) (by decide) (by decide)
theorem vneg (o : VF) : Statement (.vneg o) := statement_some 0x24 rfl (fOpc_wV _ _ _) (by decide) (by decide)
theorem vabs (o : VF) : Statement (.vabs o) := statement_some 0x24 rfl (fOpc_wV _ _ _) (by decide) (by decide)
theorem vzero (o : VF) : Statement (.vzero o) := statement_some 0x24 rfl (fOpc_wV _ _ _) (by decide) (by decide)
theorem vld (o : RRI) : Statement (.vld o) := statement_some 0x25 rfl (fOpc_wRRI _ _) (by decide) (by decide)
theorem vst (o : RRI) : Statement (.vst o) := statement_some 0x26 rfl (fOpc_wRRI _ _) (by decide) (by decide)
theorem vldf (o : RRRF) : Statement (.vldf o) := statement_some 0x27 rfl (fOpc_wRRRF _ _) (by decide) (by decide)
theorem vstf (o : RRRF) : Statement (.vstf o) := statement_some 0x28 rfl (fOpc_wRRRF _ _) (by decide) (by decide)
theorem asave (o : RRR) : Statement (.asave o) := statement_some 0x29 rfl (fOpc_wRRR _ _ _) (by decide) (by decide)
theorem aload (o : RRR) : Statement (.aload o) := statement_some 0x29 rfl (fOpc_wRRR _ _ _) (by decide) (by decide)
theorem aclr (o : AccF) : Statement (.aclr o) := statement_some 0x2A rfl (fOpc_wAcc _ _) (by decide) (by decide)
theorem aadd (o : AccF) : Statement (.aadd o) := statement_some 0x2A rfl (fOpc_wAcc _ _) (by decide) (by decide)
theorem asub (o : AccF) : Statement (.asub o) := statement_some 0x2A rfl (fOpc_wAcc _ _) (by decide) (by decide)
theorem adot (o : AccF) : Statement (.adot o) := statement_some 0x2A rfl (fOpc_wAcc _ _) (by decide) (by decide)
theorem adotn (o : AccF) : Statement (.adotn o) := statement_some 0x2A rfl (fOpc_wAcc _ _) (by decide) (by decide)
theorem amov (o : AccF) : Statement (.amov o) := statement_some 0x2A rfl (fOpc_wAcc _ _) (by decide) (by decide)
theorem aacc (o : AccF) : Statement (.aacc o) := statement_some 0x2A rfl (fOpc_wAcc _ _) (by decide) (by decide)
theorem asuba (o : AccF) : Statement (.asuba o) := statement_some 0x2A rfl (fOpc_wAcc _ _) (by decide) (by decide)
theorem aaddg (o : AccF) : Statement (.aaddg o) := statement_some 0x2A rfl (fOpc_wAcc _ _) (by decide) (by decide)
theorem ainfo (o : AccF) : Statement (.ainfo o) := statement_some 0x2A rfl (fOpc_wAcc _ _) (by decide) (by decide)
theorem apost (o : AccF) : Statement (.apost o) := statement_some 0x2A rfl (fOpc_wAcc _ _) (by decide) (by decide)
theorem arnd (o : RRRF) : Statement (.arnd o) := statement_some 0x2B rfl (fOpc_wRRRF _ _) (by decide) (by decide)
theorem contributionRecord (slot : SlotNo) (r : Record) (i : Init) (port : Bool) : Statement (.contributionRecord slot r i port) := statement_none rfl
theorem recordAdded (slot : SlotNo) : Statement (.recordAdded slot) := statement_none rfl
theorem portWrite (i : Init) (slot : SlotNo) (off width : Nat) (data : Word) : Statement (.portWrite i slot off width data) := statement_none rfl
theorem prlGrant (i : Init) (data : Word) : Statement (.prlGrant i data) := statement_none rfl
theorem grantCancel (tag : Fin 16) : Statement (.grantCancel tag) := statement_none rfl
theorem grantAck (tag : Fin 16) : Statement (.grantAck tag) := statement_none rfl
theorem slotSeal (slot : SlotNo) (i : Init) : Statement (.slotSeal slot i) := statement_none rfl
theorem slotClear (slot : SlotNo) (i : Init) : Statement (.slotClear slot i) := statement_none rfl
theorem slotRound (slot : SlotNo) (i : Init) (rm : BitVec 3) (tgt : BitVec 2) : Statement (.slotRound slot i rm tgt) := statement_none rfl
theorem roundResult (slot : SlotNo) : Statement (.roundResult slot) := statement_none rfl
theorem slotDump (slot : SlotNo) (i : Init) : Statement (.slotDump slot i) := statement_none rfl
theorem dumpDone (slot : SlotNo) : Statement (.dumpDone slot) := statement_none rfl
theorem slotRenew (slot : SlotNo) (i : Init) (lease : BitVec 16) : Statement (.slotRenew slot i lease) := statement_none rfl
theorem slotRelease (slot : SlotNo) (i : Init) : Statement (.slotRelease slot i) := statement_none rfl
theorem leaseExpiry : Statement (.leaseExpiry) := statement_none rfl
theorem slotWiped (slot : SlotNo) : Statement (.slotWiped slot) := statement_none rfl
theorem waiterGrant : Statement (.waiterGrant) := statement_none rfl
theorem dumpAbandon (slot : SlotNo) : Statement (.dumpAbandon slot) := statement_none rfl
theorem branchMispredict (core : CoreNo) : Statement (.branchMispredict core) := statement_none rfl
theorem cdaFlush (site : SiteNo) : Statement (.cdaFlush site) := statement_none rfl
theorem cdaFlushDone (site : SiteNo) : Statement (.cdaFlushDone site) := statement_none rfl
theorem atsTranslationRequest (t : Tlp) : Statement (.atsTranslationRequest t) := statement_none rfl
theorem transactionTimeout (node tag : Nat) : Statement (.transactionTimeout node tag) := statement_none rfl
theorem quarantineEnd (node tag : Nat) : Statement (.quarantineEnd node tag) := statement_none rfl
theorem lateReply (node tag : Nat) : Statement (.lateReply node tag) := statement_none rfl
theorem staleReply (node gen tag : Nat) : Statement (.staleReply node gen tag) := statement_none rfl
theorem fenceAnswer (dst src tag : Nat) (reply : Bool) : Statement (.fenceAnswer dst src tag reply) := statement_none rfl
theorem routeArm : Statement (.routeArm) := statement_none rfl
theorem routeDrained : Statement (.routeDrained) := statement_none rfl
theorem eslotStart (k : Fin 64) : Statement (.eslotStart k) := statement_none rfl
theorem flitReceive (p : PortRef) (f : FlitIn) : Statement (.flitReceive p f) := statement_none rfl
theorem nakReceive (p : PortRef) (ack : Nat) : Statement (.nakReceive p ack) := statement_none rfl
theorem controlFlitTimer (p : PortRef) : Statement (.controlFlitTimer p) := statement_none rfl
theorem retrainPatternDetect (p : PortRef) : Statement (.retrainPatternDetect p) := statement_none rfl
theorem trainingDone (site : SiteNo) (dir : Fin 4) (t : TrainInfo) : Statement (.trainingDone site dir t) := statement_none rfl
theorem trainingFail (site : SiteNo) (dir : Fin 4) : Statement (.trainingFail site dir) := statement_none rfl
theorem d2dPortEnable (p : PortRef) (en : Bool) : Statement (.d2dPortEnable p en) := statement_none rfl
theorem d2dRetrain (p : PortRef) : Statement (.d2dRetrain p) := statement_none rfl
theorem phyrst (p : PortRef) : Statement (.phyrst p) := statement_none rfl
theorem coreRequestAtCda (core : CoreNo) (op : Fin 6) (line : Nat) (sec : Bool) (slice : Nat) : Statement (.coreRequestAtCda core op line sec slice) := statement_none rfl
theorem cohRds (h : HomeNo) (r : CohReq) : Statement (.cohRds h r) := statement_none rfl
theorem cohRdo (h : HomeNo) (r : CohReq) : Statement (.cohRdo h r) := statement_none rfl
theorem cohUpg (h : HomeNo) (r : CohReq) : Statement (.cohUpg h r) := statement_none rfl
theorem cohOwnz (h : HomeNo) (r : CohReq) : Statement (.cohOwnz h r) := statement_none rfl
theorem cohRdc (h : HomeNo) (r : CohReq) : Statement (.cohRdc h r) := statement_none rfl
theorem cohWrf (h : HomeNo) (r : CohReq) : Statement (.cohWrf h r) := statement_none rfl
theorem cohWrp (h : HomeNo) (r : CohReq) : Statement (.cohWrp h r) := statement_none rfl
theorem cohCln (h : HomeNo) (r : CohReq) : Statement (.cohCln h r) := statement_none rfl
theorem cohFls (h : HomeNo) (r : CohReq) : Statement (.cohFls h r) := statement_none rfl
theorem cohAtomf (h : HomeNo) (r : CohReq) : Statement (.cohAtomf h r) := statement_none rfl
theorem cohAtomm (h : HomeNo) (r : CohReq) : Statement (.cohAtomm h r) := statement_none rfl
theorem cohWb (h : HomeNo) (r : CohReq) : Statement (.cohWb h r) := statement_none rfl
theorem cohWbk (h : HomeNo) (r : CohReq) : Statement (.cohWbk h r) := statement_none rfl
theorem cohEvc (h : HomeNo) (r : CohReq) : Statement (.cohEvc h r) := statement_none rfl
theorem cohNcrd (h : HomeNo) (r : CohReq) : Statement (.cohNcrd h r) := statement_none rfl
theorem cohNcwr (h : HomeNo) (r : CohReq) : Statement (.cohNcwr h r) := statement_none rfl
theorem cohSnps (site : SiteNo) (h : HomeNo) (tag line : Nat) : Statement (.cohSnps site h tag line) := statement_none rfl
theorem cohSnpi (site : SiteNo) (h : HomeNo) (tag line : Nat) : Statement (.cohSnpi site h tag line) := statement_none rfl
theorem cohSnpc (site : SiteNo) (h : HomeNo) (tag line : Nat) : Statement (.cohSnpc site h tag line) := statement_none rfl
theorem cohSnpcl (site : SiteNo) (h : HomeNo) (tag line : Nat) : Statement (.cohSnpcl site h tag line) := statement_none rfl
theorem cohBinv (site : SiteNo) (h : HomeNo) (tag line : Nat) : Statement (.cohBinv site h tag line) := statement_none rfl
theorem snoopAnswer (h : HomeNo) (site : SiteNo) (line : Nat) (st : Fin 4) (wbx : Bool) (dat : Option (LineData × BitVec 16)) : Statement (.snoopAnswer h site line st wbx dat) := statement_none rfl
theorem cohAck (h : HomeNo) (node tag line : Nat) : Statement (.cohAck h node tag line) := statement_none rfl
theorem datReceive (site : SiteNo) (tag : Nat) (st : Fin 4) (data : LineData) (poison : BitVec 16) : Statement (.datReceive site tag st data poison) := statement_none rfl
theorem cmpReceive (site : SiteNo) (tag : Nat) (status : Status) : Statement (.cmpReceive site tag status) := statement_none rfl
theorem cmpRsv (site : SiteNo) (tag : Nat) : Statement (.cmpRsv site tag) := statement_none rfl
theorem gnt (site : SiteNo) (tag : Nat) : Statement (.gnt site tag) := statement_none rfl
theorem reservationGrant (h : HomeNo) : Statement (.reservationGrant h) := statement_none rfl
theorem reservationLapse (h : HomeNo) (node : Nat) : Statement (.reservationLapse h node) := statement_none rfl
theorem cohDirq (h : HomeNo) (line : Nat) : Statement (.cohDirq h line) := statement_none rfl
theorem mergeWrite (h : HomeNo) (r : CohReq) (atomic : Bool) : Statement (.mergeWrite h r atomic) := statement_none rfl
theorem mergeRetireTimeout (h : HomeNo) (line : Nat) : Statement (.mergeRetireTimeout h line) := statement_none rfl
theorem channelRead (h : HomeNo) (line : Nat) : Statement (.channelRead h line) := statement_none rfl
theorem scrubRead (h : HomeNo) : Statement (.scrubRead h) := statement_none rfl
theorem channelEnable (h : HomeNo) : Statement (.channelEnable h) := statement_none rfl
theorem channelTrained (h : HomeNo) (ok : Bool) (step : BitVec 4) : Statement (.channelTrained h ok step) := statement_none rfl
theorem memInjArm (h : HomeNo) (i : Init) (data : BitVec 32) : Statement (.memInjArm h i data) := statement_none rfl
theorem mscDisable (h : HomeNo) : Statement (.mscDisable h) := statement_none rfl
theorem mramAccess (r : CohReq) (write : Bool) : Statement (.mramAccess r write) := statement_none rfl
theorem dmaStart (ch : DmaNo) : Statement (.dmaStart ch) := statement_none rfl
theorem dmaStop (ch : DmaNo) : Statement (.dmaStop ch) := statement_none rfl
theorem dmaDoorbell (ch : DmaNo) : Statement (.dmaDoorbell ch) := statement_none rfl
theorem dmaClrhalt (ch : DmaNo) : Statement (.dmaClrhalt ch) := statement_none rfl
theorem dmaCreset (ch : DmaNo) : Statement (.dmaCreset ch) := statement_none rfl
theorem descriptorFetch (ch : DmaNo) (ext : ExtReply) : Statement (.descriptorFetch ch ext) := statement_none rfl
theorem dmaReadComplete (ch : DmaNo) (ext : ExtReply) : Statement (.dmaReadComplete ch ext) := statement_none rfl
theorem dmaWriteAck (ch : DmaNo) (ext : ExtReply) : Statement (.dmaWriteAck ch ext) := statement_none rfl
theorem descriptorWritebackAck (ch : DmaNo) (ext : ExtReply) : Statement (.descriptorWritebackAck ch ext) := statement_none rfl
theorem dmaBurstAdmit (ch : DmaNo) : Statement (.dmaBurstAdmit ch) := statement_none rfl
theorem outboundAccess (i : Init) (r : OutReq) : Statement (.outboundAccess i r) := statement_none rfl
theorem completionReceive (ctl : Fin 8) (tag : Nat) (good ep : Bool) (data : LineData) : Statement (.completionReceive ctl tag good ep data) := statement_none rfl
theorem inboundRequest (t : Tlp) : Statement (.inboundRequest t) := statement_none rfl
theorem configAccess (i : Init) (off width : Nat) (write : Bool) (data : Word) (ans : CfgAnswer) : Statement (.configAccess i off width write data ans) := statement_none rfl
theorem linkDown (ctl : Fin 8) (port : Fin 4) : Statement (.linkDown ctl port) := statement_none rfl
theorem busMasterDisable (func : Nat) : Statement (.busMasterDisable func) := statement_none rfl
theorem vfFlr (s : Fin 240) : Statement (.vfFlr s) := statement_none rfl
theorem pfReset (linkLoss : Bool) : Statement (.pfReset linkLoss) := statement_none rfl
theorem d3hotEntry (func : Nat) : Statement (.d3hotEntry func) := statement_none rfl
theorem resizableBarWrite (vf : Bool) (size : BitVec 6) : Statement (.resizableBarWrite vf size) := statement_none rfl
theorem hpsFrame (ins : BitVec 256) : Statement (.hpsFrame ins) := statement_none rfl
theorem presenceChange (p : Fin 32) (present : Bool) : Statement (.presenceChange p present) := statement_none rfl
theorem attentionButton (p : Fin 32) : Statement (.attentionButton p) := statement_none rfl
theorem powerFault (p : Fin 32) : Statement (.powerFault p) := statement_none rfl
theorem powerControllerControl (p : Fin 32) (turnOff : Bool) : Statement (.powerControllerControl p turnOff) := statement_none rfl
theorem indicatorControl (p : Fin 32) (power : Bool) (v : BitVec 2) : Statement (.indicatorControl p power v) := statement_none rfl
theorem commandCompleted (p : Fin 32) : Statement (.commandCompleted p) := statement_none rfl
theorem perstRelease (p : Fin 32) : Statement (.perstRelease p) := statement_none rfl
theorem atsInvalidate (ctl : Fin 8) (data : Word) : Statement (.atsInvalidate ctl data) := statement_none rfl
theorem invalidateCompletion (ctl : Fin 8) : Statement (.invalidateCompletion ctl) := statement_none rfl
theorem atsTimeout (ctl : Fin 8) : Statement (.atsTimeout ctl) := statement_none rfl
theorem vsfCreate (i : Init) (s : BitVec 8) : Statement (.vsfCreate i s) := statement_none rfl
theorem vsfDestroy (i : Init) (s : BitVec 8) : Statement (.vsfDestroy i s) := statement_none rfl
theorem sliceCommandDone : Statement (.sliceCommandDone) := statement_none rfl
theorem vsfPgranWrite (i : Init) (j : Fin 64) (data : Word) : Statement (.vsfPgranWrite i j data) := statement_none rfl
theorem granuleZero : Statement (.granuleZero) := statement_none rfl
theorem granuleClean (g : Fin 4096) : Statement (.granuleClean g) := statement_none rfl
theorem vsfVrun (i : Init) (s : Fin 240) : Statement (.vsfVrun i s) := statement_none rfl
theorem vsfPgrant (i : Init) (s : Fin 240) (data : Word) : Statement (.vsfPgrant i s data) := statement_none rfl
theorem vsfHdb (i : Init) (s : Fin 240) (bits : Word) : Statement (.vsfHdb i s bits) := statement_none rfl
theorem vsfSdb (i : Init) (s : Fin 240) (n : BitVec 11) : Statement (.vsfSdb i s n) := statement_none rfl
theorem slotProxyAccess (i : Init) (s : Fin 240) (n : SlotNo) (off width : Nat) (write : Bool) (data : Word) : Statement (.slotProxyAccess i s n off width write data) := statement_none rfl
theorem ethFrameReceive (q : Fin 16) (f : EthFrame) : Statement (.ethFrameReceive q f) := statement_none rfl
theorem neighborSolicitation (q : Fin 16) (target : BitVec 128) : Statement (.neighborSolicitation q target) := statement_none rfl
theorem ptpMessage (q : Fin 16) (t1 t2 t3 t4 : Nat) : Statement (.ptpMessage q t1 t2 t3 t4) := statement_none rfl
theorem fabData (peer : Fin 512) (p : FabIn) : Statement (.fabData peer p) := statement_none rfl
theorem lysebAck (peer : Fin 512) (ackpsn : Nat) (sack : BitVec 32) (ece : Bool) : Statement (.lysebAck peer ackpsn sack ece) := statement_none rfl
theorem fabHello (peer : Fin 512) (o : Offer) : Statement (.fabHello peer o) := statement_none rfl
theorem fabAccept (peer : Fin 512) (o : Offer) : Statement (.fabAccept peer o) := statement_none rfl
theorem fabFinish (peer : Fin 512) (o : Offer) : Statement (.fabFinish peer o) := statement_none rfl
theorem fabRekey (peer : Fin 512) (psn : Nat) : Statement (.fabRekey peer psn) := statement_none rfl
theorem fabClose (peer : Fin 512) (psn : Nat) : Statement (.fabClose peer psn) := statement_none rfl
theorem fabProbe (peer : Fin 512) (n : Nat) : Statement (.fabProbe peer n) := statement_none rfl
theorem fabProbeRep (peer : Fin 512) (t1 t2 t3 t4 : Nat) : Statement (.fabProbeRep peer t1 t2 t3 t4) := statement_none rfl
theorem rnrResend (peer : Fin 512) : Statement (.rnrResend peer) := statement_none rfl
theorem peerEnable (peer : Fin 512) (en : Bool) : Statement (.peerEnable peer en) := statement_none rfl
theorem helloResend (peer : Fin 512) : Statement (.helloResend peer) := statement_none rfl
theorem handshakeTimeout (peer : Fin 512) : Statement (.handshakeTimeout peer) := statement_none rfl
theorem failedRetry (peer : Fin 512) : Statement (.failedRetry peer) := statement_none rfl
theorem closingTimeout (peer : Fin 512) : Statement (.closingTimeout peer) := statement_none rfl
theorem ackTimer (peer : Fin 512) : Statement (.ackTimer peer) := statement_none rfl
theorem rtoExpiry (peer : Fin 512) : Statement (.rtoExpiry peer) := statement_none rfl
theorem linkFailure (peer : Fin 512) (portLost : Bool) : Statement (.linkFailure peer portLost) := statement_none rfl
theorem fabricTransactionTout (tag : Nat) : Statement (.fabricTransactionTout tag) := statement_none rfl
theorem altPortMove (peer : Fin 512) : Statement (.altPortMove peer) := statement_none rfl
theorem rekeyTrigger (peer : Fin 512) : Statement (.rekeyTrigger peer) := statement_none rfl
theorem oldKeyErase (peer : Fin 512) : Statement (.oldKeyErase peer) := statement_none rfl
theorem fabEslotStart (k : Fin 256) : Statement (.fabEslotStart k) := statement_none rfl
theorem fabEslotSpill (k : Fin 256) : Statement (.fabEslotSpill k) := statement_none rfl
theorem collStart (n : Fin 256) : Statement (.collStart n) := statement_none rfl
theorem collGranted (n : Fin 256) : Statement (.collGranted n) := statement_none rfl
theorem collEnd (n : Fin 256) : Statement (.collEnd n) := statement_none rfl
theorem collAbort (n : Fin 256) : Statement (.collAbort n) := statement_none rfl
theorem atlasLockLoss : Statement (.atlasLockLoss) := statement_none rfl
theorem captureCut (n : Fin 16) : Statement (.captureCut n) := statement_none rfl
theorem captureAbandon (n : Fin 16) : Statement (.captureAbandon n) := statement_none rfl
theorem shipLine (n : Fin 16) (line : Nat) : Statement (.shipLine n line) := statement_none rfl
theorem sealSend (n : Fin 16) : Statement (.sealSend n) := statement_none rfl
theorem pairShip (m : PairIn) : Statement (.pairShip m) := statement_none rfl
theorem pairSeal (m : PairIn) : Statement (.pairSeal m) := statement_none rfl
theorem pairCommit (m : PairIn) : Statement (.pairCommit m) := statement_none rfl
theorem pairOpen (m : PairIn) : Statement (.pairOpen m) := statement_none rfl
theorem pairStop : Statement (.pairStop) := statement_none rfl
theorem pairHb : Statement (.pairHb) := statement_none rfl
theorem pairHbSend : Statement (.pairHbSend) := statement_none rfl
theorem pairCaps (c : CapsIn) : Statement (.pairCaps c) := statement_none rfl
theorem pairSwitchMsg (m : PairIn) : Statement (.pairSwitchMsg m) := statement_none rfl
theorem pairSwack (m : PairIn) : Statement (.pairSwack m) := statement_none rfl
theorem pairSilence : Statement (.pairSilence) := statement_none rfl
theorem resumption (n : Fin 16) : Statement (.resumption n) := statement_none rfl
theorem pairStart (n : Fin 16) : Statement (.pairStart n) := statement_none rfl
theorem pairSwitch (n : Fin 16) : Statement (.pairSwitch n) := statement_none rfl
theorem pairBreak (n : Fin 16) : Statement (.pairBreak n) := statement_none rfl
theorem pairResume (n : Fin 16) : Statement (.pairResume n) := statement_none rfl
theorem pairClear (n : Fin 16) : Statement (.pairClear n) := statement_none rfl
theorem pairLinkTrained (lanes : Fin 17) : Statement (.pairLinkTrained lanes) := statement_none rfl
theorem wldQuery (i : Init) (cls : BitVec 2) (idx : BitVec 12) : Statement (.wldQuery i cls idx) := statement_none rfl
theorem handoverRelease (i : Init) (cls : BitVec 2) (idx : BitVec 12) : Statement (.handoverRelease i cls idx) := statement_none rfl
theorem wldClaim (i : Init) (cls : BitVec 2) (idx : BitVec 12) (secure : Bool) : Statement (.wldClaim i cls idx secure) := statement_none rfl
theorem handoverResetDone (cls : BitVec 2) (idx : BitVec 12) : Statement (.handoverResetDone cls idx) := statement_none rfl
theorem irtTrig (i : Init) (n : Fin 4096) : Statement (.irtTrig i n) := statement_none rfl
theorem irtClrp (i : Init) (n : Fin 4096) : Statement (.irtClrp i n) := statement_none rfl
theorem sourceEvent (n : Fin 4096) : Statement (.sourceEvent n) := statement_none rfl
theorem irqOffer (core : CoreNo) : Statement (.irqOffer core) := statement_none rfl
theorem pwrVoteWrite (i : Init) (k : Fin 1024) (data : Word) : Statement (.pwrVoteWrite i k data) := statement_none rfl
theorem domainCleanDone (core : CoreNo) : Statement (.domainCleanDone core) := statement_none rfl
theorem fenceDrained (d : Fin 263) : Statement (.fenceDrained d) := statement_none rfl
theorem domainEntryDone (d : Fin 263) : Statement (.domainEntryDone d) := statement_none rfl
theorem domainExitDone (d : Fin 263) : Statement (.domainExitDone d) := statement_none rfl
theorem pkgSleep (i : Init) : Statement (.pkgSleep i) := statement_none rfl
theorem pkgDeep (i : Init) : Statement (.pkgDeep i) := statement_none rfl
theorem pkgOff (i : Init) : Statement (.pkgOff i) := statement_none rfl
theorem pkgCancel (i : Init) : Statement (.pkgCancel i) := statement_none rfl
theorem pkgEntry : Statement (.pkgEntry) := statement_none rfl
theorem pkgWake (src : Fin 4) : Statement (.pkgWake src) := statement_none rfl
theorem wakeN : Statement (.wakeN) := statement_none rfl
theorem powerSample (watts avg : BitVec 16) : Statement (.powerSample watts avg) := statement_none rfl
theorem freqRaise (core : CoreNo) : Statement (.freqRaise core) := statement_none rfl
theorem prochotN (low : Bool) : Statement (.prochotN low) := statement_none rfl
theorem junctionHot : Statement (.junctionHot) := statement_none rfl
theorem thermtrip : Statement (.thermtrip) := statement_none rfl
theorem coldReset : Statement (.coldReset) := statement_none rfl
theorem warmReset : Statement (.warmReset) := statement_none rfl
theorem pwrokFall : Statement (.pwrokFall) := statement_none rfl
theorem railUndervoltage : Statement (.railUndervoltage) := statement_none rfl
theorem resetHoldEnd : Statement (.resetHoldEnd) := statement_none rfl
theorem refclkLoss : Statement (.refclkLoss) := statement_none rfl
theorem bootStageDone (w : BootWork) : Statement (.bootStageDone w) := statement_none rfl
theorem bootWarm (i : Init) : Statement (.bootWarm i) := statement_none rfl
theorem svncommit (i : Init) : Statement (.svncommit i) := statement_none rfl
theorem bootRevoke (i : Init) (slots : BitVec 4) : Statement (.bootRevoke i slots) := statement_none rfl
theorem bootSpicmd (i : Init) (data : Word) : Statement (.bootSpicmd i data) := statement_none rfl
theorem spiCommandDone (ok : Bool) (bytes : List Byte) : Statement (.spiCommandDone ok bytes) := statement_none rfl
theorem idnExtend (i : Init) (index : BitVec 4) : Statement (.idnExtend i index) := statement_none rfl
theorem lunaWatchdog : Statement (.lunaWatchdog) := statement_none rfl
theorem spdmRequest (mctp : Bool) (code : BitVec 8) : Statement (.spdmRequest mctp code) := statement_none rfl
theorem recGo : Statement (.recGo) := statement_none rfl
theorem recProgram : Statement (.recProgram) := statement_none rfl
theorem recReset : Statement (.recReset) := statement_none rfl
theorem recoveryGoDone : Statement (.recoveryGoDone) := statement_none rfl
theorem erbAcknowledge (bank : Fin 326) : Statement (.erbAcknowledge bank) := statement_none rfl
theorem dstopForce (i : Init) : Statement (.dstopForce i) := statement_none rfl
theorem domainStop : Statement (.domainStop) := statement_none rfl
theorem dstopChannelFlush : Statement (.dstopChannelFlush) := statement_none rfl
theorem dstopLog : Statement (.dstopLog) := statement_none rfl
theorem logRecordWrite : Statement (.logRecordWrite) := statement_none rfl
theorem i3cRegrd (off width : Nat) : Statement (.i3cRegrd off width) := statement_none rfl
theorem i3cRegwr (off width : Nat) (data : Word) : Statement (.i3cRegwr off width data) := statement_none rfl
theorem mctpPacket (code : BitVec 8) : Statement (.mctpPacket code) := statement_none rfl
theorem jtagExtest (cells : Nat) : Statement (.jtagExtest cells) := statement_none rfl
theorem jtagSamplePreload (cells : Nat) : Statement (.jtagSamplePreload cells) := statement_none rfl
theorem jtagIdcode : Statement (.jtagIdcode) := statement_none rfl
theorem jtagClamp : Statement (.jtagClamp) := statement_none rfl
theorem jtagHighz : Statement (.jtagHighz) := statement_none rfl
theorem jtagRegacc (dr : BitVec 72) : Statement (.jtagRegacc dr) := statement_none rfl
theorem jtagDiesel (site : BitVec 4) : Statement (.jtagDiesel site) := statement_none rfl
theorem jtagStandalone : Statement (.jtagStandalone) := statement_none rfl
theorem jtagBypass : Statement (.jtagBypass) := statement_none rfl
theorem dmaResetDone (ch : DmaNo) : Statement (.dmaResetDone ch) := statement_none rfl
theorem hbLinkUp (ctl : Fin 8) (port : Fin 4) : Statement (.hbLinkUp ctl port) := statement_none rfl
theorem portLinkUp (q : Fin 16) : Statement (.portLinkUp q) := statement_none rfl
theorem pairLinkDown (st : Fin 3) (lanes : Fin 17) : Statement (.pairLinkDown st lanes) := statement_none rfl
theorem pkgExitDone : Statement (.pkgExitDone) := statement_none rfl
theorem vccAoLoss : Statement (.vccAoLoss) := statement_none rfl
theorem refclkReturn : Statement (.refclkReturn) := statement_none rfl
theorem dramHot (h : HomeNo) (hot : Bool) : Statement (.dramHot h hot) := statement_none rfl

end Sys2Proof.Laws.Coded
end

