-- ==== Sys2Proof/Tests/Slice0.lean ====
section
/-! SUPPORT. The model's own tests: well-formedness, words written out from the encoding tables, and for every statement
with hypotheses a state and operands that meet them, clause by clause, with what one step does there. -/
namespace Sys2Proof.Machine

set_option Elab.async false

/-- The command answers a next state of which `p` is true. -/
def hold (o : Host.Outcome State Fault Refusal) (p : State → Bool) : Bool :=
  match o with
  | .next t => p t
  | _ => false

/-- The access ends without an exception, in a state of which `p` is true. -/
def Res.fine {α : Type} (r : Res α × State) (p : State → Bool) : Bool :=
  match r with
  | (.ok _, t) => p t
  | _ => false

theorem Res.fine_ok {α : Type} {r : Res α × State} {p : State → Bool} (h : Res.fine r p = true) :
    ∃ v t, r = (.ok v, t) ∧ p t = true := by
  obtain ⟨a, t⟩ := r
  cases a <;> simp_all [Res.fine]

/-- The state after the fetch. -/
def State.fetched (s : State) (n : Nat) (w : BitVec 32) : State := ((s.modCore n (fun c => { c with word := w })).fetch n fetchTag).2

/-- The common hypothesis of the statements about core instructions, as a test. -/
def issuesB (s : State) (n : Nat) (w : BitVec 32) (p : State → Bool) : Bool :=
  s.canIssue n && decide ((s.core n).wait = .none) && !(s.core n).dbg &&
    Res.fine ((s.modCore n (fun c => { c with word := w })).fetch n fetchTag) (fun t => !(t.core n).dbg && p t)

def runsB (i : Instr) (n : Nat) (pred : BitVec 3) (pn : Bool) (s : State) (p : State → Bool) : Bool :=
  i.wf && issuesB s n (wordOf i) (fun t => (t.core n).executes pred pn && p t)

theorem issues_of {s : State} {n : Nat} {w : BitVec 32} {p : State → Bool} (h : issuesB s n w p = true) :
    ∃ s1, Issues s n w s1 ∧ p s1 = true := by
  simp only [issuesB, Bool.and_eq_true, decide_eq_true_eq, Bool.not_eq_true'] at h
  obtain ⟨⟨⟨h1, h2⟩, h3⟩, h4⟩ := h
  obtain ⟨v, t, h5, h6⟩ := Res.fine_ok h4
  simp only [Bool.and_eq_true, Bool.not_eq_true'] at h6
  exact ⟨t, ⟨h1, h2, h3, h5, h6.1⟩, h6.2⟩

theorem runs_of {i : Instr} {n : Nat} {pred : BitVec 3} {pn : Bool} {s : State} {p : State → Bool}
    (h : runsB i n pred pn s p = true) : ∃ s1, Runs i n pred pn s s1 ∧ p s1 = true := by
  simp only [runsB, Bool.and_eq_true] at h
  obtain ⟨s1, h1, h2⟩ := issues_of h.2
  simp only [Bool.and_eq_true] at h2
  exact ⟨s1, ⟨h.1, h1, h2.1⟩, h2.2⟩

/-- Normal and secure world, outside every slice, at a node that is no core and no channel. -/
def nwI : Init := ⟨0x00E00, false, 0xFF, 0, 0⟩
def swI : Init := ⟨0x00E00, true, 0xFF, 0, 0⟩

/-! A core at a boundary, ready to issue: core 0 runs, at M in the secure world. -/

def run0 : Core := { Core.reset with run := .run, g := ((Core.reset.g.set 2 24).set 3 5).set 4 0x0000800200000100 }
/-- A package whose core 0 is `c`. -/
def withCore (c : Core) : State := { State.reset with cores := ⟨[(0, c)]⟩ }
def w0 : State := withCore run0

def o0 : RRR := ⟨0, 0, false, 1, 2, 3⟩
def o0R : RRRF := ⟨0, 0, false, 1, 2, 3, 0⟩
def o0I : RRI := ⟨0, 0, false, 1, 2, 3⟩
def o0L : LIF := ⟨0, 0, false, 1, 3⟩
def o0S : ShiF := ⟨0, 0, false, 1, 2, 3, 0⟩
def o0B : BF := ⟨0, 0, false, false, 3⟩
def o0A : AtomF := ⟨0, 0, false, 1, 2, 3, true, 0⟩
def o0V : VF := ⟨0, 0, false, 1, 2, 3, false, 0⟩
def o0C : AccF := ⟨0, 0, false, 1, 2, 3, false⟩

/-- Instruction `i` is issued at core 0 in `s` with the fetched state as `p` says, and ends in a state as `q` says. -/
def goes (i : Instr) (s : State) (p q : State → Bool) : Bool := runsB i 0 0 false s p && hold (exec i s) q
def any (_ : State) : Bool := true
def next4 (t : State) : Bool := (t.core 0).pc == 0x0000800300000004
def g1is (w : Word) (t : State) : Bool := (t.core 0).rg 1 == w && next4 t

theorem goes_runs {i : Instr} {s : State} {p q : State → Bool} (h : goes i s p q = true) :
    ∃ s1, Runs i 0 0 false s s1 ∧ p s1 = true := runs_of (by simp only [goes, Bool.and_eq_true] at h; exact h.1)

/-- Operands whose address is in the MRAM. -/
def m0I : RRI := ⟨0, 0, false, 1, 4, 3⟩
def m0 : RRR := ⟨0, 0, false, 1, 4, 0⟩
def m0R : RRRF := ⟨0, 0, false, 3, 4, 0, 3⟩
def noDbg (t : State) : Bool := !(t.core 0).dbg

def taken (pc : Word) (t : State) : Bool := (t.core 0).pc == pc
/-- Core 0 at another level and world. -/
def at0 (l : Level) (sec : Bool) : State := withCore { run0 with lvl := l, sec := sec }
/-- A core whose g1 is `w`. -/
def g1 (w : Word) : State := withCore { run0 with g := run0.g.set 1 w }

/-- The package after reset, and one whose tick runs (the first edge due at 4,000,000 ns). -/
def R : State := State.reset
def T : State := ((R.setFd .TCK_STATUS TCK_STATUS.RUNNING 1).setFd .TCK_PERIOD TCK_PERIOD.NS 1000000).setRg 4000000 .TCK_NEXT
def runs (c : Core) : Core := { c with run := .run }
/-- Every channel is trained, of 16 GiB. -/
def memOn (s : State) : State :=
  (List.range 16).foldl (fun s h => s.setFd .MEM_STATUS MEM_STATUS.TRAINED 1 h) (s.setFd .MEM_CFG MEM_CFG.CAP 2)
/-- Line 32 of DRAM, as an L2 holds it. -/
def dL (st : CState) : L2Line := ⟨0, st, 0x1122334455667788, 0, false⟩
/-- Core 0 with the lines `l` in its L2, g4 at line 32, and the line of its instruction in L1I. -/
def dCore (l : List (Nat × L2Line)) : Core :=
  { run0 with creg := run0.creg.set cCACHECTL 5, l2 := ⟨l⟩, l1i := ⟨[(0x800300000000 / 128, ⟨0, 0, 0⟩)]⟩, g := run0.g.set 4 0x1000 }
def dS (l : List (Nat × L2Line)) : State := memOn (withCore (dCore l))
/-- Core 0 alone holds line 32. -/
def dA (st : CState) : State :=
  ((dS [(32, dL st)]).setDie 0 { Die.reset with filt := ⟨[(32, ⟨st, 1⟩)]⟩ }).setHome (homeOf 32) { Home.reset with dir := ⟨[(32, ⟨2, [0], 0⟩)]⟩ }
/-- The bytes of words in memory. -/
def cells : Nat → List Nat → List Host.Cell
  | _, [] => []
  | a, w :: l => (List.range 8).map (fun k => (a + k, BitVec.ofNat 8 (w / 2 ^ (8 * k)))) ++ cells (a + 8) l
/-- A transaction at a home in which nothing waits. -/
def trk0 : Tracker := ⟨0, CohReq.bare 0 0 false, [], [], [], none, 0, false, none, 0, false, 0⟩

/-! Words written out bit by bit from the formats of 03 R73 and 04 R125: PRED, PN, OPC, then the format's fields. -/

theorem test_decode_words :
    decodeWord 0 0b011_1_000010_00101_00111_111111110100 = some (.addi ⟨0, 3, true, 5, 7, 0xFF4⟩) ∧
    decodeWord 0 0b000_0_000001_00001_00010_00011_0000001 = some (.sub ⟨0, 0, false, 1, 2, 3⟩) ∧
    decodeWord 0 0b000_0_001001_00001_00000000100100011 = some (.li ⟨0, 0, false, 1, 0x123⟩) ∧
    decodeWord 0 0b000_0_000110_00001_00010_0000_10_000100 = some (.shiSra ⟨0, 0, false, 1, 2, 4, 0⟩) ∧
    decodeWord 0 0b000_0_111000_00000_00000_00000_0000000 = some (.nop ⟨0, 0, false, 0, 0, 0⟩) ∧
    decodeWord 0 0b010_0_110000_1_111111111111111111101 = some (.br ⟨0, 2, false, true, 0x1FFFFD⟩) := by decide +kernel

theorem test_decode_words_numeric :
    decodeWord 0 0b000_0_100000_00001_00010_00011_1_111_001 = some (.fsub ⟨0, 0, false, 1, 2, 3, true, 7⟩) ∧
    decodeWord 0 0b000_0_101010_00001_00100_00101_0_000011 = some (.adot ⟨0, 0, false, 1, 4, 5, false⟩) ∧
    decodeWord 0 0b000_0_101010_01001_01000_00000_0_001010 = some (.apost ⟨0, 0, false, 9, 8, 0, false⟩) ∧
    decodeWord 0 0b000_0_011110_00001_00010_00011_01_1_1111 = some (.atomCas ⟨0, 0, false, 1, 2, 3, true, 1⟩) ∧
    decodeWord 0 0x00000000 = none ∧ decodeWord 0 0xFFFFFFFF = none := by decide +kernel

theorem test_table_word : decodeTableWord 32 0 = none := rfl

/-! Ill-formed commands are refused, one for each check. -/

theorem test_wf_refuses_instructions :
    Instr.wf (.pand ⟨0, 0, false, 8, 0, 0⟩) = false ∧ Instr.wf (.fadd ⟨0, 0, false, 0, 0, 0, false, 5⟩) = false ∧
    Instr.wf (.aload ⟨0, 0, false, 4, 0, 0⟩) = false ∧ Instr.wf (.vstf ⟨0, 0, false, 0, 0, 0, 8⟩) = false ∧
    Instr.wf (.arnd ⟨0, 0, false, 0, 0, 0, 64⟩) = false ∧ Instr.wf (.shiSll ⟨0, 0, false, 1, 2, 3, 1⟩) = false ∧
    Instr.wf (.cmp ⟨0, 0, false, 1, 2, 3, 8⟩) = false ∧ Instr.wf (.lsi ⟨0, 0, false, 1, 0x10000⟩) = false ∧
    Instr.wf (.ldx ⟨0, 0, false, 1, 2, 3, 16⟩) = false ∧ Instr.wf (.stx ⟨0, 0, false, 1, 2, 3, 4⟩) = false ∧
    Instr.wf (.fmin ⟨0, 0, false, 1, 2, 3, false, 1⟩) = false ∧ Instr.wf (.vget ⟨0, 0, false, 1, 2, 8, false, 0⟩) = false ∧
    Instr.wf (.apost ⟨0, 0, false, 1, 2, 4, false⟩) = false := by decide +kernel

theorem test_wf_refuses_commands :
    wfInit ⟨0x1000, true, 0xFF, 0, 0⟩ = false ∧ wfWidth 24 = false ∧ wfLine (2 ^ 49) = false ∧
    wfRecord ⟨32, 0, 0, 0, false, 0, false, 0, true⟩ = false ∧ wfTlp ⟨0, 0, 0, 1, 0, 513, 0, false, none, 0⟩ = false ∧
    wfCohReq ⟨0, 16, 0, false, 0, 0, 0, 0, 0, 0, 0, 0, 0⟩ = false ∧ wfOutReq ⟨0, 4, false, 0, false, 0, none⟩ = false := by decide +kernel

theorem witness_IntRegisterResults : ∀ e ∈ aluTable, goes (e.1 o0) w0 any (g1is (e.2 24 5)) = true := by decide +kernel

theorem test_int_values : aluTable.map (fun e => e.2 (-7) 2) = [-5, -9, 0, -5, -5, -7, -28, 0x3FFFFFFFFFFFFFFE, -2,
    0x7FFFFFFFFFFFFFFE] ++ [-7, 2, 2, -7, -5, -9, -14, -1, 1] ++
    [-3, 0x7FFFFFFFFFFFFFFC, -1, 1, 0, 0, 62, 0xF9FFFFFFFFFFFFFF, -7, -7, -7, 0xFFFFFFF9] := by decide +kernel

theorem witness_ImmediateResults :
    (∀ e ∈ immTable, goes (e.1 o0I) w0 any (g1is (e.2 24 3)) = true) ∧ (∀ e ∈ shiTable, goes (e.1 o0S) w0 any (g1is (e.2 24 3)) = true) ∧
    goes (.li o0L) w0 any (g1is 3) = true ∧ goes (.lsi o0L) w0 any (g1is 3) = true ∧
    goes (.addpc o0L) w0 any (g1is 0x0000800300003000) = true ∧ goes (.mfp o0) w0 any (g1is 1) = true := by decide +kernel

theorem witness_CompareAndPredicateResults :
    goes (.cmp ⟨0, 0, false, 1, 2, 3, 32⟩) w0 any (fun t => (t.core 0).p == 5#8) = true ∧
    goes (.cmpi ⟨0, 0, false, 1, 2, 24⟩) w0 any (fun t => (t.core 0).p == 3#8) = true ∧
    goes (.cmpiu ⟨0, 0, false, 17, 2, 0x21F⟩) w0 any (fun t => (t.core 0).p == 3#8) = true ∧
    (∀ e ∈ predTable, goes (e.1 ⟨0, 0, false, 1, 0, 0⟩) w0 any (fun t => (t.core 0).rp 1 == e.2 true true) = true) ∧
    goes (.mtp ⟨0, 0, false, 0, 2, 0⟩) w0 any (fun t => (t.core 0).p == 25#8) = true := by decide +kernel

theorem witness_LoadResults :
    goes (.ldws ⟨0, 0, false, 1, 4, 1⟩) (dS [(32, dL .s)]) (fun s1 => decide (reaches s1 0 0x1004 4 ∧ holdsLine s1 0 32 (dL .s)))
      (g1is 0x11223344) = true ∧
    goes (.ldx ⟨0, 0, false, 1, 4, 0, 3⟩) (dS [(32, dL .s)]) (fun s1 => decide (reaches s1 0 0x1000 8 ∧ holdsLine s1 0 32 (dL .s)))
      (g1is 0x1122334455667788) = true ∧
    goes (.ldd m0I) w0 (fun s1 => Res.fine (s1.loadBytes 0 ((s1.core 0).rg m0I.s + sext m0I.imm * BitVec.ofNat 64 8) 8) noDbg) (g1is 0) = true ∧
    goes (.ldx m0R) w0 (fun s1 => Res.fine (s1.loadBytes 0 ((s1.core 0).xAddr m0R) 8) noDbg) next4 = true := by
  decide +kernel

/-- g4 in the window of a package to which no link is open: the store's error comes back later. -/
def nowhere : State := withCore { run0 with g := run0.g.set 4 0x0080400000000000 }

theorem witness_StoreResults :
    runsB (.sth m0I) 0 0 false (dS [(32, dL .e)]) (fun s1 => decide (reaches s1 0 0x1006 2 ∧ ownsLine s1 0 32 (dL .e))) = true ∧
    runsB (.stx m0R) 0 0 false (dS [(32, dL .m)]) (fun s1 => decide (reaches s1 0 0x1000 8 ∧ ownsLine s1 0 32 (dL .m))) = true ∧
    goes (.atomAdd ⟨0, 0, false, 1, 4, 3, true, 0⟩) (dS [(32, dL .e)]) (fun s1 => decide (reaches s1 0 0x1000 8 ∧ ownsLine s1 0 32 (dL .e)))
      (fun t => g1is 0x1122334455667788 t &&
        decide ((t.core 0).l2.get? 32 = some { dL .e with st := .m, data := 0x112233445566778D })) = true := by
  decide +kernel

theorem witness_StoreResults_any :
    (∀ e ∈ [((.std : RRI → Instr), 8)], goes (e.1 m0I) nowhere (fun s1 => Res.fine (s1.storeBytes 0 ((s1.core 0).rg m0I.s + sext m0I.imm * BitVec.ofNat 64 e.2) e.2
      (((s1.core 0).rg m0I.d).toNat % 2 ^ (8 * e.2))) noDbg) next4 = true) ∧
    goes (.stx m0R) nowhere (fun s1 => Res.fine (s1.storeBytes 0 ((s1.core 0).xAddr m0R) 8 (((s1.core 0).rg m0R.d).toNat % 2 ^ 64)) noDbg)
      next4 = true ∧
    (∀ e ∈ [((.atomAdd : AtomF → Instr), 1), (.atomCas, 15)], let o : AtomF := ⟨0, 0, false, 1, 4, 3, true, 0⟩
      goes (e.1 o) w0 (fun s1 => Res.fine (s1.atomBytes 0 ((s1.core 0).rg o.s1) (e.2 + 16 * b2n o.dbl) o.place.toNat ((s1.core 0).rg o.s2)
        ((s1.core 0).rg o.d)) noDbg) (g1is 0) = true) := by
  decide +kernel

/-- A load sees the core's own store that no one else sees yet (03 R86). -/
theorem test_load_sees_own_store :
    (let c := { dCore [(32, dL .m)] with sbuf := [⟨32, true, byteMask 1 1, placed 0x1001 1 0xAB, 0x1001⟩] }
     hold (exec (.ldx ⟨0, 0, false, 7, 4, 0, 3⟩) (memOn (withCore c))) (fun u => (u.core 0).rg 7 == 0x112233445566AB88)) = true := by
  decide +kernel


theorem witness_TransferResults :
    goes (.br o0B) w0 any (taken 0x000080030000000C) = true ∧
    goes (.call o0B) w0 any (fun t => taken 0x000080030000000C t && (t.core 0).rg 31 == 0x0000800300000004) = true ∧
    (∀ f ∈ [(.jr : RRR → Instr), .ret, .jalr], goes (f m0) w0 any (taken 0x0000800200000100) = true) ∧
    (∀ f ∈ [(.jr : RRR → Instr), .ret, .jalr], issuesB w0 0 (wordOf (f ⟨0, 1, false, 1, 3, 0⟩)) (fun s1 => !(s1.core 0).executes 1 false) = true ∧
      hold (exec (f ⟨0, 1, false, 1, 3, 0⟩) w0) next4 = true) ∧
    (∀ f ∈ [(.br : BF → Instr), .call], issuesB w0 0 (wordOf (f ⟨0, 1, false, false, 3⟩)) (fun s1 => !(s1.core 0).executes 1 false) = true ∧
      hold (exec (f ⟨0, 1, false, false, 3⟩) w0) next4 = true) ∧
    (∀ f ∈ [(.jr : RRR → Instr), .ret, .jalr], goes (f ⟨0, 0, false, 1, 3, 0⟩) w0 any
      (fun t => (t.core 0).cr (bankKey .m true 3) == BitVec.ofNat 64 xFETCHALIGN) = true) := by
  decide +kernel


theorem witness_SystemCalls :
    (∀ e ∈ [((fun o => .syscall o : RRR → Instr), xSYSCALL), (fun o => .hcall o, xHCALL),
        (fun o => .mcall ⟨o.core, o.pred, o.pn, o.d, o.s1, o.s2, false⟩, xMCALL), (fun o => .brk o, xBRK)],
      goes (e.1 o0) w0 (fun s1 => !(s1.core 0).mcip && !s1.dbgControl 0 && (s1.core 0).lvl == .m) (fun t =>
        (t.core 0).cr (bankKey .m true 3) == BitVec.ofNat 64 e.2 && (t.core 0).cr (bankKey .m true 1) == 0x0000800300000004) = true) ∧
    goes (.hcall o0) (at0 .k false) any (fun t => (t.core 0).lvl == .h) = true ∧
    goes (.mcall ⟨0, 0, false, 1, 2, 3, true⟩) (g1 0) (fun s1 => (s1.core 0).lvl == .m && !(s1.core 0).mcip && (s1.core 0).rg 1 == 0)
      (fun t => (t.core 0).rg 1 == 0 && (t.core 0).rg 2 == 0x10000 && (t.core 0).rg 3 == 5 && next4 t) = true ∧
    goes (.brk o0) ((R.setFd .WLD_DBGEN WLD_DBGEN.SLVL 2).setCore 0 run0) (fun s1 => s1.dbgControl 0)
      (fun t => (t.core 0).run == .halted && !(t.core 0).haltReq && next4 t) = true := by decide +kernel

theorem witness_SystemResults :
    goes (.nop o0) w0 any next4 = true ∧
    goes (.eret o0) (withCore { run0 with creg := run0.creg.set (bankKey .m true 2) 9 }) (fun s1 => (s1.core 0).lvl == .m &&
        (s1.core 0).cr (bankKey .m true 2) == 9)
      (fun t => (t.core 0).lvl == .k && !(t.core 0).sec && (t.core 0).ie && taken 0 t) = true ∧
    goes (.wfi o0) w0 (fun s1 => (s1.core 0).offers.isEmpty) (fun t => (t.core 0).run == .wfi) = true ∧
    goes (.fence o0) w0 (fun s1 => (s1.core 0).sbuf.isEmpty && (match s1.sbDrain 0 with | (true, s2) => noDbg s2 | _ => false)) next4 = true ∧
    goes (.fenceG o0) w0 (fun s1 => (s1.core 0).openW == 0 && (s1.core 0).sbuf.isEmpty) next4 = true ∧
    goes (.isync o0) w0 any next4 = true ∧
    (∀ f ∈ [(.tlbiVa : RRR → Instr), .tlbiAs, .tlbiAll], goes (f o0) w0 (fun s1 => decide ((s1.core 0).tlbiOut.length < 32))
      (fun t => (t.core 0).tlbiOut.length == 1 && next4 t) = true) ∧
    goes (.tlbiS2 o0) (at0 .h false) (fun s1 => (s1.core 0).lvl == .h && decide ((s1.core 0).tlbiOut.length < 32))
      (fun t => (t.core 0).tlbiOut.length == 1 && next4 t) = true ∧
    goes (.tlbsync o0) w0 (fun s1 => !(s1.core 0).tlbTout && (s1.core 0).tlbiOut.isEmpty) next4 = true := by decide +kernel

/-- g2 names way 0 of set 32 of L2, which holds a clean non-coherent line. -/
def swS : State :=
  let c := dCore [(32, dL .nc)]
  memOn (withCore { c with g := c.g.set 2 0x10200 })
/-- L1D is on too. -/
def pfS : State :=
  let c := dCore [(32, dL .e)]
  memOn (withCore { c with creg := c.creg.set cCACHECTL 7 })

theorem witness_CacheInstructions :
    (∀ f ∈ [(.lflush : RRR → Instr), .ldrop], goes (f m0) (dA .e) (fun s1 => decide (reaches s1 0 0x1000 1 ∧ onlyHere s1 0 32 (dL .e)))
      (fun t => next4 t && (t.core 0).l2.get? 32 == none && (t.home (homeOf 32)).dir.get? 32 == none) = true) ∧
    goes (.lflush m0) ((dA .m).setFd .MSC_CTL MSC_CTL.EN 1 (homeOf 32)) (fun s1 => decide (reaches s1 0 0x1000 1 ∧ onlyHere s1 0 32 (dL .m)) &&
        s1.fb .MSC_CTL MSC_CTL.EN (homeOf 32))
      (fun t => next4 t && (t.msc.get? 32).map (fun v => v.data) == some (dL .m).data) = true ∧
    goes (.lclean m0) (dA .m) (fun s1 => decide (reaches s1 0 0x1000 1 ∧ onlyHere s1 0 32 (dL .m)))
      (fun t => next4 t && (t.core 0).l2.get? 32 == some (dL .e)) = true ∧
    goes (.lzero m0) (dA .e) (fun s1 => decide (reaches s1 0 0x1000 1 ∧ onlyHere s1 0 32 (dL .e)))
      (fun t => next4 t && ((t.core 0).l2.get? 32).map (fun m => (m.st, m.data, m.poison)) == some (.m, 0, 0)) = true ∧
    goes (.idrop m0) (dS [(32, dL .e)]) (fun s1 => decide (flat (s1.core 0) ∧ ((s1.core 0).rg 4).toNat < 0x400000000000)) next4 = true ∧
    goes (.swflush o0) w0 (fun s1 => bitAt ((s1.core 0).rg 2) 16 == false && (s1.core 0).sbuf.isEmpty) next4 = true ∧
    goes (.swflush o0) (withCore { run0 with g := run0.g.set 2 0x10200 }) (fun s1 => bitAt ((s1.core 0).rg 2) 16 && (s1.core 0).sbuf.isEmpty &&
      (s1.core 0).l2.l.isEmpty) next4 = true ∧
    goes (.swflush o0) swS (fun s1 => decide (holdsLine s1 0 32 (dL .nc)) && bitAt ((s1.core 0).rg 2) 16 &&
      ((s1.core 0).l2.l.find? (fun e => e.1 % 1024 == 32 && e.2.way == 0)) == some (32, dL .nc)) (fun t => next4 t && (t.core 0).l2.l.isEmpty) = true := by
  decide +kernel

theorem witness_CacheInstructions_any :
    (∀ e ∈ [((fun o => .lflush o : RRR → Instr), CmoKind.flush), (fun o => .lclean o, CmoKind.clean),
      (fun o => .ldrop o, CmoKind.drop), (fun o => .lzero o, CmoKind.zero)],
      goes (e.1 m0) w0 (fun s1 => Res.fine (s1.cmoLine 0 ((s1.core 0).rg m0.s1) e.2) noDbg) next4 = true) ∧
    goes (.idrop m0) w0 (fun s1 => Res.fine (s1.idropLine 0 ((s1.core 0).rg m0.s1)) noDbg) next4 = true ∧
    goes (.idropall m0) w0 any (fun t => (t.core 0).l1i.l.isEmpty && next4 t) = true ∧
    goes (.swflush o0) w0 (fun s1 => Res.fine (s1.swFlush 0 ((s1.core 0).rg o0.s1)) noDbg) next4 = true ∧
    (∀ f ∈ [(.prefetchR : RRR → Instr), .prefetchW], goes (f m0) w0 (fun s1 => !(s1.core 0).l1den) next4 = true) ∧
    goes (.prefetchW m0) pfS (fun s1 => (s1.core 0).l1den && decide (reaches s1 0 0x1000 1 ∧ ownsLine s1 0 32 (dL .e)) &&
      noDbg (s1.prefetchLine 0 ((s1.core 0).rg 4) true false)) (fun t => next4 t && (t.core 0).l2.get? 32 == some (dL .e)) = true := by
  decide +kernel

theorem witness_SpecialRegisterAccess :
    goes (.mfc ⟨0, 0, false, 1, 0, 0x040⟩) w0 (fun s1 => (cregPre 0x040 false (s1.core 0)).isNone && noDbg (s1.mfcRead 0 0x040).2) next4 = true ∧
    (∀ e ∈ [((fun o => .mtc o : RRI → Instr), 0x0C2), (fun o => .cacheEnableChange o, 0x090), (fun o => .accstWrite o, 0x0C2),
      (fun o => .prinvItt o, 0x081), (fun o => .prinvRs o, 0x081)],
      goes (e.1 ⟨0, 0, false, 1, 0, BitVec.ofNat 12 e.2⟩) (g1 5) (fun s1 => (cregPre e.2 true (s1.core 0)).isNone &&
        decide ((s1.core 0).wait = .none) && (s1.core 0).openW == 0 && (s1.core 0).sbuf.isEmpty && (s1.die 0).reqs.isEmpty) next4 = true) ∧
    goes (.cacheopCleaninv ⟨0, 0, false, 1, 0, 0x092⟩) (g1 1) (fun s1 => (cregPre 0x092 true (s1.core 0)).isNone)
      (fun t => (t.core 0).cleaning) = true ∧
    goes (.cacheopInvl1i ⟨0, 0, false, 1, 0, 0x092⟩) (g1 2) (fun s1 => (cregPre 0x092 true (s1.core 0)).isNone) next4 = true ∧
    goes (.ieoi ⟨0, 0, false, 1, 0, 0x0D4⟩) (((g1 7).setSrc 7 ⟨true, some 0⟩).setFd
        .IRT_SRC IRT_SRC.SEC 1 0 7) (fun s1 => (cregPre 0x0D4 true (s1.core 0)).isNone && (s1.src 7).active == some 0)
      (fun t => (t.src 7).active.isNone && (t.src 7).pend) = true := by decide +kernel

/-- Entry 1 of a gate table in the SRAM admits K, to a gate at K at 0x4000 with stack 0x9000; V, KLEVEL, K and PREEMPT. -/
def gateMem : List Host.Cell := cells 0x800100000000 ([0, 0, 0, 0, 0x2B, 0x4000, 0x9000, 0] ++ List.replicate 8 0)
def gateS : State := { withCore { run0 with lvl := .k, sec := false, g := run0.g.set 2 1, creg := run0.creg.set cGTB 0x800100000004 } with
  mem := gateMem }
def frame0 : GateFrame := ⟨false, 1, true, 2, 0, 0x5004, .k, true, false, 0x77, 0x78, 0, 0, ⟨.k, 0, 0, 0⟩⟩
/-- In the gate. -/
def inGate : Core := { run0 with lvl := .k, gate := some frame0, creg := run0.creg.set cSSA 0x800100001000 }
/-- A normal-world source for H is offered while the preemptible call is open. -/
def preS : State := ((((withCore { inGate with offer := some 7 }).setFd .IRT_SRC IRT_SRC.TLVL 2 0 7).setFd .IRT_SRC IRT_SRC.PRIO 3 0 7)).setSrc 7 ⟨true, none⟩

theorem witness_GateCalls :
    goes (.gcall o0) gateS (fun s1 =>
      let c := s1.core 0
      let a := 0x800100000020
      let m := s1.memRead (a / 128)
      let r := s1.homePast 0 opRDC (a / 128) (s1.cdaReq 0 (a / 128) true)
      !c.sec && c.gate.isNone && c.sbuf.isEmpty && decide (homeFree s1 (a / 128) ∧ absent s1 0 (a / 128)) && !touched m.poison 32 32 &&
        !(gateEntry m.data 32).bad && (gateEntry m.data 32).admits .k && r.1.status == .ok && !touched r.1.poison 32 32 &&
        decide (r.2.core 0 = c) && r.1.data == m.data)
      (fun t => (t.core 0).sec && (t.core 0).lvl == .k && taken 0x4000 t && (t.core 0).rg 30 == 0x9000 &&
        (t.core 0).gate.map (·.ret) == some 0x0000800300000004) = true ∧
    goes (.gret o0) (withCore inGate) (fun s1 => (s1.core 0).defErr.isNone && (s1.core 0).stq.isEmpty && (s1.core 0).sbuf.isEmpty)
      (fun t => !(t.core 0).sec && taken 0x5004 t && (t.core 0).rg 30 == 0x77 && (t.core 0).rg 2 == 24 && (t.core 0).rg 3 == 0) = true ∧
    (preS.atBoundary 0 && preS.nextInt 0 == some (7, .preempt) && !(preS.core 0).stepDue && (preS.core 0).defErr.isNone &&
      (preS.core 0).stq.isEmpty && (preS.core 0).sbuf.isEmpty && preS.homes.l.isEmpty &&
      (List.range 40).all (fun k => region (((preS.core 0).cr cSSA).toNat + 0x400 + 128 * k) == .sram)) = true ∧
    hold (exec (.gatePreempt 0) preS) (fun t => (t.core 0).gate.map (·.preempted) == some true && !(t.core 0).sec &&
      (t.src 7).active == some 0 && (t.core 0).cr (bankKey .h false 1) == 0x5000) = true := by decide +kernel


/-- Vector operands with vs2 zero. -/
def o1V : VF := ⟨0, 0, false, 1, 2, 0, true, 0⟩
/-- v2 holds 1.0 in lane 0 of F36; v3 the same. -/
def vS : State := withCore { run0 with v := (run0.v.set 2 0x3F8000000).set 3 0x3F8000000 }

theorem witness_VectorResults :
    (∀ f ∈ [(.fadd : VF → Instr), .fsub, .fmul, .fmin, .fmax, .fma, .fms, .fnma, .fnms, .feq, .flt, .fle, .funord, .fne, .fdiv],
      goes (f ⟨0, 0, false, 1, 2, 3, true, 0⟩) vS any next4 = true) ∧
    (∀ f ∈ [(.fsqrt : VF → Instr), .frint, .vcvtToSigned, .vcvtToUnsigned, .vcvtFromSigned, .vcvtFromUnsigned, .vcvtNative],
      goes (f o1V) vS any next4 = true) ∧
    goes (.fdiv ⟨0, 0, false, 1, 2, 0, true, 0⟩) (withCore { run0 with v := run0.v.set 2 0x3F8000000, creg := run0.creg.set 0x0C0 0xFFFFFFFF })
      any (fun t => (t.core 0).cr (bankKey .m true 3) == BitVec.ofNat 64 xNUMERIC) = true := by decide +kernel

/-- Values: 1 + 1 is 2 (03FF and 0400 patterns of F36), equal lanes are all equal, 1 / 0 sets DZ and INV. -/
theorem test_vector_values :
    hold (exec (.fadd ⟨0, 0, false, 1, 2, 3, true, 0⟩) vS) (fun t => (t.core 0).rv 1 == 0x400000000) = true ∧
    hold (exec (.feq ⟨0, 0, false, 1, 2, 3, true, 0⟩) vS) (fun t => (t.core 0).rg 1 == 0xFFFF) = true ∧
    hold (exec (.vcvtToSigned o1V) vS) (fun t => (t.core 0).rv 1 == 1) = true := by decide +kernel

theorem witness_VectorMovesAndMemory :
    goes (.vmov ⟨0, 0, false, 1, 2, 0, false, 0⟩) vS any next4 = true ∧ (∀ f ∈ [(.vneg : VF → Instr), .vabs], goes (f ⟨0, 0, false, 1, 2, 0, true, 0⟩) vS any next4 = true) ∧
    goes (.vsel ⟨0, 0, false, 1, 2, 3, true, 0⟩) vS any next4 = true ∧ goes (.vbcast ⟨0, 0, false, 1, 2, 0, true, 0⟩) vS any next4 = true ∧
    goes (.vzero ⟨0, 0, false, 1, 0, 0, false, 0⟩) vS any (fun t => (t.core 0).rv 1 == 0) = true ∧
    goes (.vget ⟨0, 0, false, 1, 2, 0, true, 0⟩) vS
      (fun s1 => orFlags [(fpStore fmtF36 fmtB32 ((s1.core 0).rmOf 0) (laneGet true ((s1.core 0).rv 2) 0)).2] &&& (s1.core 0).numEnables == 0)
      (g1is 0x3F800000) = true := by decide +kernel

/-- Core 0 as `vS`, its L2 with line 32 in M. -/
def vD : State :=
  let c := dCore [(32, dL .m)]
  memOn (withCore { c with v := (run0.v.set 2 0x3F8000000).set 3 0x3F8000000 })
/-- Its g4 in the window of a package to which no link is open. -/
def vN : State := withCore { run0 with v := (run0.v.set 2 0x3F8000000).set 3 0x3F8000000, g := run0.g.set 4 0x0080400000000000 }

theorem witness_VectorMovesAndMemory_memory :
    goes (.vld ⟨0, 0, false, 1, 4, 1⟩) vD (fun s1 => decide (reaches s1 0 0x1040 64 ∧ holdsLine s1 0 32 (dL .m))) (fun t => next4 t && (t.core 0).rv 1 == 0) = true ∧
    goes (.vldf ⟨0, 0, false, 1, 4, 0, 3⟩) vD (fun s1 => decide (reaches s1 0 0x1000 (vform 3).bytes ∧ holdsLine s1 0 32 (dL .m))) next4 = true ∧
    runsB (.vst ⟨0, 0, false, 2, 4, 0⟩) 0 0 false vD (fun s1 => decide (reaches s1 0 0x1000 64 ∧ ownsLine s1 0 32 (dL .m)) &&
      orFlags ((vform 2).store ((s1.core 0).rmOf 7) ((s1.core 0).rv 2)).2 &&& (s1.core 0).numEnables == 0) = true ∧
    runsB (.vstf ⟨0, 0, false, 2, 4, 0, 2⟩) 0 0 false vD (fun s1 => decide (reaches s1 0 0x1000 (vform 2).bytes ∧ ownsLine s1 0 32 (dL .m)) &&
      orFlags ((vform 2).store ((s1.core 0).rmOf (vstfRm ⟨0, 0, false, 2, 4, 0, 2⟩)) ((s1.core 0).rv 2)).2 &&& (s1.core 0).numEnables == 0) = true := by
  decide +kernel

theorem witness_VectorMovesAndMemory_any :
    goes (.vld ⟨0, 0, false, 1, 4, 0⟩) vS (fun s1 => Res.fine (s1.loadBytes 0 ((s1.core 0).mAddr ⟨0, 0, false, 1, 4, 0⟩ 64) 64) noDbg) next4 = true ∧
    goes (.vldf ⟨0, 0, false, 1, 4, 0, 3⟩) vS (fun s1 => Res.fine (s1.loadBytes 0 ((s1.core 0).rg 4 + (s1.core 0).rg 0) (vform 3).bytes) noDbg)
      next4 = true ∧
    goes (.vst ⟨0, 0, false, 2, 4, 0⟩) vN (fun s1 =>
      let c := s1.core 0
      let w := (vform 2).store (c.rmOf 7) (c.rv 2)
      match s1.dataPieces 0 (c.mAddr ⟨0, 0, false, 2, 4, 0⟩ 64) 64 needStore .store with
      | (.ok l, s2) => orFlags w.2 &&& c.numEnables == 0 && Res.fine (s2.storeAll 0 (c.mAddr ⟨0, 0, false, 2, 4, 0⟩ 64) w.1 l) noDbg
      | _ => false) next4 = true ∧
    goes (.vstf ⟨0, 0, false, 2, 4, 0, 2⟩) vN (fun s1 =>
      let c := s1.core 0
      let w := (vform 2).store (c.rmOf (vstfRm ⟨0, 0, false, 2, 4, 0, 2⟩)) (c.rv 2)
      match s1.dataPieces 0 (c.rg 4 + c.rg 0) (vform 2).bytes needStore .store with
      | (.ok l, s2) => orFlags w.2 &&& c.numEnables == 0 && Res.fine (s2.storeAll 0 (c.rg 4 + c.rg 0) w.1 l) noDbg
      | _ => false) next4 = true := by decide +kernel

theorem witness_AccumulatorResults :
    goes (.aclr ⟨0, 0, false, 1, 0, 0, false⟩) vS any next4 = true ∧ goes (.amov ⟨0, 0, false, 1, 2, 0, false⟩) vS any next4 = true ∧
    goes (.ainfo ⟨0, 0, false, 1, 0, 2, false⟩) vS any next4 = true ∧
    (∀ e ∈ [((.aadd : AccF → Instr), 0), (.asub, 0), (.aaddg, 0), (.adot, 3), (.adotn, 3)],
      goes (e.1 ⟨0, 0, false, 1, 2, e.2, true⟩) vS (fun s1 => (s1.core 0).numEnables == 0) next4 = true) ∧
    (∀ e ∈ [(.aacc : AccF → Instr), .asuba], goes (e ⟨0, 0, false, 1, 2, 0, false⟩) vS (fun s1 => (s1.core 0).numEnables == 0) next4 = true) ∧
    goes (.arnd ⟨0, 0, false, 1, 2, 0, 0⟩) vS (fun s1 => (s1.core 0).numEnables == 0) next4 = true := by decide +kernel

/-- The exact sum of sixteen lanes of 1.0 by itself rounds to the value of lane 0's product. -/
theorem test_adot_arnd : hold (exec (.adot ⟨0, 0, false, 1, 2, 3, true⟩) vS) (fun t =>
    hold (exec (.arnd ⟨0, 0, false, 5, 1, 0, 8⟩) t) (fun u => laneGet true ((u.core 0).rv 5) 0 == 0x3F8000000)) = true := by decide +kernel

/-- Core 0's L2 holds the five lines from 32 on. -/
def aD : State := dS ((List.range 5).map (fun k => (32 + k, dL .m)))

theorem witness_AccumulatorResults_memory :
    runsB (.asave ⟨0, 0, false, 1, 4, 0⟩) 0 0 false aD (fun s1 => decide (reaches s1 0 0x1000 576) && (List.range 5).all (fun k => decide (ownsLine s1 0 (32 + k) (dL .m)))) = true ∧
    runsB (.aload ⟨0, 0, false, 1, 4, 0⟩) 0 0 false aD (fun s1 => decide (reaches s1 0 0x1000 576) && (List.range 5).all (fun k => decide (holdsLine s1 0 (32 + k) (dL .m)))) = true ∧
    runsB (.asave ⟨0, 0, false, 1, 4, 0⟩) 0 0 false vN (fun s1 => Res.fine (s1.storeBytes 0 ((s1.core 0).rg 4 + (s1.core 0).rg 0) 576
      ((s1.core 0).ra 1).toNat) noDbg) = true ∧
    runsB (.aload ⟨0, 0, false, 1, 4, 0⟩) 0 0 false vS (fun s1 => Res.fine (s1.loadBytes 0 ((s1.core 0).rg 4 + (s1.core 0).rg 0) 576) noDbg) = true ∧
    goes (.apost ⟨0, 0, false, 1, 2, 0, false⟩) vS (fun s1 =>
      let c := s1.core 0
      !s1.tagBad 0 c.dbgSec && c.reply.isNone && c.sbuf.isEmpty && c.stq.isEmpty && !s1.poolEdge.expire && !s1.poolEdge.grant &&
        (s1.slot (c.apostRecord ⟨0, 0, false, 1, 2, 0, false⟩).slot).queue.isEmpty &&
        (match (s1.modCore 0 Core.drainStores).takeRecord (c.apostRecord ⟨0, 0, false, 1, 2, 0, false⟩).slot
        (c.apostRecord ⟨0, 0, false, 1, 2, 0, false⟩) (s1.coreInit 0 c.dbgSec (s1.coreTag 0 apostTag)) with
        | some (_, s3) => noDbg s3
        | none => false)) next4 = true := by decide +kernel

theorem witness_PredicateFalseSkips :
    (∀ i ∈ [Instr.add ⟨0, 1, false, 1, 2, 3⟩, .nop ⟨0, 1, false, 0, 0, 0⟩, .ldd ⟨0, 1, false, 1, 2, 3⟩,
        .atomAdd ⟨0, 1, false, 1, 2, 3, true, 0⟩, .fadd ⟨0, 1, false, 1, 2, 3, true, 0⟩],
      (i.wf && issuesB w0 0 (wordOf i) (fun s1 => !(s1.core 0).executes 1 false) && hold (exec i w0) next4) = true) := by decide +kernel

theorem witness_PrivilegeTraps :
    (∀ f ∈ [(.eret : RRR → Instr), .wfi, .tlbiVa, .tlbiAs, .tlbiAll, .tlbiS2, .tlbsync, .ldrop, .idropall, .swflush],
      issuesB (at0 .u true) 0 (wordOf (f o0)) any = true ∧ hold (exec (f o0) (at0 .u true)) (fun t => (t.core 0).lvl == .m &&
        (t.core 0).cr (bankKey .m true 3) == BitVec.ofNat 64 xPRIV) = true) ∧
    (∀ l ∈ [Level.k, .m], issuesB (at0 l true) 0 (wordOf (.tlbiS2 o0)) any = true ∧
      hold (exec (.tlbiS2 o0) (at0 l true)) (fun t => (t.core 0).cr (bankKey .m true 3) == BitVec.ofNat 64 xPRIV) = true) ∧
    issuesB (at0 .u false) 0 (wordOf (.hcall o0)) any = true ∧ issuesB (at0 .k true) 0 (wordOf (.hcall o0)) any = true ∧
    hold (exec (.hcall o0) (at0 .k true)) (fun t => (t.core 0).cr (bankKey .m true 3) == BitVec.ofNat 64 xILLEGAL) = true ∧
    (∀ i ∈ [Instr.lsi ⟨0, 0, false, 1, 0x10000⟩, .cmp ⟨0, 0, false, 1, 2, 3, 8⟩, .fmin ⟨0, 0, false, 1, 2, 3, false, 1⟩, .aload ⟨0, 0, false, 4, 2, 3⟩],
      issuesB w0 0 (wordOf i) any = true ∧ hold (exec i w0) (fun t => (t.core 0).cr (bankKey .m true 3) == BitVec.ofNat 64 xILLEGAL) = true) := by
  decide +kernel

theorem witness_PackageTime :
    (T.counting && !T.tck.strobe && T.shad.l.isEmpty && T.fd .PWR_STATUS PWR_STATUS.PKG == 0) = true ∧
    (let s := { T with tck := { T.tck with strobe := true } }
     (∀ b ∈ [(Blk.fab, 0), (Blk.pair, 0), (Blk.pwr, 0), (Blk.mem, 15)], crossedBlocks.contains b && s.alive && !s.tck.reached.contains (b.1.base b.2) &&
      (match strobeDom b.1 with | some d => !s.crossing d 0 | none => true))) = true ∧
    (let s := R.setRg 5 .TCK_NEXT
     s.alive && !s.ticking && decide (s.nowNs < (s.rg .TCK_NEXT).toNat) && !s.rwo.contains (RRef.key ⟨.TCK_CTL, 0, 0, 0⟩ TCK_CTL.RUN) &&
      hold (exec .tckRun s) (fun t => t.ticking)) = true ∧
    (let s := R.crossInto 5 3
     s.crossing 5 3 && s.tck.xing.l.any (fun e => e.1 / 65536 == 5) &&
      bitAt ((s.crossInto 5 3).rg .TCK_XOVR) 5) = true ∧
    (let s := { T with tck := { T.tck with negLeft := 10 } }
     s.counting && decide (s.timeU + s.halfCycles * (s.timeInc / 2) < s.nextU) &&
      hold (exec .negativeStepAbsorbed s) (fun t => t.tck.negLeft == 0)) = true ∧
    (T.pending.isEmpty && T.tck.negLeft == 0 && decide (T.timeU + T.fd .TCK_RATE TCK_RATE.RATE < T.nextU) && T.cores.l.isEmpty &&
      hold (step T) (fun t => t.timeU == T.timeU + 2 ^ 31)) = true ∧
    (R.pending.isEmpty && !R.counting && R.cores.l.isEmpty && (List.range 261).all (fun d => R.domState d == 0) &&
      hold (step R) (fun t => t == R)) = true := by decide +kernel

/-- Mode 3, the second due before the edge. -/
def secondS : State := (T.setFd .TCK_IO TCK_IO.OMODE 3).setRg 999999990 .TCK_TIME_NS |>.setRg 1000004000 .TCK_NEXT
/-- A pulse is out. -/
def highS : State := { (T.setRg 70000 .TCK_TIME_NS) with tck := { T.tck with outHigh := true } }

theorem witness_TickContacts :
    (let s := T.setFd .TCK_IO TCK_IO.IEN 1
     s.powered && s.fb .TCK_IO TCK_IO.IEN && s.tck.inLast.isNone) = true ∧
    (let s := (T.setFd .TCK_IO TCK_IO.IEN 1)
     let u := { s with tck := { s.tck with inLast := some (s.nowNs, s.tck.frac) } }
     u.powered && u.fb .TCK_IO TCK_IO.IEN && u.tck.inLast == some (u.nowNs, u.tck.frac)) = true ∧
    (let s := { ((T.setFd .TCK_STATUS TCK_STATUS.LOCK 1).setRg 4000000 .TCK_TIME_NS) with tck := { T.tck with inLast := some (0, 5) } }
     s.counting && s.fb .TCK_STATUS TCK_STATUS.LOCK && decide (4 * s.fd .TCK_PERIOD TCK_PERIOD.NS ≤ s.nowNs) &&
      hold (exec .tickInLockLoss s) (fun t => !t.fb .TCK_STATUS TCK_STATUS.LOCK)) = true ∧
    (secondS.counting && secondS.fd .TCK_IO TCK_IO.OMODE == 3 && secondS.fd .PWR_STATUS PWR_STATUS.PKG == 0 && secondS.tck.negLeft == 0 &&
      decide (0x80000000 - 2147484 ≤ secondS.fd .TCK_RATE TCK_RATE.RATE) && decide (1000000000 * 2 ^ 32 < secondS.nextU) &&
      hold (exec .tickOutSecondPulse secondS) (fun t => t.tck.outHigh && t.tck.outRise == 1000000000 && t.nowNs == 1000000000)) = true ∧
    (highS.counting && highS.tck.outHigh && decide (highS.tck.frac < 2 ^ 32) && highS.fd .TCK_IO TCK_IO.OMODE != 3 &&
      decide (highS.tck.outRise + max 8 (highS.fd .TCK_IO TCK_IO.OWIDTH) ≤ highS.nowNs) &&
      decide ((highS.tck.outRise + max 8 (highS.fd .TCK_IO TCK_IO.OWIDTH)) * 2 ^ 32 < highS.nextU) &&
      hold (exec .tickOutPulseEnd highS) (fun t => !t.tck.outHigh && t.timeU == highS.timeU)) = true := by decide +kernel

theorem witness_TickContactsAndWrites :
    (hold (exec (.tckPeriodWrite 4000) R) (fun t => t.tck.checks.length == 1) &&
      hold (exec (.tckPeriodWrite 4000000) R) (fun t => t.tck.checks.length == 1 &&
        hold (exec .scheduleCheckDone t) (fun u => u.tck.checks.isEmpty && u.shad.get? (RRef.key ⟨.TCK_PERIOD, 0, 0, 0⟩ TCK_PERIOD.NS) ==
          some ⟨TCK_PERIOD.NS, 4000000⟩)) &&
      hold (exec (.tckPeriodWrite 3999) R) (fun t => t.fb .TCK_STATUS TCK_STATUS.PERR) && R.tck.checks.isEmpty && R.shad.l.isEmpty &&
      (List.range 64).all (fun k => !R.fb .NOC_ESLOT NOC_ESLOT.V 0 k) && (List.range 256).all (fun k => !R.fb .FAB_ESLOT FAB_ESLOT.V 0 k)) = true ∧
    (R.fd .TCK_CTL TCK_CTL.TSRC == 0 && hold (exec (.tckRateWrite 0x80000000) R) (fun t => t.fd .TCK_RATE TCK_RATE.RATE == 0x80000000) &&
      hold (exec (.tckRateWrite 0) R) (fun t => t.fb .TCK_STATUS TCK_STATUS.PERR) &&
      (let s := R.setFd .TCK_CTL TCK_CTL.TSRC 1
       s.fd .TCK_CTL TCK_CTL.TSRC == 1 && hold (exec (.tckRateWrite 0x80000000) s) (fun t => t.fb .TCK_STATUS TCK_STATUS.SRCERR))) = true ∧
    (∀ v ∈ [5000, 100], let s0 := if v = 5000 then R else (R.setFd .NOC_ESLOT NOC_ESLOT.V 1 0 0).setFd .NOC_ESLOT NOC_ESLOT.START 200 0 0
     let s := { s0 with tck := { R.tck with checks := [⟨RegKind.TCK_PERIOD.addr, 32, BitVec.ofNat 64 v, none, 0⟩] } }
     (s.alive && (let h : Hit := ⟨⟨.TCK_PERIOD, 0, 0, 0⟩, 0xFFFFFFFF, 0⟩
       let r := ({ s with tck := { s.tck with checks := [] } } : State).checkSchedules h.r (checkedWord s h (BitVec.ofNat 64 v))
       ((r.1 && r.2.1) == (v == 5000)) && hold (exec .scheduleCheckDone s) (fun t => t.tck.checks.isEmpty &&
         t.fb .TCK_STATUS TCK_STATUS.PREJ == (v == 100)))) = true) ∧
    (∀ e ∈ [(RegKind.TCK_TIME_NS.addr, 64), (RegKind.TCK_TIME_NS.addr, 32), (RegKind.TCK_TIME_NS.addr + 4, 32)],
      (T.powered && T.ticking && T.replyPasses swI.node swI.gen && hold (exec (.tckTimeNsRead swI e.1 e.2) T) (fun t => t.net.taken.length == 2)) = true) := by
  decide +kernel

theorem witness_WorldsAndSources :
    (resourceOk 1 4095 && hold (exec (.wldQuery nwI 1 4095) R) (fun t => t.fd .WLD_HSTAT WLD_HSTAT.STATUS == 0)) = true ∧
    (resourceOk 1 7 && R.ownerOf 1 7 == .n && hold (exec (.handoverRelease nwI 1 7) R) (fun t => t.ownerOf 1 7 == .resetting)) = true ∧
    (resourceOk 2 1023 && hold (exec (.handoverRelease nwI 2 1023) R) (fun t => t.ownerOf 2 1023 == .resetting)) = true ∧
    (resourceOk 3 228 && hold (exec (.handoverRelease nwI 3 228) R) (fun t => t.ownerOf 3 228 == .resetting)) = true ∧
    (hold (exec (.handoverResetDone 1 9) (R.setOwner 1 9 .resetting)) (fun t => t.ownerOf 1 9 == .free)) = true ∧
    (∀ b ∈ [true, false], let s := R.setOwner 1 9 .free
      (!s.resourceHeld 1 9 && hold (exec (.wldClaim (if b then swI else nwI) 1 9 true) s) (fun t => t.ownerOf 1 9 == (if b then .s else .n))) = true) ∧
    (let s := R.setFd .IRT_SRC IRT_SRC.SEC 1 0 0x601
     srcEdge 0x600 && !srcEdge 0x5FF &&
      hold (exec (.irtTrig nwI 0x600) R) (fun t => hold (exec (.irtClrp nwI 0x600) t) (fun u => (t.src 0x600).pend && !(u.src 0x600).pend)) &&
      hold (exec (.irtTrig nwI 0x601) s) (fun t => !(t.src 0x601).pend && t.fd .WLD_VIOL WLD_VIOL.KIND == 5) &&
      hold (exec (.sourceEvent 0x600) R) (fun t => (t.src 0x600).pend) && hold (exec (.sourceEvent 0x5FF) R) (fun t => t == R)) = true := by
  decide +kernel

/-- A core at K of the normal world with IE set and an offered source 0x600 of priority 3 for K. -/
def irqS : State := ((withCore { run0 with lvl := .k, sec := false, ie := true, offer := some 0x600 }).setFd .IRT_SRC IRT_SRC.PRIO 3 0 0x600).setSrc
  0x600 ⟨true, none⟩

theorem witness_EventsAtACore :
    (w0.alive && (w0.core 0).run == .run && w0.domState 0 == 0 && hold (exec (.irqOffer 0) w0) (fun t => (t.core 0).offer.isNone)) = true ∧
    (irqS.atBoundary 0 && irqS.nextInt 0 == some (0x600, .take .k) &&
      hold (exec (.interruptTaken 0) irqS) (fun t => (t.core 0).cr (bankKey .k false 3) == 0x8000000000000600 && taken 0x100 t &&
        (t.src 0x600).active == some 0 && !(t.src 0x600).pend)) = true ∧
    (let s := withCore { run0 with defErr := some ⟨3, 0x123, 2⟩ }
     s.atBoundary 0 && hold (exec (.deferredBuserr 0) s) (fun t => (t.core 0).cr (bankKey .m true 3) == BitVec.ofNat 64 xBUSERR &&
      (t.core 0).cr (bankKey .m true 4) == 0x123 && (t.core 0).cr (bankKey .m true 5) == 0x150003)) = true ∧
    (let s := withCore { run0 with stepDue := true }
     s.atBoundary 0 && hold (exec (.singleStepTrap 0) s) (fun t => (t.core 0).cr (bankKey .m true 3) == BitVec.ofNat 64 xSTEP)) = true ∧
    (hold (exec (.storeStatusReturn 0) (withCore { run0 with stq := [⟨3, 0x40⟩] })) (fun t => (t.core 0).defErr == some ⟨3, 0x40, 0⟩)) = true ∧
    (let s := irqS.setCore 0 { irqS.core 0 with run := .wfi }
     !s.pairStopped 0 && (s.core 0).offers.any (fun m => s.intAct 0 m true != .no) && hold (exec (.wfiWake 0) s) next4) = true := by decide +kernel

def dbgS : State := R.setFd .WLD_DBGEN WLD_DBGEN.SLVL 2
def withDbg (c : Core) : State := dbgS.setCore 0 c

/-- The prefetchers of core 0 have a stream in page 1; the system cache holds line 32. -/
def pfC : State :=
  { (memOn (withCore { run0.setCr cCACHECTL 0x1E with pf1 := [1], pf2 := [1] })).setFd .MSC_CTL MSC_CTL.EN 1 (homeOf 32) with
    msc := ⟨[(32, ⟨.s, 5, 0⟩)]⟩ }

theorem witness_RunControl :
    (hold (exec (.coreRelease 0) R) (fun t => (t.core 0).run == .run)) = true ∧ (hold (exec (.haltreq 0) R) (fun t => (t.core 0).haltReq)) = true ∧
    (let s := withDbg { run0 with haltReq := true }
     s.atBoundary 0 && s.dbgControl 0 && hold (exec (.debugHalt 0) s) (fun t => (t.core 0).run == .halted)) = true ∧
    (let s := withDbg { run0 with run := .halted }
     s.dbgControl 0 && hold (exec (.resume 0) s) (fun t => (t.core 0).run == .run) &&
      (let w := (encode (.add o0)).getD 0
       decodeWord 0 w == some (.add o0) && (s.core 0).executes 0 false && !(s.core 0).dbg && (s.core 0).dbgQ.isEmpty && !(s.core 0).resumeDue &&
        (s.core 0).wait == .none &&
        hold (exec (.cDbginst 0 w) s) (fun t => (t.core 0).rg 1 == 29 && taken 0x0000800300000000 t))) = true ∧
    (decide (w0.domState 0 < 3) && hold (exec (.creset 0) w0) (fun t => (t.core 0).run == .resetting &&
      hold (exec (.coreResetDone 0) t) (fun u => u.core 0 == Core.reset))) = true ∧
    (let s := withCore { run0 with wait := .cleaninv, cleaning := true }
     s.coreLive 0 && (s.core 0).l2.l.isEmpty && !(s.core 0).dbg && (s.die 0).wb.all (fun e => !e.dirty) && hold (exec (.cleaninvDone 0) s) next4) = true ∧
    (((withCore { run0 with mispred := true }).core 0).mispred) = true ∧
    (w0.coreLive 0 && !w0.pairStopped 0 && !(w0.core 0).l2en && hold (exec (.hwPrefetch 0 0 true) w0) (fun t => t == w0)) = true ∧
    (pfC.coreLive 0 && !pfC.pairStopped 0 && bitAt ((pfC.core 0).cr cCACHECTL) 4 && bitAt ((pfC.core 0).cr cCACHECTL) 3 && (pfC.core 0).l2en &&
      (pfC.core 0).l1den && (pfC.core 0).pf1.contains 1 && (pfC.core 0).pf2.contains 1 && decide (reaches pfC 0 0x1000 1 ∧ homeFree pfC 32) &&
      (pfC.core 0).l1d.l.isEmpty && (pfC.core 0).l1dRet.isEmpty && (pfC.core 0).l2.l.isEmpty && pfC.upsets.l.isEmpty && pfC.dies.l.isEmpty &&
      pfC.homes.l.isEmpty && pfC.fb .MSC_CTL MSC_CTL.EN (homeOf 32) && (pfC.msc.get? 32).map (fun m => m.poison) == some 0) = true := by
  decide +kernel

/-- A core's write of TCK_PERIOD completes when its check is done (02 R51). -/
theorem test_checked_write_waits :
    (let x : Xlated := ⟨0x800000000010, 2, true⟩
     let s1 := (w0.regPiece 0 x 4 true 5000).2
     (match (w0.regPiece 0 x 4 true 5000).1 with | .wait => true | _ => false) && s1.tck.checks.length == 1 && (s1.core 0).reply == none &&
     hold (exec .scheduleCheckDone s1) (fun t => (t.core 0).reply.isSome && t.tck.checks.isEmpty &&
       (match (t.regPiece 0 x 4 true 5000).1 with | .line _ _ => true | _ => false))) = true := by decide +kernel

/-- A transition of domain `d` to state `g` in phase `p`. -/
def moving (d g p : Nat) : State := { R with pwr := { R.pwr with trans := ⟨[(d, ⟨g, p⟩)]⟩ } }

theorem witness_DomainTransitions :
    (R.ownerOf 2 3 == .n && R.pwr.trans.l.isEmpty && hold (exec (.pwrVoteWrite nwI 3 0x1005) R) (fun t => t.rg .PWR_VOTE 0 3 == 0x1005) &&
      hold (exec (.pwrVoteWrite swI 3 0x1005) R) (fun t => t.fd .WLD_VIOL WLD_VIOL.KIND == 4)) = true ∧
    (let s := moving 0 4 1
     s.pwr.trans.get? 0 == some ⟨4, 1⟩ && (s.core 0).sbuf.isEmpty && (s.core 0).l2.l.isEmpty &&
      hold (exec (.domainCleanDone 0) s) (fun t => t.fence 0 == t.fence (coreNode 0) && t.fence (coreNode 0) == 1)) = true ∧
    (let s := moving 0 4 2
     !s.domBusy 0 && hold (exec (.fenceDrained 0) s) (fun t => t.fence (coreNode 0) == 3)) = true ∧
    (hold (exec (.domainEntryDone 227) (moving 227 4 3)) (fun t => t.domState 227 == 4)) = true ∧
    (hold (exec (.domainExitDone 216) (moving 216 0 4)) (fun t => t.domState 216 == 0 && (t.pwr.trans.get? 216).isNone)) = true := by
  decide +kernel

def sleepS : State := R.setFd .PWR_STATUS PWR_STATUS.PKG 2

theorem witness_PackagePower :
    (∀ e ∈ [((.pkgSleep : Init → Instr), 1), (.pkgDeep, 2), (.pkgOff, 3)],
      (hold (exec (e.1 nwI) R) (fun t => t.pwr.cmd == some (e.2, true) && hold (exec (e.1 nwI) t) (fun u => u.fb .PWR_STATUS PWR_STATUS.CMDREJ) &&
        hold (exec (.pkgCancel nwI) t) (fun u => u.pwr.cmd.isNone))) = true) ∧
    (let s := sleepS.setRg 15 .PWR_WAKEEN
     s.pkgAsleep && s.wakeHolds 0 && s.wakeHolds 2 && s.wakeHolds 3 &&
      hold (exec (.pkgWake 3) s) (fun t => t.pwr.exiting && hold (exec .pkgExitDone t) (fun u => u.fd .PWR_STATUS PWR_STATUS.PKG == 0))) = true ∧
    (R.powered && !(R.setRg (setF (setF 0 PWR_POWER.SAMPLE 600) PWR_POWER.AVG 500) .PWR_POWER).powerThreat &&
      hold (exec (.powerSample 600 500) R) (fun t => t.fd .PWR_POWER PWR_POWER.AVG == 500) && decide (R.powerLimit < 1200) &&
      hold (exec (.powerSample 1151 1200) (withCore run0)) (fun t => t.fd .PWR_POWER PWR_POWER.AVG == 1200 && t.fd .PWR_DOM PWR_DOM.GFREQ 0 0 == 23)) = true ∧
    (let s := (R.setFd .PWR_DOM PWR_DOM.FREQ 36 0 0).setFd .PWR_DOM PWR_DOM.GFREQ 10 0 0
     decide (s.fd .PWR_DOM PWR_DOM.GFREQ 0 0 < s.freqOf 0) && !s.powerThreat && !s.prochotActs &&
      hold (exec (.freqRaise 0) s) (fun t => t.fd .PWR_DOM PWR_DOM.GFREQ 0 0 == 11)) = true ∧
    (let s := R.setFd .PWR_LIMIT PWR_LIMIT.PHEN 1
     s.alive && s.fb .PWR_LIMIT PWR_LIMIT.PHEN) = true := by decide +kernel

/-- Every domain off but for the channels, which hold themselves, and OFF waits. -/
def offS : State := { R with regs := ⟨(List.range 261).map (fun d => (RegKind.PWR_DOM.addr 0 d, setF 0 PWR_DOM.STATE 4))⟩, pwr := { R.pwr with cmd := some (3, true) } }

theorem witness_PackagePower_off : (offS.alive && offS.pkgReady 3 true) = true := by decide +kernel

def haltS : State := { R with err := { R.err with stopped := true, halted := true } }

theorem witness_ErrorRecordsAndStop :
    (hold (exec (.erbAcknowledge 325) R) (fun t => t.rg .ERB_REC (nthBank 325).1 (nthBank 325).2 == 0)) = true ∧
    (hold (exec (.dstopForce swI) R) (fun t => t.err.stopped && t.fd .ERB_DSTOP ERB_DSTOP.CAUSE == 7 &&
      hold (exec .domainStop t) (fun u => u.err.halted && u.pins.catErr)) &&
      hold (exec (.dstopForce nwI) R) (fun t => t.fd .WLD_VIOL WLD_VIOL.KIND == 1 && !t.err.stopped)) = true ∧
    (!haltS.err.flushed && hold (exec .dstopChannelFlush haltS) (fun t => t.err.flushed)) = true ∧
    (!haltS.err.stopLogged && haltS.err.logq.isEmpty && hold (exec .dstopLog haltS) (fun t => t.err.stopLogged && t.err.logq.length == 1)) = true ∧
    (let r : LogRec := ⟨1, 0, 0, 0, 0, 0, 0, 0⟩
     let b := memOn (R.setFd .ERB_LOG ERB_LOG.NEXTSEQ 5)
     let s := { b with err := { R.err with logq := [r], second := 0, written := 999 } }
     let h := { b with err := { R.err with logq := [r], second := 0, written := 999, stopped := true, halted := true } }
     let u := { b with err := { R.err with logq := [r], second := 0, written := 1000 } }
     s.boot.pwrok && !s.pwr.tripped && s.fd .ERB_LOG ERB_LOG.NEXTSEQ == 5 && decide (homeFree s (logAddr 4 / 128)) &&
     hold (exec .logRecordWrite s) (fun t => t.err.dropSince == 0 && t.fd .ERB_LOG ERB_LOG.NEXTSEQ == 6) &&
     hold (exec .logRecordWrite h) (fun t => t.err.dropSince == 0 && t.fd .ERB_LOG ERB_LOG.NEXTSEQ == 6) &&
     hold (exec .logRecordWrite u) (fun t => t.err.dropSince == 1)) = true := by
  decide +kernel

theorem witness_ManagementPorts :
    (R.portsOn && hold (exec (.i3cRegrd 0 2) R) (fun t => t.tap.i3cResp == [2]) && hold (exec (.i3cRegwr 0 16 0) R) (fun t => t.tap.i3cResp == [2])) = true ∧
    (let off := 0x1F00004
     (R.sideHit 0xFFFFFFF0 32).isNone && hold (exec (.i3cRegrd 0xFFFFFFF0 4) R) (fun t => t.tap.i3cResp == [1, 0, 0, 0, 0]) &&
      hold (exec (.i3cRegwr 0xFFFFFFF0 4 0) R) (fun t => t.tap.i3cResp == [1]) && decide (off < 2 ^ 32)) = true ∧
    ((R.sideHit RegKind.TCK_PERIOD.addr 32).isSome && hold (exec (.i3cRegrd RegKind.TCK_PERIOD.addr 4) R) (fun t => t.tap.i3cResp.length == 5) &&
      hold (exec (.i3cRegwr RegKind.TCK_CTL.addr 4 0) R) (fun t => t.tap.i3cResp == [0])) = true ∧
    (hold (exec (.jtagExtest 5) R) (fun t => t.tap.cells == 5) && hold (exec (.jtagSamplePreload 6) R) (fun t => t.tap.cells == 6) &&
      hold (exec .jtagIdcode R) (fun t => t.tap.ir == 2) && hold (exec .jtagClamp R) (fun t => t.tap.drive == 1) &&
      hold (exec .jtagHighz R) (fun t => t.tap.drive == 2) && hold (exec .jtagBypass R) (fun t => t.tap.ir == 0xFF) &&
      hold (exec (.jtagDiesel 11) R) (fun t => t.tap.diesel == 11)) = true ∧
    ((R.sideHit 0xFFFFFFF0 32).isNone && hold (exec (.jtagRegacc 0xFFFFFFF0) R) (fun t => t.tap.dr.toNat / 2 ^ 68 == 1)) = true ∧
    (let s := { R with boot := { R.boot with resetN := false } }
     s.boot.pwrok && decide (s.tap.diesel < 12) && !s.tap.standalone.contains s.tap.diesel &&
      hold (exec .jtagStandalone s) (fun t => t.tap.standalone == [s.tap.diesel])) = true := by decide +kernel

def upP : PortRef := ⟨true, 3, 2⟩
/-- Port 2 of site 3 is in state `st` on both sides. -/
def portS (st : Nat) : State := ((R.setPst upP D2D_PSTAT.STATE st).setPst (portOther upP) D2D_PSTAT.STATE st).setPst upP D2D_PSTAT.WIDTH 16

/-- A link's training result: everything works, of major level `m`; `bad` lanes fail at the hub. -/
def trn (m : Nat) (bad : List Nat) : TrainInfo := ⟨[], bad, m, 1, 0x1F, 0, 0⟩
def widthOf (t : TrainInfo) : Nat :=
  portWidth ((hubFeat &&& t.feat).testBit 1) ((List.range 16).filter (fun j => blockState ((hubFeat &&& t.feat).testBit 0)
    ((failedLanes t).filter (fun k => k / 36 == j)) != 3)).length
def okFlit : FlitIn := ⟨0, 0, false, 2, false, 1, 3, false, 77⟩

theorem witness_DieToDiePorts :
    ((List.range 12).all (fun d => R.boot.pwrok && !(R.die d).sampled && siteCodeOk (BitVec.ofNat 16 (siteCode d)))) = true ∧
    hold (exec (.siteCodeSample 3 (BitVec.ofNat 16 (siteCode 3))) R) (fun t => (t.die 3).sampled && t.pstate upP == 1 &&
      t.fd .D2D_SITE D2D_SITE.ROT 3 == siteRot 3) = true ∧
    (!siteCodeOk 0xA53C && hold (exec (.siteCodeSample 3 0xA53C) R) (fun t => (t.core 71).run == .resetting)) = true ∧
    ((portS 2).pstate upP == 2 && !(portS 2).dead && !((portS 2).pside upP).stopped &&
      okFlit.wstamp.val == widthCode ((portS 2).pst upP D2D_PSTAT.WIDTH) && okFlit.seq % 4096 == (((portS 2).pside upP).lastGood + 1) % 4096 &&
      ((portS 2).pside upP).queue.isEmpty && !((portS 2).pside upP).nakDue &&
      hold (exec (.flitReceive upP okFlit) (portS 2)) (fun t => (t.pside upP).rx.length == 1) &&
      hold (exec (.flitReceive upP { okFlit with ctrl := true }) (portS 2)) (fun t => (t.pside upP).rx.length == 0) &&
      hold (exec (.flitReceive upP { okFlit with crcBad := true }) (portS 2)) (fun t => (t.pside upP).rx.isEmpty &&
        t.fd .D2D_ERRCNT D2D_ERRCNT.CRCERR (portInst upP) (t.pidx upP) == 1)) = true ∧
    (((portS 2).pside upP).replay.isEmpty && ((portS 2).pside upP).naks == 0 && decide (0 < (portS 2).replayCap upP)) = true ∧
    (hold (exec (.nakReceive upP 5) (portS 2)) (fun t => (t.pside upP).replay.isEmpty)) = true ∧
    (hold (exec (.controlFlitTimer upP) (portS 2)) (fun t => (t.pside upP).nextSeq == 1)) = true ∧
    (hold (exec (.d2dRetrain upP) (portS 2)) (fun t => t.pstate upP == 3)) = true ∧
    (let s := ((portS 2).setPst (portOther upP) D2D_PSTAT.STATE 3).setFd .D2D_SITE D2D_SITE.CODE_OK 1 3
     s.pstate upP == 2 && s.pstate (portOther upP) == 3 && s.trainable 3 &&
      hold (exec (.retrainPatternDetect upP) s) (fun t => t.pstate upP == 3)) = true ∧
    (hold (exec (.phyrst upP) (portS 2)) (fun t => t.pst upP D2D_PSTAT.WIDTH == 16)) = true ∧
    (let s := (portS 1).setFd .D2D_SITE D2D_SITE.CODE_OK 1 3
     !s.dead && s.inTraining 3 2 && s.fd .IDN_DIE_REV IDN_DIE_REV.D2D_MAJOR 0 4 == 0 && s.fd .IDN_DIE_REV IDN_DIE_REV.FEAT 0 4 == 0 &&
      widthOf (trn 2 []) == 16 && widthOf (trn 1 []) == 16 && widthOf (trn 2 (List.range 576)) == 0) = true ∧
    ((portS 1).pstate upP == 1 && hold (exec (.trainingFail 3 2) (portS 1)) (fun t => t.pst upP D2D_PSTAT.FAILS == 1) &&
      (let s := (portS 1).setPst upP D2D_PSTAT.FAILS 2
       s.pstate upP == 1 && s.pst upP D2D_PSTAT.FAILS == 2)) = true ∧
    ((portS 2).alive && hold (exec (.d2dPortEnable upP false) (portS 2)) (fun t => t.pstate upP == 0 && t.pstate (portOther upP) == 0)) = true ∧
    (let s := (portS 0).setFd .D2D_SITE D2D_SITE.CODE_OK 1 3
     s.pstate upP == 0 && s.trainable 3 && hold (exec (.d2dPortEnable upP true) s) (fun t => t.pstate upP == 3) &&
      hold (exec (.d2dPortEnable upP false) s) (fun t => t.pstate upP == 0)) = true := by
  refine ⟨?_, ?_, ?_, ?_, ?_, ?_, ?_, ?_, ?_, ?_, ?_, ?_, ?_, ?_⟩ <;> decide +kernel

theorem test_training_done : (let s := (portS 1).setFd .D2D_SITE D2D_SITE.CODE_OK 1 3
    hold (exec (.trainingDone 3 2 (trn 2 [])) s) (fun t => t.pstate upP == 2 && t.pst upP D2D_PSTAT.WIDTH == 16) &&
    hold (exec (.trainingDone 3 2 (trn 1 [])) s) (fun t => t.pstate upP == 6)) = true := by decide +kernel

/-- Home 5 has a tracker of tag 6 that snoops die 0. -/
def snpS : State := R.setHome 5 { Home.reset with trk := [{ trk0 with tag := 6, snoops := [0] }] }

theorem witness_NetworkRows :
    (hold (exec (.quarantineEnd 5 6) { R with net := { R.net with quar := [⟨5, 6, 0⟩, ⟨5, 7, 0⟩] } }) (fun t => t.net.quar.length == 1)) = true ∧
    (let s := { R with net := { R.net with quar := [⟨5, 6, 0⟩] } }
     s.quarantined 5 6 && hold (exec (.lateReply 5 6) s) (fun t => t.net.quar.isEmpty)) = true ∧
    (R.genOf 5 != 1 && hold (exec (.staleReply 5 1 6) R) (fun t => t.fd .NOC_AGENT NOC_AGENT.STALECNT 0 0 5 == 1)) = true ∧
    (hold (exec (.fenceAnswer 5 6 7 false) (R.setFence 5 2)) (fun t => t.net.msgs.map (·.status) == [.targetReset]) &&
      hold (exec (.fenceAnswer 5 6 7 false) (R.setFence 5 1)) (fun t => t.net.msgs.map (·.status) == [.targetOff]) &&
      hold (exec (.fenceAnswer 5 6 7 true) (R.setFence 5 3)) (fun t => t.net.msgs.isEmpty)) = true ∧
    (R.alive && hold (exec .routeArm (R.setFd .NOC_RT_STATUS NOC_RT_STATUS.DRAINED 1)) (fun t => t.fb .NOC_RT_CTL NOC_RT_CTL.ARM) &&
      hold (exec .routeArm (R.setFd .NOC_RT_STATUS NOC_RT_STATUS.DRAINED 0)) (fun t => t.fb .NOC_RT_STATUS NOC_RT_STATUS.ARMERR)) = true ∧
    (R.net.msgs.isEmpty && hold (exec .routeDrained R) (fun t => t.fd .NOC_RT_STATUS NOC_RT_STATUS.DRAINED == 1)) = true ∧
    (let s := ((T.setFd .NOC_ECTL NOC_ECTL.EN 1).setFd .NOC_ESLOT NOC_ESLOT.V 1 0 63).setFd .NOC_ESLOT NOC_ESLOT.BYTES 2 0 63
     s.alive && s.ticking && s.fb .NOC_ECTL NOC_ECTL.EN && s.fb .NOC_ESLOT NOC_ESLOT.V 0 63 && !s.net.estarted.contains 63 &&
      decide (s.frameInstant (s.fd .NOC_ESLOT NOC_ESLOT.START 0 63) < s.nextU) &&
      hold (exec (.eslotStart 63) s) (fun t => t.net.eslots.get? 63 == some 128)) = true := by
  refine ⟨?_, ?_, ?_, ?_, ?_, ?_, ?_⟩ <;> decide +kernel

/-- The pool on, slot 31 in state `st` with value `v`, 16 GiB of DRAM per channel. -/
def slotS (st : Nat) : State := (((R.setFd .PRL_CTL PRL_CTL.EN 1).setFd .MEM_CFG MEM_CFG.CAP 1).setSlotState 31 st).setSlot 31 { Slot.reset with value := 3 }

theorem witness_PoolCommands :
    (∀ st ∈ [0, 1, 2, 3], (slotS st).hears 31 nwI ∧ (slotS st).slotState 31 = st) ∧
    ((slotS 1).slotFd 31 PRL_SLOT_STAT.OKIND != 3 && !(slotS 1).fb .PRL_SLOT_CTL PRL_SLOT_CTL.ADUMP 0 31 &&
      hold (exec (.slotSeal 31 nwI) (slotS 1)) (fun t => t.slotState 31 == 2) && hold (exec (.slotSeal 31 nwI) (slotS 2)) (fun t =>
        t.slotFd 31 PRL_SLOT_STAT.CERR == 1)) = true ∧
    (hold (exec (.slotClear 31 nwI) (slotS 2)) (fun t => t.slotState 31 == 1 && (t.slot 31).value == 0) &&
      hold (exec (.slotRound 31 nwI 4 3) (slotS 2)) (fun t => (t.slot 31).round.isSome) &&
      hold (exec (.slotRelease 31 nwI) (slotS 2)) (fun t => t.slotState 31 == 3) &&
      hold (exec (.slotRenew 31 nwI 1) (slotS 2)) (fun t => t.fd .PRL_SLOT_LEASE PRL_SLOT_LEASE.EXPF 0 31 == 1)) = true ∧
    ((slotS 2).dumpOk ((slotS 2).dumpAddr 31) && hold (exec (.slotDump 31 nwI) (slotS 2)) (fun t => (t.slot 31).dump.isSome) &&
      (let s := (slotS 2).setFd .PRL_SLOT_DADDR PRL_SLOT_DADDR.ADDR (2 ^ 40) 0 31
       !s.dumpOk (s.dumpAddr 31) && hold (exec (.slotDump 31 nwI) s) (fun t => t.slotFd 31 PRL_SLOT_STAT.CERR == 1))) = true ∧
    (let s := (slotS 1).setSlotFd 31 PRL_SLOT_STAT.SEC 1
     s.slotFd 31 PRL_SLOT_STAT.SEC == 1 && hold (exec (.slotSeal 31 nwI) s) (fun t => t.fb .WLD_VIOL WLD_VIOL.VALID)) = true := by
  refine ⟨?_, ?_, ?_, ?_, ?_⟩ <;> decide +kernel

def rec0 : Record := ⟨31, 0, 0, 0, false, 0, false, 5, true⟩

theorem witness_PoolRecords :
    (slotS 1).settled ∧
    (let s := slotS 1
     s.alive && decide (recordCount (s.slot 31).queue < 8) && rec0.mbz && s.fb .PRL_CTL PRL_CTL.EN && rec0.epoch == s.slotFd 31 PRL_SLOT_STAT.EPOCH &&
      s.slotFd 31 PRL_SLOT_STAT.SEC == 0 && !s.slotForeign 31 nwI && s.fd .PRL_SLOT_CNT PRL_SLOT_CNT.EXPECT 0 31 == 0 &&
      hold (exec (.contributionRecord 31 rec0 nwI false) s) (fun t => (t.slot 31).queue == [.record rec0] &&
        hold (exec (.recordAdded 31) t) (fun u => (u.slot 31).value == 8)) &&
      hold (exec (.contributionRecord 31 { rec0 with lo := 1 } nwI false) s) (fun t => t.fd .PRL_SLOT_CNT PRL_SLOT_CNT.REFUSED 0 31 == 1) &&
      hold (exec (.contributionRecord 31 { rec0 with epoch := 1 } nwI false) s) (fun t => t.fd .PRL_SLOT_CNT PRL_SLOT_CNT.REFUSED 0 31 == 1)) = true ∧
    (nodeDma 0xF3F == some 207 && hold (exec (.portWrite ⟨0xF3F, false, 0xFF, 0, 0⟩ 31 0 64 31) (slotS 1)) (fun t => (t.slot 31).port.isSome)) = true ∧
    (nodeDma nwI.node == none && hold (exec (.portWrite nwI 31 0 64 31) (slotS 1)) (fun t => (t.slot 31).port.isNone)) = true ∧
    (let s := (slotS 1).setSlot 31 { Slot.reset with round := some (7, 0, 0) }
     !s.dead && hold (exec (.roundResult 31) s) (fun t => t.rg .PRL_SLOT_RES 0 31 == 7)) = true := by
  refine ⟨?_, ?_, ?_, ?_, ?_⟩ <;> decide +kernel

/-- The writes of a dump outside the DRAM change nothing. -/
theorem dumpSome_outside (s : State) (d : DumpRun) (sec : Bool) (h : ∀ k, k < 5 → region (d.addr + 128 * k) ≠ .dram) :
    (s.dumpSome d sec).regs = s.regs ∧ (s.dumpSome d sec).slots = s.slots := by
  have e : List.range 5 = [0, 1, 2, 3, 4] := rfl
  have w : ∀ (t : State) (k : Nat), k < 5 → (t.dumpWrite d sec k).2 = t := fun t k hk => by simp [State.dumpWrite, h k hk]
  simp [State.dumpSome, e, w, State.drawBit]

/-- A dump of slot 31 is abandoned. -/
def lateS : State := { (slotS 3).setSlot 31 { Slot.reset with dump := some ⟨9, 0x800000000000⟩ } with poolEdge := ⟨false, [31], false, []⟩ }

theorem witness_PoolLeases_abandon : lateS.dead = false ∧ lateS.poolEdge.late = [31] ∧ (lateS.slot 31).dump = some ⟨9, 0x800000000000⟩ ∧
    lateS.slotState 31 = 3 ∧ (lateS.slot 31).queue = [] ∧
    (let u := State.dumpSome { lateS with poolEdge := { lateS.poolEdge with late := [] } } ⟨9, 0x800000000000⟩ (lateS.slotFd 31 PRL_SLOT_STAT.SEC == 1)
     u.slotState 31 = 3 ∧ (u.slot 31).queue = []) := by
  refine ⟨by decide +kernel, by decide +kernel, by decide +kernel, by decide +kernel, by decide +kernel, ?_⟩
  obtain ⟨h1, h2⟩ := dumpSome_outside { lateS with poolEdge := { lateS.poolEdge with late := [] } } ⟨9, 0x800000000000⟩
    (lateS.slotFd 31 PRL_SLOT_STAT.SEC == 1) (by decide +kernel)
  refine ⟨?_, ?_⟩
  · simp only [State.slotState, State.fd, State.rg, h1]
    decide +kernel
  · simp only [State.slot, h2]
    decide +kernel

/-- A dump of slot 31 to line 32 of trained memory is due. -/
def dumpS : State := memOn ((slotS 2).setSlot 31 { Slot.reset with dump := some ⟨9, 0x1000⟩ })

theorem witness_PoolLeases :
    (let s := { (slotS 1).setFd .PRL_SLOT_LEASE PRL_SLOT_LEASE.EXPF (2 ^ 48 - 1) 0 31 with poolEdge := ⟨true, [], false, []⟩ }
     !s.dead && (List.range 32).all (fun k => s.slotFd k PRL_SLOT_STAT.OKIND != 3) && hold (exec .leaseExpiry s) (fun t => t.slotState 31 == 3)) = true ∧
    ((slotS 3).slotState 31 == 3 && hold (exec (.slotWiped 31) (slotS 3)) (fun t => t.slotState 31 == 0 && (t.slot 31).value == 0)) = true ∧
    (!dumpS.dead && decide dumpS.settled && (dumpS.slot 31).dump == some ⟨9, 0x1000⟩ && (dumpS.slot 31).queue.isEmpty &&
      decide (0x1000 + 640 ≤ dumpS.installed) && dumpS.msc.l.isEmpty && (List.range 5).all (fun k => decide (homeFree dumpS (32 + k) ∧
        (dumpS.home (homeOf (32 + k))).dir.get? (32 + k) = none))) = true ∧
    (let s := (slotS 2).setSlot 31 { Slot.reset with dump := some ⟨9, 0x800000000000⟩ }
     let r := s.dumpLines ⟨9, 0x800000000000⟩ false
     !r.1 && !r.2.1 && (r.2.2.slot 31).queue.isEmpty && hold (exec (.dumpDone 31) s) (fun t => t.slotFd 31 PRL_SLOT_STAT.DEV == 1 &&
       t.slotFd 31 PRL_SLOT_STAT.DERR == 1)) = true ∧
    (let q : Waiter := ⟨1, 0, 5, 0, false, 0, 15⟩
     let s : State := { (slotS 0).setRg 32 .PRL_PQUOTA 0 0 with poolEdge := ⟨false, [], true, [31]⟩, waitq := [q] }
     s.slotState 31 == 0 && decide (s.prlHolding 1 0 < s.prlQuota 1 0) && hold (exec .waiterGrant s) (fun t => t.slotState 31 == 1 && t.waitq.isEmpty)) = true := by
  refine ⟨?_, ?_, ?_, ?_, ?_⟩ <;> decide +kernel

/-- Tag 15, lease 1, owner partition 0 (05 R160), with WAIT. -/
def grantW (wait lease : Nat) : Word :=
  setF (setF (setF (setF 0 PRL_GRANT.TAG 15) PRL_GRANT.OKIND 1) PRL_GRANT.LEASE lease) PRL_GRANT.WAIT wait
def quotaS : State := (slotS 0).setRg 32 .PRL_PQUOTA 0 0
/-- No slot is free. -/
def fullS : State := (List.range 32).foldl (fun s k => (s.setSlotState k 1).setSlotFd k PRL_SLOT_STAT.OKIND 3) quotaS

theorem witness_PoolGrants :
    quotaS.settled ∧
    (hold (exec (.prlGrant nwI (grantW 0 1)) (quotaS.setFd .PRL_CTL PRL_CTL.EN 0)) (fun t => t.fd .PRL_GREST PRL_GREST.STATUS 0 15 == 6) &&
      hold (exec (.prlGrant nwI (grantW 0 0)) quotaS) (fun t => t.fd .PRL_GREST PRL_GREST.STATUS 0 15 == 5)) = true ∧
    (decide (quotaS.prlHolding 1 0 < quotaS.prlQuota 1 0) && quotaS.slotState 0 == 0 && quotaS.waitq.isEmpty &&
      hold (exec (.prlGrant nwI (grantW 0 1)) quotaS) (fun t => t.slotState 0 == 1 && t.fd .PRL_GREST PRL_GREST.STATUS 0 15 == 2)) = true ∧
    ((List.range 32).all (fun k => fullS.slotState k != 0) && decide (fullS.prlHolding 1 0 < fullS.prlQuota 1 0) &&
      hold (exec (.prlGrant nwI (grantW 1 1)) fullS) (fun t => t.waitq.length == 1 && t.fd .PRL_GREST PRL_GREST.STATUS 0 15 == 1 &&
        hold (exec (.prlGrant nwI (grantW 1 1)) t) (fun u => u.fb .PRL_STATUS PRL_STATUS.GERR) &&
        hold (exec (.grantCancel 15) t) (fun u => u.waitq.isEmpty && u.fd .PRL_GREST PRL_GREST.STATUS 0 15 == 3 &&
          hold (exec (.grantAck 15) u) (fun v => v.fd .PRL_GREST PRL_GREST.STATUS 0 15 == 0)) &&
        hold (exec (.grantAck 15) t) (fun u => u.fd .PRL_GREST PRL_GREST.STATUS 0 15 == 1))) = true := by
  refine ⟨?_, ?_, ?_, ?_⟩ <;> decide +kernel

def slice0 : Slice := ⟨2, false, 0, 0, [5], [], [], [], 4⟩
/-- Slices enabled by the host, slice 0 LIVE with core 5. -/
def vfS : State := { R.setFd .VSF_CTL VSF_CTL.EN 1 with
  boot := { R.boot with attached := true }, hb := { R.hb with vfEn := true, numVfs := 240 }, vsf := { R.vsf with slices := ⟨[(0, slice0)]⟩ } }
/-- One core, one clean granule and four vectors are free and asked for. -/
def poolS : State :=
  let s := ((((vfS.setRg 1 .VSF_PCORE).setRg 1 .VSF_PGRAN).setFd .VSF_PVEC VSF_PVEC.N 16).setFd .MEM_CFG MEM_CFG.CAP 1).setRg
    (setF (setF (setF 0 VSF_ARG0.CORES 1) VSF_ARG0.GRAN 1) VSF_ARG0.VEC 4) .VSF_ARG0
  { s with vsf := { s.vsf with clean := [0] } }

theorem witness_SliceCommands :
    (let s := R.setFd .VSF_CMDSTAT VSF_CMDSTAT.BUSY 1
     s.fb .VSF_CMDSTAT VSF_CMDSTAT.BUSY && hold (exec (.vsfCreate nwI 0) s) (fun t => t.fd .VSF_CMDSTAT VSF_CMDSTAT.CERR == 1) &&
      hold (exec (.vsfDestroy nwI 0) s) (fun t => t.fd .VSF_CMDSTAT VSF_CMDSTAT.CERR == 1)) = true ∧
    (R.sliceCheck 1 240 == 1 && R.sliceCheck 2 3 == 2 && hold (exec (.vsfCreate nwI 240) R) (fun t => t.fd .VSF_CMDSTAT VSF_CMDSTAT.STATUS == 1) &&
      hold (exec (.vsfDestroy nwI 3) R) (fun t => t.fd .VSF_CMDSTAT VSF_CMDSTAT.STATUS == 2)) = true ∧
    (let s := vfS.setSlice 1 { slice0 with st := 3 }
     s.sliceCheck 2 1 == 0 && (s.slice 1).st == 3 && hold (exec (.vsfDestroy nwI 1) s) (fun t => t.vsf.cmd == some (2, 1))) = true ∧
    (let s := memOn { vfS with vsf := { vfS.vsf with slices := ⟨[(1, { slice0 with st := 1, cores := [6] })]⟩, cmd := some (1, 1) } }
     s.alive && s.vsf.cmd == some (1, 1) && s.sliceQuiet (s.slice 1) && s.vsf.destroys.isEmpty &&
      decide (homeFree s (s.ioCtxAddr 17 / 128)) && (List.range 96).all (fun k => decide (homeFree s (s.sliceTbl 1 / 128 + k)))) = true ∧
    (let s := memOn { R with vsf := { R.vsf with slices := ⟨[(1, { slice0 with st := 3, cores := [6], grans := [7] })]⟩, cmd := some (2, 1) } }
     s.alive && s.vsf.cmd == some (2, 1) && (s.slice 1).st == 3 && s.sliceQuiet (s.slice 1) && s.vsf.destroys.isEmpty &&
      decide (homeFree s (s.ioCtxAddr 17 / 128))) = true := by
  refine ⟨?_, ?_, ?_, ?_, ?_⟩ <;> decide +kernel

theorem witness_SliceCommands_create : poolS.alive = true ∧ poolS.fb .VSF_CMDSTAT VSF_CMDSTAT.BUSY = false ∧ poolS.sliceCheck 1 1 = 0 := by
  refine ⟨by decide +kernel, by decide +kernel, ?_⟩
  have h0 : 0 ∈ poolS.cleanGrans := by
    simp only [State.cleanGrans, State.freeGrans, List.mem_filter, List.mem_range]
    decide +kernel
  have h1 : ¬ poolS.cleanGrans.length < getF (poolS.rg .VSF_ARG0) VSF_ARG0.GRAN := by
    have := List.length_pos_of_mem h0
    have : getF (poolS.rg .VSF_ARG0) VSF_ARG0.GRAN = 1 := by decide +kernel
    omega
  simp only [State.sliceCheck, if_neg h1]
  decide +kernel

theorem witness_SliceWindow :
    (hold (exec (.vsfPgranWrite nwI 63 7) R) (fun t => t.fb .WLD_VIOL WLD_VIOL.VALID && t.rg .VSF_PGRAN 0 63 == 0) &&
      hold (exec (.vsfPgranWrite swI 63 7) R) (fun t => t.rg .VSF_PGRAN 0 63 == 7)) = true ∧
    ((vfS.slice 0).st == 2 && hold (exec (.vsfVrun nwI 0) vfS) (fun t => (t.core 5).run == .run && (t.slice 0).run) &&
      (vfS.slice 239).st != 2 && hold (exec (.vsfVrun nwI 239) vfS) (fun t => t == vfS)) = true ∧
    (let d := setF (setF 0 VSF_PGRANT.TAG 3) VSF_PGRANT.LEASE 1
     let s := vfS.setFd .PRL_CTL PRL_CTL.EN 1
     let u := s.setFd .VSF_RAMT VSF_RAMT.PRLQ 1 0 0
     getF d VSF_PGRANT.TAG == 3 && getF d VSF_PGRANT.LEASE != 0 && decide (s.prlQuota 2 0 ≤ s.prlHolding 2 0) &&
      hold (exec (.vsfPgrant nwI 0 d) s) (fun t => t.fd .VSF_PGREST VSF_PGREST.STATUS 0 0 3 == 4) &&
      decide (u.prlHolding 2 0 < u.prlQuota 2 0) && u.slotState 0 == 0 && u.waitq.isEmpty &&
      hold (exec (.vsfPgrant nwI 0 d) u) (fun t => t.fd .VSF_PGREST VSF_PGREST.STATUS 0 0 3 == 2 && t.slotState 0 == 1) &&
      hold (exec (.vsfPgrant nwI 239 d) u) (fun t => t == u)) = true ∧
    (hold (exec (.vsfHdb nwI 0 6) vfS) (fun t => t.rg .VSF_HDBPEND 0 0 == 6) && hold (exec (.vsfHdb nwI 1 6) vfS) (fun t => t == vfS)) = true ∧
    (let s := vfS.setEpf 16 { EpFunc.reset with bme := true }
     s.epMaster 16 && s.hb.msixTab.getD (16 * 4096 + 2 * 3 + 1) 0 == 0 && hold (exec (.vsfSdb nwI 0 3) s) (fun t => t.vsf.msix == [(16, 3)]) &&
      hold (exec (.vsfSdb nwI 0 4) s) (fun t => t.fd .VSF_SPOOF VSF_SPOOF.REG 0 0 == 1)) = true := by decide +kernel

/-- A granule is being zeroed, and every home of its lines is free. -/
def zeroS : State := memOn { R with vsf := { R.vsf with zeroing := [4095] } }

theorem witness_SliceWindow_clean : zeroS.alive = true ∧ zeroS.vsf.zeroing.contains 4095 = true ∧
    ∀ k, k < 0x800000 → homeFree zeroS (4095 * 0x800000 + k) := by
  have h : ∀ j, j < 16 → (zeroS.gateClosed (228 + j) || !zeroS.fb .MEM_STATUS MEM_STATUS.TRAINED j) = false := by decide +kernel
  have hh : ∀ x : Fin 16, ∀ k : Fin 16, x.val ^^^ k.val < 16 := by decide
  have hl : ∀ line, homeOf line < 16 := by
    intro line
    have key : ∀ (l : List Nat) (h : Nat), h < 16 → l.foldl (fun h i => h ^^^ ((line >>> (4 * i)) % 16)) h < 16 := by
      intro l
      induction l with
      | nil => intro h hh; exact hh
      | cons a l ih => intro h h1; exact ih _ (hh ⟨h, h1⟩ ⟨_, Nat.mod_lt _ (by decide)⟩)
    exact key _ 0 (by decide)
  refine ⟨by decide +kernel, by decide +kernel, fun k _ => ⟨rfl, rfl, ?_⟩⟩
  rw [State.memGated, h _ (hl _), Bool.and_false]

def dirtyS : State := { poolS with vsf := { poolS.vsf with clean := [] } }

theorem witness_SliceWindow_zero : dirtyS.alive = true ∧ dirtyS.vsf.zeroing = [] ∧ dirtyS.fb .VSF_CTL VSF_CTL.EN = true ∧ dirtyS.nextDirty = some 0 := by
  refine ⟨by decide +kernel, by decide +kernel, by decide +kernel, ?_⟩
  rw [State.nextDirty, State.freeGrans, show 4096 = 4095 + 1 from rfl, List.range_succ_eq_map, List.filter_cons_of_pos (by decide +kernel),
    List.find?_cons_of_pos (by decide +kernel)]

/-- Channel 207 is in state `st`. -/
def dmaS (st : Nat) : State := R.setFd .DMA_STATUS DMA_STATUS.STATE st 207

theorem witness_DmaCommandsAndStates :
    (hold (exec (.dmaStart 207) (dmaS 0)) (fun t => t.dmaState 207 == 1) && hold (exec (.dmaStart 207) (dmaS 1)) (fun t =>
      t.fd .DMA_STATUS DMA_STATUS.CERR 207 == 1)) = true ∧
    (hold (exec (.dmaStop 207) (dmaS 1)) (fun t => t.dmaState 207 == 3) && hold (exec (.dmaStop 207) (dmaS 2)) (fun t => t.dmaState 207 == 0) &&
      hold (exec (.dmaStop 207) (dmaS 0)) (fun t => t == dmaS 0)) = true ∧
    (hold (exec (.dmaDoorbell 207) (dmaS 1)) (fun t => (t.dma 207).bell) && hold (exec (.dmaDoorbell 207) (dmaS 3)) (fun t => (t.dma 207).bell) &&
      hold (exec (.dmaDoorbell 207) (dmaS 2)) (fun t => t.dmaState 207 == 1) &&
      hold (exec (.dmaDoorbell 207) (dmaS 4)) (fun t => t.fd .DMA_STATUS DMA_STATUS.CERR 207 == 1)) = true ∧
    (hold (exec (.dmaClrhalt 207) (dmaS 4)) (fun t => t.dmaState 207 == 0) && hold (exec (.dmaCreset 207) (dmaS 1)) (fun t => t.dmaState 207 == 5 &&
      hold (exec (.dmaResetDone 207) t) (fun u => u.dmaState 207 == 0))) = true := by decide +kernel

/-- A descriptor in the MRAM: 8 bytes from 0x800200000140 to 0x800200000300, IRQ and LAST, V 1. -/
def desc0 : Desc := ⟨0x800200000140, 0x800200000300, 0x3000000008, 1⟩
/-- Channel 207 works on the descriptor at 0x800200000100 as `d` says. -/
def chanS (d : Dma) (v : Nat) : State :=
  { (((dmaS 1).setFd .DMA_CFG DMA_CFG.SEC 1 207).setRg (setF 0 DMA_NEXT.ADDR (0x800200000100 / 32)) .DMA_NEXT 207).setDma 207 d with
    mem := cells 0x800200000100 [0x800200000140, 0x800200000300, 0x3000000008, v] }
def extR : ExtReply := ⟨.ok, 0, 0⟩
def DRes.fine : DRes → Bool
  | .ok _ bad => !bad
  | _ => false

/-- A descriptor in line 64 of installed DRAM: 8 bytes from line 65 to line 66. -/
def descD : Desc := ⟨0x2080, 0x2100, 0x3000000008, 1⟩
/-- The same for channel 207 in DRAM. -/
def dramS (d : Dma) (v : Nat) : State :=
  { (((memOn (dmaS 1)).setFd .MSC_CTL MSC_CTL.EN 1 (homeOf 64)).setRg (setF 0 DMA_NEXT.ADDR (0x2000 / 32)) .DMA_NEXT 207).setDma 207 d with
    mem := cells 0x2000 [0x2080, 0x2100, 0x3000000008, v], msc := ⟨[(64, ⟨.s, listLine 0 ((cells 0x2000 [0x2080, 0x2100, 0x3000000008, v]).map (·.2)), 0⟩)]⟩ }

theorem witness_DmaDescriptors :
    (∀ v ∈ [1, 17, 0x100], (let s := dramS { Dma.reset with fetching := true } v
      s.dmaActive 207 && (s.dma 207).fetching && !s.fb .DMA_CFG DMA_CFG.XLAT 207 && !s.fb .DMA_CFG DMA_CFG.SEC 207 && s.dmaState 207 == 1 &&
        s.fold (s.dmaDesc 207) == 0x2000 && decide (atHome s 64) && (s.memRead 64).poison == 0) = true) ∧
    (let s := dramS { Dma.reset with desc := some descD } 1
     s.dmaActive 207 && (s.dma 207).held.isNone && !(s.dma 207).writingBack && s.dmaPiece 207 descD descD.src 0 descD.sfix needSrc == (0x2080, 8) &&
      s.fold 0x2080 == 0x2080 && decide (atHome s 65)) = true ∧
    (let s := dramS { Dma.reset with desc := some descD, issued := 8, bytes := List.replicate 8 7 } 1
     s.rshare 207 == 0 && !descD.epc && s.dmaPiece 207 descD descD.dst (s.dmaProg 207) descD.dfix needDst == (0x2100, 8) &&
      s.fold 0x2100 == 0x2100 && decide (atHome s 66)) = true ∧
    (let s := dramS { Dma.reset with desc := some descD, writingBack := true, dstat := 1 } 1
     s.dmaActive 207 && (s.dma 207).writingBack && (s.dma 207).dstat == 1 && decide (atHome s (s.fold (s.dmaDesc 207 + 24) / 128))) = true := by
  refine ⟨?_, ?_, ?_, ?_⟩ <;> decide +kernel

theorem witness_DmaDescriptors_any :
    (let s := chanS { Dma.reset with fetching := true } 1
     s.dmaActive 207 && !s.fb .DMA_CFG DMA_CFG.XLAT 207 && (match s.dmaRead 207 (s.dmaFetchTag 207) (s.dmaDesc 207) 32 extR with
      | (.ok b false, u) => u.dmaState 207 == 1 && bitAt (lineWord (listLine 0 b) 3) 0
      | _ => false) && hold (exec (.descriptorFetch 207 extR) s) (fun t => (t.dma 207).desc == some desc0 && t.dmaState 207 == 1)) = true ∧
    (hold (exec (.descriptorFetch 207 extR) (chanS { Dma.reset with fetching := true } 17)) (fun t => t.fd .DMA_ERR DMA_ERR.KIND 207 == 3)) = true ∧
    (hold (exec (.descriptorFetch 207 extR) (chanS { Dma.reset with fetching := true } 0x100)) (fun t => t.dmaState 207 == 2)) = true ∧
    (let s := chanS { Dma.reset with desc := some desc0 } 1
     decide ((s.dma 207).issued < desc0.len) && (let p := s.dmaPiece 207 desc0 desc0.src 0 desc0.sfix needSrc
       (s.dmaRead 207 (s.dmaReadTag 207) p.1 p.2 extR).1.fine) && hold (exec (.dmaReadComplete 207 extR) s) (fun t => (t.dma 207).bytes.length == 8)) = true ∧
    (let d : Desc := { desc0 with w0 := 0x900000000000 }
     let s := chanS { Dma.reset with desc := some d } 1
     let p := s.dmaPiece 207 d d.src 0 d.sfix needSrc
     (match s.dmaRead 207 (s.dmaReadTag 207) p.1 p.2 extR with | (.status st, _) => st != .masterOff | _ => false) &&
      hold (exec (.dmaReadComplete 207 extR) s) (fun t => t.fd .DMA_ERR DMA_ERR.KIND 207 == 1 && (t.dma 207).writingBack)) = true ∧
    (let s := chanS { Dma.reset with desc := some desc0, issued := 8, bytes := List.replicate 8 7 } 1
     let p := s.dmaPiece 207 desc0 desc0.dst (s.dmaProg 207) desc0.dfix needDst
     s.rshare 207 == 0 && !desc0.epc && (s.dma 207).held.isNone && decide (0 < p.2) && decide (p.2 ≤ 8) && (let r := s.dmaData desc0 p.1 ((s.dma 207).bytes.take p.2)
      (r.2.dmaWrite 207 (s.dmaWriteTag 207) false p.1 r.1 extR).1.fine) &&
      hold (exec (.dmaWriteAck 207 extR) s) (fun t => t.dmaProg 207 == 8 && (t.dma 207).writingBack)) = true ∧
    (let s := chanS { Dma.reset with desc := some desc0, writingBack := true, dstat := 1 } 1
     ((s.setDma 207 { s.dma 207 with held := none }).dmaWrite 207 (s.dmaBackTag 207) false (s.dmaDesc 207 + 24)
       ((List.range 8).map (wordByte (backWord desc0.w3 1))) extR).1.fine &&
      hold (exec (.descriptorWritebackAck 207 extR) s) (fun t => t.dmaState 207 == 0 && t.fd .DMA_CNT DMA_CNT.DONE 207 == 1)) = true := by
  refine ⟨?_, ?_, ?_, ?_, ?_, ?_, ?_⟩ <;> decide +kernel

/-- Source and destination overlap (R321): the bytes inside are free, those outside are the ones read. -/
theorem witness_DmaDescriptors_overlap :
    (let d : Desc := { desc0 with w0 := 0x1000, w1 := 0x1004, w2 := 8 }
     d.src == 0x1000 && d.dst == 0x1004 && !d.sfix && d.inSrc 0x1004 && !d.inSrc 0x1008 &&
     (let r := R.dmaData d 0x1004 (List.replicate 8 7)
      r.1.length == 8 && r.1.drop 4 == List.replicate 4 7 && r.2.fresh == R.fresh + 1)) = true := by decide +kernel

theorem witness_DmaDescriptors_burst :
    (let s := chanS { Dma.reset with desc := some desc0, budget := 5 } 1
     let u := (s.setFd .DMA_CFG DMA_CFG.RSHARE 255 207).setFd .TCK_PERIOD TCK_PERIOD.NS 1000000
     u.dmaActive 207 && u.rshare 207 != 0 && (let n := min (min 32 (u.dmaLeft 207 desc0)) (dmaBudget (u.rshare 207) 512 (u.fd .TCK_PERIOD TCK_PERIOD.NS))
       decide (0 < n) && decide (n ≤ 5)) && hold (exec (.dmaBurstAdmit 207) u) (fun t => (t.dma 207).burst != 0)) = true := by decide +kernel

/-- The one answer taken in a step on a package that had taken none, after the request it answers. -/
def tookTwo (p : Msg → Bool) (t : State) : Bool := match t.net.taken with | [_, r] => p r | _ => false

theorem witness_RegisterAccesses :
    (R.alive && R.replyPasses swI.node swI.gen && R.replyPasses nwI.node nwI.gen && decide (noDebug R)) = true ∧
    (!regAccessOk 2 32 && hold (exec (.registerWrite swI 2 32 5) R) (fun t => t.regs == R.regs && tookTwo (·.status == .decerr) t) &&
      hold (exec (.registerWrite swI 0 8 5) R) (fun t => t.regs == R.regs && tookTwo (·.status == .decerr) t)) = true ∧
    (let off := 0x1FFFFF8
     regAccessOk off 32 && (R.swarmAt off).isNone && (R.offFence off).isNone && (portAt off).isNone && (proxyAt off).isNone && (hitOf off 32).isNone &&
      hold (exec (.registerWrite swI off 32 5) R) (fun t => t.regs == R.regs && tookTwo (·.status == .ok) t)) = true ∧
    (R.fence (hubNode 4) == 0 && hold (exec (.registerWrite nwI (RegKind.addr .PWR_WAKETIME) 64 0x123456789ABCDEF0) R) (fun t =>
      t.rg .PWR_WAKETIME == 0x123456789ABCDEF0 && tookTwo (·.status == .ok) t)) = true ∧
    (R.fence (hubNode 0) == 0 && hold (exec (.registerWrite swI (RegKind.addr .VSF_PVEC) 32 0x7FFF) R) (fun t => t.fd .VSF_PVEC VSF_PVEC.N == 0x7FFF) &&
      hold (exec (.registerWrite nwI (RegKind.addr .VSF_PVEC) 32 5) R) (fun t => t.rg .VSF_PVEC == R.rg .VSF_PVEC && t.fb .WLD_VIOL WLD_VIOL.VALID)) = true ∧
    (let s := { R with vsf := { R.vsf with cmd := some (1, 0) } }
     !s.vsfQuiet && hold (exec (.registerWrite swI (RegKind.addr .VSF_TBLBASE) 64 0x400000) s) (fun t => t.fb .VSF_CMDSTAT VSF_CMDSTAT.WERR &&
       t.rg .VSF_TBLBASE == s.rg .VSF_TBLBASE)) = true ∧
    (R.fence (dmaNode 192) == 0 && (let s := R.setRg 0x8000000000000001 .DMA_ERR 192
      hold (exec (.registerWrite nwI (RegKind.addr .DMA_ERR 192) 64 0xFFFFFFFFFFFFFFFF) s) (fun t => t.rg .DMA_ERR 192 == 1)) &&
      hold (exec (.registerWrite nwI (RegKind.addr .DMA_CFG 192) 32 0x400) R) (fun t => t.fd .DMA_CFG DMA_CFG.RSHARE 192 == 0 && t.shad.l.length == 1)) = true ∧
    ((List.range 16).all (fun h => R.fence (memNode h) == 0) && !R.nearEdge &&
      hold (exec (.swarmAccess swI 0xBF0028 64 true 5) R) (fun t => (List.range 16).all (fun h => t.rg .MEM_ECCCNT h == 5)) &&
      hold (exec (.swarmAccess swI 0xBF0028 64 false 0) (R.setRg 6 .MEM_ECCCNT 15)) (tookTwo (·.data == 6)) &&
      hold (exec (.swarmAccess swI 0xBF0018 64 true 5) R) (fun t => t.shad.l.length == 16 && t.held.isEmpty)) = true ∧
    (let s := T.setRg 3999999 .TCK_TIME_NS
     s.nearEdge && hold (exec (.swarmAccess swI 0xBF0018 64 true 5) s) (fun t => t.shad.l.isEmpty && t.held.length == 1)) = true ∧
    ((R.swarmAt 0x5F0000).isSome && !R.nearEdge && regAccessOk 0x5F0000 32 &&
      hold (exec (.swarmAccess swI 0x5F0000 32 false 0) R) (fun t => t.net.taken.length == 2)) = true := by
  refine ⟨?_, ?_, ?_, ?_, ?_, ?_, ?_, ?_, ?_, ?_⟩ <;> decide +kernel

theorem witness_RegisterAccesses_release :
    (let u := { R with held := [⟨(List.range 16).map (fun h => RegKind.addr .MEM_SLIMIT h), 6, 64, 5, swI, 7⟩] }
     u.alive && !u.nearEdge && decide (noDebug u) && u.replyPasses swI.node swI.gen && (nodeCore swI.node).isNone && (nodeDma swI.node).isNone &&
      hold (exec .swarmHoldRelease u) (fun t => t.held.isEmpty && t.shad.l.length == 16 && t.net.taken.length == 1)) = true := by decide +kernel

/-- A swarm write that carries a T field: RSHARE of every hub DMA channel. -/
theorem witness_RegisterAccesses_held : (let s := T.setRg 3999999 .TCK_TIME_NS
    match s.swarmAt (0x10300000 + 31 * 0x1000000 + 31 * 0x8000 + 8) with
    | some (_, l) => s.nearEdge && l.any (fun e => carriesT e.2 32) && regAccessOk (0x10300000 + 31 * 0x1000000 + 31 * 0x8000 + 8) 32
    | none => false) = true := by decide +kernel

def tlbiR : TlbiRun := ⟨3, 0, 2, 0, 0, 0, 0, [5, 216]⟩
def tlbiS : State := { withCore { run0 with tlbiOut := [3] } with net := { R.net with tlbis := [tlbiR] } }
def ackM : Msg := Msg.mk' 5 9 (coreNode 0) (tlbiNode 5) 0 3 false .ok 0 0 0

theorem witness_TlbInvalidation :
    (let s := tlbiS.setCore 5 run0
     !s.dead && tlbiR.left.contains 5 && s.net.msgs.isEmpty && !s.tlbiHubAck 5 && hold (exec (.tlbiReceive 3 5) s) (fun t => t.net.msgs.length == 1) &&
      hold (exec (.tlbiReceive 3 216) s) (fun t => t.net.msgs.length == 1) &&
      tlbiS.tlbiHubAck 5 && tlbiS.domState 5 != 2 && hold (exec (.tlbiReceive 3 5) tlbiS) (fun t => t.net.msgs.length == 1)) = true ∧
    (let s := { tlbiS with net := { tlbiS.net with tlbis := [{ tlbiR with left := [5] }], msgs := [ackM] } }
     hold (exec (.tlbiAck 3 5) s) (fun t => t.net.tlbis.isEmpty && (t.core 0).tlbiOut.isEmpty)) = true ∧
    (tlbiS.alive && !(tlbiS.core 0).tlbTout && hold (exec (.tlbsyncTimeout 0) tlbiS) (fun t => (t.core 0).tlbTout && t.fb .ERB_REC ERB_REC.VALID 12 0x30) &&
      hold (exec (.tlbsyncTimeout 0) (tlbiS.setCore 0 { run0 with wait := .tlbsync, tlbiOut := [3] })) (fun t =>
        (t.core 0).cr (bankKey .m true 3) == BitVec.ofNat 64 xBUSERR)) = true ∧
    (let s := R.setPortUp 15 true
     s.portUp 15 && hold (exec (.ptpMessage 15 1 2 3 4) s) (fun t => t.fab.ptp == [(15, 2)]) &&
     (let u := { ((s.setFd .FAB_ATLAS_CTL FAB_ATLAS_CTL.EN 1).setFd .FAB_ATLAS_CTL FAB_ATLAS_CTL.PPORT 15).setFd .FAB_ATLAS_STAT FAB_ATLAS_STAT.LOCK 1 with
        fab := { R.fab with coarseGood := 7 } }
      u.portUp 15 && !u.fb .FAB_ATLAS_CTL FAB_ATLAS_CTL.ROOT && hold (exec (.ptpMessage 15 9 9 9 9) u) (fun t =>
        t.fd .FAB_ATLAS_STAT FAB_ATLAS_STAT.COARSE == 1))) = true := by decide +kernel

/-- Controller 1 with four hot-plug root ports whose links are up; port 0 is enabled, with a window at 0x100000 and bus 1. -/
def hbS : State :=
  let s := (((((R.setFd .HBU_CTL HBU_CTL.EN 1 1).setFd .HBU_CTL HBU_CTL.OWN 1 1).setFd .HBU_CTL HBU_CTL.BIF 4 1).setFd .HBU_CTL HBU_CTL.HPSLOT 15 1).setFd
    .HBU_STATUS HBU_STATUS.LINK 15 1)
  (((memOn s).setCfgD (rpBase 1 0 + 4) 6).setCfgD (rpBase 1 0 + 0x20) 0x100010).setCfgD (rpBase 1 0 + 0x18) 0x10100
def outR : OutReq := ⟨0x400000100040, 8, false, 0, false, 5, none⟩
/-- A request that waits at the port. -/
def hbQ : HbReq := ⟨1, 0, 0xE00, 5, 0x100040, 8, true, false, 0, 0, 9, 0, 7, none, false, 0⟩
def outS : State := { hbS with hb := { hbS.hb with out := [hbQ] } }
/-- A request from port 0 of controller 1. -/
def tlp0 : Tlp := ⟨1, 0, 0x100, 1, 0x1000, 4, 7, false, none, 0⟩
/-- The port without Bus Master Enable. -/
def noBme : State := hbS.setCfgD (rpBase 1 0 + 4) 2

/-- The package attached to a host, its link up and the PF a bus master. -/
def attS : State :=
  ({ R.setFd .HBU_STATUS HBU_STATUS.LINK 1 0 with boot := { R.boot with attached := true } } : State).setEpf 0 { EpFunc.reset with bme := true }

theorem witness_HostRequests :
    (decide (mayIssue hbS nwI outR) && decide (quietLinks hbS) && !hbS.boot.attached && hbS.claimPort (outR.addr % 2 ^ 46) == some (1, 0) && hbS.hbLink 1 0 &&
      hold (execOutboundAccess nwI outR hbS) (fun t => t.hb.out.length == 1) && decide (mayIssue R nwI outR) && (R.claimPort (outR.addr % 2 ^ 46)).isNone) = true ∧
    (decide (mayIssue attS nwI { outR with addr := 0x600000000040 }) && decide (quietLinks attS) && attS.hbLink 0 0 &&
      !attS.ownBar (0x40 + (attS.rg .HBU_UPOFF 0).toNat) && attS.epMaster 0 && !(attS.epf 0).atsEn &&
      !(attS.setEpf 0 EpFunc.reset).epMaster 0) = true ∧
    (!hbS.gateClosed 245 && hold (execCompletionReceive 1 9 true false 3 hbS) (fun t => t.fd .HBU_CNT HBU_CNT.UCDROP 1 == 1) &&
      hold (execCompletionReceive 1 9 true false 3 outS) (fun t => t.hb.out.isEmpty && t.net.taken.map (·.status) == [.ok]) &&
      !cfgPa hbQ.addr && hold (execCompletionReceive 1 9 false false 3 outS) (fun t => t.fd .HBU_ERR HBU_ERR.KIND 1 == 3) &&
      cfgPa 0x800090000000) = true ∧
    ((outS.outTags 0xE00).contains 5 && outS.fab.txns.isEmpty && hold (execTransactionTimeout 0xE00 5 outS) (fun t => t.fd .HBU_ERR HBU_ERR.KIND 1 == 2 &&
        t.quarantined 0xE00 5) &&
      (let s := withCore { run0 with wait := .reply apostTag, apLimit := 5 }
       (s.outTags 0).contains apostTag && s.hb.out.isEmpty && nodeCore 0 == some 0 && s.fence 0 == 0 && hold (execTransactionTimeout 0 apostTag s) (fun t =>
         t.fd .NOC_AGENT NOC_AGENT.TOUTCNT 0 0 0 == 1 && (t.core 0).reply.isSome))) = true ∧
    (nwI.node != hbNode 0 && !regAccessOk 0x90000000 16 && hold (execConfigAccess nwI 0x90000000 16 false 0 .none hbS) (tookTwo (·.status == .decerr)) &&
      hold (execConfigAccess { nwI with slice := 0 } 0x90000000 32 false 0 .none hbS) (tookTwo (·.status == .decerr)) &&
      hbS.cfgTo 0x80000000 == .nothing && hbS.cfgTo 0x90000004 == .rp 1 0 4 && hbS.cfgTo 0x90100000 == .dev 1 0 &&
      (hbS.setFd .HBU_STATUS HBU_STATUS.LINK 0 1).cfgTo 0x90100000 == .down &&
      hold (execConfigAccess nwI 0x90000004 32 false 0 .none hbS) (tookTwo (·.data == 6)) &&
      hold (execConfigAccess nwI 0x90100000 32 false 0 .none hbS) (fun t => tookTwo (·.status == .tout) t && t.fd .HBU_ERR HBU_ERR.KIND 1 == 2) &&
      hold (execConfigAccess nwI 0x90100000 32 false 0 .ur hbS) (tookTwo (·.data == 0xFFFFFFFF))) = true ∧
    (attS.hbLink 0 0 && !(attS.epf (0x80000000 / 0x1000 % 256)).resetting && attS.alive &&
      hold (execConfigAccess ⟨hbNode 0, false, 0xFF, 0, 5⟩ 0x80000000 32 false 0 .none attS) (fun t => t.hb.sent.length == 1)) = true := by
  refine ⟨?_, ?_, ?_, ?_, ?_, ?_⟩ <;> decide +kernel

/-- Slice 239 owns slot 31. -/
def proxS : State := (((slotS 1).setSlotFd 31 PRL_SLOT_STAT.OKIND 2).setSlotFd 31 PRL_SLOT_STAT.OID 239)

theorem witness_HostRequests_proxy :
    (proxS.alive && decide proxS.settled && proxS.fence (hubNode 0) == 0 && proxS.replyPasses nwI.node nwI.gen && proxS.slotFd 31 PRL_SLOT_STAT.SEC == 0 &&
      proxS.ownsSlot 239 31 && !(slotS 1).ownsSlot 239 31 &&
      hold (execSlotProxyAccess nwI 239 31 0x38 64 true 0x1080 proxS) (fun t => t.fd .PRL_SLOT_DADDR PRL_SLOT_DADDR.ADDR 0 31 == 0x21) &&
      hold (execSlotProxyAccess nwI 239 31 0x38 64 false 0 (proxS.setFd .PRL_SLOT_DADDR PRL_SLOT_DADDR.ADDR 0x21 0 31)) (tookTwo (·.data == 0x1080)) &&
      hold (execSlotProxyAccess nwI 239 31 0x38 64 true 0x1080 (slotS 1)) (fun t => t.fd .VSF_SPLOG VSF_SPLOG.KIND == 3) &&
      (match (proxS.regRequest nwI (regNode (vfBase 239 + 0x1000 + 0x80 * 31 + 0x38)) (vfBase 239 + 0x1000 + 0x80 * 31 + 0x38) false 0).regAccess
          nwI (vfBase 239 + 0x1000 + 0x80 * 31 + 0x38) 64 false 0 with
        | (.done _ _, _) => true
        | _ => false)) = true := by decide +kernel

/-- The I/O contexts of controller 1 are at line 0; the system cache holds the context of requester 0x100 with word 0 `w`. -/
def ctxS (w : Word) : State :=
  { (hbS.setFd .HBU_CTXBASE HBU_CTXBASE.EN 1 1).setFd .MSC_CTL MSC_CTL.EN 1 (homeOf 64) with msc := ⟨[(64, ⟨.s, BitVec.setWidth 1024 w, 0⟩)]⟩ }
/-- The system cache holds line 32 with the data 9. -/
def inS : State := { hbS.setFd .MSC_CTL MSC_CTL.EN 1 (homeOf 32) with msc := ⟨[(32, ⟨.s, 9, 0⟩)]⟩ }

theorem witness_HostRequests_inbound :
    (decide (arrives noBme tlp0) && !noBme.upstream tlp0 && noBme.rpExists 1 0 && !noBme.rpBme 1 0 &&
      hold (execInboundRequest tlp0 noBme) (fun t => t.hb.sent.isEmpty) &&
      hold (execInboundRequest { tlp0 with kind := 0 } noBme) (fun t => t.hb.sent.length == 1 && t.fd .HBU_ERR HBU_ERR.KIND 1 == 4) &&
      hold (execAtsTranslationRequest tlp0 noBme) (fun t => t.alive)) = true ∧
    (let s := (hbS.setFd .HBU_MSIADDR HBU_MSIADDR.EN 1 1).setFd .HBU_MSIADDR HBU_MSIADDR.ADDR 0xFEE0 1
     decide (arrives s tlp0) && s.rpBme 1 0 && s.msiHit 1 0xFEE01234 &&
      hold (execInboundRequest { tlp0 with addr := 0xFEE01234, data := 0x600 } s) (fun t => (t.src 0x600).pend || t.alive)) = true ∧
    (decide (arrives inS tlp0) && inS.rpBme 1 0 && !inS.msiHit 1 tlp0.addr && !inS.fb .HBU_CTXBASE HBU_CTXBASE.EN 1 && inS.fold (tlp0.addr % 2 ^ 56) == 0x1000 &&
      decide (atHome inS 32) && (inS.memRead 32).poison == 0 && byteMask 0 4 != fullMask && byteMask 0 128 == fullMask && inS.pair.entries.l.isEmpty &&
      (inS.chan (homeOf 32)).mbuf.isEmpty && inS.fb .MSC_CTL MSC_CTL.EN (homeOf 32) &&
      hold (execInboundRequest { tlp0 with kind := 0 } inS) (fun t => t.hb.sent.map (·.data) == [9])) = true ∧
    (let r := inS.homeDo opRDC { CohReq.bare (hbNode 1) 32 false with gen := inS.genOf (hbNode 1), tag := 0 }
     r.1.status == .ok && r.1.poison == 0 && r.2.hbLink 1 0 && decide (quietLinks r.2)) = true ∧
    (attS.upstream { tlp0 with ctl := 0, kind := 0 } && decide (arrives attS { tlp0 with ctl := 0, kind := 0 }) && (attS.barHit tlp0.addr).isNone &&
      hold (execInboundRequest { tlp0 with ctl := 0, kind := 0 } attS) (fun t => t.fd .HBU_ERR HBU_ERR.KIND 0 == 4)) = true := by
  refine ⟨?_, ?_, ?_, ?_, ?_⟩ <;> decide +kernel

/-- The context of the requester is read at its home. -/
def ctxRead0 (w : Word) : Bool :=
  let s := ctxS w
  decide (arrives s tlp0) && s.rpExists 1 0 && s.rpBme 1 0 && s.fb .HBU_CTXBASE HBU_CTXBASE.EN 1 && s.fold (s.hbCtx 1 0x100) == 64 * 128 &&
    decide (atHome s 64) && (s.memRead 64).poison == 0 && lineWord (s.memRead 64).data 0 == w

theorem witness_HostRequests_ats :
    (ctxRead0 0 = true ∧ hold (execAtsTranslationRequest tlp0 (ctxS 0)) (fun t => t.fd .HBU_ERR HBU_ERR.KIND 1 == 7) = true) ∧
    ctxRead0 0x21 = true ∧ hold (execAtsTranslationRequest tlp0 (ctxS 0x21)) (fun t => t.hb.sent.map (·.data) == [0x1003]) = true ∧
    (match (ctxS 0x21).ctxRead (hbNode 1) ((ctxS 0x21).hbCtx 1 0x100) false with
      | (.ok (w0, w1, w2, _), u) => bitAt w0 0 && bitAt w0 5 && (match u.ioTranslate w0 w1 w2 (hbNode 1) (ioNeed true false) 0x1000 with | (.ok _, _) => true | _ => false)
      | _ => false) = true := by
  refine ⟨⟨?_, ?_⟩, ?_, ?_, ?_⟩ <;> decide +kernel

/-- A 64-bit configuration read of a device is two requests, the low dword first (13 R337). -/
theorem test_config_two_requests :
    (let x : Xlated := ⟨0x800090100040, 2, false⟩
     let s0 := hbS.setCore 0 { run0 with sec := false }
     let s1 := (s0.regPiece 0 x 8 false 0).2
     let s2 := s1.modCore 0 (fun c => { c with reply := some ⟨insnTag, .ok, 0x11223344, 0, 0⟩ })
     let s3 := (s2.regPiece 0 x 8 false 0).2
     let s4 := s3.modCore 0 (fun c => { c with reply := some ⟨cfgHighTag, .ok, 0x55667788, 0, 0⟩ })
     s1.hb.sent.map (fun q => (q.addr, q.size)) == [(0x800090100040, 4)] &&
     s3.hb.sent.map (fun q => (q.addr, q.size)) == [(0x800090100040, 4), (0x800090100044, 4)] &&
     (match (s4.regPiece 0 x 8 false 0).1 with | .line d _ => pieceBytes d 0x40 8 == 0x5566778811223344 | _ => false)) = true := by
  decide +kernel

/-- The homes' answers to an inbound write of part of a line, to a read, and of a channel whose gate is closed. -/
theorem witness_HostRequests_memory :
    (let base : CohReq := { CohReq.bare (hbNode 1) 32 false with gen := inS.genOf (hbNode 1), tag := 0 }
     (inS.homeDo opWRP { base with mask := byteMask 0 4, data := 7 <<< 0 }).1.status == .ok &&
      ((inS.setFd .PWR_GATE PWR_GATE.OFF 1 0 (228 + homeOf 32)).homeDo opRDC base).1.status == .retry) = true := by decide +kernel

def hpS (v : HpSlot) : State := hbS.setHps 4 v

theorem witness_HostSlotsAndLinks :
    (let s := (hpS { HpSlot.reset with pwren := true, perst := true }).setFd .HBU_STATUS HBU_STATUS.LINK 0 1
     !s.hbLink 1 0 && s.rpExists 1 0 && hold (exec (.hbLinkUp 1 0) s) (fun t => t.hbLink 1 0)) = true ∧
    (!hbS.attachedHb 1 && hold (exec (.linkDown 1 3) hbS) (fun t => !t.hbLink 1 3 && t.hbLink 1 0 && t.fd .HBU_ERR HBU_ERR.KIND 1 == 1) &&
      hold (exec (.linkDown 1 0) outS) (fun t => t.net.taken.map (·.status) == [.decerr])) = true ∧
    (attS.attachedHb 0 && attS.hbLink 0 0) = true ∧
    (let s := ({ R with boot := { R.boot with attached := true } } : State).setFd .BOOT_STATUS BOOT_STATUS.RECOVERY 1
     !s.hbLink 0 0 && s.fb .BOOT_STATUS BOOT_STATUS.RECOVERY && hold (exec (.hbLinkUp 0 0) s) (fun t => t.hbLink 0 0)) = true ∧
    (hold (exec (.hpsFrame 5) hbS) (fun t => t.hb.hpIn == 5)) = true ∧
    ((let s := { (hpS { HpSlot.reset with present := true }) with hb := { (hpS { HpSlot.reset with present := true }).hb with hpIn := BitVec.ofNat 256 (2 ^ 32) } };
       s.hpCapable 4 && s.hb.hpIn.getLsbD 32 && (s.hps 4).present && hold (exec (.presenceChange 4 false) s) (fun t => !(t.hps 4).present)) &&
      (let s := { hbS with hb := { hbS.hb with hpIn := 0 } }
       s.hpCapable 4 && !(s.hps 4).present && hold (exec (.presenceChange 4 true) s) (fun t => (t.hps 4).present) && hold (exec (.attentionButton 4) s) (fun t => (t.hps 4).button) &&
        hold (exec (.powerFault 4) s) (fun t => (t.hps 4).fault))) = true ∧
    (hold (exec (.powerControllerControl 4 false) hbS) (fun t => (t.hps 4).pwren && (t.hps 4).cmdPending) &&
      hold (exec (.powerControllerControl 4 true) hbS) (fun t => !(t.hps 4).pwren && (t.hps 4).cmdPending) &&
      hold (exec (.indicatorControl 4 true 3) hbS) (fun t => (t.hps 4).pwrLed == 3) &&
      hold (exec (.indicatorControl 4 false 1) hbS) (fun t => (t.hps 4).attnLed == 1)) = true ∧
    (let v := { HpSlot.reset with cmdPending := true, cmdSent := true }
     hold (exec (.commandCompleted 4) (hpS v)) (fun t => !(t.hps 4).cmdPending)) = true ∧
    (hold (exec (.perstRelease 4) (hpS { HpSlot.reset with perstDue := true, pwren := true })) (fun t => (t.hps 4).perst)) = true := by
  refine ⟨?_, ?_, ?_, ?_, ?_, ?_, ?_, ?_, ?_⟩ <;> decide +kernel

/-- The attached package with 240 virtual functions enabled. -/
def vfsS : State := { attS with hb := { attS.hb with vfEn := true, numVfs := 240 } }
/-- A request of virtual function 0, sent (0) or queued (1). -/
def attQ (phase : Nat) : HbReq := { hbQ with ctl := 0, func := 16, phase := phase }

theorem witness_HostFunctionsAndInvalidation :
    (vfsS.hb.out.isEmpty && hold (exec (.busMasterDisable 16) (vfsS.setEpf 16 { EpFunc.reset with bme := true })) (fun t => !(t.epf 16).bme) &&
      hold (exec (.d3hotEntry 16) vfsS) (fun t => (t.epf 16).d3hot) &&
      (let s := { vfsS with hb := { vfsS.hb with out := [attQ 0] } }
       hold (exec (.busMasterDisable 16) s) (fun t => t.hb.out.map (·.phase) == [3] && t.net.taken.length == 1) &&
        hold (exec (.d3hotEntry 16) s) (fun t => t.hb.out.map (·.phase) == [3] && t.net.taken.length == 1)) &&
      (let s := { vfsS with hb := { vfsS.hb with out := [attQ 1] } }
       hold (exec (.busMasterDisable 16) s) (fun t => t.hb.out.isEmpty && t.fd .HBU_ERR HBU_ERR.KIND 0 == 6) &&
        hold (exec (.d3hotEntry 16) s) (fun t => t.hb.out.isEmpty && t.fd .HBU_ERR HBU_ERR.KIND 0 == 6))) = true ∧
    (decide (239 < vfsS.hb.numVfs) && hold (exec (.vfFlr 239) vfsS) (fun t => !(t.epf 255).resetting)) = true ∧
    (hold (exec (.pfReset false) vfsS) (fun t => !t.hb.vfEn)) = true ∧
    (∀ n ∈ [(8 : BitVec 6), 18], hold (exec (.resizableBarWrite true n) vfsS) (fun t => t.hb.vfBar2size == 2 ^ (n.toNat + 20)) = true) ∧
    (∀ n ∈ [(10 : BitVec 6), 22], hold (exec (.resizableBarWrite false n) vfsS) (fun t => (t.epf 0).bar2size == 2 ^ (n.toNat + 20)) = true) ∧
    (hold (exec (.resizableBarWrite true 7) vfsS) (fun t => t == vfsS) && hold (exec (.resizableBarWrite true 19) vfsS) (fun t => t == vfsS) &&
      hold (exec (.resizableBarWrite false 9) vfsS) (fun t => t == vfsS) && hold (exec (.resizableBarWrite false 23) vfsS) (fun t => t == vfsS)) = true ∧
    (let s := R.setFd .HBU_ATSSTAT HBU_ATSSTAT.BUSY 1 7
     let d := setF 0 HBU_ATSCMD.GO 1
     s.fb .HBU_ATSSTAT HBU_ATSSTAT.BUSY 7 && hold (exec (.atsInvalidate 7 d) s) (fun t => t.fd .HBU_STATUS HBU_STATUS.WERR 7 == 1) &&
      hold (exec (.atsInvalidate 7 d) R) (fun t => t.fb .HBU_ATSSTAT HBU_ATSSTAT.BUSY 7 && t.hb.sent.length == 1) &&
      hold (exec (.atsInvalidate 7 0) R) (fun t => !t.fb .HBU_ATSSTAT HBU_ATSSTAT.BUSY 7 && t.hb.sent.isEmpty) &&
      hold (exec (.invalidateCompletion 7) s) (fun t => t.fb .HBU_ATSSTAT HBU_ATSSTAT.DONE 7) &&
      hold (exec (.atsTimeout 7) s) (fun t => t.fb .HBU_ATSSTAT HBU_ATSSTAT.TOUT 7)) = true := by
  refine ⟨?_, ?_, ?_, ?_, ?_, ?_, ?_⟩ <;> decide +kernel

/-- Package 300 with the fabric on; the link to peer 5 (and 500) is in state `st`, with every feature. -/
def fabS (st : Nat) : State :=
  let s := (((R.setFd .BOOT_STRAP BOOT_STRAP.PKG_NUM 300).setFd .FAB_CTL FAB_CTL.EN 1).setFd .FAB_PEER_CTL FAB_PEER_CTL.EN 1 0 5).setPortUp 15 true
  (((s.setFd .FAB_PEER_STAT FAB_PEER_STAT.STATE st 0 5).setFd .FAB_PEER_STAT FAB_PEER_STAT.STATE st 0 500).setFd .FAB_PEER_STAT
    FAB_PEER_STAT.FEAT 31 0 5).setFd .FAB_PEER_CTL FAB_PEER_CTL.EN 1 0 500
def frameIn : EthFrame := ⟨true, false, 0, 0, false, (fabS 2).fd .FAB_CTL FAB_CTL.UDP, 2, 0, 5, 300, false, true, 9216⟩
def probeS : State := (((fabS 2).setFd .FAB_ATLAS_CTL FAB_ATLAS_CTL.EN 1).setFd .FAB_ATLAS_STAT FAB_ATLAS_STAT.COARSE 1).setFd .FAB_ATLAS_CTL
  FAB_ATLAS_CTL.PARENT 5

theorem witness_FabricPorts :
    (let s := R.setFd .FAB_PCFG FAB_PCFG.MODE 2 7
     s.portExists 15 && s.domState 259 == 0 && hold (exec (.portLinkUp 15) s) (fun t => t.portUp 15)) = true ∧
    ((fabS 2).portUp 15 && hold (exec (.ethFrameReceive 15 { frameIn with pauseFrame := true }) (fabS 2)) (fun t => t.fd .FAB_PCNT FAB_PCNT.OTHER 7 1 == 1) &&
      hold (exec (.ethFrameReceive 15 { frameIn with ipv6 := false }) (fabS 2)) (fun t => t.fd .FAB_PCNT FAB_PCNT.STRANGER 7 1 == 1) &&
      hold (exec (.ethFrameReceive 15 { frameIn with len := 9217 }) (fabS 2)) (fun t => t.fd .FAB_PCNT FAB_PCNT.STRANGER 7 1 == 1) &&
      hold (exec (.ethFrameReceive 15 { frameIn with dstOk := 1 }) (fabS 2)) (fun t => t.fd .FAB_PCNT FAB_PCNT.STRANGER 7 1 == 1) &&
      frameIn.dstOk == (fabS 2).portAddr 15 && frameIn.src == (fabS 2).peerAddr 5 && frameIn.udp != 319 && frameIn.udp != 320 &&
      frameIn.dstpkg == (fabS 2).pkgNum && hold (exec (.ethFrameReceive 15 frameIn) (fabS 2)) (fun t => t == fabS 2) &&
      hold (exec (.ethFrameReceive 15 { frameIn with ce := true }) (fabS 2)) (fun t => (t.link 5).ece)) = true ∧
    (hold (exec (.neighborSolicitation 15 0) (fabS 2)) (fun t => t.fab.ndSent.getD 15 0 == 1) &&
      hold (exec (.neighborSolicitation 15 1) (fabS 2)) (fun t => t == fabS 2)) = true ∧
    ((fabS 2).linkFeat 5 4 && hold (exec (.fabProbe 5 9) (fabS 2)) (fun t => t.fab.sent.map (fun e => e.2.typ) == [8])) = true ∧
    (probeS.atlasFine && probeS.lstate 5 == 2 && hold (exec (.fabProbeRep 5 1 2 3 4) probeS) (fun t => t.fab.probes == [(0, 2)])) = true ∧
    (let s := { R.setFd .FAB_ATLAS_STAT FAB_ATLAS_STAT.LOCK 1 with fab := { R.fab with lockBad := 8 } }
     hold (exec .atlasLockLoss s) (fun t => t.fd .FAB_ATLAS_STAT FAB_ATLAS_STAT.LOSTEV == 1)) = true := by decide +kernel

def offer0 : Offer := ⟨5, true, true, 0, 31, true⟩
def withLink (st n : Nat) (l : Link) : State := (fabS st).setLink n l

theorem witness_FabricHandshake :
    ((fabS 0).pkgNum == 300 && hold (exec (.fabHello 5 { offer0 with srcpkg := 300 }) (fabS 0)) (fun t => t.fd .FAB_STATUS FAB_STATUS.DUPPKG == 1) &&
      agree offer0 != 0 && hold (exec (.fabHello 5 offer0) (fabS 0)) (fun t => t.lstate 5 == 1 && t.fab.sent.map (fun e => e.2.typ) == [3]) &&
      agree { offer0 with maj1 := false, maj2 := false } == 0 &&
      hold (exec (.fabHello 5 { offer0 with maj1 := false, maj2 := false }) (fabS 0)) (fun t => t.lstate 5 == 4)) = true ∧
    (let s := withLink 1 500 { Link.reset with helloOut := true }
     s.lstate 500 == 1 && hold (exec (.fabAccept 500 offer0) s) (fun t => t.lstate 500 == 2) &&
      hold (exec (.fabAccept 500 { offer0 with idOk := false }) s) (fun t => t.lstate 500 == 4)) = true ∧
    (let s := withLink 1 5 { Link.reset with feat := 8192 }
     hold (exec (.fabFinish 5 offer0) s) (fun t => t.lstate 5 == 2) && hold (exec (.fabFinish 5 { offer0 with idOk := false }) s) (fun t => t.lstate 5 == 4)) = true ∧
    (hold (exec (.peerEnable 500 true) (fabS 0)) (fun t => t.lstate 500 == 1 && t.fab.sent.map (fun e => e.2.typ) == [2]) &&
      hold (exec (.peerEnable 500 false) (fabS 1)) (fun t => t.lstate 500 == 0) && hold (exec (.peerEnable 500 false) (fabS 4)) (fun t => t.lstate 500 == 0) &&
      hold (exec (.peerEnable 500 false) (fabS 2)) (fun t => t.lstate 500 == 3)) = true ∧
    (hold (exec (.helloResend 500) (withLink 1 500 { Link.reset with helloOut := true })) (fun t => t.fab.sent.length == 1) &&
      hold (exec (.handshakeTimeout 500) (fabS 1)) (fun t => t.lstate 500 == 4) && hold (exec (.failedRetry 500) (fabS 4)) (fun t => t.lstate 500 == 1) &&
      hold (exec (.closingTimeout 500) (fabS 3)) (fun t => t.lstate 500 == 0)) = true := by decide +kernel

def pkt0 : FabPkt := ⟨3, 0, 0, 0, 0, 0, false, false, [], []⟩
def fabIn0 : FabIn := ⟨1, false, false, 2, 0, false, []⟩
def txn0 : FabTxn := ⟨5, 3, 0xE00, 7, FabMsg.bare 1, 0, false, 0, 5, .ok⟩
/-- The acknowledgement of its write. -/
def wack0 : FabMsg := { FabMsg.bare 7 with tag := 3 }

theorem witness_FabricTransport :
    (let u := (fabS 2).takeFabAck 5 2 0 false
     (fabS 2).fd .FAB_PEER_STAT FAB_PEER_STAT.KEYID 0 5 == 0 && u.lstate 5 == 2 && (u.link 5).held.isEmpty && (u.link 5).rxPsn == 0 && u.linkFeat 5 0 &&
      hold (exec (.fabData 5 fabIn0) (fabS 2)) (fun t => (t.link 5).rxPsn == 1) &&
      (let s : State := { fabS 2 with fab := { (fabS 2).fab with txns := [txn0] } }
       decide (s.nextInOrder 5 1) && wack0.status == .ok && s.replyPasses txn0.node txn0.gen &&
        hold (exec (.fabData 5 { fabIn0 with msgs := [wack0] }) s) (fun t => t.fab.txns.isEmpty && t.net.taken.length == 1)) &&
      hold (exec (.fabData 5 { fabIn0 with psn := 2 }) (fabS 2)) (fun t => (t.link 5).rxPsn == 0 && (t.link 5).held.length == 1)) = true ∧
    (let s := withLink 2 5 { Link.reset with unacked := [pkt0, { pkt0 with psn := 4 }], cwnd := 524288, rto := 600000 }
     s.alive && s.lstate 5 == 2 && (s.link 5).bqueue.isEmpty &&
      hold (exec (.rtoExpiry 5) s) (fun t => (t.link 5).rto == 1000000 && (t.link 5).cwnd == 65536) &&
      s.fab.txns.isEmpty && (s.link 5).inq.isEmpty && (List.range 256).all (fun c => !s.fb .FAB_CCTL FAB_CCTL.V 0 c) &&
      hold (exec (.linkFailure 5 false) s) (fun t => t.lstate 5 == 4 && t.fd .FAB_ERR FAB_ERR.KIND == 2) &&
      (let u := (s.setFd .FAB_PEER_CTL FAB_PEER_CTL.ALTEN 1 0 5).setFd .FAB_PEER_CTL FAB_PEER_CTL.ALTPORT 15 0 5
       u.portUp (u.fd .FAB_PEER_CTL FAB_PEER_CTL.ALTPORT 0 5) && hold (exec (.altPortMove 5) u) (fun t => t.fab.sent.length == 2))) = true ∧
    ((fabS 2).lstate 5 == 2 && ((fabS 2).link 5).rxPsn == 0 && ((fabS 2).link 5).held.isEmpty &&
      hold (exec (.fabRekey 5 1) (fabS 2)) (fun t => (t.link 5).oldKey && hold (exec (.oldKeyErase 5) t) (fun u => !(u.link 5).oldKey)) &&
      hold (exec (.fabClose 5 1) (fabS 2)) (fun t => t.lstate 5 == 0 && t.fd .FAB_PEER_STAT FAB_PEER_STAT.CAUSE 0 5 == 7)) = true ∧
    (hold (exec (.ackTimer 5) (withLink 2 5 { Link.reset with sinceAck := 1 })) (fun t => t.fab.sent.map (fun e => e.2.typ) == [1]) &&
      hold (exec (.rnrResend 5) (withLink 2 5 { Link.reset with rnr := [FabMsg.bare 0], cwnd := 524288 })) (fun t => (t.link 5).rnr.isEmpty) &&
      hold (exec (.rekeyTrigger 5) (withLink 2 5 { Link.reset with txc := 2 ^ 48 })) (fun t => (t.link 5).rekeying)) = true ∧
    (let s := { fabS 2 with fab := { R.fab with txns := [txn0] } }
     (nodeCore txn0.node).isNone && txn0.node != pairNode && hold (exec (.fabricTransactionTout 3) s) (fun t => t.fab.txns.isEmpty &&
      t.net.taken.map (·.status) == [.tout])) = true := by decide +kernel

/-- Context 9 is a collective in state `st`: a root without children, its slot 4. -/
def collS (st : Nat) : State :=
  ((((fabS 2).setFd .FAB_CCTL FAB_CCTL.V 1 0 9).setFd .FAB_CCTL FAB_CCTL.KIND 2 0 9).setFd .FAB_CCTL FAB_CCTL.ROOT 1 0 9).setRg
    (setF (setF 0 FAB_CSTAT.STATE st) FAB_CSTAT.SLOT 4) .FAB_CSTAT 0 9
def withOutcome (o : Option Nat) : State := (collS 1).setColl 9 { (collS 1).coll 9 with outcome := o }

theorem witness_FabricSlotsAndCollectives :
    (let u := ((fabS 2).setFd .TCK_STATUS TCK_STATUS.RUNNING 1).setRg 4000000 .TCK_NEXT
     let s := ((u.setFd .FAB_CTL FAB_CTL.EEN 1).setFd .FAB_ESLOT FAB_ESLOT.V 1 0 255).setFd .FAB_ESLOT FAB_ESLOT.BYTES 2 0 255
     s.ticking && !s.fab.eslots.has 255 && decide (s.frameInstant (s.fd .FAB_ESLOT FAB_ESLOT.START 0 255) < s.nextU) && s.fb .FAB_CTL FAB_CTL.EEN && s.fb .FAB_ESLOT FAB_ESLOT.V 0 255 && (s.link (s.fd .FAB_ESLOT FAB_ESLOT.PEER 0 255)).equeue.isEmpty &&
      hold (exec (.fabEslotStart 255) s) (fun t => t.fab.eslots.get? 255 == some 128)) = true ∧
    (let s := { fabS 2 with fab := { R.fab with eslots := R.fab.eslots.set 255 0, eleft := R.fab.eleft.set 255 1 } }
     s.fab.eslots.has 255 && hold (exec (.fabEslotSpill 255) s) (fun t => t.fd .FAB_ESTATUS FAB_ESTATUS.OVR == 1)) = true ∧
    (hold (exec (.collStart 9) (collS 1)) (fun t => t.fd .FAB_STATUS FAB_STATUS.CERR == 1) &&
      hold (exec (.collStart 8) (collS 0)) (fun t => t.fd .FAB_STATUS FAB_STATUS.CERR == 1) &&
      (let s := (collS 0).setFd .FAB_CCTL FAB_CCTL.ROOT 0 0 9
       s.isColl 9 && s.collNeighbours 9 == [0] && s.lstate 0 != 2 && hold (exec (.collStart 9) s) (fun t => t.collState 9 == 5)) &&
      (collS 0).isColl 9 && (collS 0).collNeighbours 9 == [] && hold (exec (.collStart 9) (collS 0)) (fun t => t.collState 9 == 1)) = true ∧
    ((collS 1).slotState 4 != 2 && hold (exec (.collGranted 9) (withOutcome (some 2))) (fun t => t.collState 9 == 2) &&
      hold (exec (.collGranted 9) (withOutcome (some 3))) (fun t => t.collState 9 == 5) &&
      hold (exec (.collGranted 9) (withOutcome none)) (fun t => t == withOutcome none)) = true ∧
    (hold (exec (.collEnd 9) (collS 4)) (fun t => t.collState 9 == 0) && hold (exec (.collEnd 9) (collS 5)) (fun t => t.collState 9 == 0) &&
      hold (exec (.collEnd 9) (collS 3)) (fun t => t.collState 9 == 3) && (collS 3).slotFd 4 PRL_SLOT_STAT.OKIND != 3 &&
      hold (exec (.collAbort 9) (collS 3)) (fun t => t.collState 9 == 5) && hold (exec (.collAbort 9) (collS 5)) (fun t => t.collState 9 == 5) &&
      (let s := (((collS 2).setSlotState 4 1).setSlotFd 4 PRL_SLOT_STAT.OKIND 3).setSlotFd 4 PRL_SLOT_STAT.OID 9
       s.slotState 4 == 1 && (s.slot 4).queue.isEmpty && hold (exec (.collAbort 9) s) (fun t => t.slotState 4 == 3))) = true := by decide +kernel

/-! Coherence: the homes, the die agents and the memory channels. -/

/-- Die 0 asks for line 0 of the MRAM, whose home is 5, and for line 0x20 of the DRAM, whose home is 2. -/
def q5 : CohReq := ⟨0x020, 0, 7, true, 0xFF, 0x10004000000, 255, 5, 0, 0x11, 8, 3, 0⟩
def C : State := R.setRg 0 .MGT_MRAM_OWN
def homeIs (h : Nat) (d : List (Nat × DirEntry)) (t : List Tracker) (v : List Rsv) : State := C.setHome h ⟨⟨d⟩, t, v, 1⟩
def trkA : Tracker := ⟨opRDS, q5, [], [], [], none, 0, true, none, 0, false, 4000⟩
def rsv0 : Rsv := ⟨0x120, 0, 9, q5.line, false, opRDS, 0, 0, []⟩
def sent1 (t : State) (p : Msg → Bool) : Bool := match t.net.msgs.getLast? with | some m => p m | none => false
def dirIs (h : Nat) (e : Option DirEntry) (t : State) : Bool := ((t.home h).dir.get? q5.line).map (fun x => (x.st, x.ptrs)) == e.map (fun x => (x.st, x.ptrs))

theorem witness_HomeReads :
    (((C.home 5).dir.get? q5.line).isNone && dieOfNode q5.node == some 0 &&
      [opRDS, opRDO, opUPG, opOWNZ, opRDC, opNCRD].all (fun op => decide (C.accepts op 5 q5)) &&
      [Instr.cohRds 5 q5, .cohRdo 5 q5, .cohUpg 5 q5, .cohOwnz 5 q5].all (fun i => hold (exec i C) (dirIs 5 (some ⟨2, [0], 0⟩))) &&
      hold (exec (.cohRds 5 q5) C) (fun t => sent1 t (fun m => m.op == 2 && m.data == 0 && m.dst == 0x020) && (t.home 5).trk == [trkA]) &&
      hold (exec (.cohRdc 5 q5) C) (dirIs 5 none) && hold (exec (.cohNcrd 5 q5) C) (dirIs 5 none)) = true ∧
    (let s := homeIs 5 [(q5.line, ⟨2, [3], 0⟩)] [] []
     decide (s.accepts opRDS 5 q5) && hold (exec (.cohRds 5 q5) s) (fun t => (t.home 5).trk.map (·.snoops) == [[3]] && sent1 t (fun m => m.dst == 0x320))) = true ∧
    (let s := homeIs 5 [] [trkA] []
     s.alive && s.homeGuard opRDS q5.node q5.sec q5.line == .serve && s.lineBusy 5 q5.line &&
      hold (exec (.cohRds 5 q5) s) (fun t => sent1 t (fun m => m.status == .retry) && (t.home 5).rsv.length == 1)) = true ∧
    (let r := { q5 with line := 0x8000000000 }
     homeOf r.line == 8 && C.homeGuard opRDS r.node r.sec r.line == .decerr &&
      hold (exec (.cohRds 8 r) C) (fun t => sent1 t (fun m => m.status == .decerr))) = true ∧
    (let r := { q5 with line := 0x10002000000, sec := false }
     homeOf r.line == 3 && C.homeGuard opRDS r.node r.sec r.line == .zero 2 &&
      hold (exec (.cohRds 3 r) C) (fun t => t.fd .WLD_VIOL WLD_VIOL.KIND == 2 && sent1 t (fun m => m.data == 0))) = true := by decide +kernel

theorem witness_HomeWrites :
    ([opWRF, opWRP, opNCWR, opCLN, opFLS, opATOMF, opATOMM].all (fun op => decide (C.accepts op 5 q5)) && q5.aoff % atomSize q5.aop == 0 &&
      decide ((C.setFd .COH_CTL COH_CTL.AOVR 1 5).accepts opATOMF 5 q5) && (C.setFd .COH_CTL COH_CTL.AOVR 1 5).fd .COH_CTL COH_CTL.AOVR 5 == 1 &&
      hold (exec (.cohWrp 5 q5) C) (fun t => t.mem.length == 1 && sent1 t (fun m => m.op == 8 && m.status == .ok)) &&
      hold (exec (.cohFls 5 q5) C) (fun t => t.mem.isEmpty) &&
      hold (exec (.cohAtomf 5 q5) C) (fun t => t.mem == [(0x800200000008, 3)] && sent1 t (fun m => m.op == 0x20 && m.data == 0))) = true ∧
    (let s := homeIs 5 [(q5.line, ⟨2, [0], 0⟩)] [] []
     s.isHolder 5 q5.line 0 && [opWB, opWBK, opEVC].all (fun op => decide (s.accepts op 5 q5)) &&
      hold (exec (.cohWb 5 q5) s) (fun t => t.mem == [(0x800200000000, 5)] && dirIs 5 none t) && hold (exec (.cohWbk 5 q5) s) (dirIs 5 (some ⟨2, [0], 0⟩)) &&
      hold (exec (.cohEvc 5 q5) s) (dirIs 5 none)) = true ∧
    (!C.isHolder 5 q5.line 0 && decide (C.accepts opWB 5 q5) && decide (C.accepts opEVC 5 q5) && hold (exec (.cohWb 5 q5) C) (fun t => t.fb .COH_STATUS COH_STATUS.PFAULT 5) &&
      hold (exec (.cohEvc 5 q5) C) (fun t => sent1 t (fun m => m.status == .ok))) = true ∧
    (homeOf q5.line != 4 && hold (exec (.cohWrf 4 q5) C) (fun t => t.fb .COH_STATUS COH_STATUS.PFAULT 4)) = true := by decide +kernel

theorem witness_HomeTransactions :
    (let s := homeIs 5 [] [{ trkA with snoops := [2, 3], waitAck := false }] []
     hold (exec (.snoopAnswer 5 2 q5.line 1 false (some (6, 0))) s) (fun t => (t.home 5).trk.map (fun z => (z.snoops, z.got)) == [([3], some (6, 0))])) = true ∧
    (let s := homeIs 5 [(q5.line, ⟨2, [2], 0⟩)] [{ trkA with op := opFLS, snoops := [2], waitAck := false }] []
     hold (exec (.snoopAnswer 5 2 q5.line 0 false none) s) (fun t => (t.home 5).trk.isEmpty && dirIs 5 none t && sent1 t (fun m => m.op == 8))) = true ∧
    ((C.home 5).trk.isEmpty && hold (exec (.snoopAnswer 5 2 q5.line 0 false none) C) (fun t => t.fb .COH_STATUS COH_STATUS.PFAULT 5)) = true ∧
    (hold (exec (.cohAck 5 0x020 7 q5.line) (homeIs 5 [] [trkA] [])) (fun t => (t.home 5).trk.isEmpty) &&
      hold (exec (.cohAck 5 0x020 7 q5.line) C) (fun t => t.fb .COH_STATUS COH_STATUS.PFAULT 5)) = true ∧
    (let s := homeIs 5 [] [] [rsv0]
     !rsv0.granted && !s.lineBusy 5 rsv0.line && hold (exec (.reservationGrant 5) s) (fun t => (t.home 5).rsv.map (·.granted) == [true] &&
      hold (exec (.reservationLapse 5 0x120) t) (fun u => (u.home 5).rsv.isEmpty)) &&
      (C.home 5).rsv.isEmpty && (s.dirVictim 5 rsv0.op rsv0.line).isNone && s.replyPasses rsv0.node rsv0.gen) = true := by decide +kernel

/-- A tracker array of home 5 that has taken bits in error: whether two is a free value. -/
theorem witness_HomeTransactions_error :
    (let s : State := { homeIs 5 [] [trkA] [] with upsets := ⟨[(upKey 8 5 0, 3)]⟩ }
     !(s.home 5).trk.isEmpty && !s.err.stopped && s.alive) = true ∧
    (let s : State := { homeIs 5 [] [trkA] [] with upsets := ⟨[(upKey 8 5 0, 3)]⟩ }
     Config.freeNat 3 % 3 = 2 → s.upsetOf (upKey 8 5 0) = 2) := by
  refine ⟨by decide +kernel, fun h => ?_⟩
  exact h

/-- The package with the L2 of cores 0 and 17 on. -/
def CL : State := ((C.setFd .CDA_CTL CDA_CTL.DCEN 1 0).setCore 17 { Core.reset with creg := Core.reset.creg.set cCACHECTL 5 }).setCore 0 { Core.reset with creg := Core.reset.creg.set cCACHECTL 5 }
/-- Die 0 with one line in its die cache. -/
def dieHas (st : CState) (d : LineData) : State := CL.setDie 0 { CL.die 0 with dcache := ⟨[(q5.line, ⟨st, d, 0⟩)]⟩ }
def dieAsks (op : Nat) : State := CL.setDie 0 { CL.die 0 with reqs := [⟨0, op, q5.line, 7, 0, true, 0xFF, 0⟩] }
def dieWb : State := CL.setDie 0 { CL.die 0 with wb := [⟨q5.line, true, 4, 0, false, 7, 0, 0⟩] }
def runningC (s : State) : Bool := s.cores.l.all (fun e => e.2.run != .resetting)

theorem witness_DieAgent :
    (C.fd .NOC_AGENT NOC_AGENT.FENCE 0 0 0x20 == 0 && (C.die 0).wb.isEmpty && C.dieState 0 q5.line == 0 &&
      [Instr.cohSnps 0 5 1 q5.line, .cohSnpi 0 5 1 q5.line, .cohSnpc 0 5 1 q5.line, .cohSnpcl 0 5 1 q5.line, .cohBinv 0 5 1 q5.line].all (fun i =>
        hold (exec i C) (fun t => sent1 t (fun m => m.op == 0 && m.cls == 2)))) = true ∧
    ((dieHas .m 9).dieState 0 q5.line == 3 && (dieHas .m 9).dieDirty 0 q5.line == some (9, 0) &&
      [Instr.cohSnpi 0 5 1 q5.line, .cohBinv 0 5 1 q5.line].all (fun i => hold (exec i (dieHas .m 9)) (fun t =>
        ((t.die 0).dcache.get? q5.line).isNone && sent1 t (fun m => m.op == 8 && m.data == 9)))) = true ∧
    ((dieHas .e 9).dieState 0 q5.line == 2 && (dieHas .e 9).dieDirty 0 q5.line == none && (dieHas .s 9).dieState 0 q5.line == 1 &&
      hold (exec (.cohSnps 0 5 1 q5.line) (dieHas .e 9)) (fun t => sent1 t (fun m => m.op == 1)) &&
      hold (exec (.cohSnpcl 0 5 1 q5.line) (dieHas .s 9)) (fun t => sent1 t (fun m => m.op == 1))) = true ∧
    (let s := C.setFd .NOC_AGENT NOC_AGENT.FENCE 2 0 0 0x20
     s.fd .NOC_AGENT NOC_AGENT.FENCE 0 0 0x20 == 2 && (s.home 5).trk.isEmpty && s.fence (cdaNode 0) == 2 && hold (exec (.cohSnpi 0 5 1 q5.line) s) (fun t => t.net.taken.map (·.status) == [.targetReset])) = true ∧
    (CL.coreSlice 17 == 0xFF && !CL.inWb 0 q5.line && (CL.core 17).l2en && (CL.core 0).l2en && CL.dcen 0 && C.coreSlice 17 != 3 &&
      (List.range 6).all (fun op => hold (exec (.coreRequestAtCda 17 (Fin.ofNat 6 op) q5.line true 0xFF) CL) (fun t => (t.die 0).reqs.length == 1)) &&
      (dieHas .s 9).dieState 0 q5.line < 2 && hold (exec (.coreRequestAtCda 0 1 q5.line true 0xFF) (dieHas .s 9)) (fun t => sent1 t (fun m => m.op == opUPG)) &&
      hold (exec (.coreRequestAtCda 17 0 q5.line true 3) C) (fun t => t.fd .VSF_SPLOG VSF_SPLOG.VALID == 1)) = true ∧
    (((dieAsks 0).cdaHeld 0 7).isSome && (dieAsks 0).net.msgs.isEmpty && (dieAsks 0).fence (cdaNode 0) == 0 && decide ((dieAsks 0).l2HasRoom 0 q5.line) && runningC (dieAsks 0) && hold (exec (.datReceive 0 7 0 9 0) (dieAsks 0)) (fun t => (t.die 0).reqs.isEmpty) &&
      hold (exec (.datReceive 0 7 2 9 0) (dieAsks 0)) (fun t => ((t.core 0).l2.get? q5.line).map (·.data) == some 9)) = true ∧
    (hold (exec (.cmpReceive 0 7 .stale) dieWb) (fun t => (t.die 0).wb.isEmpty) && (dieAsks 4).cdaHeld 0 7 == some ⟨0, 4, q5.line, 7, 0, true, 0xFF, 0⟩ &&
      ((dieAsks 4).die 0).wb.isEmpty && hold (exec (.cmpReceive 0 7 .ok) (dieAsks 4)) (fun t => (t.die 0).reqs.isEmpty) &&
      hold (exec (.cmpRsv 0 7) (dieAsks 4)) (fun t => (t.die 0).reqs.map (·.wait) == [1] &&
        hold (exec (.gnt 0 7) t) (fun u => (u.die 0).reqs.map (·.wait) == [0] && sent1 u (fun m => m.op == opFLS)))) = true ∧
    (hold (exec (.cdaFlush 0) C) (fun t => (t.die 0).flushing && ((t.dieFlush 0).die 0).wb.isEmpty &&
        hold (exec (.cdaFlushDone 0) t) (fun u => !(u.die 0).flushing)) &&
      !(C.die 0).flushing && hold (exec (.cdaFlushDone 0) C) (fun t => t == C)) = true ∧
    (let s := dieWb.setDie 0 { dieWb.die 0 with flushing := true }
     (s.die 0).flushing && !((s.dieFlush 0).die 0).wb.isEmpty) = true := by decide +kernel

/-- Zeros with their plain check bits in every word of DRAM line 32. -/
def zeros : State := { memOn C with mem := cells 0x1000 (List.replicate 16 0) }
def r32 : CohReq := { q5 with line := 32 }

/-- The same with one or two bits of word 0 wrong. -/
def flipped (w : Nat) : State :=
  { zeros with mem := cells 0x1000 (w :: List.replicate 15 0), chk := ⟨[(512, BitVec.ofNat 16 ((encodeWordEcc 0 false).toNat / 2 ^ 64))]⟩ }

theorem witness_MemoryChannels_errors :
    (∀ e ∈ [(1, 1), (7, 3)], (let s := flipped e.1
      !s.memGated 32 && (s.chan 2).mbuf.isEmpty && (List.range 16).all (fun k => (classify (s.rawWord (32 * 16 + k))).cls == if k = 0 then e.2 else 0) &&
        (e.2 == 3 || !(classify (s.rawWord (32 * 16))).poison) && hold (exec (.channelRead 2 32) s) (fun t => (t.chan 2).mbuf.length == 1 &&
          t.fd .MEM_ELAST MEM_ELAST.CLASS 2 == e.2)) = true) := by decide +kernel

theorem witness_MemoryChannels :
    (homeOf 32 == 2 && (zeros.mergeOf 2 32).isNone && (zeros.chan 2).mbuf.isEmpty && r32.mask != BitVec.allOnes 128 &&
      hold (exec (.mergeWrite 2 r32 false) zeros) (fun t => (t.chan 2).mbuf.length == 1 && t.mem == zeros.mem &&
        (t.mergeOf 2 32).isSome && hold (exec (.mergeRetireTimeout 2 32) t) (fun u => (u.chan 2).mbuf.isEmpty && u.byteAt 0x1000 == some 5)) &&
      hold (exec (.mergeWrite 2 { r32 with mask := BitVec.allOnes 128 } false) zeros) (fun t => (t.chan 2).mbuf.isEmpty)) = true ∧
    ((List.range 16).all (fun k => (classify (zeros.rawWord (32 * 16 + k))).cls == 0) && hold (exec (.channelRead 2 32) zeros) (fun t => t == zeros)) = true ∧
    (let s := zeros.setChan 2 { zeros.chan 2 with scrubQ := [2, 3] }
     lineOfChan 2 2 == 32 && (s.chan 2).scrubQ == [2, 3] && (List.range 16).all (fun k => (classify (s.rawWord (lineOfChan 2 2 * 16 + k))).cls == 0) &&
      hold (exec (.scrubRead 2) (s.setFd .MEM_SLIMIT MEM_SLIMIT.SLIMIT 4 2)) (fun t => t.fd .MEM_SPTR MEM_SPTR.SPTR 2 == 3) &&
      (s.setFd .MEM_SLIMIT MEM_SLIMIT.SLIMIT 3 2).fd .MEM_SLIMIT MEM_SLIMIT.SLIMIT 2 ≤ 3 &&
      hold (exec (.scrubRead 2) (s.setFd .MEM_SLIMIT MEM_SLIMIT.SLIMIT 3 2)) (fun t => t.fd .MEM_SCRUB MEM_SCRUB.PASS 2 == 1)) = true ∧
    (!C.fb .MEM_CFG MEM_CFG.EN 15 && hold (exec (.channelEnable 15) C) (fun t => t.fb .MEM_CFG MEM_CFG.EN 15 && !t.fb .MEM_STATUS MEM_STATUS.TRAINED 15 &&
      hold (exec (.channelTrained 15 true 0) t) (fun u => u.fb .MEM_STATUS MEM_STATUS.TRAINED 15) &&
      hold (exec (.channelTrained 15 false 3) t) (fun u => u.fd .MEM_STATUS MEM_STATUS.TSTEP 15 == 3))) = true ∧
    (hold (exec (.memInjArm 1 swI 0xFFFFFFFF) C) (fun t => t.rg .MEM_INJ 1 == 0x017F7F7F) &&
      hold (exec (.memInjArm 1 nwI 0xFFFFFFFF) C) (fun t => t.rg .MEM_INJ 1 == C.rg .MEM_INJ 1 && t.fb .WLD_VIOL WLD_VIOL.VALID) &&
      hold (exec (.mscDisable 1) C) (fun t => t.fd .MSC_CTL MSC_CTL.EN 1 == 0) && hold (exec (.dramHot 1 true) C) (fun t => (t.chan 1).hot)) = true ∧
    (let r := { q5 with mask := fullMask }
     region (r.line * 128) == .mram && decide (homeFree C r.line) && ((C.home (homeOf r.line)).dir.get? r.line).isNone &&
      decide (r.line * 128 / 0x100000 % 16 < 15) && hold (exec (.mramAccess r true) C) (fun t => t.rawWord (r.line * 16) == encodeWordEcc (lineWord r.data 0) false)) = true ∧
    (let r := { q5 with line := 0x10004000000 + 15 * 8192, sec := false }
     region (r.line * 128) == .mram && r.line * 128 / 0x100000 % 16 == 15 && hold (exec (.mramAccess r false) C) (fun t => t.fd .WLD_VIOL WLD_VIOL.KIND == 3)) = true := by
  decide +kernel

/-! Reset, boot, identity. -/

/-- Boot at stage `n`. -/
def bootAt (n : Nat) : State := { R with boot := { R.boot with stage := n } }
def bootingB (s : State) (n : Nat) : Bool :=
  s.boot.pwrok && s.boot.resetN && !s.pwr.tripped && !s.err.stopped && s.boot.stage == n && !s.fb .BOOT_STATUS BOOT_STATUS.STOPPED &&
    !s.fb .BOOT_STATUS BOOT_STATUS.DONE
def work0 : BootWork := ⟨true, true, [], List.replicate 16 2, List.replicate 16 0, List.replicate 16 3, List.replicate 16 true, true⟩
def stageIs (n : Nat) (t : State) : Bool := t.boot.stage == n
def stopIs (c : Nat) (t : State) : Bool := t.fd .BOOT_STATUS BOOT_STATUS.CODE == c && t.fb .BOOT_STATUS BOOT_STATUS.STOPPED
/-- An image by the layout of 19 R482 to R484: records of types 1, 2, 3 (one byte for `aux`), 4 (core 0) and END, 560 bytes. -/
def image0 (aux : List (Nat × Byte)) : KMap Byte :=
  ⟨[(0, 0x46), (1, 0x52), (2, 0x56), (3, 0x4C), (4, 2), (8, 0x30), (9, 2), (12, 5), (256, 1), (258, 1), (272, 2), (274, 1), (276, 96), (384, 3),
    (386, 1), (388, 1)] ++ aux ++ [(416, 4), (418, 1), (420, 16), (448, 255), (450, 1)]⟩
def sramAux : List (Nat × Byte) := [(396, 1), (397, 0x80)]
def booted (n : Nat) (im : KMap Byte) : State :=
  { R with boot := { R.boot with stage := n, buf := im, fuses := { Fuses.reset with prog := 1 } } }

theorem witness_BootResets :
    (!R.boot.strapGlitch && hold (exec .coldReset R) (stageIs 1) && R.boot.pwrok && !R.pwr.tripped && hold (exec .warmReset R) (stageIs 1) &&
      hold (exec .railUndervoltage R) (fun t => !t.boot.pwrok)) = true ∧
    (let s := { R with boot := { R.boot with pwrok := false } }
     !s.boot.pwrok && hold (exec .railUndervoltage s) (fun t => t.boot.stage == 1)) = true ∧
    (let s := { R with boot := { R.boot with held := true, resetN := false } }
     s.boot.held && s.boot.pwrok && hold (exec .resetHoldEnd s) (fun t => stageIs 1 t && t.boot.resetN)) = true ∧
    (let s := R.setFd .PWR_STATUS PWR_STATUS.PKG 4
     s.fd .PWR_STATUS PWR_STATUS.PKG == 4 && hold (exec .wakeN s) (fun t => stageIs 1 t && t.rg .PWR_WAKESRC == 1)) = true ∧
    (let s := (R.setFd .PWR_STATUS PWR_STATUS.PKG 2).setRg 1 .PWR_WAKEEN
     s.boot.pwrok && s.pkgAsleep && bitAt (s.rg .PWR_WAKEEN) 0 && hold (exec .wakeN s) (fun t => t.pwr.exiting) &&
      hold (exec .thermtrip s) (fun t => t.pins.thermTrip)) = true ∧
    (R.alive && swI.sec && !nwI.sec && hold (exec (.bootWarm swI) R) (stageIs 1) && hold (exec (.bootWarm nwI) R) (fun t => t.fb .WLD_VIOL WLD_VIOL.VALID)) = true ∧
    (let s := R.setFd .BOOT_STATUS BOOT_STATUS.RECOVERY 1
     s.boot.pwrok && s.boot.resetN && s.fb .BOOT_STATUS BOOT_STATUS.RECOVERY && hold (exec .recReset s) (stageIs 1)) = true := by decide +kernel

/-- Every die is there: the peers of the twelve sites are live. -/
def liveDies : State := (List.range 12).foldl (fun s d => s.setFd .D2D_PEER D2D_PEER.LIVE 1 d) (bootAt 5)

theorem witness_BootStages :
    ([1, 2, 3, 4, 5, 6, 7, 8, 9, 10].all (fun n => bootingB (bootAt n) n) && hold (exec (.bootStageDone work0) (bootAt 1)) (stageIs 2) &&
      hold (exec (.bootStageDone { work0 with fuseOk := false }) (bootAt 1)) (stopIs 0x40) && hold (exec (.bootStageDone work0) (bootAt 2)) (stageIs 3)) = true ∧
    (let s := (bootAt 3).setFd .BOOT_STRAP BOOT_STRAP.BOOT_SRC 3
     !s.boot.fromBuf && bootingB s 3 && hold (exec (.bootStageDone work0) s) (fun t => t.fb .BOOT_STATUS BOOT_STATUS.RECOVERY)) = true ∧
    (let s := { bootAt 3 with boot := { (bootAt 3).boot with flash := image0 sramAux } }
     s.fd .BOOT_STRAP BOOT_STRAP.BOOT_SRC != 3 && bootingB s 3 && (List.range 4).map s.flashByte == [0x46, 0x52, 0x56, 0x4C] && hold (exec (.bootStageDone work0) s) (stageIs 4)) = true ∧
    (!(bootAt 3).fb .BOOT_STATUS BOOT_STATUS.COPY && hold (exec (.bootStageDone { work0 with flashOk := false }) (bootAt 3)) (fun t =>
      stageIs 3 t && t.fb .BOOT_STATUS BOOT_STATUS.COPY)) = true ∧
    (let s := (bootAt 4).setFd .BOOT_STATUS BOOT_STATUS.COPY 1
     bootingB s 4 && !s.boot.fromBuf && s.fb .BOOT_STATUS BOOT_STATUS.COPY && s.verifyImage == some (3, 0) && s.img 4 != 2 && hold (exec (.bootStageDone work0) s) (stopIs 3) &&
      (let u := { s with boot := { s.boot with buf := ⟨[(4, 2)]⟩ } }
       u.img 4 == 2 && decide (u.imgLen < 368) && hold (exec (.bootStageDone work0) u) (stopIs 6))) = true ∧
    ((List.range 12).all (fun d => liveDies.fd .D2D_PEER D2D_PEER.LIVE d != 0 && !liveDies.fb .IDN_DIE_REV IDN_DIE_REV.REFUSED 0 (d + 1)) &&
      bootingB liveDies 5 && hold (exec (.bootStageDone work0) liveDies) (stageIs 6) && (bootAt 5).fd .D2D_PEER D2D_PEER.LIVE 11 == 0 &&
      hold (exec (.bootStageDone work0) (bootAt 5)) (stopIs 0x10)) = true ∧
    ((List.range 16).all (fun h => work0.dimmCap.getD h 0 != 0 && work0.dimmType.getD h 0 == work0.dimmType.getD 0 0 && capOk (work0.dimmCap.getD h 0) &&
        work0.trained.getD h false) && hold (exec (.bootStageDone work0) (bootAt 6)) (stageIs 7) &&
      hold (exec (.bootStageDone { work0 with dimmCap := List.replicate 15 2 }) (bootAt 6)) (stopIs 0x20)) = true ∧
    ((booted 8 (image0 sramAux)).records.length == 5 && bootingB (booted 8 (image0 sramAux)) 8 && ((booted 8 (image0 sramAux)).records.findIdx? (fun r =>
        r.typ == 3 && knownRec r && region r.aux == .dram && decide ((booted 8 (image0 sramAux)).installed < r.aux + r.plen))).isNone &&
      (booted 8 (image0 [])).records.findIdx? (fun r => r.typ == 3 && knownRec r && region r.aux == .dram &&
        decide ((booted 8 (image0 [])).installed < r.aux + r.plen)) == some 2 && hold (exec (.bootStageDone work0) (booted 8 (image0 []))) (stopIs 8)) = true ∧
    (let s := booted 10 (image0 sramAux)
     (s.records.find? (fun r => r.typ == 4)).isSome && bootingB s 10 && hold (exec (.bootStageDone work0) (bootAt 9)) (stageIs 10) &&
      (s.records.find? (fun r => r.typ == 4)).map (fun r => s.imgLe r.off 8) == some 0 && (s.core 0).run == .held &&
      hold (exec (.bootStageDone work0) s) (fun t => t.fb .BOOT_STATUS BOOT_STATUS.DONE && (t.core 0).run == .run)) = true ∧
    (let s := R.setFd .BOOT_STATUS BOOT_STATUS.RECOVERY 1
     s.fb .BOOT_STATUS BOOT_STATUS.RECOVERY && !s.fb .REC_RESULT REC_RESULT.BUSY && hold (exec .recGo s) (fun t => t.boot.going == some false) &&
      hold (exec .recProgram s) (fun t => t.boot.going == some true && t.imgLe 0 4 != imgMagic && hold (exec .recoveryGoDone t) (stopIs 1))) = true := by
  decide +kernel

/-- The image in the buffer at stage 4, and in recovery with GO or PROGRAM under way. -/
def goodS (p : Bool) : State :=
  { booted 4 (image0 sramAux) with boot := { (booted 4 (image0 sramAux)).boot with going := some p } }

theorem goodS_records (p : Bool) : (∀ k, k < (goodS p).records.length →
    ((!knownRec ((goodS p).records.getD k ⟨0, false, 0, 0, 0, 0, 0⟩) || !(goodS p).badRec ((goodS p).imgLen - 96)
        (((goodS p).records.take k).any (fun q => knownRec q && q.typ == ((goodS p).records.getD k ⟨0, false, 0, 0, 0, 0, 0⟩).typ))
        ((goodS p).records.getD k ⟨0, false, 0, 0, 0, 0, 0⟩)) &&
      (knownRec ((goodS p).records.getD k ⟨0, false, 0, 0, 0, 0, 0⟩) || !((goodS p).records.getD k ⟨0, false, 0, 0, 0, 0, 0⟩).req)) = true) := by
  cases p <;> decide +kernel

theorem witness_BootStages_good (p : Bool) (h : Config.imageSigned ((goodS p).imgBytes 0 (goodS p).imgLen) ((goodS p).img 14).toNat = true) :
    (goodS p).imageGood ∧ (goodS p).booting 4 ∧ (goodS p).boot.going = some p := by
  have r9 : ∀ r ∈ (goodS p).records, r.typ ≠ 9 := by cases p <;> decide +kernel
  have rs := goodS_records p
  refine ⟨⟨?_, ?_, ?_, ?_, ?_, ?_, ?_, ?_, ?_, ?_, ?_, h, ?_, ?_, ?_, ?_, ?_, ?_⟩, ?_, rfl⟩
  case refine_13 =>
    intro k hk
    have := rs k hk
    simp only [Bool.and_eq_true, Bool.or_eq_true, Bool.not_eq_true'] at this
    refine ⟨fun a => ?_, fun a => ?_⟩
    · rcases this.1 with b | b
      · exact absurd (a.symm.trans b) (by decide)
      · exact b
    · rcases this.2 with b | b
      · exact absurd (b.symm.trans a) (by decide)
      · exact b
  case refine_17 =>
    rintro ⟨r, hr, ht, _⟩
    exact absurd ht (r9 r hr)
  all_goals clear h r9 rs; cases p <;> decide +kernel

theorem witness_BootServices :
    (R.alive && swI.sec && !nwI.sec && hold (exec (.svncommit swI) (R.setFd .BOOT_STATUS BOOT_STATUS.SVN 3)) (fun t => t.boot.fuses.svn == 3) &&
      hold (exec (.bootRevoke swI 15) { R with boot := { R.boot with fuses := { Fuses.reset with prog := 15 } } }) (fun t => t.boot.fuses.revoked == 14) &&
      hold (exec (.svncommit nwI) R) (fun t => t.fb .WLD_VIOL WLD_VIOL.VALID)) = true ∧
    (let s := R.setFd .BOOT_STATUS BOOT_STATUS.DONE 1
     let d : Word := 0x4000000000000
     s.fb .BOOT_STATUS BOOT_STATUS.DONE && bitAt d 50 && s.boot.spi.isNone && hold (exec (.bootSpicmd swI d) s) (fun t => t.boot.spi == some d &&
      hold (exec (.bootSpicmd swI d) t) (fun u => u.fb .BOOT_SPICMD BOOT_SPICMD.ERR))) = true ∧
    (let w : Word := setF 0 BOOT_SPICMD.LEN 1
     let s := { R with boot := { R.boot with spi := some w } }
     s.alive && getF w BOOT_SPICMD.WR == 0 && hold (exec (.spiCommandDone true [0x5A]) s) (fun t => t.spiByte 0 == 0x5A) &&
      hold (exec (.spiCommandDone false []) s) (fun t => t.fb .BOOT_SPICMD BOOT_SPICMD.ERR)) = true ∧
    (R.alive && hold (exec (.spdmRequest false 0x84) R) (fun t =>
      t.boot.spdm.getD 0 0 == 1) && R.boot.pwrok && !R.pwr.tripped) = true := by decide +kernel

/-! The mirror pair. -/

/-- The pair link enabled, in state `st` with 16 lanes and every feature; memory as in the coherence tests. -/
def P (st : Nat) : State :=
  (((((memOn C).setFd .PAIR_CTL PAIR_CTL.EN 1).setFd .PAIR_LINK PAIR_LINK.STATE st).setFd .PAIR_LINK PAIR_LINK.LANES 16).setFd .PAIR_LINK PAIR_LINK.FEAT 7).setFd
    .PAIR_ULOGSZ PAIR_ULOGSZ.MIB 1
/-- Entry 15 valid over a link that is UP, with its role (1 partner), STATE and mirror. -/
def ent (role st : Nat) (m : Mirror) : State :=
  ((((P 2).setFd .PAIR_MP_CTL PAIR_MP_CTL.V 1 0 15).setFd .PAIR_MP_CTL PAIR_MP_CTL.ROLE role 0 15).setFd .PAIR_MP_STAT PAIR_MP_STAT.STATE st 0 15).setMirror
    15 m
/-- The same with core 70 in the entry. -/
def ent1 (role st : Nat) (m : Mirror) : State := (ent role st m).setRg (1 <<< 6) .PAIR_MP_CORE 0 15 1
def caps0 : CapsIn := ⟨1, 0, 7, true, 5, true⟩
def mr : Mirror := Mirror.reset
def pin0 : PairIn := ⟨15, 0, 9, 0, 0, 0, 0, 0⟩
def mstIs (n : Nat) (t : State) : Bool := t.mst 15 == n

theorem witness_PairLinkRows :
    ((P 1).alive && (P 1).fb .PAIR_CTL PAIR_CTL.EN && (P 1).domState 260 == 0 && (P 1).plink == 1 &&
      hold (exec (.pairLinkTrained 4) (P 1)) (fun t => t.fd .PAIR_LINK PAIR_LINK.LANES == 4 && t.pair.sent.length == 1) &&
      hold (exec (.pairLinkTrained 3) (P 1)) (fun t => t.plink == 4) && hold (exec (.pairLinkDown 2 3) (P 1)) (fun t => t.plink == 4) &&
      hold (exec (.pairLinkDown 0 16) (P 2)) (fun t => t.plink == 0 && t.fb .PAIR_STATUS PAIR_STATUS.LINKEV)) = true ∧
    ((P 1).fd .PAIR_LINK PAIR_LINK.LANES != 0 && !(P 1).fb .BOOT_STRAP BOOT_STRAP.PAIR_SIDE &&
      hold (exec (.pairCaps { caps0 with major := 2 }) (P 1)) (fun t => t.plink == 3 && t.fd .PAIR_LINK PAIR_LINK.CAUSE == 1) &&
      hold (exec (.pairCaps { caps0 with side := false }) (P 1)) (fun t => t.fd .PAIR_LINK PAIR_LINK.CAUSE == 2) &&
      hold (exec (.pairCaps { caps0 with idOk := false }) (P 1)) (fun t => t.fd .PAIR_LINK PAIR_LINK.CAUSE == 3) &&
      hold (exec (.pairCaps caps0) (P 1)) (fun t => t.plink == 2 && t.pair.peerPkg == 5) &&
      hold (exec (.pairCaps { caps0 with feat := 6 }) (P 1)) (fun t => t.plink == 2)) = true ∧
    ((P 2).pairUp && (P 2).pair.entries.l.isEmpty && hold (exec .pairHb ((P 2).setFd .PAIR_LINK PAIR_LINK.SILENT 1)) (fun t =>
        !t.fb .PAIR_LINK PAIR_LINK.SILENT) && hold (exec .pairHbSend (P 2)) (fun t => t.pair.sent.length == 1) &&
      hold (exec .pairStop (P 2)) (fun t => t.pair.stopSeen)) = true ∧
    ((ent 1 1 mr).pairUp && (ent 1 1 mr).pair.entries.l == [(15, mr)] && mstIs 1 (ent 1 1 mr) && (ent 1 1 mr).mpartner 15 &&
      hold (exec .pairStop (ent 1 1 mr)) (fun t => mstIs 5 t && t.fd .PAIR_MP_STAT PAIR_MP_STAT.CAUSE 0 15 == 3)) = true ∧
    ((ent 0 2 mr).alive && (ent 0 2 mr).fb .PAIR_CTL PAIR_CTL.EN && !(ent 0 2 mr).mpartner 15 && mstIs 2 (ent 0 2 mr) &&
      (ent 0 2 mr).pair.entries.l == [(15, mr)] && hold (exec .pairSilence (ent 0 2 mr)) (mstIs 3)) = true := by decide +kernel

/-- What a capture's images and sweeps give, as a test. -/
def okB (x : Bool × State) : Bool := x.1
theorem ok_of {x : Bool × State} (h : okB x = true) : ∃ u, x = (true, u) := by obtain ⟨a, u⟩ := x; cases a <;> simp_all [okB]

theorem witness_PairFrames :
    (let s := ent 0 2 { mr with capturing := true, marks := [7] }
     s.alive && (s.mirror 15).capturing && (s.pairCores 15).isEmpty && okB (State.captureImages 15 (s.pairCores 15) 0 s) &&
      okB (State.sweepAll (List.range 12) s) && (s.mirror 15).bulk != 1 &&
      hold (exec (.captureCut 15) s) (fun t => (t.mirror 15).ship == [7] && (t.mirror 15).marks.isEmpty) && mstIs 2 s &&
      hold (exec (.captureAbandon 15) s) (fun t => t.fd .PAIR_MP_CNT PAIR_MP_CNT.SKIPS 0 15 == 1 && t.fb .PAIR_STATUS PAIR_STATUS.MOVR)) = true ∧
    (let s := { (ent 0 2 { mr with ship := [32] }).setFd .PAIR_MP_CTL PAIR_MP_CTL.SIZE 1 0 15 with mem := zeros.mem }
     s.shipping 15 && s.mirrorHolds 15 32 && (s.mirror 15).toShip 32 && hold (exec (.shipLine 15 32) s) (fun t => (t.mirror 15).ship.isEmpty &&
      t.pair.sent.map (fun m => (m.typ, m.arg, m.data)) == [(1, 32, 0)])) = true ∧
    ((ent 0 2 mr).shipping 15 && (ent 0 2 mr).allShipped 15 && hold (exec (.sealSend 15) (ent 0 2 mr)) (fun t => (t.mirror 15).sealed)) = true ∧
    (let s := ent 1 1 mr
     let m := { pin0 with arg := q5.line, data := 6 }
     let o := s.pairHeard.readLine pairNode (m.arg % 2 ^ 49) false
     s.pairUp && s.mpartner m.entry && s.mst m.entry == 1 && s.pairHeard.undoRoom && o.1.status == .ok &&
      (o.2.writeLine pairNode (m.arg % 2 ^ 49) false fullMask m.data m.psn).1.status == .ok &&
      hold (exec (.pairShip m) s) (fun t => t.mem == [(0x800200000000, 6)] && (t.mirror 15).undo.map (·.data) == [0])) = true ∧
    (let s := ent 1 2 { mr with performed := 3 }
     mstIs 2 s && hold (exec (.pairSeal { pin0 with arg := 3 }) s) (fun t => mstIs 2 t && t.fd .PAIR_MP_STAT PAIR_MP_STAT.CFRAME 0 15 == 9) &&
      hold (exec (.pairSeal pin0) s) (mstIs 5)) = true ∧
    (let s := ent 0 1 { mr with sealed := true, frame := 9 }
     s.pairUp && !s.mpartner 15 && mstIs 1 s && (s.mirror 15).sealed && !(s.mirror 15).committed && !(s.mirror 15).switching &&
      hold (exec (.pairCommit pin0) s) (fun t => mstIs 2 t && (t.mirror 15).committed) &&
      hold (exec (.pairCommit { pin0 with arg := 1 }) s) (mstIs 5)) = true := by decide +kernel

def someB (x : Option State) : Bool := x.isSome

/-- An entry with a core, its images and sweeps at free homes. -/
theorem witness_PairFrames_cores :
    (let s := ent1 0 2 { mr with capturing := true, marks := [7], bulk := 1, switching := true }
     let s1 := s.setCore 70 { run0 with sec := false, lvl := .k }
     s1.alive && s1.pairCores 15 == [70] && (s1.core 70).capturable && (s1.core 70).stq.isEmpty && (s1.core 70).sbuf.isEmpty &&
      decide (s1.imagesAtHome 15) && (List.range 12).all (fun d => (s1.sweepLines d).isEmpty && (s1.die d).wb.isEmpty)) = true ∧
    (let s := ent 1 1 mr
     s.pairUp && s.mpartner 15 && s.undoRoom && decide (atHome s 32)) = true ∧
    (let s := ent 0 1 { mr with sealed := true, frame := 9, switching := true, stopped := [70] }
     s.pairUp && !s.mpartner 15 && mstIs 1 s && decide s.nothingHeld &&
      hold (exec (.pairCommit pin0) s) (fun t => mstIs 2 t && t.pair.sent.map (·.typ) == [7])) = true := by
  refine ⟨?_, ?_, ?_⟩ <;> decide +kernel

theorem witness_PairCommands_cores :
    (∀ m ∈ [{ mr with resuming := true, undo := [⟨32, 9, 4, 0⟩] }, mr], (let s := ent1 1 2 m
     s.alive && s.pairUp && s.mpartner 15 && mstIs 2 s && s.pairCores 15 == [70] && (s.mirror 15).undo.all (fun u => decide (atHome s u.line)) &&
      decide (s.imagesAtHome 15 ∧ s.coresEmpty 15)) = true) ∧
    (let s := ent1 0 2 { mr with switchSent := true }
     s.pairUp && !s.mpartner 15 && mstIs 2 s && s.pair.hold.isEmpty && decide (s.coresEmpty 15) && !s.err.halted && decide (s.domState 70 < 3) &&
      hold (exec (.pairSwack pin0) s) (fun t => t.mpartner 15 && (t.core 70).run == .resetting)) = true ∧
    (decide (ent 0 3 mr).nothingHeld && hold (exec (.pairBreak 15) (ent 0 3 mr)) (mstIs 0)) = true := by
  refine ⟨?_, ?_, ?_⟩ <;> decide +kernel

theorem witness_PairCommands :
    ((ent 0 4 mr).alive && mstIs 4 (ent 0 4 mr) && (ent 0 4 mr).fb .PAIR_MP_CTL PAIR_MP_CTL.V 0 15 && !(ent 0 4 mr).mpartner 15 && (ent 0 4 mr).plink == 2 &&
      hold (exec (.pairStart 15) (ent 0 4 mr)) (fun t => (t.mirror 15).opening) && hold (exec (.pairStart 15) (P 1)) (fun t =>
        t.fb .PAIR_STATUS PAIR_STATUS.CERR)) = true ∧
    ((ent 0 2 mr).plink == 2 && ((ent 0 2 mr).fd .PAIR_LINK PAIR_LINK.FEAT).testBit 1 && hold (exec (.pairSwitch 15) (ent 0 2 mr)) (fun t =>
        (t.mirror 15).switching) && hold (exec (.pairBreak 15) (ent 0 3 mr)) (mstIs 0) && hold (exec (.pairResume 15) (ent 1 2 mr)) (fun t =>
        (t.mirror 15).resuming) && hold (exec (.pairClear 15) (ent 0 5 mr)) (mstIs 0) && mstIs 0 (ent 0 0 mr) &&
      [Instr.pairSwitch 15, .pairBreak 15, .pairResume 15, .pairClear 15].all (fun i => hold (exec i (ent 0 0 mr)) (fun t =>
        t.fb .PAIR_STATUS PAIR_STATUS.CERR))) = true ∧
    ((ent 1 0 mr).pairUp && (ent 1 0 mr).openMatches pin0 && hold (exec (.pairOpen pin0) (ent 1 0 mr)) (mstIs 1) &&
      !(ent 1 0 mr).openMatches { pin0 with size := 1 } && hold (exec (.pairOpen { pin0 with size := 1 }) (ent 1 0 mr)) (mstIs 5) &&
      (ent 0 0 { mr with opening := true }).openMatches pin0 && hold (exec (.pairOpen pin0) (ent 0 0 { mr with opening := true })) (fun t =>
        mstIs 1 t && (t.mirror 15).bulk == 1)) = true ∧
    (let s := ent 1 2 { mr with resuming := true, undo := [⟨q5.line, 9, 4, 0⟩] }
     s.mpartner 15 && mstIs 2 s && okB (s.rollBack 15) && someB (State.resumeCores 15 ((s.rollBack 15).2.pairCores 15) 0 (s.rollBack 15).2) &&
      hold (exec (.resumption 15) s) (fun t => mstIs 4 t && t.mem == [(0x800200000000, 4)])) = true ∧
    (let s := ent 1 2 mr
     s.pairUp && someB (State.resumeCores 15 (s.pairHeard.pairCores 15) 0 s.pairHeard) && hold (exec (.pairSwitchMsg pin0) s) (fun t => !t.mpartner 15)) = true ∧
    (let s := ent 0 2 { mr with switchSent := true }
     s.pairUp && !s.mpartner 15 && mstIs 2 s && (s.mirror 15).switchSent && hold (exec (.pairSwack pin0) s) (fun t => t.mpartner 15)) = true := by
  decide +kernel

/-! The whole package, core resets, words. -/

theorem witness_CoreResetState :
    (let s := withCore { run0 with run := .resetting }
     s.alive && (s.core 0).run == .resetting && !s.dieHolding 0 && (s.core 0).sbuf.isEmpty && (s.core 0).l2.l.isEmpty && hold (exec (.coreResetDone 0) s) (fun t => (t.core 0).run == .held &&
      hold (exec (.coreRelease 0) t) (fun u => (u.core 0).run == .run && (u.core 0).rg 2 == 0))) = true := by decide +kernel

/-- Group slot 24 of the dies is empty after reset. -/
theorem witness_EmptySwarmGroup :
    (let s := R
     s.alive && nwI.slice == 0xFF && regAccessOk 0x28000000 32 && (s.swarmAt 0x28000000).map (fun p => p.2.isEmpty) == some true &&
      s.replyPasses nwI.node nwI.gen && decide (noDebug s) &&
      hold (exec (.swarmAccess nwI 0x28000000 32 false 0) s) (fun t => t.regs == s.regs && t.net.taken.length == 2)) = true := by decide +kernel

theorem witness_PowerOffIsKept :
    (let s := { R with boot := { R.boot with pwrok := false }, pending := [.pairHb] }
     !s.boot.pwrok && !actsWithoutPower .pairHb && hold (step s) (fun t => t.pending.isEmpty && t.regs == s.regs)) = true ∧
    (actsWithoutPower .coldReset && hold (exec .pwrokFall { R with pending := [.pairHb] }) (fun t => !t.boot.pwrok)) = true := by decide +kernel

theorem witness_DecodeEncode :
    ((encode (.add o0)).isSome && !sharesWord (.add o0) && (encode (.add o0)).map (decodeWord 0) == some (some (.add o0)) &&
      sharesWord (.mcall ⟨0, 0, false, 0, 0, 0, true⟩)) = true := by decide +kernel
end Sys2Proof.Machine
end

section
/-! REFUTATION of O36. `Init.node` is any natural number, while `NOC_AGENT` holds records for 4,096 node IDs (09 R236): the
record read for a larger number lies at the place of another register. A write of that register by such an initiator changes
the generation its reply is checked against (09 R252), so the write is performed and its completion is dropped. -/
namespace Sys2Proof.Machine

/-- A completion that does not pass to its node is dropped, and counts in STALECNT (09 R252). -/
theorem regReply_of_not_passes {s : State} {i : Init} (src off : Nat) (st : Status) (v : Word)
    (h : s.replyPasses i.node i.gen = false) : s.regReply i src off st v = s.countStale i.node := by
  simp [State.regReply, State.replyPacket, Msg.mk', h]

/-- With no instruction waiting in a C_DBGINST there is nothing to execute (03 R99). -/
theorem debugAll_of_noDebug {s : State} (h : noDebug s) : s.debugAll = s := by
  have hany : s.cores.l.any (fun e => e.2.debugDue) = false :=
    List.any_eq_false.mpr (fun e he => by simp [h e he])
  simp [State.debugAll, hany]

/-- An answered access leaves two more packets taken: the request and its completion. -/
theorem answered_taken_length {s t : State} {i : Init} {st : Status} (h : answered s t i st) :
    t.net.taken.length = s.net.taken.length + 2 := by
  obtain ⟨q, r, htaken, -⟩ := h
  simp [htaken]

/-- An initiator of the normal world whose number is no node ID: its agent record lies at PWR_WAKETIME. -/
def strayInit : Init := ⟨0x37F006, false, 0xFF, 0, 0⟩

/-- The agent record of a number of any size. -/
theorem agentRecord_addr (node : Nat) :
    RegKind.NOC_AGENT.addr 0 (node / 256) (node % 256) = 0x208000 + 8 * node := by
  have h : RegKind.NOC_AGENT.addr 0 (node / 256) (node % 256) = 0x208000 + node / 256 * 2048 + node % 256 * 8 := rfl
  omega

/-- What is read as the agent record of `strayInit` is PWR_WAKETIME. -/
theorem rg_strayRecord (s : State) :
    s.rg .NOC_AGENT 0 (strayInit.node / 256) (strayInit.node % 256) = s.rg .PWR_WAKETIME := by
  have haddr : RegKind.NOC_AGENT.addr 0 (strayInit.node / 256) (strayInit.node % 256) = RegKind.PWR_WAKETIME.addr :=
    agentRecord_addr strayInit.node
  unfold State.rg
  rw [haddr]
  rfl

/-- With 1 in PWR_WAKETIME the generation of `strayInit` is 1, and no reply under its generation 0 passes. -/
theorem not_replyPasses_stray {s : State} (h : s.rg .PWR_WAKETIME = 1) :
    s.replyPasses strayInit.node strayInit.gen = false := by
  have hgen : s.genOf strayInit.node = 1 := by
    rw [State.genOf, State.fd, rg_strayRecord, h]
    decide
  rw [State.replyPasses, hgen]
  exact Bool.and_false _

/-- What the write of 1 to PWR_WAKETIME by `strayInit` answers after reset, and the state in which its completion is sent. -/
def strayAccess : RegRes × State :=
  (State.reset.regRequest strayInit (regNode (RegKind.addr .PWR_WAKETIME)) (RegKind.addr .PWR_WAKETIME) true 1).regAccess
    strayInit (RegKind.addr .PWR_WAKETIME) 64 true 1

/-- The write is performed with status OK; so far only its request has been taken. -/
theorem strayAccess_performed : strayAccess.1 = .done .ok 0 ∧ strayAccess.2.rg .PWR_WAKETIME = 1 ∧
    noDebug strayAccess.2 ∧ strayAccess.2.net.taken.length = 1 := by
  decide +kernel

/-- In the state in which it is sent, the completion of that write is dropped. -/
theorem exec_strayWrite : exec (.registerWrite strayInit (RegKind.addr .PWR_WAKETIME) 64 1) State.reset =
    .next (strayAccess.2.countStale strayInit.node) := by
  obtain ⟨hdone, hwake, hdebug, -⟩ := strayAccess_performed
  have htravel : State.reset.registerWrite strayInit (RegKind.addr .PWR_WAKETIME) 64 1 =
      strayAccess.2.regReply strayInit (regNode (RegKind.addr .PWR_WAKETIME)) (RegKind.addr .PWR_WAKETIME) .ok 0 := by
    have halive : State.reset.alive = true := by decide +kernel
    have hspace : ¬ 0x100000000 ≤ RegKind.PWR_WAKETIME.addr := by decide
    have hpair : strayAccess = (.done .ok 0, strayAccess.2) := Prod.ext hdone rfl
    rw [State.registerWrite, if_neg hspace, if_pos halive, State.regTravel, ← strayAccess, hpair]
  have hstale := regReply_of_not_passes (regNode (RegKind.addr .PWR_WAKETIME)) (RegKind.addr .PWR_WAKETIME) .ok 0
    (not_replyPasses_stray hwake)
  have hquiet : noDebug (strayAccess.2.countStale strayInit.node) := hdebug
  calc exec (.registerWrite strayInit (RegKind.addr .PWR_WAKETIME) 64 1) State.reset
      = .next (State.reset.registerWrite strayInit (RegKind.addr .PWR_WAKETIME) 64 1).debugAll := rfl
    _ = .next (strayAccess.2.countStale strayInit.node) := by rw [htravel, hstale, debugAll_of_noDebug hquiet]

/-- Refutes O36: after reset the write of 1 to PWR_WAKETIME by `strayInit`, which is outside every slice and which a reply
reaches, is performed and never answered. The clause holds no bound on the initiator's node (`wfInit` asks for one below
4,096). -/
theorem not_registerAccesses : ¬ Obligations.RegisterAccesses := by
  unfold Obligations.RegisterAccesses
  rintro ⟨-, hwrites, -⟩
  have halive : State.reset.alive = true := by decide +kernel
  have hpasses : State.reset.replyPasses strayInit.node strayInit.gen = true := by decide +kernel
  have hquiet : noDebug State.reset := by decide +kernel
  have hfence : State.reset.fence (hubNode 4) = 0 := by decide +kernel
  obtain ⟨hwake, -⟩ := hwrites strayInit 1 State.reset halive rfl hpasses hquiet
  obtain ⟨t, hexec, hanswered, -⟩ := hwake hfence
  have ht : strayAccess.2.countStale strayInit.node = t := Host.Outcome.next.inj (exec_strayWrite.symm.trans hexec)
  have hlength := answered_taken_length hanswered
  obtain ⟨-, -, -, htaken⟩ := strayAccess_performed
  have hone : t.net.taken.length = 1 := by rw [← ht]; exact htaken
  omega
end Sys2Proof.Machine
end

section
/-! O58: a swarm access to an empty group (01 R37). -/
namespace Sys2Proof.Machine

/-- Whether a reply passes to a node hangs on the registers alone (09 R251, R252). -/
theorem replyPasses_of_regs {s t : State} (h : t.regs = s.regs) (node gen : Nat) :
    t.replyPasses node gen = s.replyPasses node gen := by
  have hfence : t.fence node = s.fence node := fd_of_regs h _ _ _ _ _
  have hgen : t.genOf node = s.genOf node := fd_of_regs h _ _ _ _ _
  rw [State.replyPasses, State.replyPasses, hfence, hgen]

/-- What a swarm access reaches hangs on the registers alone (01 R34, R36). -/
theorem swarmAt_of_regs {s t : State} (h : t.regs = s.regs) (off : Nat) : t.swarmAt off = s.swarmAt off := by
  have hmembers : t.slotMembers = s.slotMembers := by
    funext f k
    simp [State.slotMembers, rg_of_regs h]
  simp [State.swarmAt, hmembers]

/-- A completion that passes to its node is taken there (09 R252). -/
theorem regReply_of_passes {s : State} {i : Init} (src off : Nat) (st : Status) (v : Word)
    (h : s.replyPasses i.node i.gen = true) :
    s.regReply i src off st v = s.deliver (Msg.mk' 5 0x02 i.node src i.gen i.tag i.sec st (0x800000000000 + off)
      (BitVec.setWidth 1024 v) 0 i.slice) := by
  simp [State.regReply, State.replyPacket, Msg.mk', h]

/-- A swarm access outside every slice that reaches nothing is answered OK with zero where it arrives, and changes nothing
there (01 R37). -/
theorem regAccess_of_empty_swarm {s : State} {i : Init} {off width f : Nat} (write : Bool) (data : Word)
    (hslice : i.slice = 0xFF) (hok : regAccessOk off width = true) (hempty : s.swarmAt off = some (f, [])) :
    s.regAccess i off width write data = (.done .ok 0, s) := by
  have hreach : s.sliceReach i.slice off width write = true := by simp [State.sliceReach, hslice]
  simp [State.regAccess, hok, hreach, hempty, State.swarmDo]

/-- The journey of such an access is its request and its completion (09 R241). -/
theorem regTravel_of_empty_swarm {s : State} {i : Init} {off width f : Nat} (write : Bool) (data : Word)
    (hslice : i.slice = 0xFF) (hok : regAccessOk off width = true) (hempty : s.swarmAt off = some (f, []))
    (hpass : s.replyPasses i.node i.gen = true) :
    s.regTravel i off width write data =
      (s.regRequest i (regNode off) off write data).deliver (Msg.mk' 5 0x02 i.node (regNode off) i.gen i.tag i.sec .ok
        (0x800000000000 + off) 0 0 i.slice) := by
  have hregs : (s.regRequest i (regNode off) off write data).regs = s.regs := deliver_regs s _
  have haccess := regAccess_of_empty_swarm write data hslice hok ((swarmAt_of_regs hregs off).trans hempty)
  have hzero : BitVec.setWidth 1024 (0 : Word) = 0 := by simp
  rw [State.regTravel, haccess, ← hzero]
  exact regReply_of_passes _ _ _ _ ((replyPasses_of_regs hregs i.node i.gen).trans hpass)

/-- Settles O58: the access adds its request and its completion to the packets taken, and nothing else. -/
theorem emptySwarmGroup : Obligations.EmptySwarmGroup := by
  unfold Obligations.EmptySwarmGroup
  intro i off width f write data s halive hslice hok hempty hpass hquiet
  refine ⟨s.regTravel i off width write data, ?_, ?_⟩
  · have hgo : s.swarmAccess i off width write data = s.regTravel i off width write data := by
      simp [State.swarmAccess, halive, hempty]
    have hquiet' : noDebug (s.regTravel i off width write data) := by
      rw [regTravel_of_empty_swarm write data hslice hok hempty hpass]
      exact hquiet
    calc exec (.swarmAccess i off width write data) s
        = .next (s.swarmAccess i off width write data).debugAll := rfl
      _ = .next (s.regTravel i off width write data) := by rw [hgo, debugAll_of_noDebug hquiet']
  · rw [regTravel_of_empty_swarm write data hslice hok hempty hpass]
    exact ⟨rfl, rfl, rfl, rfl, rfl, rfl, rfl, rfl, _, _, List.append_assoc .., rfl, rfl, rfl, rfl, rfl, rfl⟩

end Sys2Proof.Machine
end

section
/-! The registers of the die-to-die ports and of the sites (01 R16, 09 R259-R266): where they lie, what a write of one leaves of
the others, and the operations that leave them all. -/
namespace Sys2Proof.Machine

/-! Places. -/

/-- The kinds of register that each side of a port, or its block, holds. -/
def portKinds : List RegKind := [.D2D_PEER, .D2D_PCTL, .D2D_PSTAT, .D2D_BLK, .D2D_ERRCNT]

/-- An address in the port block of a site: the hub's, numbered 0 to 11, or the die's, numbered 12 to 23. -/
def inPortBlock (a : Nat) : Prop := ∃ x o, x < 24 ∧ o < 0x10000 ∧ a = Blk.d2d.base x + o

theorem d2dBase_eq (x : Nat) :
    Blk.d2d.base x = if x < 12 then 0x400000 + x * 0x10000 else 0x10200000 + (x - 12) * 0x1000000 := rfl

theorem d2dBase_add_inj {x y a b : Nat} (hx : x < 24) (hy : y < 24) (ha : a < 0x10000) (hb : b < 0x10000)
    (h : Blk.d2d.base x + a = Blk.d2d.base y + b) : x = y ∧ a = b := by
  rw [d2dBase_eq, d2dBase_eq] at h
  split at h <;> split at h <;> omega

/-- The place of a port's register in its block. -/
def portPlace (k : RegKind) (i : Nat) : Nat := k.spec.off + i * k.spec.s1

theorem portReg_addr {k : RegKind} (hk : k ∈ portKinds) (x i : Nat) : k.addr x i = Blk.d2d.base x + portPlace k i := by
  have hblk : ∀ k ∈ portKinds, k.spec.blk = .d2d := by decide
  rw [RegKind.addr, hblk k hk, portPlace, Nat.zero_mul]
  omega

/-- Place 0 of a die's block is its site code; the ports' registers lie behind it. -/
theorem portPlace_bounds : ∀ k ∈ portKinds, ∀ i < 4, 0 < portPlace k i ∧ portPlace k i < 0x10000 := by decide

theorem portPlace_kind_inj :
    ∀ k ∈ portKinds, ∀ k' ∈ portKinds, ∀ i < 4, ∀ i' < 4, portPlace k i = portPlace k' i' → k = k' := by decide

theorem siteReg_addr (d : Nat) : RegKind.D2D_SITE.addr d = Blk.d2d.base (12 + d) := by
  have hblk : RegKind.D2D_SITE.spec.blk = .dd2d := rfl
  have hoff : RegKind.D2D_SITE.spec.off = 0 := rfl
  simp [RegKind.addr, hblk, hoff, Blk.base]

theorem portInst_lt (p : PortRef) : portInst p < 24 := by
  unfold portInst
  split <;> omega

theorem pidx_lt (s : State) (p : PortRef) : s.pidx p < 4 := by
  unfold State.pidx
  split <;> omega

/-- A side has a register set of its own (01 R18). -/
theorem portSet_inj {s : State} {p q : PortRef} (hinst : portInst p = portInst q) (hidx : s.pidx p = s.pidx q) : p = q := by
  obtain ⟨b, site, dir⟩ := p
  obtain ⟨b', site', dir'⟩ := q
  have hside : b = b' ∧ site.val = site'.val := by
    cases b <;> cases b' <;> simp [portInst] at hinst ⊢ <;> omega
  obtain ⟨rfl, hsite⟩ := hside
  obtain rfl : site = site' := Fin.ext hsite
  have hdir : dir.val = dir'.val := by
    cases b <;> simp [State.pidx] at hidx <;> omega
  rw [Fin.ext hdir]

/-! What a write of a port's register leaves. -/

section
variable {k : RegKind} {x i : Nat} (hk : k ∈ portKinds) (hx : x < 24) (hi : i < 4)
include hk hx hi

theorem portReg_inPortBlock : inPortBlock (k.addr x i) :=
  ⟨x, portPlace k i, hx, (portPlace_bounds k hk i hi).2, portReg_addr hk x i⟩

theorem rg_setRg_portReg_kind (s : State) (w : Word) {k' : RegKind} {x' i' : Nat} (hk' : k' ∈ portKinds) (hx' : x' < 24)
    (hi' : i' < 4) (hne : k' ≠ k) : (s.setRg w k x i).rg k' x' i' = s.rg k' x' i' := by
  refine rg_setRg_ne s w k k' x i 0 x' i' 0 fun h => hne ?_
  rw [portReg_addr hk, portReg_addr hk'] at h
  have hplace := (d2dBase_add_inj hx' hx (portPlace_bounds _ hk' _ hi').2 (portPlace_bounds _ hk _ hi).2 h).2
  exact portPlace_kind_inj _ hk' _ hk _ hi' _ hi hplace

theorem rg_setRg_portReg_inst (s : State) (w : Word) {x' i' : Nat} (hx' : x' < 24) (hi' : i' < 4) (hne : x' ≠ x) :
    (s.setRg w k x i).rg k x' i' = s.rg k x' i' := by
  refine rg_setRg_ne s w k k x i 0 x' i' 0 fun h => hne ?_
  rw [portReg_addr hk, portReg_addr hk] at h
  exact (d2dBase_add_inj hx' hx (portPlace_bounds k hk i' hi').2 (portPlace_bounds k hk i hi).2 h).1

theorem siteReg_ne_portReg (d : SiteNo) : RegKind.D2D_SITE.addr d ≠ k.addr x i := by
  intro h
  rw [portReg_addr hk, siteReg_addr] at h
  have hbounds := portPlace_bounds k hk i hi
  have hplace := (d2dBase_add_inj (a := 0) (by omega) hx (by omega) hbounds.2 h).2
  omega

theorem rg_setRg_portReg_site (s : State) (w : Word) (d : SiteNo) :
    (s.setRg w k x i).rg .D2D_SITE d = s.rg .D2D_SITE d :=
  rg_setRg_ne s w k _ x i 0 d 0 0 (siteReg_ne_portReg hk hx hi d)

theorem pidx_setRg_portReg (s : State) (w : Word) (p : PortRef) : (s.setRg w k x i).pidx p = s.pidx p := by
  simp [State.pidx, State.rot, State.fd, rg_setRg_portReg_site hk hx hi s w p.site]

/-- A register of a port that is not a status leaves every side's status. -/
theorem pst_setRg_portReg (s : State) (w : Word) (p : PortRef) (f : Fld) (hne : k ≠ .D2D_PSTAT) :
    (s.setRg w k x i).pst p f = s.pst p f := by
  rw [State.pst, State.pst, pidx_setRg_portReg hk hx hi, State.fd, State.fd,
    rg_setRg_portReg_kind hk hx hi s w (by decide) (portInst_lt p) (pidx_lt s p) hne.symm]
end

/-! The status of a side. -/

section
variable (s : State) (p : PortRef) (f : Fld) (v : Nat)

@[simp] theorem pidx_setPst (q : PortRef) : (s.setPst p f v).pidx q = s.pidx q :=
  pidx_setRg_portReg (by decide) (portInst_lt p) (pidx_lt s p) s _ q

theorem rg_setPst {k : RegKind} {x i : Nat} (hk : k ∈ portKinds) (hx : x < 24) (hi : i < 4) (hne : k ≠ .D2D_PSTAT) :
    (s.setPst p f v).rg k x i = s.rg k x i :=
  rg_setRg_portReg_kind (by decide) (portInst_lt p) (pidx_lt s p) s _ hk hx hi hne

theorem pst_setPst_self (h : f.lo + f.len ≤ 64) : (s.setPst p f v).pst p f = v % 2 ^ f.len := by
  rw [State.pst, pidx_setPst]
  exact fd_setFd_self s _ f v _ _ _ h

theorem pst_setPst_disjoint (g : Fld) (h : f.lo + f.len ≤ g.lo ∨ g.lo + g.len ≤ f.lo) (hg : g.lo + g.len ≤ 64) :
    (s.setPst p f v).pst p g = s.pst p g := by
  rw [State.pst, pidx_setPst]
  exact fd_setFd_disjoint s _ f g v _ _ _ h hg

variable {p} in
theorem pst_setPst_ne {q : PortRef} (g : Fld) (h : q ≠ p) : (s.setPst p f v).pst q g = s.pst q g := by
  rw [State.pst, pidx_setPst]
  refine fd_setFd_ne s _ _ f g v _ _ _ _ _ _ fun haddr => h ?_
  rw [portReg_addr (by decide), portReg_addr (by decide)] at haddr
  obtain ⟨hinst, hplace⟩ := d2dBase_add_inj (portInst_lt q) (portInst_lt p) (portPlace_bounds _ (by decide) _ (pidx_lt s q)).2
    (portPlace_bounds _ (by decide) _ (pidx_lt s p)).2 haddr
  have hstat : ∀ i, portPlace .D2D_PSTAT i = 0x108 + i * 0x100 := fun _ => rfl
  rw [hstat, hstat] at hplace
  have hidx : s.pidx q = s.pidx p := by omega
  exact portSet_inj hinst hidx
end

theorem portOther_ne (p : PortRef) : portOther p ≠ p := by
  obtain ⟨b, site, dir⟩ := p
  cases b <;> simp [portOther]

theorem ne_portOther (p : PortRef) : p ≠ portOther p := (portOther_ne p).symm

/-! What leaves every register of the ports and sites. -/

/-- The two states agree on every register of the ports and sites. -/
def SamePorts (s t : State) : Prop := ∀ a, inPortBlock a → t.regs.get? a = s.regs.get? a

theorem samePorts_of_regs {s t : State} (h : t.regs = s.regs) : SamePorts s t := fun a _ => by rw [h]

theorem SamePorts.trans {s t u : State} (h : SamePorts s t) (h' : SamePorts t u) : SamePorts s u :=
  fun a ha => (h' a ha).trans (h a ha)

section
variable {s t : State} (h : SamePorts s t)
include h

theorem SamePorts.rg {k : RegKind} {x i : Nat} (hk : inPortBlock (k.addr x i)) : t.rg k x i = s.rg k x i := by
  simp [State.rg, KMap.getD, h _ hk]

theorem SamePorts.rg_site (d : SiteNo) : t.rg .D2D_SITE d = s.rg .D2D_SITE d :=
  h.rg ⟨12 + d, 0, by omega, by omega, siteReg_addr d⟩

theorem SamePorts.pidx (p : PortRef) : t.pidx p = s.pidx p := by
  simp [State.pidx, State.rot, State.fd, h.rg_site p.site]

theorem SamePorts.fd {k : RegKind} {x i : Nat} (hk : k ∈ portKinds) (hx : x < 24) (hi : i < 4) (f : Fld) :
    t.fd k f x i = s.fd k f x i := by
  rw [State.fd, State.fd, h.rg (portReg_inPortBlock hk hx hi)]

theorem SamePorts.pst (p : PortRef) (f : Fld) : t.pst p f = s.pst p f := by
  rw [State.pst, State.pst, h.pidx, h.fd (by decide) (portInst_lt p) (pidx_lt s p)]

theorem SamePorts.pstate (p : PortRef) : t.pstate p = s.pstate p := h.pst p _
end

/-! The error hardware keeps to its own registers (20 R495, R508). -/

/-- An address in an error block of the hub or of a die (01 R30, R31). -/
def inErrorBlock (a : Nat) : Prop := (0x2400000 ≤ a ∧ a < 0x2600000) ∨ (0x10400000 ≤ a ∧ 0x400000 ≤ a % 0x1000000)

/-- The two states agree on every register outside the error blocks. -/
def SameButErrors (s t : State) : Prop := ∀ a, ¬ inErrorBlock a → t.regs.get? a = s.regs.get? a

section
variable {s t u : State}

theorem SameButErrors.refl : SameButErrors s s := fun _ _ => rfl

theorem SameButErrors.trans (h : SameButErrors s t) (h' : SameButErrors t u) : SameButErrors s u :=
  fun a ha => (h' a ha).trans (h a ha)

theorem SameButErrors.setErr (h : SameButErrors s t) (e : Err) : SameButErrors s { t with err := e } := h

variable {w : Word} {k : RegKind} {x i j : Nat} (h : SameButErrors s t) (hk : inErrorBlock (k.addr x i j))
include h hk

theorem SameButErrors.setRg : SameButErrors s (t.setRg w k x i j) := by
  refine h.trans fun a ha => KMap.get?_set_ne _ _ fun haddr => ha ?_
  rwa [haddr]

theorem SameButErrors.setFd {f : Fld} {v : Nat} : SameButErrors s (t.setFd k f v x i j) := h.setRg hk

theorem SameButErrors.satFd {f : Fld} : SameButErrors s (t.satFd k f x i j) := h.setFd hk
end

/-- The registers of a bank (20 R496). -/
def bankKinds : List RegKind := [.ERB_REC, .ERB_ADDR, .ERB_MISC, .ERB_TIME, .ERB_CTL]

theorem bankReg_inErrorBlock {k : RegKind} (hk : k ∈ bankKinds) (x : Nat) {b : Nat} (hb : b < 0x100) :
    inErrorBlock (k.addr x b) := by
  have hspec : ∀ k ∈ bankKinds, k.spec.blk = .erbx ∧ k.spec.off < 0x1100 ∧ k.spec.s1 = 64 := by decide
  obtain ⟨hblk, hoff, hstride⟩ := hspec k hk
  have hbase : Blk.erbx.base x = if x < 12 then 0x10400000 + x * 0x1000000 else 0x2400000 := rfl
  rw [RegKind.addr, hblk, hbase, hstride, Nat.zero_mul]
  unfold inErrorBlock
  split <;> omega

theorem bankLoc_lt (bank : Nat) : (bankLoc bank).2 < 0x100 := by
  unfold bankLoc
  split <;> dsimp only <;> omega

theorem stopReg_inErrorBlock : inErrorBlock (RegKind.addr .ERB_DSTOP) ∧ inErrorBlock (RegKind.addr .ERB_DSTIME) := by
  have hstop : RegKind.addr .ERB_DSTOP = 0x2400020 := by decide
  have htime : RegKind.addr .ERB_DSTIME = 0x2400028 := by decide
  rw [hstop, htime]
  unfold inErrorBlock
  omega

theorem writeRec_sameButErrors (s : State) (e : ErrEvent) (ovf : Nat) : SameButErrors s (s.writeRec e ovf) := by
  have hbank : ∀ k ∈ bankKinds, inErrorBlock (k.addr (bankLoc e.bank).1 (bankLoc e.bank).2) :=
    fun k hk => bankReg_inErrorBlock hk _ (bankLoc_lt e.bank)
  unfold State.writeRec State.queueLog
  refine .setErr (.setRg (.setRg (.setRg (.setRg .refl ?_) ?_) ?_) ?_) _ <;> exact hbank _ (by decide)

theorem bumpOvf_sameButErrors (s : State) (x : Nat) {b : Nat} (hb : b < 0x100) : SameButErrors s (s.bumpOvf x b) := by
  have hrec : SameButErrors s (s.satFd .ERB_REC ERB_REC.OVF x b) := .satFd .refl (bankReg_inErrorBlock (by decide) x hb)
  unfold State.bumpOvf
  dsimp only
  split
  · exact hrec.setFd (bankReg_inErrorBlock (by decide) x hb)
  · exact hrec

theorem stopTrigger_sameButErrors (s : State) (cause bank : Nat) : SameButErrors s (s.stopTrigger cause bank) := by
  obtain ⟨hstop, htime⟩ := stopReg_inErrorBlock
  unfold State.stopTrigger
  split
  · exact .satFd .refl hstop
  · exact .setErr (.setFd (.setFd (.setFd (.setFd (.setRg .refl hstop) hstop) hstop) hstop) htime) _

/-- Recording an error writes registers of the error blocks alone. -/
theorem recordErr_sameButErrors (s : State) (e : ErrEvent) : SameButErrors s (s.recordErr e) := by
  have hrec := writeRec_sameButErrors s e
  unfold State.recordErr
  dsimp only
  split
  · exact .satFd .refl stopReg_inErrorBlock.1
  split
  · split
    · exact (hrec _).trans (stopTrigger_sameButErrors _ _ _)
    · exact hrec _
  split
  · exact bumpOvf_sameButErrors s _ (bankLoc_lt e.bank)
  split
  · split
    · exact (hrec _).trans (stopTrigger_sameButErrors _ _ _)
    · exact hrec _
  split
  · exact stopTrigger_sameButErrors _ _ _
  · exact stopTrigger_sameButErrors _ _ _

theorem not_inErrorBlock_of_inPortBlock {a : Nat} (h : inPortBlock a) : ¬ inErrorBlock a := by
  obtain ⟨x, o, hx, ho, rfl⟩ := h
  rw [d2dBase_eq]
  unfold inErrorBlock
  split <;> omega

theorem recordErr_samePorts (s : State) (e : ErrEvent) : SamePorts s (s.recordErr e) :=
  fun a ha => recordErr_sameButErrors s e a (not_inErrorBlock_of_inPortBlock ha)

theorem linkEvent_samePorts (s : State) (p : PortRef) : SamePorts s (s.linkEvent p) := by
  unfold State.linkEvent
  split <;> exact recordErr_samePorts s _

end Sys2Proof.Machine
end

section
/-! The flits of a side of a die-to-die port (09 R260, R261): what sending leaves of what the side has received, and that flits
write no register. -/
namespace Sys2Proof.Machine

@[simp] theorem pside_setPside (s : State) (p : PortRef) (v : PortSide) : (s.setPside p v).pside p = v :=
  port_setPort_self s _ v

@[simp] theorem setPside_regs (s : State) (p : PortRef) (v : PortSide) : (s.setPside p v).regs = s.regs := rfl

@[simp] theorem perr_pside (s : State) (p q : PortRef) (f : Fld) : (s.perr p f).pside q = s.pside q := rfl

@[simp] theorem foldl_putFlit_regs (p : PortRef) (l : List Flit) (s : State) :
    (l.foldl (fun s f => s.putFlit p f) s).regs = s.regs := by
  induction l generalizing s with
  | nil => rfl
  | cons f l ih => exact ih (s.putFlit p f)

@[simp] theorem emitFlit_regs (s : State) (p : PortRef) (ctrl : Bool) (body : Nat) :
    (s.emitFlit p ctrl body).regs = s.regs := by
  simp only [State.emitFlit]
  split <;> rfl

@[simp] theorem pumpFlits_regs (p : PortRef) (n : Nat) (s : State) : (State.pumpFlits p n s).regs = s.regs := by
  induction n generalizing s with
  | zero => rfl
  | succ n ih =>
    simp only [State.pumpFlits]
    split
    · rfl
    split
    · rw [ih, emitFlit_regs, setPside_regs]
    split
    · exact emitFlit_regs s p true 0
    · rfl

@[simp] theorem pump_regs (s : State) (p : PortRef) : (s.pump p).regs = s.regs := pumpFlits_regs p _ s

@[simp] theorem moveFlits_regs (s : State) (p : PortRef) (dest : Option Nat) : (s.moveFlits p dest).regs = s.regs := by
  cases dest with
  | none => rfl
  | some h => simp [State.moveFlits]

theorem pidx_perr (s : State) (p q : PortRef) (f : Fld) : (s.perr p f).pidx q = s.pidx q :=
  pidx_setRg_portReg (by decide) (portInst_lt p) (pidx_lt s p) s _ q

/-- A count of one kind leaves the other counts of the side. -/
theorem fd_perr_disjoint (s : State) (p : PortRef) (f g : Fld) (h : f.lo + f.len ≤ g.lo ∨ g.lo + g.len ≤ f.lo)
    (hg : g.lo + g.len ≤ 64) :
    (s.perr p f).fd .D2D_ERRCNT g (portInst p) (s.pidx p) = s.fd .D2D_ERRCNT g (portInst p) (s.pidx p) :=
  fd_setFd_disjoint s _ f g _ _ _ _ h hg

/-- A count of a side is one more, or stays at its limit. -/
theorem fd_perr_self (s : State) (p : PortRef) (f : Fld) (h : f.lo + f.len ≤ 64) :
    (s.perr p f).fd .D2D_ERRCNT f (portInst p) (s.pidx p) = satInc f.len (s.fd .D2D_ERRCNT f (portInst p) (s.pidx p)) :=
  fd_satFd_self s _ f _ _ _ h

/-! What a side has received. -/

/-- What a side has taken from the flits it received: the last good SEQ, the NAKs in a row, the flits and the credits. -/
def PortSide.intake (v : PortSide) : Nat × Nat × List Flit × KMap Nat := (v.lastGood, v.naks, v.rx, v.cred)

theorem intake_eq_iff {v w : PortSide} :
    v.intake = w.intake ↔ v.lastGood = w.lastGood ∧ v.naks = w.naks ∧ v.rx = w.rx ∧ v.cred = w.cred := by
  simp [PortSide.intake]

@[simp] theorem putFlit_intake (s : State) (p : PortRef) (f : Flit) :
    ((s.putFlit p f).pside p).intake = (s.pside p).intake := by
  simp [State.putFlit, PortSide.intake]

@[simp] theorem emitFlit_intake (s : State) (p : PortRef) (ctrl : Bool) (body : Nat) :
    ((s.emitFlit p ctrl body).pside p).intake = (s.pside p).intake := by
  simp only [State.emitFlit]
  split
  · simp only [putFlit_intake, pside_setPside]
    rfl
  · rfl

theorem pumpFlits_intake (p : PortRef) (n : Nat) (s : State) :
    ((State.pumpFlits p n s).pside p).intake = (s.pside p).intake := by
  induction n generalizing s with
  | zero => rfl
  | succ n ih =>
    simp only [State.pumpFlits]
    split
    · rfl
    split
    · rw [ih, emitFlit_intake, pside_setPside]
      rfl
    split
    · exact emitFlit_intake s p true 0
    · rfl

@[simp] theorem pump_intake (s : State) (p : PortRef) : ((s.pump p).pside p).intake = (s.pside p).intake :=
  pumpFlits_intake p _ s

/-- With no flit and no NAK waiting nothing goes. -/
theorem pump_of_idle {s : State} {p : PortRef} (hqueue : (s.pside p).queue = []) (hnak : (s.pside p).nakDue = false) :
    s.pump p = s := by
  simp [State.pump, State.pumpFlits, hqueue, hnak]

/-! What a side sends. -/

theorem putFlit_pside (s : State) (p : PortRef) (f : Flit) :
    ((s.putFlit p f).pside p).replay = (s.pside p).replay ∧ ((s.putFlit p f).pside p).queue = (s.pside p).queue ∧
      ((s.putFlit p f).pside p).nextSeq = (s.pside p).nextSeq ∧ ((s.putFlit p f).pside p).nakDue = false ∧
      ((s.putFlit p f).pside p).sent.length = (s.pside p).sent.length + 1 := by
  simp [State.putFlit]

theorem foldl_putFlit_pside (p : PortRef) (l : List Flit) (s : State) (hnak : (s.pside p).nakDue = false) :
    let t := l.foldl (fun s f => s.putFlit p f) s
    (t.pside p).replay = (s.pside p).replay ∧ (t.pside p).queue = (s.pside p).queue ∧ (t.pside p).nakDue = false ∧
      (t.pside p).sent.length = (s.pside p).sent.length + l.length := by
  induction l generalizing s with
  | nil => exact ⟨rfl, rfl, hnak, rfl⟩
  | cons f l ih =>
    obtain ⟨hreplay, hqueue, -, hdue, hsent⟩ := putFlit_pside s p f
    obtain ⟨ihreplay, ihqueue, ihdue, ihsent⟩ := ih (s.putFlit p f) hdue
    refine ⟨ihreplay.trans hreplay, ihqueue.trans hqueue, ihdue, ?_⟩
    simp only [List.foldl_cons, List.length_cons, ihsent, hsent]
    omega

/-! The rows of R260 and R261. -/

/-- A side after the flit that it accepts (R260, R261). -/
def PortSide.accepted (v : PortSide) (f : FlitIn) : PortSide :=
  { (if f.credits = 0 then v else v.credited f.crVc.val (f.credits % 65536)) with
    lastGood := f.seq % 4096, naks := 0, rx := if f.ctrl then v.rx else v.rx ++ [⟨f.seq % 4096, false, f.body⟩] }

/-- A side after an acknowledgement (R261). -/
def PortSide.acked (v : PortSide) (ack : Nat) : PortSide := { v with replay := ackFlits ack v.replay }

/-- A side that has discarded a flit and is to name the last good one, for the `n`-th time (R261). -/
def PortSide.refusing (v : PortSide) (n : Nat) : PortSide := { v with naks := n, nakSeq := v.lastGood, nakDue := true }

section
variable (v : PortSide) (f : FlitIn) (ack : Nat)

@[simp] theorem acked_intake : (v.acked ack).intake = v.intake := rfl
@[simp] theorem acked_replay : (v.acked ack).replay = ackFlits ack v.replay := rfl
@[simp] theorem acked_queue : (v.acked ack).queue = v.queue := rfl
@[simp] theorem acked_nakDue : (v.acked ack).nakDue = v.nakDue := rfl
@[simp] theorem acked_sent : (v.acked ack).sent = v.sent := rfl

@[simp] theorem accepted_replay : (v.accepted f).replay = v.replay := by
  unfold PortSide.accepted
  split <;> rfl

@[simp] theorem accepted_queue : (v.accepted f).queue = v.queue := by
  unfold PortSide.accepted
  split <;> rfl

@[simp] theorem accepted_nakDue : (v.accepted f).nakDue = v.nakDue := by
  unfold PortSide.accepted
  split <;> rfl

/-- Credits come back up to what the far queue has (R260). -/
theorem accepted_cred (h : f.credits ≠ 0) : (v.accepted f).cred.getD f.crVc.val 0 =
    min (vcCredits f.crVc.val) (v.cred.getD f.crVc.val 0 + f.credits % 65536) := by
  rw [PortSide.accepted, if_neg h]
  exact KMap.getD_set_self _ _ _ _
end

theorem takeAck_without_nak (s : State) (p : PortRef) (ack : Nat) :
    s.takeAck p ack false = (s.setPside p ((s.pside p).acked ack)).pump p := rfl

/-- What a side holds in its replay buffer goes again. -/
def State.replayFlits (s : State) (p : PortRef) : State := (s.pside p).replay.foldl (fun s f => s.putFlit p f) s

/-- A replay sends each flit once and takes no flit out (R261). -/
theorem replayFlits_pside {s : State} {p : PortRef} (hnak : (s.pside p).nakDue = false) :
    ((s.replayFlits p).pside p).replay = (s.pside p).replay ∧ ((s.replayFlits p).pside p).queue = (s.pside p).queue ∧
      ((s.replayFlits p).pside p).nakDue = false ∧
      ((s.replayFlits p).pside p).sent.length = (s.pside p).sent.length + (s.pside p).replay.length :=
  foldl_putFlit_pside p _ s hnak

theorem takeAck_with_nak (s : State) (p : PortRef) (ack : Nat) :
    s.takeAck p ack true = ((((s.setPside p ((s.pside p).acked ack)).replayFlits p).perr p D2D_ERRCNT.NAKS).perr p
      D2D_ERRCNT.REPLAYS).pump p := rfl

/-- A discarded flit before the eighth in a row asks for a replay and not for retraining (R261). -/
theorem badFlit_of_few_naks {s : State} {p : PortRef} (h : (s.pside p).naks < 7) :
    ∃ n, s.badFlit p = ((s.perr p D2D_ERRCNT.CRCERR).setPside p ((s.pside p).refusing n)).pump p := by
  have hfew : ¬ 8 ≤ if (s.pside p).naks ≠ 0 ∧ (s.pside p).nakSeq = (s.pside p).lastGood then (s.pside p).naks + 1 else 1 := by
    split <;> omega
  exact ⟨_, if_neg hfew⟩

section
variable {s : State} {p : PortRef} {f : FlitIn} (hdead : s.dead = false) (hup : s.pstate p = 2)
include hdead hup

theorem execFlitReceive_in_order (hstop : (s.pside p).stopped = false) (hcrc : f.crcBad = false)
    (hwidth : f.wstamp.val = widthCode (s.pst p D2D_PSTAT.WIDTH)) (hnak : f.nak = false)
    (hseq : f.seq % 4096 = ((s.pside p).lastGood + 1) % 4096) :
    execFlitReceive p f s = .next ((s.setPside p ((s.pside p).accepted f)).takeAck p (f.ack % 4096) false) := by
  simp [execFlitReceive, hdead, hup, hstop, hcrc, hwidth, hnak, hseq, PortSide.accepted]

/-- The flit after the last good one is accepted with its credits, and what it acknowledges leaves the replay buffer. -/
theorem flitReceive_in_order (hstop : (s.pside p).stopped = false) (hcrc : f.crcBad = false)
    (hwidth : f.wstamp.val = widthCode (s.pst p D2D_PSTAT.WIDTH)) (hnak : f.nak = false)
    (hseq : f.seq % 4096 = ((s.pside p).lastGood + 1) % 4096) :
    Answers (.flitReceive p f) s (fun t => (t.pside p).lastGood = f.seq % 4096 ∧ (t.pside p).naks = 0 ∧
      ((s.pside p).queue = [] → (s.pside p).nakDue = false →
        (t.pside p).replay = ackFlits (f.ack % 4096) (s.pside p).replay) ∧
      (f.credits % 65536 ≠ 0 → (t.pside p).cred.getD f.crVc.val 0 =
        min (vcCredits f.crVc.val) ((s.pside p).cred.getD f.crVc.val 0 + f.credits % 65536)) ∧
      (t.pside p).rx = (if f.ctrl then (s.pside p).rx else (s.pside p).rx ++ [⟨f.seq % 4096, false, f.body⟩])) := by
  have hexec := execFlitReceive_in_order hdead hup hstop hcrc hwidth hnak hseq
  rw [takeAck_without_nak, pside_setPside] at hexec
  refine ⟨_, hexec, ?_⟩
  have hintake := (pump_intake _ p).trans (congrArg PortSide.intake (pside_setPside
    (s.setPside p ((s.pside p).accepted f)) p (((s.pside p).accepted f).acked (f.ack % 4096))))
  obtain ⟨hgood, hnaks, hrx, hcred⟩ := intake_eq_iff.mp hintake
  refine ⟨hgood, hnaks, fun hq hn => ?_, fun hc => ?_, hrx⟩
  · rw [pump_of_idle (by simp [hq]) (by simp [hn])]
    simp
  · have hcredits : f.credits ≠ 0 := fun h => hc (by simp [h])
    rw [hcred]
    exact accepted_cred _ f hcredits

/-- A flit with a CRC error is discarded and counted; it is not yet the eighth in a row (R261). -/
theorem flitReceive_crc_error (hstop : (s.pside p).stopped = false) (hcrc : f.crcBad = true) (hnaks : (s.pside p).naks < 7) :
    Answers (.flitReceive p f) s (fun t => (t.pside p).lastGood = (s.pside p).lastGood ∧ (t.pside p).rx = (s.pside p).rx ∧
      t.fd .D2D_ERRCNT D2D_ERRCNT.CRCERR (portInst p) (s.pidx p) =
        satInc D2D_ERRCNT.CRCERR.len (s.fd .D2D_ERRCNT D2D_ERRCNT.CRCERR (portInst p) (s.pidx p))) := by
  have hexec : execFlitReceive p f s = .next (s.badFlit p) := by simp [execFlitReceive, hdead, hup, hstop, hcrc]
  refine ⟨_, hexec, ?_⟩
  obtain ⟨n, hbad⟩ := badFlit_of_few_naks hnaks
  have hintake := (pump_intake _ p).trans (congrArg PortSide.intake (pside_setPside (s.perr p D2D_ERRCNT.CRCERR) p
    ((s.pside p).refusing n)))
  rw [← hbad] at hintake
  obtain ⟨hgood, -, hrx, -⟩ := intake_eq_iff.mp hintake
  refine ⟨hgood, hrx, ?_⟩
  rw [fd_of_regs (s := s.perr p D2D_ERRCNT.CRCERR) (by rw [hbad, pump_regs, setPside_regs])]
  exact fd_perr_self s p _ (by decide)

/-- NAK: what it acknowledges leaves the replay buffer, every other flit in it is sent again, and the replay is counted. -/
theorem nakReceive_replays (ack : Nat) (hqueue : (s.pside p).queue = []) (hdue : (s.pside p).nakDue = false) :
    Answers (.nakReceive p ack) s (fun t => (t.pside p).replay = ackFlits (ack % 4096) (s.pside p).replay ∧
      (t.pside p).sent.length = (s.pside p).sent.length + (ackFlits (ack % 4096) (s.pside p).replay).length ∧
      t.fd .D2D_ERRCNT D2D_ERRCNT.REPLAYS (portInst p) (s.pidx p) =
        satInc D2D_ERRCNT.REPLAYS.len (s.fd .D2D_ERRCNT D2D_ERRCNT.REPLAYS (portInst p) (s.pidx p))) := by
  have hexec : execNakReceive p ack s = .next (s.takeAck p (ack % 4096) true) := by simp [execNakReceive, hdead, hup]
  rw [takeAck_with_nak] at hexec
  refine ⟨_, hexec, ?_⟩
  obtain ⟨hreplay, hidle, hnodue, hsent⟩ := replayFlits_pside (s := s.setPside p ((s.pside p).acked (ack % 4096)))
    (p := p) (by simp [hdue])
  have hregs : ((s.setPside p ((s.pside p).acked (ack % 4096))).replayFlits p).regs = s.regs := foldl_putFlit_regs p _ _
  rw [pside_setPside] at hreplay hidle hsent
  generalize (s.setPside p ((s.pside p).acked (ack % 4096))).replayFlits p = u at hreplay hidle hnodue hsent hregs ⊢
  rw [pump_of_idle (by simp [hidle, hqueue]) (by simp [hnodue])]
  refine ⟨hreplay, hsent, ?_⟩
  have hidx : u.pidx p = s.pidx p := (samePorts_of_regs hregs).pidx p
  have hcount := fd_perr_self (u.perr p D2D_ERRCNT.NAKS) p D2D_ERRCNT.REPLAYS (by decide)
  rwa [pidx_perr, fd_perr_disjoint _ p _ _ (by decide) (by decide), hidx, fd_of_regs hregs] at hcount

/-- A control flit takes the next SEQ and waits in the replay buffer (R261). -/
theorem controlFlitTimer_sends (hroom : (s.pside p).replay.length < s.replayCap p) :
    Answers (.controlFlitTimer p) s (fun t => (t.pside p).nextSeq = ((s.pside p).nextSeq + 1) % 4096 ∧
      (t.pside p).replay = (s.pside p).replay ++ [⟨(s.pside p).nextSeq, true, 0⟩]) := by
  have hexec : execControlFlitTimer p s = .next (s.emitFlit p true 0) := by simp [execControlFlitTimer, hdead, hup]
  refine ⟨_, hexec, ?_⟩
  simp only [State.emitFlit, if_pos hroom]
  obtain ⟨hreplay, -, hseq, -⟩ := putFlit_pside (s.setPside p { s.pside p with
    nextSeq := ((s.pside p).nextSeq + 1) % 4096, replay := (s.pside p).replay ++ [⟨(s.pside p).nextSeq, true, 0⟩] }) p
    ⟨(s.pside p).nextSeq, true, 0⟩
  rw [hreplay, hseq, pside_setPside]
  exact ⟨rfl, rfl⟩
end

end Sys2Proof.Machine
end

section
/-! Site codes (01 R16, R17), and the state of both sides of a die's ports. -/
namespace Sys2Proof.Machine

/-- Both sides of a port take a state. -/
def State.setBoth (s : State) (site : SiteNo) (h : Fin 4) (v : Nat) : State :=
  (s.setPst ⟨true, site, h⟩ D2D_PSTAT.STATE v).setPst ⟨false, site, h⟩ D2D_PSTAT.STATE v

/-- Both sides of every port of a die take a state. -/
def State.setAll (s : State) (site : SiteNo) (v : Nat) : State :=
  (List.finRange 4).foldl (fun s h => s.setBoth site h v) s

theorem pstate_setPst_self (s : State) (p : PortRef) {v : Nat} (h : v < 8) :
    (s.setPst p D2D_PSTAT.STATE v).pstate p = v :=
  (pst_setPst_self s p D2D_PSTAT.STATE v (by decide)).trans (Nat.mod_eq_of_lt h)

theorem pstate_setPst_ne (s : State) {p q : PortRef} (v : Nat) (h : q ≠ p) :
    (s.setPst p D2D_PSTAT.STATE v).pstate q = s.pstate q := pst_setPst_ne s D2D_PSTAT.STATE v _ h

/-- A side that is in a state stays in it when others, or itself, take that state. -/
theorem pstate_setBoth_of_pstate {s : State} {p : PortRef} {site : SiteNo} {h : Fin 4} {v : Nat} (hv : v < 8)
    (hp : s.pstate p = v) : (s.setBoth site h v).pstate p = v := by
  have hkeep : ∀ (u : State) (q : PortRef), u.pstate p = v → (u.setPst q D2D_PSTAT.STATE v).pstate p = v := by
    intro u q hu
    by_cases hpq : p = q
    · rw [hpq, pstate_setPst_self u q hv]
    · rw [pstate_setPst_ne u v hpq, hu]
  exact hkeep _ _ (hkeep _ _ hp)

theorem pstate_setBoth_self (s : State) (b : Bool) (site : SiteNo) (h : Fin 4) {v : Nat} (hv : v < 8) :
    (s.setBoth site h v).pstate ⟨b, site, h⟩ = v := by
  cases b with
  | false => exact pstate_setPst_self _ _ hv
  | true => rw [State.setBoth, pstate_setPst_ne _ _ (by simp), pstate_setPst_self _ _ hv]

theorem pstate_foldl_setBoth (site : SiteNo) {v : Nat} (hv : v < 8) (l : List (Fin 4)) (s : State) (b : Bool) (h : Fin 4)
    (hh : h ∈ l ∨ s.pstate ⟨b, site, h⟩ = v) :
    (l.foldl (fun s h => s.setBoth site h v) s).pstate ⟨b, site, h⟩ = v := by
  induction l generalizing s with
  | nil => simpa using hh
  | cons a l ih =>
    refine ih _ ?_
    by_cases ha : h = a
    · subst ha
      exact .inr (pstate_setBoth_self s b site h hv)
    · exact hh.imp (fun hmem => (List.mem_cons.mp hmem).resolve_left ha) (pstate_setBoth_of_pstate hv)

theorem pstate_setAll (s : State) (b : Bool) (site : SiteNo) (h : Fin 4) {v : Nat} (hv : v < 8) :
    (s.setAll site v).pstate ⟨b, site, h⟩ = v :=
  pstate_foldl_setBoth site hv _ s b h (.inl (List.mem_finRange h))

/-- Setting states writes statuses alone. -/
theorem foldl_setBoth_frame (site : SiteNo) (v : Nat) (l : List (Fin 4)) (s : State) :
    let t := l.foldl (fun s h => s.setBoth site h v) s
    t.dies = s.dies ∧ ∀ (k : RegKind) (x i : Nat), (∀ (p : PortRef) (j : Nat), j < 4 →
      k.addr x i ≠ RegKind.D2D_PSTAT.addr (portInst p) j) → t.rg k x i = s.rg k x i := by
  induction l generalizing s with
  | nil => exact ⟨rfl, fun _ _ _ _ => rfl⟩
  | cons a l ih =>
    obtain ⟨hdies, hregs⟩ := ih (s.setBoth site a v)
    refine ⟨hdies, fun k x i haddr => (hregs k x i haddr).trans ?_⟩
    have hleft : ∀ (u : State) (p : PortRef), (u.setPst p D2D_PSTAT.STATE v).rg k x i = u.rg k x i :=
      fun u p => rg_setFd_ne u _ k _ v _ _ _ x i 0 (haddr p _ (pidx_lt u p))
    exact (hleft _ _).trans (hleft _ _)

theorem setAll_dies (s : State) (site : SiteNo) (v : Nat) : (s.setAll site v).dies = s.dies :=
  (foldl_setBoth_frame site v _ s).1

theorem rg_site_setAll (s : State) (site : SiteNo) (v : Nat) (d : SiteNo) :
    (s.setAll site v).rg .D2D_SITE d = s.rg .D2D_SITE d :=
  (foldl_setBoth_frame site v _ s).2 _ _ _ fun p _ hj => siteReg_ne_portReg (by decide) (portInst_lt p) hj d

theorem rg_setAll_of_not_port (s : State) (site : SiteNo) (v : Nat) {k : RegKind} {x i : Nat}
    (h : ¬ inPortBlock (k.addr x i)) : (s.setAll site v).rg k x i = s.rg k x i :=
  (foldl_setBoth_frame site v _ s).2 k x i fun p j hj haddr => h <| by
    rw [haddr]
    exact portReg_inPortBlock (by decide) (portInst_lt p) hj

/-! Training starts. -/

theorem startTraining_of_trainable {s : State} {site : SiteNo} (h : s.trainable site = true) :
    s.startTraining site = s.setAll site 1 := by
  rw [State.startTraining, if_pos h]
  rfl

theorem startTraining_frame (s : State) (site : SiteNo) :
    (s.startTraining site).dies = s.dies ∧ (s.startTraining site).rg .D2D_SITE site = s.rg .D2D_SITE site := by
  by_cases h : s.trainable site = true
  · rw [startTraining_of_trainable h]
    exact ⟨setAll_dies s site 1, rg_site_setAll s site 1 site⟩
  · rw [State.startTraining, if_neg h]
    exact ⟨rfl, rfl⟩

/-! A die holds its cores. -/

theorem foldl_hold_frame (d : Nat) (l : List Nat) (s : State) :
    let t := l.foldl (fun s c => s.modCore (18 * d + c) (fun k => { k with run := .resetting })) s
    t.dies = s.dies ∧ t.regs = s.regs := by
  induction l generalizing s with
  | nil => exact ⟨rfl, rfl⟩
  | cons a l ih => exact ih _

theorem foldl_hold_run (d : Nat) (l : List Nat) (s : State) (c : Nat)
    (h : c ∈ l ∨ (s.core (18 * d + c)).run = .resetting) :
    ((l.foldl (fun s c => s.modCore (18 * d + c) (fun k => { k with run := .resetting })) s).core (18 * d + c)).run =
      .resetting := by
  induction l generalizing s with
  | nil => simpa using h
  | cons a l ih =>
    refine ih _ ?_
    by_cases ha : c = a
    · subst ha
      exact .inr (by rw [core_modCore_self])
    · refine h.imp (fun hmem => (List.mem_cons.mp hmem).resolve_left ha) fun hrun => ?_
      rw [core_modCore_ne _ _ (by omega), hrun]

theorem holdDie_frame (s : State) (d : Nat) : (s.holdDie d).dies = s.dies ∧ (s.holdDie d).regs = s.regs :=
  foldl_hold_frame d _ s

theorem holdDie_run (s : State) (d : Nat) {c : Nat} (h : c < 18) : ((s.holdDie d).core (18 * d + c)).run = .resetting :=
  foldl_hold_run d _ s c (.inl (List.mem_range.mpr h))

/-! The codes of the twelve sites (01 R14, R16). -/

theorem siteCode_lt : ∀ d : SiteNo, siteCode d < 2 ^ 16 := by decide

theorem siteCode_fields : ∀ d : SiteNo, siteCode d % 16 = d ∧ siteCode d / 16 % 4 = siteRot d := by decide

theorem siteCodeOk_siteCode : ∀ d : SiteNo, siteCodeOk (BitVec.ofNat 16 (siteCode d)) = true := by decide

theorem siteCodeOk_of_toNat {raw : BitVec 16} {site : SiteNo} (h : raw.toNat = siteCode site) : siteCodeOk raw = true := by
  have hraw : raw = BitVec.ofNat 16 (siteCode site) := by rw [← h, BitVec.ofNat_toNat, BitVec.setWidth_eq]
  rw [hraw]
  exact siteCodeOk_siteCode site

/-- D2D_SITE of a die that has sampled a valid code (01 R16). -/
def siteWord (raw rot : Nat) : Word :=
  setF (setF (setF (setF 0 D2D_SITE.RAW raw) D2D_SITE.CODE_OK 1) D2D_SITE.SITE (raw % 16)) D2D_SITE.ROT rot

theorem siteWord_fields (raw rot : Nat) :
    getF (siteWord raw rot) D2D_SITE.RAW = raw % 2 ^ 16 ∧ getF (siteWord raw rot) D2D_SITE.CODE_OK = 1 ∧
      getF (siteWord raw rot) D2D_SITE.SITE = raw % 16 ∧ getF (siteWord raw rot) D2D_SITE.ROT = rot % 4 := by
  unfold siteWord
  refine ⟨?_, ?_, ?_, getF_setF_self _ _ _ (by decide)⟩
  · rw [getF_setF_disjoint _ _ _ _ (by decide) (by decide), getF_setF_disjoint _ _ _ _ (by decide) (by decide),
      getF_setF_disjoint _ _ _ _ (by decide) (by decide), getF_setF_self _ _ _ (by decide)]
    rfl
  · rw [getF_setF_disjoint _ _ _ _ (by decide) (by decide), getF_setF_disjoint _ _ _ _ (by decide) (by decide),
      getF_setF_self _ _ _ (by decide)]
    rfl
  · rw [getF_setF_disjoint _ _ _ _ (by decide) (by decide), getF_setF_self _ _ _ (by decide)]
    exact Nat.mod_mod _ _

/-- A die has sampled its code, and D2D_SITE holds `w`. -/
def State.sampledDie (s : State) (site : SiteNo) (w : Word) : State :=
  (s.setDie site { s.die site with sampled := true }).setRg w .D2D_SITE site

theorem die_sampled_of_dies {s t : State} {site : SiteNo} {w : Word} (h : t.dies = (s.sampledDie site w).dies) :
    (t.die site).sampled = true := by
  simp [State.die, h, State.sampledDie, State.setRg, State.setDie]

theorem rg_site_sampledDie (s : State) (site : SiteNo) (w : Word) : (s.sampledDie site w).rg .D2D_SITE site = w :=
  rg_setRg_self ..

section
variable {s : State} {site : SiteNo} {raw : BitVec 16} (hpower : s.boot.pwrok = true) (hfirst : (s.die site).sampled = false)
include hpower hfirst

/-- A valid code is recorded with its site and rotation, and trains the ports of a die outside stand-alone mode. -/
theorem siteCodeSample_valid (hraw : raw.toNat = siteCode site) :
    Answers (.siteCodeSample site raw) s (fun t => (t.die site).sampled = true ∧
      t.fd .D2D_SITE D2D_SITE.RAW site = siteCode site ∧ t.fd .D2D_SITE D2D_SITE.CODE_OK site = 1 ∧
      t.fd .D2D_SITE D2D_SITE.SITE site = site ∧
      t.fd .D2D_SITE D2D_SITE.ROT site = (if s.tap.standalone.contains site.val then 0 else siteRot site) ∧
      (s.tap.standalone.contains site.val = false →
        ∀ dir : Fin 4, t.pstate ⟨true, site, dir⟩ = 1 ∧ t.pstate ⟨false, site, dir⟩ = 1)) := by
  obtain ⟨hsite, hrot⟩ := siteCode_fields site
  generalize hr : (if s.tap.standalone.contains site.val then 0 else siteRot site) = rot
  have hexec : execSiteCodeSample site raw s =
      .next ((s.sampledDie site (siteWord (siteCode site) rot)).startTraining site) := by
    simp [execSiteCodeSample, hpower, hfirst, siteCodeOk_of_toNat hraw, hraw, hrot, ← hr, State.sampledDie, siteWord, b2n]
  have hword := rg_site_sampledDie s site (siteWord (siteCode site) rot)
  have hdie : ∀ t : State, t.dies = (s.sampledDie site (siteWord (siteCode site) rot)).dies → (t.die site).sampled = true :=
    fun t => die_sampled_of_dies
  have htap : (s.sampledDie site (siteWord (siteCode site) rot)).tap = s.tap := rfl
  generalize s.sampledDie site (siteWord (siteCode site) rot) = u at hexec hword hdie htap
  obtain ⟨hdies, hsame⟩ := startTraining_frame u site
  have hkept : (u.startTraining site).rg .D2D_SITE site = siteWord (siteCode site) rot := hsame.trans hword
  obtain ⟨hfraw, hfok, hfsite, hfrot⟩ := siteWord_fields (siteCode site) rot
  have hrot4 : rot < 4 := by rw [← hr, ← hrot]; split <;> omega
  refine ⟨_, hexec, hdie _ hdies, ?_, ?_, ?_, ?_, ?_⟩
  · rw [State.fd, hkept, hfraw, Nat.mod_eq_of_lt (siteCode_lt site)]
  · rw [State.fd, hkept, hfok]
  · rw [State.fd, hkept, hfsite, hsite]
  · rw [State.fd, hkept, hfrot, Nat.mod_eq_of_lt hrot4]
  · intro hnormal dir
    have hok : u.fb .D2D_SITE D2D_SITE.CODE_OK site = true := by simp [State.fb, State.fd, hword, hfok]
    have htrain : u.trainable site = true := by
      simp only [State.trainable, hok, htap, hnormal, Bool.not_false, Bool.and_self]
    rw [startTraining_of_trainable htrain]
    exact ⟨pstate_setAll u true site dir (by omega), pstate_setAll u false site dir (by omega)⟩

/-- An invalid code holds the cores of its die in reset. -/
theorem siteCodeSample_invalid (hbad : siteCodeOk raw = false) :
    Answers (.siteCodeSample site raw) s (fun t => (t.die site).sampled = true ∧
      t.fd .D2D_SITE D2D_SITE.CODE_OK site = 0 ∧ ∀ c, c < 18 → (t.core (18 * site.val + c)).run = .resetting) := by
  have hexec : execSiteCodeSample site raw s =
      .next ((s.sampledDie site (setF (setF 0 D2D_SITE.RAW raw.toNat) D2D_SITE.CODE_OK 0)).holdDie site) := by
    simp [execSiteCodeSample, hpower, hfirst, hbad, State.sampledDie, b2n]
  obtain ⟨hdies, hregs⟩ := holdDie_frame (s.sampledDie site (setF (setF 0 D2D_SITE.RAW raw.toNat) D2D_SITE.CODE_OK 0)) site
  refine ⟨_, hexec, die_sampled_of_dies hdies, ?_, fun c hc => holdDie_run _ site hc⟩
  rw [fd_of_regs hregs, State.fd, rg_site_sampledDie]
  exact getF_setF_self _ _ _ (by decide)
end

end Sys2Proof.Machine
end

section
/-! Training, loss and enabling of a die-to-die port (09 R262-R266). -/
namespace Sys2Proof.Machine

/-! Retraining and PHYRST. -/

theorem not_dead_of_alive {s : State} (h : s.alive = true) : s.dead = false := by
  cases hd : s.dead with
  | false => rfl
  | true => simp [State.alive, hd] at h

/-- A side that drives the retrain pattern is in RETRAIN, and the event is recorded (R263). -/
theorem startRetrain_retrains (s : State) (p : PortRef) :
    (s.startRetrain p).pstate p = 3 ∧ ∃ u : State, u.pstate p = 3 ∧ s.startRetrain p = u.linkEvent p := by
  have hstate := pstate_setPst_self s p (v := 3) (by omega)
  exact ⟨((linkEvent_samePorts _ p).pstate p).trans hstate, _, hstate, rfl⟩

theorem d2dRetrain_retrains {s : State} {p : PortRef} (halive : s.alive = true) (hup : s.pstate p = 2) :
    Answers (.d2dRetrain p) s (fun t => t.pstate p = 3 ∧ ∃ u : State, u.pstate p = 3 ∧ t = u.linkEvent p) := by
  have hexec : execD2dRetrain p s = .next (s.startRetrain p) := by simp [execD2dRetrain, State.portRetrain, halive, hup]
  exact ⟨_, hexec, startRetrain_retrains s p⟩

theorem retrainPatternDetect_retrains {s : State} {p : PortRef} (hdead : s.dead = false) (hup : s.pstate p = 2)
    (hfar : s.pstate (portOther p) = 3) (htrain : s.trainable p.site = true) :
    Answers (.retrainPatternDetect p) s (fun t => t.pstate p = 3 ∧ ∃ u : State, u.pstate p = 3 ∧ t = u.linkEvent p) := by
  have hexec : execRetrainPatternDetect p s = .next (s.startRetrain p) := by
    simp [execRetrainPatternDetect, hdead, hup, hfar, htrain]
  exact ⟨_, hexec, startRetrain_retrains s p⟩

theorem phyrst_width {s : State} {p : PortRef} (halive : s.alive = true) (hup : s.pstate p = 2) :
    Answers (.phyrst p) s (fun t => t.pst p D2D_PSTAT.WIDTH = 16) := by
  have hexec : execPhyrst p s = .next (s.setPst p D2D_PSTAT.WIDTH 16) := by simp [execPhyrst, State.phyReset, halive, hup]
  exact ⟨_, hexec, pst_setPst_self s p D2D_PSTAT.WIDTH 16 (by decide)⟩

/-! A side comes up. -/

/-- From `s` to `t` the side `p` has come up at a width; the other sides and the negotiated levels are as they were. -/
structure SideComesUp (p : PortRef) (w : Nat) (s t : State) : Prop where
  state : t.pstate p = 2
  width : t.pst p D2D_PSTAT.WIDTH = w
  fails : t.pst p D2D_PSTAT.FAILS = 0
  others : ∀ q f, q ≠ p → t.pst q f = s.pst q f
  peer : ∀ x, x < 24 → t.rg .D2D_PEER x = s.rg .D2D_PEER x

theorem sideComesUp_status (s : State) (p : PortRef) {w : Nat} (hw : w < 32) :
    SideComesUp p w s (((s.setPst p D2D_PSTAT.STATE 2).setPst p D2D_PSTAT.WIDTH w).setPst p D2D_PSTAT.FAILS 0) where
  state := by
    rw [State.pstate, pst_setPst_disjoint _ _ _ _ _ (by decide) (by decide),
      pst_setPst_disjoint _ _ _ _ _ (by decide) (by decide)]
    exact pstate_setPst_self s p (by omega)
  width := by
    rw [pst_setPst_disjoint _ _ _ _ _ (by decide) (by decide), pst_setPst_self _ _ _ _ (by decide)]
    exact Nat.mod_eq_of_lt hw
  fails := pst_setPst_self _ _ _ _ (by decide)
  others q f hq := by rw [pst_setPst_ne _ _ _ _ hq, pst_setPst_ne _ _ _ _ hq, pst_setPst_ne _ _ _ _ hq]
  peer x hx := by
    rw [rg_setPst _ _ _ _ (by decide) hx (by decide) (by decide), rg_setPst _ _ _ _ (by decide) hx (by decide) (by decide),
      rg_setPst _ _ _ _ (by decide) hx (by decide) (by decide)]

section
variable {p : PortRef} {w : Nat} {s t : State} (h : SideComesUp p w s t)
include h

theorem SideComesUp.samePorts {u : State} (hu : SamePorts t u) : SideComesUp p w s u where
  state := (hu.pstate p).trans h.state
  width := (hu.pst p _).trans h.width
  fails := (hu.pst p _).trans h.fails
  others q f hq := (hu.pst q f).trans (h.others q f hq)
  peer x hx := (hu.rg (portReg_inPortBlock (by decide) hx (i := 0) (by omega))).trans (h.peer x hx)

/-- The block map is another register. -/
theorem SideComesUp.setBlk (v : Word) (q : PortRef) : SideComesUp p w s (t.setRg v .D2D_BLK (portInst q) (t.pidx q)) := by
  have hpst := fun (q' : PortRef) (f : Fld) =>
    pst_setRg_portReg (k := .D2D_BLK) (by decide) (portInst_lt q) (pidx_lt t q) t v q' f (by decide)
  exact {
    state := (hpst p _).trans h.state
    width := (hpst p _).trans h.width
    fails := (hpst p _).trans h.fails
    others := fun q' f hq => (hpst q' f).trans (h.others q' f hq)
    peer := fun x hx => (rg_setRg_portReg_kind (by decide) (portInst_lt q) (pidx_lt t q) t v (by decide) hx (i' := 0)
      (by omega) (by decide)).trans (h.peer x hx) }

/-- The count of retrainings is another field. -/
theorem SideComesUp.setRetrains (n : Nat) : SideComesUp p w s (t.setPst p D2D_PSTAT.RETRAINS n) where
  state := (pst_setPst_disjoint t p _ n _ (by decide) (by decide)).trans h.state
  width := (pst_setPst_disjoint t p _ n _ (by decide) (by decide)).trans h.width
  fails := (pst_setPst_disjoint t p _ n _ (by decide) (by decide)).trans h.fails
  others q f hq := (pst_setPst_ne t _ n f hq).trans (h.others q f hq)
  peer x hx := (rg_setPst t p _ n (by decide) hx (i := 0) (by omega) (by decide)).trans (h.peer x hx)
end

theorem sideUp_comesUp (s : State) (p : PortRef) {w : Nat} (hw : w < 32) (blocks used : Nat) :
    SideComesUp p w s (s.sideUp p w blocks used) := by
  have hmap := (sideComesUp_status s p hw).setBlk (setF (setF 0 D2D_BLK.BLOCKS blocks) D2D_BLK.USED used) p
  unfold State.sideUp
  dsimp only
  refine SideComesUp.samePorts ?_ (samePorts_of_regs ((foldl_putFlit_regs p _ _).trans (setPside_regs ..)))
  split
  · exact hmap.setRetrains _
  · exact hmap

/-! Levels. -/

/-- D2D_PEER of one side (R266). -/
theorem setPeer_fields (s : State) (x own minor feat live : Nat) :
    (s.setPeer x own minor feat live).fd .D2D_PEER D2D_PEER.LIVE x = live % 2 ^ 4 ∧
      (s.setPeer x own minor feat live).fd .D2D_PEER D2D_PEER.FEAT x = feat % 2 ^ D2D_PEER.FEAT.len := by
  rw [State.fd, State.fd, State.setPeer, rg_setRg_self]
  constructor
  · rw [getF_setF_disjoint _ _ _ _ (by decide) (by decide), getF_setF_disjoint _ _ _ _ (by decide) (by decide),
      getF_setF_self _ _ _ (by decide)]
    rfl
  · rw [getF_setF_disjoint _ _ _ _ (by decide) (by decide), getF_setF_self _ _ _ (by decide)]

theorem fd_peer_setPeer_ne (s : State) {x y : Nat} (own minor feat live : Nat) (f : Fld) (hx : x < 24) (hy : y < 24)
    (h : y ≠ x) : (s.setPeer x own minor feat live).fd .D2D_PEER f y = s.fd .D2D_PEER f y :=
  congrArg (getF · f) (rg_setRg_portReg_inst (by decide) hx (i := 0) (by omega) s _ hy (by omega) h)

theorem dieRev_not_inPortBlock (d : SiteNo) : ¬ inPortBlock (RegKind.IDN_DIE_REV.addr 0 (d + 1)) := by
  rintro ⟨x, o, hx, ho, h⟩
  have hplace : RegKind.IDN_DIE_REV.addr 0 (d + 1) = 0x2200100 + (d + 1) * 8 := rfl
  rw [hplace, d2dBase_eq] at h
  split at h <;> omega

theorem noteDie_refused (s : State) (d : Nat) (t : TrainInfo) (h : t.major ≠ hubMajor) :
    (s.noteDie d t).fd .IDN_DIE_REV IDN_DIE_REV.REFUSED 0 (d + 1) = 1 := by
  have hne : (t.major != hubMajor) = true := by simpa using h
  rw [State.fd, State.noteDie, rg_setRg_self, hne]
  exact getF_setF_self _ _ _ (by decide)

theorem offered_of_unknown {s : State} {d : Nat} (t : TrainInfo)
    (hmajor : s.fd .IDN_DIE_REV IDN_DIE_REV.D2D_MAJOR 0 (d + 1) = 0)
    (hfeat : s.fd .IDN_DIE_REV IDN_DIE_REV.FEAT 0 (d + 1) = 0) : s.offered d t = t :=
  if_pos ⟨hmajor, hfeat⟩

theorem portWidth_lt (quarter : Bool) (usable : Nat) : portWidth quarter usable < 32 := by
  unfold portWidth
  split
  · omega
  split
  · omega
  split <;> omega

theorem testBit_live (a : Nat) : ∀ dir : Fin 4, ((a ||| 2 ^ dir.val) % 2 ^ 4).testBit dir.val = true := by
  intro dir
  rw [Nat.testBit_mod_two_pow, Nat.testBit_or, Nat.testBit_two_pow_self, decide_eq_true dir.isLt]
  simp

/-! TRAINING_DONE. -/

/-- The features that both ends offer. -/
def trainFeats (i : TrainInfo) : Nat := hubFeat &&& i.feat

/-- The state of a block after training (R262). -/
def trainBlock (i : TrainInfo) (j : Nat) : Nat :=
  blockState ((trainFeats i).testBit 0) ((failedLanes i).filter (fun k => k / 36 == j))

/-- The width that training finds (R262). -/
def trainWidth (i : TrainInfo) : Nat :=
  portWidth ((trainFeats i).testBit 1) ((List.range 16).filter (fun j => trainBlock i j != 3)).length

/-- A side comes up as training has found its port (R262). -/
def State.trainedUp (s : State) (p : PortRef) (i : TrainInfo) : State :=
  s.sideUp p (trainWidth i) ((List.range 16).foldl (fun m j => m + trainBlock i j * 4 ^ j) 0)
    (usedMask (trainBlock i) (trainWidth i))

theorem trainedUp_comesUp (s : State) (p : PortRef) (i : TrainInfo) :
    SideComesUp p (trainWidth i) s (s.trainedUp p i) := sideUp_comesUp s p (portWidth_lt _ _) _ _

/-- The state in which the hub and the die have noted the level that they share (R266). -/
def State.agreed (s : State) (site : SiteNo) (dir : Fin 4) (i : TrainInfo) : State :=
  let live := s.fd .D2D_PEER D2D_PEER.LIVE site ||| 2 ^ dir.val
  ((s.noteDie site i).setPeer site hubFeat (min hubMinor i.minor) (trainFeats i) live).setPeer (12 + site) i.feat
    (min hubMinor i.minor) (trainFeats i) live

theorem agreed_fields (s : State) (site : SiteNo) (dir : Fin 4) (i : TrainInfo) (b : Bool) :
    ((s.agreed site dir i).fd .D2D_PEER D2D_PEER.LIVE (portInst ⟨b, site, dir⟩)).testBit dir.val = true ∧
      (s.agreed site dir i).fd .D2D_PEER D2D_PEER.FEAT (portInst ⟨b, site, dir⟩) = trainFeats i % 2 ^ D2D_PEER.FEAT.len := by
  unfold State.agreed
  dsimp only
  cases b with
  | false =>
    have hinst : portInst ⟨false, site, dir⟩ = 12 + site := rfl
    obtain ⟨hlive, hfeat⟩ := setPeer_fields ((s.noteDie site i).setPeer site hubFeat (min hubMinor i.minor) (trainFeats i)
      (s.fd .D2D_PEER D2D_PEER.LIVE site ||| 2 ^ dir.val)) (12 + site) i.feat (min hubMinor i.minor) (trainFeats i)
      (s.fd .D2D_PEER D2D_PEER.LIVE site ||| 2 ^ dir.val)
    rw [hinst, hlive, hfeat]
    exact ⟨testBit_live _ dir, rfl⟩
  | true =>
    have hinst : portInst ⟨true, site, dir⟩ = site := rfl
    obtain ⟨hlive, hfeat⟩ := setPeer_fields (s.noteDie site i) site hubFeat (min hubMinor i.minor) (trainFeats i)
      (s.fd .D2D_PEER D2D_PEER.LIVE site ||| 2 ^ dir.val)
    have hne := fun f => fd_peer_setPeer_ne ((s.noteDie site i).setPeer site hubFeat (min hubMinor i.minor) (trainFeats i)
      (s.fd .D2D_PEER D2D_PEER.LIVE site ||| 2 ^ dir.val)) i.feat (min hubMinor i.minor) (trainFeats i)
      (s.fd .D2D_PEER D2D_PEER.LIVE site ||| 2 ^ dir.val) f (x := 12 + site) (y := site) (by omega) (by omega) (by omega)
    rw [hinst, hne, hne, hlive, hfeat]
    exact ⟨testBit_live _ dir, rfl⟩

section
variable {s : State} {site : SiteNo} {dir : Fin 4} {i : TrainInfo} (hdead : s.dead = false)
  (htraining : s.inTraining site dir = true) (hmajor : s.fd .IDN_DIE_REV IDN_DIE_REV.D2D_MAJOR 0 (site.val + 1) = 0)
  (hfeat : s.fd .IDN_DIE_REV IDN_DIE_REV.FEAT 0 (site.val + 1) = 0)
include hdead htraining hmajor hfeat

/-- What TRAINING_DONE does for a die of which nothing is known yet. -/
theorem execTrainingDone_unknown : execTrainingDone site dir i s =
    if trainWidth i = 0 then .next (s.trainFails site dir)
    else if i.major ≠ 2 then .next ((s.noteDie site i).setAll site 6)
    else .next (((s.agreed site dir i).trainedUp ⟨true, site, dir⟩ i).trainedUp ⟨false, site, dir⟩ i) := by
  have hgo : ¬ (s.dead || !s.inTraining site dir) = true := by simp [hdead, htraining]
  simp only [execTrainingDone, if_neg hgo, offered_of_unknown i hmajor hfeat]
  rfl

theorem trainingDone_fails (hw : trainWidth i = 0) : exec (.trainingDone site dir i) s = .next (s.trainFails site dir) :=
  (execTrainingDone_unknown hdead htraining hmajor hfeat).trans (if_pos hw)

/-- A die of the same major level comes up on both sides, at the width and features that training finds. -/
theorem trainingDone_up (hw : trainWidth i ≠ 0) (hlevel : i.major = 2) :
    Answers (.trainingDone site dir i) s (fun t =>
      ∀ b : Bool, t.pstate ⟨b, site, dir⟩ = 2 ∧ t.pst ⟨b, site, dir⟩ D2D_PSTAT.WIDTH = trainWidth i ∧
        t.pst ⟨b, site, dir⟩ D2D_PSTAT.FAILS = 0 ∧
        (t.fd .D2D_PEER D2D_PEER.LIVE (portInst ⟨b, site, dir⟩)).testBit dir.val = true ∧
        t.fd .D2D_PEER D2D_PEER.FEAT (portInst ⟨b, site, dir⟩) = trainFeats i % 2 ^ D2D_PEER.FEAT.len) := by
  have hexec := execTrainingDone_unknown hdead htraining hmajor hfeat (i := i)
  rw [if_neg hw, if_neg (not_not.mpr hlevel)] at hexec
  refine ⟨_, hexec, fun b => ?_⟩
  have hhub := trainedUp_comesUp (s.agreed site dir i) ⟨true, site, dir⟩ i
  generalize (s.agreed site dir i).trainedUp ⟨true, site, dir⟩ i = u at hhub ⊢
  have hdie := trainedUp_comesUp u ⟨false, site, dir⟩ i
  generalize u.trainedUp ⟨false, site, dir⟩ i = t at hdie ⊢
  have hpeer : t.rg .D2D_PEER (portInst ⟨b, site, dir⟩) = (s.agreed site dir i).rg .D2D_PEER (portInst ⟨b, site, dir⟩) :=
    (hdie.peer _ (portInst_lt _)).trans (hhub.peer _ (portInst_lt _))
  have hlevels := agreed_fields s site dir i b
  rw [State.fd, State.fd, ← hpeer] at hlevels
  cases b with
  | false => exact ⟨hdie.state, hdie.width, hdie.fails, hlevels⟩
  | true =>
    have hkeep := fun f => hdie.others ⟨true, site, dir⟩ f (by simp)
    exact ⟨(hkeep _).trans hhub.state, (hkeep _).trans hhub.width, (hkeep _).trans hhub.fails, hlevels⟩

/-- The hub refuses a die of another major level (01 R22). -/
theorem trainingDone_refused (hw : trainWidth i ≠ 0) (hlevel : i.major ≠ 2) :
    Answers (.trainingDone site dir i) s (fun t =>
      (∀ (b : Bool) (h : Fin 4), t.pstate ⟨b, site, h⟩ = 6) ∧ t.fd .IDN_DIE_REV IDN_DIE_REV.REFUSED 0 (site.val + 1) = 1) := by
  have hexec := execTrainingDone_unknown hdead htraining hmajor hfeat (i := i)
  rw [if_neg hw, if_pos hlevel] at hexec
  refine ⟨_, hexec, fun b h => pstate_setAll _ b site h (by omega), ?_⟩
  rw [State.fd, rg_setAll_of_not_port _ _ _ (dieRev_not_inPortBlock site)]
  exact noteDie_refused s site i hlevel
end

end Sys2Proof.Machine
end

section
/-! A die-to-die port that fails or is taken down (09 R264, R265). -/
namespace Sys2Proof.Machine

/-! The live set. -/

/-- A side's D2D_PEER after its live set has become `left` (R265). -/
def State.setLive (s : State) (left x : Nat) : State :=
  (s.setFd .D2D_PEER D2D_PEER.LIVE left x).setFd .D2D_PEER D2D_PEER.DEADDIE (b2n (left == 0)) x

/-- The live set of a die without one direction. -/
def liveWithout (live : Nat) (dir : Fin 4) : Nat := if live.testBit dir.val then live - 2 ^ dir.val else live

theorem testBit_liveWithout : ∀ live < 2 ^ 4, ∀ dir : Fin 4, (liveWithout live dir % 2 ^ 4).testBit dir.val = false := by
  decide

section
variable (s : State) (left : Nat) {x : Nat} (hx : x < 24)

theorem live_setLive_self : (s.setLive left x).fd .D2D_PEER D2D_PEER.LIVE x = left % 2 ^ 4 :=
  (fd_setFd_disjoint _ _ _ _ _ _ _ _ (by decide) (by decide)).trans (fd_setFd_self s _ _ _ _ _ _ (by decide))

include hx

theorem live_setLive_ne {y : Nat} (hy : y < 24) (h : y ≠ x) :
    (s.setLive left x).fd .D2D_PEER D2D_PEER.LIVE y = s.fd .D2D_PEER D2D_PEER.LIVE y := by
  have hleave := fun (u : State) (w : Word) =>
    rg_setRg_portReg_inst (k := .D2D_PEER) (by decide) hx (i := 0) (by omega) u w hy (i' := 0) (by omega) h
  exact congrArg (getF · _) ((hleave _ _).trans (hleave _ _))

theorem pst_setLive (p : PortRef) (f : Fld) : (s.setLive left x).pst p f = s.pst p f := by
  have hleave := fun (u : State) (w : Word) =>
    pst_setRg_portReg (k := .D2D_PEER) (by decide) hx (i := 0) (by omega) u w p f (by decide)
  exact (hleave _ _).trans (hleave _ _)

theorem rg_pctl_setLive {y i : Nat} (hy : y < 24) (hi : i < 4) : (s.setLive left x).rg .D2D_PCTL y i = s.rg .D2D_PCTL y i := by
  have hleave := fun (u : State) (w : Word) =>
    rg_setRg_portReg_kind (k := .D2D_PEER) (by decide) hx (i := 0) (by omega) u w (k' := .D2D_PCTL) (by decide) hy hi
      (by decide)
  exact (hleave _ _).trans (hleave _ _)
end

/-! The port leaves it. -/

/-- A lost port leaves the live set of both sides; its flits and the events write no register of a port. -/
theorem portDown_samePorts (s : State) (site : SiteNo) (dir : Fin 4) :
    let left := liveWithout (s.fd .D2D_PEER D2D_PEER.LIVE site) dir
    SamePorts ((s.setLive left site).setLive left (12 + site)) (s.portDown site dir) := by
  intro left
  have hmoved : ∀ (u : State) (p q : PortRef) (dest : Option Nat), SamePorts u ((u.moveFlits p dest).moveFlits q dest) :=
    fun u p q dest => samePorts_of_regs (by rw [moveFlits_regs, moveFlits_regs])
  have hlogged : ∀ (u : State) (c : Prop) [Decidable c] (e : ErrEvent) (p q : PortRef),
      SamePorts u (if c then u.recordErr e else (u.linkEvent p).linkEvent q) := by
    intro u c _ e p q
    split
    · exact recordErr_samePorts u e
    · exact (linkEvent_samePorts u p).trans (linkEvent_samePorts _ q)
  exact (hmoved _ _ _ _).trans (hlogged _ _ _ _ _)

section
variable (s : State) (site : SiteNo) (dir : Fin 4)

theorem portDown_pst (p : PortRef) (f : Fld) : (s.portDown site dir).pst p f = s.pst p f := by
  rw [(portDown_samePorts s site dir).pst, pst_setLive _ _ (by omega), pst_setLive _ _ (by omega)]

theorem portDown_rg_pctl {x i : Nat} (hx : x < 24) (hi : i < 4) :
    (s.portDown site dir).rg .D2D_PCTL x i = s.rg .D2D_PCTL x i := by
  rw [(portDown_samePorts s site dir).rg (portReg_inPortBlock (by decide) hx hi), rg_pctl_setLive _ _ (by omega) hx hi,
    rg_pctl_setLive _ _ (by omega) hx hi]

theorem portDown_live : ((s.portDown site dir).fd .D2D_PEER D2D_PEER.LIVE site).testBit dir.val = false := by
  rw [(portDown_samePorts s site dir).fd (by decide) (by omega) (by omega), live_setLive_ne _ _ (by omega) (by omega) (by omega),
    live_setLive_self]
  exact testBit_liveWithout _ (Nat.mod_lt _ (by decide)) dir
end

/-! Both sides end. -/

/-- A side is in a state in which it has no width: DOWN or DEAD. -/
def State.endSide (s : State) (p : PortRef) (v : Nat) : State := (s.setPst p D2D_PSTAT.STATE v).setPst p D2D_PSTAT.WIDTH 0

/-- Both sides of a port end. -/
def State.endBoth (s : State) (p : PortRef) (v : Nat) : State := (s.endSide p v).endSide (portOther p) v

theorem endSide_self (s : State) (p : PortRef) {v : Nat} (hv : v < 8) :
    (s.endSide p v).pstate p = v ∧ (s.endSide p v).pst p D2D_PSTAT.WIDTH = 0 :=
  ⟨(pst_setPst_disjoint _ _ _ _ _ (by decide) (by decide)).trans (pstate_setPst_self s p hv),
    pst_setPst_self _ _ _ _ (by decide)⟩

theorem pst_endSide_ne (s : State) {p q : PortRef} (v : Nat) (f : Fld) (h : q ≠ p) : (s.endSide p v).pst q f = s.pst q f :=
  (pst_setPst_ne _ _ _ f h).trans (pst_setPst_ne _ _ _ f h)

theorem endBoth_ends (s : State) (p : PortRef) {v : Nat} (hv : v < 8) :
    (s.endBoth p v).pstate p = v ∧ (s.endBoth p v).pstate (portOther p) = v ∧ (s.endBoth p v).pst p D2D_PSTAT.WIDTH = 0 := by
  obtain ⟨hstate, hwidth⟩ := endSide_self s p hv
  have hkeep := fun f => pst_endSide_ne (s.endSide p v) v f (ne_portOther p)
  exact ⟨(hkeep _).trans hstate, (endSide_self _ (portOther p) hv).1, (hkeep _).trans hwidth⟩

theorem endBoth_rg_pctl (s : State) (p : PortRef) (v : Nat) {x i : Nat} (hx : x < 24) (hi : i < 4) :
    (s.endBoth p v).rg .D2D_PCTL x i = s.rg .D2D_PCTL x i := by
  have hleave := fun (u : State) (q : PortRef) (f : Fld) (n : Nat) =>
    rg_setPst u q f n (k := .D2D_PCTL) (by decide) hx hi (by decide)
  exact ((hleave _ _ _ _).trans (hleave _ _ _ _)).trans ((hleave _ _ _ _).trans (hleave _ _ _ _))

/-! TRAINING_FAIL. -/

/-- The count of failures on both sides (R264). -/
def State.setFails (s : State) (p : PortRef) (n : Nat) : State :=
  (s.setPst p D2D_PSTAT.FAILS (min n 3)).setPst (portOther p) D2D_PSTAT.FAILS (min n 3)

theorem setFails_counts (s : State) (p : PortRef) {n : Nat} (h : n < 3) :
    (s.setFails p n).pst p D2D_PSTAT.FAILS = n ∧ (s.setFails p n).pst (portOther p) D2D_PSTAT.FAILS = n ∧
      (s.setFails p n).pstate p = s.pstate p := by
  have hn : min n 3 % 2 ^ D2D_PSTAT.FAILS.len = n := by
    have hlen : 2 ^ D2D_PSTAT.FAILS.len = 4 := rfl
    rw [hlen]
    omega
  have hkeep := fun f => pst_setPst_ne (s.setPst p D2D_PSTAT.FAILS (min n 3)) D2D_PSTAT.FAILS (min n 3) f (ne_portOther p)
  refine ⟨(hkeep _).trans ?_, ?_, (hkeep _).trans (pst_setPst_disjoint s p _ _ _ (by decide) (by decide))⟩
  · rw [pst_setPst_self _ _ _ _ (by decide), hn]
  · rw [State.setFails, pst_setPst_self _ _ _ _ (by decide), hn]

theorem trainFails_eq (s : State) (site : SiteNo) (dir : Fin 4) :
    s.trainFails site dir =
      if s.pst ⟨true, site, dir⟩ D2D_PSTAT.FAILS + 1 < 3 then
        s.setFails ⟨true, site, dir⟩ (s.pst ⟨true, site, dir⟩ D2D_PSTAT.FAILS + 1)
      else ((s.setFails ⟨true, site, dir⟩ (s.pst ⟨true, site, dir⟩ D2D_PSTAT.FAILS + 1)).endBoth ⟨true, site, dir⟩ 4).portDown
        site dir := rfl

section
variable {s : State} {site : SiteNo} {dir : Fin 4} (hdead : s.dead = false) (htrain : s.pstate ⟨true, site, dir⟩ = 1)
include hdead htrain

theorem execTrainingFail_training : execTrainingFail site dir s = .next (s.trainFails site dir) := by
  simp [execTrainingFail, hdead, htrain]

/-- The first and the second failure in a row are counted, and training goes on. -/
theorem trainingFail_counts (hn : s.pst ⟨true, site, dir⟩ D2D_PSTAT.FAILS + 1 < 3) :
    Answers (.trainingFail site dir) s (fun t =>
      t.pst ⟨true, site, dir⟩ D2D_PSTAT.FAILS = s.pst ⟨true, site, dir⟩ D2D_PSTAT.FAILS + 1 ∧
        t.pst (portOther ⟨true, site, dir⟩) D2D_PSTAT.FAILS = s.pst ⟨true, site, dir⟩ D2D_PSTAT.FAILS + 1 ∧
        t.pstate ⟨true, site, dir⟩ = 1) := by
  obtain ⟨hhub, hdie, hstate⟩ := setFails_counts s ⟨true, site, dir⟩ hn
  have hexec := execTrainingFail_training hdead htrain
  rw [trainFails_eq, if_pos hn] at hexec
  exact ⟨_, hexec, hhub, hdie, hstate.trans htrain⟩

/-- The third failure in a row makes both ends DEAD, and the port is lost. -/
theorem trainingFail_dead (hn : 3 ≤ s.pst ⟨true, site, dir⟩ D2D_PSTAT.FAILS + 1) :
    Answers (.trainingFail site dir) s (fun t => t.pstate ⟨true, site, dir⟩ = 4 ∧ ∃ u : State,
      u.pstate ⟨true, site, dir⟩ = 4 ∧ u.pstate (portOther ⟨true, site, dir⟩) = 4 ∧
        u.pst ⟨true, site, dir⟩ D2D_PSTAT.WIDTH = 0 ∧ t = u.portDown site dir) := by
  have hexec := execTrainingFail_training hdead htrain
  rw [trainFails_eq, if_neg (by omega)] at hexec
  obtain ⟨hhub, hdie, hwidth⟩ := endBoth_ends (s.setFails ⟨true, site, dir⟩
    (s.pst ⟨true, site, dir⟩ D2D_PSTAT.FAILS + 1)) ⟨true, site, dir⟩ (v := 4) (by omega)
  exact ⟨_, hexec, (portDown_pst _ site dir _ _).trans hhub, _, hhub, hdie, hwidth, rfl⟩
end

/-! EN of a side. -/

/-- EN of a side is written. -/
def State.setEn (s : State) (p : PortRef) (en : Bool) : State :=
  s.setFd .D2D_PCTL D2D_PCTL.EN (b2n en) (portInst p) (s.pidx p)

theorem pst_setEn (s : State) (p q : PortRef) (en : Bool) (f : Fld) : (s.setEn p en).pst q f = s.pst q f :=
  pst_setRg_portReg (k := .D2D_PCTL) (by decide) (portInst_lt p) (pidx_lt s p) s _ q f (by decide)

theorem en_setEn_false (s : State) (p : PortRef) :
    (s.setEn p false).fd .D2D_PCTL D2D_PCTL.EN (portInst p) (s.pidx p) = 0 :=
  fd_setFd_self s _ _ _ _ _ _ (by decide)

section
variable {s : State} {p : PortRef} (halive : s.alive = true)
include halive

theorem execD2dPortEnable_alive (en : Bool) : execD2dPortEnable p en s = .next (s.portEnable p en) := by
  simp [execD2dPortEnable, halive]

/-- EN = 0 takes both sides of an UP port down and out of the live set. -/
theorem d2dPortEnable_down (hup : s.pstate p = 2) :
    Answers (.d2dPortEnable p false) s (fun t => t.pstate p = 0 ∧ t.pstate (portOther p) = 0 ∧
      t.fd .D2D_PCTL D2D_PCTL.EN (portInst p) (s.pidx p) = 0 ∧ (t.fd .D2D_PEER D2D_PEER.LIVE p.site).testBit p.dir.val = false) := by
  have hexec := execD2dPortEnable_alive halive (p := p) false
  have hdown : s.portEnable p false = ((s.setEn p false).endBoth p 0).portDown p.site p.dir :=
    if_pos (.inr (.inl hup))
  rw [hdown] at hexec
  obtain ⟨hhere, hfar, -⟩ := endBoth_ends (s.setEn p false) p (v := 0) (by omega)
  refine ⟨_, hexec, (portDown_pst _ p.site p.dir _ _).trans hhere, (portDown_pst _ p.site p.dir _ _).trans hfar, ?_,
    portDown_live _ p.site p.dir⟩
  rw [State.fd, portDown_rg_pctl _ _ _ (portInst_lt p) (pidx_lt s p), endBoth_rg_pctl _ _ _ (portInst_lt p) (pidx_lt s p)]
  exact en_setEn_false s p

/-- EN = 1 retrains a port that is DOWN. -/
theorem d2dPortEnable_retrains (hdown : s.pstate p = 0) (htrain : s.trainable p.site = true) :
    Answers (.d2dPortEnable p true) s (fun t => t.pstate p = 3 ∧ ∃ u : State, u.pstate p = 3 ∧ t = u.linkEvent p) := by
  have hexec := execD2dPortEnable_alive halive (p := p) true
  have hretrain : s.portEnable p true = (s.setEn p true).startRetrain p := if_pos ⟨.inl hdown, htrain⟩
  rw [hretrain] at hexec
  exact ⟨_, hexec, startRetrain_retrains _ p⟩

/-- EN = 0 leaves a port that is DOWN as it is. -/
theorem d2dPortEnable_stays_down (hdown : s.pstate p = 0) :
    Answers (.d2dPortEnable p false) s (fun t => t.pstate p = 0 ∧
      t.fd .D2D_PCTL D2D_PCTL.EN (portInst p) (s.pidx p) = 0) := by
  have hexec := execD2dPortEnable_alive halive (p := p) false
  have hstays : s.portEnable p false = s.setEn p false := if_neg (by omega)
  rw [hstays] at hexec
  exact ⟨_, hexec, (pst_setEn s p p false _).trans hdown, en_setEn_false s p⟩
end

end Sys2Proof.Machine
end

section
/-! O26: the die-to-die ports. -/
namespace Sys2Proof.Machine

/-- Settles O26, one row of the table at a time. -/
theorem dieToDiePorts : Obligations.DieToDiePorts := by
  unfold Obligations.DieToDiePorts
  refine ⟨fun s site raw hpower hfirst => ⟨siteCodeSample_valid hpower hfirst, siteCodeSample_invalid hpower hfirst⟩,
    fun s p f => flitReceive_in_order, fun s p f => flitReceive_crc_error,
    fun s p ack hdead hup hqueue hdue => nakReceive_replays hdead hup ack hqueue hdue,
    fun s p => controlFlitTimer_sends, fun s p halive hup => ⟨d2dRetrain_retrains halive hup,
      retrainPatternDetect_retrains (not_dead_of_alive halive) hup, phyrst_width halive hup⟩, ?_, ?_,
    fun s p => d2dPortEnable_down, fun s p halive hdown => ⟨d2dPortEnable_retrains halive hdown,
      d2dPortEnable_stays_down halive hdown⟩⟩
  · intro s site dir i hdead htraining hmajor hfeat feat w
    exact ⟨trainingDone_fails hdead htraining hmajor hfeat, trainingDone_up hdead htraining hmajor hfeat,
      trainingDone_refused hdead htraining hmajor hfeat⟩
  · intro s site dir hdead htrain
    exact ⟨trainingFail_counts hdead htrain, trainingFail_dead hdead htrain⟩

end Sys2Proof.Machine
end

section
/-! The words of the core instructions (03 R73, 04 R125) as numbers, format by format: a field is a quotient and a remainder, so
that reading the fields of a word and putting a word together from them is arithmetic. -/
namespace Sys2Proof.Machine
open Sys2Proof

theorem toNat_append_eq_add {m n : Nat} (x : BitVec m) (y : BitVec n) : (x ++ y).toNat = x.toNat * 2 ^ n + y.toNat := by
  rw [BitVec.toNat_append, ← Nat.shiftLeft_add_eq_or_of_lt y.isLt, Nat.shiftLeft_eq]

theorem toNat_extractLsb'_eq_div {m : Nat} (lo len : Nat) (w : BitVec m) :
    (w.extractLsb' lo len).toNat = w.toNat / 2 ^ lo % 2 ^ len := by
  rw [BitVec.extractLsb'_toNat, Nat.shiftRight_eq_div_pow]

theorem toNat_getLsbD_eq_div {m : Nat} (k : Nat) (w : BitVec m) : (w.getLsbD k).toNat = w.toNat / 2 ^ k % 2 := by
  rw [BitVec.getLsbD, Nat.toNat_testBit]

theorem extractLsb'_eq_of_toNat {m lo len : Nat} {w : BitVec m} {x : BitVec len} (h : w.toNat / 2 ^ lo % 2 ^ len = x.toNat) :
    w.extractLsb' lo len = x :=
  BitVec.eq_of_toNat_eq (by rw [toNat_extractLsb'_eq_div, h])

theorem getLsbD_eq_of_toNat {m k : Nat} {w : BitVec m} {b : Bool} (h : w.toNat / 2 ^ k % 2 = b.toNat) : w.getLsbD k = b := by
  rw [BitVec.getLsbD, Nat.testBit_eq_decide_div_mod_eq, h]
  cases b <;> rfl

/-! The number of a word. -/

theorem wRRR_toNat (opc : BitVec 6) (f : BitVec 7) (o : RRR) : (wRRR opc f o).toNat =
    (((((o.pred.toNat * 2 + o.pn.toNat) * 64 + opc.toNat) * 32 + o.d.toNat) * 32 + o.s1.toNat) * 32 + o.s2.toNat) * 128 + f.toNat := by
  show BitVec.toNat (w := 3 + 1 + 6 + 5 + 5 + 5 + 7) (o.pred ++ BitVec.ofBool o.pn ++ opc ++ o.d ++ o.s1 ++ o.s2 ++ f) = _
  simp only [toNat_append_eq_add, BitVec.toNat_ofBool, Nat.reducePow]

theorem wRRRF_toNat (opc : BitVec 6) (o : RRRF) : (wRRRF opc o).toNat =
    (((((o.pred.toNat * 2 + o.pn.toNat) * 64 + opc.toNat) * 32 + o.d.toNat) * 32 + o.s1.toNat) * 32 + o.s2.toNat) * 128 + o.f.toNat :=
  wRRR_toNat opc o.f ⟨o.core, o.pred, o.pn, o.d, o.s1, o.s2⟩

theorem wAtom_toNat (op : BitVec 4) (o : AtomF) : (wAtom op o).toNat =
    (((((((o.pred.toNat * 2 + o.pn.toNat) * 64 + 0x1E) * 32 + o.d.toNat) * 32 + o.s1.toNat) * 32 + o.s2.toNat) * 4 + o.place.toNat) * 2 +
      o.dbl.toNat) * 16 + op.toNat := by
  show BitVec.toNat (w := 3 + 1 + 6 + 5 + 5 + 5 + 2 + 1 + 4)
    (o.pred ++ BitVec.ofBool o.pn ++ (0x1E : BitVec 6) ++ o.d ++ o.s1 ++ o.s2 ++ o.place ++ BitVec.ofBool o.dbl ++ op) = _
  simp only [toNat_append_eq_add, BitVec.toNat_ofBool, Nat.reducePow, BitVec.reduceToNat]

theorem wRRI_toNat (opc : BitVec 6) (o : RRI) : (wRRI opc o).toNat =
    ((((o.pred.toNat * 2 + o.pn.toNat) * 64 + opc.toNat) * 32 + o.d.toNat) * 32 + o.s.toNat) * 4096 + o.imm.toNat := by
  show BitVec.toNat (w := 3 + 1 + 6 + 5 + 5 + 12) (o.pred ++ BitVec.ofBool o.pn ++ opc ++ o.d ++ o.s ++ o.imm) = _
  simp only [toNat_append_eq_add, BitVec.toNat_ofBool, Nat.reducePow]

theorem wShi_toNat (k : BitVec 2) (o : ShiF) : (wShi k o).toNat =
    ((((((o.pred.toNat * 2 + o.pn.toNat) * 64 + 0x06) * 32 + o.d.toNat) * 32 + o.s.toNat) * 16 + o.hi.toNat) * 4 + k.toNat) * 64 +
      o.sh.toNat := by
  show BitVec.toNat (w := 3 + 1 + 6 + 5 + 5 + 4 + 2 + 6)
    (o.pred ++ BitVec.ofBool o.pn ++ (0x06 : BitVec 6) ++ o.d ++ o.s ++ o.hi ++ k ++ o.sh) = _
  simp only [toNat_append_eq_add, BitVec.toNat_ofBool, Nat.reducePow, BitVec.reduceToNat]

theorem wB_toNat (opc : BitVec 6) (o : BF) : (wB opc o).toNat =
    (((o.pred.toNat * 2 + o.pn.toNat) * 64 + opc.toNat) * 2 + o.h.toNat) * 2097152 + o.disp.toNat := by
  show BitVec.toNat (w := 3 + 1 + 6 + 1 + 21) (o.pred ++ BitVec.ofBool o.pn ++ opc ++ BitVec.ofBool o.h ++ o.disp) = _
  simp only [toNat_append_eq_add, BitVec.toNat_ofBool, Nat.reducePow]

theorem wLI_toNat (opc : BitVec 6) (o : LIF) : (wLI opc o).toNat =
    (((o.pred.toNat * 2 + o.pn.toNat) * 64 + opc.toNat) * 32 + o.d.toNat) * 131072 + o.imm.toNat := by
  show BitVec.toNat (w := 3 + 1 + 6 + 5 + 17) (o.pred ++ BitVec.ofBool o.pn ++ opc ++ o.d ++ o.imm) = _
  simp only [toNat_append_eq_add, BitVec.toNat_ofBool, Nat.reducePow]

theorem wV_toNat (opc : BitVec 6) (op : BitVec 3) (o : VF) : (wV opc op o).toNat =
    (((((((o.pred.toNat * 2 + o.pn.toNat) * 64 + opc.toNat) * 32 + o.vd.toNat) * 32 + o.vs1.toNat) * 32 + o.vs2.toNat) * 2 +
      o.sz.toNat) * 8 + o.rm.toNat) * 8 + op.toNat := by
  show BitVec.toNat (w := 3 + 1 + 6 + 5 + 5 + 5 + 1 + 3 + 3)
    (o.pred ++ BitVec.ofBool o.pn ++ opc ++ o.vd ++ o.vs1 ++ o.vs2 ++ BitVec.ofBool o.sz ++ o.rm ++ op) = _
  simp only [toNat_append_eq_add, BitVec.toNat_ofBool, Nat.reducePow]

theorem wAcc_toNat (op : BitVec 6) (o : AccF) : (wAcc op o).toNat =
    ((((((o.pred.toNat * 2 + o.pn.toNat) * 64 + 0x2A) * 32 + o.d.toNat) * 32 + o.s1.toNat) * 32 + o.s2.toNat) * 2 + o.sz.toNat) * 64 +
      op.toNat := by
  show BitVec.toNat (w := 3 + 1 + 6 + 5 + 5 + 5 + 1 + 6)
    (o.pred ++ BitVec.ofBool o.pn ++ (0x2A : BitVec 6) ++ o.d ++ o.s1 ++ o.s2 ++ BitVec.ofBool o.sz ++ op) = _
  simp only [toNat_append_eq_add, BitVec.toNat_ofBool, Nat.reducePow, BitVec.reduceToNat]

/-! The function code of a word. -/

@[simp] theorem fF_wRRR (opc : BitVec 6) (f : BitVec 7) (o : RRR) : fF (wRRR opc f o) = f :=
  extractLsb'_eq_of_toNat (by rw [wRRR_toNat]; omega)
@[simp] theorem op_wAtom (op : BitVec 4) (o : AtomF) : (wAtom op o).extractLsb' 0 4 = op :=
  extractLsb'_eq_of_toNat (by rw [wAtom_toNat]; omega)
@[simp] theorem op_wShi (k : BitVec 2) (o : ShiF) : (wShi k o).extractLsb' 6 2 = k :=
  extractLsb'_eq_of_toNat (by rw [wShi_toNat]; omega)
@[simp] theorem op_wV (opc : BitVec 6) (op : BitVec 3) (o : VF) : (wV opc op o).extractLsb' 0 3 = op :=
  extractLsb'_eq_of_toNat (by rw [wV_toNat]; omega)
@[simp] theorem op_wAcc (op : BitVec 6) (o : AccF) : (wAcc op o).extractLsb' 0 6 = op :=
  extractLsb'_eq_of_toNat (by rw [wAcc_toNat]; omega)

/-! The operands that a word gives back. -/

theorem dRRR_wRRR (opc : BitVec 6) (f : BitVec 7) (o : RRR) : dRRR o.core (wRRR opc f o) = o := by
  have e := wRRR_toNat opc f o
  have hpn := o.pn.toNat_lt
  unfold dRRR fPred fPn fD fS1 fS2
  rw [extractLsb'_eq_of_toNat (x := o.pred) (by omega), getLsbD_eq_of_toNat (b := o.pn) (by omega),
    extractLsb'_eq_of_toNat (x := o.d) (by omega), extractLsb'_eq_of_toNat (x := o.s1) (by omega),
    extractLsb'_eq_of_toNat (x := o.s2) (by omega)]

theorem dRRRF_wRRRF (opc : BitVec 6) (o : RRRF) : dRRRF o.core (wRRRF opc o) = o := by
  have e := wRRRF_toNat opc o
  have hpn := o.pn.toNat_lt
  unfold dRRRF fPred fPn fD fS1 fS2 fF
  rw [extractLsb'_eq_of_toNat (x := o.pred) (by omega), getLsbD_eq_of_toNat (b := o.pn) (by omega),
    extractLsb'_eq_of_toNat (x := o.d) (by omega), extractLsb'_eq_of_toNat (x := o.s1) (by omega),
    extractLsb'_eq_of_toNat (x := o.s2) (by omega), extractLsb'_eq_of_toNat (x := o.f) (by omega)]

theorem dAtom_wAtom (op : BitVec 4) (o : AtomF) : dAtom o.core (wAtom op o) = o := by
  have e := wAtom_toNat op o
  have hpn := o.pn.toNat_lt
  have hdbl := o.dbl.toNat_lt
  unfold dAtom fPred fPn fD fS1 fS2
  rw [extractLsb'_eq_of_toNat (x := o.pred) (by omega), getLsbD_eq_of_toNat (b := o.pn) (by omega),
    extractLsb'_eq_of_toNat (x := o.d) (by omega), extractLsb'_eq_of_toNat (x := o.s1) (by omega),
    extractLsb'_eq_of_toNat (x := o.s2) (by omega), getLsbD_eq_of_toNat (b := o.dbl) (by omega),
    extractLsb'_eq_of_toNat (x := o.place) (by omega)]

theorem dRRI_wRRI (opc : BitVec 6) (o : RRI) : dRRI o.core (wRRI opc o) = o := by
  have e := wRRI_toNat opc o
  have hpn := o.pn.toNat_lt
  unfold dRRI fPred fPn fD fS1 fImm
  rw [extractLsb'_eq_of_toNat (x := o.pred) (by omega), getLsbD_eq_of_toNat (b := o.pn) (by omega),
    extractLsb'_eq_of_toNat (x := o.d) (by omega), extractLsb'_eq_of_toNat (x := o.s) (by omega),
    extractLsb'_eq_of_toNat (x := o.imm) (by omega)]

theorem dShi_wShi (k : BitVec 2) (o : ShiF) : dShi o.core (wShi k o) = o := by
  have e := wShi_toNat k o
  have hpn := o.pn.toNat_lt
  unfold dShi fPred fPn fD fS1
  rw [extractLsb'_eq_of_toNat (x := o.pred) (by omega), getLsbD_eq_of_toNat (b := o.pn) (by omega),
    extractLsb'_eq_of_toNat (x := o.d) (by omega), extractLsb'_eq_of_toNat (x := o.s) (by omega),
    extractLsb'_eq_of_toNat (x := o.sh) (by omega), extractLsb'_eq_of_toNat (x := o.hi) (by omega)]

theorem dB_wB (opc : BitVec 6) (o : BF) : dB o.core (wB opc o) = o := by
  have e := wB_toNat opc o
  have hpn := o.pn.toNat_lt
  have hh := o.h.toNat_lt
  unfold dB fPred fPn
  rw [extractLsb'_eq_of_toNat (x := o.pred) (by omega), getLsbD_eq_of_toNat (b := o.pn) (by omega),
    getLsbD_eq_of_toNat (b := o.h) (by omega), extractLsb'_eq_of_toNat (x := o.disp) (by omega)]

theorem dLI_wLI (opc : BitVec 6) (o : LIF) : dLI o.core (wLI opc o) = o := by
  have e := wLI_toNat opc o
  have hpn := o.pn.toNat_lt
  unfold dLI fPred fPn fD
  rw [extractLsb'_eq_of_toNat (x := o.pred) (by omega), getLsbD_eq_of_toNat (b := o.pn) (by omega),
    extractLsb'_eq_of_toNat (x := o.d) (by omega), extractLsb'_eq_of_toNat (x := o.imm) (by omega)]

theorem dV_wV (opc : BitVec 6) (op : BitVec 3) (o : VF) : dV o.core (wV opc op o) = o := by
  have e := wV_toNat opc op o
  have hpn := o.pn.toNat_lt
  have hsz := o.sz.toNat_lt
  unfold dV fPred fPn fD fS1 fS2
  rw [extractLsb'_eq_of_toNat (x := o.pred) (by omega), getLsbD_eq_of_toNat (b := o.pn) (by omega),
    extractLsb'_eq_of_toNat (x := o.vd) (by omega), extractLsb'_eq_of_toNat (x := o.vs1) (by omega),
    extractLsb'_eq_of_toNat (x := o.vs2) (by omega), getLsbD_eq_of_toNat (b := o.sz) (by omega),
    extractLsb'_eq_of_toNat (x := o.rm) (by omega)]

theorem dAcc_wAcc (op : BitVec 6) (o : AccF) : dAcc o.core (wAcc op o) = o := by
  have e := wAcc_toNat op o
  have hpn := o.pn.toNat_lt
  have hsz := o.sz.toNat_lt
  unfold dAcc fPred fPn fD fS1 fS2
  rw [extractLsb'_eq_of_toNat (x := o.pred) (by omega), getLsbD_eq_of_toNat (b := o.pn) (by omega),
    extractLsb'_eq_of_toNat (x := o.d) (by omega), extractLsb'_eq_of_toNat (x := o.s1) (by omega),
    extractLsb'_eq_of_toNat (x := o.s2) (by omega), getLsbD_eq_of_toNat (b := o.sz) (by omega)]

theorem dMcall_wRRR (opc : BitVec 6) (f : BitVec 7) {o : McallF} (h : o.svc = false) : dMcall o.core (wRRR opc f o.rrr) = o := by
  have e := dRRR_wRRR opc f o.rrr
  obtain ⟨core, pred, pn, d, s1, s2, svc⟩ := o
  simp only [dRRR, McallF.rrr, RRR.mk.injEq] at e h
  obtain ⟨-, e1, e2, e3, e4, e5⟩ := e
  simp only [dMcall, McallF.rrr, e1, e2, e3, e4, e5, h]

/-! The word that the operands read from a word give back. -/

theorem wRRR_dRRR {opc : BitVec 6} {f : BitVec 7} (c : CoreNo) {w : BitVec 32} (ho : (fOpc w).toNat = opc.toNat)
    (hf : (fF w).toNat = f.toNat) : wRRR opc f (dRRR c w) = w := by
  apply BitVec.eq_of_toNat_eq
  rw [wRRR_toNat, ← ho, ← hf]
  simp only [dRRR, fPred, fPn, fOpc, fD, fS1, fS2, fF, toNat_extractLsb'_eq_div, toNat_getLsbD_eq_div]
  omega

theorem wRRRF_dRRRF {opc : BitVec 6} (c : CoreNo) {w : BitVec 32} (ho : (fOpc w).toNat = opc.toNat) : wRRRF opc (dRRRF c w) = w :=
  wRRR_dRRR c ho rfl

theorem wAtom_dAtom {op : BitVec 4} (c : CoreNo) {w : BitVec 32} (ho : (fOpc w).toNat = 0x1E)
    (hf : (w.extractLsb' 0 4).toNat = op.toNat) : wAtom op (dAtom c w) = w := by
  apply BitVec.eq_of_toNat_eq
  rw [wAtom_toNat, ← ho, ← hf]
  simp only [dAtom, fPred, fPn, fOpc, fD, fS1, fS2, toNat_extractLsb'_eq_div, toNat_getLsbD_eq_div]
  omega

theorem wRRI_dRRI {opc : BitVec 6} (c : CoreNo) {w : BitVec 32} (ho : (fOpc w).toNat = opc.toNat) : wRRI opc (dRRI c w) = w := by
  apply BitVec.eq_of_toNat_eq
  rw [wRRI_toNat, ← ho]
  simp only [dRRI, fPred, fPn, fOpc, fD, fS1, fImm, toNat_extractLsb'_eq_div, toNat_getLsbD_eq_div]
  omega

theorem wShi_dShi {k : BitVec 2} (c : CoreNo) {w : BitVec 32} (ho : (fOpc w).toNat = 0x06)
    (hf : (w.extractLsb' 6 2).toNat = k.toNat) : wShi k (dShi c w) = w := by
  apply BitVec.eq_of_toNat_eq
  rw [wShi_toNat, ← hf]
  simp only [dShi, fPred, fPn, fOpc, fD, fS1, toNat_extractLsb'_eq_div, toNat_getLsbD_eq_div] at ho ⊢
  omega

theorem wB_dB {opc : BitVec 6} (c : CoreNo) {w : BitVec 32} (ho : (fOpc w).toNat = opc.toNat) : wB opc (dB c w) = w := by
  apply BitVec.eq_of_toNat_eq
  rw [wB_toNat, ← ho]
  simp only [dB, fPred, fPn, fOpc, toNat_extractLsb'_eq_div, toNat_getLsbD_eq_div]
  omega

theorem wLI_dLI {opc : BitVec 6} (c : CoreNo) {w : BitVec 32} (ho : (fOpc w).toNat = opc.toNat) : wLI opc (dLI c w) = w := by
  apply BitVec.eq_of_toNat_eq
  rw [wLI_toNat, ← ho]
  simp only [dLI, fPred, fPn, fOpc, fD, toNat_extractLsb'_eq_div, toNat_getLsbD_eq_div]
  omega

theorem wV_dV {opc : BitVec 6} {op : BitVec 3} (c : CoreNo) {w : BitVec 32} (ho : (fOpc w).toNat = opc.toNat)
    (hf : (w.extractLsb' 0 3).toNat = op.toNat) : wV opc op (dV c w) = w := by
  apply BitVec.eq_of_toNat_eq
  rw [wV_toNat, ← ho, ← hf]
  simp only [dV, fPred, fPn, fOpc, fD, fS1, fS2, toNat_extractLsb'_eq_div, toNat_getLsbD_eq_div]
  omega

theorem wAcc_dAcc {op : BitVec 6} (c : CoreNo) {w : BitVec 32} (ho : (fOpc w).toNat = 0x2A)
    (hf : (w.extractLsb' 0 6).toNat = op.toNat) : wAcc op (dAcc c w) = w := by
  apply BitVec.eq_of_toNat_eq
  rw [wAcc_toNat, ← ho, ← hf]
  simp only [dAcc, fPred, fPn, fOpc, fD, fS1, fS2, toNat_extractLsb'_eq_div, toNat_getLsbD_eq_div]
  omega

/-! The decoder against the encoder. -/

/-- The core that a command names gives its operands back, so that some core reads the instruction. -/
@[simp] theorem exists_dRRR (opc : BitVec 6) (f : BitVec 7) (o : RRR) : ∃ c, dRRR c (wRRR opc f o) = o := ⟨_, dRRR_wRRR opc f o⟩
@[simp] theorem exists_dRRRF (opc : BitVec 6) (o : RRRF) : ∃ c, dRRRF c (wRRRF opc o) = o := ⟨_, dRRRF_wRRRF opc o⟩
@[simp] theorem exists_dAtom (op : BitVec 4) (o : AtomF) : ∃ c, dAtom c (wAtom op o) = o := ⟨_, dAtom_wAtom op o⟩
@[simp] theorem exists_dRRI (opc : BitVec 6) (o : RRI) : ∃ c, dRRI c (wRRI opc o) = o := ⟨_, dRRI_wRRI opc o⟩
@[simp] theorem exists_dShi (k : BitVec 2) (o : ShiF) : ∃ c, dShi c (wShi k o) = o := ⟨_, dShi_wShi k o⟩
@[simp] theorem exists_dB (opc : BitVec 6) (o : BF) : ∃ c, dB c (wB opc o) = o := ⟨_, dB_wB opc o⟩
@[simp] theorem exists_dLI (opc : BitVec 6) (o : LIF) : ∃ c, dLI c (wLI opc o) = o := ⟨_, dLI_wLI opc o⟩
@[simp] theorem exists_dV (opc : BitVec 6) (op : BitVec 3) (o : VF) : ∃ c, dV c (wV opc op o) = o := ⟨_, dV_wV opc op o⟩
@[simp] theorem exists_dAcc (op : BitVec 6) (o : AccF) : ∃ c, dAcc c (wAcc op o) = o := ⟨_, dAcc_wAcc op o⟩

open Sys2Proof.Laws.Coded in
/-- The integer core: major opcodes below 0x20 (03 R75 to R80). -/
theorem exists_decodeWord_integer {i : Instr} {w : BitVec 32} (h : encode i = some w) (ho : (fOpc w).toNat < 0x20) :
    ∃ c, decodeWord c w = some i := by
  cases i <;> simp only [encode, reduceCtorEq, Option.some.injEq] at h <;> subst h
  all_goals simp [fOpc_wRRR, fOpc_wRRRF, fOpc_wRRI, fOpc_wB, fOpc_wLI, fOpc_wV, fOpc_wAcc] at ho
  all_goals simp [decodeWord, decodeInt, decodePred, decodeAtom, decodeShi, fOpc_wRRR, fOpc_wRRRF, fOpc_wAtom, fOpc_wRRI,
    fOpc_wShi, fOpc_wLI]

open Sys2Proof.Laws.Coded in
/-- The numeric engine: major opcodes 0x20 to 0x2F (04 R126). -/
theorem exists_decodeWord_numeric {i : Instr} {w : BitVec 32} (h : encode i = some w) (h20 : 0x20 ≤ (fOpc w).toNat)
    (h30 : (fOpc w).toNat < 0x30) : ∃ c, decodeWord c w = some i := by
  cases i <;> simp only [encode, reduceCtorEq, Option.some.injEq] at h <;> subst h
  all_goals simp [fOpc_wRRR, fOpc_wRRRF, fOpc_wAtom, fOpc_wRRI, fOpc_wShi, fOpc_wB, fOpc_wLI, fOpc_wV] at h20 h30
  all_goals simp [decodeWord, decodeAmem, decodeVarith, decodeVfma, decodeVcmp, decodeVcvt, decodeVmov, decodeAcc, fOpc_wRRR,
    fOpc_wRRRF, fOpc_wRRI, fOpc_wV, fOpc_wAcc]

open Sys2Proof.Laws.Coded in
/-- Control and system: major opcodes from 0x30 (03 R83 to R85, R59). -/
theorem exists_decodeWord_control {i : Instr} {w : BitVec 32} (h : encode i = some w) (hs : sharesWord i = false)
    (h30 : 0x30 ≤ (fOpc w).toNat) : ∃ c, decodeWord c w = some i := by
  cases i <;> simp only [encode, reduceCtorEq, Option.some.injEq] at h <;> subst h
  case mcall o => exact ⟨o.core, by simp [decodeWord, decodeSys, fOpc_wRRR, dMcall_wRRR _ _ hs]⟩
  all_goals simp only [sharesWord, reduceCtorEq] at hs
  all_goals simp [fOpc_wRRR, fOpc_wRRRF, fOpc_wAtom, fOpc_wRRI, fOpc_wShi, fOpc_wLI, fOpc_wV, fOpc_wAcc] at h30
  all_goals simp [decodeWord, decodeJump, decodeJalr, decodeSys, decodeCmo, fOpc_wRRR, fOpc_wRRI, fOpc_wB]

/-- The word of an instruction that shares it with no other is decoded to that instruction. -/
theorem exists_decodeWord_of_encode {i : Instr} {w : BitVec 32} (h : encode i = some w) (hs : sharesWord i = false) :
    ∃ c, decodeWord c w = some i := by
  rcases Nat.lt_or_ge (fOpc w).toNat 0x20 with h20 | h20
  · exact exists_decodeWord_integer h h20
  rcases Nat.lt_or_ge (fOpc w).toNat 0x30 with h30 | h30
  · exact exists_decodeWord_numeric h h20 h30
  · exact exists_decodeWord_control h hs h30

/-! The other way: each group's decoder answers an instruction whose word is the word decoded. -/

/-- The instruction has the word, and no other row has it. -/
abbrev Spells (i : Instr) (w : BitVec 32) : Prop := encode i = some w ∧ sharesWord i = false

theorem spells_of_decodeInt {c : CoreNo} {w : BitVec 32} {i : Instr} (ho : (fOpc w).toNat = 0x01) (h : decodeInt c w = some i) :
    Spells i w := by
  unfold decodeInt at h
  split at h <;> cases h
  all_goals exact ⟨congrArg some (wRRR_dRRR c ho (by assumption)), rfl⟩

theorem spells_of_decodePred {c : CoreNo} {w : BitVec 32} {i : Instr} (ho : (fOpc w).toNat = 0x0D) (h : decodePred c w = some i) :
    Spells i w := by
  unfold decodePred at h
  split at h <;> cases h
  all_goals exact ⟨congrArg some (wRRR_dRRR c ho (by assumption)), rfl⟩

theorem spells_of_decodeJump {c : CoreNo} {w : BitVec 32} {i : Instr} (ho : (fOpc w).toNat = 0x32) (h : decodeJump c w = some i) :
    Spells i w := by
  unfold decodeJump at h
  split at h <;> cases h
  all_goals exact ⟨congrArg some (wRRR_dRRR c ho (by assumption)), rfl⟩

theorem spells_of_decodeJalr {c : CoreNo} {w : BitVec 32} {i : Instr} (ho : (fOpc w).toNat = 0x33) (h : decodeJalr c w = some i) :
    Spells i w := by
  unfold decodeJalr at h
  split at h <;> cases h
  all_goals exact ⟨congrArg some (wRRR_dRRR c ho (by assumption)), rfl⟩

theorem spells_of_decodeSys {c : CoreNo} {w : BitVec 32} {i : Instr} (ho : (fOpc w).toNat = 0x38) (h : decodeSys c w = some i) :
    Spells i w := by
  unfold decodeSys at h
  split at h <;> cases h
  all_goals exact ⟨congrArg some (wRRR_dRRR c ho (by assumption)), rfl⟩

theorem spells_of_decodeCmo {c : CoreNo} {w : BitVec 32} {i : Instr} (ho : (fOpc w).toNat = 0x3B) (h : decodeCmo c w = some i) :
    Spells i w := by
  unfold decodeCmo at h
  split at h <;> cases h
  all_goals exact ⟨congrArg some (wRRR_dRRR c ho (by assumption)), rfl⟩

theorem spells_of_decodeAmem {c : CoreNo} {w : BitVec 32} {i : Instr} (ho : (fOpc w).toNat = 0x29) (h : decodeAmem c w = some i) :
    Spells i w := by
  unfold decodeAmem at h
  split at h <;> cases h
  all_goals exact ⟨congrArg some (wRRR_dRRR c ho (by assumption)), rfl⟩

theorem spells_of_decodeAtom {c : CoreNo} {w : BitVec 32} {i : Instr} (ho : (fOpc w).toNat = 0x1E) (h : decodeAtom c w = some i) :
    Spells i w := by
  unfold decodeAtom at h
  split at h <;> cases h
  all_goals exact ⟨congrArg some (wAtom_dAtom c ho (by assumption)), rfl⟩

theorem spells_of_decodeShi {c : CoreNo} {w : BitVec 32} {i : Instr} (ho : (fOpc w).toNat = 0x06) (h : decodeShi c w = some i) :
    Spells i w := by
  unfold decodeShi at h
  have hk := (w.extractLsb' 6 2).isLt
  split at h <;> cases h
  case h_4 h0 h1 h2 =>
    rw [imp_false] at h0 h1 h2
    have h3 : (w.extractLsb' 6 2).toNat = 3 := by omega
    exact ⟨congrArg some (wShi_dShi c ho h3), rfl⟩
  all_goals exact ⟨congrArg some (wShi_dShi c ho (by assumption)), rfl⟩

theorem spells_of_decodeVarith {c : CoreNo} {w : BitVec 32} {i : Instr} (ho : (fOpc w).toNat = 0x20) (h : decodeVarith c w = some i) :
    Spells i w := by
  unfold decodeVarith at h
  have hk := (w.extractLsb' 0 3).isLt
  split at h <;> cases h
  case h_8 h0 h1 h2 h3 h4 h5 h6 =>
    rw [imp_false] at h0 h1 h2 h3 h4 h5 h6
    have h7 : (w.extractLsb' 0 3).toNat = 7 := by omega
    exact ⟨congrArg some (wV_dV c ho h7), rfl⟩
  all_goals exact ⟨congrArg some (wV_dV c ho (by assumption)), rfl⟩

theorem spells_of_decodeVfma {c : CoreNo} {w : BitVec 32} {i : Instr} (ho : (fOpc w).toNat = 0x21) (h : decodeVfma c w = some i) :
    Spells i w := by
  unfold decodeVfma at h
  split at h <;> cases h
  all_goals exact ⟨congrArg some (wV_dV c ho (by assumption)), rfl⟩

theorem spells_of_decodeVcmp {c : CoreNo} {w : BitVec 32} {i : Instr} (ho : (fOpc w).toNat = 0x22) (h : decodeVcmp c w = some i) :
    Spells i w := by
  unfold decodeVcmp at h
  split at h <;> cases h
  all_goals exact ⟨congrArg some (wV_dV c ho (by assumption)), rfl⟩

theorem spells_of_decodeVcvt {c : CoreNo} {w : BitVec 32} {i : Instr} (ho : (fOpc w).toNat = 0x23) (h : decodeVcvt c w = some i) :
    Spells i w := by
  unfold decodeVcvt at h
  split at h <;> cases h
  all_goals exact ⟨congrArg some (wV_dV c ho (by assumption)), rfl⟩

theorem spells_of_decodeVmov {c : CoreNo} {w : BitVec 32} {i : Instr} (ho : (fOpc w).toNat = 0x24) (h : decodeVmov c w = some i) :
    Spells i w := by
  unfold decodeVmov at h
  split at h <;> cases h
  all_goals exact ⟨congrArg some (wV_dV c ho (by assumption)), rfl⟩

theorem spells_of_decodeAcc {c : CoreNo} {w : BitVec 32} {i : Instr} (ho : (fOpc w).toNat = 0x2A) (h : decodeAcc c w = some i) :
    Spells i w := by
  unfold decodeAcc at h
  split at h <;> cases h
  all_goals exact ⟨congrArg some (wAcc_dAcc c ho (by assumption)), rfl⟩

/-- Whatever a word is decoded to has that word and shares it with no other row. -/
theorem spells_of_decodeWord {c : CoreNo} {w : BitVec 32} {i : Instr} (h : decodeWord c w = some i) : Spells i w := by
  unfold decodeWord at h
  split at h
  case h_1 ho => exact spells_of_decodeInt ho h
  case h_6 ho => exact spells_of_decodeShi ho h
  case h_13 ho => exact spells_of_decodePred ho h
  case h_27 ho => exact spells_of_decodeAtom ho h
  case h_28 ho => exact spells_of_decodeVarith ho h
  case h_29 ho => exact spells_of_decodeVfma ho h
  case h_30 ho => exact spells_of_decodeVcmp ho h
  case h_31 ho => exact spells_of_decodeVcvt ho h
  case h_32 ho => exact spells_of_decodeVmov ho h
  case h_37 ho => exact spells_of_decodeAmem ho h
  case h_38 ho => exact spells_of_decodeAcc ho h
  case h_42 ho => exact spells_of_decodeJump ho h
  case h_43 ho => exact spells_of_decodeJalr ho h
  case h_44 ho => exact spells_of_decodeSys ho h
  case h_47 ho => exact spells_of_decodeCmo ho h
  case h_48 => cases h
  all_goals cases h
  case h_9 | h_10 | h_11 => exact ⟨congrArg some (wLI_dLI c (by assumption)), rfl⟩
  case h_12 | h_25 | h_26 | h_35 | h_36 | h_39 => exact ⟨congrArg some (wRRRF_dRRRF c (by assumption)), rfl⟩
  case h_40 | h_41 => exact ⟨congrArg some (wB_dB c (by assumption)), rfl⟩
  all_goals exact ⟨congrArg some (wRRI_dRRI c (by assumption)), rfl⟩

/-- Settles O60: one way by the major opcode's range, the other by the decoder's groups. -/
theorem decodeEncode : Obligations.DecodeEncode := by
  unfold Obligations.DecodeEncode
  exact ⟨fun _ _ h hs => exists_decodeWord_of_encode h hs, fun _ _ _ h => spells_of_decodeWord h⟩

end Sys2Proof.Machine
end

section
/-! The core instructions that only compute registers: the frame that a row is issued in, and what it leaves. -/
namespace Sys2Proof.Machine
open Sys2Proof

/-- An instruction that is issued in the frame `k`, passes its checks and executes, does what its body says (03 R69). -/
theorem exec_eq_body {i : Instr} {k : Insn} {s s1 : State} {body : Core → State → Out} (hexec : exec i s = s.issue k body)
    (hw : wordOf i = k.w) (h : Runs i k.n k.pred k.pn s s1) (hpre : k.pre (s1.core k.n) = none) :
    exec i s = body (s1.core k.n) s1 := by
  obtain ⟨-, hissue, hex⟩ := h
  rw [hexec, State.issue, issueOr_runs _ _ (hw ▸ hissue) hpre hex]

/-- An instruction that runs is well-formed. -/
theorem Runs.wf {i : Instr} {n : Nat} {pred : BitVec 3} {pn : Bool} {s s1 : State} (h : Runs i n pred pn s s1) : i.wf = true := by
  obtain ⟨hwf, -, -⟩ := h
  exact hwf

/-- After its issue the core is not in C_DBGINST. -/
theorem Runs.dbg {i : Instr} {n : Nat} {pred : BitVec 3} {pn : Bool} {s s1 : State} (h : Runs i n pred pn s s1) :
    (s1.core n).dbg = false := by
  obtain ⟨-, ⟨-, -, -, -, hdbg⟩, -⟩ := h
  exact hdbg

/-- An instruction whose predicate is false changes the PC and the counters alone (03 R70, R74). -/
theorem answers_skip {i : Instr} {k : Insn} {s s1 : State} {body : Core → State → Out} (hexec : exec i s = s.issue k body)
    (hw : wordOf i = k.w) (hissue : Issues s k.n (wordOf i) s1) (hpre : k.pre (s1.core k.n) = none)
    (hex : (s1.core k.n).executes k.pred k.pn = false) : Answers i s (endsAs k.n (s1.core k.n) ((s1.core k.n).pc + 4) s1) := by
  obtain ⟨-, -, -, -, hdbg⟩ := id hissue
  rw [hw] at hissue
  exact ⟨_, by rw [hexec, State.issue, issueOr_skips _ _ hissue hpre hex]; rfl, retire_endsAs _ _ _ _ hdbg⟩

/-- An instruction that computes `v` of the core into g[d] (03 R75). -/
theorem answers_computeG {i : Instr} {k : Insn} {s s1 : State} {d : BitVec 5} {v : Core → Word}
    (hexec : exec i s = s.compute k (fun c => c.wg d (v c))) (hw : wordOf i = k.w) (h : Runs i k.n k.pred k.pn s s1)
    (hpre : k.pre (s1.core k.n) = none) :
    Answers i s (fun t => wroteG k.n d (v (s1.core k.n)) s1 t ∧ (t.core k.n).pc = (s1.core k.n).pc + 4) :=
  ⟨_, exec_eq_body hexec hw h hpre, done_wroteG _ _ d _ [] h.dbg⟩

/-! The rows of the tables: their meaning and their word. -/

theorem exec_alu : ∀ e ∈ aluTable, ∃ f, ∀ o, wordOf (e.1 o) = wRRR 0x01 f o ∧ ∀ s, exec (e.1 o) s = s.alu f o e.2 := by
  simp only [aluTable, List.forall_mem_append, List.forall_mem_cons, List.not_mem_nil, false_imp_iff, implies_true, and_true]
  and_intros <;> exact ⟨_, fun _ => ⟨rfl, fun _ => rfl⟩⟩

theorem exec_imm : ∀ e ∈ immTable, ∃ opc, ∀ o, wordOf (e.1 o) = wRRI opc o ∧ ∀ s, exec (e.1 o) s = s.aluImm opc o e.2 := by
  simp only [immTable, List.forall_mem_cons, List.not_mem_nil, false_imp_iff, implies_true, and_true]
  and_intros <;> exact ⟨_, fun _ => ⟨rfl, fun _ => rfl⟩⟩

theorem exec_shi : ∀ e ∈ shiTable, ∃ k, ∀ o, (e.1 o).wf = (o.hi == 0) ∧ wordOf (e.1 o) = wShi k o ∧ ∀ s, exec (e.1 o) s = s.shi k o e.2 := by
  simp only [shiTable, List.forall_mem_cons, List.not_mem_nil, false_imp_iff, implies_true, and_true]
  and_intros <;> exact ⟨_, fun _ => ⟨rfl, rfl, fun _ => rfl⟩⟩

theorem exec_pred : ∀ e ∈ predTable, ∃ f two, ∀ o, (e.1 o).wf = wfPred o two ∧ wordOf (e.1 o) = wRRR 0x0D f o ∧
    ∀ s, exec (e.1 o) s = s.predOp f o two e.2 := by
  simp only [predTable, List.forall_mem_cons, List.not_mem_nil, false_imp_iff, implies_true, and_true]
  and_intros <;> exact ⟨_, _, fun _ => ⟨rfl, rfl, fun _ => rfl⟩⟩

/-- No field of the instruction is ill-formed, and every level may execute it. -/
theorem preChk_u_of {bad : Bool} (h : bad = false) (c : Core) : preChk bad .u c = none := by
  rw [h, preChk_u]

end Sys2Proof.Machine
end

section
/-! O2: immediates, shifts, constants and MFP. -/
namespace Sys2Proof.Machine
open Sys2Proof

/-- Settles O2, one table or row at a time. -/
theorem immediateResults : Obligations.ImmediateResults := by
  unfold Obligations.ImmediateResults
  refine ⟨?_, ?_, ?_, ?_, ?_, ?_⟩
  · intro e he o s s1 h
    obtain ⟨opc, hrow⟩ := exec_imm e he
    obtain ⟨hw, hexec⟩ := hrow o
    exact answers_computeG (hexec s) hw h (preChk_u (s1.core o.core))
  · intro e he o s s1 h
    obtain ⟨k, hrow⟩ := exec_shi e he
    obtain ⟨hwf, hw, hexec⟩ := hrow o
    have hhi : (o.hi != 0) = false := by rw [bne, ← hwf, h.wf, Bool.not_true]
    exact answers_computeG (hexec s) hw h (preChk_u_of hhi (s1.core o.core))
  · exact fun o s s1 h => answers_computeG (show exec (.li o) s = execLi o s from rfl) rfl h (preChk_u (s1.core o.core))
  · intro o s s1 h
    have hwf : (!o.imm.getLsbD 16) = true := h.wf
    have hbad : o.imm.getLsbD 16 = false := by simpa using hwf
    exact answers_computeG (show exec (.lsi o) s = execLsi o s from rfl) rfl h (preChk_u_of hbad (s1.core o.core))
  · exact fun o s s1 h => answers_computeG (show exec (.addpc o) s = execAddpc o s from rfl) rfl h (preChk_u (s1.core o.core))
  · exact fun o s s1 h => answers_computeG (show exec (.mfp o) s = execMfp o s from rfl) rfl h (preChk_u (s1.core o.core))

end Sys2Proof.Machine
end

section
/-! O1: the INT group, and the functions of its divisions and bit counts. -/
namespace Sys2Proof.Machine
open Sys2Proof

/-! Divisions (03 R75). -/

theorem toNat_pos_of_ne_zero {b : Word} (hb : b ≠ 0) : 0 < b.toNat :=
  Nat.pos_of_ne_zero (fun h => hb (BitVec.eq_of_toNat_eq h))

theorem divU_mul_add_remU {a b : Word} (hb : b ≠ 0) : divU a b * b + remU a b = a ∧ (remU a b).toNat < b.toNat := by
  have hbn : 0 < b.toNat := toNat_pos_of_ne_zero hb
  have hq : a.toNat / b.toNat < 2 ^ 64 := (Nat.div_le_self _ _).trans_lt a.isLt
  have hr : a.toNat % b.toNat < b.toNat := Nat.mod_lt _ hbn
  have hr64 : a.toNat % b.toNat < 2 ^ 64 := hr.trans b.isLt
  rw [divU, remU, if_neg hb, if_neg hb]
  refine ⟨BitVec.eq_of_toNat_eq ?_, ?_⟩
  · rw [BitVec.toNat_add, BitVec.toNat_mul, BitVec.toNat_ofNat, BitVec.toNat_ofNat, Nat.mod_eq_of_lt hq, Nat.mod_eq_of_lt hr64,
      Nat.mod_add_mod, mul_comm, Nat.div_add_mod, Nat.mod_eq_of_lt a.isLt]
  · rwa [BitVec.toNat_ofNat, Nat.mod_eq_of_lt hr64]

theorem divS_mul_add_remS {a b : Word} (hb : b ≠ 0) : divS a b * b + remS a b = a := by
  rw [divS, remS, if_neg hb, if_neg hb]
  calc BitVec.ofInt 64 (a.toInt.tdiv b.toInt) * b + BitVec.ofInt 64 (a.toInt.tmod b.toInt)
      = BitVec.ofInt 64 (a.toInt.tdiv b.toInt * b.toInt + a.toInt.tmod b.toInt) := by
        rw [BitVec.ofInt_add, BitVec.ofInt_mul, BitVec.ofInt_toInt]
    _ = a := by rw [Int.tdiv_mul_add_tmod, BitVec.ofInt_toInt]

/-! Counts and the byte order (03 R75). -/

theorem clz_bounds {a : Word} (ha : a ≠ 0) :
    (clz a).toNat ≤ 63 ∧ 2 ^ (63 - (clz a).toNat) ≤ a.toNat ∧ a.toNat < 2 ^ (64 - (clz a).toNat) := by
  have hn : a.toNat ≠ 0 := (toNat_pos_of_ne_zero ha).ne'
  have hlog : a.toNat.log2 < 64 := (Nat.log2_lt hn).mpr a.isLt
  have hclz : (clz a).toNat = 63 - a.toNat.log2 := by
    rw [clz, blen, if_neg hn, BitVec.toNat_ofNat]
    omega
  have hlo : 63 - (63 - a.toNat.log2) = a.toNat.log2 := by omega
  have hhi : 64 - (63 - a.toNat.log2) = a.toNat.log2 + 1 := by omega
  rw [hclz, hlo, hhi]
  exact ⟨Nat.sub_le _ _, Nat.log2_self_le hn, Nat.lt_log2_self⟩

/-- A bit lies in the byte of its place. -/
theorem getLsbD_eq_testBit_byte (a : Word) (q r : Nat) (hr : r < 8) :
    a.getLsbD (8 * q + r) = (a.toNat / 2 ^ (8 * q) % 256).testBit r := by
  rw [show 256 = 2 ^ 8 from rfl, Nat.testBit_mod_two_pow, Nat.testBit_div_two_pow, BitVec.getLsbD, Nat.add_comm r,
    decide_eq_true hr, Bool.true_and]

/-- A number put together from eight bytes, byte 0 highest, gives each of them back. -/
theorem byte_of_sum (B : Nat → Nat) (hB : ∀ k, B k < 256) {q : Nat} (hq : q < 8) :
    ((List.range 8).foldl (fun n k => n + B k * 2 ^ (8 * (7 - k))) 0) % 2 ^ 64 / 2 ^ (8 * q) % 256 = B (7 - q) := by
  have h0 := hB 0; have h1 := hB 1; have h2 := hB 2; have h3 := hB 3
  have h4 := hB 4; have h5 := hB 5; have h6 := hB 6; have h7 := hB 7
  simp only [List.range, List.range.loop, List.foldl, Nat.reduceSub, Nat.reduceMul, Nat.reducePow]
  interval_cases q <;> simp only [Nat.reduceSub, Nat.reduceMul, Nat.reducePow] <;> omega

theorem bswap_byte (a : Word) {q : Nat} (hq : q < 8) :
    (bswap a).toNat / 2 ^ (8 * q) % 256 = a.toNat / 2 ^ (8 * (7 - q)) % 256 := by
  rw [bswap, BitVec.toNat_ofNat]
  exact byte_of_sum (fun k => a.toNat / 2 ^ (8 * k) % 256) (fun k => Nat.mod_lt _ (by decide)) hq

theorem bswap_getLsbD (a : Word) {i : Nat} (hi : i < 64) : (bswap a).getLsbD i = a.getLsbD (8 * (7 - i / 8) + i % 8) := by
  have hr : i % 8 < 8 := Nat.mod_lt _ (by decide)
  rw [getLsbD_eq_testBit_byte a _ _ hr, ← bswap_byte a (by omega : i / 8 < 8), ← getLsbD_eq_testBit_byte _ _ _ hr, Nat.div_add_mod]

/-- Settles O1: the table by its rows, the functions each by its own lemma. -/
theorem intRegisterResults : Obligations.IntRegisterResults := by
  unfold Obligations.IntRegisterResults
  refine ⟨?_, fun a => ⟨rfl, rfl, rfl, rfl⟩, fun a b => divU_mul_add_remU, fun a b => divS_mul_add_remS, by decide, ?_,
    fun a i => bswap_getLsbD a⟩
  · intro e he o s s1 h
    obtain ⟨f, hrow⟩ := exec_alu e he
    obtain ⟨hw, hexec⟩ := hrow o
    exact answers_computeG (hexec s) hw h (preChk_u (s1.core o.core))
  · refine fun a => ⟨?_, clz_bounds⟩
    rintro rfl
    decide

end Sys2Proof.Machine
end

section
/-! O3: compares and predicate logic. -/
namespace Sys2Proof.Machine
open Sys2Proof

/-- A predicate after a write to one: p0 reads 1 (03 R57). -/
theorem rp_wp (c : Core) (x r : BitVec 3) (b : Bool) : (c.wp x b).rp r = if r = 0 then true else if r = x then b else c.rp r := by
  split
  case isTrue h0 => rw [h0]; rfl
  case isFalse h0 =>
    split
    case isTrue hx => rw [← hx, rp_wp_self, decide_eq_false h0, Bool.false_or]
    case isFalse hx => exact rp_wp_ne c b hx

/-- A compare writes the complement first, so that a pair that names one predicate twice keeps the condition (03 R76). -/
theorem rp_cmpWrite (c : Core) (x y r : BitVec 3) (b : Bool) :
    (c.cmpWrite x y b).rp r = if r = 0 then true else if r = x then b else if r = y then !b else c.rp r := by
  rw [Core.cmpWrite, rp_wp, rp_wp]
  split <;> rfl

theorem wp_eq_p (c : Core) (x : BitVec 3) (b : Bool) : c.wp x b = { c with p := (c.wp x b).p } := by
  unfold Core.wp
  split <;> rfl

theorem cmpWrite_eq_p (c : Core) (x y : BitVec 3) (b : Bool) : c.cmpWrite x y b = { c with p := (c.cmpWrite x y b).p } := by
  unfold Core.cmpWrite
  rw [wp_eq_p, wp_eq_p c]

/-- The predicates as the low byte of a word, p0 set (03 R77). -/
theorem rp_lowByte (c : Core) (w : Word) (r : BitVec 3) :
    ({ c with p := BitVec.setWidth 8 w ||| 1 } : Core).rp r = (r = 0 || w.getLsbD r.toNat) := by
  have h8 : r.toNat < 8 := r.isLt
  by_cases h0 : r = 0
  · simp [Core.rp, h0]
  · have hn : ¬ r.toNat = 0 := fun h => h0 (BitVec.eq_of_toNat_eq h)
    simp [Core.rp, hn, h8]

/-- An instruction that computes predicates: `g` is what each reads afterwards (03 R76, R77). -/
theorem answers_computeP {i : Instr} {k : Insn} {s s1 : State} {f : Core → Core} {g : BitVec 3 → Bool}
    (hexec : exec i s = s.compute k f) (hw : wordOf i = k.w) (h : Runs i k.n k.pred k.pn s s1) (hpre : k.pre (s1.core k.n) = none)
    (hf : f (s1.core k.n) = { s1.core k.n with p := (f (s1.core k.n)).p }) (hg : ∀ r, (f (s1.core k.n)).rp r = g r) :
    Answers i s (fun t => wroteP k.n g s1 t ∧ (t.core k.n).pc = (s1.core k.n).pc + 4) := by
  refine ⟨_, exec_eq_body hexec hw h hpre, ?_⟩
  have hdbg : ((s1.modCore k.n f).core k.n).dbg = false := by rw [core_modCore_self, hf]; exact h.dbg
  obtain ⟨⟨hgr, hp, hv, ha, hmode, hcreg⟩, hpc, hmem, hchk, hregs, hdies, hother⟩ :=
    retire_endsAs (s := s1.modCore k.n f) (s1.core k.n) ((s1.core k.n).pc + 4) false [] hdbg
  rw [core_modCore_self] at hgr hp hv ha hmode hcreg
  refine ⟨⟨fun r => ?_, ?_, ?_, ?_, ?_, ?_, hmem, hchk, hregs, hdies, fun m hm => ?_⟩, hpc⟩
  · rw [← hg r, Core.rp, Core.rp, hp]
  · rw [hgr, hf]
  · rw [hv, hf]
  · rw [ha, hf]
  · rw [hf] at hmode; exact hmode
  · rw [hf] at hcreg; exact hcreg
  · rw [hother m hm, core_modCore_ne _ _ hm]

/-- A compare (03 R76). -/
theorem answers_compare {i : Instr} {k : Insn} {s s1 : State} {x y : BitVec 3} {b : Core → Bool}
    (hexec : exec i s = s.compute k (fun c => c.cmpWrite x y (b c))) (hw : wordOf i = k.w) (h : Runs i k.n k.pred k.pn s s1)
    (hpre : k.pre (s1.core k.n) = none) :
    Answers i s (fun t => wroteP k.n (fun r => if r = 0 then true else if r = x then b (s1.core k.n)
      else if r = y then !b (s1.core k.n) else (s1.core k.n).rp r) s1 t ∧ (t.core k.n).pc = (s1.core k.n).pc + 4) :=
  answers_computeP hexec hw h hpre (cmpWrite_eq_p _ _ _ _) (fun r => rp_cmpWrite _ _ _ r _)

theorem execCmpi_eq (o : RRI) (s : State) : exec (.cmpi o) s = s.compute (RRI.insn o (wRRI 0x07 o) false .u) (fun c =>
    c.cmpWrite (predOf o.d) (BitVec.ofNat 3 (o.imm.toNat / 512))
      (cmpCond (o.d.toNat / 8) (c.rg o.s) ((BitVec.setWidth 9 o.imm).signExtend 64))) := rfl

theorem execCmpiu_eq (o : RRI) (s : State) : exec (.cmpiu o) s = s.compute (RRI.insn o (wRRI 0x08 o) false .u) (fun c =>
    c.cmpWrite (predOf o.d) (BitVec.ofNat 3 (o.imm.toNat / 512))
      (cmpCond (if 2 ≤ o.d.toNat / 8 then o.d.toNat / 8 + 2 else o.d.toNat / 8) (c.rg o.s)
        ((BitVec.setWidth 9 o.imm).setWidth 64))) := by
  show execCmpiu o s = _
  simp only [execCmpiu, State.cmpImm, Bool.true_and, decide_eq_true_eq, if_true]

/-- Settles O3, one row or table at a time. -/
theorem compareAndPredicateResults : Obligations.CompareAndPredicateResults := by
  unfold Obligations.CompareAndPredicateResults
  refine ⟨?_, ?_, ?_, ?_, ?_⟩
  · intro o s s1 h
    have hwf : (decide (o.d.toNat < 8) && decide (o.f.toNat % 16 < 8)) = true := h.wf
    have hbad : (decide (8 ≤ o.d.toNat) || decide (8 ≤ o.f.toNat % 16)) = false := by simpa using hwf
    exact answers_compare (show exec (.cmp o) s = execCmp o s from rfl) rfl h (preChk_u_of hbad (s1.core o.core))
  · intro o s s1 h
    have key := answers_compare (execCmpi_eq o s) rfl h (preChk_u (s1.core o.core))
    exact key
  · intro o s s1 h
    have key := answers_compare (execCmpiu_eq o s) rfl h (preChk_u (s1.core o.core))
    exact key
  · intro e he o s s1 h
    obtain ⟨f, two, hrow⟩ := exec_pred e he
    obtain ⟨hwf, hw, hexec⟩ := hrow o
    have hwf : wfPred o two = true := by rw [← hwf, h.wf]
    have hbad : (!(predField o.d && predField o.s1 && (!two || predField o.s2))) = false := by rw [Bool.not_eq_false']; exact hwf
    have key := answers_computeP (g := fun r => if r = 0 then true else if r = predOf o.d then
      e.2 ((s1.core o.core).rp (predOf o.s1)) ((s1.core o.core).rp (predOf o.s2)) else (s1.core o.core).rp r)
      (hexec s) hw h (preChk_u_of hbad (s1.core o.core)) (wp_eq_p _ _ _) (fun r => rp_wp _ _ r _)
    exact key
  · intro o s s1 h
    have key := answers_computeP (show exec (.mtp o) s = execMtp o s from rfl) rfl h (preChk_u (s1.core o.core)) rfl
      (fun r => rp_lowByte _ ((s1.core o.core).rg o.s1) r)
    exact key

end Sys2Proof.Machine
end

section
/-! What a program sees of a core through the steps of one instruction: the frame that the parts of an instruction keep, and
that its completion closes. -/
namespace Sys2Proof.Machine
open Sys2Proof

theorem keepsRest_refl (n : Nat) (s : State) : keepsRest n s s := ⟨rfl, rfl, rfl, rfl, fun _ _ => rfl⟩

theorem keepsRest_trans {n : Nat} {s t u : State} (h1 : keepsRest n s t) (h2 : keepsRest n t u) : keepsRest n s u := by
  obtain ⟨a1, b1, c1, d1, e1⟩ := h1
  obtain ⟨a2, b2, c2, d2, e2⟩ := h2
  exact ⟨a2.trans a1, b2.trans b1, c2.trans c1, d2.trans d1, fun m hm => (e2 m hm).trans (e1 m hm)⟩

theorem keepsRest_modCore (n : Nat) (s : State) (f : Core → Core) : keepsRest n s (s.modCore n f) :=
  ⟨rfl, rfl, rfl, rfl, fun _ hm => core_modCore_ne s f hm⟩

theorem sameSeen_refl (c : Core) : sameSeen c c := ⟨rfl, rfl, rfl, rfl, ⟨rfl, rfl, rfl, rfl, rfl⟩, fun _ _ => rfl⟩

theorem sameSeen_trans {a b c : Core} (h1 : sameSeen a b) (h2 : sameSeen b c) : sameSeen a c := by
  obtain ⟨g1, p1, v1, a1, ⟨l1, s1, i1, ss1, m1⟩, k1⟩ := h1
  obtain ⟨g2, p2, v2, a2, ⟨l2, s2, i2, ss2, m2⟩, k2⟩ := h2
  exact ⟨g2.trans g1, p2.trans p1, v2.trans v1, a2.trans a1,
    ⟨l2.trans l1, s2.trans s1, i2.trans i1, ss2.trans ss1, m2.trans m1⟩, fun k hk => (k2 k hk).trans (k1 k hk)⟩

theorem endsAs_trans {n : Nat} {c : Core} {npc : Word} {s t u : State} (hc : sameSeen c (t.core n)) (hrest : keepsRest n s t)
    (h : endsAs n (t.core n) npc t u) : endsAs n c npc s u :=
  ⟨sameSeen_trans hc h.1, h.2.1, keepsRest_trans hrest h.2.2⟩

/-- Completing an instruction whose effect is done (03 R70). -/
theorem endsAs_retire {n : Nat} {c : Core} {s u : State} (c0 : Core) (npc : Word) (jump : Bool) (evs : List (Nat × Nat))
    (hc : sameSeen c (u.core n)) (hrest : keepsRest n s u) (hdbg : (u.core n).dbg = false) :
    endsAs n c npc s (u.retireInsn n c0 npc jump evs) :=
  endsAs_trans hc hrest (retire_endsAs c0 npc jump evs hdbg)

/-- Nothing that a program sees has changed, at core `n` or elsewhere. -/
def unseen (n : Nat) (s t : State) : Prop :=
  sameSeen (s.core n) (t.core n) ∧ (t.core n).pc = (s.core n).pc ∧ (t.core n).dbg = (s.core n).dbg ∧ keepsRest n s t

theorem unseen_refl (n : Nat) (s : State) : unseen n s s := ⟨sameSeen_refl _, rfl, rfl, keepsRest_refl n s⟩

theorem unseen_trans {n : Nat} {s t u : State} (h1 : unseen n s t) (h2 : unseen n t u) : unseen n s u := by
  obtain ⟨c1, p1, d1, r1⟩ := h1
  obtain ⟨c2, p2, d2, r2⟩ := h2
  exact ⟨sameSeen_trans c1 c2, p2.trans p1, d2.trans d1, keepsRest_trans r1 r2⟩

theorem unseen_modCore {n : Nat} {s : State} {f : Core → Core} (hc : sameSeen (s.core n) (f (s.core n)))
    (hpc : (f (s.core n)).pc = (s.core n).pc) (hdbg : (f (s.core n)).dbg = (s.core n).dbg) : unseen n s (s.modCore n f) :=
  ⟨by rw [core_modCore_self]; exact hc, by rw [core_modCore_self]; exact hpc, by rw [core_modCore_self]; exact hdbg,
    keepsRest_modCore n s f⟩

theorem unseen_drawBit (n : Nat) (s : State) : unseen n s s.drawBit.2 := unseen_refl n s
theorem unseen_drawNat (n : Nat) (s : State) : unseen n s s.drawNat.2 := unseen_refl n s

theorem unseen_gov (n m key : Nat) (s : State) : unseen n s (s.gov m key).2 := by
  unfold State.gov
  split
  · exact unseen_refl n s
  · exact unseen_drawBit n s

/-- An instruction whose parts have changed nothing a program sees completes. -/
theorem unseen.retire {n : Nat} {s u : State} (h : unseen n s u) (c0 : Core) (npc : Word) (jump : Bool) (evs : List (Nat × Nat))
    (hdbg : (s.core n).dbg = false) : endsAs n (s.core n) npc s (u.retireInsn n c0 npc jump evs) :=
  endsAs_retire c0 npc jump evs h.1 h.2.2.2 (h.2.2.1.trans hdbg)

end Sys2Proof.Machine
end

section
/-! O6: branches and jumps. -/
namespace Sys2Proof.Machine
open Sys2Proof

/-- Resolving a transfer works on the predictor alone (06 R177 to R184). -/
theorem predictUpdate_eq (c : Core) (ctl : Word) (t : Transfer) (ex : Bool) (target : Word) (v : Nat) :
    ∃ hist itt rs, c.predictUpdate ctl t ex target v = { c with hist := hist, itt := itt, rstack := rs } := by
  unfold Core.predictUpdate
  dsimp only
  split
  · exact ⟨c.hist, c.itt, c.rstack, rfl⟩
  · split
    · exact ⟨_, c.itt, c.rstack, rfl⟩
    · split
      · exact ⟨_, c.itt, _, rfl⟩
      · exact ⟨_, _, _, rfl⟩

theorem unseen_predictUpdate (n : Nat) (u : State) (ctl : Word) (t : Transfer) (ex : Bool) (target : Word) (v : Nat) (bad : Bool) :
    unseen n u (u.modCore n (fun c => { c.predictUpdate ctl t ex target v with mispred := c.mispred || bad })) := by
  obtain ⟨hist, itt, rs, h⟩ := predictUpdate_eq (u.core n) ctl t ex target v
  refine unseen_modCore ?_ ?_ ?_ <;> rw [h]
  exact sameSeen_refl (u.core n)

theorem unseen_resolve (n : Nat) (s : State) (t : Transfer) (pred : BitVec 3) (pn ex : Bool) (target : Word) :
    unseen n s (s.resolve n t pred pn ex target).2 :=
  unseen_trans (unseen_trans (unseen_gov n n (wk cPRCTL (s.core n).sec) s) (unseen_drawNat n _)) (unseen_predictUpdate n _ _ _ _ _ _ _)

/-- What a transfer does in each of its three cases (03 R74, R83). -/
theorem transfer_cases {i : Instr} {k : Insn} {t : Transfer} {target : Core → Word} {link : Core → Core} {s s1 : State}
    (hexec : exec i s = s.transfer k t target link) (hw : wordOf i = k.w) (hissue : Issues s k.n (wordOf i) s1)
    (hpre : k.pre (s1.core k.n) = none)
    (hlink : ∀ c d : Core, sameSeen c d → d.pc = c.pc → sameSeen (link c) (link d) ∧ (link d).dbg = d.dbg) :
    ((s1.core k.n).executes k.pred k.pn = true → (target (s1.core k.n)).toNat % 4 = 0 →
      Answers i s (endsAs k.n (link (s1.core k.n)) (target (s1.core k.n)) s1)) ∧
    ((s1.core k.n).executes k.pred k.pn = false → Answers i s (endsAs k.n (s1.core k.n) ((s1.core k.n).pc + 4) s1)) ∧
    ((s1.core k.n).executes k.pred k.pn = true → (target (s1.core k.n)).toNat % 4 ≠ 0 →
      exec i s = .next (s1.trapInsn k.n (Exc.plain xFETCHALIGN (target (s1.core k.n))))) := by
  obtain ⟨-, -, -, -, hdbg⟩ := id hissue
  rw [hw] at hissue
  refine ⟨fun hex halign => ?_, fun hex => ?_, fun hex halign => ?_⟩
  · obtain ⟨hseen, hpc, hd, hrest⟩ := unseen_resolve k.n s1 t k.pred k.pn true (target (s1.core k.n))
    obtain ⟨hls, hld⟩ := hlink _ _ hseen hpc
    refine ⟨_, by rw [hexec, State.transfer, issueOr_runs _ _ hissue hpre hex, if_neg (not_not.mpr halign)],
      endsAs_retire _ _ _ _ ?_ (keepsRest_trans hrest (keepsRest_modCore _ _ _)) ?_⟩
    · rw [core_modCore_self]; exact hls
    · rw [core_modCore_self, hld, hd, hdbg]
  · exact ⟨_, by rw [hexec, State.transfer, issueOr_skips _ _ hissue hpre hex],
      (unseen_resolve k.n s1 t k.pred k.pn false (target (s1.core k.n))).retire _ _ _ _ hdbg⟩
  · rw [hexec, State.transfer, issueOr_runs _ _ hissue hpre hex, if_pos halign]

/-- A link register gets the same value in two cores that a program cannot tell apart. -/
theorem sameSeen_wg {c d : Core} (h : sameSeen c d) (r : BitVec 5) (v : Word) : sameSeen (c.wg r v) (d.wg r v) := by
  obtain ⟨hg, hp, hv, ha, ⟨h1, h2, h3, h4, h5⟩, hk⟩ := h
  have hgw : (d.wg r v).g = (c.wg r v).g := by
    unfold Core.wg
    split
    · exact hg
    · rw [← hg]
  exact ⟨hgw, by simpa using hp, by simpa using hv, by simpa using ha,
    ⟨by simpa using h1, by simpa using h2, by simpa using h3, by simpa using h4, by simpa using h5⟩,
    fun k hk' => by simpa [Core.cr] using hk k hk'⟩

/-- Settles O6, by the cases of a transfer. -/
theorem transferResults : Obligations.TransferResults := by
  unfold Obligations.TransferResults
  intro link target i n pred pn s s1 hi hissue
  have hlinkG : ∀ r : BitVec 5, ∀ c d : Core, sameSeen c d → d.pc = c.pc →
      sameSeen (c.wg r (c.pc + 4)) (d.wg r (d.pc + 4)) ∧ (d.wg r (d.pc + 4)).dbg = d.dbg :=
    fun r c d h hpc => ⟨hpc ▸ sameSeen_wg h r _, wg_dbg _ _ _⟩
  have hlinkId : ∀ c d : Core, sameSeen c d → d.pc = c.pc → sameSeen (id c) (id d) ∧ (id d).dbg = d.dbg :=
    fun _ _ h _ => ⟨h, rfl⟩
  rcases hi with ⟨o, rfl | rfl, rfl, rfl, rfl⟩ | ⟨o, rfl | rfl | rfl, rfl, rfl, rfl⟩
  · exact transfer_cases (show exec (.br o) s = execBr o s from rfl) rfl hissue (preChk_u (s1.core o.core)) hlinkId
  · exact transfer_cases (show exec (.call o) s = execCall o s from rfl) rfl hissue (preChk_u (s1.core o.core)) (hlinkG 31)
  · exact transfer_cases (show exec (.jr o) s = execJr o s from rfl) rfl hissue (preChk_u (s1.core o.core)) hlinkId
  · exact transfer_cases (show exec (.ret o) s = execRet o s from rfl) rfl hissue (preChk_u (s1.core o.core)) hlinkId
  · exact transfer_cases (show exec (.jalr o) s = execJalr o s from rfl) rfl hissue (preChk_u (s1.core o.core)) (hlinkG o.d)

end Sys2Proof.Machine
end

section
/-! O15: an instruction whose predicate is false. Every row that a false predicate skips is issued in a frame, whose checks before
the predicate a well-formed row passes. -/
namespace Sys2Proof.Machine
open Sys2Proof

/-- The row `i` is issued in the frame of core `n` and its predicate; where the row is well-formed the frame's checks pass. -/
def Framed (i : Instr) (n : Nat) (pred : BitVec 3) (pn : Bool) : Prop :=
  ∃ pre : Core → Option Nat, (i.wf = true → ∀ c, pre c = none) ∧
    ∀ s, ∃ body, exec i s = s.issue ⟨n, pred, pn, wordOf i, pre⟩ body

theorem Framed.answers_skip {i : Instr} {n : Nat} {pred : BitVec 3} {pn : Bool} {s s1 : State} (hf : Framed i n pred pn)
    (hwf : i.wf = true) (hissue : Issues s n (wordOf i) s1) (hex : (s1.core n).executes pred pn = false) :
    Answers i s (endsAs n (s1.core n) ((s1.core n).pc + 4) s1) := by
  obtain ⟨pre, hpre, hexec⟩ := hf
  obtain ⟨body, hexec⟩ := hexec s
  exact Machine.answers_skip hexec rfl hissue (hpre hwf _) hex

/-- A row of lowest level U with no field that must be zero. -/
theorem framed_plain {i : Instr} {n : Nat} {pred : BitVec 3} {pn : Bool}
    (hexec : ∀ s, ∃ body, exec i s = s.issue ⟨n, pred, pn, wordOf i, preChk false .u⟩ body) : Framed i n pred pn :=
  ⟨_, fun _ c => preChk_u c, hexec⟩

/-- A row of lowest level U whose ill-formed fields are `bad`. -/
theorem framed_bad {i : Instr} {n : Nat} {pred : BitVec 3} {pn : Bool} {bad : Bool} (hbad : i.wf = true → bad = false)
    (hexec : ∀ s, ∃ body, exec i s = s.issue ⟨n, pred, pn, wordOf i, preChk bad .u⟩ body) : Framed i n pred pn :=
  ⟨_, fun h c => preChk_u_of (hbad h) c, hexec⟩

theorem framed_alu (o : RRR) : ∀ e ∈ aluTable, Framed (e.1 o) o.core o.pred o.pn := by
  intro e he
  obtain ⟨f, hrow⟩ := exec_alu e he
  obtain ⟨hw, hexec⟩ := hrow o
  exact framed_plain fun s => ⟨_, by rw [hexec, hw]; rfl⟩

theorem framed_imm (o : RRI) : ∀ e ∈ immTable, Framed (e.1 o) o.core o.pred o.pn := by
  intro e he
  obtain ⟨opc, hrow⟩ := exec_imm e he
  obtain ⟨hw, hexec⟩ := hrow o
  exact framed_plain fun s => ⟨_, by rw [hexec, hw]; rfl⟩

theorem framed_pred (o : RRR) : ∀ e ∈ predTable, Framed (e.1 o) o.core o.pred o.pn := by
  intro e he
  obtain ⟨f, two, hrow⟩ := exec_pred e he
  obtain ⟨hwf, hw, hexec⟩ := hrow o
  refine framed_bad (bad := !(predField o.d && predField o.s1 && (!two || predField o.s2))) (fun h => ?_)
    fun s => ⟨_, by rw [hexec, hw]; rfl⟩
  rw [Bool.not_eq_false', ← h, hwf]
  rfl

theorem exec_load : ∀ e ∈ loadTable, ∃ opc, ∀ o, wordOf (e.1 o) = wRRI opc o ∧ ∀ s, exec (e.1 o) s = s.loadM opc o e.2.1 e.2.2 := by
  simp only [loadTable, List.forall_mem_cons, List.not_mem_nil, false_imp_iff, implies_true, and_true]
  and_intros <;> exact ⟨_, fun _ => ⟨rfl, fun _ => rfl⟩⟩

theorem exec_store : ∀ e ∈ storeTable, ∃ opc, ∀ o, wordOf (e.1 o) = wRRI opc o ∧ ∀ s, exec (e.1 o) s = s.storeM opc o e.2 := by
  simp only [storeTable, List.forall_mem_cons, List.not_mem_nil, false_imp_iff, implies_true, and_true]
  and_intros <;> exact ⟨_, fun _ => ⟨rfl, fun _ => rfl⟩⟩

theorem exec_atom : ∀ e ∈ atomTable, ∃ op : BitVec 4, op.toNat = e.2 ∧ ∀ o, wordOf (e.1 o) = wAtom op o ∧
    ∀ s, exec (e.1 o) s = s.atomInsn op o := by
  simp only [atomTable, List.forall_mem_cons, List.not_mem_nil, false_imp_iff, implies_true, and_true]
  and_intros <;> exact ⟨BitVec.ofNat 4 _, rfl, fun _ => ⟨rfl, fun _ => rfl⟩⟩

theorem framed_load (o : RRI) : ∀ e ∈ loadTable, Framed (e.1 o) o.core o.pred o.pn := by
  intro e he
  obtain ⟨opc, hrow⟩ := exec_load e he
  obtain ⟨hw, hexec⟩ := hrow o
  exact framed_plain fun s => ⟨_, by rw [hexec, hw]; rfl⟩

theorem framed_store (o : RRI) : ∀ e ∈ storeTable, Framed (e.1 o) o.core o.pred o.pn := by
  intro e he
  obtain ⟨opc, hrow⟩ := exec_store e he
  obtain ⟨hw, hexec⟩ := hrow o
  exact framed_plain fun s => ⟨_, by rw [hexec, hw]; rfl⟩

theorem framed_atom (o : AtomF) : ∀ e ∈ atomTable, Framed (e.1 o) o.core o.pred o.pn := by
  intro e he
  obtain ⟨op, -, hrow⟩ := exec_atom e he
  obtain ⟨hw, hexec⟩ := hrow o
  exact framed_plain fun s => ⟨_, by rw [hexec, hw]; rfl⟩

/-- The system and cache rows of lowest level U, with ASAVE and ALOAD, which name an accumulator (04 R133). -/
theorem framed_system (o : RRR) : ∀ i ∈ [Instr.nop o, .syscall o, .brk o, .fence o, .fenceG o, .isync o, .gcall o, .gret o,
    .lflush o, .lclean o, .lzero o, .idrop o, .prefetchR o, .prefetchW o, .asave o, .aload o], Framed i o.core o.pred o.pn := by
  simp only [List.forall_mem_cons, List.not_mem_nil, false_imp_iff, implies_true, and_true]
  and_intros
  any_goals exact framed_plain fun s => ⟨_, rfl⟩
  all_goals exact framed_bad (bad := !accField o.d) (fun h => by rw [Bool.not_eq_false']; exact h) fun s => ⟨_, rfl⟩

theorem framed_rri (o : RRI) : ∀ i ∈ [Instr.cmpi o, .cmpiu o, .vld o, .vst o], Framed i o.core o.pred o.pn := by
  simp only [List.forall_mem_cons, List.not_mem_nil, false_imp_iff, implies_true, and_true]
  and_intros <;> exact framed_plain fun s => ⟨_, rfl⟩

theorem framed_vget (o : VF) : Framed (.vget o) o.core o.pred o.pn := by
  refine framed_bad (bad := rmBad o.rm || decide (laneN o.sz ≤ o.vs2.toNat)) (fun h => ?_) fun s => ⟨_, rfl⟩
  unfold Instr.wf at h
  obtain ⟨hrm, hlane⟩ := Bool.and_eq_true_iff.mp h
  rw [show rmBad o.rm = false by simpa [rmBad, wfRm] using hrm, Bool.false_or]
  exact decide_eq_false (Nat.not_le.mpr (of_decide_eq_true hlane))

/-- The rows of the V layout: a rounding mode that is defined, or fields that must be zero (04 R125 to R131). -/
theorem framed_numeric (o : VF) : ∀ i ∈ [Instr.fadd o, .fsub o, .fmul o, .fdiv o, .fmin o, .fmax o, .fsqrt o, .frint o, .fma o, .fms o,
    .fnma o, .fnms o, .feq o, .flt o, .fle o, .funord o, .fne o, .vmov o, .vsel o, .vbcast o, .vget o, .vneg o, .vabs o, .vzero o],
    Framed i o.core o.pred o.pn := by
  simp only [List.forall_mem_cons, List.not_mem_nil, false_imp_iff, implies_true, and_true]
  and_intros
  any_goals exact framed_vget o
  all_goals
    refine framed_bad (fun h => ?_) fun s => ⟨_, rfl⟩
    unfold Instr.wf at h
    simp_all [rmBad, wfRm]

/-- Settles O15: every row named is framed. -/
theorem predicateFalseSkips : Obligations.PredicateFalseSkips := by
  unfold Obligations.PredicateFalseSkips
  intro i n pred pn s s1 hi hwf hissue hex
  have hframed : Framed i n pred pn := by
    rcases hi with ⟨o, hi, rfl, rfl, rfl⟩ | ⟨o, hi, rfl, rfl, rfl⟩ | ⟨o, ⟨e, he, rfl⟩, rfl, rfl, rfl⟩ | ⟨o, hi, rfl, rfl, rfl⟩
    · rcases hi with ⟨e, he, rfl⟩ | ⟨e, he, rfl⟩ | hi
      · exact framed_alu o e he
      · exact framed_pred o e he
      · exact framed_system o i hi
    · rcases hi with ⟨e, he, rfl⟩ | ⟨e, he, rfl⟩ | ⟨e, he, rfl⟩ | hi
      · exact framed_imm o e he
      · exact framed_load o e he
      · exact framed_store o e he
      · exact framed_rri o i hi
    · exact framed_atom o e he
    · exact framed_numeric o i hi
  exact hframed.answers_skip hwf hissue hex

end Sys2Proof.Machine
end

section
/-! O16: the exceptions before the predicate, and the trap that one takes. -/
namespace Sys2Proof.Machine
open Sys2Proof

/-- An instruction whose checks before the predicate raise a cause takes that exception (03 R69). -/
theorem exec_traps {i : Instr} {k : Insn} {s s1 : State} {body : Core → State → Out} {x : Nat} (hexec : exec i s = s.issue k body)
    (hw : wordOf i = k.w) (hissue : Issues s k.n (wordOf i) s1) (hpre : k.pre (s1.core k.n) = some x) :
    exec i s = .next (s1.trapInsn k.n (Exc.insn x (s1.core k.n).pc (wordOf i) false)) := by
  rw [hw] at hissue ⊢
  rw [hexec, State.issue, issueOr_traps _ _ hissue hpre]

theorem preChk_illegal {bad : Bool} (h : bad = true) (l : Level) (c : Core) : preChk bad l c = some xILLEGAL := by
  rw [h, preChk, if_pos rfl]

theorem preChk_priv {l : Level} {c : Core} (h : c.lvl.below l = true) : preChk false l c = some xPRIV := by
  rw [preChk, if_neg Bool.false_ne_true, if_pos h]

theorem preChk_priv_u {c : Core} (h : c.lvl = .u) : preChk false .k c = some xPRIV := preChk_priv (by rw [h]; rfl)

/-- The trap of an instruction's own exception, outside M's handling of a machine check (03 R66, R68). -/
theorem trapInsn_trapped {n : Nat} {s : State} (e : Exc) (hd : (s.core n).dbg = false)
    (hm : ¬ ((s.core n).lvl = .m ∧ (s.core n).mcip = true)) (hmc : e.mc = none) (hk : isMcheck e.cause = false) :
    trapped n ((s.core n).trapTarget e) e.cause (if e.next then (s.core n).pc + 4 else (s.core n).pc) (s.core n) (s.trapInsn n e) ∧
      ((s.trapInsn n e).core n).cr (bankKey ((s.core n).trapTarget e) (s.core n).sec 5) = e.info := by
  have hc : (s.modCore n Core.clearWait).core n = (s.core n).clearWait := core_modCore_self ..
  have key := raiseExc_trapped (s := s.modCore n Core.clearWait) e ((s.core n).pc + 4) (by rw [hc]; exact hd)
    (by rw [hc]; exact hm) hmc hk
  rw [hc] at key
  obtain ⟨htrap, -, hinfo⟩ := key
  exact ⟨htrap, hinfo⟩

/-- Where an exception goes depends on its cause and on whether a stage 2 access raised it (03 R64). -/
theorem trapTarget_congr (c : Core) {e e' : Exc} (hcause : e.cause = e'.cause) (htoH : e.toH = e'.toH) :
    c.trapTarget e = c.trapTarget e' := by
  cases e
  cases e'
  cases hcause
  cases htoH
  rfl

/-- The rows of level K and above that U may not execute. -/
theorem exec_privRow : ∀ f ∈ [(.eret : RRR → Instr), .wfi, .tlbiVa, .tlbiAs, .tlbiAll, .tlbiS2, .tlbsync, .ldrop, .idropall, .swflush],
    ∀ o : RRR, ∃ pre : Core → Option Nat, (∀ c, c.lvl = .u → pre c = some xPRIV) ∧
      ∀ s, ∃ body, exec (f o) s = s.issue ⟨o.core, o.pred, o.pn, wordOf (f o), pre⟩ body := by
  have hk : ∀ c : Core, c.lvl = .u → preChk false .k c = some xPRIV := fun c hu => preChk_priv_u hu
  have heret : ∀ c : Core, c.lvl = .u → eretPre c = some xPRIV := fun c hu => by rw [eretPre, hk c hu]
  have hs2 : ∀ c : Core, c.lvl = .u → tlbiS2Pre c = some xPRIV := fun c hu => by rw [tlbiS2Pre, if_neg (by rw [hu]; decide)]
  simp only [List.forall_mem_cons, List.not_mem_nil, false_imp_iff, implies_true, and_true]
  refine ⟨fun o => ⟨_, heret, fun s => ⟨_, rfl⟩⟩, ?_, ?_, ?_, ?_, fun o => ⟨_, hs2, fun s => ⟨_, rfl⟩⟩, ?_, ?_, ?_, ?_⟩
  all_goals exact fun o => ⟨_, hk, fun s => ⟨_, rfl⟩⟩

/-- Settles O16, by the checks of each row's frame. -/
theorem privilegeTraps : Obligations.PrivilegeTraps := by
  unfold Obligations.PrivilegeTraps
  refine ⟨?_, ?_, ?_, ?_, ?_, ?_, ?_⟩
  · intro f hf o s s1 hissue hu
    obtain ⟨pre, hpre, hexec⟩ := exec_privRow f hf o
    obtain ⟨body, hexec⟩ := hexec s
    obtain ⟨-, -, -, -, hdbg⟩ := id hissue
    have htrap := exec_traps (k := ⟨o.core, o.pred, o.pn, wordOf (f o), pre⟩) hexec rfl hissue (hpre _ hu)
    have key := trapInsn_trapped (Exc.insn xPRIV (s1.core o.core).pc (wordOf (f o)) false) hdbg
      (fun hm => absurd (hu.symm.trans hm.1) (by decide)) rfl rfl
    rw [trapTarget_congr (s1.core o.core) (e := Exc.insn xPRIV (s1.core o.core).pc (wordOf (f o)) false)
      (e' := Exc.insn xPRIV 0 0 false) rfl rfl] at key
    exact ⟨htrap, _, htrap, key⟩
  · intro o s s1 hissue
    constructor
    · intro hsec hu
      refine exec_traps (show exec (.hcall o) s = execHcall o s from rfl) rfl hissue ?_
      show preChk ((s1.core o.core).sec && _) .k (s1.core o.core) = _
      rw [hsec, Bool.false_and, preChk_priv_u hu]
    · intro hsec hm
      have hbad : ((s1.core o.core).sec && (s1.core o.core).lvl != .m) = true := by
        rw [hsec, Bool.true_and, bne_iff_ne]
        exact hm
      exact exec_traps (show exec (.hcall o) s = execHcall o s from rfl) rfl hissue (preChk_illegal hbad _ (s1.core o.core))
  · intro o s s1 hissue hh
    exact exec_traps (show exec (.tlbiS2 o) s = execTlbiS2 o s from rfl) rfl hissue
      (show tlbiS2Pre (s1.core o.core) = _ by rw [tlbiS2Pre, if_neg hh])
  · intro o s s1 hissue hbad
    exact exec_traps (show exec (.lsi o) s = execLsi o s from rfl) rfl hissue (preChk_illegal hbad _ (s1.core o.core))
  · intro o s s1 hissue hf
    exact exec_traps (show exec (.cmp o) s = execCmp o s from rfl) rfl hissue
      (preChk_illegal (by rw [decide_eq_true hf, Bool.or_true]) _ (s1.core o.core))
  · intro o s s1 hissue hrm
    have hbad : (rmBad o.rm || o.rm != 0) = true := by rw [(bne_iff_ne).mpr hrm, Bool.or_true]
    exact exec_traps (show exec (.fmin o) s = execFmin o s from rfl) rfl hissue (preChk_illegal hbad _ (s1.core o.core))
  · intro o s s1 hissue hd
    have hbad : (!accField o.d) = true := by simp [accField, hd]
    exact exec_traps (show exec (.aload o) s = execAload o s from rfl) rfl hissue (preChk_illegal hbad _ (s1.core o.core))

end Sys2Proof.Machine
end

section
/-! O7: the calls' traps, the return by ERET, and BRK under debug control. -/
namespace Sys2Proof.Machine
open Sys2Proof

/-- The word of C_ESTAT gives back the status it was made from (03 R61). -/
theorem statWord_fields (lvl : Level) (sec ie ss : Bool) :
    Level.of ((statWord lvl sec ie ss).toNat % 4) = lvl ∧ bitAt (statWord lvl sec ie ss) 2 = sec ∧
      bitAt (statWord lvl sec ie ss) 3 = ie ∧ bitAt (statWord lvl sec ie ss) 4 = ss := by
  cases lvl <;> cases sec <;> cases ie <;> cases ss <;> decide

/-- ERET to a level no higher, and not to H of the secure world, takes status and PC from its bank (03 R66). -/
theorem eret_eq {c : Core} (hlvl : (Level.of ((c.cr (bankKey c.lvl c.sec 2)).toNat % 4)).num ≤ c.lvl.num)
    (hsec : ¬ (c.lvl = .m ∧ bitAt (c.cr (bankKey c.lvl c.sec 2)) 2 = true ∧
      Level.of ((c.cr (bankKey c.lvl c.sec 2)).toNat % 4) = .h)) :
    ∃ itt rs q, c.eret = (none, { c with
      sec := if c.lvl = .m then bitAt (c.cr (bankKey c.lvl c.sec 2)) 2 else c.sec
      mcip := if c.lvl = .m then false else c.mcip
      lvl := Level.of ((c.cr (bankKey c.lvl c.sec 2)).toNat % 4)
      ie := bitAt (c.cr (bankKey c.lvl c.sec 2)) 3
      ss := bitAt (c.cr (bankKey c.lvl c.sec 2)) 4
      pc := c.cr (bankKey c.lvl c.sec 1) &&& ~~~(3 : Word)
      creg60 := .empty, itt := itt, rstack := rs, clrBusy := q }) := by
  have hbelow : ¬ c.lvl.below (Level.of ((c.cr (bankKey c.lvl c.sec 2)).toNat % 4)) = true := by
    rw [Level.below, decide_eq_true_iff]
    omega
  obtain ⟨itt, rs, q, h⟩ := clrw_eq c { c with
      sec := if c.lvl = .m then bitAt (c.cr (bankKey c.lvl c.sec 2)) 2 else c.sec
      mcip := if c.lvl = .m then false else c.mcip
      lvl := Level.of ((c.cr (bankKey c.lvl c.sec 2)).toNat % 4)
      ie := bitAt (c.cr (bankKey c.lvl c.sec 2)) 3
      ss := bitAt (c.cr (bankKey c.lvl c.sec 2)) 4
      pc := c.cr (bankKey c.lvl c.sec 1) &&& ~~~(3 : Word)
      creg60 := .empty }
  refine ⟨itt, rs, q, ?_⟩
  rw [Core.eret]
  dsimp only
  rw [if_neg hbelow, if_neg hsec, h]

theorem trapTarget_mcall (c : Core) : c.trapTarget (Exc.plain xMCALL 0) = .m := by
  have hm : Level.below .m c.lvl = false := by cases c.lvl <;> rfl
  simp [Core.trapTarget, Exc.plain, hm]

/-- The core after the monitor's version call: status 0 in g1, the version in g2, then ERET (17 R449). -/
def Core.versionReturn (c : Core) : Core := ((c.wg 1 0).wg 2 0x10000).eret.2

theorem monitorCall_version {s : State} {n : Nat} (h : (s.core n).rg 1 = 0) :
    (s.monitorCall n).core n = (s.core n).versionReturn := by
  rw [State.monitorCall]
  dsimp only
  rw [h]
  exact core_modCore_self s n Core.versionReturn

/-- What the version call leaves of a core at M whose bank holds the caller's status. -/
theorem versionReturn_facts {c : Core} {lvl : Level} {b sec ie ss : Bool} (hlvl : c.lvl = .m) (hb : c.sec = b)
    (hstat : c.cr (bankKey .m b 2) = statWord lvl sec ie ss) (hsec : ¬ (lvl = .h ∧ sec = true)) :
    c.versionReturn.rg 1 = 0 ∧ c.versionReturn.rg 2 = 0x10000 ∧ (∀ k : BitVec 5, 2 < k.toNat → c.versionReturn.rg k = c.rg k) ∧
      c.versionReturn.lvl = lvl ∧ c.versionReturn.sec = sec ∧ c.versionReturn.ie = ie ∧ c.versionReturn.ss = ss ∧
      c.versionReturn.pc = c.cr (bankKey .m b 1) &&& ~~~(3 : Word) := by
  obtain ⟨hl, hs, hi, hss⟩ := statWord_fields lvl sec ie ss
  have hcr : ∀ k, ((c.wg 1 0).wg 2 0x10000).cr k = c.cr k := fun _ => rfl
  have hlvl' : ((c.wg 1 0).wg 2 0x10000).lvl = .m := hlvl
  have hsec' : ((c.wg 1 0).wg 2 0x10000).sec = b := hb
  obtain ⟨itt, rs, q, h⟩ := eret_eq (c := (c.wg 1 0).wg 2 0x10000)
    (by rw [hcr, hlvl', hsec', hstat, hl]; cases lvl <;> decide)
    (by rw [hcr, hlvl', hsec', hstat, hl, hs]; exact fun ⟨_, hsec1, hh⟩ => hsec ⟨hh, hsec1⟩)
  rw [hcr, hcr, hlvl', hsec', hstat, hl, hs, hi, hss, if_pos rfl] at h
  have hg : ∀ k, c.versionReturn.rg k = ((c.wg 1 0).wg 2 0x10000).rg k := fun k => rg_of_g (by rw [Core.versionReturn, h]) k
  refine ⟨?_, ?_, fun k hk => ?_, ?_, ?_, ?_, ?_, ?_⟩
  · rw [hg, rg_wg_ne _ _ (by decide), rg_wg_self, if_neg (by decide)]
  · rw [hg, rg_wg_self, if_neg (by decide)]
  · have hk2 : k ≠ 2 := by rintro rfl; exact absurd hk (by decide)
    have hk1 : k ≠ 1 := by rintro rfl; exact absurd hk (by decide)
    rw [hg, rg_wg_ne _ _ hk2, rg_wg_ne _ _ hk1]
  all_goals rw [Core.versionReturn, h]

/-- An instruction whose body completes it and takes the trap `x`. -/
theorem answers_completeTrap {i : Instr} {k : Insn} {s s1 : State} {body : Core → State → Out} {x : Nat} (e : Exc)
    (hexec : exec i s = s.issue k body) (hw : wordOf i = k.w) (h : Runs i k.n k.pred k.pn s s1) (hpre : k.pre (s1.core k.n) = none)
    (hbody : body (s1.core k.n) s1 = .next (s1.completeTrap k.n (s1.core k.n) e))
    (hm : ¬ ((s1.core k.n).lvl = .m ∧ (s1.core k.n).mcip = true)) (hcause : e.cause = x) (htoH : e.toH = false) (hmc : e.mc = none)
    (hk : isMcheck x = false) :
    Answers i s (trapped k.n ((s1.core k.n).trapTarget (Exc.plain x 0)) x ((s1.core k.n).pc + 4) (s1.core k.n)) := by
  subst hcause
  refine ⟨_, (exec_eq_body hexec hw h hpre).trans hbody, ?_⟩
  rw [trapTarget_congr (s1.core k.n) (e := Exc.plain e.cause 0) (e' := e) rfl htoH.symm]
  exact completeTrap_trapped e h.dbg hm hmc hk

theorem hcallPre_none {c : Core} (hu : c.lvl ≠ .u) (hsec : c.sec = true → c.lvl = .m) : hcallPre c = none := by
  have hbad : (c.sec && c.lvl != .m) = false := by
    cases hs : c.sec with
    | false => rfl
    | true => rw [hsec hs]; rfl
  rw [hcallPre, hbad, preChk_k hu]

/-- MCALL with the monitor's service, function 0. -/
theorem answers_version {o : McallF} {s s1 : State} (hsvc : o.svc = true) (h : Runs (.mcall o) o.core o.pred o.pn s s1)
    (hu : (s1.core o.core).lvl ≠ .u) (hm : ¬ ((s1.core o.core).lvl = .m ∧ (s1.core o.core).mcip = true))
    (hsec : ¬ ((s1.core o.core).lvl = .h ∧ (s1.core o.core).sec = true)) (hg : (s1.core o.core).rg 1 = 0) :
    Answers (.mcall o) s (fun t => (t.core o.core).rg 1 = 0 ∧ (t.core o.core).rg 2 = 0x10000 ∧
      (∀ k : BitVec 5, 2 < k.toNat → (t.core o.core).rg k = (s1.core o.core).rg k) ∧
      (t.core o.core).lvl = (s1.core o.core).lvl ∧ (t.core o.core).sec = (s1.core o.core).sec ∧
      (t.core o.core).ie = (s1.core o.core).ie ∧ (t.core o.core).ss = (s1.core o.core).ss ∧
      (t.core o.core).pc = ((s1.core o.core).pc + 4) &&& ~~~(3 : Word)) := by
  have hsvc' : (o.svc && !((s1.core o.core).lvl == .m && (s1.core o.core).mcip) && !(s1.core o.core).dbg) = true := by
    rw [hsvc, h.dbg]
    simpa [imp_iff_not_or] using hm
  have htrap := completeTrap_trapped (Exc.plain xMCALL 0) h.dbg hm rfl (by decide)
  rw [trapTarget_mcall] at htrap
  obtain ⟨hlvl, hsec2, -, -, hepc, hstat, -, -, hgs, -, -, -⟩ := htrap
  have hrun := exec_eq_body (show exec (.mcall o) s = execMcall o s from rfl) rfl h (preChk_k hu)
  refine ⟨_, hrun.trans (if_pos hsvc'), ?_⟩
  have hcore := monitorCall_version ((rg_of_g hgs 1).trans hg)
  obtain ⟨h1, h2, h3, h4, h5, h6, h7, h8⟩ := versionReturn_facts hlvl hsec2 hstat hsec
  rw [hepc, BitVec.and_assoc, BitVec.and_self] at h8
  rw [← hcore] at h1 h2 h3 h4 h5 h6 h7 h8
  exact ⟨h1, h2, fun k hk => (h3 k hk).trans (rg_of_g hgs k), h4, h5, h6, h7, h8⟩

/-- Settles O7: each call is a completion and a trap; the monitor's version call returns by ERET. -/
theorem systemCalls : Obligations.SystemCalls := by
  unfold Obligations.SystemCalls
  refine ⟨?_, fun o s s1 hsvc h hu hm hsec hg => answers_version hsvc h hu hm hsec hg, ?_⟩
  · simp only [List.forall_mem_cons, List.not_mem_nil, false_imp_iff, implies_true, and_true]
    refine ⟨?_, ?_, ?_, ?_⟩
    · intro o s s1 h hm _ _ _
      exact answers_completeTrap (Exc.plain xSYSCALL 0) (show exec (.syscall o) s = execSyscall o s from rfl) rfl h
        (preChk_u (s1.core o.core)) rfl hm rfl rfl rfl (by decide)
    · intro o s s1 h hm hu hsec _
      exact answers_completeTrap (Exc.plain xHCALL 0) (show exec (.hcall o) s = execHcall o s from rfl) rfl h
        (hcallPre_none (hu (by decide) (by decide)) (hsec trivial)) rfl hm rfl rfl rfl (by decide)
    · intro o s s1 h hm hu _ _
      exact answers_completeTrap (Exc.plain xMCALL 0) (show exec (.mcall ⟨o.core, o.pred, o.pn, o.d, o.s1, o.s2, false⟩) s =
        execMcall ⟨o.core, o.pred, o.pn, o.d, o.s1, o.s2, false⟩ s from rfl) rfl h
        (preChk_k (hu (by decide) (by decide))) rfl hm rfl rfl rfl (by decide)
    · intro o s s1 h hm _ _ hdbg
      exact answers_completeTrap (Exc.insn xBRK (s1.core o.core).pc (wRRR 0x38 0x04 o) true)
        (show exec (.brk o) s = execBrk o s from rfl) rfl h
        (preChk_u (s1.core o.core)) (if_neg (by rw [hdbg trivial]; exact Bool.false_ne_true)) hm rfl rfl rfl (by decide)
  · intro o s s1 h hctl
    have hrun := exec_eq_body (show exec (.brk o) s = execBrk o s from rfl) rfl h (preChk_u (s1.core o.core))
    have hends := retire_endsAs (s1.core o.core) ((s1.core o.core).pc + 4) false [] h.dbg
    refine ⟨_, hrun.trans (if_pos hctl), ?_, ?_, ?_⟩
    · rw [core_modCore_self]
    · rw [core_modCore_self]
    · obtain ⟨hseen, hpc, hrest⟩ := hends
      refine ⟨?_, ?_, keepsRest_trans hrest (keepsRest_modCore ..)⟩
      · rw [core_modCore_self]; exact hseen
      · rw [core_modCore_self]; exact hpc

end Sys2Proof.Machine
end

section
/-! O8: the system group without its calls. -/
namespace Sys2Proof.Machine
open Sys2Proof

/-! Store statuses: only the deferred error and the statuses under way change (03 R94). -/

theorem storeError_eq (c : Core) (e : StoreOut) : ∃ d, c.storeError e = { c with defErr := d } := by
  unfold Core.storeError
  split <;> exact ⟨_, rfl⟩

theorem foldl_storeError_eq (l : List StoreOut) (c : Core) : ∃ d, l.foldl Core.storeError c = { c with defErr := d } := by
  induction l generalizing c with
  | nil => exact ⟨c.defErr, rfl⟩
  | cons e l ih =>
    obtain ⟨d, hd⟩ := storeError_eq c e
    obtain ⟨d', hd'⟩ := ih { c with defErr := d }
    exact ⟨d', by rw [List.foldl_cons, hd, hd']⟩

theorem drainStores_eq (c : Core) : ∃ d, c.drainStores = { c with stq := [], defErr := d } := foldl_storeError_eq c.stq { c with stq := [] }

theorem drainStores_stq (c : Core) : c.drainStores.stq = [] := by
  obtain ⟨d, hd⟩ := drainStores_eq c
  rw [hd]

theorem unseen_drainStores (n : Nat) (s : State) : unseen n s (s.modCore n Core.drainStores) := by
  obtain ⟨d, hd⟩ := drainStores_eq (s.core n)
  refine unseen_modCore ?_ ?_ ?_ <;> rw [hd]
  exact ⟨rfl, rfl, rfl, rfl, ⟨rfl, rfl, rfl, rfl, rfl⟩, fun _ _ => rfl⟩

/-- Taking a failed remote write changes the fabric's list and the deferred error (15 R401). -/
theorem takeFailed_unseen (n : Nat) (s : State) : unseen n s (s.takeFailed n) ∧ ((s.takeFailed n).core n).stq = (s.core n).stq := by
  unfold State.takeFailed
  dsimp only
  split
  · exact ⟨unseen_refl n s, rfl⟩
  · rename_i t _
    obtain ⟨d, hd⟩ := storeError_eq (s.core n) ⟨Status.code t.status, t.va⟩
    constructor
    · refine unseen_trans (t := { s with fab := _ }) (unseen_refl n s) (unseen_modCore ?_ ?_ ?_)
      · exact hd ▸ ⟨rfl, rfl, rfl, rfl, ⟨rfl, rfl, rfl, rfl, rfl⟩, fun _ _ => rfl⟩
      · exact (congrArg Core.pc hd).trans rfl
      · exact (congrArg Core.dbg hd).trans rfl
    · rw [core_modCore_self]
      exact (congrArg Core.stq hd).trans rfl

theorem retire_stq {n : Nat} {s : State} (c0 : Core) (npc : Word) (jump : Bool) (evs : List (Nat × Nat)) (hd : (s.core n).dbg = false) :
    ((s.retireInsn n c0 npc jump evs).core n).stq = (s.core n).stq := by
  obtain ⟨⟨cr, hcore⟩, -, -, -⟩ := retire_core c0 npc jump evs hd
  rw [hcore]

/-- An instruction that completes from a state in which a program sees nothing new. -/
theorem unseen.endsAs_done {n : Nat} {s2 u : State} (h : unseen n s2 u) (c0 : Core) (hd : (s2.core n).dbg = false) (evs : List (Nat × Nat)) :
    endsAs n (s2.core n) (c0.pc + 4) s2 (u.retireInsn n c0 (c0.pc + 4) false evs) := h.retire c0 _ _ _ hd

theorem allStored_ok {n : Nat} {s1 s2 : State} (h : s1.sbDrain n = (true, s2)) :
    s1.allStored n = (.ok (), s2.modCore n Core.drainStores) := by
  rw [State.allStored, h]
  rfl

/-- FENCE, and FENCE.G without an open remote write, once the store buffer has drained. -/
theorem answers_fence {i : Instr} {o : RRR} {s s1 s2 : State} (hi : i = .fence o ∨ i = .fenceG o ∧ (s1.core o.core).openW = 0)
    (h : Runs i o.core o.pred o.pn s s1) (hdrain : s1.sbDrain o.core = (true, s2)) (hd : (s2.core o.core).dbg = false) :
    Answers i s (fun t => (t.core o.core).stq = [] ∧ endsAs o.core (s2.core o.core) ((s1.core o.core).pc + 4) s2 t) := by
  have hdrained := unseen_drainStores o.core s2
  have hstq : ((s2.modCore o.core Core.drainStores).core o.core).stq = [] := by rw [core_modCore_self, drainStores_stq]
  obtain rfl | ⟨rfl, hopen⟩ := hi
  · have hrun := exec_eq_body (show exec (.fence o) s = execFence o s from rfl) rfl h (preChk_u (s1.core o.core))
    rw [allStored_ok hdrain] at hrun
    refine ⟨_, hrun, ?_, hdrained.endsAs_done _ hd []⟩
    rw [retire_stq _ _ _ _ (hdrained.2.2.1.trans hd), hstq]
  · have hrun := exec_eq_body (show exec (.fenceG o) s = execFenceG o s from rfl) rfl h (preChk_u (s1.core o.core))
    rw [allStored_ok hdrain] at hrun
    obtain ⟨htaken, htstq⟩ := takeFailed_unseen o.core (s2.modCore o.core Core.drainStores)
    have hall := unseen_trans hdrained htaken
    refine ⟨_, hrun.trans (if_pos hopen), ?_, hall.endsAs_done _ hd []⟩
    rw [retire_stq _ _ _ _ (hall.2.2.1.trans hd), htstq, hstq]

theorem sbDrain_empty {n : Nat} {s : State} (h : (s.core n).sbuf = []) : s.sbDrain n = (true, s) := by
  rw [State.sbDrain, h]
  rfl

/-! TLBI (08 R229, R230). -/

/-- A hub's answer marks a core at most, and leaves the messages alone. -/
theorem tlbiHubDone_frame (s : State) (t m : Nat) :
    (s.tlbiHubDone t).net = s.net ∧ ∃ b, (s.tlbiHubDone t).core m = { s.core m with tlbFlushDue := b } := by
  unfold State.tlbiHubDone
  split
  · refine ⟨rfl, ?_⟩
    by_cases hm : m = t
    · subst hm
      exact ⟨true, core_modCore_self ..⟩
    · exact ⟨(s.core m).tlbFlushDue, core_modCore_ne s _ hm⟩
  · exact ⟨rfl, (s.core m).tlbFlushDue, rfl⟩

theorem foldl_tlbiHubDone_frame (l : List Nat) (s : State) (m : Nat) :
    (l.foldl (fun s t => s.tlbiHubDone t) s).net = s.net ∧
      ∃ b, (l.foldl (fun s t => s.tlbiHubDone t) s).core m = { s.core m with tlbFlushDue := b } := by
  induction l generalizing s with
  | nil => exact ⟨rfl, _, rfl⟩
  | cons t l ih =>
    obtain ⟨hnet, b, hb⟩ := tlbiHubDone_frame s t m
    obtain ⟨hnet', b', hb'⟩ := ih (s.tlbiHubDone t)
    exact ⟨hnet'.trans hnet, b', hb'.trans (by rw [hb])⟩

theorem tlbiSend_frame (s : State) (n kind regime : Nat) (va : Word) (asid gid : Nat) :
    (s.tlbiSend n kind regime va asid gid).net.nextTlbi = s.net.nextTlbi + 1 ∧
      ∃ b, (s.tlbiSend n kind regime va asid gid).core n =
        { s.core n with tlbFlushDue := b, tlbiOut := (s.core n).tlbiOut ++ [s.net.nextTlbi] } := by
  obtain ⟨-, b, hb⟩ := foldl_tlbiHubDone_frame ((List.range 216).filter (fun t => s.tlbiHubAck t)) s n
  refine ⟨rfl, b, (core_modCore_self ..).trans ?_⟩
  exact congrArg (fun c : Core => { c with tlbiOut := c.tlbiOut ++ [s.net.nextTlbi] }) hb

/-- A TLBI that passes its checks and finds room. -/
theorem answers_tlbi {i : Instr} {k : Insn} {s s1 : State} {kind regime gid asid : Core → Nat} {va : Core → Word}
    (hexec : exec i s = s.issue k (fun c s1 => if 32 ≤ c.tlbiOut.length then .next s
      else (s1.tlbiSend k.n (kind c) (regime c) (va c) (asid c) (gid c)).done k.n c []))
    (hw : wordOf i = k.w) (h : Runs i k.n k.pred k.pn s s1) (hpre : k.pre (s1.core k.n) = none)
    (hroom : (s1.core k.n).tlbiOut.length < 32) :
    Answers i s (fun t => (t.core k.n).tlbiOut = (s1.core k.n).tlbiOut ++ [s1.net.nextTlbi] ∧
      t.net.nextTlbi = s1.net.nextTlbi + 1 ∧ (t.core k.n).pc = (s1.core k.n).pc + 4) := by
  refine ⟨_, (exec_eq_body hexec hw h hpre).trans (if_neg (Nat.not_le.mpr hroom)), ?_⟩
  obtain ⟨hnext, b, hcore⟩ := tlbiSend_frame s1 k.n (kind (s1.core k.n)) (regime (s1.core k.n)) (va (s1.core k.n))
    (asid (s1.core k.n)) (gid (s1.core k.n))
  obtain ⟨⟨cr, hret⟩, -, -, hst⟩ := retire_core (s1.core k.n) ((s1.core k.n).pc + 4) false [] ((congrArg Core.dbg hcore).trans h.dbg)
  exact ⟨(congrArg Core.tlbiOut hret).trans (congrArg Core.tlbiOut hcore),
    (congrArg (fun u : State => u.net.nextTlbi) hst).trans hnext, congrArg Core.pc hret⟩

/-! WFI (03 R72). -/

theorem wfiIdle_core (s : State) (n m : Nat) : (s.wfiIdle n).core m = s.core m := by
  unfold State.wfiIdle
  split <;> rfl

/-! ERET (03 R66). -/

/-- ERET works on the core that has completed it, whose bank is the one it had. -/
theorem answers_eret {o : RRR} {s s1 : State} (h : Runs (.eret o) o.core o.pred o.pn s s1) (hu : (s1.core o.core).lvl ≠ .u)
    (hlvl : (Level.of (((s1.core o.core).cr (bankKey (s1.core o.core).lvl (s1.core o.core).sec 2)).toNat % 4)).num ≤
      (s1.core o.core).lvl.num)
    (hsec : ¬ ((s1.core o.core).lvl = .m ∧ bitAt ((s1.core o.core).cr (bankKey (s1.core o.core).lvl (s1.core o.core).sec 2)) 2 = true ∧
      Level.of (((s1.core o.core).cr (bankKey (s1.core o.core).lvl (s1.core o.core).sec 2)).toNat % 4) = .h)) :
    let c := s1.core o.core
    let w := c.cr (bankKey c.lvl c.sec 2)
    Answers (.eret o) s (fun t => (t.core o.core).lvl = Level.of (w.toNat % 4) ∧
      (t.core o.core).sec = (if c.lvl = .m then bitAt w 2 else c.sec) ∧ (t.core o.core).ie = bitAt w 3 ∧
      (t.core o.core).ss = bitAt w 4 ∧ (t.core o.core).pc = c.cr (bankKey c.lvl c.sec 1) &&& ~~~(3 : Word) ∧
      (t.core o.core).g = c.g ∧ (t.core o.core).p = c.p ∧ t.mem = s1.mem) := by
  intro c w
  have hpre : eretPre c = none := by
    obtain ⟨itt, rs, q, heret⟩ := eret_eq hlvl hsec
    rw [eretPre, preChk_k hu, heret]
  have hrun := exec_eq_body (show exec (.eret o) s = execEret o s from rfl) rfl h hpre
  obtain ⟨⟨hg, hp, -, -, ⟨hl, hs, -⟩, hcr⟩, -, hmem, -⟩ := retire_endsAs c (c.pc + 4) true [] h.dbg
  have hbank : ∀ {r}, r < 7 → (((s1.retireInsn o.core c (c.pc + 4) true []).core o.core).cr
      (bankKey c.lvl c.sec r)) = c.cr (bankKey c.lvl c.sec r) := fun hr => hcr _ (bankKey_count _ _ hr)
  obtain ⟨itt, rs, q, heret⟩ := eret_eq (c := (s1.retireInsn o.core c (c.pc + 4) true []).core o.core)
    (by rw [hl, hs, hbank (by decide)]; exact hlvl) (by rw [hl, hs, hbank (by decide)]; exact hsec)
  rw [hl, hs, hbank (by decide), hbank (by decide)] at heret
  have hcore := (core_modCore_self (s1.retireInsn o.core c (c.pc + 4) true []) o.core (fun c => c.eret.2)).trans
    (congrArg Prod.snd heret)
  exact ⟨_, hrun, congrArg Core.lvl hcore, congrArg Core.sec hcore, congrArg Core.ie hcore, congrArg Core.ss hcore,
    congrArg Core.pc hcore, (congrArg Core.g hcore).trans hg, (congrArg Core.p hcore).trans hp, hmem⟩

/-- Settles O8, row by row. -/
theorem systemResults : Obligations.SystemResults := by
  unfold Obligations.SystemResults
  refine ⟨?_, ?_, ?_, ?_, ?_, ?_, ?_, ?_, ?_⟩
  · intro o s s1 h
    exact ⟨_, exec_eq_body (show exec (.nop o) s = execNop o s from rfl) rfl h (preChk_u (s1.core o.core)),
      (unseen_refl o.core s1).endsAs_done _ h.dbg []⟩
  · exact fun o s s1 h hu hlvl hsec => answers_eret h hu hlvl hsec
  · intro o s s1 h hu hoff
    have hrun := exec_eq_body (show exec (.wfi o) s = execWfi o s from rfl) rfl h (preChk_k (c := s1.core o.core) hu)
    have hno : ((s1.core o.core).dbg || (s1.core o.core).offers.any (fun m => s1.intAct o.core m true != .no)) = false := by
      rw [h.dbg, hoff]
      rfl
    refine ⟨_, hrun.trans (if_neg (ne_true_of_eq_false hno)), ?_⟩
    have hcore := (wfiIdle_core (s1.modCore o.core (fun c => { c with run := .wfi })) o.core o.core).trans (core_modCore_self ..)
    exact ⟨congrArg Core.run hcore, (congrArg Core.pc hcore :)⟩
  · exact fun o s s1 h hs => answers_fence (.inl rfl) h (sbDrain_empty hs) h.dbg
  · exact fun o s s1 h hopen hs => answers_fence (.inr ⟨rfl, hopen⟩) h (sbDrain_empty hs) h.dbg
  · simp only [List.forall_mem_cons, List.not_mem_nil, false_imp_iff, implies_true, and_true]
    exact ⟨fun o s s1 s2 h hdrain hd _ => answers_fence (.inl rfl) h hdrain hd,
      fun o s s1 s2 h hdrain hd hopen => answers_fence (.inr ⟨rfl, hopen trivial⟩) h hdrain hd⟩
  · intro o s s1 h
    have hrun := exec_eq_body (show exec (.isync o) s = execIsync o s from rfl) rfl h (preChk_u (s1.core o.core))
    have hu : unseen o.core s1 (s1.modCore o.core (fun c => { c with creg60 := .empty })) :=
      unseen_modCore (sameSeen_refl _) rfl rfl
    refine ⟨_, hrun, ?_, hu.endsAs_done _ h.dbg []⟩
    obtain ⟨⟨cr, hcore⟩, -, -, -⟩ := retire_core (s1.core o.core) ((s1.core o.core).pc + 4) false [] (hu.2.2.1.trans h.dbg)
    refine (congrArg Core.creg60 hcore).trans ?_
    rw [core_modCore_self]
  · simp only [List.forall_mem_cons, List.not_mem_nil, false_imp_iff, implies_true, and_true]
    refine ⟨?_, ?_, ?_, ?_⟩
    · exact fun o s s1 h hu _ hroom => answers_tlbi (show exec (.tlbiVa o) s = execTlbiVa o s from rfl) rfl h
        (preChk_k (c := s1.core o.core) hu) hroom
    · exact fun o s s1 h hu _ hroom => answers_tlbi (va := fun _ => 0) (show exec (.tlbiAs o) s = execTlbiAs o s from rfl) rfl h
        (preChk_k (c := s1.core o.core) hu) hroom
    · exact fun o s s1 h hu _ hroom => answers_tlbi (va := fun _ => 0) (show exec (.tlbiAll o) s = execTlbiAll o s from rfl) rfl h
        (preChk_k (c := s1.core o.core) hu) hroom
    · exact fun o s s1 h _ hh hroom => answers_tlbi (va := fun _ => 0) (show exec (.tlbiS2 o) s = execTlbiS2 o s from rfl) rfl h
        (show tlbiS2Pre (s1.core o.core) = none from if_pos (hh trivial)) hroom
  · intro o s s1 h hu htout hout
    have hrun := exec_eq_body (show exec (.tlbsync o) s = execTlbsync o s from rfl) rfl h (preChk_k (c := s1.core o.core) hu)
    have hempty : (s1.core o.core).tlbiOut.isEmpty = true := by rw [hout]; rfl
    refine ⟨_, hrun.trans ((if_neg (ne_true_of_eq_false htout)).trans (if_pos hempty)), ?_⟩
    exact (unseen_refl o.core s1).endsAs_done _ h.dbg []

end Sys2Proof.Machine
end

section
/-! O20: interrupts, deferred errors, single steps and wakes. -/
namespace Sys2Proof.Machine
open Sys2Proof

/-- An offer notes the group's last core and nothing else (17 R458). -/
theorem noteGroup_core (s : State) (o : Option Nat) (n m : Nat) : (s.noteGroup o n).core m = s.core m := by
  unfold State.noteGroup
  split
  · split <;> rfl
  · rfl

/-- What an interrupt leaves, register by register (03 R66, R71). -/
theorem takeTrap_irq_facts (c : Core) (t : Level) (ec epc : Word) (hd : c.dbg = false) :
    let d := c.takeTrap t true false ec 0 0 epc
    d.lvl = t ∧ d.ie = false ∧ d.ss = false ∧ d.cr (bankKey t c.sec 1) = epc &&& ~~~(3 : Word) ∧ d.cr (bankKey t c.sec 3) = ec ∧
      d.pc = c.cr (bankKey t c.sec 0) + (if c.lvl = t then 0 else 0x200) + 0x100 ∧ d.g = c.g := by
  obtain ⟨b0, b1, -, b3, -, -⟩ := saveBank_cr c t ec 0 0 epc
  have hcr : ∀ k, (c.takeTrap t true false ec 0 0 epc).cr k = (c.saveBank t ec 0 0 epc).cr k := by
    intro k
    simp [Core.takeTrap, hd, Core.cr]
  refine ⟨?_, ?_, ?_, (hcr _).trans b1, (hcr _).trans b3, ?_, ?_⟩
  case refine_4 => simpa [Core.takeTrap, hd] using b0
  all_goals simp [Core.takeTrap, hd]

/-- Counting, the acknowledgement and the trap: the parts of an interrupt (03 R71, 17 R456). -/
theorem takeInt_core {s : State} {n : Nat} (src : Nat) (t : Level) : ∃ u, counted n s u ∧ ∃ x y, (s.takeInt n src t).core n =
    ({ u.core n with offer := x, offerS := y } : Core).takeTrap t true false (BitVec.ofNat 64 (2 ^ 63 + src)) 0 0 (u.core n).pc := by
  unfold State.takeInt
  dsimp only
  rw [core_modCore_self, core_modCore_self]
  split
  · exact ⟨s, counted_refl n s, _, _, rfl⟩
  · exact ⟨_, counted_count n s _ false _, _, _, rfl⟩

theorem takeInt_src (s : State) (n src : Nat) (t : Level) :
    ((s.takeInt n src t).src src).active = some n ∧ (srcEdge src = true → ((s.takeInt n src t).src src).pend = false) := by
  have hsrc : ∃ u : State, (s.takeInt n src t).src src = (u.irtAck n src).src src := by
    unfold State.takeInt
    exact ⟨_, rfl⟩
  obtain ⟨u, hu⟩ := hsrc
  rw [hu, State.irtAck, src_setSrc_self]
  exact ⟨rfl, fun h => if_pos h⟩

theorem counted_fields {n : Nat} {s u : State} (h : counted n s u) :
    (u.core n).lvl = (s.core n).lvl ∧ (u.core n).sec = (s.core n).sec ∧ (u.core n).pc = (s.core n).pc ∧
      (u.core n).dbg = (s.core n).dbg ∧ (u.core n).g = (s.core n).g := by
  obtain ⟨⟨cr, -, hcore⟩, -, -⟩ := h
  rw [hcore]
  exact ⟨rfl, rfl, rfl, rfl, rfl⟩

theorem answers_interrupt {s : State} {n : CoreNo} {src : Nat} {l : Level} (hb : s.atBoundary n = true)
    (hstep : (s.core n).stepDue = false) (herr : (s.core n).defErr = none) (hd : (s.core n).dbg = false)
    (hint : s.nextInt n = some (src, .take l)) :
    Answers (.interruptTaken n) s (fun t => (t.core n).lvl = l ∧ (t.core n).ie = false ∧ (t.core n).ss = false ∧
      (t.core n).cr (bankKey l (s.core n).sec 1) = (s.core n).pc &&& ~~~(3 : Word) ∧
      (t.core n).cr (bankKey l (s.core n).sec 3) = BitVec.ofNat 64 (2 ^ 63 + src) ∧
      (t.core n).pc = (s.core n).cr (bankKey l (s.core n).sec 0) + (if (s.core n).lvl = l then 0 else 0x200) + 0x100 ∧
      (t.src src).active = some n.val ∧ (srcEdge src = true → (t.src src).pend = false) ∧ (t.core n).g = (s.core n).g) := by
  have hdue : (s.atBoundary n && !(s.core n).stepDue && !(s.core n).defErr.isSome) = true := by rw [hb, hstep, herr]; rfl
  have hexec : exec (.interruptTaken n) s = .next (s.takeInt n src l) := by
    change execInterruptTaken n s = _
    rw [execInterruptTaken, if_pos hdue, hint]
  obtain ⟨hactive, hpend⟩ := takeInt_src s n src l
  obtain ⟨u, hu, x, y, hcore⟩ := takeInt_core (s := s) (n := n) src l
  obtain ⟨hlvl, hsec, hpc, hdbg, hg⟩ := counted_fields hu
  obtain ⟨-, hcr, -⟩ := hu
  have hvec : (u.core n).cr (bankKey l (s.core n).sec 0) = _ := hcr _ (bankKey_count _ _ (by decide))
  obtain ⟨h1, h2, h3, h4, h5, h6, h7⟩ := takeTrap_irq_facts ({ u.core n with offer := x, offerS := y } : Core) l
    (BitVec.ofNat 64 (2 ^ 63 + src)) (u.core n).pc (hdbg.trans hd)
  rw [← hcore] at h1 h2 h3 h4 h5 h6 h7
  change (_ : Core).cr (bankKey l (u.core n).sec 1) = _ at h4
  change (_ : Core).cr (bankKey l (u.core n).sec 3) = _ at h5
  change _ = (u.core n).cr (bankKey l (u.core n).sec 0) + (if (u.core n).lvl = l then 0 else 0x200) + 0x100 at h6
  rw [hsec] at h4 h5
  rw [hsec, hvec, hlvl] at h6
  exact ⟨_, hexec, h1, h2, h3, h4.trans (by rw [hpc]), h5, h6, hactive, hpend, h7.trans hg⟩

/-- Outside M's handling of one, an exception other than a machine check counts and takes its trap (03 R66, R100). -/
theorem raiseExc_takes {n : Nat} {s : State} (e : Exc) (npc : Word) (hm : ¬ ((s.core n).lvl = .m ∧ (s.core n).mcip = true))
    (hmc : e.mc = none) (hk : isMcheck e.cause = false) : ∃ u, counted n s u ∧ s.raiseExc n e npc = u.modCore n (fun c =>
      c.takeTrap (c.trapTarget e) false false (BitVec.ofNat 64 e.cause) e.info e.addr (if e.next then npc else c.pc)) := by
  have hno : ¬ ((s.core n).mcip = true ∧ ((s.core n).lvl = .m ∨ isMcheck e.cause = true)) := by
    rw [hk]
    rintro ⟨hmcip, hlvl | hfalse⟩
    · exact hm ⟨hlvl, hmcip⟩
    · exact Bool.false_ne_true hfalse
  unfold State.raiseExc
  dsimp only
  rw [if_neg hno, hmc, hk]
  dsimp only
  split
  · exact ⟨s, counted_refl n s, rfl⟩
  · exact ⟨_, counted_count n s _ false _, rfl⟩

theorem takeTrap_pending (c : Core) (t : Level) (irq mc : Bool) (ec info addr epc : Word) :
    (c.takeTrap t irq mc ec info addr epc).defErr = c.defErr ∧ (c.takeTrap t irq mc ec info addr epc).stepDue = c.stepDue := by
  unfold Core.takeTrap
  dsimp only
  split
  · exact ⟨by simp, by simp⟩
  · exact ⟨by simp, by simp⟩

/-- Raising an exception keeps the events that wait at the core. -/
theorem raiseExc_pending {n : Nat} {s : State} (e : Exc) (npc : Word) (hm : ¬ ((s.core n).lvl = .m ∧ (s.core n).mcip = true))
    (hmc : e.mc = none) (hk : isMcheck e.cause = false) :
    ((s.raiseExc n e npc).core n).defErr = (s.core n).defErr ∧ ((s.raiseExc n e npc).core n).stepDue = (s.core n).stepDue := by
  obtain ⟨u, ⟨⟨cr, -, hcore⟩, -, -⟩, hraise⟩ := raiseExc_takes e npc hm hmc hk
  rw [hraise, core_modCore_self, (takeTrap_pending ..).1, (takeTrap_pending ..).2, hcore]
  exact ⟨rfl, rfl⟩

theorem trapTarget_pending (c : Core) (d : Option DefErr) (sd : Bool) (e : Exc) :
    ({ c with defErr := d, stepDue := sd } : Core).trapTarget e = c.trapTarget e := rfl

/-- An event at a boundary leaves the core's list of events and takes its trap there (03 R66, R70, R94). -/
theorem event_trapped {n : Nat} {s : State} {f : Core → Core} {d : Option DefErr} {sd : Bool} {cause : Nat} {info addr npc : Word}
    (hf : f (s.core n) = { s.core n with defErr := d, stepDue := sd }) (hnpc : npc = (s.core n).pc) (hd : (s.core n).dbg = false)
    (hm : ¬ ((s.core n).lvl = .m ∧ (s.core n).mcip = true)) (hk : isMcheck cause = false) :
    let t := (s.modCore n f).raiseExc n ⟨cause, info, addr, true, false, none⟩ npc
    let l := (s.core n).trapTarget ⟨cause, 0, 0, true, false, none⟩
    trapped n l cause (s.core n).pc (s.core n) t ∧ (t.core n).cr (bankKey l (s.core n).sec 4) = addr ∧
      (t.core n).cr (bankKey l (s.core n).sec 5) = info ∧ (t.core n).defErr = d ∧ (t.core n).stepDue = sd := by
  subst hnpc
  intro t l
  have hcore : (s.modCore n f).core n = { s.core n with defErr := d, stepDue := sd } := (core_modCore_self ..).trans hf
  have hm' : ¬ (((s.modCore n f).core n).lvl = .m ∧ ((s.modCore n f).core n).mcip = true) := by rw [hcore]; exact hm
  obtain ⟨htrap, haddr, hinfo⟩ := raiseExc_trapped ⟨cause, info, addr, true, false, none⟩ (s.core n).pc (by rw [hcore]; exact hd) hm' rfl hk
  obtain ⟨hdef, hstep⟩ := raiseExc_pending ⟨cause, info, addr, true, false, none⟩ (s.core n).pc hm' rfl hk
  rw [hcore, trapTarget_pending, trapTarget_congr (s.core n) (e := ⟨cause, info, addr, true, false, none⟩)
    (e' := ⟨cause, 0, 0, true, false, none⟩) rfl rfl] at htrap haddr hinfo
  rw [hcore] at hdef hstep
  exact ⟨htrap, haddr, hinfo, hdef, hstep⟩

/-! Wakes (03 R72, 18 R464). -/

theorem domFence_core (s : State) (d f m : Nat) : (s.domFence d f).core m = s.core m := by
  unfold State.domFence
  split <;> rfl

theorem pwrWake_core (s : State) (d m : Nat) : ∃ b, (s.pwrWake d).core m = { s.core m with cleaning := b } := by
  unfold State.pwrWake
  split
  · split <;> exact ⟨_, rfl⟩
  · split
    · split
      · by_cases hm : m = d
        · subst hm
          exact ⟨false, (core_modCore_self ..).trans (by rw [domFence_core]; rfl)⟩
        · exact ⟨(s.core m).cleaning, (core_modCore_ne _ _ hm).trans (domFence_core ..)⟩
      · exact ⟨(s.core m).cleaning, domFence_core ..⟩
    · exact ⟨_, rfl⟩

theorem answers_wake {s : State} {n : CoreNo} (halive : s.alive = true) (hrun : (s.core n).run = .wfi) (hpair : s.pairStopped n = false)
    (hdom : s.domState n = 0) (hd : (s.core n).dbg = false) (hoff : (s.core n).offers.any (fun m => s.intAct n m true != .no) = true) :
    Answers (.wfiWake n) s (fun t => (t.core n).run = .run ∧ (t.core n).pc = (s.core n).pc + 4) := by
  have hwake : (s.alive && (s.core n).run == .wfi && !s.pairStopped n && decide (s.domState n ≤ 1) &&
      (s.core n).offers.any (fun m => s.intAct n m true != .no)) = true := by
    rw [halive, hrun, hpair, hdom, hoff]
    rfl
  have hexec : exec (.wfiWake n) s = _ := if_pos hwake
  obtain ⟨b, hb⟩ := pwrWake_core (((s.modCore n (fun c => { c with run := .run })).retireInsn n (s.core n) ((s.core n).pc + 4) false [])) n n
  have hdbg : ((s.modCore n (fun c => { c with run := .run })).core n).dbg = false := by rw [core_modCore_self]; exact hd
  obtain ⟨⟨cr, hcore⟩, -, -, -⟩ := retire_core (s.core n) ((s.core n).pc + 4) false [] hdbg
  rw [hcore, core_modCore_self] at hb
  exact ⟨_, hexec, (congrArg Core.run hb :), (congrArg Core.pc hb :)⟩

theorem answers_offer {s : State} {n : CoreNo} (halive : s.alive = true) (hrun : (s.core n).run = .run) (hdom : s.domState n = 0) :
    Answers (.irqOffer n) s (fun t => (t.core n).offer = s.bestSrc n false ∧ (t.core n).offerS = s.bestSrc n true) := by
  have hstopped : ¬ ((s.core n).run = .held ∨ (s.core n).run = .resetting ∨ (s.core n).run = .stopped ∨ s.domState n = 4) := by
    rw [hrun, hdom]
    decide
  have hasleep : ¬ 2 ≤ s.domState n := by rw [hdom]; decide
  cases hnone : (s.bestSrc n false).isNone && (s.bestSrc n true).isNone with
  | true =>
    have hexec : exec (.irqOffer n) s = .next (s.setCore n { s.core n with offer := none, offerS := none }) := by
      change execIrqOffer n s = _
      rw [execIrqOffer, if_neg (by rw [halive]; decide)]
      exact if_pos hnone
    obtain ⟨ha, hb⟩ := (Bool.and_eq_true _ _).mp hnone
    rw [Option.isNone_iff_eq_none] at ha hb
    refine ⟨_, hexec, ?_⟩
    beta_reduce
    rw [core_setCore_self, ha, hb]
    exact ⟨rfl, rfl⟩
  | false =>
    have hexec : exec (.irqOffer n) s = .next (((s.setCore n { s.core n with offer := s.bestSrc n false, offerS := s.bestSrc n true }).noteGroup
        (s.bestSrc n false) n).noteGroup (s.bestSrc n true) n) := by
      change execIrqOffer n s = _
      rw [execIrqOffer, if_neg (by rw [halive]; decide)]
      dsimp only
      rw [if_neg (ne_true_of_eq_false hnone), if_neg hstopped, if_neg hasleep]
    refine ⟨_, hexec, ?_⟩
    beta_reduce
    rw [noteGroup_core, noteGroup_core, core_setCore_self]
    exact ⟨rfl, rfl⟩

/-- Settles O20, event by event. -/
theorem eventsAtACore : Obligations.EventsAtACore := by
  unfold Obligations.EventsAtACore
  refine ⟨?_, fun s n src l hb hstep herr hd hint => answers_interrupt hb hstep herr hd hint, ?_, ?_, ?_, ?_⟩
  · intro s n halive hrun hdom
    exact answers_offer halive hrun hdom
  · intro s n d hb hstep hd herr hm
    have hdue : (s.atBoundary n && !(s.core n).stepDue && (s.core n).defErr.isSome) = true := by rw [hb, hstep, herr]; rfl
    have hexec : exec (.deferredBuserr n) s = .next (s.takeDeferred n) := if_pos hdue
    obtain ⟨htrap, haddr, hinfo, hdef, -⟩ := event_trapped (f := fun c => { c with defErr := none })
      (info := BitVec.ofNat 64 (d.status + 0x10000 + 0x40000 + min 15 d.dovf * 2 ^ 19)) (addr := d.va) (cause := xBUSERR)
      rfl (congrArg Core.pc (core_modCore_self s n (fun c => { c with defErr := none })) :) hd hm (by decide)
    rw [State.takeDeferred, herr] at hexec
    exact ⟨_, hexec, htrap, hdef, haddr, hinfo⟩
  · intro s n hb hstep hd hm
    have hdue : (s.atBoundary n && (s.core n).stepDue) = true := by rw [hb, hstep]; rfl
    have hexec : exec (.singleStepTrap n) s = .next (s.takeStep n) := if_pos hdue
    obtain ⟨htrap, -, -, -, hsd⟩ := event_trapped (f := fun c => { c with stepDue := false }) (info := 0) (addr := 0) (cause := xSTEP)
      rfl (congrArg Core.pc (core_modCore_self s n (fun c => { c with stepDue := false })) :) hd hm (by decide)
    exact ⟨_, hexec, htrap, hsd⟩
  · intro s n e r hstq
    have hexec : exec (.storeStatusReturn n) s = .next (s.modCore n (fun c => ({ c with stq := r }).storeError e)) := by
      change execStoreStatusReturn n s = _
      rw [execStoreStatusReturn, hstq]
    refine ⟨_, hexec, ?_⟩
    beta_reduce
    rw [core_modCore_self]
    unfold Core.storeError
    cases (s.core n).defErr <;> exact ⟨rfl, rfl⟩
  · intro s n halive hrun hpair hdom hd hoff
    exact answers_wake halive hrun hpair hdom hd hoff

end Sys2Proof.Machine
end

section
/-! O57: what the end of a core's reset and its release leave. -/
namespace Sys2Proof.Machine
open Sys2Proof

/-! Registers outside a block keep their value where the block is reset (00 R3). -/

theorem kfind_filter {α : Type} {p : Nat → Bool} {k : Nat} (hk : p k = true) (l : List (Nat × α)) :
    kfind k (l.filter (fun e => p e.1)) = kfind k l := by
  induction l with
  | nil => rfl
  | cons e l ih =>
    obtain ⟨a, v⟩ := e
    by_cases ha : a = k
    · subst ha
      rw [List.filter_cons_of_pos (p := fun e : Nat × α => p e.1) hk, kfind, kfind, if_pos rfl, if_pos rfl]
    · rw [kfind, if_neg ha, List.filter_cons]
      split
      · rw [kfind, if_neg ha, ih]
      · exact ih

theorem KMap.getD_keep {α : Type} (m : KMap α) {p : Nat → Bool} {k : Nat} (hk : p k = true) (d : α) : (m.keep p).getD k d = m.getD k d := by
  unfold KMap.getD KMap.get? KMap.keep
  rw [kfind_filter hk]

theorem rg_resetBlk_of_not_inBlk (s : State) {b : Blk} {x : Nat} {k : RegKind} {y i j : Nat} (h : inBlk b x (k.addr y i j) = false) :
    (s.resetBlk b x).rg k y i j = s.rg k y i j :=
  KMap.getD_keep s.regs (by rw [h]; rfl) _

theorem not_inBlk_core_of_lt {off : Nat} (n : Nat) (h : off < 0x40000000) : inBlk .core n off = false := by
  have hbase : ¬ Blk.base .core n ≤ off := by
    rw [Blk.base]
    omega
  rw [inBlk, decide_eq_false hbase, Bool.false_and]

theorem start_addr (n : Nat) : RegKind.C_START.addr n = 0x40000008 + n / 18 * 0x2000000 + n % 18 * 0x100000 := by
  have h : RegKind.C_START.addr n = 0x40000000 + n / 18 * 0x2000000 + n % 18 * 0x100000 + 0x8 + 0 * 0 + 0 * 0 := rfl
  omega

theorem coreNode_lt {n : Nat} (h : n < 216) : coreNode n < 0xC00 := by
  unfold coreNode
  omega

theorem agent_ne_start {node : Nat} (h : node < 0x1000) (n : Nat) :
    RegKind.C_START.addr n ≠ RegKind.NOC_AGENT.addr 0 (node / 256) (node % 256) := by
  rw [agentRecord_addr, start_addr]
  omega

theorem agent_ne {k : RegKind} {x : Nat} {node : Nat} (h : RegKind.addr k x < 0x208000 ∨ 0x208000 + 8 * 0x1000 ≤ RegKind.addr k x)
    (hnode : node < 0x1000) : RegKind.addr k x ≠ RegKind.NOC_AGENT.addr 0 (node / 256) (node % 256) := by
  rw [agentRecord_addr]
  omega

theorem rg_nodeResetEnd (s : State) {k : RegKind} {x node : Nat} (h : RegKind.addr k x ≠ RegKind.NOC_AGENT.addr 0 (node / 256) (node % 256)) :
    (s.nodeResetEnd node).rg k x = s.rg k x := by
  rw [State.nodeResetEnd, State.setFence, State.bumpGen, rg_setFd_ne _ _ _ _ _ _ _ _ _ _ _ h, rg_setFd_ne _ _ _ _ _ _ _ _ _ _ _ h]

theorem nodeResetEnd_agent (s : State) (node : Nat) :
    (s.nodeResetEnd node).fence node = 0 ∧ (s.nodeResetEnd node).genOf node = (s.genOf node + 1) % 16 := by
  constructor
  · exact (fd_setFd_self _ _ _ _ _ _ _ (by decide)).trans (Nat.zero_mod _)
  · have h := fd_setFd_disjoint (s.bumpGen node) .NOC_AGENT NOC_AGENT.FENCE NOC_AGENT.GEN 0 0 (node / 256) (node % 256) (by decide) (by decide)
    refine h.trans ((fd_setFd_self _ _ _ _ _ _ _ (by decide)).trans ?_)
    exact Nat.mod_mod _ _

/-- A register low in the space, other than an agent record, reads as before at the end of a core's reset. -/
theorem rg_coreEndReset (s : State) {n x : Nat} (hn : n < 216) {k : RegKind}
    (hk : RegKind.addr k x < 0x208000 ∨ 0x208000 + 8 * 0x1000 ≤ RegKind.addr k x) (hlow : RegKind.addr k x < 0x40000000) :
    (s.coreEndReset n).rg k x = s.rg k x := by
  have hnode := coreNode_lt hn
  rw [State.coreEndReset, rg_nodeResetEnd _ (agent_ne hk (by omega)), rg_resetBlk_of_not_inBlk _ (not_inBlk_core_of_lt n hlow)]
  rfl

/-- The end of a core's reset (03 R58, 09 R252). -/
theorem coreEndReset_facts (s : State) {n : Nat} (hn : n < 216) :
    (s.coreEndReset n).core n = Core.reset ∧ (s.coreEndReset n).fence (coreNode n) = 0 ∧
      (s.coreEndReset n).genOf (coreNode n) = (s.genOf (coreNode n) + 1) % 16 := by
  obtain ⟨hfence, hgen⟩ := nodeResetEnd_agent ((s.setCore n Core.reset).resetBlk .core n) (coreNode n)
  have hnode := coreNode_lt hn
  have hlow : RegKind.NOC_AGENT.addr 0 (coreNode n / 256) (coreNode n % 256) < 0x40000000 := by
    rw [agentRecord_addr]
    omega
  have hgenOf : ((s.setCore n Core.reset).resetBlk .core n).genOf (coreNode n) = s.genOf (coreNode n) := by
    rw [State.genOf, State.fd, rg_resetBlk_of_not_inBlk _ (not_inBlk_core_of_lt n hlow)]
    rfl
  rw [hgenOf] at hgen
  exact ⟨core_setCore_self s n Core.reset, hfence, hgen⟩

theorem alive_coreEndReset {s : State} {n : Nat} (hn : n < 216) (h : s.alive = true) : (s.coreEndReset n).alive = true := by
  have hrg : (s.coreEndReset n).rg .PWR_STATUS = s.rg .PWR_STATUS := rg_coreEndReset s hn (by decide) (by decide)
  have hfd : (s.coreEndReset n).fd .PWR_STATUS PWR_STATUS.PKG = s.fd .PWR_STATUS PWR_STATUS.PKG := congrArg (getF · PWR_STATUS.PKG) hrg
  rw [State.alive, hfd]
  exact h

theorem dieHolding_coreEndReset {s : State} {n : Nat} (hn : n < 216) (h : s.dieHolding n = false) : (s.coreEndReset n).dieHolding n = false := by
  have hsite : (s.coreEndReset n).rg .D2D_SITE (n / 18) = s.rg .D2D_SITE (n / 18) := by
    have haddr : RegKind.D2D_SITE.addr (n / 18) = Blk.base .dd2d (n / 18) + RegKind.D2D_SITE.spec.off + 0 * RegKind.D2D_SITE.spec.s1 + 0 * RegKind.D2D_SITE.spec.s2 := rfl
    rw [Blk.base, show RegKind.D2D_SITE.spec.off = 0 from rfl] at haddr
    exact rg_coreEndReset s hn (by omega) (by omega)
  have hboot : (s.coreEndReset n).rg .BOOT_STATUS = s.rg .BOOT_STATUS := rg_coreEndReset s hn (by decide) (by decide)
  have hfsite : (s.coreEndReset n).fb .D2D_SITE D2D_SITE.CODE_OK (n / 18) = s.fb .D2D_SITE D2D_SITE.CODE_OK (n / 18) :=
    congrArg (fun w => getF w D2D_SITE.CODE_OK != 0) hsite
  have hfboot : (s.coreEndReset n).fb .BOOT_STATUS BOOT_STATUS.STOPPED = s.fb .BOOT_STATUS BOOT_STATUS.STOPPED :=
    congrArg (fun w => getF w BOOT_STATUS.STOPPED != 0) hboot
  rw [State.dieHolding, hfsite, hfboot]
  exact h

/-- Where nothing is left to drain or to write back, the reset ends at once. -/
theorem exec_coreResetDone {s : State} {n : CoreNo} (halive : s.alive = true) (hrun : (s.core n).run = .resetting)
    (hdie : s.dieHolding n = false) (hsb : (s.core n).sbuf = []) (hl2 : (s.core n).l2.l = []) :
    exec (.coreResetDone n) s = .next ((s.modCore n (fun c => { c with l1d := .empty })).coreEndReset n) := by
  have hgo : (s.alive && (s.core n).run == .resetting && !s.dieHolding n) = true := by rw [halive, hrun, hdie]; rfl
  have hclean : s.coreCleanInv n = s.modCore n (fun c => { c with l1d := .empty }) := by
    rw [State.coreCleanInv, hl2]
    rfl
  have hempty : (((s.coreCleanInv n).core n).l2.l.isEmpty) = true := by
    rw [hclean, core_modCore_self, hl2]
    rfl
  change execCoreResetDone n s = _
  rw [execCoreResetDone, if_pos hgo, sbDrain_empty hsb]
  dsimp only
  rw [if_neg (by decide), if_pos hempty, hclean]

/-! Release (03 R96). -/

theorem domNode_lt {d node : Nat} (h : domNode d = some node) : node < 0x1000 := by
  unfold domNode coreNode hbNode hubNode at h
  split_ifs at h <;> simp only [Option.some.injEq] at h <;> omega

/-- A wake may open the fence of the domain's node and changes no other register. -/
theorem rg_start_pwrWake (s : State) (d n : Nat) : (s.pwrWake d).rg .C_START n = s.rg .C_START n := by
  have hfence : ∀ (u : State), (u.domFence d 0).rg .C_START n = u.rg .C_START n := by
    intro u
    unfold State.domFence
    split
    case h_1 node hnode => exact rg_setFd_ne _ _ _ _ _ _ _ _ _ _ _ (agent_ne_start (domNode_lt hnode) n)
    case h_2 => rfl
  unfold State.pwrWake
  split
  · split <;> rfl
  · split
    · split <;> exact hfence _
    · rfl

theorem exec_coreRelease {s : State} {n : CoreNo} (halive : s.alive = true) (hrun : (s.core n).run = .held) (hdie : s.dieHolding n = false) :
    exec (.coreRelease n) s = .next ((s.modCore n (fun c =>
      { c with run := .run, release := true, pc := s.rg .C_START n &&& 0xFFFFFFFFFFFFFC })).pwrWake n) := by
  change execCoreRelease n s = _
  rw [execCoreRelease, if_pos halive, State.coreReleaseOp, if_pos ⟨hrun, by rw [hdie]; rfl⟩]

theorem released_core (s : State) (n : Nat) : ∃ b, ((s.modCore n (fun c =>
    { c with run := .run, release := true, pc := s.rg .C_START n &&& 0xFFFFFFFFFFFFFC })).pwrWake n).core n =
      { s.core n with run := .run, release := true, pc := s.rg .C_START n &&& 0xFFFFFFFFFFFFFC, cleaning := b } := by
  obtain ⟨b, hb⟩ := pwrWake_core (s.modCore n (fun c =>
    { c with run := .run, release := true, pc := s.rg .C_START n &&& 0xFFFFFFFFFFFFFC })) n n
  rw [core_modCore_self] at hb
  exact ⟨b, hb⟩

/-- What a program reads of a core in its reset state. -/
theorem reset_reads : (∀ r : BitVec 5, Core.reset.rg r = 0) ∧ (∀ r : BitVec 3, r ≠ 0 → Core.reset.rp r = false) ∧
    Core.reset.lvl = .m ∧ Core.reset.sec = true ∧ Core.reset.ie = false ∧ (∀ k : Nat, Core.reset.cr k = 0) ∧
    (∀ r, Core.reset.rv r = 0) ∧ (∀ r, Core.reset.ra r = 0) := by
  refine ⟨fun r => ?_, ?_, rfl, rfl, rfl, fun _ => rfl, fun r => ?_, fun r => ?_⟩
  · simp [Core.rg, Core.reset]
  · decide
  · simp [Core.rv, Core.reset]
  · simp [Core.ra, Core.reset]

/-- Settles O57: the core is `Core.reset`, of which the release changes what starts it. -/
theorem coreResetState : Obligations.CoreResetState := by
  unfold Obligations.CoreResetState
  intro n s halive hrun hdie hsb hl2
  have hdone := exec_coreResetDone halive hrun hdie hsb hl2
  obtain ⟨hcore, -, -⟩ := coreEndReset_facts (s.modCore n (fun c => { c with l1d := .empty })) n.isLt
  have hrel := exec_coreRelease (s := (s.modCore n (fun c => { c with l1d := .empty })).coreEndReset n) (n := n)
    (alive_coreEndReset n.isLt halive) (by rw [hcore]; rfl) (dieHolding_coreEndReset n.isLt hdie)
  obtain ⟨b, hb⟩ := released_core ((s.modCore n (fun c => { c with l1d := .empty })).coreEndReset n) n
  rw [hcore] at hb
  refine ⟨_, _, hdone, hrel, ?_, ?_, ?_⟩
  · rw [hb, rg_start_pwrWake]
    rfl
  · rw [hb]
  · rintro c (rfl | rfl)
    · rw [hcore]
      exact reset_reads
    · rw [hb]
      exact reset_reads

end Sys2Proof.Machine
end

section
/-! O10: MFC and MTC. -/
namespace Sys2Proof.Machine
open Sys2Proof

theorem exec_mtc {i : Instr} {o : RRI} {num : BitVec 12} {s s1 : State} (hexec : exec i s = s.mtcInsn o num)
    (hw : wordOf i = wRRI 0x3A { o with imm := num }) (h : Runs i o.core o.pred o.pn s s1)
    (hpre : cregPre num.toNat true (s1.core o.core) = none) :
    exec i s = s.mtcBody o.core num.toNat ((s1.core o.core).rg o.d) (s1.core o.core) s1 :=
  exec_eq_body (k := ⟨o.core, o.pred, o.pn, wRRI 0x3A { o with imm := num }, cregPre num.toNat true⟩)
    (body := fun c s1 => s.mtcBody o.core num.toNat (c.rg o.d) c s1) hexec hw h hpre

/-! What an MTC does once it is issued (03 R59, 07 R200, R201, 17 R457). -/

section
variable {s0 s : State} {n num : Nat} {w : Word} {c : Core} (hwait : c.wait = .none)
include hwait

theorem mtcBody_write (hop : num ≠ 0x092) (heoi : num ≠ 0x0D4) (hen : c.changesEnables num w = false) :
    s0.mtcBody n num w c s = .next ((s.retireInsn n c (c.pc + 4) false []).modCore n (fun c => c.mtcWrite num w)) := by
  rw [State.mtcBody, hwait]
  dsimp only
  rw [if_neg hop, if_neg heoi, if_neg (ne_true_of_eq_false hen)]

theorem mtcBody_enables (hop : num ≠ 0x092) (heoi : num ≠ 0x0D4) (hen : c.changesEnables num w = true) (hopen : c.openW = 0)
    (hsb : (s.core n).sbuf = []) (hreqs : ∀ q ∈ (s.die (n / 18)).reqs, q.core ≠ n) :
    s0.mtcBody n num w c s = .next (((s.modCore n Core.drainStores).retireInsn n c (c.pc + 4) false []).modCore n
      (fun c => c.mtcWrite num w)) := by
  have hany : (s.die (n / 18)).reqs.any (fun q => q.core == n) = false :=
    List.any_eq_false.mpr (fun q hq => by simpa using hreqs q hq)
  rw [State.mtcBody, hwait]
  dsimp only
  rw [if_neg hop, if_neg heoi, if_pos hen, sbDrain_empty hsb, hopen, hany]
  rfl

theorem mtcBody_eoi : s0.mtcBody n 0x0D4 w c s = .next ((s.retireInsn n c (c.pc + 4) false []).irtEoi n (w.toNat % 4096) c.sec) := by
  rw [State.mtcBody, hwait]
  rfl

theorem mtcBody_invL1i (h0 : bitAt w 0 = false) (h1 : bitAt w 1 = true) :
    s0.mtcBody n 0x092 w c s = (s.modCore n Core.dropL1i).done n c [] := by
  rw [State.mtcBody, hwait]
  dsimp only
  rw [if_pos rfl, if_pos h1, if_neg (ne_true_of_eq_false h0)]

theorem mtcBody_cleanInv (h0 : bitAt w 0 = true) (hsb : (s.core n).sbuf = []) :
    ∃ u : State, s0.mtcBody n 0x092 w c s = .next (u.modCore n (fun c => { c with wait := .cleaninv, cleaning := true })) := by
  have hdrain : (if bitAt w 1 then s.modCore n Core.dropL1i else s).sbDrain n = (true, if bitAt w 1 then s.modCore n Core.dropL1i else s) := by
    apply sbDrain_empty
    split
    · rw [core_modCore_self]
      exact hsb
    · exact hsb
  refine ⟨(if bitAt w 1 then s.modCore n Core.dropL1i else s).coreCleanInv n, ?_⟩
  rw [State.mtcBody, hwait]
  dsimp only
  rw [if_pos rfl, if_pos h0, hdrain]
  rfl

end

/-- MTC to a register that is no operation leaves the core as the register's write does. -/
theorem answers_mtc {i : Instr} {o : RRI} {num : BitVec 12} {s s1 : State} (hexec : exec i s = s.mtcInsn o num)
    (hw : wordOf i = wRRI 0x3A { o with imm := num }) (h : Runs i o.core o.pred o.pn s s1)
    (hpre : cregPre num.toNat true (s1.core o.core) = none) (hop : num.toNat ≠ 0x092) (heoi : num.toNat ≠ 0x0D4)
    (hwait : (s1.core o.core).wait = .none)
    (hen : (s1.core o.core).changesEnables num.toNat ((s1.core o.core).rg o.d) = true → (s1.core o.core).openW = 0 ∧
      (s1.core o.core).sbuf = [] ∧ ∀ q ∈ (s1.die (o.core / 18)).reqs, q.core ≠ o.core) :
    Answers i s (fun t => ∃ u : State, endsAs o.core (s1.core o.core) ((s1.core o.core).pc + 4) s1 u ∧
      t = u.modCore o.core (fun c => c.mtcWrite num.toNat ((s1.core o.core).rg o.d))) := by
  have hrun := exec_mtc hexec hw h hpre
  cases hch : (s1.core o.core).changesEnables num.toNat ((s1.core o.core).rg o.d) with
  | false =>
    rw [mtcBody_write hwait hop heoi hch] at hrun
    exact ⟨_, hrun, _, (unseen_refl o.core s1).endsAs_done _ h.dbg [], rfl⟩
  | true =>
    obtain ⟨hopen, hsb, hreqs⟩ := hen hch
    rw [mtcBody_enables hwait hop heoi hch hopen hsb hreqs] at hrun
    exact ⟨_, hrun, _, (unseen_drainStores o.core s1).endsAs_done _ h.dbg [], rfl⟩

theorem answers_cacheop {i : Instr} {o : RRI} {s s1 : State} (hexec : exec i s = s.mtcInsn o 0x092)
    (hw : wordOf i = wRRI 0x3A { o with imm := 0x092 }) (h : Runs i o.core o.pred o.pn s s1)
    (hpre : cregPre 0x092 true (s1.core o.core) = none) (hwait : (s1.core o.core).wait = .none) :
    (bitAt ((s1.core o.core).rg o.d) 0 = true → (s1.core o.core).sbuf = [] →
      Answers i s (fun t => (t.core o.core).wait = .cleaninv ∧ (t.core o.core).cleaning = true)) ∧
    (bitAt ((s1.core o.core).rg o.d) 0 = false → bitAt ((s1.core o.core).rg o.d) 1 = true →
      Answers i s (fun t => (t.core o.core).l1i = KMap.empty ∧
        endsAs o.core (s1.core o.core) ((s1.core o.core).pc + 4) s1 t)) := by
  have hrun := exec_mtc hexec hw h hpre
  constructor
  · intro h0 hsb
    obtain ⟨u, hu⟩ := mtcBody_cleanInv (s0 := s) (s := s1) (n := o.core) hwait h0 hsb
    refine ⟨_, hrun.trans hu, ?_⟩
    beta_reduce
    rw [core_modCore_self]
    exact ⟨rfl, rfl⟩
  · intro h0 h1
    have hu : unseen o.core s1 (s1.modCore o.core Core.dropL1i) := unseen_modCore (sameSeen_refl _) rfl rfl
    refine ⟨_, hrun.trans (mtcBody_invL1i hwait h0 h1), ?_, hu.endsAs_done _ h.dbg []⟩
    obtain ⟨⟨cr, hcore⟩, -, -, -⟩ := retire_core (s1.core o.core) ((s1.core o.core).pc + 4) false [] (hu.2.2.1.trans h.dbg)
    refine (congrArg Core.l1i hcore).trans ?_
    rw [core_modCore_self]
    rfl

theorem irtEoi_core (s : State) (core n m : Nat) (sec : Bool) : (s.irtEoi core n sec).core m = s.core m := by
  unfold State.irtEoi
  split <;> rfl

/-- MTC to C_IEOI by the core at which the source is active, in its world (17 R457). -/
theorem answers_ieoi {o : RRI} {s s1 : State} (h : Runs (.ieoi o) o.core o.pred o.pn s s1)
    (hpre : cregPre 0x0D4 true (s1.core o.core) = none) (hwait : (s1.core o.core).wait = .none)
    (hactive : (s1.src (((s1.core o.core).rg o.d).toNat % 4096)).active = some o.core.val)
    (hsec : s1.fb .IRT_SRC IRT_SRC.SEC 0 (((s1.core o.core).rg o.d).toNat % 4096) = (s1.core o.core).sec) :
    Answers (.ieoi o) s (fun t => (t.src (((s1.core o.core).rg o.d).toNat % 4096)).active = none ∧
      (t.src (((s1.core o.core).rg o.d).toNat % 4096)).pend = (s1.src (((s1.core o.core).rg o.d).toNat % 4096)).pend ∧
      (t.core o.core).pc = (s1.core o.core).pc + 4) := by
  have hrun := exec_mtc (show exec (.ieoi o) s = s.mtcInsn o 0x0D4 from rfl) rfl h hpre
  obtain ⟨⟨cr, hcore⟩, -, -, hst⟩ := retire_core (s1.core o.core) ((s1.core o.core).pc + 4) false [] h.dbg
  have hsrc : ∀ k, (s1.retireInsn o.core (s1.core o.core) ((s1.core o.core).pc + 4) false []).src k = s1.src k := fun k => by rw [hst]; rfl
  have hfb : ∀ k, (s1.retireInsn o.core (s1.core o.core) ((s1.core o.core).pc + 4) false []).fb .IRT_SRC IRT_SRC.SEC 0 k =
      s1.fb .IRT_SRC IRT_SRC.SEC 0 k := fun k => by rw [hst]; rfl
  have heoi := mtcBody_eoi (s0 := s) (s := s1) (n := o.core) (w := (s1.core o.core).rg o.d) hwait
  have hdone : (s1.retireInsn o.core (s1.core o.core) ((s1.core o.core).pc + 4) false []).irtEoi o.core
      (((s1.core o.core).rg o.d).toNat % 4096) (s1.core o.core).sec =
      (s1.retireInsn o.core (s1.core o.core) ((s1.core o.core).pc + 4) false []).setSrc (((s1.core o.core).rg o.d).toNat % 4096)
        { s1.src (((s1.core o.core).rg o.d).toNat % 4096) with active := none } := by
    rw [State.irtEoi, hsrc, hfb, if_pos ⟨hactive, hsec⟩]
  refine ⟨_, hrun.trans heoi, ?_, ?_, ?_⟩
  · rw [hdone, src_setSrc_self]
  · rw [hdone, src_setSrc_self]
  · rw [irtEoi_core, hcore]

/-- Settles O10. -/
theorem specialRegisterAccess : Obligations.SpecialRegisterAccess := by
  unfold Obligations.SpecialRegisterAccess
  refine ⟨?_, ?_, ?_, fun o s s1 h hpre hwait hactive hsec => answers_ieoi h hpre hwait hactive hsec, ?_⟩
  · intro o s s1 h hpre hd
    have hrun := exec_eq_body (k := ⟨o.core, o.pred, o.pn, wRRI 0x39 o, cregPre o.imm.toNat false⟩)
      (show exec (.mfc o) s = execMfc o s from rfl) rfl h hpre
    exact ⟨_, hrun, done_wroteG _ _ o.d _ [] hd⟩
  · simp only [List.forall_mem_cons, List.not_mem_nil, false_imp_iff, implies_true, and_true]
    refine ⟨?_, ?_, ?_, ?_, ?_⟩
    · exact fun o s s1 h hpre hop heoi hwait hen =>
        answers_mtc (show exec (.mtc o) s = s.mtcInsn o o.imm from rfl) rfl h hpre hop heoi hwait hen
    · exact fun o s s1 h hpre hop heoi hwait hen =>
        answers_mtc (show exec (.cacheEnableChange o) s = s.mtcInsn o 0x090 from rfl) rfl h hpre hop heoi hwait hen
    · exact fun o s s1 h hpre hop heoi hwait hen =>
        answers_mtc (show exec (.accstWrite o) s = s.mtcInsn o 0x0C2 from rfl) rfl h hpre hop heoi hwait hen
    · exact fun o s s1 h hpre hop heoi hwait hen =>
        answers_mtc (show exec (.prinvItt o) s = s.mtcInsn o 0x081 from rfl) rfl h hpre hop heoi hwait hen
    · exact fun o s s1 h hpre hop heoi hwait hen =>
        answers_mtc (show exec (.prinvRs o) s = s.mtcInsn o 0x081 from rfl) rfl h hpre hop heoi hwait hen
  · simp only [List.forall_mem_cons, List.not_mem_nil, false_imp_iff, implies_true, and_true]
    exact ⟨fun o s s1 h hpre hwait => answers_cacheop (show exec (.cacheopCleaninv o) s = s.mtcInsn o 0x092 from rfl) rfl h hpre hwait,
      fun o s s1 h hpre hwait => answers_cacheop (show exec (.cacheopInvl1i o) s = s.mtcInsn o 0x092 from rfl) rfl h hpre hwait⟩
  · intro c w
    exact cr_setCr_self c 0x0C2 _

end Sys2Proof.Machine
end

section
/-! Accesses of a core to lines that its own L2 holds: translation that is off, arrays without an error, and what the L1D does
beside. -/
namespace Sys2Proof.Machine
open Sys2Proof

/-! Maps. -/

theorem kfind_filter_not {α : Type} {p : Nat → Bool} {k : Nat} (hk : p k = false) (l : List (Nat × α)) :
    kfind k (l.filter (fun e => p e.1)) = none := by
  induction l with
  | nil => rfl
  | cons e l ih =>
    obtain ⟨a, v⟩ := e
    rw [List.filter_cons]
    split
    · rename_i ha
      have hne : a ≠ k := by
        rintro rfl
        exact Bool.false_ne_true (hk.symm.trans ha)
      rw [kfind, if_neg hne, ih]
    · exact ih

theorem KMap.get?_erase_self {α : Type} (m : KMap α) (k : Nat) : (m.erase k).get? k = none :=
  kfind_filter_not (p := fun a => a != k) (by simp) m.l

theorem KMap.get?_erase_ne {α : Type} (m : KMap α) {j k : Nat} (h : j ≠ k) : (m.erase k).get? j = m.get? j :=
  kfind_filter (p := fun a => a != k) (by simpa using h) m.l

/-! Translation that is off (08 R212, R213). -/

theorem gov_of_empty {s : State} {n : Nat} (h : (s.core n).creg60 = KMap.empty) (key : Nat) : s.gov n key = ((s.core n).cr key, s) := by
  rw [State.gov, h]
  rfl

/-- Where no stage is on, the regime of a core is read without a free choice. -/
theorem regime_flat {s : State} {n : Nat} (h : flat (s.core n)) :
    ∃ g : Regime, s.regime n = (g, s) ∧ g.s1 = none ∧ g.s2 = none ∧ g.sec = (s.core n).dbgSec := by
  obtain hm | ⟨hempty, hh, hk⟩ := h
  · exact ⟨_, by rw [State.regime, hm], rfl, rfl, rfl⟩
  · have hgov := gov_of_empty hempty
    cases hl : (s.core n).lvl with
    | m => exact ⟨_, by rw [State.regime, hl], rfl, rfl, rfl⟩
    | h => exact ⟨_, by rw [State.regime, hl]; simp only [hgov, hh hl]; rfl, rfl, rfl, rfl⟩
    | u =>
      obtain ⟨h1, h2⟩ := hk (.inl hl)
      cases hs : (s.core n).sec with
      | true =>
        rw [hs] at h1
        exact ⟨_, by rw [State.regime, hl]; simp only [hs, hgov, h1]; rfl, rfl, rfl, rfl⟩
      | false =>
        rw [hs] at h1
        exact ⟨_, by rw [State.regime, hl]; simp only [hs, hgov, h1, h2 hs]; rfl, rfl, rfl, rfl⟩
    | k =>
      obtain ⟨h1, h2⟩ := hk (.inr hl)
      cases hs : (s.core n).sec with
      | true =>
        rw [hs] at h1
        exact ⟨_, by rw [State.regime, hl]; simp only [hs, hgov, h1]; rfl, rfl, rfl, rfl⟩
      | false =>
        rw [hs] at h1
        exact ⟨_, by rw [State.regime, hl]; simp only [hs, hgov, h1, h2 hs]; rfl, rfl, rfl, rfl⟩

theorem region_dram {a : Nat} (h : a < 0x400000000000) : region a = .dram := if_pos h

/-- The address is its own output, and memory there is normal coherent. -/
theorem translate_flat {s : State} {n : Nat} (h : flat (s.core n)) {va : Word} (hva : va.toNat < 0x400000000000) :
    ∃ g : Regime, s.regime n = (g, s) ∧ ∀ nd (t : State), t.translate g nd va = (.ok ⟨va.toNat, 0, (s.core n).dbgSec⟩, t) := by
  obtain ⟨g, hg, h1, h2, hsec⟩ := regime_flat h
  refine ⟨g, hg, fun nd t => ?_⟩
  have hcanon : canonical g va = true := by
    have hdiv : va.toNat / 2 ^ 56 = 0 := Nat.div_eq_of_lt (by omega)
    rw [canonical, h1, hdiv]
    rfl
  have hmod : va.toNat % 2 ^ 56 = va.toNat := Nat.mod_eq_of_lt (by omega)
  have htype : rangeType va.toNat = 0 := by
    unfold rangeType
    rw [region_dram hva]
  rw [State.translate, hcanon, h1, h2, hmod, hsec]
  dsimp only
  rw [htype]
  rfl

theorem foldX_dram (s : State) {pa mt : Nat} {sec : Bool} (h : pa < 0x400000000000) : s.foldX ⟨pa, mt, sec⟩ = ⟨pa, mt, sec⟩ := by
  have hfold : s.fold pa = pa := by
    rw [State.fold, region_dram h]
    exact if_neg (fun hc => by cases hc.1)
  simp only [State.foldX, hfold]

/-! Arrays whose entries have no bit in error (07 R211). -/

theorem upsets_expose_ne (s : State) {j k : Nat} (h : j ≠ k) : (s.expose k).upsets.get? j = s.upsets.get? j :=
  KMap.get?_set_ne s.upsets s.fresh h

theorem readEntry_sound {s : State} {key : Nat} (h : s.upsets.get? key = none) : s.readEntry key = (0, s.expose key) := by
  rw [State.readEntry, State.upsetOf, h]

theorem cacheCheck_sound {s : State} {tagKey dataKey : Nat} (hne : dataKey ≠ tagKey) (htag : s.upsets.get? tagKey = none)
    (hdata : s.upsets.get? dataKey = none) (bank k1 kP node line way set : Nat) (dirty : Bool) :
    s.cacheCheck tagKey dataKey bank k1 kP node line way set dirty = (none, (s.expose tagKey).expose dataKey) := by
  have hdata' : (s.expose tagKey).upsets.get? dataKey = none := (upsets_expose_ne s hne).trans hdata
  have hno : ¬ ((0 : Nat) = 2) := by decide
  rw [State.cacheCheck, readEntry_sound htag]
  dsimp only
  rw [if_neg hno, readEntry_sound hdata']
  rfl

theorem upKey_ne {a b : Nat} (hab : a ≠ b) (n line : Nat) : upKey a n line ≠ upKey b n line := by
  unfold upKey
  omega

theorem l2Check_sound {s : State} {n line : Nat} {l : L2Line} (h : holdsLine s n line l) :
    s.l2Check n line = (s.expose (upKey 3 n line)).expose (upKey 2 n line) := by
  obtain ⟨hl, -, hup⟩ := h
  rw [State.l2Check, hl]
  dsimp only
  rw [cacheCheck_sound (upKey_ne (by decide) n line) (hup 3 (by decide)) (hup 2 (by decide))]

/-! Lines of DRAM are shown to every world. -/

theorem line_region {a : Nat} (h : a < 0x400000000000) : region (a / 128 * 128) = .dram := region_dram (by omega)

theorem unseen_dram (s : State) {line : Nat} (h : region (line * 128) = .dram) (op d : Nat) (sec : Bool) : s.unseen op d line sec = false := by
  have hguard : s.homeGuard op (cdaNode d) sec line = .serve ∨ s.homeGuard op (cdaNode d) sec line = .decerr := by
    rw [State.homeGuard, h]
    dsimp only
    split
    · exact .inl rfl
    · exact .inr rfl
  obtain hg | hg := hguard <;> rw [State.unseen, hg]

theorem homeGuard_dram {s : State} {line : Nat} (h : region (line * 128) = .dram) (hin : line * 128 < s.installed) (op node : Nat) (sec : Bool) :
    s.homeGuard op node sec line = .serve := by
  rw [State.homeGuard, h]
  exact if_pos hin

/-! What an access does at its core beside its effect: the streams of the prefetchers, the L1D, the events it counts. -/

/-- Beside the free values, only the L1D of core `n`, its prefetch streams, its event counts and its note of an array error
have changed. -/
def sided (n : Nat) (s t : State) : Prop :=
  (∃ cs up fr, t = { s with cores := cs, upsets := up, fresh := fr }) ∧ (∀ m, m ≠ n → t.core m = s.core m) ∧
    ∃ ae p1 p2 pm l1, t.core n = { s.core n with arrErr := ae, pf1 := p1, pf2 := p2, pmEv := pm, l1d := l1 }

theorem sided_refl (n : Nat) (s : State) : sided n s s := ⟨⟨_, _, _, rfl⟩, fun _ _ => rfl, ⟨_, _, _, _, _, rfl⟩⟩

theorem sided_trans {n : Nat} {s t u : State} (h1 : sided n s t) (h2 : sided n t u) : sided n s u := by
  obtain ⟨⟨cs, up, fr, hst⟩, hother, a, b, c, d, e, hcore⟩ := h1
  obtain ⟨⟨cs', up', fr', htu⟩, hother', a', b', c', d', e', hcore'⟩ := h2
  refine ⟨⟨cs', up', fr', ?_⟩, fun m hm => (hother' m hm).trans (hother m hm), a', b', c', d', e', ?_⟩
  · rw [htu, hst]
  · rw [hcore', hcore]

theorem sided_expose (n : Nat) (s : State) (k : Nat) : sided n s (s.expose k) := ⟨⟨_, _, _, rfl⟩, fun _ _ => rfl, ⟨_, _, _, _, _, rfl⟩⟩
theorem sided_drawNat (n : Nat) (s : State) : sided n s s.drawNat.2 := ⟨⟨_, _, _, rfl⟩, fun _ _ => rfl, ⟨_, _, _, _, _, rfl⟩⟩

theorem sided_modCore {n : Nat} {s : State} {f : Core → Core}
    (h : ∃ ae p1 p2 pm l1, f (s.core n) = { s.core n with arrErr := ae, pf1 := p1, pf2 := p2, pmEv := pm, l1d := l1 }) :
    sided n s (s.modCore n f) := by
  obtain ⟨a, b, c, d, e, hf⟩ := h
  exact ⟨⟨_, _, _, rfl⟩, fun m hm => core_modCore_ne s f hm, a, b, c, d, e, (core_modCore_self ..).trans hf⟩

theorem arrErr_modCore {s : State} {n : Nat} {f : Core → Core} (h : (f (s.core n)).arrErr = (s.core n).arrErr) :
    ((s.modCore n f).core n).arrErr = (s.core n).arrErr := by rw [core_modCore_self, h]

theorem sided.unseen {n : Nat} {s t : State} (h : sided n s t) : unseen n s t := by
  obtain ⟨⟨cs, up, fr, hst⟩, hother, a, b, c, d, e, hcore⟩ := h
  refine ⟨?_, by rw [hcore], by rw [hcore], ?_⟩
  · rw [hcore]
    exact ⟨rfl, rfl, rfl, rfl, ⟨rfl, rfl, rfl, rfl, rfl⟩, fun _ _ => rfl⟩
  · subst hst
    exact ⟨rfl, rfl, rfl, rfl, hother⟩

theorem sided_noteEv (n : Nat) (s : State) (ev : Nat) : sided n s (s.noteEv n ev) := sided_modCore ⟨_, _, _, _, _, rfl⟩

theorem arrErr_noteEv (n : Nat) (s : State) (ev : Nat) : ((s.noteEv n ev).core n).arrErr = (s.core n).arrErr := by
  rw [State.noteEv, core_modCore_self]

theorem sided_l1dPut (n : Nat) (s : State) (p : Prop) [Decidable p] (l1 : KMap Nat) (key : Nat) :
    sided n s (if p then (s.modCore n (fun c => { c with l1d := l1 })).expose key else s) ∧
      ((if p then (s.modCore n (fun c => { c with l1d := l1 })).expose key else s).core n).arrErr = (s.core n).arrErr := by
  split
  · exact ⟨sided_trans (sided_modCore ⟨_, _, _, _, _, rfl⟩) (sided_expose n _ _),
      arrErr_modCore (f := fun c => { c with l1d := l1 }) rfl⟩
  · exact ⟨sided_refl n s, rfl⟩

theorem sided_l1dFill (n : Nat) (s : State) (line : Nat) :
    sided n s (s.l1dFill n line) ∧ ((s.l1dFill n line).core n).arrErr = (s.core n).arrErr := by
  unfold State.l1dFill
  dsimp only
  split
  · exact ⟨sided_refl n s, rfl⟩
  · have hev := sided_trans (sided_noteEv n s 7) (sided_drawNat n _)
    have harr : ((s.noteEv n 7).drawNat.2.core n).arrErr = (s.core n).arrErr := arrErr_noteEv n s 7
    exact ⟨sided_trans hev (sided_l1dPut ..).1, (sided_l1dPut ..).2.trans harr⟩

theorem sided_l1dCheck {n : Nat} {s : State} {line : Nat} (h : s.upsets.get? (upKey 1 n line) = none) :
    sided n s (s.l1dCheck n line) ∧ ((s.l1dCheck n line).core n).arrErr = (s.core n).arrErr := by
  unfold State.l1dCheck
  split
  · exact ⟨sided_refl n s, rfl⟩
  · rw [readEntry_sound h]
    exact ⟨sided_expose n s _, rfl⟩

/-- A line passes through the L1D. -/
theorem sided_l1dSide {n : Nat} {s : State} {line : Nat} (h : s.upsets.get? (upKey 1 n line) = none) :
    sided n s (s.l1dSide n line) ∧ ((s.l1dSide n line).core n).arrErr = (s.core n).arrErr := by
  unfold State.l1dSide
  split
  · obtain ⟨hcheck, hcheckArr⟩ := sided_l1dCheck h
    obtain ⟨hfill, hfillArr⟩ := sided_l1dFill n (s.l1dCheck n line) line
    exact ⟨sided_trans hcheck hfill, hfillArr.trans hcheckArr⟩
  · exact ⟨sided_refl n s, rfl⟩

/-- The start of a data access: no array error is noted yet, and the prefetchers' streams follow its page (07 R195). -/
def State.noted (s : State) (n : Nat) (va : Word) : State :=
  (s.modCore n (fun c => { c with arrErr := 0 })).modCore n (fun c => c.notePage va)

theorem noted_core (s : State) (n : Nat) (va : Word) :
    ∃ p1 p2, (s.noted n va).core n = { s.core n with arrErr := 0, pf1 := p1, pf2 := p2 } := by
  rw [State.noted, core_modCore_self, core_modCore_self]
  exact ⟨_, _, rfl⟩

theorem sided_noted (s : State) (n : Nat) (va : Word) : sided n s (s.noted n va) :=
  sided_trans (sided_modCore ⟨_, _, _, _, _, rfl⟩) (sided_modCore ⟨_, _, _, _, _, rfl⟩)

theorem watchHit_off {s : State} {n : Nat} (h : s.dbgControl n = false) : s.watchHit n = (false, s) := by
  rw [State.watchHit, h]
  rfl

/-- Untranslated, an access to memory of DRAM starts without a watchpoint or a free choice. -/
theorem access_start {s : State} {n : Nat} {va : Word} (hflat : flat (s.core n)) (hva : va.toNat < 0x400000000000)
    (hdbg : s.dbgControl n = false) :
    (s.modCore n (fun c => { c with arrErr := 0 })).watchHit n = (false, s.modCore n (fun c => { c with arrErr := 0 })) ∧
    (s.modCore n (fun c => { c with arrErr := 0 })).notePages n va ⟨va.toNat, 0, (s.core n).dbgSec⟩ = s.noted n va ∧
    ∃ g : Regime, (s.modCore n (fun c => { c with arrErr := 0 })).regime n = (g, s.modCore n (fun c => { c with arrErr := 0 })) ∧
      ∀ nd (t : State), t.translate g nd va = (.ok ⟨va.toNat, 0, (s.core n).dbgSec⟩, t) := by
  have hcore : (s.modCore n (fun c => { c with arrErr := 0 })).core n = { s.core n with arrErr := 0 } := core_modCore_self ..
  refine ⟨watchHit_off ?_, ?_, ?_⟩
  · rw [State.dbgControl, hcore]
    exact hdbg
  · rw [State.notePages, cacheable, region_dram hva]
    exact if_pos ⟨rfl, rfl⟩
  · obtain ⟨g, hg, hxl⟩ := translate_flat (s := s.modCore n (fun c => { c with arrErr := 0 })) (n := n) (by rw [hcore]; exact hflat) hva
    rw [hcore] at hxl
    exact ⟨g, hg, hxl⟩

/-- An access within one line is one part. -/
theorem dataPieces_flat {s : State} {n size : Nat} {va : Word} (hflat : flat (s.core n)) (hlt : va.toNat + size ≤ 0x400000000000)
    (hsize : 0 < size) (hline : va.toNat % 128 + size ≤ 128) (hdbg : s.dbgControl n = false) (nd : Need) (k : AccKind) :
    s.dataPieces n va size nd k = (.ok [⟨⟨va.toNat, 0, (s.core n).dbgSec⟩, 0, size⟩], s.noted n va) := by
  have hva : va.toNat < 0x400000000000 := by omega
  obtain ⟨hwatch, hpages, g, hg, hxl⟩ := access_start hflat hva hdbg
  have hfirst : min size (4096 - va.toNat % 4096) = size := by omega
  have hpart : min size (128 - va.toNat % 128) = size := by omega
  have hone : linePieces ⟨va.toNat, 0, (s.core n).dbgSec⟩ 0 size 6 = [⟨⟨va.toNat, 0, (s.core n).dbgSec⟩, 0, size⟩] := by
    rw [linePieces, hpart, if_pos rfl]
  have hnormal : deviceBad ⟨va.toNat, 0, (s.core n).dbgSec⟩ va size = false := rfl
  unfold State.dataPieces
  rw [hwatch]
  dsimp only
  rw [hg]
  dsimp only
  rw [hxl]
  dsimp only
  rw [hpages, hfirst, foldX_dram _ hva, hone, hnormal, if_neg Bool.false_ne_true, if_pos (rfl : size = size),
    if_neg Bool.false_ne_true]

end Sys2Proof.Machine
end

section
/-! O4: loads. -/
namespace Sys2Proof.Machine
open Sys2Proof

/-! A load as a whole, and what an access that changes nothing seen leaves of its frame. -/

theorem wroteG_of_unseen {n : Nat} {d : BitVec 5} {v : Word} {s u t : State} (h : unseen n s u) (hw : wroteG n d v u t) :
    wroteG n d v s t := by
  obtain ⟨⟨hg, hp, hv, ha, ⟨m1, m2, m3, m4, m5⟩, hcr⟩, -, -, hrest⟩ := h
  obtain ⟨w1, w2, wp, wv, wa, ⟨k1, k2, k3, k4, k5⟩, wcr, wrest⟩ := hw
  exact ⟨w1, fun x hx => (w2 x hx).trans (rg_of_g hg x), wp.trans hp, wv.trans hv, wa.trans ha,
    ⟨k1.trans m1, k2.trans m2, k3.trans m3, k4.trans m4, k5.trans m5⟩, fun k hk => (wcr k hk).trans (hcr k hk),
    keepsRest_trans hrest wrest⟩

/-- A load whose access ends without an exception. -/
theorem answers_load {i : Instr} {k : Insn} {addr : Core → Word} {size v : Nat} {sgn : Bool} {d : BitVec 5} {s s1 s2 : State}
    {evs : List (Nat × Nat)} (hexec : exec i s = s.loadInsn k addr size sgn d) (hw : wordOf i = k.w) (h : Runs i k.n k.pred k.pn s s1)
    (hpre : k.pre (s1.core k.n) = none) (hload : s1.loadBytes k.n (addr (s1.core k.n)) size = (.ok (v, evs), s2))
    (hd : (s2.core k.n).dbg = false) :
    Answers i s (fun t => wroteG k.n d (loadExt sgn size v) s2 t ∧ (t.core k.n).pc = (s1.core k.n).pc + 4) := by
  have hrun := exec_eq_body hexec hw h hpre
  rw [hload] at hrun
  exact ⟨_, hrun, done_wroteG _ _ d _ _ hd⟩

/-! A line that the core's L2 holds serves a read at once (07 R191, R192). -/

theorem mergePoison_zero (mask : BitVec 128) : mergePoison 0 0 mask = 0 := by
  unfold mergePoison
  suffices h : ∀ l : List Nat, l.foldl (fun (a : BitVec 16) k =>
      if wordMask mask k = 0 then a
      else if (0 : BitVec 16).getLsbD k then a ||| (1 <<< k)
      else if wordMask mask k = 255 then a &&& ~~~((1 : BitVec 16) <<< k)
      else a) 0 = 0 from h _
  intro l
  induction l with
  | nil => rfl
  | cons k l ih =>
    rw [List.foldl_cons]
    convert ih using 2
    simp

theorem overlay_poison_zero (c : Core) (line : Nat) (sec : Bool) (d : LineData) : (c.overlay line sec (d, 0)).2 = 0 := by
  unfold Core.overlay
  suffices h : ∀ (l : List SbEntry) (x : LineData × BitVec 16), x.2 = 0 → (l.foldl (fun x e => if e.line = line ∧ e.sec = sec then
      (mergeLine x.1 e.data e.mask, mergePoison x.2 0 e.mask) else x) x).2 = 0 from h _ _ rfl
  intro l
  induction l with
  | nil => exact fun x hx => hx
  | cons e l ih =>
    intro x hx
    rw [List.foldl_cons]
    apply ih
    split
    · show mergePoison x.2 0 e.mask = 0
      rw [hx, mergePoison_zero]
    · exact hx

theorem not_touched_zero (o size : Nat) : touched 0 o size = false := by
  simp [touched]

theorem cohLoad_held {s : State} {n line : Nat} {l : L2Line} (hdram : region (line * 128) = .dram) (h : holdsLine s n line l) (sec : Bool) :
    s.cohLoad n line sec = ⟨.ok, l.data, 0, (s.expose (upKey 3 n line)).expose (upKey 2 n line)⟩ := by
  obtain ⟨hl, hp, -⟩ := id h
  have hl' : (((s.expose (upKey 3 n line)).expose (upKey 2 n line)).core n).l2.get? line = some l := hl
  unfold State.cohLoad
  dsimp only
  rw [unseen_dram s hdram, if_neg Bool.false_ne_true, l2Check_sound h, hl', ← hp]

theorem upKey1_after_l2Check {s : State} {n line : Nat} (h : s.upsets.get? (upKey 1 n line) = none) :
    ((s.expose (upKey 3 n line)).expose (upKey 2 n line)).upsets.get? (upKey 1 n line) = none := by
  rw [upsets_expose_ne _ (upKey_ne (by decide) n line), upsets_expose_ne _ (upKey_ne (by decide) n line)]
  exact h

/-- A read of one part of a held line: the line under the core's own stores. -/
theorem readPiece_held {s : State} {n : Nat} {a off size : Nat} {sec : Bool} {l : L2Line} (ha : a < 0x400000000000)
    (htag : s.tagBad n sec = false) (hen : (s.core n).l2en = true) (h : holdsLine s n (a / 128) l) :
    ∃ s', s.readPiece n ⟨⟨a, 0, sec⟩, off, size⟩ = (.line ((s.core n).overlay (a / 128) sec (l.data, 0)).1 0, s') ∧
      sided n s s' ∧ (s'.core n).arrErr = (s.core n).arrErr := by
  have hread : s.readAt n insnTag ⟨a, 0, sec⟩ size = (.line l.data 0, (s.expose (upKey 3 n (a / 128))).expose (upKey 2 n (a / 128))) := by
    unfold State.readAt State.memLine State.cohRead
    simp only [htag, hen, region_dram ha, cohLoad_held (line_region ha) h]
    rfl
  obtain ⟨hside, harr⟩ := sided_l1dSide (upKey1_after_l2Check (h.2.2 1 (by decide)))
  have hall := sided_trans (sided_trans (sided_expose n s (upKey 3 n (a / 128))) (sided_expose n _ (upKey 2 n (a / 128)))) hside
  have hsb : ((((s.expose (upKey 3 n (a / 128))).expose (upKey 2 n (a / 128))).l1dSide n (a / 128)).core n).overlay (a / 128) sec (l.data, 0) =
      (s.core n).overlay (a / 128) sec (l.data, 0) := by
    obtain ⟨-, -, _, _, _, _, _, hcore⟩ := hall
    rw [hcore]
    rfl
  refine ⟨_, ?_, hall, harr⟩
  unfold State.readPiece
  rw [region_dram ha, if_neg (fun hc => by cases hc.1), hread]
  dsimp only
  rw [if_neg (by decide), hsb, overlay_poison_zero]

/-- A load of normal memory waits for no store (03 R86, R89). -/
theorem storeOrder_load {s : State} {n : Nat} {p : Piece} (h : p.x.mt = 0) : s.storeOrder n false [p] = (.ok (), s) := by
  simp [State.storeOrder, h]

/-- A load within one held line of installed DRAM, untranslated (03 R78, R86; 07 R191). -/
theorem loadBytes_held {s : State} {n size : Nat} {va : Word} {l : L2Line} (hsize : 0 < size) (hreach : reaches s n va size)
    (hline : va.toNat % 128 + size ≤ 128) (h : holdsLine s n (va.toNat / 128) l) :
    ∃ evs s2, s.loadBytes n va size =
      (.ok (pieceBytes (seenLine (s.core n) (va.toNat / 128) l) (va.toNat % 128) size, evs), s2) ∧ sided n s s2 := by
  obtain ⟨hflat, -, hlt, htag, hdbg, hen⟩ := hreach
  have ha : va.toNat < 0x400000000000 := by omega
  obtain ⟨p1, p2, hcore⟩ := noted_core s n va
  have hheld : holdsLine (s.noted n va) n (va.toNat / 128) l := by
    obtain ⟨hl, hp, hup⟩ := h
    exact ⟨by rw [hcore]; exact hl, hp, hup⟩
  obtain ⟨s', hread, hside, harr⟩ := readPiece_held (s := s.noted n va) (off := 0) (size := size) (sec := (s.core n).dbgSec) ha
    (by exact htag) (by rw [hcore]; exact hen) hheld
  have hover : ((s.noted n va).core n).overlay (va.toNat / 128) (s.core n).dbgSec (l.data, 0) =
      (s.core n).overlay (va.toNat / 128) (s.core n).dbgSec (l.data, 0) := by
    rw [hcore]
    rfl
  have hnoErr : ((s'.core n).arrErr == 1) = false := by
    rw [harr, hcore]
    rfl
  refine ⟨(0x0D, 1) :: globEvents [⟨⟨va.toNat, 0, (s.core n).dbgSec⟩, 0, size⟩], s', ?_, sided_trans (sided_noted s n va) hside⟩
  unfold State.loadBytes
  rw [dataPieces_flat hflat hlt hsize hline hdbg]
  unfold Res.bind
  dsimp only
  rw [storeOrder_load rfl]
  dsimp only
  unfold State.readPieces
  rw [hread]
  dsimp only
  rw [not_touched_zero, hnoErr, if_neg (by decide)]
  unfold State.readPieces
  rw [hover, Nat.mul_zero, Nat.pow_zero, Nat.mul_one, Nat.zero_add]
  rfl

/-! The value as the register gets it (03 R78). -/

/-- The low `n` bytes, sign-extended, are the two's complement value of that many bits. -/
theorem signBytes_eq_toInt {n : Nat} (hn : 0 < n) (hn8 : n ≤ 8) (v : Nat) :
    signBytes n (BitVec.ofNat 64 v) = (BitVec.ofNat (8 * n) v).toInt := by
  have hmod : v % 2 ^ 64 % 2 ^ (8 * n) = v % 2 ^ (8 * n) := Nat.mod_mod_of_dvd v (Nat.pow_dvd_pow 2 (by omega))
  have htwo : 2 ^ (8 * n) = 2 * 2 ^ (8 * n - 1) := by rw [← Nat.pow_succ']; congr 1; omega
  unfold signBytes
  rw [BitVec.toInt_eq_toNat_cond, BitVec.toNat_ofNat, BitVec.toNat_ofNat, hmod]
  dsimp only
  by_cases hlt : v % 2 ^ (8 * n) < 2 ^ (8 * n - 1)
  · rw [if_pos hlt, if_pos (by omega)]
  · rw [if_neg hlt, if_neg (by omega)]

theorem loadExt_signed {n : Nat} (hn : 0 < n) (hn8 : n ≤ 8) (v : Nat) : loadExt true n v = (BitVec.ofNat (8 * n) v).signExtend 64 := by
  rw [loadExt, if_pos rfl, signBytes_eq_toInt hn hn8]
  rfl

/-- The sizes of the loads of the M format are positive. -/
theorem loadTable_size : ∀ e ∈ loadTable, 0 < e.2.1 := by decide

/-- Settles O4: the access of a held line, and the load around any access. -/
theorem loadResults : Obligations.LoadResults := by
  unfold Obligations.LoadResults
  have hldx : ∀ (o : RRRF) (s s1 : State), Runs (.ldx o) o.core o.pred o.pn s s1 → decide (16 ≤ o.f.toNat) = false := by
    intro o s s1 h
    have hwf : decide (o.f.toNat < 16) = true := h.wf
    exact decide_eq_false (Nat.not_le.mpr (of_decide_eq_true hwf))
  refine ⟨?_, ?_, ?_, ?_, ?_⟩
  · intro e he o s s1 l h a hreach hline hheld
    obtain ⟨opc, hrow⟩ := exec_load e he
    obtain ⟨hw, hexec⟩ := hrow o
    obtain ⟨evs, s2, hload, hside⟩ := loadBytes_held (loadTable_size e he) hreach hline hheld
    obtain ⟨t, ht, hwrote, hpc⟩ := answers_load (hexec s) hw h (preChk_u (s1.core o.core)) hload (hside.unseen.2.2.1.trans h.dbg)
    exact ⟨t, ht, wroteG_of_unseen hside.unseen hwrote, hpc⟩
  · intro o s s1 l h a n hreach hline hheld
    obtain ⟨evs, s2, hload, hside⟩ := loadBytes_held (Nat.two_pow_pos _) hreach hline hheld
    obtain ⟨t, ht, hwrote, hpc⟩ := answers_load (show exec (.ldx o) s = execLdx o s from rfl) rfl h
      (preChk_u_of (hldx o s s1 h) (s1.core o.core)) hload (hside.unseen.2.2.1.trans h.dbg)
    exact ⟨t, ht, wroteG_of_unseen hside.unseen hwrote, hpc⟩
  · intro e he o s s1 s2 v evs h hload hd
    obtain ⟨opc, hrow⟩ := exec_load e he
    obtain ⟨hw, hexec⟩ := hrow o
    exact answers_load (hexec s) hw h (preChk_u (s1.core o.core)) hload hd
  · intro o s s1 s2 v evs h hload hd
    exact answers_load (show exec (.ldx o) s = execLdx o s from rfl) rfl h (preChk_u_of (hldx o s s1 h) (s1.core o.core)) hload hd
  · exact fun v _ => ⟨rfl, loadExt_signed (by decide) (by decide) v, loadExt_signed (by decide) (by decide) v,
      loadExt_signed (by decide) (by decide) v⟩

end Sys2Proof.Machine
end

section
/-! O5: stores and atomics. -/
namespace Sys2Proof.Machine
open Sys2Proof

/-! A store and an atomic as wholes. -/

/-- A store whose access ends without an exception. -/
theorem exec_store_done {i : Instr} {k : Insn} {addr : Core → Word} {size : Nat} {d : BitVec 5} {s s1 s2 : State}
    {evs : List (Nat × Nat)} (hexec : exec i s = s.storeInsn k addr size d) (hw : wordOf i = k.w) (h : Runs i k.n k.pred k.pn s s1)
    (hpre : k.pre (s1.core k.n) = none)
    (hstore : s1.storeBytes k.n (addr (s1.core k.n)) size (((s1.core k.n).rg d).toNat % 2 ^ (8 * size)) = (.ok evs, s2)) : exec i s = .next (s2.retireInsn k.n (s1.core k.n) ((s1.core k.n).pc + 4) false evs) := by
  have hrun := exec_eq_body hexec hw h hpre
  rw [hstore] at hrun
  exact hrun

/-- An atomic whose access ends without an exception. -/
theorem exec_atomic {i : Instr} {o : AtomF} {op : BitVec 4} {v : Word} {s s1 s2 : State} {evs : List (Nat × Nat)}
    (hexec : exec i s = s.atomInsn op o) (hw : wordOf i = wAtom op o) (h : Runs i o.core o.pred o.pn s s1)
    (hatom : s1.atomBytes o.core ((s1.core o.core).rg o.s1) (op.toNat + 16 * b2n o.dbl) o.place.toNat ((s1.core o.core).rg o.s2)
      ((s1.core o.core).rg o.d) = (.ok (v, evs), s2)) :
    exec i s = .next ((s2.modCore o.core (fun c => c.wg o.d v)).retireInsn o.core (s1.core o.core) ((s1.core o.core).pc + 4) false evs) := by
  have hrun := exec_eq_body (k := ⟨o.core, o.pred, o.pn, wAtom op o, preChk false .u⟩) hexec hw h (preChk_u (s1.core o.core))
  rw [hatom] at hrun
  exact hrun

/-! Stores into a line that the core owns (10 R284). -/

/-- A held line with bytes stored into it. -/
def L2Line.withStore (l : L2Line) (mask : BitVec 128) (data : LineData) : L2Line :=
  { l with st := .m, data := mergeLine l.data data mask }

theorem l2Store_core {s : State} {n line : Nat} {l : L2Line} (hl : (s.core n).l2.get? line = some l) (hp : l.poison = 0)
    (hst : l.st ≠ .nc) (mask : BitVec 128) (data : LineData) :
    (s.l2Store n line mask data).core n = { s.core n with l2 := (s.core n).l2.set line (l.withStore mask data) } := by
  rw [State.l2Store, core_modCore_self, hl]
  dsimp only
  rw [if_neg hst, hp, mergePoison_zero, ← hp]
  rfl

theorem ne_nc_of_rank {st : CState} (h : 2 ≤ st.rank) : st ≠ .nc := by
  rintro rfl
  exact absurd h (by decide)

/-- The state of a core's own store or atomic: its L2 and L1D entries have been read, the line has passed through the L1D, and
the bytes are in the L2. -/
def State.ownStore (s : State) (n line : Nat) (mask : BitVec 128) (data : LineData) : State :=
  (((s.expose (upKey 3 n line)).expose (upKey 2 n line)).l1dFill n line).l2Store n line mask data

theorem ownStore_facts {s : State} {n line : Nat} {l : L2Line} (h : holdsLine s n line l) (hst : 2 ≤ l.st.rank) (mask : BitVec 128)
    (data : LineData) : unseen n s (s.ownStore n line mask data) ∧
      ((s.ownStore n line mask data).core n).l2.get? line = some (l.withStore mask data) ∧
      ((s.ownStore n line mask data).core n).sbuf = (s.core n).sbuf := by
  obtain ⟨hl, hp, -⟩ := h
  have hside := sided_trans (sided_trans (sided_expose n s (upKey 3 n line)) (sided_expose n _ (upKey 2 n line)))
    (sided_l1dFill n _ line).1
  have hfill : ((((s.expose (upKey 3 n line)).expose (upKey 2 n line)).l1dFill n line).core n).l2.get? line = some l := by
    obtain ⟨-, -, _, _, _, _, _, hcore⟩ := hside
    rw [hcore]
    exact hl
  have hcore := l2Store_core hfill hp (ne_nc_of_rank hst) mask data
  have hstored : unseen n (((s.expose (upKey 3 n line)).expose (upKey 2 n line)).l1dFill n line) (s.ownStore n line mask data) := by
    refine ⟨?_, ?_, ?_, keepsRest_modCore ..⟩ <;> rw [State.ownStore, hcore]
    exact ⟨rfl, rfl, rfl, rfl, ⟨rfl, rfl, rfl, rfl, rfl⟩, fun _ _ => rfl⟩
  refine ⟨unseen_trans hside.unseen hstored, ?_, ?_⟩
  · rw [State.ownStore, hcore]
    exact KMap.get?_set_self ..
  · rw [State.ownStore, hcore]
    obtain ⟨-, -, _, _, _, _, _, hsc⟩ := hside
    exact (congrArg Core.sbuf hsc :)

theorem cohOwn_held {s : State} {n line : Nat} {l : L2Line} (hdram : region (line * 128) = .dram) (h : holdsLine s n line l)
    (hst : 2 ≤ l.st.rank) (sec : Bool) :
    s.cohOwn n line sec = ⟨.ok, l.data, 0, (s.expose (upKey 3 n line)).expose (upKey 2 n line)⟩ := by
  obtain ⟨hl, hp, -⟩ := id h
  have hl' : (((s.expose (upKey 3 n line)).expose (upKey 2 n line)).core n).l2.get? line = some l := hl
  unfold State.cohOwn
  dsimp only
  rw [unseen_dram s hdram, if_neg Bool.false_ne_true, l2Check_sound h, hl']
  dsimp only
  rw [if_pos hst, hp]

theorem cohStore_held {s : State} {n line : Nat} {l : L2Line} (hdram : region (line * 128) = .dram) (hen : (s.core n).l2en = true)
    (h : holdsLine s n line l) (hst : 2 ≤ l.st.rank) (sec : Bool) (mask : BitVec 128) (data : LineData) :
    s.cohStore n line sec mask data = (.ok, s.ownStore n line mask data) := by
  have hgo : ¬ ((Status.ok ≠ .ok) ∨ s.unseen opRDO (n / 18) line sec = true) := by
    rw [unseen_dram s hdram]
    decide
  unfold State.cohStore
  dsimp only
  rw [if_pos hen, cohOwn_held hdram h hst]
  dsimp only
  rw [if_neg hgo]
  rfl

/-! The stores that a core holds before they are visible (03 R86). -/

theorem storeOut_ok (va : Word) (c : Core) : Core.storeOut .ok va c = c := if_pos rfl

theorem unseen_storeOut (n : Nat) (s : State) (va : Word) : unseen n s (s.modCore n (Core.storeOut .ok va)) := by
  refine unseen_modCore ?_ ?_ ?_ <;> rw [storeOut_ok]
  exact sameSeen_refl _

/-- The core sees the line with bytes stored into what it was, be they visible or held. -/
def seesStored (n line : Nat) (sec : Bool) (mask : BitVec 128) (d : LineData) (l : L2Line) (t : State) : Prop :=
  ∃ m, (t.core n).l2.get? line = some m ∧ ((t.core n).overlay line sec (m.data, 0)).1 = mergeLine l.data d mask

theorem seesStored.storeOut {n line : Nat} {sec : Bool} {mask : BitVec 128} {d : LineData} {l : L2Line} {t : State}
    (h : seesStored n line sec mask d l t) (va : Word) : seesStored n line sec mask d l (t.modCore n (Core.storeOut .ok va)) := by
  rw [seesStored, core_modCore_self, storeOut_ok]
  exact h

/-- A store is held: it is the newest of those that its core holds. -/
def State.heldStore (s : State) (n : Nat) (e : SbEntry) : State := (s.modCore n (fun c => { c with sbuf := c.sbuf ++ [e] })).drawNat.2

/-- A store into an owned line, with none before it: held, or visible at once. -/
theorem sbPut_held {s : State} {n : Nat} {e : SbEntry} {l : L2Line} (hdram : region (e.line * 128) = .dram) (hen : (s.core n).l2en = true)
    (h : holdsLine s n e.line l) (hst : 2 ≤ l.st.rank) (hsb : (s.core n).sbuf = []) :
    unseen n s (s.sbPut n e) ∧ seesStored n e.line e.sec e.mask e.data l (s.sbPut n e) := by
  obtain ⟨hl, hp, hup⟩ := id h
  have hcore : (s.heldStore n e).core n = { s.core n with sbuf := [e] } := by
    have h : (s.modCore n (fun c => { c with sbuf := c.sbuf ++ [e] })).core n = { s.core n with sbuf := [e] } := by
      rw [core_modCore_self, hsb]
      rfl
    exact h
  have hput : unseen n s (s.heldStore n e) := unseen_trans (unseen_modCore (sameSeen_refl _) rfl rfl) (unseen_drawNat n _)
  have hheld : holdsLine (s.heldStore n e) n e.line l := ⟨by rw [hcore]; exact hl, hp, hup⟩
  obtain ⟨k, hk⟩ : ∃ k, s.sbPut n e = ((s.heldStore n e).sbRun n (k % 2)).2 := by
    refine ⟨(s.modCore n (fun c => { c with sbuf := c.sbuf ++ [e] })).drawNat.1, ?_⟩
    unfold State.sbPut
    rw [hsb]
    rfl
  obtain h0 | h1 : k % 2 = 0 ∨ k % 2 = 1 := by omega
  · rw [hk, h0]
    refine ⟨hput, l, by rw [State.sbRun, hcore]; exact hl, ?_⟩
    rw [State.sbRun, hcore]
    simp [Core.overlay]
  · obtain ⟨hseen, hline, hsbuf⟩ := ownStore_facts hheld hst e.mask e.data
    have hone : (s.heldStore n e).sbOne n =
        (true, ((s.heldStore n e).ownStore n e.line e.mask e.data).modCore n
          (fun c => Core.storeOut .ok e.va { c with sbuf := [] })) := by
      unfold State.sbOne
      rw [hcore]
      dsimp only
      rw [cohStore_held hdram (by rw [hcore]; exact hen) hheld hst]
      rfl
    rw [hk, h1, State.sbRun, hone]
    dsimp only
    rw [State.sbRun]
    refine ⟨unseen_trans (unseen_trans hput hseen) (unseen_modCore ?_ ?_ ?_), l.withStore e.mask e.data, ?_, ?_⟩
    · rw [storeOut_ok]
      exact sameSeen_refl _
    · rw [storeOut_ok]
    · rw [storeOut_ok]
    · rw [core_modCore_self, storeOut_ok]
      exact hline
    · rw [core_modCore_self, storeOut_ok]
      rfl

/-- A store within one owned line of installed DRAM, untranslated. -/
theorem storeBytes_held {s : State} {n size v : Nat} {va : Word} {l : L2Line} (hsize : 0 < size) (hreach : reaches s n va size)
    (hline : va.toNat % 128 + size ≤ 128) (h : ownsLine s n (va.toNat / 128) l) :
    ∃ evs s2, s.storeBytes n va size (v % 2 ^ (8 * size)) = (.ok evs, s2) ∧ unseen n s s2 ∧
      seesStored n (va.toNat / 128) (s.core n).dbgSec (byteMask (va.toNat % 128) size) (placed va.toNat size v) l s2 := by
  obtain ⟨hflat, -, hlt, htag, hdbg, hen⟩ := hreach
  obtain ⟨⟨hl, hp, hup⟩, hst, hsb, -⟩ := h
  have ha : va.toNat < 0x400000000000 := by omega
  obtain ⟨p1, p2, hcore⟩ := noted_core s n va
  have hheld : holdsLine (s.noted n va) n (va.toNat / 128) l := ⟨by rw [hcore]; exact hl, hp, hup⟩
  have hdata : Piece.line ⟨⟨va.toNat, 0, (s.core n).dbgSec⟩, 0, size⟩ (v % 2 ^ (8 * size)) = placed va.toNat size v := by
    rw [Piece.line, placed, Nat.mul_zero, Nat.pow_zero, Nat.div_one, Nat.mod_mod]
  obtain ⟨hseen, hsees⟩ := sbPut_held (s := s.noted n va) (n := n)
    (e := ⟨va.toNat / 128, (s.core n).dbgSec, byteMask (va.toNat % 128) size, placed va.toNat size v, va⟩)
    (line_region ha) (by rw [hcore]; exact hen) hheld hst (by rw [hcore]; exact hsb)
  have hpiece : (s.noted n va).storePiece n va ⟨⟨va.toNat, 0, (s.core n).dbgSec⟩, 0, size⟩ (v % 2 ^ (8 * size)) =
      (.done .ok, (s.noted n va).sbPut n
        ⟨va.toNat / 128, (s.core n).dbgSec, byteMask (va.toNat % 128) size, placed va.toNat size v, va⟩) := by
    have htag' : (s.noted n va).tagBad n (s.core n).dbgSec = false := htag
    unfold State.storePiece
    dsimp only
    rw [htag', if_neg Bool.false_ne_true, region_dram ha, hdata]
    rfl
  have horder : (s.noted n va).storeOrder n true [⟨⟨va.toNat, 0, (s.core n).dbgSec⟩, 0, size⟩] = (.ok (), s.noted n va) := by
    simp [State.storeOrder, Piece.held, cacheable, region_dram ha]
  have hfills : (s.noted n va).storeFills n [⟨⟨va.toNat, 0, (s.core n).dbgSec⟩, 0, size⟩] = (.ok none, s.noted n va) := by
    simp [State.storeFills, region_dram ha]
  refine ⟨(0x0E, 1) :: globEvents [⟨⟨va.toNat, 0, (s.core n).dbgSec⟩, 0, size⟩], ((s.noted n va).sbPut n
    ⟨va.toNat / 128, (s.core n).dbgSec, byteMask (va.toNat % 128) size, placed va.toNat size v, va⟩).modCore n (Core.storeOut .ok va),
    ?_, unseen_trans (unseen_trans (sided_noted s n va).unseen hseen) (unseen_storeOut n _ va), hsees.storeOut va⟩
  unfold State.storeBytes
  rw [dataPieces_flat hflat hlt hsize hline hdbg]
  unfold Res.bind State.storeAll
  dsimp only
  rw [horder]
  unfold Res.bind
  dsimp only
  rw [hfills]
  dsimp only
  unfold State.storePieces
  rw [hpiece]
  rfl

/-! What an instruction that completes leaves of the line. -/

theorem storedIn_retire {n line : Nat} {mask : BitVec 128} {d : LineData} {l : L2Line} {sec : Bool} {s : State} (hsec : (s.core n).dbgSec = sec)
    (h : seesStored n line sec mask d l s) (c0 : Core) (npc : Word) (evs : List (Nat × Nat)) (hd : (s.core n).dbg = false) :
    storedIn n line mask d l (s.retireInsn n c0 npc false evs) := by
  obtain ⟨m, hm, hover⟩ := h
  obtain ⟨⟨cr, hcore⟩, -, -, -⟩ := retire_core (s := s) c0 npc false evs hd
  refine ⟨m, by rw [hcore]; exact hm, ?_⟩
  subst hsec
  rw [hcore]
  exact hover

theorem dbgSec_of_unseen {n : Nat} {s t : State} (h : unseen n s t) : (t.core n).dbgSec = (s.core n).dbgSec := by
  obtain ⟨⟨-, -, -, -, ⟨hl, hs, -, -, -⟩, -⟩, -⟩ := h
  rw [Core.dbgSec, hl, hs, ← Core.dbgSec]

/-- A store into an owned line, as a whole. -/
theorem answers_store_held {i : Instr} {k : Insn} {addr : Core → Word} {size : Nat} {d : BitVec 5} {s s1 : State} {l : L2Line}
    (hexec : exec i s = s.storeInsn k addr size d) (hw : wordOf i = k.w) (h : Runs i k.n k.pred k.pn s s1)
    (hpre : k.pre (s1.core k.n) = none) (hsize : 0 < size) (hreach : reaches s1 k.n (addr (s1.core k.n)) size)
    (hline : (addr (s1.core k.n)).toNat % 128 + size ≤ 128) (hown : ownsLine s1 k.n ((addr (s1.core k.n)).toNat / 128) l) :
    Answers i s (fun t => endsAs k.n (s1.core k.n) ((s1.core k.n).pc + 4) s1 t ∧
      storedIn k.n ((addr (s1.core k.n)).toNat / 128) (byteMask ((addr (s1.core k.n)).toNat % 128) size)
        (placed (addr (s1.core k.n)).toNat size ((s1.core k.n).rg d).toNat) l t) := by
  obtain ⟨evs, s2, hstore, hseen, hsees⟩ := storeBytes_held (v := ((s1.core k.n).rg d).toNat) hsize hreach hline hown
  have hd : (s2.core k.n).dbg = false := hseen.2.2.1.trans h.dbg
  exact ⟨_, exec_store_done hexec hw h hpre hstore, hseen.retire _ _ _ _ h.dbg, storedIn_retire (dbgSec_of_unseen hseen) hsees _ _ _ hd⟩

/-! Atomics (03 R80; 10 R291). -/

theorem atomSize_eq (op : BitVec 4) (dbl : Bool) : atomSize (op.toNat + 16 * b2n dbl) = if dbl then 8 else 4 := by
  have hop := op.isLt
  cases dbl with
  | false =>
    have h : ¬ ((op.toNat + 16 * 0) / 16 % 2 = 1) := by omega
    exact if_neg h
  | true =>
    have h : (op.toNat + 16 * 1) / 16 % 2 = 1 := by omega
    exact if_pos h

theorem atomCode_eq (op : BitVec 4) (dbl : Bool) : (op.toNat + 16 * b2n dbl) % 16 = op.toNat := by
  have hop := op.isLt
  omega

/-- An atomic on an owned line, untranslated, is carried out in the core's L2. -/
theorem atomBytes_held {s : State} {n aop place : Nat} {va operand compare : Word} {l : L2Line} (hsize : 0 < atomSize aop)
    (hreach : reaches s n va (atomSize aop)) (halign : va.toNat % atomSize aop = 0) (hplace : place < 2)
    (h : ownsLine s n (va.toNat / 128) l) :
    ∃ evs s2, s.atomBytes n va aop place operand compare = (.ok (lineBytes l.data (va.toNat % 128) (atomSize aop), evs), s2) ∧
      unseen n s s2 ∧ (s2.core n).l2.get? (va.toNat / 128) = some (l.withStore (byteMask (va.toNat % 128) (atomSize aop))
        (lineAt (va.toNat % 128) (atomNew (aop % 16) (atomSize aop) (lineBytes l.data (va.toNat % 128) (atomSize aop)) operand compare))) := by
  obtain ⟨hflat, -, hlt, htag, hdbg, hen⟩ := hreach
  obtain ⟨⟨hl, hp, hup⟩, hst, hsb, hstq⟩ := h
  have ha : va.toNat < 0x400000000000 := by omega
  obtain ⟨p1, p2, hcore⟩ := noted_core s n va
  obtain ⟨hwatch, hpages, g, hg, hxl⟩ := access_start hflat ha hdbg
  have hdrained : ((s.noted n va).modCore n Core.drainStores).core n = { s.core n with arrErr := 0, pf1 := p1, pf2 := p2 } := by
    rw [core_modCore_self, hcore, Core.drainStores, hstq]
    show ({ s.core n with arrErr := 0, pf1 := p1, pf2 := p2, stq := [] } : Core) = _
    rw [← hstq]
  have hheld : holdsLine ((s.noted n va).modCore n Core.drainStores) n (va.toNat / 128) l := ⟨by rw [hdrained]; exact hl, hp, hup⟩
  have hstored : (s.noted n va).allStored n = (.ok (), (s.noted n va).modCore n Core.drainStores) :=
    allStored_ok (sbDrain_empty (by rw [hcore]; exact hsb))
  have hdram := line_region ha
  obtain ⟨hseen, hline, -⟩ := ownStore_facts hheld hst (byteMask (va.toNat % 128) (atomSize aop))
    (lineAt (va.toNat % 128) (atomNew (aop % 16) (atomSize aop) (lineBytes l.data (va.toNat % 128) (atomSize aop)) operand compare))
  have hnear : ((s.noted n va).modCore n Core.drainStores).atomAt n ⟨va.toNat, 0, (s.core n).dbgSec⟩ aop place operand compare =
      (.old (lineBytes l.data (va.toNat % 128) (atomSize aop)), ((s.noted n va).modCore n Core.drainStores).ownStore n (va.toNat / 128)
        (byteMask (va.toNat % 128) (atomSize aop))
        (lineAt (va.toNat % 128) (atomNew (aop % 16) (atomSize aop) (lineBytes l.data (va.toNat % 128) (atomSize aop)) operand compare))) := by
    have hl' : (((s.noted n va).modCore n Core.drainStores).core n).l2.get? (va.toNat / 128) = some l := by rw [hdrained]; exact hl
    have hen' : (((s.noted n va).modCore n Core.drainStores).core n).l2en = true := by rw [hdrained]; exact hen
    have hgo : ((place == 1 || place == 0 && decide (2 ≤ l.st.rank)) &&
        (((s.noted n va).modCore n Core.drainStores).core n).l2en) = true := by
      rw [hen', decide_eq_true hst]
      obtain rfl | rfl : place = 0 ∨ place = 1 := by omega
      · rfl
      · rfl
    have htag' : ((s.noted n va).modCore n Core.drainStores).tagBad n (s.core n).dbgSec = false := htag
    have hno : ¬ ((0 : Nat) = 1) := by decide
    unfold State.atomAt
    dsimp only
    rw [htag', region_dram ha, if_neg Bool.false_ne_true]
    dsimp only
    rw [if_neg hno, hl']
    dsimp only
    rw [if_pos hgo]
    unfold State.atomNear
    dsimp only
    rw [cohOwn_held hdram hheld hst, unseen_dram _ hdram]
    dsimp only
    rw [not_touched_zero]
    rfl
  refine ⟨[(0x0F, 1)], _, ?_, unseen_trans (unseen_trans (sided_noted s n va).unseen (unseen_drainStores n _)) hseen, hline⟩
  unfold State.atomBytes
  dsimp only
  rw [if_neg (not_not_intro halign), hwatch]
  dsimp only
  rw [hg]
  dsimp only
  rw [hxl]
  dsimp only
  rw [hpages, foldX_dram _ ha, region_dram ha]
  dsimp only
  rw [hstored]
  unfold Res.bind
  dsimp only
  rw [hnear]
  rfl

theorem l2_done {n line : Nat} {s : State} {d : BitVec 5} {v : Word} (c0 : Core) (npc : Word) (evs : List (Nat × Nat))
    (hd : (s.core n).dbg = false) :
    (((s.modCore n (fun c => c.wg d v)).retireInsn n c0 npc false evs).core n).l2.get? line = (s.core n).l2.get? line := by
  have hwg : (s.modCore n (fun c => c.wg d v)).core n = (s.core n).wg d v := core_modCore_self ..
  have hl2 : ((s.core n).wg d v).l2 = (s.core n).l2 := by
    unfold Core.wg
    split <;> rfl
  obtain ⟨⟨cr, hcore⟩, -, -, -⟩ := retire_core (s := s.modCore n (fun c => c.wg d v)) (n := n) c0 npc false evs (by simp [hd])
  rw [hcore, hwg]
  exact congrArg (fun m => m.get? line) hl2

theorem storeTable_size : ∀ e ∈ storeTable, 0 < e.2 := by decide

theorem stx_wf {o : RRRF} {s s1 : State} (h : Runs (.stx o) o.core o.pred o.pn s s1) :
    (decide (16 ≤ o.f.toNat) || o.f.getLsbD 2) = false := by
  have hwf : (decide (o.f.toNat < 16) && !o.f.getLsbD 2) = true := h.wf
  rw [Bool.and_eq_true, Bool.not_eq_true'] at hwf
  obtain ⟨hlt, hbit⟩ := hwf
  rw [hbit, Bool.or_false]
  exact decide_eq_false (Nat.not_le.mpr (of_decide_eq_true hlt))

/-- Settles O5: stores and atomics on an owned line, and the instruction around any access. -/
theorem storeResults : Obligations.StoreResults := by
  unfold Obligations.StoreResults
  refine ⟨?_, ?_, ?_, ?_, ?_, ?_⟩
  · intro e he o s s1 l h a hreach hline hown
    obtain ⟨opc, hrow⟩ := exec_store e he
    obtain ⟨hw, hexec⟩ := hrow o
    exact answers_store_held (hexec s) hw h (preChk_u (s1.core o.core)) (storeTable_size e he) hreach hline hown
  · intro o s s1 l h a n hreach hline hown
    exact answers_store_held (show exec (.stx o) s = execStx o s from rfl) rfl h (preChk_u_of (stx_wf h) (s1.core o.core))
      (Nat.two_pow_pos _) hreach hline hown
  · intro e he o s s1 l h c a n old hreach halign hplace hown
    obtain ⟨op, hop, hrow⟩ := exec_atom e he
    obtain ⟨hw, hexec⟩ := hrow o
    have hsize : atomSize (op.toNat + 16 * b2n o.dbl) = n := atomSize_eq op o.dbl
    obtain ⟨evs, s2, hatom, hseen, hl2⟩ := atomBytes_held (aop := op.toNat + 16 * b2n o.dbl) (operand := c.rg o.s2) (compare := c.rg o.d)
      (hsize ▸ (by simp only [n]; split <;> decide)) (hsize ▸ hreach) (hsize ▸ halign) hplace hown
    have hd : (s2.core o.core).dbg = false := hseen.2.2.1.trans h.dbg
    rw [hsize, atomCode_eq, hop] at hl2
    rw [hsize] at hatom
    obtain ⟨hwrote, hpc⟩ := done_wroteG (s := s2) c (c.pc + 4) o.d old evs hd
    exact ⟨_, exec_atomic (hexec s) hw h hatom, wroteG_of_unseen hseen hwrote, hpc, (l2_done c (c.pc + 4) evs hd).trans hl2⟩
  · intro e he o s s1 s2 evs h hstore hd
    obtain ⟨opc, hrow⟩ := exec_store e he
    obtain ⟨hw, hexec⟩ := hrow o
    exact ⟨_, exec_store_done (hexec s) hw h (preChk_u (s1.core o.core)) hstore, (unseen_refl _ s2).endsAs_done _ hd evs⟩
  · intro o s s1 s2 evs h hstore hd
    exact ⟨_, exec_store_done (show exec (.stx o) s = execStx o s from rfl) rfl h (preChk_u_of (stx_wf h) (s1.core o.core)) hstore,
      (unseen_refl _ s2).endsAs_done _ hd evs⟩
  · intro e he o s s1 s2 v evs h hatom hd
    obtain ⟨op, hop, hrow⟩ := exec_atom e he
    obtain ⟨hw, hexec⟩ := hrow o
    rw [← hop] at hatom
    exact ⟨_, exec_atomic (hexec s) hw h hatom, done_wroteG _ _ o.d v evs hd⟩

end Sys2Proof.Machine
end

section
/-! What memory does leaves the cores, the dies and the homes alone: channels (11 R301-R312), the system cache (R313), error records
(20 R499) and the mirror pair's marks (16 R426). -/
namespace Sys2Proof.Machine
open Sys2Proof

/-- Cores, dies and homes are as before. -/
def keepsCaches (s t : State) : Prop := t.cores = s.cores ∧ t.dies = s.dies ∧ t.homes = s.homes

theorem keepsCaches_refl (s : State) : keepsCaches s s := ⟨rfl, rfl, rfl⟩

theorem keepsCaches_trans {s t u : State} (h1 : keepsCaches s t) (h2 : keepsCaches t u) : keepsCaches s u :=
  ⟨h2.1.trans h1.1, h2.2.1.trans h1.2.1, h2.2.2.trans h1.2.2⟩

theorem keepsCaches.core {s t : State} (h : keepsCaches s t) (n : Nat) : t.core n = s.core n := by rw [State.core, State.core, h.1]
theorem keepsCaches.die {s t : State} (h : keepsCaches s t) (d : Nat) : t.die d = s.die d := by rw [State.die, State.die, h.2.1]
theorem keepsCaches.home {s t : State} (h : keepsCaches s t) (k : Nat) : t.home k = s.home k := by rw [State.home, State.home, h.2.2]

theorem keepsCaches_foldl {α : Type} {f : State → α → State} (h : ∀ s a, keepsCaches s (f s a)) (l : List α) (s : State) :
    keepsCaches s (l.foldl f s) :=
  List.foldlRecOn l f (keepsCaches_refl s) (fun t ht a _ => keepsCaches_trans ht (h t a))

theorem keepsCaches_foldl_read {α : Type} {f : LineRead → α → LineRead} (h : ∀ r a, keepsCaches r.s (f r a).s) (l : List α) (r : LineRead) :
    keepsCaches r.s (l.foldl f r).s :=
  List.foldlRecOn l f (keepsCaches_refl r.s) (fun t ht a _ => keepsCaches_trans ht (h t a))

/-! Error records. -/

theorem keepsCaches_stopTrigger (s : State) (cause bank : Nat) : keepsCaches s (s.stopTrigger cause bank) := by
  unfold State.stopTrigger
  split <;> exact ⟨rfl, rfl, rfl⟩

theorem keepsCaches_writeRec (s : State) (e : ErrEvent) (ovf : Nat) : keepsCaches s (s.writeRec e ovf) := ⟨rfl, rfl, rfl⟩

theorem keepsCaches_bumpOvf (s : State) (x b : Nat) : keepsCaches s (s.bumpOvf x b) := by
  unfold State.bumpOvf
  dsimp only
  split <;> exact ⟨rfl, rfl, rfl⟩

theorem keepsCaches_recordErr (s : State) (e : ErrEvent) : keepsCaches s (s.recordErr e) := by
  unfold State.recordErr
  dsimp only
  split
  · exact ⟨rfl, rfl, rfl⟩
  · split
    · split
      · exact keepsCaches_trans (keepsCaches_writeRec ..) (keepsCaches_stopTrigger ..)
      · exact keepsCaches_writeRec ..
    · split
      · exact keepsCaches_bumpOvf ..
      · split
        · split
          · exact keepsCaches_trans (keepsCaches_writeRec ..) (keepsCaches_stopTrigger ..)
          · exact keepsCaches_writeRec ..
        · split <;> exact keepsCaches_stopTrigger ..

/-! Channels. -/

theorem keepsCaches_chanPut (s : State) (h wa : Nat) (c : ChWord) : keepsCaches s (s.chanPut h wa c) := by
  unfold State.chanPut
  split <;> exact ⟨rfl, rfl, rfl⟩

theorem keepsCaches_countCls (s : State) (h cls : Nat) : keepsCaches s (s.countCls h cls) := by
  unfold State.countCls
  split <;> exact ⟨rfl, rfl, rfl⟩

theorem keepsCaches_noteRead (s : State) (h line k : Nat) (e : EccOut) : keepsCaches s (s.noteRead h line k e) := by
  unfold State.noteRead
  dsimp only
  split
  · exact keepsCaches_trans (t := (s.countCls h e.cls).setRg _ .MEM_ELAST h) (keepsCaches_countCls s h e.cls) (keepsCaches_recordErr ..)
  · exact keepsCaches_countCls s h e.cls

theorem keepsCaches_readWordInto {h line : Nat} {fix : State → Nat → EccOut → State} (hfix : ∀ s k e, keepsCaches s (fix s k e))
    (a : LineRead) (k : Nat) : keepsCaches a.s (readWordInto h line fix a k).s := by
  unfold readWordInto
  dsimp only
  split
  · exact keepsCaches_trans (keepsCaches_noteRead ..) (hfix ..)
  · exact keepsCaches_noteRead ..

theorem keepsCaches_putLine (s : State) (h line : Nat) (d : LineData) (p : BitVec 16) : keepsCaches s (s.putLine h line d p) :=
  keepsCaches_foldl (fun _ _ => keepsCaches_chanPut ..) _ s

theorem keepsCaches_retire (s : State) (h : Nat) (e : MergeEntry) : keepsCaches s (s.retire h e) := by
  unfold State.retire
  dsimp only
  split
  · exact keepsCaches_trans (t := s.setChan h _) ⟨rfl, rfl, rfl⟩ (keepsCaches_putLine ..)
  · exact keepsCaches_trans (t := s.setChan h _) ⟨rfl, rfl, rfl⟩ (keepsCaches_trans
      (keepsCaches_foldl_read (keepsCaches_readWordInto (fun t _ _ => keepsCaches_refl t)) _ ⟨s.setChan h _, 0, 0, false⟩)
      (keepsCaches_putLine ..))

theorem keepsCaches_retireDue (s : State) (h line : Nat) : keepsCaches s (s.retireDue h line) := by
  have hrest : ∀ t, keepsCaches s t → keepsCaches s (if 48 < (t.chan h).mbuf.length then
      match (t.chan h).mbuf with
      | e :: _ => t.retire h e
      | [] => t
      else t) := by
    intro t ht
    split
    · split
      · exact keepsCaches_trans ht (keepsCaches_retire ..)
      · exact ht
    · exact ht
  unfold State.retireDue
  cases s.mergeOf h line with
  | none => exact hrest s (keepsCaches_refl s)
  | some e =>
    by_cases hfull : e.mask = BitVec.allOnes 128
    · simp only [if_pos hfull]
      exact hrest _ (keepsCaches_retire s h e)
    · simp only [if_neg hfull]
      exact hrest s (keepsCaches_refl s)

theorem keepsCaches_mbufRoom (s : State) (h line : Nat) : keepsCaches s (s.mbufRoom h line) := by
  unfold State.mbufRoom
  split
  · exact keepsCaches_refl s
  · split
    · exact keepsCaches_retire ..
    · exact keepsCaches_refl s

theorem keepsCaches_mergeInto (s : State) (h line : Nat) (mask : BitVec 128) (d : LineData) (p : BitVec 16) :
    keepsCaches s (s.mergeInto h line mask d p) := by
  refine keepsCaches_trans (keepsCaches_mbufRoom s h line) ?_
  unfold State.mergeInto
  dsimp only
  split <;> exact ⟨rfl, rfl, rfl⟩

theorem keepsCaches_chanWrite (s : State) (h line : Nat) (mask : BitVec 128) (d : LineData) (p : BitVec 16) :
    keepsCaches s (s.chanWrite h line mask d p) := keepsCaches_trans (keepsCaches_mergeInto ..) (keepsCaches_retireDue ..)

theorem keepsCaches_rewriteWord (s : State) (h line k : Nat) (e : EccOut) : keepsCaches s (s.rewriteWord h line k e) := by
  have hwrite : ∀ (p : Prop) [Decidable p] (mask : BitVec 128) (d : LineData) (q : BitVec 16),
      keepsCaches s (if p then s else s.chanWrite h line mask d q) := by
    intro p _ mask d q
    split
    · exact keepsCaches_refl s
    · exact keepsCaches_chanWrite ..
  exact hwrite ..

theorem keepsCaches_chanRead (s : State) (h line : Nat) : keepsCaches s (s.chanRead h line).s := by
  unfold State.chanRead
  dsimp only
  split <;> exact keepsCaches_foldl_read (keepsCaches_readWordInto (fun _ _ _ => keepsCaches_rewriteWord ..)) _ ⟨s, 0, 0, false⟩

/-! The targets behind a home. -/

theorem keepsCaches_mramPut (s : State) (wa : Nat) (c : ChWord) : keepsCaches s (s.mramPut wa c) := by
  unfold State.mramPut
  split <;> exact ⟨rfl, rfl, rfl⟩

theorem keepsCaches_mramReadWord (line : Nat) (a : LineRead) (k : Nat) : keepsCaches a.s (mramReadWord line a k).s := by
  unfold mramReadWord
  dsimp only
  split
  · exact keepsCaches_trans (keepsCaches_mramPut ..) (keepsCaches_recordErr ..)
  · exact keepsCaches_refl a.s

theorem keepsCaches_plainReadWord (line : Nat) (a : LineRead) (k : Nat) : keepsCaches a.s (plainReadWord line a k).s := keepsCaches_refl a.s

theorem keepsCaches_tgtRead (s : State) (line : Nat) : keepsCaches s (s.tgtRead line).s := by
  unfold State.tgtRead
  split
  · exact keepsCaches_chanRead ..
  · exact keepsCaches_foldl_read (keepsCaches_mramReadWord line) _ ⟨s, 0, 0, false⟩
  · exact keepsCaches_foldl_read (keepsCaches_plainReadWord line) _ ⟨s, 0, 0, false⟩

theorem keepsCaches_tgtWrite (s : State) (line : Nat) (mask : BitVec 128) (d : LineData) (p : BitVec 16) :
    keepsCaches s (s.tgtWrite line mask d p) := by
  unfold State.tgtWrite
  split
  · exact keepsCaches_chanWrite ..
  · exact keepsCaches_refl s
  · refine keepsCaches_trans (keepsCaches_tgtRead s line) (keepsCaches_foldl (fun t k => ?_) _ _)
    dsimp only
    split
    · exact keepsCaches_refl t
    · split
      · exact keepsCaches_mramPut ..
      · exact ⟨rfl, rfl, rfl⟩

/-! The system cache. -/

theorem keepsCaches_mscPut (s : State) (line : Nat) (v : DcLine) : keepsCaches s (s.mscPut line v) := by
  unfold State.mscPut
  dsimp only
  split
  · exact ⟨rfl, rfl, rfl⟩
  · split <;> exact ⟨rfl, rfl, rfl⟩

theorem mscPut_get (s : State) (line : Nat) (v : DcLine) : (s.mscPut line v).msc.get? line = some v := by
  unfold State.mscPut
  dsimp only
  split
  · exact KMap.get?_set_self ..
  · split <;> exact KMap.get?_set_self ..

theorem keepsCaches_mscEvent (s : State) (f : Fld) (h line : Nat) : keepsCaches s (s.mscEvent f h line) :=
  keepsCaches_trans (t := (s.satFd .MSC_ECNT f h).drawNat.2) ⟨rfl, rfl, rfl⟩ (keepsCaches_recordErr ..)

/-- What the read of an entry of the system cache's arrays has found is counted and recorded. -/
theorem keepsCaches_mscFound (s : State) (key k h line : Nat) (m : KMap DcLine) (f g : Fld) :
    keepsCaches s (if k = 0 then s.expose key
      else if k = 1 then (s.expose key).mscEvent f h line
      else { s.expose key with msc := m }.mscEvent g h line) := by
  split
  · exact ⟨rfl, rfl, rfl⟩
  · split
    · exact keepsCaches_trans (t := s.expose key) ⟨rfl, rfl, rfl⟩ (keepsCaches_mscEvent ..)
    · exact keepsCaches_trans (t := { s.expose key with msc := m }) ⟨rfl, rfl, rfl⟩ (keepsCaches_mscEvent ..)

/-- The read of a line's data after the check of its tags. -/
theorem keepsCaches_mscData (t : State) (h line : Nat) :
    keepsCaches t (if t.msc.has line then
      if t.upsetOf (upKey 9 h line) = 0 then t.expose (upKey 9 h line)
      else if t.upsetOf (upKey 9 h line) = 1 then (t.expose (upKey 9 h line)).mscEvent MSC_ECNT.CORR h line
      else { t.expose (upKey 9 h line) with msc := t.msc.erase line }.mscEvent MSC_ECNT.LINEINV h line
      else t) := by
  split
  · exact keepsCaches_mscFound t (upKey 9 h line) _ h line (t.msc.erase line) _ _
  · exact keepsCaches_refl t

theorem keepsCaches_mscCheck (s : State) (line : Nat) : keepsCaches s (s.mscCheck line) := by
  unfold State.mscCheck
  dsimp only [State.readEntry]
  by_cases hany : (s.msc.l.any (fun e => homeOf e.1 == homeOf line && mscSet e.1 == mscSet line)) = true
  · rw [if_pos hany]
    exact keepsCaches_trans (keepsCaches_mscFound s (upKey 10 (homeOf line) (mscSet line)) _ (homeOf line) line
      (s.msc.keep (fun l => !(homeOf l == homeOf line && mscSet l == mscSet line))) _ _) (keepsCaches_mscData _ (homeOf line) line)
  · rw [if_neg hany]
    exact keepsCaches_refl s

theorem keepsCaches_memRead (s : State) (line : Nat) : keepsCaches s (s.memRead line).s := by
  unfold State.memRead
  dsimp only
  split
  · refine keepsCaches_trans (keepsCaches_mscCheck s line) ?_
    split
    · exact ⟨rfl, rfl, rfl⟩
    · have hmiss : keepsCaches (s.mscCheck line) (((s.mscCheck line).satFd .MSC_CNT MSC_CNT.MISS (homeOf line)).tgtRead line).s :=
        keepsCaches_trans (t := (s.mscCheck line).satFd .MSC_CNT MSC_CNT.MISS (homeOf line)) ⟨rfl, rfl, rfl⟩ (keepsCaches_tgtRead ..)
      split
      · exact hmiss
      · exact keepsCaches_trans hmiss (keepsCaches_mscPut ..)
  · exact keepsCaches_tgtRead s line

/-! The mirror pair's marks and ships. -/

theorem keepsCaches_pairMark (s : State) (line : Nat) : keepsCaches s (s.pairMark line) := by
  refine keepsCaches_foldl (fun t n => ?_) _ s
  dsimp only
  split <;> exact ⟨rfl, rfl, rfl⟩

theorem keepsCaches_shipOut (s : State) (n line : Nat) : keepsCaches s (s.shipOut n line) := by
  unfold State.shipOut
  generalize hr : s.memRead line = r
  exact keepsCaches_trans (t := r.s) (hr ▸ keepsCaches_memRead s line) ⟨rfl, rfl, rfl⟩

theorem keepsCaches_pairTouch (s : State) (line : Nat) : keepsCaches s (s.pairTouch line) := by
  refine keepsCaches_trans (keepsCaches_foldl (fun t n => ?_) _ s) (keepsCaches_pairMark ..)
  split
  · generalize hu : t.shipOut n line = u
    exact keepsCaches_trans (t := u) (hu ▸ keepsCaches_shipOut t n line) ⟨rfl, rfl, rfl⟩
  · exact keepsCaches_refl t

theorem keepsCaches_memWrite (s : State) (line : Nat) (whole : Bool) (mask : BitVec 128) (d : LineData) (p : BitVec 16) :
    keepsCaches s (s.memWrite line whole mask d p) := by
  refine keepsCaches_trans (keepsCaches_trans (keepsCaches_pairTouch s line) (keepsCaches_tgtWrite _ line mask d p)) ?_
  unfold State.memWrite
  dsimp only
  split
  · exact keepsCaches_mscPut ..
  · exact ⟨rfl, rfl, rfl⟩

/-- A whole unmarked line that is written is in the system cache afterwards, where it is enabled (11 R313). -/
theorem memWrite_msc {s : State} {line : Nat} (hen : s.fb .MSC_CTL MSC_CTL.EN (homeOf line) = true) (mask : BitVec 128) (d : LineData) :
    (s.memWrite line true mask d 0).msc.get? line = some ⟨.s, d, 0⟩ := by
  unfold State.memWrite
  dsimp only
  rw [hen]
  exact mscPut_get ..

theorem writeGot_some (s : State) (line : Nat) (v : LineData × BitVec 16) :
    s.writeGot line (some v) = s.memWrite line true fullMask v.1 v.2 := rfl

theorem keepsCaches_writeGot (s : State) (line : Nat) (got : Option (LineData × BitVec 16)) : keepsCaches s (s.writeGot line got) := by
  unfold State.writeGot
  split
  · exact keepsCaches_memWrite ..
  · exact keepsCaches_refl s

end Sys2Proof.Machine
end

section
/-! A line that one core alone holds, in E or M: its die's copies, the snoop of its home, and the requests that flush and clean it
(10 R281, R285). -/
namespace Sys2Proof.Machine
open Sys2Proof

/-- Within its die core `n` alone holds a line, as `l`. -/
def onlyCopy (s : State) (n line : Nat) (l : L2Line) : Prop :=
  (s.core n).l2.get? line = some l ∧ (s.die (n / 18)).filt.get? line = some ⟨l.st, 1 <<< (n % 18)⟩ ∧
    (s.die (n / 18)).dcache.get? line = none

theorem bit_one_shift {i j : Nat} (hi : i < 18) : (((1 <<< j : Nat)) : BitVec 18).getLsbD i = decide (i = j) := by
  rw [BitVec.natCast_eq_ofNat, BitVec.getLsbD_ofNat, Nat.one_shiftLeft, Nat.testBit_two_pow]
  simp only [hi, decide_true, Bool.true_and, eq_comm]

theorem filter_range_eq {k m : Nat} (h : m < k) : (List.range k).filter (fun c => decide (c = m)) = [m] := by
  induction k with
  | zero => omega
  | succ k ih =>
    rw [List.range_succ, List.filter_append]
    by_cases hm : m = k
    · subst hm
      have hnone : (List.range m).filter (fun c => decide (c = m)) = [] := by
        rw [List.filter_eq_nil_iff]
        intro c hc
        have := List.mem_range.mp hc
        simp only [decide_eq_true_eq]
        omega
      rw [hnone]
      simp
    · rw [ih (by omega)]
      simp [Ne.symm hm]

theorem holdersOf_only {s : State} {n line : Nat} {l : L2Line} (h : onlyCopy s n line l) : s.holdersOf (n / 18) line = [n] := by
  obtain ⟨-, hfilt, -⟩ := h
  have hbits : (List.range 18).filter (fun c => (((1 <<< (n % 18) : Nat)) : BitVec 18).getLsbD c) = [n % 18] := by
    rw [← filter_range_eq (Nat.mod_lt n (by decide : 0 < 18))]
    refine List.filter_congr (fun c hc => bit_one_shift (List.mem_range.mp hc))
  have hcore : 18 * (n / 18) + n % 18 = n := Nat.div_add_mod n 18
  rw [State.holdersOf, hfilt]
  dsimp only
  rw [hbits, List.map_singleton, hcore]

theorem dieState_only {s : State} {n line : Nat} {l : L2Line} (h : onlyCopy s n line l) : s.dieState (n / 18) line = l.st.rank := by
  have hholders := holdersOf_only h
  obtain ⟨hl, hfilt, hdc⟩ := h
  rw [State.dieState, hholders, hfilt, hdc, List.foldl_cons, List.foldl_nil, Core.lineRank, hl]
  dsimp only
  omega

/-- The dirty copy of a line as a core holds it. -/
def L2Line.dirtyCopy (l : L2Line) : Option (LineData × BitVec 16) := if l.st = .m then some (l.data, l.poison) else none

theorem dieDirty_only {s : State} {n line : Nat} {l : L2Line} (h : onlyCopy s n line l) : s.dieDirty (n / 18) line = l.dirtyCopy := by
  have hholders := holdersOf_only h
  obtain ⟨hl, hfilt, hdc⟩ := h
  rw [State.dieDirty, hholders, hdc, List.findSome?_cons, hl, List.findSome?_nil, L2Line.dirtyCopy]
  dsimp only
  by_cases hm : l.st = .m
  · rw [if_pos hm]
  · rw [if_neg hm]

theorem dieDropAll_only {s : State} {n line : Nat} {l : L2Line} (h : onlyCopy s n line l) :
    (s.dieDropAll (n / 18) line).core n = (s.core n).dropLine line ∧ (s.dieDropAll (n / 18) line).homes = s.homes ∧
      (s.dieDropAll (n / 18) line).regs = s.regs := by
  rw [State.dieDropAll, holdersOf_only h]
  exact ⟨core_modCore_self s n (fun c => c.dropLine line), rfl, rfl⟩

theorem dieSetAll_only {s : State} {n line : Nat} {l : L2Line} (h : onlyCopy s n line l) (st : CState) :
    (s.dieSetAll (n / 18) line st).core n = { s.core n with l2 := (s.core n).l2.set line { l with st := st } } ∧
      (s.dieSetAll (n / 18) line st).regs = s.regs := by
  have hholders := holdersOf_only h
  obtain ⟨hl, -, -⟩ := h
  have hset : (s.core n).setLineState line st = { s.core n with l2 := (s.core n).l2.set line { l with st := st } } := by
    rw [Core.setLineState, hl]
  rw [State.dieSetAll, hholders]
  exact ⟨(core_modCore_self s n (fun c => c.setLineState line st)).trans hset, rfl⟩

/-! The arrays that the die and the home read for the line. -/

/-- The die's arrays have been read for a line of one core. -/
def State.dieRead (s : State) (n line : Nat) : State :=
  ((s.expose (upKey 6 (n / 18) line)).expose (upKey 3 n line)).expose (upKey 2 n line)

theorem dieCheck_only {s : State} {n line : Nat} {l : L2Line} (hn : n < 216) (h : onlyCopy s n line l) (hheld : holdsLine s n line l)
    (hup : s.upsets.get? (upKey 6 (n / 18) line) = none) : s.dieCheck (n / 18) line = s.dieRead n line := by
  obtain ⟨hl, hp, hup'⟩ := hheld
  have hhas : (s.die (n / 18)).filt.has line = true := by
    rw [KMap.has, h.2.1]
    rfl
  have hfilt : s.filtCheck (n / 18) line = s.expose (upKey 6 (n / 18) line) := by
    unfold State.filtCheck
    rw [if_pos hhas, readEntry_sound hup]
    rfl
  have honly : onlyCopy (s.expose (upKey 6 (n / 18) line)) n line l := h
  have hheld : holdsLine (s.expose (upKey 6 (n / 18) line)) n line l :=
    ⟨hl, hp, fun k hk => (upsets_expose_ne s (by unfold upKey; omega)).trans (hup' k hk)⟩
  have hdc : ((s.dieRead n line).die (n / 18)).dcache.get? line = none := h.2.2
  rw [State.dieCheck, hfilt, holdersOf_only honly, List.foldl_cons, List.foldl_nil, l2Check_sound hheld]
  unfold State.dcCheck
  rw [← State.dieRead, hdc]

/-- A snoop of the line at its die (10 R285). -/
theorem snoopDie_only {s : State} {n line : Nat} {l : L2Line} (hn : n < 216) (h : onlyCopy s n line l) (hst : 2 ≤ l.st.rank) (hheld : holdsLine s n line l)
    (hup : s.upsets.get? (upKey 6 (n / 18) line) = none) (hwb : (s.die (n / 18)).wb.any (fun e => e.line == line) = false) :
    s.snoopDie 1 (n / 18) line = (⟨0, l.dirtyCopy, false⟩, (s.dieRead n line).dieDropAll (n / 18) line) ∧
    s.snoopDie 3 (n / 18) line = if l.st = .m then (⟨2, l.dirtyCopy, false⟩, (s.dieRead n line).dieSetAll (n / 18) line .e)
      else (⟨l.st.rank, none, false⟩, s.dieRead n line) := by
  have hfind : ((s.dieRead n line).die (n / 18)).wb.find? (fun e => e.line == line) = none := by
    rw [List.find?_eq_none]
    exact List.any_eq_false.mp hwb
  have honly : onlyCopy (s.dieRead n line) n line l := h
  have hst0 : ¬ (l.st.rank = 0) := by omega
  constructor
  · unfold State.snoopDie
    dsimp only
    rw [dieCheck_only hn h hheld hup, hfind]
    dsimp only
    rw [dieState_only honly, dieDirty_only honly, if_neg hst0]
    rfl
  · have hm : (l.st.rank = 3) = (l.st = .m) := by cases l.st <;> simp [CState.rank]
    unfold State.snoopDie
    dsimp only
    rw [dieCheck_only hn h hheld hup, hfind]
    dsimp only
    rw [dieState_only honly, dieDirty_only honly, if_neg hst0]
    simp only [hm]

/-! The home's side (10 R281, R288). -/

/-- The home's directory entry and the die's arrays have been read for a line of one core. -/
def State.homeRead (s : State) (n line : Nat) : State := (s.expose (upKey 7 (homeOf line) line)).dieRead n line

/-- A request that needs no directory entry finds the home free. -/
theorem blocked_free {s : State} {h line op : Nat} (htrk : (s.home h).trk = []) (hrsv : (s.home h).rsv = []) (hop : needsEntry op = false) :
    s.blocked h op line = none := by
  simp [State.blocked, State.lineOpen, State.lineHeld, State.dirVictim, State.generalTrk, htrk, hrsv, hop]

theorem homeCheck_sound {s : State} {h line : Nat} {e : DirEntry} (htrk : (s.home h).trk = []) (hrsv : (s.home h).rsv = [])
    (hdir : (s.home h).dir.get? line = some e) (hup : s.upsets.get? (upKey 7 h line) = none) :
    s.homeCheck h line = (true, s.expose (upKey 7 h line)) := by
  have hhas : (s.home h).dir.has line = true := by
    rw [KMap.has, hdir]
    rfl
  have htrkCheck : s.trkCheck h = (true, s) := by
    rw [State.trkCheck, htrk, hrsv]
    rfl
  unfold State.homeCheck
  rw [htrkCheck]
  dsimp only
  unfold State.dirCheck
  rw [if_pos hhas, readEntry_sound hup]
  rfl

/-- A request of a home that is free, for a line of DRAM whose entry is sound, is served at once. -/
theorem homeDo_free {s : State} {op : Nat} {r : CohReq} {e : DirEntry} (hdram : region (r.line * 128) = .dram)
    (hin : r.line * 128 < s.installed) (hfree : homeFree s r.line) (hdir : (s.home (homeOf r.line)).dir.get? r.line = some e)
    (hup : s.upsets.get? (upKey 7 (homeOf r.line) r.line) = none) (hop : needsEntry op = false) :
    s.homeDo op r = (s.expose (upKey 7 (homeOf r.line) r.line)).homeServe (homeOf r.line) op r := by
  obtain ⟨htrk, hrsv, hgate⟩ := hfree
  have htrk' : ((s.expose (upKey 7 (homeOf r.line) r.line)).home (homeOf r.line)).trk = [] := htrk
  have hrsv' : ((s.expose (upKey 7 (homeOf r.line) r.line)).home (homeOf r.line)).rsv = [] := hrsv
  have hnone : (s.expose (upKey 7 (homeOf r.line) r.line)).rsvOf (homeOf r.line) r = none := by
    rw [State.rsvOf, hrsv']
    rfl
  unfold State.homeDo
  rw [homeGuard_dram hdram hin]
  dsimp only
  rw [homeCheck_sound htrk hrsv hdir hup]
  dsimp only
  rw [hgate, if_neg Bool.false_ne_true, hnone]
  dsimp only
  rw [hrsv', blocked_free htrk' hrsv' hop]
  rfl

/-- What `onlyHere` says of the home and the die of a line. -/
theorem onlyHere.onlyCopy {s : State} {n line : Nat} {l : L2Line} (h : onlyHere s n line l) : onlyCopy s n line l := by
  obtain ⟨⟨⟨hl, -⟩, -⟩, -, hfilt, hdc, -⟩ := h
  exact ⟨hl, hfilt, hdc⟩

/-- The snoops of a request at the line's one die. -/
theorem snoopAll_only {s : State} {n line : Nat} (kind : Nat) {a : SnpAns} {t : State} (hfence : s.dieFenced (n / 18) = false)
    (hsnoop : s.snoopDie kind (n / 18) line = (a, t)) (hwb : a.wbx = false) (h : Nat) (bcast : Bool) :
    s.snoopAll h line bcast [(n / 18, kind)] = ⟨t, a.dat, a.st⟩ := by
  rw [State.snoopAll, List.foldl_cons, List.foldl_nil]
  unfold State.snoopOne
  dsimp only
  rw [hfence, if_neg Bool.false_ne_true, hsnoop]
  dsimp only
  rw [hwb, if_neg Bool.false_ne_true]

/-- A flush or a clean is served as it is: no way is needed, and its sender need not be a holder. -/
theorem homeServe_cmo {s : State} {h op : Nat} {r : CohReq} (hop : op = opFLS ∨ op = opCLN) :
    s.homeServe h op r = (s.snoopAll h r.line (s.isBcast h r.line) (s.homeSnoops h op r.node r.line)).s.homeFinish h op r
      (s.snoopAll h r.line (s.isBcast h r.line) (s.homeSnoops h op r.node r.line)).got
      (s.snoopAll h r.line (s.isBcast h r.line) (s.homeSnoops h op r.node r.line)).ans := by
  obtain rfl | rfl := hop
  · unfold State.homeServe
    rfl
  · unfold State.homeServe
    rfl

/-- The state in which the home serves a request for the line: what holds of the line holds after the reads of its arrays. -/
theorem snoopDie_home {s : State} {n line : Nat} {l : L2Line} (hn : n < 216) (h : onlyHere s n line l) :
    (s.expose (upKey 7 (homeOf line) line)).snoopDie 1 (n / 18) line =
      (⟨0, l.dirtyCopy, false⟩, (s.homeRead n line).dieDropAll (n / 18) line) ∧
    (s.expose (upKey 7 (homeOf line) line)).snoopDie 3 (n / 18) line =
      if l.st = .m then (⟨2, l.dirtyCopy, false⟩, (s.homeRead n line).dieSetAll (n / 18) line .e)
      else (⟨l.st.rank, none, false⟩, s.homeRead n line) := by
  have honly := onlyHere.onlyCopy h
  obtain ⟨⟨⟨hl, hp, hup⟩, hst, -, -⟩, -, hfilt, hdc, hwb, -, -, hup6, -⟩ := h
  have hheld : holdsLine (s.expose (upKey 7 (homeOf line) line)) n line l :=
    ⟨hl, hp, fun k hk => (upsets_expose_ne s (by unfold upKey; omega)).trans (hup k hk)⟩
  have hup6' : (s.expose (upKey 7 (homeOf line) line)).upsets.get? (upKey 6 (n / 18) line) = none :=
    (upsets_expose_ne s (by unfold upKey; omega)).trans hup6
  exact snoopDie_only hn honly hst hheld hup6' hwb

theorem homeFinish_flush (s : State) (h : Nat) (r : CohReq) (got : Option (LineData × BitVec 16)) (ans : Nat) :
    s.homeFinish h opFLS r got ans = (HReply.cmp .ok, (s.writeGot r.line got).dirDrop h r.line) := by
  unfold State.homeFinish
  rfl

theorem homeFinish_clean (s : State) (h : Nat) (r : CohReq) (got : Option (LineData × BitVec 16)) (ans : Nat) :
    s.homeFinish h opCLN r got ans = (HReply.cmp .ok, s.writeGot r.line got) := by
  unfold State.homeFinish
  rfl

/-- The line after a flush: in no cache and in no directory entry, and written back where it was dirty. -/
def State.flushed (s : State) (n line : Nat) (l : L2Line) : State :=
  (((s.homeRead n line).dieDropAll (n / 18) line).writeGot line l.dirtyCopy).dirDrop (homeOf line) line

/-- The line after a clean: in E, and written back where it was dirty. -/
def State.cleaned (s : State) (n line : Nat) (l : L2Line) : State :=
  (if l.st = .m then (s.homeRead n line).dieSetAll (n / 18) line .e else s.homeRead n line).writeGot line l.dirtyCopy

/-- A flush of the line at its home (10 R281). -/
theorem homeDo_flush {s : State} {n : Nat} {r : CohReq} {l : L2Line} (hn : n < 216) (hdram : region (r.line * 128) = .dram)
    (hin : r.line * 128 < s.installed) (h : onlyHere s n r.line l) :
    s.homeDo opFLS r = (HReply.cmp .ok, s.flushed n r.line l) := by
  obtain ⟨hsnoop, -⟩ := snoopDie_home hn h
  obtain ⟨-, hfree, -, -, -, hdir, hfence, -, hup7⟩ := h
  obtain ⟨⟨st, ptrs, use⟩, hdir, he⟩ := Option.map_eq_some_iff.mp hdir
  obtain ⟨rfl, rfl⟩ := Prod.mk.inj he
  have hdir' : ((s.expose (upKey 7 (homeOf r.line) r.line)).home (homeOf r.line)).dir.get? r.line = some ⟨2, [n / 18], use⟩ := hdir
  have hfence' : (s.expose (upKey 7 (homeOf r.line) r.line)).dieFenced (n / 18) = false := hfence
  have hsnoops : (s.expose (upKey 7 (homeOf r.line) r.line)).homeSnoops (homeOf r.line) opFLS r.node r.line = [(n / 18, 1)] := by
    unfold State.homeSnoops
    rw [hdir']
    rfl
  rw [homeDo_free hdram hin hfree hdir hup7 rfl, homeServe_cmo (.inl rfl), hsnoops, snoopAll_only 1 hfence' hsnoop rfl, homeFinish_flush]
  rfl

/-- A clean of the line at its home (10 R281). -/
theorem homeDo_clean {s : State} {n : Nat} {r : CohReq} {l : L2Line} (hn : n < 216) (hdram : region (r.line * 128) = .dram)
    (hin : r.line * 128 < s.installed) (h : onlyHere s n r.line l) :
    s.homeDo opCLN r = (HReply.cmp .ok, s.cleaned n r.line l) := by
  obtain ⟨-, hsnoop⟩ := snoopDie_home hn h
  obtain ⟨-, hfree, -, -, -, hdir, hfence, -, hup7⟩ := h
  obtain ⟨⟨st, ptrs, use⟩, hdir, he⟩ := Option.map_eq_some_iff.mp hdir
  obtain ⟨rfl, rfl⟩ := Prod.mk.inj he
  have hdir' : ((s.expose (upKey 7 (homeOf r.line) r.line)).home (homeOf r.line)).dir.get? r.line = some ⟨2, [n / 18], use⟩ := hdir
  have hfence' : (s.expose (upKey 7 (homeOf r.line) r.line)).dieFenced (n / 18) = false := hfence
  have hsnoops : (s.expose (upKey 7 (homeOf r.line) r.line)).homeSnoops (homeOf r.line) opCLN r.node r.line = [(n / 18, 3)] := by
    unfold State.homeSnoops
    rw [hdir']
    rfl
  rw [homeDo_free hdram hin hfree hdir hup7 rfl, homeServe_cmo (.inr rfl), hsnoops, State.cleaned]
  by_cases hm : l.st = .m
  · rw [if_pos hm] at hsnoop
    rw [snoopAll_only 3 hfence' hsnoop rfl, homeFinish_clean, if_pos hm]
  · rw [if_neg hm] at hsnoop
    rw [snoopAll_only 3 hfence' hsnoop rfl, homeFinish_clean, if_neg hm, L2Line.dirtyCopy, if_neg hm]

/-! What these leave at the core, at the home and in the system cache. -/

theorem keepsCaches_homeRead (s : State) (n line : Nat) : keepsCaches s (s.homeRead n line) := ⟨rfl, rfl, rfl⟩

theorem dirDrop_msc (s : State) (h line : Nat) : (s.dirDrop h line).msc = s.msc := rfl

/-- After a flush the line is in no cache of the core and in no directory entry, and dirty bytes are in the system cache. -/
theorem flushed_facts {s : State} {n line : Nat} {l : L2Line} (h : onlyCopy s n line l) (hp : l.poison = 0) :
    (s.flushed n line l).core n = (s.core n).dropLine line ∧ ((s.flushed n line l).home (homeOf line)).dir.get? line = none ∧
      (l.st = .m → s.fb .MSC_CTL MSC_CTL.EN (homeOf line) = true → (s.flushed n line l).msc.get? line = some ⟨.s, l.data, 0⟩) := by
  have honly : onlyCopy (s.homeRead n line) n line l := h
  obtain ⟨hcore, -, hregs⟩ := dieDropAll_only honly
  have hwrite := keepsCaches_writeGot ((s.homeRead n line).dieDropAll (n / 18) line) line l.dirtyCopy
  refine ⟨(hwrite.core n).trans hcore, ?_, fun hm hen => ?_⟩
  · rw [State.flushed, State.dirDrop, State.home, State.setHome]
    dsimp only
    rw [KMap.getD_set_self]
    exact KMap.get?_erase_self ..
  · have hen' : ((s.homeRead n line).dieDropAll (n / 18) line).fb .MSC_CTL MSC_CTL.EN (homeOf line) = true := by
      rw [State.fb, State.fd, State.rg, hregs]
      exact hen
    rw [State.flushed, L2Line.dirtyCopy, if_pos hm, hp, dirDrop_msc, writeGot_some]
    exact memWrite_msc hen' fullMask l.data

/-- After a clean the core holds the line in E, and dirty bytes are in the system cache. -/
theorem cleaned_facts {s : State} {n line : Nat} {l : L2Line} (h : onlyCopy s n line l) (hst : 2 ≤ l.st.rank) (hp : l.poison = 0) :
    (∃ m, (s.cleaned n line l).core n = { s.core n with l2 := m } ∧ m.get? line = some { l with st := .e }) ∧
      (l.st = .m → s.fb .MSC_CTL MSC_CTL.EN (homeOf line) = true → (s.cleaned n line l).msc.get? line = some ⟨.s, l.data, 0⟩) := by
  have honly : onlyCopy (s.homeRead n line) n line l := h
  obtain ⟨hcore, hregs⟩ := dieSetAll_only honly .e
  by_cases hm : l.st = .m
  · rw [State.cleaned, if_pos hm]
    have hwrite := keepsCaches_writeGot ((s.homeRead n line).dieSetAll (n / 18) line .e) line l.dirtyCopy
    refine ⟨⟨_, (hwrite.core n).trans hcore, KMap.get?_set_self ..⟩, fun _ hen => ?_⟩
    have hen' : ((s.homeRead n line).dieSetAll (n / 18) line .e).fb .MSC_CTL MSC_CTL.EN (homeOf line) = true := by
      rw [State.fb, State.fd, State.rg, hregs]
      exact hen
    rw [L2Line.dirtyCopy, if_pos hm, hp, writeGot_some]
    exact memWrite_msc hen' fullMask l.data
  · have he : l.st = .e := by
      cases hl : l.st <;> simp_all [CState.rank]
    rw [State.cleaned, if_neg hm]
    have hwrite := keepsCaches_writeGot (s.homeRead n line) line l.dirtyCopy
    refine ⟨⟨(s.core n).l2, hwrite.core n, h.1.trans ?_⟩, fun hm' => absurd hm' hm⟩
    rw [← he]

/-! The line operation of an instruction (07 R202). -/

/-- A request past the caches of the core's die, whose write-back buffer does not have the line. -/
theorem homePast_free {s : State} {n op line : Nat} {q : CohReq} {r : HReply} {t : State} (hwb : s.inWb (n / 18) line = false)
    (hdo : s.homeDo op q = (r, t)) (hr : r.status = .ok) : s.homePast n op line q = (r, t) := by
  have hok : ¬ (Status.ok = Status.retry) := by decide
  unfold State.homePast
  rw [hwb, if_neg Bool.false_ne_true]
  unfold State.homeFor
  rw [hdo]
  dsimp only
  rw [hr, if_neg hok]

/-- A CMO on a line of normal coherent DRAM goes to the home. -/
theorem cmoAt_home {s : State} {n a op : Nat} {va : Word} {sec : Bool} {k : CmoKind} {t : State} (ha : a < 0x400000000000)
    (htag : s.tagBad n sec = false) (hwb : s.inWb (n / 18) (a / 128) = false)
    (hop : k = .clean ∧ op = opCLN ∨ (k = .flush ∨ k = .drop) ∧ op = opFLS)
    (hdo : s.homeDo op (s.cdaReq (n / 18) (a / 128) sec) = (HReply.cmp .ok, t)) :
    s.cmoAt n va ⟨a, 0, sec⟩ k = (.done .ok, t) := by
  have hpast := homePast_free hwb hdo rfl
  have hno : ¬ ((0 : Nat) = 1) := by decide
  unfold State.cmoAt
  dsimp only
  rw [htag, if_neg Bool.false_ne_true, region_dram ha]
  dsimp only
  rw [if_neg hno]
  obtain ⟨rfl, rfl⟩ | ⟨rfl | rfl, rfl⟩ := hop
  all_goals
    dsimp only
    rw [hpast]
    rfl

/-- The line operation of a core that holds no store, untranslated. -/
theorem cmoLine_flat {s : State} {n : Nat} {va : Word} {k : CmoKind} {t : State} (hreach : reaches s n va 1) (hsb : (s.core n).sbuf = [])
    (hat : s.cmoAt n va ⟨va.toNat, 0, (s.core n).dbgSec⟩ k = (.done .ok, t)) : s.cmoLine n va k = (.ok [], t) := by
  obtain ⟨hflat, -, hlt, -, hdbg, -⟩ := hreach
  have ha : va.toNat < 0x400000000000 := by omega
  obtain ⟨g, hg, hxl⟩ := translate_flat hflat ha
  have hwatch : (if k = .zero then s.watchHit n else (false, s)) = (false, s) := by
    split
    · exact watchHit_off hdbg
    · rfl
  have hno : ¬ ((0 : Nat) = 2) := by decide
  unfold State.cmoLine
  dsimp only
  rw [hwatch]
  dsimp only
  rw [hg]
  dsimp only
  rw [hxl]
  dsimp only
  rw [foldX_dram _ ha, if_neg hno, if_neg Bool.false_ne_true, sbDrain_empty hsb]
  dsimp only
  rw [Bool.not_true, if_neg Bool.false_ne_true, hat, region_dram ha]
  rfl

/-! LZERO of an owned line (07 R204). -/

theorem mem_keys_of_kfind {α : Type} {l : List (Nat × α)} {k : Nat} {v : α} (h : kfind k l = some v) : k ∈ l.map (fun e => e.1) := by
  induction l with
  | nil => cases h
  | cons e l ih =>
    obtain ⟨a, w⟩ := e
    rw [kfind] at h
    rw [List.map_cons, List.mem_cons]
    split at h
    · rename_i ha
      exact .inl ha.symm
    · exact .inr (ih h)

/-- No line leaves a set for one that is in it. -/
theorem setVictim_present {keys : List Nat} {inSet : Nat → Bool} {line : Nat} (hk : line ∈ keys) (hin : inSet line = true) (ways free : Nat) :
    setVictim keys inSet line ways free = none := by
  have hsame : (keys.filter inSet).contains line = true := List.contains_iff_mem.mpr (List.mem_filter.mpr ⟨hk, hin⟩)
  rw [setVictim, hsame]
  rfl

/-- A line that the core's L2 and its die's filter have takes no room. -/
theorem l2Room_present {s : State} {n line : Nat} {l : L2Line} {f : FiltEntry} (hl : (s.core n).l2.get? line = some l)
    (hf : (s.die (n / 18)).filt.get? line = some f) : s.l2Room n line false = some s.drawNat.2 := by
  have hvictim := setVictim_present (inSet := fun k => k % 1024 == line % 1024) (mem_keys_of_kfind hl) (beq_self_eq_true _) 16 s.drawNat.1
  have hhas : ((s.drawNat.2.die (n / 18)).filt.has line || decide ((List.filter (fun e => Config.filterSet e.1 % 16384 ==
      Config.filterSet line % 16384) (s.drawNat.2.die (n / 18)).filt.l).length < 24)) = true := by
    have h : (s.drawNat.2.die (n / 18)).filt.has line = true := by
      rw [KMap.has]
      exact (congrArg Option.isSome hf).trans rfl
    rw [h, Bool.true_or]
  have hvictim' : setVictim ((s.drawNat.2.core n).l2.l.map (fun e => e.1)) (fun k => k % 1024 == line % 1024) line 16 s.drawNat.1 = none :=
    hvictim
  unfold State.l2Room
  dsimp only
  rw [hvictim']
  dsimp only
  rw [if_neg Bool.false_ne_true]
  unfold State.filtRoom
  dsimp only
  rw [if_pos hhas]

/-- A line enters a core's L2. -/
theorem l2Put_core (s : State) (n line : Nat) (st : CState) (data : LineData) (p : BitVec 16) :
    ∃ x : L2Line, (s.l2Put n line st data p).core n = { s.core n with l2 := (s.core n).l2.set line x } ∧ x.st = st ∧ x.data = data ∧
      x.poison = p := by
  have hset : ∀ c : Core, (s.setCore n c).core n = c := fun c => by rw [State.core, State.setCore, KMap.getD_set_self]
  refine ⟨⟨freeWay (((s.core n).l2.l.filter (fun e => e.1 % 1024 == line % 1024)).map (fun e => e.2.way)) 16 0, st, data, p, false⟩,
    ?_, rfl, rfl, rfl⟩
  unfold State.l2Put
  dsimp only
  split <;> exact hset _

/-- To a program the core is as before, at the same instruction. -/
def sameProg (c d : Core) : Prop := sameSeen c d ∧ d.pc = c.pc ∧ d.dbg = c.dbg

theorem sameProg_refl (c : Core) : sameProg c c := ⟨sameSeen_refl c, rfl, rfl⟩

theorem sameProg_trans {a b c : Core} (h1 : sameProg a b) (h2 : sameProg b c) : sameProg a c :=
  ⟨sameSeen_trans h1.1 h2.1, h2.2.1.trans h1.2.1, h2.2.2.trans h1.2.2⟩

/-- What the caches of a core hold, its events and its streams are nothing that a program sees. -/
theorem sameProg_caches (c : Core) (m : KMap L2Line) (l1 : KMap Nat) : sameProg c { c with l2 := m, l1d := l1 } :=
  ⟨⟨rfl, rfl, rfl, rfl, ⟨rfl, rfl, rfl, rfl, rfl⟩, fun _ _ => rfl⟩, rfl, rfl⟩

theorem sided.sameProg {n : Nat} {s t : State} (h : sided n s t) : sameProg (s.core n) (t.core n) := by
  obtain ⟨hseen, hpc, hdbg, -⟩ := h.unseen
  exact ⟨hseen, hpc, hdbg⟩

/-- LZERO of a line that the core alone holds: zeros in M. -/
theorem cohZero_only {s : State} {n line : Nat} {l : L2Line} (hn : n < 216) (hdram : region (line * 128) = .dram)
    (hen : (s.core n).l2en = true) (h : onlyHere s n line l) (sec : Bool) :
    ∃ t x, s.cohZero n line sec = (.ok, t) ∧ sameProg (s.core n) (t.core n) ∧ (t.core n).l2.get? line = some x ∧
      x.st = .m ∧ x.data = 0 ∧ x.poison = 0 := by
  have honly := onlyHere.onlyCopy h
  obtain ⟨⟨hheld, hst, -, -⟩, -, hfilt, hdc, hwb, -, -, hup6, -⟩ := h
  have hsync : s.dcSync (n / 18) line = s := by
    unfold State.dcSync State.dcCheck
    rw [hdc]
    dsimp only
    rw [hdc]
    exact ite_self _
  have hroom : (s.dieRead n line).l2Room n line false = some (s.dieRead n line).drawNat.2 := l2Room_present honly.1 honly.2.1
  have honly' : onlyCopy (s.dieRead n line).drawNat.2 n line l := honly
  have hinwb : s.inWb (n / 18) line = false := hwb
  have hstate : 2 ≤ (s.dieRead n line).drawNat.2.dieState (n / 18) line := by
    rw [dieState_only honly']
    exact hst
  obtain ⟨hdrop, -, -⟩ := dieDropAll_only honly'
  obtain ⟨x, hput, hx⟩ := l2Put_core ((s.dieRead n line).drawNat.2.dieDropAll (n / 18) line) n line .m 0 0
  have hside := (sided_l1dFill n (((s.dieRead n line).drawNat.2.dieDropAll (n / 18) line).l2Put n line .m 0 0) line).1
  have hfill : (((((s.dieRead n line).drawNat.2.dieDropAll (n / 18) line).l2Put n line .m 0 0).l1dFill n line).core n).l2 =
      ((s.core n).l2.erase line).set line x := by
    obtain ⟨-, -, _, _, _, _, _, hcore⟩ := hside
    rw [hcore, hput, hdrop]
    rfl
  refine ⟨(((s.dieRead n line).drawNat.2.dieDropAll (n / 18) line).l2Put n line .m 0 0).l1dFill n line, x, ?_,
    sameProg_trans ?_ hside.sameProg, ?_, hx⟩
  · unfold State.cohZero
    dsimp only
    rw [hen, unseen_dram s hdram, hsync, hinwb, dieCheck_only hn honly hheld hup6, hroom]
    dsimp only
    rw [if_pos hstate]
    rfl
  · rw [hput, hdrop]
    exact sameProg_caches (s.core n) _ _
  · rw [hfill]
    exact KMap.get?_set_self ..

end Sys2Proof.Machine
end

section
/-! O9: cache maintenance and prefetches. -/
namespace Sys2Proof.Machine
open Sys2Proof

/-! The instructions as wholes. -/

/-- An instruction of the RRR form that runs carries out its body. -/
theorem exec_rrr {i : Instr} {o : RRR} {w : BitVec 32} {lv : Level} {s s1 : State} {body : Core → State → Out}
    (hexec : exec i s = s.issue (RRR.insn o w false lv) body) (hw : wordOf i = w) (h : Runs i o.core o.pred o.pn s s1)
    (hpre : preChk false lv (s1.core o.core) = none) : exec i s = body (s1.core o.core) s1 := exec_eq_body hexec hw h hpre

/-- A CMO instruction whose line operation ends without an exception. -/
theorem exec_cmo {i : Instr} {f : BitVec 7} {o : RRR} {lv : Level} {k : CmoKind} {s s1 s2 : State} {evs : List (Nat × Nat)}
    (hexec : exec i s = s.cmoInsn f o lv k) (hw : wordOf i = wRRR 0x3B f o) (h : Runs i o.core o.pred o.pn s s1)
    (hpre : preChk false lv (s1.core o.core) = none) (hline : s1.cmoLine o.core ((s1.core o.core).rg o.s1) k = (.ok evs, s2)) :
    exec i s = .next (s2.retireInsn o.core (s1.core o.core) ((s1.core o.core).pc + 4) false evs) := by
  have hrun := exec_rrr hexec hw h hpre
  rw [hline] at hrun
  exact hrun

theorem exec_idrop {o : RRR} {s s1 s2 : State} (h : Runs (.idrop o) o.core o.pred o.pn s s1)
    (hline : s1.idropLine o.core ((s1.core o.core).rg o.s1) = (.ok (), s2)) :
    exec (.idrop o) s = .next (s2.retireInsn o.core (s1.core o.core) ((s1.core o.core).pc + 4) false []) := by
  have hrun := exec_rrr (show exec (.idrop o) s = execIdrop o s from rfl) rfl h (preChk_u (s1.core o.core))
  rw [hline] at hrun
  exact hrun

theorem exec_swflush {o : RRR} {s s1 s2 : State} (h : Runs (.swflush o) o.core o.pred o.pn s s1) (hu : (s1.core o.core).lvl ≠ .u)
    (hline : s1.swFlush o.core ((s1.core o.core).rg o.s1) = (.ok (), s2)) :
    exec (.swflush o) s = .next (s2.retireInsn o.core (s1.core o.core) ((s1.core o.core).pc + 4) false []) := by
  have hrun := exec_rrr (show exec (.swflush o) s = execSwflush o s from rfl) rfl h (preChk_k hu)
  rw [hline] at hrun
  exact hrun

theorem exec_prefetch {i : Instr} {f : BitVec 7} {o : RRR} {own : Bool} {s s1 s2 : State} (hexec : exec i s = s.prefetchInsn f o own)
    (hw : wordOf i = wRRR 0x3B f o) (h : Runs i o.core o.pred o.pn s s1)
    (hline : (if (s1.core o.core).l1den then s1.prefetchLine o.core ((s1.core o.core).rg o.s1) own false else s1) = s2) :
    exec i s = .next (s2.retireInsn o.core (s1.core o.core) ((s1.core o.core).pc + 4) false []) := by
  have hrun := exec_rrr hexec hw h (preChk_u (s1.core o.core))
  rw [hline] at hrun
  exact hrun

/-- What completing leaves where the core is as before to a program. -/
theorem retire_caches {n : Nat} {c : Core} {u : State} (h : sameProg c (u.core n)) (hd : c.dbg = false) (c0 : Core) (npc : Word)
    (evs : List (Nat × Nat)) :
    let t := u.retireInsn n c0 npc false evs
    sameSeen c (t.core n) ∧ (t.core n).pc = npc ∧ (t.core n).l2 = (u.core n).l2 ∧ t.homes = u.homes ∧ t.msc = u.msc := by
  obtain ⟨hseen, -, hdbg⟩ := h
  obtain ⟨⟨cr, hcore⟩, -, -, hrest⟩ := retire_core (s := u) (n := n) c0 npc false evs (hdbg.trans hd)
  obtain ⟨hsame, hpc, -⟩ := retire_endsAs (s := u) (n := n) c0 npc false evs (hdbg.trans hd)
  refine ⟨sameSeen_trans hseen hsame, hpc, by rw [hcore], ?_, ?_⟩ <;> rw [hrest]

/-! LFLUSH, LDROP, LCLEAN and LZERO of a line that the core alone holds. -/

theorem homes_get {s t : State} (h : t.homes = s.homes) (k : Nat) : t.home k = s.home k := by rw [State.home, State.home, h]

/-- LFLUSH or LDROP. -/
theorem answers_flush {i : Instr} {f : BitVec 7} {o : RRR} {lv : Level} {k : CmoKind} {s s1 : State} {l : L2Line}
    (hexec : exec i s = s.cmoInsn f o lv k) (hw : wordOf i = wRRR 0x3B f o) (h : Runs i o.core o.pred o.pn s s1)
    (hpre : preChk false lv (s1.core o.core) = none) (hk : k = .flush ∨ k = .drop)
    (hreach : reaches s1 o.core ((s1.core o.core).rg o.s1) 1) (honly : onlyHere s1 o.core (((s1.core o.core).rg o.s1).toNat / 128) l) :
    Answers i s (fun t => sameSeen (s1.core o.core) (t.core o.core) ∧ (t.core o.core).pc = (s1.core o.core).pc + 4 ∧
      (t.core o.core).l2.get? (((s1.core o.core).rg o.s1).toNat / 128) = none ∧
      (t.home (homeOf (((s1.core o.core).rg o.s1).toNat / 128))).dir.get? (((s1.core o.core).rg o.s1).toNat / 128) = none ∧
      (l.st = .m → s1.fb .MSC_CTL MSC_CTL.EN (homeOf (((s1.core o.core).rg o.s1).toNat / 128)) = true →
        (t.msc.get? (((s1.core o.core).rg o.s1).toNat / 128)).map (fun v => v.data) = some l.data)) := by
  obtain ⟨-, hin, hlt, htag, -⟩ := id hreach
  obtain ⟨⟨⟨-, hp, -⟩, -, hsb, -⟩, -, -, -, hwb, -⟩ := id honly
  have ha : ((s1.core o.core).rg o.s1).toNat < 0x400000000000 := by omega
  have hdo : _ = (_, s1.flushed _ (((s1.core o.core).rg o.s1).toNat / 128) l) := homeDo_flush (r := s1.cdaReq (o.core / 18) (((s1.core o.core).rg o.s1).toNat / 128) (s1.core o.core).dbgSec) o.core.isLt
    (line_region ha) (show ((s1.core o.core).rg o.s1).toNat / 128 * 128 < s1.installed by omega) honly
  have hline := cmoLine_flat hreach hsb (cmoAt_home (k := k) (va := (s1.core o.core).rg o.s1) ha htag hwb (.inr ⟨hk, rfl⟩) hdo)
  obtain ⟨hcore, hdir, hmsc⟩ := flushed_facts (onlyHere.onlyCopy honly) hp
  obtain ⟨hseen, hpc, hl2, hhomes, hmsc'⟩ := retire_caches (n := o.core) (by rw [hcore]; exact sameProg_caches (s1.core o.core) _ _) h.dbg (s1.core o.core)
    ((s1.core o.core).pc + 4) []
  refine ⟨_, exec_cmo hexec hw h hpre hline, hseen, hpc, ?_, ?_, fun hm hen => ?_⟩
  · rw [hl2, hcore]
    exact KMap.get?_erase_self ..
  · rw [homes_get hhomes]
    exact hdir
  · rw [hmsc', hmsc hm hen]
    rfl

theorem answers_clean {o : RRR} {s s1 : State} {l : L2Line} (h : Runs (.lclean o) o.core o.pred o.pn s s1)
    (hreach : reaches s1 o.core ((s1.core o.core).rg o.s1) 1) (honly : onlyHere s1 o.core (((s1.core o.core).rg o.s1).toNat / 128) l) :
    Answers (.lclean o) s (fun t => sameSeen (s1.core o.core) (t.core o.core) ∧ (t.core o.core).pc = (s1.core o.core).pc + 4 ∧
      (t.core o.core).l2.get? (((s1.core o.core).rg o.s1).toNat / 128) = some { l with st := .e } ∧
      (l.st = .m → s1.fb .MSC_CTL MSC_CTL.EN (homeOf (((s1.core o.core).rg o.s1).toNat / 128)) = true →
        (t.msc.get? (((s1.core o.core).rg o.s1).toNat / 128)).map (fun v => v.data) = some l.data)) := by
  obtain ⟨-, hin, hlt, htag, -⟩ := id hreach
  obtain ⟨⟨⟨-, hp, -⟩, hst, hsb, -⟩, -, -, -, hwb, -⟩ := id honly
  have ha : ((s1.core o.core).rg o.s1).toNat < 0x400000000000 := by omega
  have hdo : _ = (_, s1.cleaned _ (((s1.core o.core).rg o.s1).toNat / 128) l) := homeDo_clean (r := s1.cdaReq (o.core / 18) (((s1.core o.core).rg o.s1).toNat / 128) (s1.core o.core).dbgSec) o.core.isLt
    (line_region ha) (show ((s1.core o.core).rg o.s1).toNat / 128 * 128 < s1.installed by omega) honly
  have hline := cmoLine_flat hreach hsb (cmoAt_home (va := (s1.core o.core).rg o.s1) ha htag hwb (.inl ⟨rfl, rfl⟩) hdo)
  obtain ⟨⟨m, hcore, hm⟩, hmsc⟩ := cleaned_facts (onlyHere.onlyCopy honly) hst hp
  obtain ⟨hseen, hpc, hl2, -, hmsc'⟩ := retire_caches (n := o.core) (by rw [hcore]; exact sameProg_caches (s1.core o.core) m _) h.dbg (s1.core o.core)
    ((s1.core o.core).pc + 4) []
  refine ⟨_, exec_cmo (show exec (.lclean o) s = execLclean o s from rfl) rfl h (preChk_u (s1.core o.core)) hline, hseen, hpc, ?_,
    fun hd hen => ?_⟩
  · rw [hl2, hcore]
    exact hm
  · rw [hmsc', hmsc hd hen]
    rfl

theorem answers_zero {o : RRR} {s s1 : State} {l : L2Line} (h : Runs (.lzero o) o.core o.pred o.pn s s1)
    (hreach : reaches s1 o.core ((s1.core o.core).rg o.s1) 1) (honly : onlyHere s1 o.core (((s1.core o.core).rg o.s1).toNat / 128) l) :
    Answers (.lzero o) s (fun t => sameSeen (s1.core o.core) (t.core o.core) ∧ (t.core o.core).pc = (s1.core o.core).pc + 4 ∧
      ((t.core o.core).l2.get? (((s1.core o.core).rg o.s1).toNat / 128)).map (fun m => (m.st, m.data, m.poison)) = some (.m, 0, 0)) := by
  obtain ⟨-, hin, hlt, htag, -, hen⟩ := id hreach
  obtain ⟨⟨-, -, hsb, -⟩, -⟩ := id honly
  have ha : ((s1.core o.core).rg o.s1).toNat < 0x400000000000 := by omega
  obtain ⟨t, x, hzero, hsame, hget, hst, hdata, hp⟩ := cohZero_only o.core.isLt (line_region ha) hen honly (s1.core o.core).dbgSec
  have hat : s1.cmoAt o.core ((s1.core o.core).rg o.s1) ⟨((s1.core o.core).rg o.s1).toNat, 0, (s1.core o.core).dbgSec⟩ .zero = (.done .ok, t) := by
    have hno : ¬ ((0 : Nat) = 1) := by decide
    unfold State.cmoAt
    dsimp only
    rw [htag, if_neg Bool.false_ne_true, region_dram ha]
    dsimp only
    rw [if_neg hno, hzero]
    rfl
  obtain ⟨hseen, hpc, hl2, -⟩ := retire_caches hsame h.dbg (s1.core o.core) ((s1.core o.core).pc + 4) []
  refine ⟨_, exec_cmo (show exec (.lzero o) s = execLzero o s from rfl) rfl h (preChk_u (s1.core o.core)) (cmoLine_flat hreach hsb hat), hseen,
    hpc, ?_⟩
  rw [hl2, hget, ← hst, ← hdata, ← hp]
  rfl

/-! IDROP, SWFLUSH and the prefetches. -/

theorem answers_idrop {o : RRR} {s s1 : State} (h : Runs (.idrop o) o.core o.pred o.pn s s1) (hflat : flat (s1.core o.core))
    (ha : ((s1.core o.core).rg o.s1).toNat < 0x400000000000) :
    Answers (.idrop o) s (fun t => endsAs o.core (s1.core o.core) ((s1.core o.core).pc + 4) s1 t ∧
      (t.core o.core).l1i.get? (((s1.core o.core).rg o.s1).toNat / 128) = none) := by
  obtain ⟨g, hg, hxl⟩ := translate_flat hflat ha
  have hline : s1.idropLine o.core ((s1.core o.core).rg o.s1) = (.ok (), s1.modCore o.core (fun c =>
      { c with l1i := c.l1i.erase (((s1.core o.core).rg o.s1).toNat / 128) })) := by
    unfold State.idropLine
    rw [hg]
    dsimp only
    rw [hxl]
    dsimp only
    rw [foldX_dram _ ha]
  have hseen : unseen o.core s1 (s1.modCore o.core (fun c => { c with l1i := c.l1i.erase (((s1.core o.core).rg o.s1).toNat / 128) })) :=
    unseen_modCore (sameSeen_refl (s1.core o.core)) rfl rfl
  obtain ⟨⟨cr, hcore⟩, -, -, -⟩ := retire_core (s := s1.modCore o.core (fun c =>
    { c with l1i := c.l1i.erase (((s1.core o.core).rg o.s1).toNat / 128) })) (n := o.core) (s1.core o.core) ((s1.core o.core).pc + 4) false []
    (hseen.2.2.1.trans h.dbg)
  refine ⟨_, exec_idrop h hline, hseen.endsAs_done _ h.dbg [], ?_⟩
  rw [hcore, core_modCore_self]
  exact KMap.get?_erase_self ..

/-- SWFLUSH whose line operation changes nothing that a program sees. -/
theorem answers_swflush {o : RRR} {s s1 s2 : State} (h : Runs (.swflush o) o.core o.pred o.pn s s1) (hu : (s1.core o.core).lvl ≠ .u)
    (hline : s1.swFlush o.core ((s1.core o.core).rg o.s1) = (.ok (), s2)) (hseen : unseen o.core s1 s2) (P : Core → Prop)
    (hP : ∀ c, c.l2 = (s2.core o.core).l2 → c.l1d = (s2.core o.core).l1d → P c) :
    Answers (.swflush o) s (fun t => endsAs o.core (s1.core o.core) ((s1.core o.core).pc + 4) s1 t ∧ P (t.core o.core)) := by
  obtain ⟨⟨cr, hcore⟩, -, -, -⟩ := retire_core (s := s2) (n := o.core) (s1.core o.core) ((s1.core o.core).pc + 4) false []
    (hseen.2.2.1.trans h.dbg)
  exact ⟨_, exec_swflush h hu hline, hseen.endsAs_done _ h.dbg [], hP _ (by rw [hcore]) (by rw [hcore])⟩

/-- What SWFLUSH does once the core holds no store. -/
theorem swFlush_cases {s : State} {n : Nat} (w : Word) (hsb : (s.core n).sbuf = []) :
    s.swFlush n w = if bitAt w 16 then
        match (s.core n).l2.l.find? (fun e => e.1 % 1024 == w.toNat / 16 % 1024 && e.2.way == w.toNat % 16) with
        | some e => match s.l2CleanInv n e.1 with | some s1 => (.ok (), s1) | none => (.stall, s)
        | none => (.ok (), s)
      else
        match (s.core n).l1d.l.find? (fun e => e.1 % 64 == w.toNat / 16 % 1024 && e.2 == w.toNat % 16) with
        | some e => (.ok (), s.modCore n (fun c => { c with l1d := c.l1d.erase e.1 }))
        | none => (.ok (), s) := by
  unfold State.swFlush
  rw [sbDrain_empty hsb]
  dsimp only
  rw [Bool.not_true, if_neg Bool.false_ne_true] <;> rfl

/-- A clean line that is not coherent leaves its L2 alone. -/
theorem l2CleanInv_clean {s : State} {n line : Nat} {l : L2Line} (h : holdsLine s n line l) (hnc : l.st = .nc) (hd : l.ncDirty = false) :
    s.l2CleanInv n line = some (((s.expose (upKey 3 n line)).expose (upKey 2 n line)).modCore n (fun c => c.dropLine line)) := by
  have hl' : (((s.expose (upKey 3 n line)).expose (upKey 2 n line)).core n).l2.get? line = some l := h.1
  unfold State.l2CleanInv
  dsimp only
  rw [l2Check_sound h, hl']
  dsimp only
  rw [if_pos hnc, hd, if_neg Bool.false_ne_true]

/-- A prefetch of a line that the core owns. -/
theorem prefetchLine_held {s : State} {n : Nat} {va : Word} {l : L2Line} (own : Bool) (hreach : reaches s n va 1)
    (h : holdsLine s n (va.toNat / 128) l) (hst : 2 ≤ l.st.rank) : sided n s (s.prefetchLine n va own false) := by
  obtain ⟨hflat, hin, hlt, htag, -⟩ := hreach
  have ha : va.toNat < 0x400000000000 := by omega
  obtain ⟨g, hg, hxl⟩ := translate_flat hflat ha
  have hline := line_region ha
  have hgo : ¬ ((0 : Nat) ≠ 0 ∨ (!cacheable va.toNat) = true ∨ s.tagBad n (s.core n).dbgSec = true ∨
      s.homeGuard (if own = true then opRDO else opRDS) (cdaNode (n / 18)) (s.core n).dbgSec (va.toNat / 128) ≠ .serve) := by
    rw [cacheable, region_dram ha, htag, homeGuard_dram hline (by omega)]
    decide
  have hread : (if own then s.cohOwn n (va.toNat / 128) (s.core n).dbgSec else s.cohLoad n (va.toNat / 128) (s.core n).dbgSec) =
      ⟨.ok, l.data, 0, (s.expose (upKey 3 n (va.toNat / 128))).expose (upKey 2 n (va.toNat / 128))⟩ := by
    cases own with
    | true => exact cohOwn_held hline h hst _
    | false => exact cohLoad_held hline h _
  unfold State.prefetchLine
  rw [hg]
  dsimp only
  rw [hxl]
  dsimp only
  rw [foldX_dram _ ha, if_neg hgo, hread]
  exact sided_trans (sided_trans (sided_expose n s _) (sided_expose n _ _)) (sided_l1dSide (upKey1_after_l2Check (h.2.2 1 (by decide)))).1

/-- A prefetch while L1D is disabled, and of a line that the core owns. -/
theorem answers_prefetch {i : Instr} {f : BitVec 7} {o : RRR} {own : Bool} {s s1 : State} (hexec : exec i s = s.prefetchInsn f o own)
    (hw : wordOf i = wRRR 0x3B f o) (h : Runs i o.core o.pred o.pn s s1) :
    ((s1.core o.core).l1den = false → Answers i s (endsAs o.core (s1.core o.core) ((s1.core o.core).pc + 4) s1)) ∧
    ∀ l : L2Line, reaches s1 o.core ((s1.core o.core).rg o.s1) 1 → ownsLine s1 o.core (((s1.core o.core).rg o.s1).toNat / 128) l →
      Answers i s (fun t => endsAs o.core (s1.core o.core) ((s1.core o.core).pc + 4) s1 t ∧
        (t.core o.core).l2.get? (((s1.core o.core).rg o.s1).toNat / 128) = some l) := by
  refine ⟨fun hoff => ?_, fun l hreach hown => ?_⟩
  · have hline : (if (s1.core o.core).l1den then s1.prefetchLine o.core ((s1.core o.core).rg o.s1) own false else s1) = s1 :=
      if_neg (ne_true_of_eq_false hoff)
    exact ⟨_, exec_prefetch hexec hw h hline, (unseen_refl _ s1).endsAs_done _ h.dbg []⟩
  · obtain ⟨hheld, hst, -⟩ := hown
    have hside : sided o.core s1 (if (s1.core o.core).l1den then s1.prefetchLine o.core ((s1.core o.core).rg o.s1) own false else s1) := by
      split
      · exact prefetchLine_held own hreach hheld hst
      · exact sided_refl ..
    refine ⟨_, exec_prefetch hexec hw h rfl, hside.unseen.endsAs_done _ h.dbg [], ?_⟩
    obtain ⟨-, -, hl2, -⟩ := retire_caches hside.sameProg h.dbg (s1.core o.core) ((s1.core o.core).pc + 4) []
    obtain ⟨-, -, _, _, _, _, _, hcore⟩ := hside
    rw [hl2, hcore]
    exact hheld.1

/-- Settles O9: the operations on lines that the core holds, and each instruction around any line operation. -/
theorem cacheInstructions : Obligations.CacheInstructions := by
  unfold Obligations.CacheInstructions
  refine ⟨?_, ?_, ?_, ?_, ?_, ?_, ?_, ?_, ?_, ?_, ?_⟩
  · simp only [List.forall_mem_cons, List.not_mem_nil, false_imp_iff, implies_true, and_true]
    exact ⟨fun o s s1 l h _ => answers_flush (show exec (.lflush o) s = execLflush o s from rfl) rfl h (preChk_u (s1.core o.core)) (.inl rfl),
      fun o s s1 l h hu => answers_flush (show exec (.ldrop o) s = execLdrop o s from rfl) rfl h (preChk_k (hu trivial)) (.inr rfl)⟩
  · exact fun o s s1 l h => answers_clean h
  · exact fun o s s1 l h => answers_zero h
  · exact fun o s s1 h => answers_idrop h
  · intro o s s1 h hu hsb w way set
    have hcases : s1.swFlush o.core w = _ := swFlush_cases w hsb
    refine ⟨fun hbit => ?_, fun hbit hfind => ?_, fun e hbit hfind hheld hnc hd => ?_⟩
    · rw [hbit, if_neg Bool.false_ne_true] at hcases
      cases hfind : (s1.core o.core).l1d.l.find? (fun e => e.1 % 64 == set && e.2 == way) with
      | none =>
        rw [hfind] at hcases
        exact answers_swflush h hu hcases (unseen_refl _ s1) (fun c => ∀ e : Nat × Nat, none = some e → c.l1d.get? e.1 = none) (fun _ _ _ e he => by cases he)
      | some e =>
        rw [hfind] at hcases
        refine answers_swflush h hu hcases (unseen_modCore (sameSeen_refl (s1.core o.core)) rfl rfl)
          (fun c => ∀ e', some e = some e' → c.l1d.get? e'.1 = none) (fun c _ hl1 e' he => ?_)
        obtain rfl := Option.some.inj he
        rw [hl1, core_modCore_self]
        exact KMap.get?_erase_self ..
    · rw [hbit, if_pos rfl, hfind] at hcases
      exact ⟨_, exec_swflush h hu hcases, (unseen_refl _ s1).endsAs_done _ h.dbg []⟩
    · rw [hbit, if_pos rfl, hfind] at hcases
      dsimp only at hcases
      rw [l2CleanInv_clean hheld hnc hd] at hcases
      refine answers_swflush h hu hcases (unseen_trans (sided_trans (sided_expose _ s1 _) (sided_expose _ _ _)).unseen
        (unseen_modCore (sameSeen_refl (s1.core o.core)) rfl rfl)) (fun c => c.l2.get? e.1 = none) (fun c hl2 _ => ?_)
      rw [hl2, core_modCore_self]
      exact KMap.get?_erase_self ..
  · simp only [List.forall_mem_cons, List.not_mem_nil, false_imp_iff, implies_true, and_true]
    constructor
    · intro o s s1 l h
      obtain ⟨hoff, hheld⟩ := answers_prefetch (show exec (.prefetchR o) s = execPrefetchR o s from rfl) rfl h
      exact ⟨hoff, hheld l⟩
    · intro o s s1 l h
      obtain ⟨hoff, hheld⟩ := answers_prefetch (show exec (.prefetchW o) s = execPrefetchW o s from rfl) rfl h
      exact ⟨hoff, hheld l⟩
  · simp only [List.forall_mem_cons, List.not_mem_nil, false_imp_iff, implies_true, and_true]
    refine ⟨?_, ?_, ?_, ?_⟩
    · exact fun o s s1 s2 evs h _ hline hd => ⟨_, exec_cmo (show exec (.lflush o) s = execLflush o s from rfl) rfl h (preChk_u (s1.core o.core)) hline,
        (unseen_refl _ s2).endsAs_done _ hd evs⟩
    · exact fun o s s1 s2 evs h _ hline hd => ⟨_, exec_cmo (show exec (.lclean o) s = execLclean o s from rfl) rfl h (preChk_u (s1.core o.core)) hline,
        (unseen_refl _ s2).endsAs_done _ hd evs⟩
    · exact fun o s s1 s2 evs h hu hline hd => ⟨_, exec_cmo (show exec (.ldrop o) s = execLdrop o s from rfl) rfl h (preChk_k (hu trivial)) hline,
        (unseen_refl _ s2).endsAs_done _ hd evs⟩
    · exact fun o s s1 s2 evs h _ hline hd => ⟨_, exec_cmo (show exec (.lzero o) s = execLzero o s from rfl) rfl h (preChk_u (s1.core o.core)) hline,
        (unseen_refl _ s2).endsAs_done _ hd evs⟩
  · exact fun o s s1 s2 h hline hd => ⟨_, exec_idrop h hline, (unseen_refl _ s2).endsAs_done _ hd []⟩
  · intro o s s1 h hu
    have hrun := exec_rrr (show exec (.idropall o) s = execIdropall o s from rfl) rfl h (preChk_k hu)
    have hseen : unseen o.core s1 (s1.modCore o.core Core.dropL1i) := unseen_modCore (sameSeen_refl (s1.core o.core)) rfl rfl
    obtain ⟨⟨cr, hcore⟩, -, -, -⟩ := retire_core (s := s1.modCore o.core Core.dropL1i) (n := o.core) (s1.core o.core)
      ((s1.core o.core).pc + 4) false [] (hseen.2.2.1.trans h.dbg)
    refine ⟨_, hrun, ?_, hseen.endsAs_done _ h.dbg []⟩
    rw [hcore, core_modCore_self]
    rfl
  · exact fun o s s1 s2 h hu hline hd => ⟨_, exec_swflush h hu hline, (unseen_refl _ s2).endsAs_done _ hd []⟩
  · simp only [List.forall_mem_cons, List.not_mem_nil, false_imp_iff, implies_true, and_true]
    constructor
    · exact fun o s s1 s2 h hline hd => ⟨_, exec_prefetch (show exec (.prefetchR o) s = execPrefetchR o s from rfl) rfl h hline,
        (unseen_refl _ s2).endsAs_done _ hd []⟩
    · exact fun o s s1 s2 h hline hd => ⟨_, exec_prefetch (show exec (.prefetchW o) s = execPrefetchW o s from rfl) rfl h hline,
        (unseen_refl _ s2).endsAs_done _ hd []⟩

end Sys2Proof.Machine
end

section
/-! O21: release, halt, resume, reset and debug execution of a core. -/
namespace Sys2Proof.Machine
open Sys2Proof

theorem halted_of_alive {s : State} (h : s.alive = true) : s.err.halted = false := by
  unfold State.alive State.dead at h
  cases hh : s.err.halted with
  | false => rfl
  | true =>
    rw [hh] at h
    simp at h

theorem answers_release {s : State} {n : CoreNo} (halive : s.alive = true) (hrun : (s.core n).run = .held) (hdie : s.dieHolding n = false) :
    Answers (.coreRelease n) s (fun t => (t.core n).run = .run ∧ (t.core n).release = true ∧
      (t.core n).pc = s.rg .C_START n &&& 0xFFFFFFFFFFFFFC) := by
  obtain ⟨b, hb⟩ := released_core s n
  exact ⟨_, exec_coreRelease halive hrun hdie, by rw [hb], by rw [hb], by rw [hb]⟩

theorem answers_haltreq {s : State} {n : CoreNo} (halive : s.alive = true) : Answers (.haltreq n) s (fun t => (t.core n).haltReq = true) :=
  ⟨s.coreHaltReq n, if_pos halive, by beta_reduce; rw [State.coreHaltReq, core_modCore_self]⟩

theorem answers_debugHalt {s : State} {n : CoreNo} (hb : s.atBoundary n = true) (hreq : (s.core n).haltReq = true)
    (hdbg : s.dbgControl n = true) :
    Answers (.debugHalt n) s (fun t => (t.core n).run = .halted ∧ (t.core n).haltReq = false ∧ (t.core n).pc = (s.core n).pc) := by
  have hgo : (s.atBoundary n && (s.core n).haltReq && s.dbgControl n) = true := by rw [hb, hreq, hdbg]; rfl
  refine ⟨s.modCore n (fun c => { c with run := .halted, haltReq := false }), if_pos hgo, ?_⟩
  beta_reduce
  rw [core_modCore_self]
  exact ⟨rfl, rfl, rfl⟩

/-- A core at which no instruction waits in C_DBGINST and no RESUME is left as it is. -/
theorem debugCore_idle {s : State} {n : Nat} (h : (s.core n).debugDue = false) : s.debugCore n = s := by
  unfold State.debugCore
  split
  · rw [h, Bool.and_false, if_neg Bool.false_ne_true]
  · rfl

theorem answers_resume {s : State} {n : CoreNo} (halive : s.alive = true) (hrun : (s.core n).run = .halted) (hctl : s.dbgControl n = true)
    (hdbg : (s.core n).dbg = false) (hq : (s.core n).dbgQ = []) :
    Answers (.resume n) s (fun t => (t.core n).run = .run ∧ (t.core n).pc = (s.core n).pc) := by
  have hno : ¬ (((s.core n).dbg || !(s.core n).dbgQ.isEmpty) = true) := by
    rw [hdbg, hq]
    exact Bool.false_ne_true
  have hcore : (s.coreResume n).core n = { s.core n with run := .run, resumeDue := false } := by
    rw [State.coreResume, if_pos ⟨hrun, hctl⟩, core_modCore_self, if_neg hno]
  refine ⟨(s.coreResume n).debugCore n, if_pos halive, ?_⟩
  beta_reduce
  rw [debugCore_idle (by rw [hcore]; rfl), hcore]
  exact ⟨rfl, rfl⟩

theorem answers_creset {s : State} {n : CoreNo} (halive : s.alive = true) (hdom : s.domState n < 3) (hrun : (s.core n).run ≠ .resetting) :
    Answers (.creset n) s (fun t => (t.core n).run = .resetting ∧ (t.core n).wait = .none) := by
  have hgo : ¬ ((decide (3 ≤ s.domState n) || s.err.halted || (s.core n).run == .resetting) = true) := by
    rw [halted_of_alive halive, decide_eq_false (Nat.not_le.mpr hdom), beq_eq_false_iff_ne.mpr hrun]
    exact Bool.false_ne_true
  have hbegin : ∃ u : State, s.coreBeginReset n = u.modCore n (fun c =>
      { c with run := .resetting, wait := .none, reply := none, cleaning := true }) := ⟨_, if_neg hgo⟩
  obtain ⟨u, hu⟩ := hbegin
  refine ⟨s.coreBeginReset n, if_pos halive, ?_⟩
  beta_reduce
  rw [hu, core_modCore_self]
  exact ⟨rfl, rfl⟩

theorem answers_coreResetDone {s : State} {n : CoreNo} (halive : s.alive = true) (hrun : (s.core n).run = .resetting)
    (hdie : s.dieHolding n = false) (hsb : (s.core n).sbuf = []) (hl2 : (s.core n).l2.l = []) :
    Answers (.coreResetDone n) s (fun t => t.core n = Core.reset ∧ t.fence (coreNode n) = 0 ∧
      t.genOf (coreNode n) = (s.genOf (coreNode n) + 1) % 16) :=
  ⟨_, exec_coreResetDone halive hrun hdie hsb hl2, coreEndReset_facts (s.modCore n (fun c => { c with l1d := .empty })) n.isLt⟩

/-! C_DBGINST (03 R99). -/

/-- An instruction in C_DBGINST completes without moving the halted PC. -/
theorem retire_debug {n : Nat} {s : State} (c0 : Core) (npc : Word) (evs : List (Nat × Nat)) (hd : (s.core n).dbg = true) :
    ∃ cr, (s.retireInsn n c0 npc false evs).core n =
      { s.core n with creg := cr, wait := .none, reply := none, rbuf := .empty, dbg := false, pmEv := .empty } := by
  obtain ⟨⟨cr, -, hcore⟩, -⟩ := counted_count n s c0 true evs
  refine ⟨cr, ?_⟩
  rw [State.retireInsn, core_modCore_self, hcore]
  simp [hd]

/-- An instruction that runs in C_DBGINST is not fetched (03 R99). -/
theorem issueOr_debug {s s0 : State} {i : Insn} {c : Core} (off : State → Out) (body : Core → State → Out) (halive : s.alive = true)
    (hc : s.core i.n = c) (hdbg : c.dbg = true) (hwait : c.wait = .none) (hs0 : s.modCore i.n (fun c => { c with word := i.w }) = s0)
    (hpre : i.pre (s0.core i.n) = none) (hex : (s0.core i.n).executes i.pred i.pn = true) :
    s.issueOr i off body = body (s0.core i.n) s0 := by
  have hcan : s.canIssue i.n = true := by rw [State.canIssue, hc, hdbg, if_pos rfl, halive]
  simp [State.issueOr, hs0, hc, hcan, hwait, hdbg, Core.mine, State.gated, hpre, hex]

/-- An ADD in C_DBGINST is carried out on the halted core, whose PC stays. -/
theorem execCore_add_debug {s : State} {o : RRR} {c : Core} (halive : s.alive = true) (hc : s.core o.core = c) (hdbg : c.dbg = true)
    (hwait : c.wait = .none) (hex : c.executes o.pred o.pn = true) :
    ∃ t cr, execCore (.add o) s = .next t ∧ t.core o.core = { c.wg o.d (c.rg o.s1 + c.rg o.s2) with
      word := wRRR 0x01 0x00 o, creg := cr, wait := .none, reply := none, rbuf := .empty, dbg := false, pmEv := .empty } := by
  obtain ⟨s0, hs0⟩ : ∃ s0, s.modCore o.core (fun c => { c with word := wRRR 0x01 0x00 o }) = s0 := ⟨_, rfl⟩
  have hc0 : s0.core o.core = { c with word := wRRR 0x01 0x00 o } := by rw [← hs0, core_modCore_self, hc]
  have hrun : execCore (.add o) s = _ := issueOr_debug (i := RRR.insn o (wRRR 0x01 0x00 o) false .u) (s0 := s0) _ _ halive hc hdbg hwait
    hs0 (preChk_u (s0.core o.core)) ((congrArg (fun c => c.executes o.pred o.pn) hc0).trans hex)
  have hwg : (s0.modCore o.core (fun c => c.wg o.d (c.rg o.s1 + c.rg o.s2))).core o.core =
      { c.wg o.d (c.rg o.s1 + c.rg o.s2) with word := wRRR 0x01 0x00 o } := by
    rw [core_modCore_self, hc0]
    unfold Core.wg
    split <;> rfl
  obtain ⟨cr, hcr⟩ := retire_debug (s := s0.modCore o.core (fun c => c.wg o.d (c.rg o.s1 + c.rg o.s2))) (n := o.core) (s0.core o.core)
    ((s0.core o.core).pc + 4) [] (by simp [hc0, hdbg])
  rw [hwg] at hcr
  exact ⟨_, cr, hrun, hcr⟩

/-- An ADD that the debugger issues is done at once. -/
theorem debugIssue_add {s : State} {n : CoreNo} {o : RRR} {w : BitVec 32} (halive : s.alive = true)
    (hwait : (s.core n).wait = .none) (hdec : decodeWord n w = some (.add o)) (henc : encode (.add o) = some w) (hcore : o.core = n)
    (hex : (s.core n).executes o.pred o.pn = true) :
    ∃ t cr, s.debugIssue n w = (true, t) ∧ t.core n =
      { (s.core n).wg o.d ((s.core n).rg o.s1 + (s.core n).rg o.s2) with
        word := w, creg := cr, wait := .none, reply := none, rbuf := .empty, dbg := false, pmEv := .empty } := by
  subst hcore
  obtain rfl : wRRR 0x01 0x00 o = w := Option.some.inj henc
  obtain ⟨s1, hs1⟩ : ∃ s1, s.modCore o.core (fun c =>
    { c with dbg := true, word := if c.wait = .none then ~~~(wRRR 0x01 0x00 o) else c.word }) = s1 := ⟨_, rfl⟩
  have hc1 : s1.core o.core = { s.core o.core with dbg := true, word := ~~~(wRRR 0x01 0x00 o) } := by
    rw [← hs1, core_modCore_self, if_pos hwait]
  have halive1 : s1.alive = true := by
    rw [← hs1]
    exact halive
  obtain ⟨t, cr, hrun, ht⟩ := execCore_add_debug halive1 hc1 rfl hwait hex
  have hgo : ¬ ((t.core o.core).wait = .none ∧ (t.core o.core).word ≠ wRRR 0x01 0x00 o) := by
    rw [ht]
    exact fun h => h.2 rfl
  have hwg : ∀ (c : Core) (d : BitVec 5) (v : Word), (({ c with dbg := true, word := ~~~(wRRR 0x01 0x00 o) } : Core).wg d v) =
      { c.wg d v with dbg := true, word := ~~~(wRRR 0x01 0x00 o) } := by
    intro c d v
    unfold Core.wg
    split <;> rfl
  refine ⟨t.modCore o.core Core.endDebug, cr, ?_, ?_⟩
  · unfold State.debugIssue
    dsimp only
    rw [hdec, hs1]
    dsimp only
    rw [hrun]
    dsimp only
    rw [if_neg hgo]
  · rw [core_modCore_self, ht, hwg]
    rfl

theorem runDebug_idle {s : State} {n : CoreNo} (hdbg : (s.core n).dbg = false) (hq : (s.core n).dbgQ = []) (hres : (s.core n).resumeDue = false)
    (k : Nat) : s.runDebug n k = s := by
  cases k with
  | zero => rfl
  | succ k =>
    rw [State.runDebug]
    dsimp only
    rw [hdbg, if_neg Bool.false_ne_true, hq]
    dsimp only
    rw [hres, if_neg Bool.false_ne_true]

/-- One instruction waits in C_DBGINST and is carried out at once. -/
theorem debugCore_one {s t : State} {n : CoreNo} {w : BitVec 32} (halive : s.alive = true) (hrun : (s.core n).run = .halted)
    (hdbg : (s.core n).dbg = false) (hq : (s.core n).dbgQ = [w]) (hissue : s.debugIssue n w = (true, t))
    (hend : ((t.modCore n (fun x => { x with dbgQ := x.dbgQ.drop 1 })).core n).dbg = false ∧
      ((t.modCore n (fun x => { x with dbgQ := x.dbgQ.drop 1 })).core n).dbgQ = [] ∧
      ((t.modCore n (fun x => { x with dbgQ := x.dbgQ.drop 1 })).core n).resumeDue = false) :
    s.debugCore n = t.modCore n (fun x => { x with dbgQ := x.dbgQ.drop 1 }) := by
  obtain ⟨hdbg', hq', hres'⟩ := hend
  have hdue : (s.alive && (s.core n).debugDue) = true := by
    rw [halive, Core.debugDue, hrun, hdbg, hq]
    rfl
  unfold State.debugCore
  rw [dif_pos n.isLt, if_pos hdue, State.runDebug]
  dsimp only
  rw [hdbg, if_neg Bool.false_ne_true, hq]
  dsimp only
  rw [hissue]
  dsimp only
  rw [if_pos rfl, hdbg', if_neg Bool.false_ne_true, runDebug_idle hdbg' hq' hres']

theorem answers_dbginst {s : State} {n : CoreNo} {o : RRR} {w : BitVec 32} (halive : s.alive = true) (hrun : (s.core n).run = .halted)
    (hctl : s.dbgControl n = true) (hdbg : (s.core n).dbg = false) (hq : (s.core n).dbgQ = []) (hres : (s.core n).resumeDue = false)
    (hwait : (s.core n).wait = .none) (hdec : decodeWord n w = some (.add o)) (henc : encode (.add o) = some w) (hcore : o.core = n)
    (hex : (s.core n).executes o.pred o.pn = true) :
    Answers (.cDbginst n w) s (fun t =>
      (t.core n).rg o.d = (if o.d = 0 then 0 else (s.core n).rg o.s1 + (s.core n).rg o.s2) ∧
      (t.core n).pc = (s.core n).pc ∧ (t.core n).run = .halted ∧ (t.core n).dbg = false ∧ (t.core n).dbgQ = []) := by
  obtain ⟨s1, hs1⟩ : ∃ s1, s.modCore n (fun c => { c with dbgQ := c.dbgQ ++ [w] }) = s1 := ⟨_, rfl⟩
  have hc1 : s1.core n = { s.core n with dbgQ := [w] } := by
    rw [← hs1, core_modCore_self, hq]
    rfl
  have halive1 : s1.alive = true := by
    rw [← hs1]
    exact halive
  have hgo : (s.alive && (s.core n).run == .halted && s.dbgControl n) = true := by rw [halive, hrun, hctl]; rfl
  obtain ⟨t, cr, hissue, ht⟩ := debugIssue_add halive1 (by rw [hc1]; exact hwait) hdec henc hcore (by rw [hc1]; exact hex)
  have hend : (t.modCore n (fun x => { x with dbgQ := x.dbgQ.drop 1 })).core n =
      { (s.core n).wg o.d ((s.core n).rg o.s1 + (s.core n).rg o.s2) with
        word := w, creg := cr, wait := .none, reply := none, rbuf := .empty, dbg := false, pmEv := .empty, dbgQ := [] } := by
    rw [core_modCore_self, ht, hc1]
    unfold Core.wg
    split <;> rfl
  have hdebug : s1.debugCore n = t.modCore n (fun x => { x with dbgQ := x.dbgQ.drop 1 }) := by
    refine debugCore_one halive1 (by rw [hc1]; exact hrun) (by rw [hc1]; exact hdbg) (by rw [hc1]) hissue ?_
    rw [hend]
    exact ⟨rfl, rfl, (wg_resumeDue ..).trans hres⟩
  have hexec : exec (.cDbginst n w) s = .next (s1.debugCore n) := by
    rw [← hs1]
    exact if_pos hgo
  refine ⟨s1.debugCore n, hexec, ?_⟩
  beta_reduce
  rw [hdebug, hend]
  refine ⟨?_, ?_, ?_, rfl, rfl⟩
  · exact (rg_of_g (c := (s.core n).wg o.d ((s.core n).rg o.s1 + (s.core n).rg o.s2)) rfl o.d).trans (rg_wg_self _ _ _)
  · exact (wg_pc ..)
  · exact (wg_run ..).trans hrun

/-! CLEANINV_DONE (07 R201), HW_PREFETCH (07 R195). -/

theorem answers_cleaninvDone {s : State} {n : CoreNo} (hlive : s.coreLive n = true) (hwait : (s.core n).wait = .cleaninv)
    (hdbg : (s.core n).dbg = false) (hl2 : (s.core n).l2.l = []) (hwb : (s.die (n.val / 18)).wb.all (fun e => !e.dirty) = true) :
    Answers (.cleaninvDone n) s (fun t => (t.core n).cleaning = false ∧ (t.core n).wait = .none ∧ (t.core n).pc = (s.core n).pc + 4) := by
  obtain ⟨s1, hs1⟩ : ∃ s1, s.modCore n (fun c => { c with l1d := .empty }) = s1 := ⟨_, rfl⟩
  have hclean : s.coreCleanInv n = s1 := by
    rw [← hs1, State.coreCleanInv, hl2]
    rfl
  have hc1 : s1.core n = { s.core n with l1d := .empty } := by rw [← hs1, core_modCore_self]
  have hgo : ((s.coreLive n || (s.core n).dbg) && (s.core n).wait == .cleaninv) = true := by
    rw [hlive, hwait]
    rfl
  have hdone : ((s1.core n).l2.l.isEmpty && (s1.die (n / 18)).wb.all (fun e => !e.dirty)) = true := by
    have hdie : s1.die (n / 18) = s.die (n / 18) := by rw [← hs1]; rfl
    rw [hc1, hl2, hdie, hwb]
    rfl
  obtain ⟨⟨cr, hcore⟩, -⟩ := retire_core (s := s1) (n := n) (s.core n) ((s.core n).pc + 4) false [] (by rw [hc1]; exact hdbg)
  have hexec : exec (.cleaninvDone n) s = .next ((s1.retireInsn n (s.core n) ((s.core n).pc + 4) false []).modCore n
      (fun c => { c with cleaning := false, dbg := false })) := by
    change execCleaninvDone n s = _
    rw [execCleaninvDone]
    dsimp only
    rw [if_pos hgo, hclean, if_pos hdone]
  refine ⟨_, hexec, ?_⟩
  beta_reduce
  rw [core_modCore_self, hcore]
  exact ⟨rfl, rfl, rfl⟩

theorem exec_hwPrefetch {s : State} {n : CoreNo} (va : Word) (hlive : s.coreLive n = true) (hstop : s.pairStopped n = false) :
    (bitAt ((s.core n).cr cCACHECTL) 4 = true → (s.core n).l2en = true → (s.core n).pf2.contains (va.toNat / 4096) = true →
      exec (.hwPrefetch n va true) s = .next (s.prefetchLine n va false true)) ∧
    (bitAt ((s.core n).cr cCACHECTL) 3 = true → (s.core n).l1den = true → (s.core n).pf1.contains (va.toNat / 4096) = true →
      exec (.hwPrefetch n va false) s = .next (s.prefetchLine n va false false)) ∧
    ((s.core n).l2en = false → exec (.hwPrefetch n va true) s = .next s ∧ exec (.hwPrefetch n va false) s = .next s) := by
  have hgo : (s.coreLive n && !s.pairStopped n) = true := by rw [hlive, hstop]; rfl
  have htrue : exec (.hwPrefetch n va true) s = if bitAt ((s.core n).cr cCACHECTL) 4 && (s.core n).l2en &&
      (s.core n).pf2.contains (va.toNat / 4096) then .next (s.prefetchLine n va false true) else .next s := if_pos hgo
  have hfalse : exec (.hwPrefetch n va false) s = if bitAt ((s.core n).cr cCACHECTL) 3 && (s.core n).l1den &&
      (s.core n).pf1.contains (va.toNat / 4096) then .next (s.prefetchLine n va false false) else .next s := if_pos hgo
  refine ⟨fun hbit hen hpg => ?_, fun hbit hen hpg => ?_, fun hoff => ⟨?_, ?_⟩⟩
  · rw [htrue, hbit, hen, hpg]
    rfl
  · rw [hfalse, hbit, hen, hpg]
    rfl
  · rw [htrue, hoff, Bool.and_false, Bool.false_and]
    rfl
  · have hl1 : (s.core n).l1den = false := by rw [Core.l1den, hoff, Bool.and_false]
    rw [hfalse, hl1, Bool.and_false, Bool.false_and]
    rfl

end Sys2Proof.Machine
end

section
/-! O21: a fill of a line that no cache holds, with the line as the home's system cache has it (07 R190 to R195; 10 R281; 11 R313). -/
namespace Sys2Proof.Machine
open Sys2Proof

theorem KMap.get?_empty {α : Type} (k : Nat) : (KMap.empty : KMap α).get? k = none := rfl

/-! The read of memory at the home. -/

theorem mscCheck_sound {s : State} {line : Nat} (hline : line < 2 ^ 52) (h : s.upsets = KMap.empty) : (s.mscCheck line).msc = s.msc ∧ (s.mscCheck line).regs = s.regs := by
  have h10 : s.upsets.get? (upKey 10 (homeOf line) (mscSet line)) = none := by rw [h]; rfl
  have h9 : (s.expose (upKey 10 (homeOf line) (mscSet line))).upsets.get? (upKey 9 (homeOf line) line) = none := by
    rw [upsets_expose_ne s (by unfold upKey; omega), h]
    rfl
  unfold State.mscCheck
  dsimp only
  split
  · rw [readEntry_sound h10]
    dsimp only
    rw [if_pos rfl, readEntry_sound h9]
    split <;> exact ⟨rfl, rfl⟩
  · exact ⟨rfl, rfl⟩

theorem memRead_hit {s : State} {line : Nat} {m : DcLine} (hline : line < 2 ^ 52) (hup : s.upsets = KMap.empty)
    (hen : s.fb .MSC_CTL MSC_CTL.EN (homeOf line) = true) (hm : s.msc.get? line = some m) :
    (s.memRead line).data = m.data ∧ (s.memRead line).poison = m.poison := by
  obtain ⟨hmsc, -⟩ := mscCheck_sound hline hup
  unfold State.memRead
  dsimp only
  rw [if_pos hen, hmsc, hm]
  exact ⟨rfl, rfl⟩

theorem lt_of_dram {line : Nat} (h : region (line * 128) = .dram) : line < 2 ^ 52 := by
  unfold region at h
  split at h
  · omega
  · split_ifs at h

/-- A read of a line that no die holds is granted E by its home, which lists the die. -/
theorem homeDo_read {s : State} {r : CohReq} {m : DcLine} (hdram : region (r.line * 128) = .dram) (hin : r.line * 128 < s.installed)
    (hfree : homeFree s r.line) (hdir : (s.home (homeOf r.line)).dir = KMap.empty) (hup : s.upsets = KMap.empty)
    (hen : s.fb .MSC_CTL MSC_CTL.EN (homeOf r.line) = true) (hm : s.msc.get? r.line = some m) :
    ∃ t, s.homeDo opRDS r = (⟨.ok, 2, m.data, m.poison, 0, false⟩, t) ∧ t.cores = s.cores ∧ t.dies = s.dies := by
  obtain ⟨htrk, hrsv, hgate⟩ := hfree
  obtain ⟨hdata, hpoison⟩ := memRead_hit (lt_of_dram hdram) hup hen hm
  have hnone : (s.home (homeOf r.line)).dir.get? r.line = none := by rw [hdir]; rfl
  have hhas : (s.home (homeOf r.line)).dir.has r.line = false := by rw [KMap.has, hnone]; rfl
  have htrkCheck : s.trkCheck (homeOf r.line) = (true, s) := by
    rw [State.trkCheck, htrk, hrsv]
    rfl
  have hcheck : s.homeCheck (homeOf r.line) r.line = (true, s) := by
    unfold State.homeCheck
    rw [htrkCheck]
    dsimp only
    unfold State.dirCheck
    rw [hhas]
    rfl
  have hrsvOf : s.rsvOf (homeOf r.line) r = none := by
    rw [State.rsvOf, hrsv]
    rfl
  have hvictim : s.dirVictim (homeOf r.line) opRDS r.line = none := by
    unfold State.dirVictim
    dsimp only
    rw [hdir, hrsv]
    rfl
  have hblocked : s.blocked (homeOf r.line) opRDS r.line = none := by
    simp [State.blocked, State.lineOpen, State.lineHeld, State.generalTrk, htrk, hrsv, hvictim]
  have hsnoops : s.homeSnoops (homeOf r.line) opRDS r.node r.line = [] := by
    unfold State.homeSnoops
    rw [hnone]
  have hserve : s.homeServe (homeOf r.line) opRDS r = s.homeFinish (homeOf r.line) opRDS r none 0 := by
    unfold State.homeServe
    dsimp only
    rw [show s.effOp (homeOf r.line) opRDS r.node r.line = opRDS from rfl, hvictim]
    dsimp only
    rw [hsnoops]
    rfl
  have hfinish : s.homeFinish (homeOf r.line) opRDS r none 0 = (⟨.ok, 2, m.data, m.poison, 0, false⟩,
      ((s.memRead r.line).s.pairMark r.line).dirPut (homeOf r.line) r.line 2 [(dieOfNode r.node).getD 0]) := by
    unfold State.homeFinish
    dsimp only
    rw [if_pos rfl, hnone]
    dsimp only
    rw [hdata, hpoison]
  have hkeep := keepsCaches_trans (keepsCaches_memRead s r.line) (keepsCaches_pairMark (s.memRead r.line).s r.line)
  refine ⟨((s.memRead r.line).s.pairMark r.line).dirPut (homeOf r.line) r.line 2 [(dieOfNode r.node).getD 0], ?_, hkeep.1, hkeep.2.1⟩
  unfold State.homeDo
  rw [homeGuard_dram hdram hin]
  dsimp only
  rw [hcheck]
  dsimp only
  rw [hgate, if_neg Bool.false_ne_true, hrsvOf]
  dsimp only
  rw [hrsv, hblocked]
  dsimp only
  rw [hserve, hfinish]
  rfl

/-! The fill of a core whose caches and whose die's are empty. -/

/-- Caches of a core and of its die that hold nothing. -/
def bareCaches (s : State) (n : Nat) : Prop :=
  (s.core n).l2 = KMap.empty ∧ (s.die (n / 18)).filt = KMap.empty ∧ (s.die (n / 18)).dcache = KMap.empty ∧ (s.die (n / 18)).wb = []

/-- The line misses in L2 and in the die. -/
def State.missed (s : State) (n : Nat) : State := ((s.noteEv n 8).noteEv n 9).drawNat.2

theorem filtRoom_bare {s : State} {d : Nat} (line : Nat) (h : (s.die d).filt = KMap.empty) : s.filtRoom d line = some s := by
  unfold State.filtRoom
  dsimp only
  rw [h]
  rfl

theorem l2Room_bare {s : State} {n : Nat} (line : Nat) (h : bareCaches s n) : s.l2Room n line false = some s.drawNat.2 := by
  obtain ⟨hl2, hfilt, -, -⟩ := h
  have hl2' : (s.drawNat.2.core n).l2 = KMap.empty := hl2
  unfold State.l2Room
  dsimp only
  rw [hl2']
  exact filtRoom_bare line hfilt

theorem dieState_bare {s : State} {n : Nat} (line : Nat) (h : bareCaches s n) : s.dieState (n / 18) line = 0 := by
  obtain ⟨-, hfilt, hdc, -⟩ := h
  unfold State.dieState State.holdersOf
  rw [hfilt, hdc]
  rfl

theorem noteEv_core (s : State) (n ev : Nat) : ∃ m, (s.noteEv n ev).core n = { s.core n with pmEv := m } := ⟨_, core_modCore_self ..⟩

theorem missed_core (s : State) (n : Nat) : ∃ m, (s.missed n).core n = { s.core n with pmEv := m } := by
  obtain ⟨m1, h1⟩ := noteEv_core s n 8
  obtain ⟨m2, h2⟩ := noteEv_core (s.noteEv n 8) n 9
  exact ⟨m2, h2.trans (by rw [h1])⟩

theorem bareCaches_missed {s : State} {n : Nat} (h : bareCaches s n) : bareCaches (s.missed n) n := by
  obtain ⟨hl2, hdie⟩ := h
  obtain ⟨m, hm⟩ := missed_core s n
  exact ⟨by rw [hm]; exact hl2, hdie⟩

/-- A load's fill of L2. -/
theorem cohLoad_fill {s : State} {n line : Nat} {m : DcLine} (hdram : region (line * 128) = .dram) (hin : line * 128 < s.installed)
    (hbare : bareCaches s n) (hfree : homeFree s line) (hdir : (s.home (homeOf line)).dir = KMap.empty) (hup : s.upsets = KMap.empty)
    (hen : s.fb .MSC_CTL MSC_CTL.EN (homeOf line) = true) (hm : s.msc.get? line = some m) (sec : Bool) :
    ∃ t : State, s.cohLoad n line sec = ⟨.ok, m.data, m.poison, t.l2Put n line .e m.data m.poison⟩ ∧ t.core n = (s.missed n).core n := by
  obtain ⟨t, hdo, hcores, -⟩ := homeDo_read (s := s.missed n) (r := (s.missed n).cdaReq (n / 18) line sec) hdram hin hfree hdir hup hen hm
  refine ⟨t, ?_, by rw [State.core, hcores]; rfl⟩
  have hnone : (s.core n).l2.get? line = none := by rw [hbare.1]; rfl
  have hcheck : s.l2Check n line = s := by
    unfold State.l2Check
    rw [hnone]
  have hsync : (s.noteEv n 8).dcSync (n / 18) line = s.noteEv n 8 := by
    have hdc : ((s.noteEv n 8).die (n / 18)).dcache.get? line = none := by
      have h : ((s.noteEv n 8).die (n / 18)).dcache = KMap.empty := hbare.2.2.1
      rw [h]
      rfl
    unfold State.dcSync State.dcCheck
    rw [hdc]
    dsimp only
    rw [hdc]
    exact ite_self _
  have hdc : ¬ (((s.noteEv n 8).die (n / 18)).dcache.has line = true) := by
    have h : ((s.noteEv n 8).die (n / 18)).dcache = KMap.empty := hbare.2.2.1
    rw [h]
    exact Bool.false_ne_true
  have hbare' : bareCaches ((s.noteEv n 8).noteEv n 9) n := bareCaches_missed hbare
  have hinwb : ((s.noteEv n 8).noteEv n 9).inWb (n / 18) line = false := by
    have h : (((s.noteEv n 8).noteEv n 9).die (n / 18)).wb = [] := hbare.2.2.2
    rw [State.inWb, h]
    rfl
  have hreq : (((s.noteEv n 8).noteEv n 9).drawNat.2).homeFor n opRDS (((s.noteEv n 8).noteEv n 9).drawNat.2.cdaReq (n / 18) line sec) =
      (⟨.ok, 2, m.data, m.poison, 0, false⟩, t) := by
    unfold State.homeFor
    rw [← State.missed, hdo]
    rfl
  unfold State.cohLoad
  dsimp only
  rw [unseen_dram s hdram, if_neg Bool.false_ne_true, hcheck, hnone]
  dsimp only
  rw [hsync, if_neg hdc, hinwb, if_neg Bool.false_ne_true, dieState_bare line hbare', if_pos rfl, l2Room_bare line hbare']
  dsimp only
  rw [hreq]
  rfl

/-- A line enters an empty L1D that is enabled. -/
theorem l1dSide_bare {s : State} {n line : Nat} (hhas : (s.core n).l2.has line = true) (hen : (s.core n).l1den = true)
    (hl1 : (s.core n).l1d = KMap.empty) (hret : (s.core n).l1dRet = []) :
    ∃ m k, (s.l1dSide n line).core n = { s.core n with pmEv := m, l1d := (KMap.empty : KMap Nat).set line k } := by
  have hcheck : s.l1dCheck n line = s := by
    unfold State.l1dCheck
    rw [hen, hl1]
    rfl
  have hgo : ¬ ((!(s.core n).l1den || (s.core n).l1d.has line) = true) := by
    rw [hen, hl1]
    exact Bool.false_ne_true
  obtain ⟨m, hm⟩ := noteEv_core s n 7
  have hfill : s.l1dFill n line =
      ((s.noteEv n 7).drawNat.2.modCore n (fun c => { c with l1d := (KMap.empty : KMap Nat).set line 0 })).expose (upKey 1 n line) := by
    unfold State.l1dFill
    dsimp only
    rw [if_neg hgo, hret, hl1]
    rfl
  have hcore : ((s.noteEv n 7).drawNat.2.modCore n (fun c => { c with l1d := (KMap.empty : KMap Nat).set line 0 })).core n = _ :=
    core_modCore_self ..
  have hdraw : (s.noteEv n 7).drawNat.2.core n = { s.core n with pmEv := m } := hm
  refine ⟨m, 0, ?_⟩
  unfold State.l1dSide
  rw [if_pos hhas, hcheck, hfill]
  exact hcore.trans (by rw [hdraw])

/-- A hardware prefetch of a line that no cache holds fills L2, and L1D where it is for L1D. -/
theorem answers_fill {s : State} {n : CoreNo} {va : Word} {l2 : Bool} {m : DcLine} (hexec : exec (.hwPrefetch n va l2) s = .next (s.prefetchLine n va false l2))
    (hen1 : (s.core n).l1den = true) (hl1 : (s.core n).l1d = KMap.empty) (hret : (s.core n).l1dRet = []) (hbare : bareCaches s n)
    (hreach : reaches s n va 1) (hup : s.upsets = KMap.empty) (hfree : homeFree s (va.toNat / 128))
    (hdir : (s.home (homeOf (va.toNat / 128))).dir = KMap.empty) (hen : s.fb .MSC_CTL MSC_CTL.EN (homeOf (va.toNat / 128)) = true)
    (hm : s.msc.get? (va.toNat / 128) = some m) (hp : m.poison = 0) :
    Answers (.hwPrefetch n va l2) s (fun t => (∃ x, (t.core n).l2.get? (va.toNat / 128) = some x ∧ x.data = m.data ∧ x.poison = 0) ∧
      (t.core n).l1d.has (va.toNat / 128) = !l2 ∧ sameSeen (s.core n) (t.core n) ∧ (t.core n).pc = (s.core n).pc) := by
  obtain ⟨hflat, hin, hlt, htag, -⟩ := hreach
  have ha : va.toNat < 0x400000000000 := by omega
  have hline := line_region ha
  obtain ⟨g, hg, hxl⟩ := translate_flat hflat ha
  have hgo : ¬ ((0 : Nat) ≠ 0 ∨ (!cacheable va.toNat) = true ∨ s.tagBad n (s.core n).dbgSec = true ∨
      s.homeGuard (if false = true then opRDO else opRDS) (cdaNode (n / 18)) (s.core n).dbgSec (va.toNat / 128) ≠ .serve) := by
    rw [cacheable, region_dram ha, htag, homeGuard_dram hline (by omega)]
    decide
  obtain ⟨t, hload, hcore⟩ := cohLoad_fill (n := n) hline (by omega) hbare hfree hdir hup hen hm (s.core n).dbgSec
  obtain ⟨ev, hmissed⟩ := missed_core s n
  obtain ⟨x, hput, -, hdata, hpoison⟩ := l2Put_core t n (va.toNat / 128) .e m.data m.poison
  rw [hcore, hmissed] at hput
  have hfetch : s.prefetchLine n va false l2 = if l2 then t.l2Put n (va.toNat / 128) .e m.data m.poison
      else (t.l2Put n (va.toNat / 128) .e m.data m.poison).l1dSide n (va.toNat / 128) := by
    unfold State.prefetchLine
    rw [hg]
    dsimp only
    rw [hxl]
    dsimp only
    rw [foldX_dram _ ha, if_neg hgo, if_neg Bool.false_ne_true, hload]
    dsimp only
    rw [hp]
    rfl
  refine ⟨_, hexec, ?_⟩
  beta_reduce
  rw [hfetch]
  cases l2 with
  | true =>
    rw [if_pos rfl, hput]
    exact ⟨⟨x, KMap.get?_set_self .., hdata, hpoison.trans hp⟩, by rw [hl1]; rfl,
      ⟨rfl, rfl, rfl, rfl, ⟨rfl, rfl, rfl, rfl, rfl⟩, fun _ _ => rfl⟩, rfl⟩
  | false =>
    have hhas : ((t.l2Put n (va.toNat / 128) .e m.data m.poison).core n).l2.has (va.toNat / 128) = true := by
      rw [hput, KMap.has]
      exact (congrArg Option.isSome (KMap.get?_set_self ..)).trans rfl
    obtain ⟨ev', k, hside⟩ := l1dSide_bare hhas (by rw [hput]; exact hen1) (by rw [hput]; exact hl1) (by rw [hput]; exact hret)
    rw [if_neg Bool.false_ne_true, hside, hput]
    refine ⟨⟨x, KMap.get?_set_self .., hdata, hpoison.trans hp⟩, ?_, ⟨rfl, rfl, rfl, rfl, ⟨rfl, rfl, rfl, rfl, rfl⟩, fun _ _ => rfl⟩, rfl⟩
    rw [KMap.has]
    exact (congrArg Option.isSome (KMap.get?_set_self ..)).trans rfl

end Sys2Proof.Machine
end

section
/-! The network and the host bus leave cores, dies and homes alone (09 R239 to R246, 13 R345). -/
namespace Sys2Proof.Machine
open Sys2Proof

theorem keepsCaches_returnCredits (s : State) (m : Msg) : keepsCaches s (s.returnCredits m) := by
  unfold State.returnCredits
  split <;> exact ⟨rfl, rfl, rfl⟩

theorem keepsCaches_spendCredits (s : State) (m : Msg) (link : Nat) : keepsCaches s (s.spendCredits m link) := by
  unfold State.spendCredits
  split <;> exact ⟨rfl, rfl, rfl⟩

theorem keepsCaches_moveTo (s : State) (i : Nat) (m : Msg) (link : Nat) : keepsCaches s (s.moveTo i m link) := by
  unfold State.moveTo
  generalize hu : (s.returnCredits m).spendCredits m link = u
  exact keepsCaches_trans (t := u) (hu ▸ keepsCaches_trans (keepsCaches_returnCredits s m) (keepsCaches_spendCredits _ m link)) ⟨rfl, rfl, rfl⟩

theorem keepsCaches_netMoves (k : Nat) (s : State) : keepsCaches s (State.netMoves k s) := by
  induction k generalizing s with
  | zero => exact keepsCaches_refl s
  | succ k ih =>
    rw [State.netMoves]
    split
    · exact keepsCaches_refl s
    · exact keepsCaches_trans (keepsCaches_moveTo ..) (ih _)

theorem keepsCaches_netRun (s : State) : keepsCaches s s.netRun := by
  unfold State.netRun
  split
  · exact keepsCaches_refl s
  · exact keepsCaches_netMoves ..

theorem keepsCaches_reserve (s : State) (m : Msg) : keepsCaches s (s.reserve m) := by
  unfold State.reserve
  split <;> exact ⟨rfl, rfl, rfl⟩

theorem keepsCaches_unreserve (s : State) (m : Msg) : keepsCaches s (s.unreserve m) := by
  unfold State.unreserve
  split <;> exact ⟨rfl, rfl, rfl⟩

theorem keepsCaches_send (s : State) (m : Msg) : keepsCaches s (s.send m) := by
  unfold State.send
  generalize hu : s.reserve m = u
  exact keepsCaches_trans (t := u) (hu ▸ keepsCaches_reserve s m) (keepsCaches_trans (t := { u with net := _ }) ⟨rfl, rfl, rfl⟩
    (keepsCaches_netRun _))

theorem keepsCaches_consume (s : State) (p : Msg → Bool) : keepsCaches s (s.consume p) := by
  unfold State.consume
  split
  · exact keepsCaches_refl s
  · rename_i m _
    dsimp only
    generalize hu : (s.returnCredits m).unreserve m = u
    exact keepsCaches_trans (t := u) (hu ▸ keepsCaches_trans (keepsCaches_returnCredits s m) (keepsCaches_unreserve _ m))
      (keepsCaches_trans (t := { u with net := _ }) ⟨rfl, rfl, rfl⟩ (keepsCaches_netRun _))

theorem keepsCaches_deliver (s : State) (m : Msg) : keepsCaches s (s.deliver m) := ⟨rfl, rfl, rfl⟩

/-! The host bus. -/

theorem keepsCaches_spoof (s : State) (slice kind src addr : Nat) : keepsCaches s (s.spoof slice kind src addr) := by
  unfold State.spoof
  dsimp only
  split <;> exact ⟨rfl, rfl, rfl⟩

theorem keepsCaches_hbSend (s : State) (i : Init) (r : OutReq) (k j bus func : Nat) (pasid : Option Nat) (xlat : Bool) :
    keepsCaches s (s.hbSend i r k j bus func pasid xlat).2 := by
  unfold State.hbSend
  dsimp only
  split <;> exact ⟨rfl, rfl, rfl⟩

theorem keepsCaches_atcLook (s : State) (f bus : Nat) : keepsCaches s (s.atcLook f bus).2.2 := by
  unfold State.atcLook
  split
  · dsimp only
    split <;> exact ⟨rfl, rfl, rfl⟩
  · exact keepsCaches_refl s

theorem keepsCaches_hbUpstream (s : State) (i : Init) (r : OutReq) : keepsCaches s (s.hbUpstream i r).2 := by
  unfold State.hbUpstream
  dsimp only
  generalize (if i.slice = 0xFF then 0 else 16 + i.slice) = f
  split
  · exact keepsCaches_spoof ..
  · split
    · exact keepsCaches_refl s
    · split
      · exact keepsCaches_refl s
      · split
        · exact ⟨rfl, rfl, rfl⟩
        · exact keepsCaches_trans (keepsCaches_atcLook ..) (keepsCaches_hbSend ..)

theorem keepsCaches_hbOut (s : State) (i : Init) (r : OutReq) : keepsCaches s (s.hbOut i r).2 := by
  unfold State.hbOut
  dsimp only
  split
  · exact keepsCaches_hbUpstream s i r
  · split
    · exact keepsCaches_refl s
    · split
      · exact keepsCaches_hbSend ..
      · exact keepsCaches_refl s

/-! Errors and violations, and the channel's atomic. -/

theorem keepsCaches_violate (s : State) (node kind addr : Nat) : keepsCaches s (s.violate node kind addr) := by
  unfold State.violate State.raiseSrc
  dsimp only
  split <;> exact ⟨rfl, rfl, rfl⟩

theorem keepsCaches_protoFault (s : State) (h line : Nat) : keepsCaches s (s.protoFault h line) :=
  keepsCaches_trans (t := s.setFd .COH_STATUS COH_STATUS.PFAULT 1 h) ⟨rfl, rfl, rfl⟩ (keepsCaches_recordErr ..)

theorem keepsCaches_chanAtom (s : State) (r : CohReq) : keepsCaches s (s.chanAtom r).2.2 := by
  have hread : ∀ (p : Prop) [Decidable p], keepsCaches s (if p then (⟨s, 0, 0, false⟩ : LineRead) else
      readWordInto (homeOf r.line) r.line (fun s k e => s.rewriteWord (homeOf r.line) r.line k e) ⟨s, 0, 0, false⟩ (r.aoff / 8)).s := by
    intro p _
    split
    · exact keepsCaches_refl s
    · exact keepsCaches_readWordInto (fun _ _ _ => keepsCaches_rewriteWord ..) ⟨s, 0, 0, false⟩ _
  have hwrite : ∀ (b : Bool) (u : State) (o1 o2 : Word) (mask : BitVec 128) (d1 d2 : LineData) (p : BitVec 16),
      keepsCaches u (if b then (o1, true, u.chanWrite (homeOf r.line) r.line mask d1 p)
        else (o2, false, u.chanWrite (homeOf r.line) r.line mask d2 0)).2.2 := by
    intro b u o1 o2 mask d1 d2 p
    split
    · dsimp only
      exact keepsCaches_chanWrite ..
    · dsimp only
      exact keepsCaches_chanWrite ..
  unfold State.chanAtom
  dsimp only
  cases s.mergeOf (homeOf r.line) r.line with
  | none => exact keepsCaches_trans (hread (wordMask 0 (r.aoff / 8) = 255)) (hwrite ..)
  | some m => exact keepsCaches_trans (hread (wordMask m.mask (r.aoff / 8) = 255)) (hwrite ..)

theorem keepsCaches_arrayEvent (s : State) (bank kind node line way set : Nat) : keepsCaches s (s.arrayEvent bank kind node line way set) :=
  keepsCaches_recordErr ..

theorem keepsCaches_cacheCheck (s : State) (tagKey dataKey bank k1 kP node line way set : Nat) (dirty : Bool) :
    keepsCaches s (s.cacheCheck tagKey dataKey bank k1 kP node line way set dirty).2 := by
  have htag : keepsCaches s (if s.upsetOf tagKey = 2 then (s.expose tagKey).arrayEvent bank 8 node line way set else s.expose tagKey) := by
    split
    · exact keepsCaches_trans (t := s.expose tagKey) ⟨rfl, rfl, rfl⟩ (keepsCaches_arrayEvent ..)
    · exact ⟨rfl, rfl, rfl⟩
  unfold State.cacheCheck
  dsimp only [State.readEntry]
  generalize (if s.upsetOf tagKey = 2 then (s.expose tagKey).arrayEvent bank 8 node line way set else s.expose tagKey) = u at htag ⊢
  have hdata : keepsCaches s (u.expose dataKey) := keepsCaches_trans htag ⟨rfl, rfl, rfl⟩
  split
  · exact hdata
  · split
    · exact keepsCaches_trans hdata (keepsCaches_trans (t := (u.expose dataKey).drawNat.2) ⟨rfl, rfl, rfl⟩ (keepsCaches_arrayEvent ..))
    · exact keepsCaches_trans hdata (keepsCaches_arrayEvent ..)

end Sys2Proof.Machine
end

section
/-! Caches, homes and the requests of the cores leave every core's program alone: its registers, PC and mode (06 R185, 07, 10). -/
namespace Sys2Proof.Machine
open Sys2Proof

/-- The program's registers, its PC and the core's mode. -/
def keepsProg (c d : Core) : Prop :=
  d.g = c.g ∧ d.p = c.p ∧ d.v = c.v ∧ d.a = c.a ∧ d.pc = c.pc ∧ keepsMode c d

theorem keepsProg_refl (c : Core) : keepsProg c c := ⟨rfl, rfl, rfl, rfl, rfl, rfl, rfl, rfl, rfl, rfl⟩

theorem keepsProg_trans {c d e : Core} (h1 : keepsProg c d) (h2 : keepsProg d e) : keepsProg c e := by
  obtain ⟨hg, hp, hv, ha, hpc, hl, hs, hi, hss, hm⟩ := h1
  obtain ⟨kg, kp, kv, ka, kpc, kl, ks, ki, kss, km⟩ := h2
  exact ⟨kg.trans hg, kp.trans hp, kv.trans hv, ka.trans ha, kpc.trans hpc, kl.trans hl, ks.trans hs, ki.trans hi, kss.trans hss, km.trans hm⟩

/-- Every core keeps its program. -/
structure keepsProgs (s t : State) : Prop where
  core : ∀ m, keepsProg (s.core m) (t.core m)

theorem keepsProgs_refl (s : State) : keepsProgs s s := ⟨fun _ => keepsProg_refl _⟩

theorem keepsProgs.trans {s t u : State} (h1 : keepsProgs s t) (h2 : keepsProgs t u) : keepsProgs s u :=
  ⟨fun m => keepsProg_trans (h1.core m) (h2.core m)⟩

theorem keepsProgs_of_cores {s t : State} (h : t.cores = s.cores) : keepsProgs s t := ⟨fun m => by
  rw [State.core, State.core, h]
  exact keepsProg_refl _⟩

theorem keepsCaches.progs {s t : State} (h : keepsCaches s t) : keepsProgs s t := keepsProgs_of_cores h.1

theorem keepsProgs_modCore {n : Nat} {f : Core → Core} (s : State) (h : ∀ c, keepsProg c (f c)) : keepsProgs s (s.modCore n f) := by
  refine ⟨fun m => ?_⟩
  by_cases hm : m = n
  · subst hm
    rw [core_modCore_self]
    exact h _
  · rw [core_modCore_ne s f hm]
    exact keepsProg_refl _

theorem keepsProgs_foldl {α : Type} {f : State → α → State} (h : ∀ s a, keepsProgs s (f s a)) (l : List α) (s : State) :
    keepsProgs s (l.foldl f s) :=
  List.foldlRecOn l f (keepsProgs_refl s) (fun t ht a _ => ht.trans (h t a))

theorem keepsProgs_ite {p : Prop} [Decidable p] {s t u : State} (h1 : keepsProgs s t) (h2 : keepsProgs s u) :
    keepsProgs s (if p then t else u) := by
  split
  · exact h1
  · exact h2

theorem keepsProgs_setDie (s : State) (d : Nat) (v : Die) : keepsProgs s (s.setDie d v) := keepsProgs_of_cores rfl
theorem keepsProgs_setHome (s : State) (h : Nat) (v : Home) : keepsProgs s (s.setHome h v) := keepsProgs_of_cores rfl
theorem keepsProgs_expose (s : State) (key : Nat) : keepsProgs s (s.expose key) := keepsProgs_of_cores rfl
theorem keepsProgs_satFd (s : State) (k : RegKind) (f : Fld) (x : Nat) : keepsProgs s (s.satFd k f x) := keepsProgs_of_cores rfl
theorem keepsProgs_drawNat (s : State) : keepsProgs s s.drawNat.2 := keepsProgs_of_cores rfl
theorem keepsProgs_drawBit (s : State) : keepsProgs s s.drawBit.2 := keepsProgs_of_cores rfl
theorem keepsProgs_drawWord (s : State) : keepsProgs s s.drawWord.2 := keepsProgs_of_cores rfl

theorem keepsProgs_noteEv (s : State) (n ev : Nat) : keepsProgs s (s.noteEv n ev) := keepsProgs_modCore s (fun c => keepsProg_refl c)

/-! Reads of the arrays of a die, and snoops at it. -/

theorem keepsProg_setLineState (c : Core) (line : Nat) (st : CState) : keepsProg c (c.setLineState line st) := by
  unfold Core.setLineState
  split <;> exact keepsProg_refl c

theorem keepsProgs_modCores {f : Core → Core} (h : ∀ c, keepsProg c (f c)) (l : List Nat) (s : State) : keepsProgs s (s.modCores l f) :=
  keepsProgs_foldl (fun t _ => keepsProgs_modCore t h) l s

theorem keepsProgs_l2Check (s : State) (n line : Nat) : keepsProgs s (s.l2Check n line) := by
  unfold State.l2Check
  split
  · exact keepsProgs_refl s
  · rename_i e _
    have hchk := (keepsCaches_cacheCheck s (upKey 3 n line) (upKey 2 n line) (coreBank n) 3 4 (coreNode n) line e.way (line % 1024)
      (e.st == .m || e.ncDirty)).progs
    dsimp only
    split
    · exact hchk
    · exact hchk.trans (keepsProgs_modCore _ (fun c => keepsProg_refl c))

theorem keepsProgs_dcCheck (s : State) (d line : Nat) : keepsProgs s (s.dcCheck d line) := by
  unfold State.dcCheck
  split
  · exact keepsProgs_refl s
  · rename_i e _
    have hchk := (keepsProgs_drawNat s).trans (keepsCaches_cacheCheck s.drawNat.2 (upKey 5 d line) (upKey 4 d line) (dieCacheBank d) 6 7
      (d * 256 + 0x30 + Config.dcSlice line % 16) line s.drawNat.1 (line % 1024) (e.st == .m)).progs
    dsimp only
    split
    · exact hchk
    · exact hchk.trans (keepsProgs_setDie ..)

theorem keepsProgs_filtCheck (s : State) (d line : Nat) : keepsProgs s (s.filtCheck d line) := by
  unfold State.filtCheck
  dsimp only [State.readEntry]
  split
  · split
    · exact keepsProgs_expose ..
    · exact (keepsProgs_expose ..).trans ((keepsProgs_drawNat _).trans (keepsCaches_arrayEvent ..).progs)
  · exact keepsProgs_refl s

theorem keepsProgs_dieCheck (s : State) (d line : Nat) : keepsProgs s (s.dieCheck d line) :=
  (keepsProgs_filtCheck s d line).trans ((keepsProgs_foldl (fun t n => keepsProgs_l2Check t n line) _ _).trans (keepsProgs_dcCheck ..))

theorem keepsProgs_dieDropAll (s : State) (d line : Nat) : keepsProgs s (s.dieDropAll d line) :=
  (keepsProgs_modCores (f := fun c => c.dropLine line) (fun c => keepsProg_refl c) _ s).trans (keepsProgs_setDie ..)

theorem keepsProgs_dieSetAll (s : State) (d line : Nat) (st : CState) : keepsProgs s (s.dieSetAll d line st) :=
  (keepsProgs_modCores (fun c => keepsProg_setLineState c line st) _ s).trans (keepsProgs_setDie ..)

theorem keepsProgs_snoopDie (s : State) (kind d line : Nat) : keepsProgs s (s.snoopDie kind d line).2 := by
  have hchk := keepsProgs_dieCheck s d line
  unfold State.snoopDie
  generalize s.dieCheck d line = u at hchk ⊢
  dsimp only
  split
  · exact hchk.trans (keepsProgs_setDie ..)
  · split
    · exact hchk
    · split
      · exact hchk.trans (keepsProgs_dieSetAll ..)
      · exact hchk
      · split
        · exact hchk.trans (keepsProgs_dieSetAll ..)
        · exact hchk
      · exact hchk.trans (keepsProgs_dieDropAll ..)

theorem keepsProgs_snoopOne (h line : Nat) (bcast : Bool) (a : Collected) (p : Nat × Nat) : keepsProgs a.s (State.snoopOne h line bcast a p).s := by
  have hsnp := keepsProgs_snoopDie a.s p.2 p.1 line
  unfold State.snoopOne
  generalize a.s.snoopDie p.2 p.1 line = r at hsnp ⊢
  split
  · split
    · exact keepsProgs_refl _
    · exact (keepsCaches_recordErr ..).progs
  · refine hsnp.trans ?_
    dsimp only
    split
    · exact (keepsCaches_consume ..).progs.trans ((keepsProgs_setDie ..).trans (keepsProgs_satFd ..))
    · exact keepsProgs_refl _

theorem keepsProgs_snoopAll (s : State) (h line : Nat) (bcast : Bool) (l : List (Nat × Nat)) : keepsProgs s (s.snoopAll h line bcast l).s :=
  List.foldlRecOn (motive := fun a => keepsProgs s a.s) l _ (keepsProgs_refl s) (fun a ha p _ => ha.trans (keepsProgs_snoopOne h line bcast a p))

/-! What a home does with its directory and its reservations. -/

theorem keepsProgs_dirPut (s : State) (h line st : Nat) (ptrs : List Nat) : keepsProgs s (s.dirPut h line st ptrs) := keepsProgs_setHome ..
theorem keepsProgs_dirDrop (s : State) (h line : Nat) : keepsProgs s (s.dirDrop h line) := keepsProgs_setHome ..

theorem keepsProgs_dirAdd (s : State) (h line d : Nat) : keepsProgs s (s.dirAdd h line d) := by
  unfold State.dirAdd
  split
  · exact keepsProgs_dirPut ..
  · split
    · exact keepsProgs_dirPut ..
    · split
      · exact keepsProgs_dirPut ..
      · split
        · exact keepsProgs_dirPut ..
        · exact (keepsProgs_dirPut ..).trans (keepsProgs_satFd ..)

theorem keepsProgs_dirRemove (s : State) (h line d : Nat) : keepsProgs s (s.dirRemove h line d) := by
  unfold State.dirRemove
  split
  · exact keepsProgs_refl s
  · split
    · exact keepsProgs_refl s
    · dsimp only
      split
      · exact keepsProgs_dirDrop ..
      · exact keepsProgs_dirPut ..

theorem keepsCaches_gotOrMem (s : State) (line : Nat) (got : Option (LineData × BitVec 16)) : keepsCaches s (s.gotOrMem line got).s := by
  unfold State.gotOrMem
  split
  · exact keepsCaches_refl s
  · exact keepsCaches_memRead s line

theorem keepsProgs_own (s : State) (h line d : Nat) : keepsProgs s ((s.pairMark line).dirPut h line 2 [d]) :=
  (keepsCaches_pairMark ..).progs.trans (keepsProgs_dirPut ..)

/-- The line of an answer is read, and a new line is written whole. -/
theorem keepsProgs_writeGot (s : State) (line : Nat) (got : Option (LineData × BitVec 16)) : keepsProgs s (s.writeGot line got) :=
  (keepsCaches_writeGot ..).progs

theorem keepsProgs_memWrite (s : State) (line : Nat) (whole : Bool) (mask : BitVec 128) (d : LineData) (p : BitVec 16) :
    keepsProgs s (s.memWrite line whole mask d p) := (keepsCaches_memWrite ..).progs

/-- The state beside an answer that a condition chooses. -/
theorem keepsProgs_iteSnd {α : Type} {p : Prop} [Decidable p] {s : State} {a b : α × State} (h1 : keepsProgs s a.2) (h2 : keepsProgs s b.2) :
    keepsProgs s (if p then a else b).2 := by
  split
  · exact h1
  · exact h2

/-- The channel's atomic, the line's copy in the system cache being dropped. -/
theorem keepsProgs_atomPast (s : State) (line : Nat) (r : CohReq) : keepsProgs s (({ s with msc := s.msc.erase line } : State).chanAtom r).2.2 :=
  keepsProgs.trans (t := { s with msc := s.msc.erase line }) (keepsProgs_of_cores rfl) (keepsCaches_chanAtom _ r).progs

theorem keepsProgs_homeFinish (s : State) (h op : Nat) (r : CohReq) (got : Option (LineData × BitVec 16)) (ans : Nat) :
    keepsProgs s (s.homeFinish h op r got ans).2 := by
  have hgot : keepsProgs s (s.gotOrMem r.line got).s := (keepsCaches_gotOrMem s r.line got).progs
  have hmem : keepsProgs s (s.memRead r.line).s := (keepsCaches_memRead s r.line).progs
  have hback : ∀ t : State, keepsProgs t ((t.writeGot r.line got).dirDrop h r.line) := fun t =>
    (keepsProgs_writeGot ..).trans (keepsProgs_dirDrop ..)
  have hput : ∀ (t : State) (whole : Bool) (mask : BitVec 128) (d : LineData) (p : BitVec 16),
      keepsProgs t ((t.memWrite r.line whole mask d p).dirDrop h r.line) := fun t whole mask d p =>
    (keepsProgs_memWrite ..).trans (keepsProgs_dirDrop ..)
  refine keepsProgs_iteSnd ?_ (keepsProgs_iteSnd ?_ (keepsProgs_iteSnd ?_ (keepsProgs_iteSnd ?_ (keepsProgs_iteSnd ?_
    (keepsProgs_iteSnd ?_ (keepsProgs_iteSnd ?_ (keepsProgs_iteSnd ?_ (keepsProgs_iteSnd ?_ (keepsProgs_iteSnd ?_
    (keepsProgs_iteSnd ?_ (keepsProgs_iteSnd ?_ (keepsProgs_iteSnd ?_ (keepsProgs_iteSnd ?_ (keepsProgs_iteSnd ?_
    (keepsProgs_iteSnd ?_ (keepsProgs_refl s))))))))))))))))
  · split
    · split
      · split
        · exact hgot.trans ((keepsProgs_writeGot ..).trans (keepsProgs_own ..))
        · exact hgot.trans ((keepsProgs_writeGot ..).trans ((keepsProgs_dirPut ..).trans (keepsProgs_dirAdd ..)))
      · exact hmem.trans (keepsProgs_dirAdd ..)
    · exact hmem.trans (keepsProgs_own ..)
  · exact hgot.trans (keepsProgs_own ..)
  · exact keepsProgs_own ..
  · exact hgot.trans (keepsProgs_ite ((keepsProgs_writeGot ..).trans (keepsProgs_dirRemove ..)) (keepsProgs_refl _))
  · exact hput ..
  · cases got with
    | none => exact hput ..
    | some v => exact hput ..
  · exact keepsProgs_writeGot ..
  · exact hback s
  · exact hgot.trans (keepsProgs_iteSnd (hback _) (hput ..))
  · exact (keepsProgs_writeGot ..).trans ((keepsCaches_pairTouch ..).progs.trans ((keepsProgs_atomPast ..).trans (keepsProgs_dirDrop ..)))
  · exact hput ..
  · exact keepsProgs_memWrite ..
  · exact keepsProgs_dirRemove ..
  · exact hmem
  · exact keepsProgs_memWrite s r.line false r.mask r.data r.poison
  · exact hback s

end Sys2Proof.Machine
end

section
/-! Requests to homes leave every core's program alone (10 R278 to R294). -/
namespace Sys2Proof.Machine
open Sys2Proof

theorem keepsProgs_evictEntry (s : State) (h line : Nat) : keepsProgs s (s.evictEntry h line) :=
  (keepsProgs_snoopAll ..).trans ((keepsProgs_writeGot ..).trans ((keepsProgs_dirDrop ..).trans ((keepsProgs_satFd ..).trans
    (keepsProgs_foldl (fun t _ => keepsProgs_satFd t ..) _ _))))

theorem keepsProgs_dirCheck (s : State) (h line : Nat) : keepsProgs s (s.dirCheck h line).2 := by
  unfold State.dirCheck
  dsimp only [State.readEntry]
  refine keepsProgs_iteSnd (keepsProgs_iteSnd (keepsProgs_expose ..) ?_) (keepsProgs_refl s)
  exact (keepsProgs_expose ..).trans (keepsCaches_recordErr ..).progs

theorem keepsProgs_trkCheck (s : State) (h : Nat) : keepsProgs s (s.trkCheck h).2 := by
  unfold State.trkCheck
  dsimp only [State.readEntry]
  refine keepsProgs_iteSnd (keepsProgs_refl s) (keepsProgs_iteSnd ?_ (keepsProgs_expose ..))
  exact (keepsProgs_expose ..).trans (keepsCaches_recordErr ..).progs

theorem keepsProgs_homeCheck (s : State) (h line : Nat) : keepsProgs s (s.homeCheck h line).2 :=
  keepsProgs_iteSnd (keepsProgs_trkCheck s h) ((keepsProgs_trkCheck s h).trans (keepsProgs_dirCheck ..))

theorem keepsProgs_dropRsv (s : State) (h node : Nat) : keepsProgs s (s.dropRsv h node) := keepsProgs_setHome ..

theorem keepsProgs_grantRsv (s : State) (h : Nat) (v : Rsv) : keepsProgs s (s.grantRsv h v) :=
  (keepsProgs_setHome ..).trans (keepsProgs_satFd ..)

theorem keepsProgs_noteRetry (s : State) (h op : Nat) (r : CohReq) (cond : Nat) : keepsProgs s (s.noteRetry h op r cond).2 :=
  (keepsProgs_satFd s .COH_CNT COH_CNT.RETRY h).trans
    (keepsProgs_iteSnd (keepsProgs_setHome ..) ((keepsProgs_setHome ..).trans (keepsProgs_expose ..)))

theorem keepsProgs_serveEvicted (s : State) (h : Nat) (v : Option (Option Nat)) :
    keepsProgs s (match v with | some (some k) => (s.dirCheck h k).2.evictEntry h k | _ => s) := by
  split
  · exact (keepsProgs_dirCheck ..).trans (keepsProgs_evictEntry ..)
  · exact keepsProgs_refl s

theorem keepsProgs_homeServe (s : State) (h op : Nat) (r : CohReq) (own : Nat) : keepsProgs s (s.homeServe h op r own).2 := by
  refine keepsProgs_iteSnd (keepsProgs_refl s) (keepsProgs_iteSnd (keepsProgs_refl s) (keepsProgs_iteSnd ?_ ?_))
  · exact (keepsCaches_protoFault ..).progs
  · dsimp only
    generalize s.effOp h op r.node r.line = op2
    have hevict := keepsProgs_serveEvicted s h (s.dirVictim h op2 r.line own)
    refine hevict.trans ((keepsProgs_snoopAll ..).trans (keepsProgs_homeFinish ..))

theorem keepsProgs_homeDo (s : State) (op : Nat) (r : CohReq) : keepsProgs s (s.homeDo op r).2 := by
  have hchk := keepsProgs_homeCheck s (homeOf r.line) r.line
  unfold State.homeDo
  dsimp only
  generalize s.homeCheck (homeOf r.line) r.line = u at hchk ⊢
  split
  · exact keepsProgs_refl s
  · exact (keepsCaches_violate ..).progs
  · refine keepsProgs_iteSnd (keepsProgs_refl s) (keepsProgs_iteSnd hchk ?_)
    split
    · refine keepsProgs_iteSnd (hchk.trans ((keepsProgs_dropRsv ..).trans (keepsProgs_homeServe ..))) (keepsProgs_iteSnd ?_ (keepsProgs_refl s))
      exact hchk.trans ((keepsProgs_grantRsv ..).trans ((keepsProgs_dropRsv ..).trans (keepsProgs_homeServe ..)))
    · refine keepsProgs_iteSnd (keepsProgs_refl s) ?_
      split
      · exact hchk.trans ((keepsProgs_noteRetry ..).trans (keepsCaches_deliver ..).progs)
      · exact hchk.trans (keepsProgs_homeServe ..)

theorem keepsProgs_homeFor (s : State) (n op : Nat) (q : CohReq) : keepsProgs s (s.homeFor n op q).2 :=
  (keepsProgs_homeDo s op q).trans (keepsProgs_ite (keepsProgs_noteEv ..) (keepsProgs_refl _))

end Sys2Proof.Machine
end

section
/-! Fills, evictions and the requests of a core leave every core's program alone (07, 10 R284 to R286). -/
namespace Sys2Proof.Machine
open Sys2Proof

/-- A change that may have to wait: where it comes about, every core keeps its program. -/
structure keepsProgsOpt (s : State) (o : Option State) : Prop where
  some : ∀ t, o = some t → keepsProgs s t

theorem keepsProgsOpt_none (s : State) : keepsProgsOpt s none := ⟨fun _ h => by cases h⟩

theorem keepsProgs.opt {s t : State} (h : keepsProgs s t) : keepsProgsOpt s (some t) := ⟨fun u hu => by
  cases hu
  exact h⟩

theorem keepsProgs.transOpt {s t : State} {o : Option State} (h : keepsProgs s t) (ho : keepsProgsOpt t o) : keepsProgsOpt s o :=
  ⟨fun u hu => h.trans (ho.some u hu)⟩

theorem keepsProgsOpt_ite {p : Prop} [Decidable p] {s : State} {a b : Option State} (h1 : keepsProgsOpt s a) (h2 : keepsProgsOpt s b) :
    keepsProgsOpt s (if p then a else b) := by
  split
  · exact h1
  · exact h2

theorem keepsProgsOpt_map {s : State} {o : Option State} {f : State → State} (h : keepsProgsOpt s o) (hf : ∀ t, keepsProgs t (f t)) :
    keepsProgsOpt s (o.map f) := by
  cases o with
  | none => exact keepsProgsOpt_none s
  | some t => exact ((h.some t rfl).trans (hf t)).opt

theorem keepsProgsOpt_getD {s t : State} {o : Option State} (h : keepsProgsOpt s o) (ht : keepsProgs s t) : keepsProgs s (o.getD t) := by
  cases o with
  | none => exact ht
  | some u => exact h.some u rfl

/-! Lines that leave. -/

theorem keepsProgs_bufferWb (s : State) (d line : Nat) (dirty : Bool) (data : LineData) (p : BitVec 16) :
    keepsProgs s (s.bufferWb d line dirty data p) := (keepsProgs_setDie ..).trans (keepsCaches_send ..).progs

theorem keepsProgsOpt_giveUp (s : State) (d line : Nat) (dirty : Bool) (data : LineData) (p : BitVec 16) :
    keepsProgsOpt s (s.giveUp d line dirty data p) :=
  keepsProgsOpt_ite (keepsProgsOpt_ite (keepsProgs_bufferWb ..).opt (keepsProgsOpt_none s)) (keepsProgs_homeDo ..).opt

theorem keepsProgs_filtClear (s : State) (d line c : Nat) : keepsProgs s (s.filtClear d line c) := by
  unfold State.filtClear
  dsimp only
  split
  · exact keepsProgs_refl s
  · exact keepsProgs_setDie ..

/-- The die cache takes a line. -/
theorem keepsProgs_dcSet (s : State) (d line : Nat) (v : Die) : keepsProgs s (((s.setDie d v).expose (upKey 4 d line)).expose (upKey 5 d line)) :=
  keepsProgs_of_cores rfl

theorem keepsProgsOpt_dcPut (s : State) (d line : Nat) (x : DcLine) : keepsProgsOpt s (s.dcPut d line x) := by
  unfold State.dcPut
  dsimp only
  refine keepsProgsOpt_ite (keepsProgs_dcSet ..).opt ?_
  generalize (List.getD _ _ (line, x)).1 = k
  refine (keepsProgs_drawNat s).transOpt ((keepsProgs_dcCheck _ d k).transOpt ?_)
  split
  · exact (keepsProgs_dcSet ..).opt
  · refine (keepsProgs_setDie ..).transOpt (keepsProgsOpt_ite (keepsProgs_dcSet ..).opt ?_)
    exact keepsProgsOpt_map (keepsProgsOpt_giveUp ..) (fun t => keepsProgs_dcSet ..)

theorem keepsProgsOpt_ncBack (s : State) (n line : Nat) (data : LineData) (p : BitVec 16) : keepsProgsOpt s (s.ncBack n line data p) :=
  keepsProgsOpt_ite (keepsCaches_hbOut ..).progs.opt (keepsProgsOpt_ite (keepsProgsOpt_none s) (keepsProgs_homeDo ..).opt)

theorem keepsProgs_dropLine (s : State) (n line : Nat) : keepsProgs s (s.modCore n (fun c => c.dropLine line)) :=
  keepsProgs_modCore s (fun c => keepsProg_refl c)

theorem keepsProgsOpt_l2CleanInv (s : State) (n line : Nat) : keepsProgsOpt s (s.l2CleanInv n line) := by
  refine (keepsProgs_l2Check s n line).transOpt ?_
  unfold State.l2CleanInv
  dsimp only
  split
  · exact (keepsProgs_refl _).opt
  · refine (keepsProgs_dropLine ..).transOpt (keepsProgsOpt_ite (keepsProgsOpt_ite ?_ (keepsProgs_refl _).opt) ?_)
    · exact keepsProgsOpt_ncBack ..
    · exact (keepsProgs_filtClear ..).transOpt (keepsProgsOpt_ite (keepsProgs_refl _).opt (keepsProgsOpt_giveUp ..))

theorem keepsProgsOpt_l2Evict (s : State) (n line : Nat) : keepsProgsOpt s (s.l2Evict n line) := by
  refine (keepsProgs_l2Check s n line).transOpt ?_
  unfold State.l2Evict
  dsimp only
  split
  · exact (keepsProgs_refl _).opt
  · refine keepsProgsOpt_ite ((keepsProgs_dropLine _ n line).transOpt ((keepsProgs_filtClear _ (n / 18) line (n % 18)).transOpt ?_)) (keepsProgsOpt_l2CleanInv ..)
    exact keepsProgsOpt_ite (keepsProgs_refl _).opt (keepsProgsOpt_ite (keepsProgsOpt_none _) (keepsProgsOpt_dcPut ..))

/-! Lines that enter. -/

theorem keepsProgsOpt_filtRoom (s : State) (d line : Nat) : keepsProgsOpt s (s.filtRoom d line) := by
  unfold State.filtRoom
  dsimp only
  refine keepsProgsOpt_ite (keepsProgs_refl s).opt (keepsProgsOpt_ite (keepsProgsOpt_none s) ?_)
  generalize (List.getD _ _ (line, (⟨.s, 0⟩ : FiltEntry))).1 = out
  refine (keepsProgs_drawNat s).transOpt ((keepsProgs_dieCheck _ d out).transOpt ?_)
  have hout := keepsProgs_modCores (f := fun c => c.dropLine out) (fun c => keepsProg_refl c)
    ((s.drawNat.2.dieCheck d out).holdersOf d out) (s.drawNat.2.dieCheck d out)
  exact hout.transOpt ((keepsProgs_setDie ..).transOpt
    (keepsProgsOpt_ite (keepsProgs_refl _).opt (keepsProgsOpt_ite (keepsProgsOpt_none _) (keepsProgs_homeDo ..).opt)))

theorem keepsProgsOpt_l2Room (s : State) (n line : Nat) (nc : Bool) : keepsProgsOpt s (s.l2Room n line nc) := by
  have hput : ∀ (k : Option Nat), keepsProgsOpt s (match k with | some k => s.drawNat.2.l2Evict n k | none => some s.drawNat.2) := by
    intro k
    cases k with
    | none => exact (keepsProgs_drawNat s).opt
    | some k => exact (keepsProgs_drawNat s).transOpt (keepsProgsOpt_l2Evict ..)
  refine ⟨fun t ht => ?_⟩
  unfold State.l2Room at ht
  dsimp only at ht
  split at ht
  · cases ht
  · rename_i u hu
    refine ((hput _).some u hu).trans ?_
    exact (keepsProgsOpt_ite (keepsProgs_refl u).opt (keepsProgsOpt_filtRoom ..)).some t ht

theorem keepsProgs_setCore {s : State} {n : Nat} {c : Core} (h : keepsProg (s.core n) c) : keepsProgs s (s.setCore n c) := by
  refine ⟨fun m => ?_⟩
  by_cases hm : m = n
  · subst hm
    rw [core_setCore_self]
    exact h
  · rw [core_setCore_ne s c hm]
    exact keepsProg_refl _

theorem keepsProgs_l2Put (s : State) (n line : Nat) (st : CState) (data : LineData) (p : BitVec 16) :
    keepsProgs s (s.l2Put n line st data p) := by
  have hset : ∀ m : KMap L2Line, keepsProgs s (((s.setCore n { s.core n with l2 := m }).expose (upKey 2 n line)).expose (upKey 3 n line)) := fun m =>
    (keepsProgs_setCore (c := { s.core n with l2 := m }) (keepsProg_refl (s.core n))).trans ((keepsProgs_expose ..).trans (keepsProgs_expose ..))
  exact (hset _).trans (keepsProgs_ite (keepsProgs_refl _) ((keepsProgs_setDie ..).trans (keepsProgs_expose ..)))

theorem keepsProgs_filtState (s : State) (d line : Nat) (st : CState) : keepsProgs s (s.filtState d line st) := by
  unfold State.filtState
  dsimp only
  split
  · exact keepsProgs_setDie ..
  · exact keepsProgs_refl s

theorem keepsProgs_setL1d (s : State) (n : Nat) (m : KMap Nat) : keepsProgs s (s.modCore n (fun c => { c with l1d := m })) :=
  keepsProgs_modCore s (fun c => keepsProg_refl c)

theorem keepsProgs_l1dFill (s : State) (n line : Nat) : keepsProgs s (s.l1dFill n line) := by
  refine keepsProgs_ite (keepsProgs_refl s) ((keepsProgs_noteEv s n 7).trans ((keepsProgs_drawNat _).trans (keepsProgs_ite ?_ (keepsProgs_refl _))))
  exact (keepsProgs_setL1d ..).trans (keepsProgs_expose ..)

theorem keepsProgs_l1dCheck (s : State) (n line : Nat) : keepsProgs s (s.l1dCheck n line) := by
  unfold State.l1dCheck
  dsimp only [State.readEntry]
  split
  · exact keepsProgs_refl s
  · refine (keepsProgs_expose s (upKey 1 n line)).trans (keepsProgs_ite (keepsProgs_refl _) ?_)
    refine (keepsCaches_arrayEvent ..).progs.trans ((keepsProgs_drawBit _).trans (keepsProgs_ite ?_ (keepsProgs_refl _)))
    exact (keepsCaches_arrayEvent ..).progs.trans (keepsProgs_modCore _ (fun c => keepsProg_refl c))

theorem keepsProgs_l1dSide (s : State) (n line : Nat) : keepsProgs s (s.l1dSide n line) :=
  keepsProgs_ite ((keepsProgs_l1dCheck ..).trans (keepsProgs_l1dFill ..)) (keepsProgs_refl s)

end Sys2Proof.Machine
end

section
/-! A core's reads and its requests for ownership leave every core's program alone (10 R284). -/
namespace Sys2Proof.Machine
open Sys2Proof

/-- The state beside a line that a condition chooses. -/
theorem keepsProgs_iteRes {p : Prop} [Decidable p] {s : State} {a b : LineRes} (h1 : keepsProgs s a.s) (h2 : keepsProgs s b.s) :
    keepsProgs s (if p then a else b).s := by
  split
  · exact h1
  · exact h2

theorem keepsProgs.res {s t : State} (h : keepsProgs s t) (st : Status) (data : LineData) (p : BitVec 16) :
    keepsProgs s (⟨st, data, p, t⟩ : LineRes).s := h

theorem keepsProgs_shareAll (s : State) (line : Nat) (st : CState) (l : List Nat) : keepsProgs s (s.modCores l (fun c => c.setLineState line st)) :=
  keepsProgs_modCores (fun c => keepsProg_setLineState c line st) l s

theorem keepsProgs_localRead (s : State) (n line : Nat) : keepsProgs s (s.localRead n line).s := by
  have hchk : keepsProgs s (if ((s.dieCheck (n / 18) line).dieCopy (n / 18) line).2 = (s.dieCopy (n / 18) line).2 then
      s.dieCheck (n / 18) line else (s.dieCheck (n / 18) line).modCore n (fun c => { c with arrErr := 2 })) :=
    (keepsProgs_dieCheck s (n / 18) line).trans (keepsProgs_ite (keepsProgs_refl _) (keepsProgs_modCore _ (fun c => keepsProg_refl c)))
  unfold State.localRead
  dsimp only
  generalize (if ((s.dieCheck (n / 18) line).dieCopy (n / 18) line).2 = (s.dieCopy (n / 18) line).2 then
      s.dieCheck (n / 18) line else (s.dieCheck (n / 18) line).modCore n (fun c => { c with arrErr := 2 })) = u at hchk ⊢
  split
  · exact keepsProgs_refl s
  · rename_i t ht
    refine hchk.trans (((keepsProgsOpt_l2Room ..).some t ht).trans ?_)
    split
    · exact keepsProgs_iteRes (((keepsProgs_setDie ..).trans (keepsProgs_l2Put ..)).res ..) ((keepsProgs_l2Put ..).res ..)
    · refine keepsProgs_iteRes ?_ (((keepsProgs_shareAll ..).trans (keepsProgs_l2Put ..)).res ..)
      exact (keepsProgs_homeFor ..).trans (keepsProgs_iteRes (keepsProgs_refl _)
        (((keepsProgs_shareAll ..).trans ((keepsProgs_filtState ..).trans (keepsProgs_l2Put ..))).res ..))

theorem keepsProgs_localWrite (s : State) (n line : Nat) : keepsProgs s (s.localWrite n line).s := by
  unfold State.localWrite
  dsimp only
  split
  · exact keepsProgs_refl s
  · rename_i t ht
    exact (keepsProgs_dieCheck ..).trans (((keepsProgsOpt_l2Room ..).some t ht).trans ((keepsProgs_dieDropAll ..).trans (keepsProgs_l2Put ..)))

theorem keepsProgs_dcSync (s : State) (d line : Nat) : keepsProgs s (s.dcSync d line) := by
  have hchk := keepsProgs_dcCheck s d line
  unfold State.dcSync
  dsimp only
  generalize s.dcCheck d line = u at hchk ⊢
  refine keepsProgs_ite (keepsProgs_refl s) ?_
  split
  · exact keepsProgs_refl s
  · have hdie := hchk.trans (keepsProgs_setDie u d { u.die d with dcache := (u.die d).dcache.erase line })
    exact keepsProgs_ite hdie (keepsProgsOpt_getD (hdie.transOpt (keepsProgsOpt_giveUp ..)) hchk)

theorem keepsProgs_homeOnly (s : State) (n op line : Nat) (sec : Bool) : keepsProgs s (s.homeOnly n op line sec).s := keepsProgs_homeFor ..

/-- A request of a line that no cache of the die holds: its answer fills L2. -/
theorem keepsProgs_missDie (s : State) (n line : Nat) : keepsProgs s (if (s.die (n / 18)).dcache.has line then s else s.noteEv n 9) :=
  keepsProgs_ite (keepsProgs_refl s) (keepsProgs_noteEv ..)

theorem keepsProgs_cohLoad (s : State) (n line : Nat) (sec : Bool) : keepsProgs s (s.cohLoad n line sec).s := by
  refine keepsProgs_iteRes (keepsProgs_homeOnly ..) ((keepsProgs_l2Check s n line).trans ?_)
  generalize s.l2Check n line = u
  dsimp only
  split
  · exact keepsProgs_refl u
  · have hsync := ((keepsProgs_noteEv u n 8).trans (keepsProgs_dcSync _ (n / 18) line)).trans (keepsProgs_missDie _ n line)
    refine hsync.trans ?_
    generalize (if (((u.noteEv n 8).dcSync (n / 18) line).die (n / 18)).dcache.has line then (u.noteEv n 8).dcSync (n / 18) line
      else ((u.noteEv n 8).dcSync (n / 18) line).noteEv n 9) = w
    refine keepsProgs_iteRes (keepsProgs_refl w) (keepsProgs_iteRes ?_ (keepsProgs_localRead ..))
    split
    · exact keepsProgs_refl w
    · rename_i t ht
      exact ((keepsProgsOpt_l2Room ..).some t ht).trans ((keepsProgs_homeFor ..).trans (keepsProgs_iteRes
        (keepsProgs_iteRes ((keepsProgs_refl _).res ..) ((keepsProgs_l2Put ..).res ..)) ((keepsProgs_refl _).res ..)))

theorem keepsProgs_ownLine (s : State) (n line : Nat) (sec : Bool) : keepsProgs s (s.ownLine n line sec).s := by
  refine (keepsProgs_dcSync s (n / 18) line).trans ?_
  unfold State.ownLine
  dsimp only
  generalize s.dcSync (n / 18) line = u
  refine keepsProgs_iteRes (keepsProgs_refl u) (keepsProgs_iteRes (keepsProgs_localWrite ..) ?_)
  split
  · exact keepsProgs_refl u
  · rename_i t ht
    exact ((keepsProgsOpt_l2Room ..).some t ht).trans ((keepsProgs_homeFor ..).trans (keepsProgs_iteRes ((keepsProgs_refl _).res ..)
      (keepsProgs_iteRes ((keepsProgs_refl _).res ..) (((keepsProgs_dieDropAll ..).trans (keepsProgs_l2Put ..)).res ..))))

theorem keepsProgs_cohOwn (s : State) (n line : Nat) (sec : Bool) : keepsProgs s (s.cohOwn n line sec).s := by
  refine keepsProgs_iteRes (keepsProgs_homeOnly ..) ((keepsProgs_l2Check s n line).trans ?_)
  generalize s.l2Check n line = u
  dsimp only
  split
  · exact keepsProgs_iteRes (keepsProgs_refl u) (keepsProgs_ownLine ..)
  · exact (keepsProgs_noteEv u n 8).trans ((keepsProgs_missDie _ n line).trans (keepsProgs_ownLine ..))

end Sys2Proof.Machine
end

section
/-! Translation leaves every core's program alone (08). -/
namespace Sys2Proof.Machine
open Sys2Proof

/-- The state of an outcome that a case split has named. -/
theorem keepsProgs.snd {α : Type} {s t : State} {x : α × State} {a : α} (h : keepsProgs s x.2) (hx : x = (a, t)) : keepsProgs s t := by
  rw [hx] at h
  exact h

theorem keepsProg_setCr (c : Core) (k : Nat) (w : Word) : keepsProg c (c.setCr k w) := keepsProg_refl c

theorem keepsProgs_twCount (s : State) (g : Regime) (f : Fld) : keepsProgs s (s.twCount g f) := by
  unfold State.twCount
  split
  · exact keepsProgs_modCore s (fun c => keepsProg_setCr ..)
  · exact keepsProgs_refl s

theorem keepsProgs_walkRead (s : State) (g : Regime) (d : Side) (lvl ea : Nat) : keepsProgs s (s.walkRead g d lvl ea).2 := by
  have hdo := keepsProgs_homeDo s opRDC (s.walkReq g (ea / 128))
  exact keepsProgs_iteSnd (keepsProgs_refl s) (keepsProgs_iteSnd hdo (keepsProgs_iteSnd hdo (keepsProgs_iteSnd hdo hdo)))

theorem keepsProgs_walkSwap (s : State) (g : Regime) (d : Side) (lvl ea : Nat) (old new : Word) :
    keepsProgs s (s.walkSwap g d lvl ea old new).2 := by
  have hdo := keepsProgs_homeDo s opATOMF { s.walkReq g (ea / 128) with aop := 31, aoff := ea % 128, operand := new, compare := old }
  exact keepsProgs_iteSnd (keepsProgs_refl s) (keepsProgs_iteSnd hdo (keepsProgs_iteSnd hdo (keepsProgs_iteSnd hdo hdo)))

theorem keepsProgs_wcachePut (s : State) (g : Regime) (w : WalkEntry) : keepsProgs s (s.wcachePut g w) := by
  unfold State.wcachePut
  split
  · exact keepsProgs_refl s
  · exact (keepsProgs_drawNat s).trans (keepsProgs_modCore _ (fun c => keepsProg_refl c))

theorem keepsProgs_wcacheUse (s : State) (g : Regime) (stage lvl inp : Nat) : keepsProgs s (s.wcacheUse g stage lvl inp).2 := by
  unfold State.wcacheUse
  split
  · exact keepsProgs_refl s
  · split
    · exact keepsProgs_refl s
    · exact keepsProgs_drawBit s

/-- A translation of entry addresses that leaves the programs alone. -/
def keepsXl (xl : State → Nat → Tr Nat × State) : Prop := ∀ s a, keepsProgs s (xl s a).2

theorem keepsXl_noXl : keepsXl noXl := fun s _ => keepsProgs_refl s

theorem keepsProgs_walkLevel (s : State) (g : Regime) (stage : Nat) (d : Side) {xl : State → Nat → Tr Nat × State} (hxl : keepsXl xl)
    (inp lvl t : Nat) : keepsProgs s (s.walkLevel g stage d xl inp lvl t).2 := by
  have huse : keepsProgs s (if lvl < 4 then s.wcacheUse g stage lvl inp else (none, s)).2 :=
    keepsProgs_iteSnd (keepsProgs_wcacheUse ..) (keepsProgs_refl s)
  unfold State.walkLevel
  generalize (if lvl < 4 then s.wcacheUse g stage lvl inp else (none, s)) = u at huse ⊢
  obtain ⟨hit, s0⟩ := u
  refine huse.trans ?_
  dsimp only
  split
  · exact keepsProgs_refl s0
  · have hx := hxl s0 (t + 8 * walkIdx inp lvl)
    split
    · exact hx.snd ‹_›
    · exact hx.snd ‹_›
    · rename_i ea s1 hq
      refine (hx.snd hq).trans (keepsProgs_iteSnd (keepsProgs_refl s1) ?_)
      have hr := keepsProgs_walkRead s1 g d lvl ea
      split
      · exact hr.snd ‹_›
      · exact hr.snd ‹_›
      · rename_i e s2 hw
        have h2 := keepsProgs_refl s2
        exact (hr.snd hw).trans (keepsProgs_iteSnd h2 (keepsProgs_iteSnd (keepsProgs_iteSnd h2 h2) (keepsProgs_iteSnd h2 (keepsProgs_wcachePut ..))))

theorem keepsProgs_walkFrom (g : Regime) (stage : Nat) (d : Side) {xl : State → Nat → Tr Nat × State} (hxl : keepsXl xl) (inp k : Nat) :
    ∀ (lvl t : Nat) (s : State), keepsProgs s (State.walkFrom g stage d xl inp k lvl t s).2 := by
  induction k with
  | zero => exact fun _ _ s => keepsProgs_refl s
  | succ k ih =>
    intro lvl t s
    have hlvl := keepsProgs_walkLevel s g stage d hxl inp lvl t
    rw [State.walkFrom]
    split
    · exact hlvl.snd ‹_›
    · exact hlvl.snd ‹_›
    · exact hlvl.snd ‹_›
    · rename_i nt s1 hq
      exact (hlvl.snd hq).trans (ih ..)

theorem keepsProgs_markLeaf (s : State) (g : Regime) (nd : Need) (d : Side) (hwad : Bool) (l : Leaf) (ea : Nat) :
    keepsProgs s (s.markLeaf g nd d hwad l ea).2 := by
  unfold State.markLeaf
  split
  · exact keepsProgs_refl s
  · rename_i k _
    have hsw := keepsProgs_walkSwap s g d l.lvl ea l.e (marked nd l.e)
    refine keepsProgs_iteSnd (keepsProgs_refl s) ?_
    split
    · exact (hsw.snd ‹_›).trans (keepsProgs_twCount ..)
    · exact hsw

theorem keepsProgs_stage2 (g : Regime) (nd : Need) (d : Side) (root ipa k : Nat) :
    ∀ s : State, keepsProgs s (State.stage2 g nd d root ipa k s).2 := by
  induction k with
  | zero => exact fun s => keepsProgs_refl s
  | succ k ih =>
    intro s
    have hwalk := keepsProgs_walkFrom g 2 d keepsXl_noXl ipa 5 0 root s
    rw [State.stage2]
    split
    · exact hwalk.snd ‹_›
    · exact hwalk.snd ‹_›
    · rename_i l s1 hq
      refine (hwalk.snd hq).trans ?_
      split
      · exact keepsProgs_refl s1
      · have hmark := keepsProgs_markLeaf s1 g nd d g.hwad2 l l.ea
        split
        · exact hmark.snd ‹_›
        · exact (hmark.snd ‹_›).trans (ih _)
        · exact hmark.snd ‹_›
        · exact hmark.snd ‹_›

theorem keepsXl_tableXl (g : Regime) (nd : Need) : keepsXl (State.tableXl g nd) := by
  intro s ia
  unfold State.tableXl
  split
  · exact keepsProgs_refl s
  · rename_i root _
    have hst := keepsProgs_stage2 g nd ⟨true, true, ia⟩ root ia walkFuel s
    split
    · exact hst.snd ‹_›
    · exact hst.snd ‹_›
    · exact hst.snd ‹_›

theorem keepsProgs_stage1 (g : Regime) (nd : Need) (root va k : Nat) : ∀ s : State, keepsProgs s (State.stage1 g nd root va k s).2 := by
  induction k with
  | zero => exact fun s => keepsProgs_refl s
  | succ k ih =>
    intro s
    have hwalk := keepsProgs_walkFrom g 1 ⟨false, false, 0⟩ (keepsXl_tableXl g { needLoad with pf := nd.pf }) (va % 2 ^ 57) 5 0 root s
    rw [State.stage1]
    dsimp only
    split
    · exact hwalk.snd ‹_›
    · exact hwalk.snd ‹_›
    · rename_i l s1 hq
      refine (hwalk.snd hq).trans ?_
      split
      · exact keepsProgs_refl s1
      · refine keepsProgs_iteSnd (keepsProgs_refl s1) (keepsProgs_iteSnd (keepsProgs_refl s1) ?_)
        have hx := keepsXl_tableXl g { needStore with pf := nd.pf } s1 l.ea
        split
        · exact hx.snd ‹_›
        · exact hx.snd ‹_›
        · rename_i ea s2 he
          refine (hx.snd he).trans ?_
          have hmark := keepsProgs_markLeaf s2 g nd ⟨false, false, 0⟩ g.hwad1 l ea
          split
          · exact hmark.snd ‹_›
          · exact (hmark.snd ‹_›).trans (ih _)
          · exact hmark.snd ‹_›
          · exact hmark.snd ‹_›

theorem keepsProgs_fullWalk (s : State) (g : Regime) (nd : Need) (va : Word) : keepsProgs s (s.fullWalk g nd va).2 := by
  have hfirst : ∀ o : Option Nat, keepsProgs s (match o with
      | none => ((.ok none, s) : Tr (Option Leaf) × State)
      | some root =>
        match State.stage1 g nd root va.toNat walkFuel s with
        | (.ok l, s1) => (.ok (some l), s1)
        | (.fault f, s1) => (.fault f, s1)
        | (.busy, s1) => (.busy, s1)).2 := by
    intro o
    cases o with
    | none => exact keepsProgs_refl s
    | some root =>
      have hst := keepsProgs_stage1 g nd root va.toNat walkFuel s
      dsimp only
      split
      · exact hst.snd ‹_›
      · exact hst.snd ‹_›
      · exact hst.snd ‹_›
  unfold State.fullWalk
  dsimp only
  split
  · exact (hfirst _).snd ‹_›
  · exact (hfirst _).snd ‹_›
  · rename_i l1 s1 hq
    refine ((hfirst _).snd hq).trans ?_
    split
    · exact keepsProgs_iteSnd (keepsProgs_refl s1) (keepsProgs_refl s1)
    · have hst := keepsProgs_stage2 g nd
      split
      · exact (hst ..).snd ‹_›
      · exact (hst ..).snd ‹_›
      · exact (hst ..).snd ‹_›

theorem keepsProgs_tlbFill (s : State) (g : Regime) (fetch : Bool) (e : TlbEntry) : keepsProgs s (s.tlbFill g fetch e) := by
  unfold State.tlbFill
  dsimp only
  split
  · refine (keepsProgs_drawNat s).trans (keepsProgs_modCore _ (fun c => ?_))
    cases fetch <;> split <;> exact keepsProg_refl c
  · exact keepsProgs_of_cores rfl

theorem keepsProgs_noteWalk (s : State) (g : Regime) (fetch : Bool) : keepsProgs s (s.noteWalk g fetch) := by
  unfold State.noteWalk
  split
  · exact (keepsProgs_noteEv ..).trans (keepsProgs_noteEv ..)
  · exact keepsProgs_refl s

theorem keepsProgs_translate (s : State) (g : Regime) (nd : Need) (va : Word) : keepsProgs s (s.translate g nd va).2 := by
  unfold State.translate
  dsimp only
  refine keepsProgs_iteSnd (keepsProgs_refl s) (keepsProgs_iteSnd (keepsProgs_refl s) ?_)
  generalize List.find? _ (s.tlbOf g nd.x) = hit
  have hdraw : keepsProgs s (if hit.isSome then s.drawBit else (false, s)).2 := keepsProgs_iteSnd (keepsProgs_drawBit s) (keepsProgs_refl s)
  generalize (if hit.isSome then s.drawBit else (false, s)) = u at hdraw ⊢
  obtain ⟨b, s0⟩ := u
  refine hdraw.trans ?_
  split
  · exact keepsProgs_refl s0
  · have hwalk := (keepsProgs_noteWalk s0 g nd.x).trans (keepsProgs_fullWalk _ g nd va)
    split
    · exact (hwalk.snd ‹_›).trans (keepsProgs_tlbFill ..)
    · exact hwalk.snd ‹_›
    · exact hwalk.snd ‹_›
    · exact hwalk.snd ‹_›

/-! The regime, and prefetch work. -/

theorem keepsProgs_gov (s : State) (n key : Nat) : keepsProgs s (s.gov n key).2 := by
  unfold State.gov
  split
  · exact keepsProgs_refl s
  · exact keepsProgs_drawBit s

theorem keepsProgs_regime (s : State) (n : Nat) : keepsProgs s (s.regime n).2 := by
  unfold State.regime
  dsimp only
  split
  · exact keepsProgs_refl s
  · exact (keepsProgs_gov ..).trans (keepsProgs_gov ..)
  · have htwo := fun k l => (keepsProgs_gov s n k).trans (keepsProgs_gov _ n l)
    exact keepsProgs_iteSnd (htwo ..) ((htwo ..).trans ((keepsProgs_gov ..).trans (keepsProgs_gov ..)))

end Sys2Proof.Machine
end

section
/-! O21: prefetch work and a cancelled path leave the programs alone, and the runs and halts of a core (03 R96 to R99, 06 R185 to R188). -/
namespace Sys2Proof.Machine
open Sys2Proof

theorem keepsProgs_prefetchLine (s : State) (n : Nat) (va : Word) (own l2only : Bool) : keepsProgs s (s.prefetchLine n va own l2only) := by
  have hreg := keepsProgs_regime s n
  unfold State.prefetchLine
  generalize s.regime n = u at hreg ⊢
  obtain ⟨g, s1⟩ := u
  refine hreg.trans ?_
  dsimp only
  have hxl := keepsProgs_translate s1 g (if own then needPfW else needPfR) va
  split
  · exact hxl.snd ‹_›
  · exact (hxl.snd ‹_›).trans (keepsProgs_twCount ..)
  · rename_i y s2 hq
    refine (hxl.snd hq).trans (keepsProgs_ite (keepsProgs_refl s2) ?_)
    have hrd : ∀ line sec, keepsProgs s2 (if own then s2.cohOwn n line sec else s2.cohLoad n line sec).s := fun line sec =>
      keepsProgs_iteRes (keepsProgs_cohOwn ..) (keepsProgs_cohLoad ..)
    refine (hrd ((s2.foldX y).pa / 128) (s2.foldX y).sec).trans ?_
    generalize (if own then s2.cohOwn n ((s2.foldX y).pa / 128) (s2.foldX y).sec
      else s2.cohLoad n ((s2.foldX y).pa / 128) (s2.foldX y).sec) = r
    have hself := keepsProgs_refl r.s
    refine keepsProgs_ite hself (keepsProgs_ite ?_ (keepsProgs_ite hself (keepsProgs_l1dSide ..)))
    exact keepsProgsOpt_getD (keepsProgsOpt_l2CleanInv ..) hself

theorem keepsProgs_wrongItt (s : State) (n : Nat) : keepsProgs s (s.wrongItt n) := by
  unfold State.wrongItt
  exact (keepsProgs_drawNat s).trans ((keepsProgs_drawWord _).trans ((keepsProgs_drawNat _).trans
    (keepsProgs_modCore _ (fun c => keepsProg_refl c))))

theorem keepsProgs_wrongStack (s : State) (n : Nat) : keepsProgs s (s.wrongStack n) := by
  unfold State.wrongStack
  exact (keepsProgs_drawNat s).trans ((keepsProgs_drawWord _).trans (keepsProgs_modCore _ (fun c => keepsProg_refl c)))

theorem keepsProgs_wrongStep (s : State) (n : Nat) : keepsProgs s (s.wrongStep n) := by
  refine (keepsProgs_drawNat s).trans ?_
  unfold State.wrongStep
  dsimp only
  split
  · exact keepsProgs_refl _
  · exact keepsProgs_wrongItt ..
  · exact keepsProgs_wrongStack ..
  · exact (keepsProgs_drawWord _).trans (keepsProgs_ite (keepsProgs_prefetchLine ..) (keepsProgs_refl _))

theorem keepsProgs_wrongPath (n k : Nat) : ∀ s : State, keepsProgs s (State.wrongPath n k s) := by
  induction k with
  | zero => exact fun s => keepsProgs_refl s
  | succ k ih => exact fun s => (keepsProgs_wrongStep s n).trans (ih _)

theorem answers_branchMispredict {s : State} {n : CoreNo} (hmis : (s.core n).mispred = true) :
    Answers (.branchMispredict n) s (fun t => (t.core n).mispred = false ∧ (t.core n).pc = (s.core n).pc ∧
      (t.core n).g = (s.core n).g ∧ (t.core n).p = (s.core n).p ∧ (t.core n).v = (s.core n).v ∧ (t.core n).a = (s.core n).a ∧
      keepsMode (s.core n) (t.core n)) := by
  obtain ⟨hg, hp, hv, ha, hpc, hmode⟩ := ((keepsProgs_drawNat s).trans (keepsProgs_wrongPath n s.drawNat.1 s.drawNat.2)).core n
  refine ⟨(State.wrongPath n s.drawNat.1 s.drawNat.2).modCore n (fun c => { c with mispred := false }), if_pos hmis, ?_⟩
  beta_reduce
  rw [core_modCore_self]
  exact ⟨rfl, hpc, hg, hp, hv, ha, hmode⟩

/-- L1D is in use only where L2 is. -/
theorem l2en_of_l1den {c : Core} (h : c.l1den = true) : c.l2en = true := (Bool.and_eq_true_iff.mp h).2

/-- Settles O21: each command's own lemma; the wrong path keeps the programs, and a hardware prefetch is a fill from the system cache. -/
theorem runControl : Obligations.RunControl := by
  unfold Obligations.RunControl
  refine ⟨fun _ _ => answers_release, fun _ _ => answers_haltreq, fun _ _ => answers_debugHalt, fun _ _ => answers_resume,
    fun _ _ => answers_creset, fun _ _ => answers_coreResetDone, fun _ _ _ _ => answers_dbginst, fun _ _ => answers_cleaninvDone,
    fun _ _ => answers_branchMispredict, fun _ _ va => exec_hwPrefetch va, ?_⟩
  intro s n va l2 m hlive hstop
  dsimp only
  intro hbit hpage hen1 hl1 hret hl2 hreach hup hfilt hdc hwb hfree hdir hen hm hp
  obtain ⟨hfill2, hfill1, -⟩ := exec_hwPrefetch va hlive hstop
  have hexec : exec (.hwPrefetch n va l2) s = .next (s.prefetchLine n va false l2) := by
    cases l2 with
    | true => exact hfill2 hbit (l2en_of_l1den hen1) hpage
    | false => exact hfill1 hbit hen1 hpage
  exact answers_fill hexec hen1 hl1 hret ⟨hl2, hfilt, hdc, hwb⟩ hreach hup hfree hdir hen hm hp

end Sys2Proof.Machine
end

section
/-! The numeric instructions that only compute registers (04 R106 to R131): the frame in which a row is issued, NUMERIC, and what a
row that completes has written. -/
namespace Sys2Proof.Machine
open Sys2Proof

/-! What an instruction writes at its core and completes. -/

/-- An instruction that has written `f` at its core completes (03 R70). -/
theorem endsAs_written {n : Nat} {s : State} {f : Core → Core} (c0 : Core) (npc : Word) (evs : List (Nat × Nat))
    (hdbg : (f (s.core n)).dbg = false) :
    endsAs n (f (s.core n)) npc s ((s.modCore n f).retireInsn n c0 npc false evs) := by
  refine endsAs_retire c0 npc false evs ?_ (keepsRest_modCore n s f) ?_ <;> rw [core_modCore_self]
  · exact sameSeen_refl _
  · exact hdbg

/-- A row computes registers alone: it is issued in the frame of core `n` and its predicate, passes the frame's checks where it is
well-formed, and does `f` to its core. -/
def Computes (i : Instr) (n : Nat) (pred : BitVec 3) (pn : Bool) (f : Core → Core) : Prop :=
  ∃ bad, (i.wf = true → bad = false) ∧ ∀ s, exec i s = s.compute ⟨n, pred, pn, wordOf i, preChk bad .u⟩ f

theorem Computes.answers {i : Instr} {n : Nat} {pred : BitVec 3} {pn : Bool} {f : Core → Core} {s s1 : State}
    (hi : Computes i n pred pn f) (h : Runs i n pred pn s s1) (hf : ∀ c, (f c).dbg = c.dbg) :
    Answers i s (endsAs n (f (s1.core n)) ((s1.core n).pc + 4) s1) := by
  obtain ⟨bad, hwf, hexec⟩ := hi
  exact ⟨_, exec_eq_body (hexec s) rfl h (preChk_u_of (hwf h.wf) _), endsAs_written _ _ [] ((hf _).trans h.dbg)⟩

/-- A numeric row: issued in such a frame, it gives flags by lane, and what it writes where none of them is enabled (04 R117). -/
def Numeric (i : Instr) (n : Nat) (pred : BitVec 3) (pn : Bool) (f : Core → List Nat × (Core → Core)) : Prop :=
  ∃ bad evs, (i.wf = true → bad = false) ∧ ∀ s, exec i s = s.numInsn ⟨n, pred, pn, wordOf i, preChk bad .u⟩ evs f

/-- A numeric row completes with its flags and its results, or raises NUMERIC. -/
theorem Numeric.cases {i : Instr} {n : Nat} {pred : BitVec 3} {pn : Bool} {f : Core → List Nat × (Core → Core)} {s s1 : State}
    (hi : Numeric i n pred pn f) (h : Runs i n pred pn s s1) (hf : ∀ c d, ((f c).2 d).dbg = d.dbg) :
    (orFlags (f (s1.core n)).1 &&& (s1.core n).numEnables = 0 → Answers i s (endsAs n
      ((f (s1.core n)).2 ((s1.core n).raiseFlags (orFlags (f (s1.core n)).1))) ((s1.core n).pc + 4) s1)) ∧
    (orFlags (f (s1.core n)).1 &&& (s1.core n).numEnables ≠ 0 → exec i s = .next (s1.numTrap n (s1.core n) (f (s1.core n)).1)) := by
  obtain ⟨bad, evs, hwf, hexec⟩ := hi
  have hrun := exec_eq_body (hexec s) rfl h (preChk_u_of (hwf h.wf) _)
  rw [State.numFin] at hrun
  refine ⟨fun hno => ?_, fun hen => ?_⟩
  · rw [if_pos hno] at hrun
    exact ⟨_, hrun, endsAs_written (f := fun x => (f (s1.core n)).2 (x.raiseFlags (orFlags (f (s1.core n)).1))) _ _ evs
      ((hf _ _).trans h.dbg)⟩
  · rw [if_neg hen] at hrun
    exact hrun

/-! The fields of a well-formed row (04 R111). -/

theorem rmBad_of_wfRm {rm : BitVec 3} (h : wfRm rm = true) : rmBad rm = false := by
  simpa [wfRm, rmBad] using h

end Sys2Proof.Machine
end

section
/-! O12: vector arithmetic, compares and conversions. -/
namespace Sys2Proof.Machine
open Sys2Proof

/-- VARITH (04 R127). -/
theorem numeric_varith (o : VF) :
    ∀ e ∈ [((.fadd : VF → Instr), 0), (.fsub, 1), (.fmul, 2), (.fdiv, 3), (.fmin, 4), (.fmax, 5), (.fsqrt, 6), (.frint, 7)],
      Numeric (e.1 o) o.core o.pred o.pn (fun c => laneResults o (fun k => laneArith e.2 (laneFmt o.sz) c.prec (c.rmOf o.rm)
        (laneGet o.sz (c.rv o.vs1) k) (laneGet o.sz (c.rv o.vs2) k))) := by
  simp only [List.forall_mem_cons, List.not_mem_nil, false_imp_iff, implies_true, and_true]
  and_intros <;>
  · refine ⟨_, _, fun h => ?_, fun _ => rfl⟩
    unfold Instr.wf at h
    simp_all [wfRm, rmBad]

/-- VFMA (04 R128). -/
theorem numeric_vfma (o : VF) : ∀ e ∈ [((.fma : VF → Instr), 0), (.fms, 1), (.fnma, 2), (.fnms, 3)],
    Numeric (e.1 o) o.core o.pred o.pn (fun c => laneResults o (fun k => laneFma e.2 (laneFmt o.sz) c.prec (c.rmOf o.rm)
      (laneGet o.sz (c.rv o.vs1) k) (laneGet o.sz (c.rv o.vs2) k) (laneGet o.sz (c.rv o.vd) k))) := by
  simp only [List.forall_mem_cons, List.not_mem_nil, false_imp_iff, implies_true, and_true]
  and_intros <;> exact ⟨_, _, rmBad_of_wfRm, fun _ => rfl⟩

/-- What a compare answers and writes: its flags by lane, and its lane mask to g[vd]. -/
def maskResults (o : VF) (r : Nat → Bool × Nat) : List Nat × (Core → Core) :=
  ((List.range (laneN o.sz)).map (fun k => (r k).2),
   fun x => x.wg o.vd (BitVec.ofNat 64 ((List.range (laneN o.sz)).foldl (fun a k => a + b2n (r k).1 * 2 ^ k) 0)))

/-- VCMP (04 R129). -/
theorem numeric_vcmp (o : VF) : ∀ e ∈ [((.feq : VF → Instr), 0), (.flt, 1), (.fle, 2), (.funord, 3), (.fne, 4)],
    Numeric (e.1 o) o.core o.pred o.pn (fun c => maskResults o (fun k => laneCmp e.2 (laneFmt o.sz) (laneGet o.sz (c.rv o.vs1) k)
      (laneGet o.sz (c.rv o.vs2) k))) := by
  simp only [List.forall_mem_cons, List.not_mem_nil, false_imp_iff, implies_true, and_true]
  and_intros <;>
  · refine ⟨_, _, fun h => ?_, fun _ => rfl⟩
    rw [bne, Bool.not_eq_false']
    exact h

theorem vcvt_fields {o : VF} (h : (wfRm o.rm && o.vs2 == 0) = true) : (rmBad o.rm || o.vs2 != 0) = false := by
  simp_all [wfRm, rmBad]

/-- VCVT to integers (04 R130). -/
theorem numeric_vcvtTo (o : VF) : ∀ e ∈ [((.vcvtToSigned : VF → Instr), true), (.vcvtToUnsigned, false)],
    Numeric (e.1 o) o.core o.pred o.pn (fun c => laneResults o (fun k => laneToInt (laneFmt o.sz) e.2 (intBits o.sz) (c.rmOf o.rm)
      (laneGet o.sz (c.rv o.vs1) k))) := by
  simp only [List.forall_mem_cons, List.not_mem_nil, false_imp_iff, implies_true, and_true]
  and_intros <;> exact ⟨_, _, vcvt_fields, fun _ => rfl⟩

/-- VCVT from integers (04 R130). -/
theorem numeric_vcvtFrom (o : VF) : ∀ e ∈ [((.vcvtFromSigned : VF → Instr), true), (.vcvtFromUnsigned, false)],
    Numeric (e.1 o) o.core o.pred o.pn (fun c => laneResults o (fun k => laneFromInt (laneFmt o.sz) c.prec e.2 (intBits o.sz)
      (c.rmOf o.rm) (laneGet o.sz (c.rv o.vs1) k))) := by
  simp only [List.forall_mem_cons, List.not_mem_nil, false_imp_iff, implies_true, and_true]
  and_intros <;> exact ⟨_, _, vcvt_fields, fun _ => rfl⟩

/-- What VCVT between F72 and F36 answers and writes. -/
def convResults (o : VF) (r : Nat → Nat × Nat) : List Nat × (Core → Core) :=
  ((List.range 8).map (fun k => (r k).2), fun x => x.putV o.vd (lanePack (!o.sz) (fun k => if k < 8 then (r k).1 else 0)))

/-- VCVT between F72 and F36 (04 R130). -/
theorem numeric_vcvtNative (o : VF) : Numeric (.vcvtNative o) o.core o.pred o.pn (fun c => convResults o (fun k =>
    fpConv (laneFmt o.sz) (laneFmt !o.sz) (c.rmOf o.rm) (laneGet o.sz (c.rv o.vs1) k))) := by
  refine ⟨_, _, fun h => ?_, fun _ => rfl⟩
  have hwf : (wfRm o.rm && o.vs2 == 0 && (!o.sz || o.rm == 0)) = true := h
  obtain ⟨hfields, hsz⟩ := Bool.and_eq_true_iff.mp hwf
  rw [vcvt_fields hfields, Bool.false_or]
  simpa [or_iff_not_imp_left] using hsz

/-- Settles O12, group by group: each row is numeric, and completes or raises NUMERIC. -/
theorem vectorResults : Obligations.VectorResults := by
  unfold Obligations.VectorResults
  refine ⟨?_, ?_, ?_, ?_, ?_, ?_⟩
  · exact fun e he o s s1 h => (numeric_varith o e he).cases h (fun _ _ => rfl)
  · exact fun e he o s s1 h => (numeric_vfma o e he).cases h (fun _ _ => rfl)
  · exact fun e he o s s1 h => (numeric_vcmp o e he).cases h (fun _ d => wg_dbg d _ _)
  · exact fun e he o s s1 h => (numeric_vcvtTo o e he).cases h (fun _ _ => rfl)
  · exact fun e he o s s1 h => (numeric_vcvtFrom o e he).cases h (fun _ _ => rfl)
  · exact fun o s s1 h => (numeric_vcvtNative o).cases h (fun _ _ => rfl)

end Sys2Proof.Machine
end

section
/-! Accesses of a core to several lines that its own L2 holds (03 R86; 04 R133, R140): what an access to one line leaves of another,
loads of several lines, and the stores that a core holds until they are visible. -/
namespace Sys2Proof.Machine
open Sys2Proof

/-! What an access to one line leaves of another. -/

/-- What the L2 of core `n` holds of a line, and which of the line's entries are in error, is as before. -/
def keepsLine (n line : Nat) (s t : State) : Prop :=
  (t.core n).l2.get? line = (s.core n).l2.get? line ∧ ∀ k, t.upsets.get? (upKey k n line) = s.upsets.get? (upKey k n line)

theorem keepsLine_refl (n line : Nat) (s : State) : keepsLine n line s s := ⟨rfl, fun _ => rfl⟩

theorem keepsLine_trans {n line : Nat} {s t u : State} (h1 : keepsLine n line s t) (h2 : keepsLine n line t u) : keepsLine n line s u :=
  ⟨h2.1.trans h1.1, fun k => (h2.2 k).trans (h1.2 k)⟩

theorem keepsLine.holds {n line : Nat} {l : L2Line} {s t : State} (h : keepsLine n line s t) (hl : holdsLine s n line l) :
    holdsLine t n line l := by
  obtain ⟨hget, hp, hup⟩ := hl
  exact ⟨h.1.trans hget, hp, fun k hk => (h.2 k).trans (hup k hk)⟩

theorem keepsLine_modCore {n line : Nat} {s : State} {f : Core → Core}
    (h : (f (s.core n)).l2.get? line = (s.core n).l2.get? line) : keepsLine n line s (s.modCore n f) :=
  ⟨by rw [core_modCore_self]; exact h, fun _ => rfl⟩

theorem keepsLine_l2Store {n x y : Nat} (hne : y ≠ x) (s : State) (mask : BitVec 128) (data : LineData) :
    keepsLine n y s (s.l2Store n x mask data) := by
  refine keepsLine_modCore ?_
  dsimp only
  split
  · split <;> exact KMap.get?_set_ne _ _ hne
  · rfl

section
variable {n x y : Nat} (hne : y ≠ x) (hx : x * 128 < 0x400000000000) (hy : y * 128 < 0x400000000000)
include hne hx hy

/-- The entries of two lines are two entries of the arrays. -/
theorem upKey_line_ne (a b : Nat) : upKey a n y ≠ upKey b n x := by
  unfold upKey
  omega

theorem keepsLine_expose (s : State) (k : Nat) : keepsLine n y s (s.expose (upKey k n x)) :=
  ⟨rfl, fun j => upsets_expose_ne s (upKey_line_ne hne hx hy j k)⟩

theorem keepsLine_l2Entries (s : State) : keepsLine n y s ((s.expose (upKey 3 n x)).expose (upKey 2 n x)) :=
  keepsLine_trans (keepsLine_expose hne hx hy s 3) (keepsLine_expose hne hx hy _ 2)

theorem keepsLine_l1dPut (s : State) (p : Prop) [Decidable p] (l1 : KMap Nat) :
    keepsLine n y s (if p then (s.modCore n (fun c => { c with l1d := l1 })).expose (upKey 1 n x) else s) := by
  split
  · exact keepsLine_trans (keepsLine_modCore (f := fun c => { c with l1d := l1 }) rfl) (keepsLine_expose hne hx hy _ 1)
  · exact keepsLine_refl n y s

theorem keepsLine_l1dFill (s : State) : keepsLine n y s (s.l1dFill n x) := by
  unfold State.l1dFill
  dsimp only
  split
  · exact keepsLine_refl n y s
  · have hnote : keepsLine n y s (s.noteEv n 7) := by
      unfold State.noteEv
      exact keepsLine_modCore rfl
    have hev : keepsLine n y s (s.noteEv n 7).drawNat.2 := hnote
    exact keepsLine_trans hev (keepsLine_l1dPut hne hx hy _ _ _)

theorem keepsLine_l1dSide {s : State} (h : s.upsets.get? (upKey 1 n x) = none) : keepsLine n y s (s.l1dSide n x) := by
  have hcheck : keepsLine n y s (s.l1dCheck n x) := by
    unfold State.l1dCheck
    split
    · exact keepsLine_refl n y s
    · rw [readEntry_sound h]
      exact keepsLine_expose hne hx hy s 1
  unfold State.l1dSide
  split
  · exact keepsLine_trans hcheck (keepsLine_l1dFill hne hx hy _)
  · exact keepsLine_refl n y s

theorem keepsLine_ownStore (s : State) (mask : BitVec 128) (data : LineData) : keepsLine n y s (s.ownStore n x mask data) :=
  keepsLine_trans (keepsLine_trans (keepsLine_l2Entries hne hx hy s) (keepsLine_l1dFill hne hx hy _)) (keepsLine_l2Store hne _ _ _)

end

/-! Parts of an access. -/

/-- The line of a part. -/
def Piece.lineNo (p : Piece) : Nat := p.x.pa / 128

/-- A part in normal memory of DRAM, of the world `sec`. -/
def Piece.inDram (p : Piece) (sec : Bool) : Prop := p.x.mt = 0 ∧ p.x.sec = sec ∧ p.x.pa < 0x400000000000

theorem Piece.inDram.eq {p : Piece} {sec : Bool} (h : p.inDram sec) : p = ⟨⟨p.x.pa, 0, sec⟩, p.off, p.size⟩ := by
  obtain ⟨⟨pa, mt, sc⟩, off, size⟩ := p
  obtain ⟨rfl, rfl, -⟩ := h
  rfl

theorem Piece.inDram.pa_lt {p : Piece} {sec : Bool} (h : p.inDram sec) : p.x.pa < 0x400000000000 := by
  obtain ⟨-, -, hlt⟩ := h
  exact hlt

theorem Piece.inDram.line_lt {p : Piece} {sec : Bool} (h : p.inDram sec) : p.lineNo * 128 < 0x400000000000 := by
  have hlt := h.pa_lt
  unfold Piece.lineNo
  omega

/-- An untranslated access within one page: its parts by line. -/
theorem dataPieces_page {s : State} {n size : Nat} {va : Word} (hflat : flat (s.core n)) (hlt : va.toNat + size ≤ 0x400000000000)
    (hsize : 0 < size) (hpage : va.toNat % 4096 + size ≤ 4096) (hdbg : s.dbgControl n = false) (nd : Need) (k : AccKind) :
    s.dataPieces n va size nd k = (.ok (linePieces ⟨va.toNat, 0, (s.core n).dbgSec⟩ 0 size 6), s.noted n va) := by
  have hva : va.toNat < 0x400000000000 := by omega
  obtain ⟨hwatch, hpages, g, hg, hxl⟩ := access_start hflat hva hdbg
  have hfirst : min size (4096 - va.toNat % 4096) = size := by omega
  have hnormal : deviceBad ⟨va.toNat, 0, (s.core n).dbgSec⟩ va size = false := rfl
  unfold State.dataPieces
  rw [hwatch]
  dsimp only
  rw [hg]
  dsimp only
  rw [hxl]
  dsimp only
  rw [hpages, hfirst, foldX_dram _ hva, hnormal, if_neg Bool.false_ne_true, if_pos (rfl : size = size), if_neg Bool.false_ne_true]

/-! Loads of several lines. -/

/-- The read of a part of a held line leaves every other line. -/
theorem keepsLine_readPiece {s : State} {n y : Nat} {a off size : Nat} {sec : Bool} {l : L2Line} (ha : a < 0x400000000000)
    (htag : s.tagBad n sec = false) (hen : (s.core n).l2en = true) (h : holdsLine s n (a / 128) l) (hne : y ≠ a / 128)
    (hy : y * 128 < 0x400000000000) : keepsLine n y s (s.readPiece n ⟨⟨a, 0, sec⟩, off, size⟩).2 := by
  have hx : a / 128 * 128 < 0x400000000000 := by omega
  have hread : s.readAt n insnTag ⟨a, 0, sec⟩ size = (.line l.data 0, (s.expose (upKey 3 n (a / 128))).expose (upKey 2 n (a / 128))) := by
    unfold State.readAt State.memLine State.cohRead
    simp only [htag, hen, region_dram ha, cohLoad_held (line_region ha) h]
    rfl
  unfold State.readPiece
  rw [region_dram ha, if_neg (fun hc => by cases hc.1), hread]
  exact keepsLine_trans (keepsLine_l2Entries hne hx hy s) (keepsLine_l1dSide hne hx hy (upKey1_after_l2Check (h.2.2 1 (by decide))))

/-- The value that parts read give together, where `d` are the lines as the core sees them. -/
def piecesValue (d : Nat → LineData) (ps : List Piece) (v : Nat) : Nat :=
  ps.foldl (fun v p => v + pieceBytes (d p.lineNo) (p.x.pa % 128) p.size * 2 ^ (8 * p.off)) v

/-- Parts in lines that the core's L2 holds are read in order, each line under the core's own stores. -/
theorem readPieces_held {n : Nat} {va : Word} {sec : Bool} {L : Nat → L2Line} (ps : List Piece) :
    ∀ (s : State) (v : Nat), (∀ p ∈ ps, p.inDram sec ∧ holdsLine s n p.lineNo (L p.lineNo)) → (ps.map Piece.lineNo).Nodup →
      s.tagBad n sec = false → (s.core n).l2en = true → (s.core n).arrErr = 0 →
      ∃ s', s.readPieces n va ps v none =
        (.ok (piecesValue (fun x => ((s.core n).overlay x sec ((L x).data, 0)).1) ps v), s') ∧ sided n s s' := by
  induction ps with
  | nil => exact fun s v _ _ _ _ _ => ⟨s, rfl, sided_refl n s⟩
  | cons p ps ih =>
    intro s v hps hnodup htag hen harr
    obtain ⟨⟨hp, hheld⟩, hrest⟩ := List.forall_mem_cons.mp hps
    obtain ⟨hnew, hnodup⟩ := List.nodup_cons.mp hnodup
    obtain ⟨s1, hread, hside, harr1⟩ := readPiece_held (off := p.off) (size := p.size) hp.pa_lt htag hen hheld
    rw [← hp.eq] at hread
    have hkeeps : ∀ q ∈ ps, q.inDram sec ∧ holdsLine s1 n q.lineNo (L q.lineNo) := by
      intro q hq
      obtain ⟨hdram, hqheld⟩ := hrest q hq
      have hne : q.lineNo ≠ p.lineNo := fun h => hnew (h ▸ List.mem_map_of_mem hq)
      have hk := keepsLine_readPiece (off := p.off) (size := p.size) hp.pa_lt htag hen hheld hne hdram.line_lt
      rw [← hp.eq, hread] at hk
      exact ⟨hdram, hk.holds hqheld⟩
    obtain ⟨⟨cs, up, fr, hs1⟩, -, _, _, _, _, _, hcore⟩ := id hside
    obtain ⟨s2, hreads, hside2⟩ := ih s1 (v + pieceBytes ((s.core n).overlay p.lineNo sec ((L p.lineNo).data, 0)).1 (p.x.pa % 128) p.size *
      2 ^ (8 * p.off)) hkeeps hnodup (by rw [hs1]; exact htag) (by rw [hcore]; exact hen) (harr1.trans harr)
    have hover : ∀ x d, (s1.core n).overlay x sec d = (s.core n).overlay x sec d := fun x d => by rw [hcore]; rfl
    have hnoErr : (touched 0 (p.x.pa % 128) p.size || (s1.core n).arrErr == 1) = false := by
      rw [not_touched_zero, harr1, harr]
      rfl
    refine ⟨s2, ?_, sided_trans hside hside2⟩
    unfold State.readPieces
    rw [hread]
    dsimp only
    rw [hnoErr, if_neg Bool.false_ne_true]
    simp only [hover] at hreads
    exact hreads

/-! What a core sees of its lines. -/

/-- The core sees a line as `d`: what its L2 holds, under the stores that no one else sees yet. -/
def seesLine (n line : Nat) (sec : Bool) (d : LineData) (t : State) : Prop :=
  ∃ m, (t.core n).l2.get? line = some m ∧ ((t.core n).overlay line sec (m.data, 0)).1 = d

/-- A store laid over a line: only its own line changes. -/
def laid (line : Nat) (sec : Bool) (x : LineData × BitVec 16) (e : SbEntry) : LineData × BitVec 16 :=
  if e.line = line ∧ e.sec = sec then (mergeLine x.1 e.data e.mask, mergePoison x.2 0 e.mask) else x

theorem overlay_eq_foldl (c : Core) (line : Nat) (sec : Bool) (x : LineData × BitVec 16) :
    c.overlay line sec x = c.sbuf.foldl (laid line sec) x := rfl

theorem laid_ne {line : Nat} {sec : Bool} {e : SbEntry} (h : e.line ≠ line) (x : LineData × BitVec 16) : laid line sec x e = x :=
  if_neg (fun hc => h hc.1)

theorem laid_self (e : SbEntry) (d : LineData) : laid e.line e.sec (d, 0) e = (mergeLine d e.data e.mask, 0) := by
  rw [laid, if_pos ⟨rfl, rfl⟩, mergePoison_zero]

theorem foldl_laid_ne {line : Nat} {sec : Bool} {l : List SbEntry} (h : line ∉ l.map SbEntry.line) (x : LineData × BitVec 16) :
    l.foldl (laid line sec) x = x := by
  induction l with
  | nil => rfl
  | cons e l ih =>
    rw [List.map_cons, List.mem_cons, not_or] at h
    obtain ⟨he, hl⟩ := h
    rw [List.foldl_cons, laid_ne (Ne.symm he), ih hl]

/-! Stores that a core holds (03 R86, R87). -/

/-- Every store that core `n` holds is of the world `sec` and to a line that the core owns, and no two are to one line. -/
def storesOwn (n : Nat) (sec : Bool) (s : State) : Prop :=
  ((s.core n).sbuf.map SbEntry.line).Nodup ∧ ∀ e ∈ (s.core n).sbuf, e.sec = sec ∧ e.line * 128 < 0x400000000000 ∧
    ∃ l, holdsLine s n e.line l ∧ 2 ≤ l.st.rank

/-- From `s` to `t` stores that core `n` holds have become visible; a program and the core see the same, and lines to which no store
is held are untouched. -/
structure Drains (n : Nat) (sec : Bool) (s t : State) : Prop where
  seen : unseen n s t
  vsf : t.vsf = s.vsf
  own : storesOwn n sec t
  held : ∀ e ∈ (t.core n).sbuf, e ∈ (s.core n).sbuf
  other : ∀ y, y ∉ (s.core n).sbuf.map SbEntry.line → y * 128 < 0x400000000000 → keepsLine n y s t
  sees : ∀ y d, y * 128 < 0x400000000000 → seesLine n y sec d s → seesLine n y sec d t

theorem Drains.refl {n : Nat} {sec : Bool} {s : State} (h : storesOwn n sec s) : Drains n sec s s :=
  ⟨unseen_refl n s, rfl, h, fun _ he => he, fun y _ _ => keepsLine_refl n y s, fun _ _ _ hd => hd⟩

theorem Drains.lines {n : Nat} {sec : Bool} {s t : State} (h : Drains n sec s t) {y : Nat} (hy : y ∉ (s.core n).sbuf.map SbEntry.line) :
    y ∉ (t.core n).sbuf.map SbEntry.line := by
  intro hc
  obtain ⟨e, he, rfl⟩ := List.mem_map.mp hc
  exact hy (List.mem_map_of_mem (h.held e he))

theorem Drains.trans {n : Nat} {sec : Bool} {s t u : State} (h1 : Drains n sec s t) (h2 : Drains n sec t u) : Drains n sec s u where
  seen := unseen_trans h1.seen h2.seen
  vsf := h2.vsf.trans h1.vsf
  own := h2.own
  held e he := h1.held e (h2.held e he)
  other y hy hlt := keepsLine_trans (h1.other y hy hlt) (h2.other y (h1.lines hy) hlt)
  sees y d hlt hd := h2.sees y d hlt (h1.sees y d hlt hd)

theorem storeOut_core {n : Nat} {s : State} (va : Word) (rest : List SbEntry) :
    (s.modCore n (fun c => Core.storeOut .ok va { c with sbuf := rest })).core n = { s.core n with sbuf := rest } := by
  rw [core_modCore_self, storeOut_ok]

/-- The core's own store changes its core and free values alone. -/
theorem ownStore_vsf (s : State) (n line : Nat) (mask : BitVec 128) (data : LineData) : (s.ownStore n line mask data).vsf = s.vsf := by
  obtain ⟨⟨_, _, _, h⟩, -⟩ := (sided_l1dFill n ((s.expose (upKey 3 n line)).expose (upKey 2 n line)) line).1
  have hfill : (((s.expose (upKey 3 n line)).expose (upKey 2 n line)).l1dFill n line).vsf = s.vsf := by rw [h]; rfl
  exact hfill

theorem l2en_of_unseen {n : Nat} {s t : State} (h : unseen n s t) : (t.core n).l2en = (s.core n).l2en := by
  obtain ⟨⟨-, -, -, -, -, hcreg⟩, -⟩ := h
  rw [Core.l2en, hcreg cCACHECTL rfl, ← Core.l2en]

/-- The oldest store that a core holds becomes visible. -/
theorem drains_sbOne {n : Nat} {sec : Bool} {s : State} (hown : storesOwn n sec s) (hen : (s.core n).l2en = true) :
    ∃ t, s.sbOne n = (true, t) ∧ Drains n sec s t := by
  cases hsb : (s.core n).sbuf with
  | nil => exact ⟨s, by rw [State.sbOne, hsb], Drains.refl hown⟩
  | cons e rest =>
    obtain ⟨hnodup, hall⟩ := id hown
    rw [hsb] at hnodup hall
    obtain ⟨hnew, hnodup⟩ := List.nodup_cons.mp hnodup
    obtain ⟨⟨hsec, hlt, l, hheld, hst⟩, hrest⟩ := List.forall_mem_cons.mp hall
    obtain ⟨hseen, hline, -⟩ := ownStore_facts hheld hst e.mask e.data
    have hcore := storeOut_core (s := s.ownStore n e.line e.mask e.data) (n := n) e.va rest
    have hkeeps : ∀ y, y ≠ e.line → y * 128 < 0x400000000000 → keepsLine n y s ((s.ownStore n e.line e.mask e.data).modCore n
        (fun c => Core.storeOut .ok e.va { c with sbuf := rest })) := fun y hne hy =>
      keepsLine_trans (keepsLine_ownStore hne hlt hy s e.mask e.data) (keepsLine_modCore (by rw [storeOut_ok]))
    refine ⟨(s.ownStore n e.line e.mask e.data).modCore n (fun c => Core.storeOut .ok e.va { c with sbuf := rest }), ?_, ?_⟩
    · unfold State.sbOne
      rw [hsb]
      dsimp only
      rw [cohStore_held (region_dram hlt) hen hheld hst]
      rfl
    · refine ⟨unseen_trans hseen (unseen_modCore ?_ ?_ ?_), ownStore_vsf s n e.line e.mask e.data, ⟨?_, ?_⟩, ?_, ?_, ?_⟩
      · rw [storeOut_ok]
        exact sameSeen_refl _
      · rw [storeOut_ok]
      · rw [storeOut_ok]
      · rw [hcore]
        exact hnodup
      · rw [hcore]
        intro b hb
        obtain ⟨hbsec, hblt, m, hbheld, hbst⟩ := hrest b hb
        have hne : b.line ≠ e.line := fun h => hnew (h ▸ List.mem_map_of_mem hb)
        exact ⟨hbsec, hblt, m, (hkeeps b.line hne hblt).holds hbheld, hbst⟩
      · rw [hcore, hsb]
        exact fun b hb => List.mem_cons_of_mem e hb
      · rw [hsb]
        intro y hy hylt
        exact hkeeps y (fun h => hy (h ▸ List.mem_cons_self)) hylt
      · rintro y d hylt ⟨m, hm, hover⟩
        rw [overlay_eq_foldl, hsb, List.foldl_cons] at hover
        by_cases hy : y = e.line
        · subst hy
          obtain rfl : l = m := Option.some.inj (hheld.1.symm.trans hm)
          refine ⟨l.withStore e.mask e.data, by rw [hcore]; exact hline, ?_⟩
          rw [← hsec, laid_self] at hover
          rw [← hsec, hcore]
          exact hover
        · rw [laid_ne (Ne.symm hy)] at hover
          refine ⟨m, (hkeeps y hy hylt).1.trans hm, ?_⟩
          rw [hcore]
          exact hover

theorem drains_sbRun {n : Nat} {sec : Bool} (k : Nat) : ∀ {s : State}, storesOwn n sec s → (s.core n).l2en = true →
    Drains n sec s (s.sbRun n k).2 := by
  induction k with
  | zero => exact fun hown _ => Drains.refl hown
  | succ k ih =>
    intro s hown hen
    obtain ⟨t, hone, hd⟩ := drains_sbOne hown hen
    rw [State.sbRun, hone]
    exact hd.trans (ih hd.own ((l2en_of_unseen hd.seen).trans hen))

/-- A core takes a store into a line that it owns and to which it holds none: the state in which it is held. -/
theorem heldStore_own {s : State} {n : Nat} {e : SbEntry} {l : L2Line} (hown : storesOwn n e.sec s) (hlt : e.line * 128 < 0x400000000000)
    (h : holdsLine s n e.line l) (hst : 2 ≤ l.st.rank) (hnew : e.line ∉ (s.core n).sbuf.map SbEntry.line) :
    (s.heldStore n e).core n = { s.core n with sbuf := (s.core n).sbuf ++ [e] } ∧ storesOwn n e.sec (s.heldStore n e) ∧
      seesLine n e.line e.sec (mergeLine l.data e.data e.mask) (s.heldStore n e) ∧
      ∀ y d, y ≠ e.line → seesLine n y e.sec d s → seesLine n y e.sec d (s.heldStore n e) := by
  have hcore : (s.heldStore n e).core n = { s.core n with sbuf := (s.core n).sbuf ++ [e] } :=
    core_modCore_self s n (fun c => { c with sbuf := c.sbuf ++ [e] })
  have hkeeps : ∀ y, keepsLine n y s (s.heldStore n e) := fun y => ⟨by rw [hcore], fun _ => rfl⟩
  obtain ⟨hnodup, hall⟩ := hown
  refine ⟨hcore, ⟨?_, ?_⟩, ⟨l, by rw [hcore]; exact h.1, ?_⟩, ?_⟩
  · rw [hcore, List.map_append, List.nodup_append]
    refine ⟨hnodup, List.nodup_singleton _, fun a ha b hb => ?_⟩
    rintro rfl
    exact hnew (List.mem_singleton.mp hb ▸ ha)
  · rw [hcore]
    intro b hb
    obtain hb | hb := List.mem_append.mp hb
    · obtain ⟨hbsec, hblt, m, hbheld, hbst⟩ := hall b hb
      exact ⟨hbsec, hblt, m, (hkeeps b.line).holds hbheld, hbst⟩
    · rw [List.mem_singleton.mp hb]
      exact ⟨rfl, hlt, l, (hkeeps e.line).holds h, hst⟩
  · rw [hcore, overlay_eq_foldl, List.foldl_append, foldl_laid_ne hnew]
    exact congrArg Prod.fst (laid_self e l.data)
  · rintro y d hne ⟨m, hm, hover⟩
    refine ⟨m, (hkeeps y).1.trans hm, ?_⟩
    rw [hcore, overlay_eq_foldl, List.foldl_append, List.foldl_cons, List.foldl_nil, laid_ne (Ne.symm hne)]
    exact hover

/-- From `s` to `t` core `n` has stored into the line `x`, which it sees as `d` now: nothing else has changed for a program or the
core. -/
structure Stores (n : Nat) (sec : Bool) (x : Nat) (d : LineData) (s t : State) : Prop where
  seen : unseen n s t
  vsf : t.vsf = s.vsf
  own : storesOwn n sec t
  held : ∀ y ∈ (t.core n).sbuf.map SbEntry.line, y = x ∨ y ∈ (s.core n).sbuf.map SbEntry.line
  other : ∀ y, y ≠ x → y ∉ (s.core n).sbuf.map SbEntry.line → y * 128 < 0x400000000000 → keepsLine n y s t
  self : seesLine n x sec d t
  sees : ∀ y d', y ≠ x → y * 128 < 0x400000000000 → seesLine n y sec d' s → seesLine n y sec d' t

/-- A store into an owned line is held, and any number of the stores held become visible at once (03 R86). -/
theorem stores_sbPut {s : State} {n : Nat} {e : SbEntry} {l : L2Line} (hown : storesOwn n e.sec s) (hen : (s.core n).l2en = true)
    (hlt : e.line * 128 < 0x400000000000) (h : holdsLine s n e.line l) (hst : 2 ≤ l.st.rank)
    (hnew : e.line ∉ (s.core n).sbuf.map SbEntry.line) :
    Stores n e.sec e.line (mergeLine l.data e.data e.mask) s (s.sbPut n e) := by
  obtain ⟨hcore, howned, hself, hsees⟩ := heldStore_own hown hlt h hst hnew
  have hput : unseen n s (s.heldStore n e) := unseen_trans (unseen_modCore (sameSeen_refl _) rfl rfl) (unseen_drawNat n _)
  have hlines : ∀ y, y ∈ ((s.heldStore n e).core n).sbuf.map SbEntry.line ↔ y ∈ (s.core n).sbuf.map SbEntry.line ∨ y = e.line := by
    intro y
    rw [hcore, List.map_append, List.mem_append, List.map_singleton, List.mem_singleton]
  obtain ⟨k, hk⟩ : ∃ k, s.sbPut n e = ((s.heldStore n e).sbRun n k).2 := ⟨_, rfl⟩
  have hd : Drains n e.sec (s.heldStore n e) (s.sbPut n e) := hk ▸ drains_sbRun k howned ((l2en_of_unseen hput).trans hen)
  refine ⟨unseen_trans hput hd.seen, hd.vsf, hd.own, fun y hy => ?_, fun y hne hy hylt => ?_, hd.sees _ _ hlt hself,
    fun y d hne hylt hy => hd.sees y d hylt (hsees y d hne hy)⟩
  · obtain ⟨b, hb, rfl⟩ := List.mem_map.mp hy
    exact ((hlines b.line).mp (List.mem_map_of_mem (hd.held b hb))).symm
  · have hkeeps : keepsLine n y s (s.heldStore n e) := ⟨by rw [hcore], fun _ => rfl⟩
    exact keepsLine_trans hkeeps (hd.other y (fun hc => ((hlines y).mp hc).elim hy hne) hylt)

/-- The status of a store that has gone well leaves nothing. -/
theorem Stores.storeOut {n : Nat} {sec : Bool} {x : Nat} {d : LineData} {s t : State} (h : Stores n sec x d s t) (va : Word) :
    Stores n sec x d s (t.modCore n (Core.storeOut .ok va)) := by
  have hcore : (t.modCore n (Core.storeOut .ok va)).core n = t.core n := by rw [core_modCore_self, storeOut_ok]
  have hkeeps : ∀ y, keepsLine n y t (t.modCore n (Core.storeOut .ok va)) := fun y => ⟨by rw [hcore], fun _ => rfl⟩
  have hsees : ∀ y d, seesLine n y sec d t → seesLine n y sec d (t.modCore n (Core.storeOut .ok va)) := fun y d hd => by
    rw [seesLine, hcore]
    exact hd
  obtain ⟨hnodup, hall⟩ := h.own
  refine ⟨unseen_trans h.seen (unseen_storeOut n t va), h.vsf, ⟨by rw [hcore]; exact hnodup, ?_⟩, by rw [hcore]; exact h.held,
    fun y hne hy hlt => keepsLine_trans (h.other y hne hy hlt) (hkeeps y), hsees x d h.self,
    fun y d' hne hlt hd => hsees y d' (h.sees y d' hne hlt hd)⟩
  rw [hcore]
  intro b hb
  obtain ⟨hsec, hlt, l, hl, hst⟩ := hall b hb
  exact ⟨hsec, hlt, l, (hkeeps b.line).holds hl, hst⟩

/-- The store of a part into an owned line. -/
theorem storePiece_own {s : State} {n v : Nat} {va : Word} {p : Piece} {sec : Bool} {l : L2Line} (hp : p.inDram sec)
    (hown : storesOwn n sec s) (htag : s.tagBad n sec = false) (hen : (s.core n).l2en = true) (h : holdsLine s n p.lineNo l)
    (hst : 2 ≤ l.st.rank) (hnew : p.lineNo ∉ (s.core n).sbuf.map SbEntry.line) :
    ∃ t, s.storePiece n va p v = (.done .ok, t) ∧ Stores n sec p.lineNo (mergeLine l.data (p.line v) p.mask) s t := by
  have hlt := hp.line_lt
  obtain ⟨hmt, hsec, hpa⟩ := hp
  refine ⟨s.sbPut n ⟨p.lineNo, sec, p.mask, p.line v, va⟩, ?_,
    stores_sbPut (e := ⟨p.lineNo, sec, p.mask, p.line v, va⟩) hown hen hlt h hst hnew⟩
  unfold State.storePiece
  dsimp only
  rw [hsec, htag, if_neg Bool.false_ne_true, region_dram hpa, hmt]
  rfl

/-- Parts in distinct lines that the core owns, and to which it holds no store, are stored in order. -/
theorem storePieces_own {n v : Nat} {va : Word} {sec : Bool} {s0 : State} {L : Nat → L2Line} (ps : List Piece) :
    ∀ s : State, storesOwn n sec s → s.tagBad n sec = false → (s.core n).l2en = true → (ps.map Piece.lineNo).Nodup →
      (∀ p ∈ ps, p.inDram sec ∧ p.lineNo ∉ (s.core n).sbuf.map SbEntry.line ∧ holdsLine s n p.lineNo (L p.lineNo) ∧
        2 ≤ (L p.lineNo).st.rank) →
      ∃ t, State.storePieces s0 n va v ps s = (.ok (), t) ∧ unseen n s t ∧
        (∀ y d, y ∉ ps.map Piece.lineNo → y * 128 < 0x400000000000 → seesLine n y sec d s → seesLine n y sec d t) ∧
        ∀ p ∈ ps, seesLine n p.lineNo sec (mergeLine (L p.lineNo).data (p.line v) p.mask) t := by
  induction ps with
  | nil => exact fun s _ _ _ _ _ => ⟨s, rfl, unseen_refl n s, fun _ _ _ _ h => h, fun _ h => absurd h List.not_mem_nil⟩
  | cons p ps ih =>
    intro s hown htag hen hnodup hps
    obtain ⟨⟨hp, hfree, hheld, hst⟩, hrest⟩ := List.forall_mem_cons.mp hps
    obtain ⟨hnew, hnodup⟩ := List.nodup_cons.mp hnodup
    obtain ⟨t0, hstore, ht0⟩ := storePiece_own (va := va) (v := v) hp hown htag hen hheld hst hfree
    obtain ⟨t, hout, ht⟩ : ∃ t, t0.modCore n (Core.storeOut .ok va) = t ∧ Stores n sec p.lineNo
        (mergeLine (L p.lineNo).data (p.line v) p.mask) s t := ⟨_, rfl, ht0.storeOut va⟩
    have hrest' : ∀ q ∈ ps, q.inDram sec ∧ q.lineNo ∉ (t.core n).sbuf.map SbEntry.line ∧ holdsLine t n q.lineNo (L q.lineNo) ∧
        2 ≤ (L q.lineNo).st.rank := by
      intro q hq
      obtain ⟨hdram, hqfree, hqheld, hqst⟩ := hrest q hq
      have hne : q.lineNo ≠ p.lineNo := fun h => hnew (h ▸ List.mem_map_of_mem hq)
      exact ⟨hdram, fun hc => (ht.held _ hc).elim hne hqfree, (ht.other _ hne hqfree hdram.line_lt).holds hqheld, hqst⟩
    have htag' : t.tagBad n sec = false := by rw [State.tagBad, State.coreSlice, ht.vsf]; exact htag
    obtain ⟨u, hstores, hu, hother, hself⟩ := ih t ht.own htag' ((l2en_of_unseen ht.seen).trans hen) hnodup hrest'
    refine ⟨u, ?_, unseen_trans ht.seen hu, fun y d hy hylt hd => ?_, List.forall_mem_cons.mpr ⟨?_, hself⟩⟩
    · rw [State.storePieces, hstore]
      dsimp only
      rw [hp.1, if_neg (by decide), hout]
      exact hstores
    · rw [List.map_cons, List.mem_cons, not_or] at hy
      exact hother y d hy.2 hylt (ht.sees y d hy.1 hylt hd)
    · exact hother _ _ hnew hp.line_lt ht.self

theorem storeFills_dram {n : Nat} {sec : Bool} {s : State} {ps : List Piece} (h : ∀ p ∈ ps, p.inDram sec) :
    s.storeFills n ps = (.ok none, s) := by
  induction ps with
  | nil => rfl
  | cons p ps ih =>
    obtain ⟨⟨-, -, hpa⟩, hrest⟩ := List.forall_mem_cons.mp h
    rw [State.storeFills, region_dram hpa]
    exact ih hrest

theorem storeOrder_dram {n : Nat} {sec : Bool} {s : State} {ps : List Piece} (h : ∀ p ∈ ps, p.inDram sec) (store : Bool) :
    s.storeOrder n store ps = (.ok (), s) := by
  have hdevice : ps.any (fun p => p.x.mt == 2) = false := by
    rw [List.any_eq_false]
    intro p hp
    rw [(h p hp).1]
    decide
  have hheld : ps.any (fun p => !p.held) = false := by
    rw [List.any_eq_false]
    intro p hp
    obtain ⟨hmt, -, hpa⟩ := h p hp
    rw [Piece.held, hmt, cacheable, region_dram hpa]
    decide
  rw [State.storeOrder, hdevice, hheld, Bool.and_false]
  rfl

/-- A store whose parts lie in distinct lines that the core owns, while it holds none. -/
theorem storeAll_own {n v : Nat} {va : Word} {sec : Bool} {L : Nat → L2Line} {s : State} {ps : List Piece} (hsb : (s.core n).sbuf = [])
    (htag : s.tagBad n sec = false) (hen : (s.core n).l2en = true) (hnodup : (ps.map Piece.lineNo).Nodup)
    (hps : ∀ p ∈ ps, p.inDram sec ∧ holdsLine s n p.lineNo (L p.lineNo) ∧ 2 ≤ (L p.lineNo).st.rank) :
    ∃ evs t, s.storeAll n va v ps = (.ok evs, t) ∧ unseen n s t ∧
      ∀ p ∈ ps, seesLine n p.lineNo sec (mergeLine (L p.lineNo).data (p.line v) p.mask) t := by
  have hown : storesOwn n sec s := by
    rw [storesOwn, hsb]
    exact ⟨List.nodup_nil, fun e he => absurd he List.not_mem_nil⟩
  have hdram : ∀ p ∈ ps, p.inDram sec := fun p hp => (hps p hp).1
  obtain ⟨t, hstores, hseen, -, hself⟩ := storePieces_own (va := va) (v := v) (s0 := s) ps s hown htag hen hnodup (fun p hp => by
    obtain ⟨hd, hheld, hst⟩ := hps p hp
    exact ⟨hd, by rw [hsb]; exact List.not_mem_nil, hheld, hst⟩)
  refine ⟨(0x0E, 1) :: globEvents ps, t, ?_, hseen, hself⟩
  rw [State.storeAll, storeOrder_dram hdram]
  unfold Res.bind
  dsimp only
  rw [storeFills_dram hdram]
  dsimp only
  rw [hstores]

/-- The start of an access leaves what the core holds. -/
theorem holdsLine_noted {s : State} {n line : Nat} {l : L2Line} (va : Word) (h : holdsLine s n line l) : holdsLine (s.noted n va) n line l := by
  obtain ⟨p1, p2, hcore⟩ := noted_core s n va
  obtain ⟨hl, hp, hup⟩ := h
  exact ⟨by rw [hcore]; exact hl, hp, hup⟩

theorem noted_sbuf (s : State) (n : Nat) (va : Word) : ((s.noted n va).core n).sbuf = (s.core n).sbuf := by
  obtain ⟨p1, p2, hcore⟩ := noted_core s n va
  rw [hcore]

/-- A store within one owned line: its part, and the store of it. -/
theorem storeLine_own {s : State} {n size v : Nat} {va : Word} {l : L2Line} (hsize : 0 < size) (hreach : reaches s n va size)
    (hline : va.toNat % 128 + size ≤ 128) (h : ownsLine s n (va.toNat / 128) l) :
    ∃ ps s2 evs s3, s.dataPieces n va size needStore .store = (.ok ps, s2) ∧ s2.storeAll n va v ps = (.ok evs, s3) ∧ unseen n s s2 ∧
      unseen n s s3 ∧ seesLine n (va.toNat / 128) (s.core n).dbgSec
        (mergeLine l.data (placed va.toNat size v) (byteMask (va.toNat % 128) size)) s3 := by
  obtain ⟨hflat, -, hlt, htag, hdbg, hen⟩ := hreach
  obtain ⟨hheld, hst, hsb, -⟩ := h
  have hnoted := (sided_noted s n va).unseen
  have hdram : Piece.inDram ⟨⟨va.toNat, 0, (s.core n).dbgSec⟩, 0, size⟩ (s.core n).dbgSec := ⟨rfl, rfl, by dsimp only; omega⟩
  obtain ⟨evs, t, hstore, hseen, hself⟩ := storeAll_own (va := va) (v := v) (L := fun _ => l)
    (ps := [⟨⟨va.toNat, 0, (s.core n).dbgSec⟩, 0, size⟩]) ((noted_sbuf s n va).trans hsb) (by exact htag)
    ((l2en_of_unseen hnoted).trans hen) (List.nodup_singleton _)
    (List.forall_mem_singleton.mpr ⟨hdram, holdsLine_noted va hheld, hst⟩)
  have hdata : Piece.line ⟨⟨va.toNat, 0, (s.core n).dbgSec⟩, 0, size⟩ v = placed va.toNat size v := by
    rw [Piece.line, placed, Nat.mul_zero, Nat.pow_zero, Nat.div_one]
  refine ⟨_, _, evs, t, dataPieces_flat hflat hlt hsize hline hdbg needStore .store, hstore, hnoted, unseen_trans hnoted hseen, ?_⟩
  rw [← hdata]
  exact hself _ (List.mem_singleton.mpr rfl)

end Sys2Proof.Machine
end

section
/-! O13: vector moves, loads and stores. -/
namespace Sys2Proof.Machine
open Sys2Proof

/-! Two cores that a program cannot tell apart stay so under the same write. -/

theorem sameSeen_setCr {c d : Core} (h : sameSeen c d) (k : Nat) (w : Word) : sameSeen (c.setCr k w) (d.setCr k w) := by
  obtain ⟨hg, hp, hv, ha, hmode, hcreg⟩ := h
  refine ⟨hg, hp, hv, ha, hmode, fun j hj => ?_⟩
  by_cases hjk : j = k
  · rw [hjk, cr_setCr_self, cr_setCr_self]
  · rw [cr_setCr_ne _ _ hjk, cr_setCr_ne _ _ hjk, hcreg j hj]

theorem cr_of_sameSeen {c d : Core} (h : sameSeen c d) {k : Nat} (hk : countReg k = false) : d.cr k = c.cr k := by
  obtain ⟨-, -, -, -, -, hcreg⟩ := h
  exact hcreg k hk

theorem sameSeen_raiseFlags {c d : Core} (h : sameSeen c d) (f : Nat) : sameSeen (c.raiseFlags f) (d.raiseFlags f) := by
  have hset : ∀ e : Core, e.raiseFlags f = e.setCr cNFLAGS (e.cr cNFLAGS ||| BitVec.ofNat 64 (f % 32)) := fun _ => rfl
  rw [hset, hset, cr_of_sameSeen h (k := cNFLAGS) rfl]
  exact sameSeen_setCr h _ _

theorem sameSeen_wv {c d : Core} (h : sameSeen c d) (r : BitVec 5) (x : BitVec 576) : sameSeen (c.wv r x) (d.wv r x) := by
  obtain ⟨hg, hp, hv, ha, hmode, hcreg⟩ := h
  exact ⟨hg, hp, congrArg (fun v => v.set r.toNat x) hv, ha, hmode, hcreg⟩

theorem sameSeen_putV {c d : Core} (h : sameSeen c d) (r : BitVec 5) (x : BitVec 576) : sameSeen (c.putV r x) (d.putV r x) := by
  have hset : ∀ e : Core, e.putV r x = (e.wv r x).setCr cACCST ((e.wv r x).cr cACCST ||| 0x100000) := fun _ => rfl
  rw [hset, hset, cr_of_sameSeen (sameSeen_wv h r x) (k := cACCST) rfl]
  exact sameSeen_setCr (sameSeen_wv h r x) _ _

/-- What an instruction has written after parts that change nothing a program sees, it has written to the core as it was before them. -/
theorem endsAs_of_unseen {n : Nat} {c : Core} {npc : Word} {s u t : State} {f : Core → Core} (h : unseen n s u)
    (hf : sameSeen c (f (u.core n))) (ht : endsAs n (f (u.core n)) npc u t) : endsAs n c npc s t :=
  endsAs_trans (t := u.modCore n f) (by rw [core_modCore_self]; exact hf) (keepsRest_trans h.2.2.2 (keepsRest_modCore n u f)) (by
    obtain ⟨hseen, hpc, hmem, hchk, hregs, hdies, hother⟩ := ht
    refine ⟨by rw [core_modCore_self]; exact hseen, hpc, hmem, hchk, hregs, hdies, fun m hm => ?_⟩
    rw [core_modCore_ne _ _ hm, hother m hm])

/-! Moves (04 R131). -/

theorem computes_vmoves (o : VF) : ∀ e ∈ [((.vmov : VF → Instr), fun (o : VF) (c : Core) => c.rv o.vs1),
    (.vsel, fun o c => lanePack o.sz (fun k => if bitAt (c.rg o.vs2) k then laneGet o.sz (c.rv o.vs1) k else laneGet o.sz (c.rv o.vd) k)),
    (.vbcast, fun o c => lanePack o.sz (fun _ => if o.sz then fpWiden fmtB32 fmtF36 ((c.rg o.vs1).toNat % 2 ^ 32)
      else fpWiden fmtB64 fmtF72 (c.rg o.vs1).toNat)),
    (.vneg, fun o c => lanePack o.sz (fun k => (laneGet o.sz (c.rv o.vs1) k + 2 ^ (laneW o.sz - 1)) % 2 ^ laneW o.sz)),
    (.vabs, fun o c => lanePack o.sz (fun k => laneGet o.sz (c.rv o.vs1) k % 2 ^ (laneW o.sz - 1))),
    (.vzero, fun _ _ => 0)], Computes (e.1 o) o.core o.pred o.pn (fun c => c.putV o.vd (e.2 o c)) := by
  simp only [List.forall_mem_cons, List.not_mem_nil, false_imp_iff, implies_true, and_true]
  and_intros <;>
  · refine ⟨_, fun h => ?_, fun _ => rfl⟩
    unfold Instr.wf at h
    simp_all

/-- VGET: one lane, rounded (04 R131). -/
theorem numeric_vget (o : VF) : Numeric (.vget o) o.core o.pred o.pn (fun c =>
    let r := fpStore (laneFmt o.sz) (if o.sz then fmtB32 else fmtB64) (c.rmOf o.rm) (laneGet o.sz (c.rv o.vs1) o.vs2.toNat)
    ([r.2], fun x => x.wg o.vd (BitVec.ofNat 64 r.1))) := by
  refine ⟨rmBad o.rm || decide (laneN o.sz ≤ o.vs2.toNat), _, fun h => ?_, fun _ => rfl⟩
  have hwf : (wfRm o.rm && decide (o.vs2.toNat < laneN o.sz)) = true := h
  obtain ⟨hrm, hlane⟩ := Bool.and_eq_true_iff.mp hwf
  rw [rmBad_of_wfRm hrm, Bool.false_or]
  exact decide_eq_false (Nat.not_le.mpr (of_decide_eq_true hlane))

/-! Loads (04 R121, R124). -/

/-- A vector load whose access ends without an exception. -/
theorem answers_vload {i : Instr} {k : Insn} {addr : Core → Word} {m : VForm} {d : BitVec 5} {s s1 s2 : State} {v : Nat}
    {evs : List (Nat × Nat)} (hexec : exec i s = s.vload k addr m d) (hw : wordOf i = k.w) (h : Runs i k.n k.pred k.pn s s1)
    (hpre : k.pre (s1.core k.n) = none) (hload : s1.loadBytes k.n (addr (s1.core k.n)) m.bytes = (.ok (v, evs), s2))
    (hd : (s2.core k.n).dbg = false) :
    Answers i s (endsAs k.n ((s2.core k.n).putV d (m.load v)) ((s1.core k.n).pc + 4) s2) := by
  have hrun := exec_eq_body hexec hw h hpre
  rw [hload] at hrun
  exact ⟨_, hrun, endsAs_written _ _ evs hd⟩

/-- A vector load within a held line. -/
theorem answers_vload_held {i : Instr} {k : Insn} {addr : Core → Word} {m : VForm} {d : BitVec 5} {s s1 : State} {l : L2Line}
    (hexec : exec i s = s.vload k addr m d) (hw : wordOf i = k.w) (h : Runs i k.n k.pred k.pn s s1)
    (hpre : k.pre (s1.core k.n) = none) (hsize : 0 < m.bytes) (hreach : reaches s1 k.n (addr (s1.core k.n)) m.bytes)
    (hline : (addr (s1.core k.n)).toNat % 128 + m.bytes ≤ 128) (hheld : holdsLine s1 k.n ((addr (s1.core k.n)).toNat / 128) l) :
    Answers i s (endsAs k.n ((s1.core k.n).putV d (m.load (pieceBytes (seenLine (s1.core k.n) ((addr (s1.core k.n)).toNat / 128) l)
      ((addr (s1.core k.n)).toNat % 128) m.bytes))) ((s1.core k.n).pc + 4) s1) := by
  obtain ⟨evs, s2, hload, hside⟩ := loadBytes_held hsize hreach hline hheld
  obtain ⟨t, ht, hends⟩ := answers_vload hexec hw h hpre hload (hside.unseen.2.2.1.trans h.dbg)
  exact ⟨t, ht, endsAs_of_unseen (f := fun c => c.putV d _) hside.unseen (sameSeen_putV hside.unseen.1 _ _) hends⟩

/-! Stores (04 R122, R124). -/

/-- What a core sees of a line stays as it raises flags and completes. -/
theorem storedIn_written {n line : Nat} {sec : Bool} {mask : BitVec 128} {d : LineData} {l : L2Line} {s : State} {f : Core → Core}
    (hsec : (s.core n).dbgSec = sec) (h : seesLine n line sec (mergeLine l.data d mask) s)
    (hf : ∀ c, (f c).l2 = c.l2 ∧ (f c).sbuf = c.sbuf ∧ (f c).dbgSec = c.dbgSec ∧ (f c).dbg = c.dbg)
    (c0 : Core) (npc : Word) (evs : List (Nat × Nat)) (hd : (s.core n).dbg = false) :
    storedIn n line mask d l ((s.modCore n f).retireInsn n c0 npc false evs) := by
  obtain ⟨hl2, hsbuf, hdsec, hdbg⟩ := hf (s.core n)
  refine storedIn_retire (sec := sec) ?_ ?_ c0 npc evs ?_
  · rw [core_modCore_self, hdsec, hsec]
  · obtain ⟨m, hm, hover⟩ := h
    refine ⟨m, by rw [core_modCore_self, hl2]; exact hm, ?_⟩
    rw [core_modCore_self, overlay_eq_foldl, hsbuf]
    exact hover
  · rw [core_modCore_self, hdbg, hd]

section
variable {i : Instr} {k : Insn} {addr : Core → Word} {m : VForm} {rm : Core → Nat} {d : BitVec 5} {s s1 : State} {a : Word}
  {w : Nat × List Nat} (hexec : exec i s = s.vstore k addr m rm d) (hw : wordOf i = k.w) (h : Runs i k.n k.pred k.pn s s1)
  (hpre : k.pre (s1.core k.n) = none) (ha : addr (s1.core k.n) = a) (himage : m.store (rm (s1.core k.n)) ((s1.core k.n).rv d) = w)
  (hno : orFlags w.2 &&& (s1.core k.n).numEnables = 0)
include hexec hw h hpre ha himage hno

/-- A vector store of the image `w`, whose elements raise no enabled exception and whose access ends without one. -/
theorem exec_vstore {s2 s3 : State} {ps : List Piece} {evs : List (Nat × Nat)}
    (hpieces : s1.dataPieces k.n a m.bytes needStore .store = (.ok ps, s2)) (hstore : s2.storeAll k.n a w.1 ps = (.ok evs, s3)) :
    exec i s = .next ((s3.modCore k.n (fun c => c.raiseFlags (orFlags w.2))).retireInsn k.n (s1.core k.n) ((s1.core k.n).pc + 4)
      false evs) := by
  have hrun := exec_eq_body hexec hw h hpre
  dsimp only at hrun
  rw [ha, himage, hpieces] at hrun
  dsimp only [Res.andThen] at hrun
  rw [if_pos hno, hstore] at hrun
  dsimp only [State.numFin] at hrun
  rw [if_pos hno] at hrun
  exact hrun

theorem answers_vstore {s2 s3 : State} {ps : List Piece} {evs : List (Nat × Nat)}
    (hpieces : s1.dataPieces k.n a m.bytes needStore .store = (.ok ps, s2)) (hstore : s2.storeAll k.n a w.1 ps = (.ok evs, s3))
    (hd : (s3.core k.n).dbg = false) :
    Answers i s (endsAs k.n ((s3.core k.n).raiseFlags (orFlags w.2)) ((s1.core k.n).pc + 4) s3) :=
  ⟨_, exec_vstore hexec hw h hpre ha himage hno hpieces hstore, endsAs_written (f := fun c => c.raiseFlags _) _ _ evs hd⟩

/-- A vector store within an owned line. -/
theorem answers_vstore_held {l : L2Line} (hsize : 0 < m.bytes) (hreach : reaches s1 k.n a m.bytes)
    (hline : a.toNat % 128 + m.bytes ≤ 128) (hown : ownsLine s1 k.n (a.toNat / 128) l) :
    Answers i s (fun t => endsAs k.n ((s1.core k.n).raiseFlags (orFlags w.2)) ((s1.core k.n).pc + 4) s1 t ∧
      storedIn k.n (a.toNat / 128) (byteMask (a.toNat % 128) m.bytes) (placed a.toNat m.bytes w.1) l t) := by
  obtain ⟨ps, s2, evs, s3, hpieces, hstore, -, hseen, hsees⟩ := storeLine_own (v := w.1) hsize hreach hline hown
  have hd : (s3.core k.n).dbg = false := hseen.2.2.1.trans h.dbg
  exact ⟨_, exec_vstore hexec hw h hpre ha himage hno hpieces hstore,
    endsAs_of_unseen (f := fun c => c.raiseFlags _) hseen (sameSeen_raiseFlags hseen.1 _) (endsAs_written _ _ evs hd),
    storedIn_written (f := fun c => c.raiseFlags (orFlags w.2)) (dbgSec_of_unseen hseen) hsees (fun _ => ⟨rfl, rfl, rfl, rfl⟩) _ _ evs hd⟩

end

/-! The memory forms (04 R119). -/

theorem vform_bytes_pos (code : Nat) : 0 < (vform code).bytes := by
  unfold vform
  split <;> decide

theorem vldf_wf {o : RRRF} {s s1 : State} (h : Runs (.vldf o) o.core o.pred o.pn s s1) : decide (8 ≤ o.f.toNat) = false := by
  have hwf : decide (o.f.toNat < 8) = true := h.wf
  exact decide_eq_false (Nat.not_le.mpr (of_decide_eq_true hwf))

theorem vstf_wf {o : RRRF} {s s1 : State} (h : Runs (.vstf o) o.core o.pred o.pn s s1) : vstfBad o = false := by
  have hwf : wfVstf o = true := h.wf
  unfold wfVstf at hwf
  obtain ⟨hform, hcopy⟩ := Bool.and_eq_true_iff.mp hwf
  obtain ⟨hcode, hrm⟩ := Bool.and_eq_true_iff.mp hform
  have hzero : o.f.toNat / 16 = 0 → vstfRm o = 0 := fun h0 => by
    rw [vstfRm, h0]
    rfl
  unfold vstfBad
  dsimp only
  rw [show rmBad (vstfRm o) = false from rmBad_of_wfRm hrm, decide_eq_false (Nat.not_le.mpr (of_decide_eq_true hcode)), Bool.false_or]
  obtain hbits | h0 := Bool.or_eq_true_iff.mp hcopy
  · rw [Bool.not_eq_true'] at hbits
    rw [hbits]
    rfl
  · rw [hzero (eq_of_beq h0)]
    exact Bool.and_false _

/-- Settles O13: moves by their table, the access of a line that the core holds or owns, and each instruction around any access. -/
theorem vectorMovesAndMemory : Obligations.VectorMovesAndMemory := by
  unfold Obligations.VectorMovesAndMemory
  refine ⟨?_, ?_, ?_, ?_, ?_, ?_, ?_, ?_, ?_, ?_⟩
  · exact fun e he o s s1 h => (computes_vmoves o e he).answers h (fun _ => rfl)
  · exact fun o s s1 h => ((numeric_vget o).cases h (fun _ d => wg_dbg d _ _)).1
  · exact fun o s s1 l h => answers_vload_held (show exec (.vld o) s = execVld o s from rfl) rfl h (preChk_u (s1.core o.core)) (by decide)
  · exact fun o s s1 l h => answers_vload_held (show exec (.vldf o) s = execVldf o s from rfl) rfl h
      (preChk_u_of (vldf_wf h) (s1.core o.core)) (vform_bytes_pos _)
  · exact fun o s s1 l h hreach hline hown hno => answers_vstore_held (show exec (.vst o) s = execVst o s from rfl) rfl h
      (preChk_u (s1.core o.core)) rfl rfl hno (by decide) hreach hline hown
  · exact fun o s s1 l h hreach hline hown hno => answers_vstore_held (show exec (.vstf o) s = execVstf o s from rfl) rfl h
      (preChk_u_of (vstf_wf h) (s1.core o.core)) rfl rfl hno (vform_bytes_pos _) hreach hline hown
  · exact fun o s s1 s2 v evs h hload hd => answers_vload (m := vform 2) (show exec (.vld o) s = execVld o s from rfl) rfl h
      (preChk_u (s1.core o.core)) hload hd
  · exact fun o s s1 s2 v evs h hload hd => answers_vload (show exec (.vldf o) s = execVldf o s from rfl) rfl h
      (preChk_u_of (vldf_wf h) (s1.core o.core)) hload hd
  · exact fun o s s1 s2 s3 l evs h hpieces hno hstore hd => answers_vstore (show exec (.vst o) s = execVst o s from rfl) rfl h
      (preChk_u (s1.core o.core)) rfl rfl hno hpieces hstore hd
  · exact fun o s s1 s2 s3 l evs h hpieces hno hstore hd => answers_vstore (show exec (.vstf o) s = execVstf o s from rfl) rfl h
      (preChk_u_of (vstf_wf h) (s1.core o.core)) rfl rfl hno hpieces hstore hd

end Sys2Proof.Machine
end

section
/-! O14: the exact accumulators. -/
namespace Sys2Proof.Machine
open Sys2Proof

/-! Rows that only compute (04 R134, R135, R139). -/

theorem computes_accMoves (o : AccF) : ∀ e ∈ [((.aclr : AccF → Instr), fun (o : AccF) (c : Core) => c.putA o.d 0 0),
    (.amov, fun o c => c.putA o.d (c.ra o.s1) (c.aflags o.s1)),
    (.ainfo, fun o c => c.wg o.d (spanWord (accSpan (c.ra o.s2)) (c.aflags o.s2)))],
    Computes (e.1 o) o.core o.pred o.pn (e.2 o) ∧ ∀ c, (e.2 o c).dbg = c.dbg := by
  simp only [List.forall_mem_cons, List.not_mem_nil, false_imp_iff, implies_true, and_true]
  refine ⟨⟨⟨_, fun h => ?_, fun _ => rfl⟩, fun _ => rfl⟩, ⟨⟨_, fun h => ?_, fun _ => rfl⟩, fun _ => rfl⟩,
    ⟨⟨_, fun h => ?_, fun _ => rfl⟩, fun c => wg_dbg c _ _⟩⟩ <;>
  · unfold Instr.wf at h
    simp_all [wfAcc, accField]

/-- The accumulations: the exact term that each adds to its accumulator (04 R134, R138). -/
theorem numeric_accum (o : AccF) : ∀ e ∈ [((.aadd : AccF → Instr), fun (o : AccF) (c : Core) => c.laneTerms o),
    (.asub, fun o c => (c.laneTerms o).negate), (.adot, fun o c => c.laneProducts o), (.adotn, fun o c => (c.laneProducts o).negate),
    (.aacc, fun o c => ⟨(c.ra o.s1).toInt, c.aflags o.s1, 0⟩), (.asuba, fun o c => ⟨-(c.ra o.s1).toInt, swapInf (c.aflags o.s1), 0⟩),
    (.aaddg, fun o c => termOf (if o.sz then fpDecode fmtB32 ((c.rg o.s1).toNat % 2 ^ 32) else fpDecode fmtB64 (c.rg o.s1).toNat))],
    Numeric (e.1 o) o.core o.pred o.pn (fun c => ([(e.2 o c).ex], fun x => x.addTerm o.d (e.2 o c))) := by
  simp only [List.forall_mem_cons, List.not_mem_nil, false_imp_iff, implies_true, and_true]
  and_intros <;>
  · refine ⟨_, _, fun h => ?_, fun _ => rfl⟩
    unfold Instr.wf at h
    simp_all [wfAcc, accField]

theorem arnd_wf {o : RRRF} (h : wfArnd o = true) : arndBad o = false := by
  unfold wfArnd at h
  obtain ⟨hfields, hplace⟩ := Bool.and_eq_true_iff.mp h
  obtain ⟨hform, hacc⟩ := Bool.and_eq_true_iff.mp hfields
  obtain ⟨hrm, hbit⟩ := Bool.and_eq_true_iff.mp hform
  have hrm' : rmBad (arndRm o) = false := rmBad_of_wfRm hrm
  have hacc' : accField o.s1 = true := hacc
  rw [Bool.not_eq_true'] at hbit
  unfold arndBad
  rw [hrm', hbit, hacc']
  unfold arndTgt
  split at hplace <;> simp_all

theorem arndWrite_dbg (c : Core) (o : RRRF) (v : Nat) : (c.arndWrite o v).dbg = c.dbg := by
  unfold Core.arndWrite
  dsimp only
  rw [apply_ite Core.dbg, putA_dbg, ite_self]
  split
  · rfl
  · rfl
  · exact wg_dbg c _ _

/-- ARND (04 R135, R141). -/
theorem numeric_arnd (o : RRRF) : Numeric (.arnd o) o.core o.pred o.pn (fun c =>
    let r := accRound (tgtFmt (arndTgt o)) (c.rmOf (arndRm o)) (c.ra o.s1) (c.aflags o.s1)
    ([r.2], fun x => x.arndWrite o r.1)) :=
  ⟨_, _, arnd_wf, fun _ => rfl⟩

/-! ASAVE and ALOAD (04 R133, R140). -/

/-- The field of a well-formed row names an accumulator (04 R125). -/
theorem not_accField_of_wfAcc {r : BitVec 5} (h : wfAcc r = true) : (!accField r) = false := by
  rw [Bool.not_eq_false']
  exact h

theorem exec_asave {o : RRR} {s s1 s2 : State} {evs : List (Nat × Nat)} (h : Runs (.asave o) o.core o.pred o.pn s s1)
    (hstore : s1.storeBytes o.core ((s1.core o.core).rg o.s1 + (s1.core o.core).rg o.s2) 576 ((s1.core o.core).ra o.d).toNat =
      (.ok evs, s2)) :
    exec (.asave o) s = .next (s2.retireInsn o.core (s1.core o.core) ((s1.core o.core).pc + 4) false evs) := by
  have hrun := exec_eq_body (k := ⟨o.core, o.pred, o.pn, wRRR 0x29 0x00 o, preChk (!accField o.d) .u⟩)
    (show exec (.asave o) s = execAsave o s from rfl) rfl h (preChk_u_of (not_accField_of_wfAcc h.wf) (s1.core o.core))
  dsimp only [Core.sumAddr] at hrun
  rw [hstore] at hrun
  exact hrun

theorem answers_aload {o : RRR} {s s1 s2 : State} {v : Nat} {evs : List (Nat × Nat)} (h : Runs (.aload o) o.core o.pred o.pn s s1)
    (hload : s1.loadBytes o.core ((s1.core o.core).rg o.s1 + (s1.core o.core).rg o.s2) 576 = (.ok (v, evs), s2))
    (hd : (s2.core o.core).dbg = false) :
    Answers (.aload o) s (endsAs o.core ((s2.core o.core).putA o.d (BitVec.ofNat 4608 v) ((s2.core o.core).aflags o.d))
      ((s1.core o.core).pc + 4) s2) := by
  have hrun := exec_eq_body (k := ⟨o.core, o.pred, o.pn, wRRR 0x29 0x01 o, preChk (!accField o.d) .u⟩)
    (show exec (.aload o) s = execAload o s from rfl) rfl h (preChk_u_of (not_accField_of_wfAcc h.wf) (s1.core o.core))
  dsimp only [Core.sumAddr] at hrun
  rw [hload] at hrun
  exact ⟨_, hrun, endsAs_written (f := fun x => x.putA o.d (BitVec.ofNat 4608 v) (x.aflags o.d)) _ _ evs hd⟩

/-! The five lines of an accumulator that starts at a line. -/

/-- The part of an accumulator's access in its `k`th line: the last holds 64 bytes. -/
def accPiece (a : Nat) (sec : Bool) (k : Nat) : Piece := ⟨⟨a + 128 * k, 0, sec⟩, 128 * k, if k = 4 then 64 else 128⟩

theorem linePieces_step {a off size mt : Nat} {sec : Bool} (h : a % 128 = 0) (hsize : 128 < size) (k : Nat) :
    linePieces ⟨a, mt, sec⟩ off size (k + 1) = ⟨⟨a, mt, sec⟩, off, 128⟩ :: linePieces ⟨a + 128, mt, sec⟩ (off + 128) (size - 128) k := by
  have hmin : min size (128 - a % 128) = 128 := by omega
  rw [linePieces]
  dsimp only
  rw [hmin, if_neg (by omega)]

theorem linePieces_acc {a : Nat} (sec : Bool) (h : a % 128 = 0) :
    linePieces ⟨a, 0, sec⟩ 0 576 6 = (List.range 5).map (accPiece a sec) := by
  have hlast : min 64 (128 - (a + 512) % 128) = 64 := by omega
  rw [linePieces_step h (by decide), linePieces_step (by omega) (by decide), linePieces_step (by omega) (by decide),
    linePieces_step (by omega) (by decide), linePieces]
  dsimp only [Nat.reduceAdd, Nat.reduceSub, Nat.add_assoc]
  rw [hlast, if_pos rfl]
  rfl

theorem accPiece_lineNo {a : Nat} (sec : Bool) (k : Nat) (h : a % 128 = 0) : (accPiece a sec k).lineNo = a / 128 + k := by
  show (a + 128 * k) / 128 = a / 128 + k
  omega

theorem accPieces_lineNo_nodup {a : Nat} (sec : Bool) (h : a % 128 = 0) :
    (((List.range 5).map (accPiece a sec)).map Piece.lineNo).Nodup := by
  rw [List.map_map]
  refine List.nodup_range.map fun j k hjk => ?_
  rw [Function.comp_apply, Function.comp_apply, accPiece_lineNo sec j h, accPiece_lineNo sec k h] at hjk
  omega

/-- The parts of an accumulator's access lie in DRAM, each in its line. -/
theorem accPieces_all {a : Nat} {sec : Bool} {P : Piece → Prop} (ha : a % 128 = 0) (hlt : a + 576 ≤ 0x400000000000)
    (hP : ∀ k, k < 5 → (accPiece a sec k).inDram sec → (accPiece a sec k).lineNo = a / 128 + k → P (accPiece a sec k)) :
    ∀ p ∈ (List.range 5).map (accPiece a sec), P p := by
  intro p hp
  obtain ⟨k, hk, rfl⟩ := List.mem_map.mp hp
  have hk5 : k < 5 := List.mem_range.mp hk
  exact hP k hk5 ⟨rfl, rfl, by show a + 128 * k < 0x400000000000; omega⟩ (accPiece_lineNo sec k ha)

/-- The lines of the bytes from `a` on, by their number. -/
def linesFrom (a : Nat) (l : Nat → L2Line) (x : Nat) : L2Line := l (x - a / 128)

theorem linesFrom_add (a : Nat) (l : Nat → L2Line) (k : Nat) : linesFrom a l (a / 128 + k) = l k :=
  congrArg l (Nat.add_sub_cancel_left _ _)

theorem ofNat_mod_two_pow (w x : Nat) : BitVec.ofNat w (x % 2 ^ w) = BitVec.ofNat w x :=
  BitVec.eq_of_toNat_eq (by rw [BitVec.toNat_ofNat, BitVec.toNat_ofNat, Nat.mod_mod])

/-- What an accumulator's part stores of the image `v` into its line. -/
theorem accPiece_line {a k : Nat} (sec : Bool) (ha : a % 128 = 0) (v : BitVec 4608) :
    (accPiece a sec k).line v.toNat = BitVec.ofNat 1024 (v.toNat / 2 ^ (1024 * k)) ∧
      (accPiece a sec k).mask = byteMask 0 (if k = 4 then 64 else 128) := by
  have hoff : (a + 128 * k) % 128 = 0 := by omega
  have hbit : 8 * (128 * k) = 1024 * k := by omega
  refine ⟨?_, by rw [Piece.mask, accPiece, hoff]⟩
  rw [Piece.line, accPiece]
  dsimp only
  rw [hoff, hbit, Nat.mul_zero, Nat.pow_zero, Nat.mul_one]
  split
  · rename_i h4
    subst h4
    rw [Nat.mod_eq_of_lt]
    have hwidth : 1024 * 4 + 8 * 64 = 4608 := rfl
    exact Nat.div_lt_of_lt_mul (by rw [← Nat.pow_add, hwidth]; exact v.isLt)
  · have hwidth : 8 * 128 = 1024 := rfl
    rw [hwidth, ofNat_mod_two_pow]

/-- ASAVE into five lines that the core owns. -/
theorem answers_asave_held {o : RRR} {s s1 : State} {l : Nat → L2Line} {a : Word} (h : Runs (.asave o) o.core o.pred o.pn s s1)
    (haddr : (s1.core o.core).rg o.s1 + (s1.core o.core).rg o.s2 = a) (hreach : reaches s1 o.core a 576) (ha : a.toNat % 128 = 0)
    (hpage : a.toNat % 4096 + 576 ≤ 4096) (hown : ∀ k, k < 5 → ownsLine s1 o.core (a.toNat / 128 + k) (l k)) :
    Answers (.asave o) s (fun t => endsAs o.core (s1.core o.core) ((s1.core o.core).pc + 4) s1 t ∧ ∀ k, k < 5 →
      storedIn o.core (a.toNat / 128 + k) (byteMask 0 (if k = 4 then 64 else 128))
        (BitVec.ofNat 1024 (((s1.core o.core).ra o.d).toNat / 2 ^ (1024 * k))) (l k) t) := by
  obtain ⟨hflat, -, hlt, htag, hdbg, hen⟩ := hreach
  obtain ⟨-, -, hsb, -⟩ := hown 0 (by decide)
  have hnoted := (sided_noted s1 o.core a).unseen
  have hparts := dataPieces_page hflat hlt (by decide) hpage hdbg needStore .store
  rw [linePieces_acc _ ha] at hparts
  obtain ⟨evs, s2, hstore, hseen, hself⟩ := storeAll_own (va := a) (v := ((s1.core o.core).ra o.d).toNat)
    (L := linesFrom a.toNat l) (s := s1.noted o.core a) ((noted_sbuf s1 o.core a).trans hsb) (by exact htag)
    ((l2en_of_unseen hnoted).trans hen) (accPieces_lineNo_nodup (s1.core o.core).dbgSec ha)
    (accPieces_all ha hlt fun k hk hdram hno => by
      obtain ⟨hheld, hst, -⟩ := hown k hk
      rw [hno, linesFrom_add]
      exact ⟨hdram, holdsLine_noted a hheld, hst⟩)
  have hall := unseen_trans hnoted hseen
  have hd : (s2.core o.core).dbg = false := hall.2.2.1.trans h.dbg
  refine ⟨_, exec_asave (s2 := s2) (evs := evs) h ?_, hall.retire _ _ _ _ h.dbg, fun k hk => ?_⟩
  · rw [haddr, State.storeBytes, hparts]
    exact hstore
  · have hk' := hself _ (List.mem_map_of_mem (List.mem_range.mpr hk))
    obtain ⟨hline, hmask⟩ := accPiece_line (k := k) (s1.core o.core).dbgSec ha ((s1.core o.core).ra o.d)
    rw [accPiece_lineNo _ k ha, linesFrom_add, hline, hmask] at hk'
    exact storedIn_retire (dbgSec_of_unseen hall) hk' _ _ _ hd

/-- A sum is the same in `w` bits where its terms are. -/
theorem ofNat_foldl_add {w : Nat} {f g : Nat → Nat} (l : List Nat) (h : ∀ k ∈ l, BitVec.ofNat w (f k) = BitVec.ofNat w (g k)) :
    ∀ u v : Nat, BitVec.ofNat w u = BitVec.ofNat w v →
      BitVec.ofNat w (l.foldl (fun x k => x + f k) u) = BitVec.ofNat w (l.foldl (fun x k => x + g k) v) := by
  induction l with
  | nil => exact fun _ _ huv => huv
  | cons k l ih =>
    intro u v huv
    obtain ⟨hk, hl⟩ := List.forall_mem_cons.mp h
    refine ih hl _ _ ?_
    rw [BitVec.ofNat_add, BitVec.ofNat_add, huv, hk]

theorem ofNat_mod_mul_two_pow (m n x : Nat) : BitVec.ofNat (m + n) (x % 2 ^ m * 2 ^ n) = BitVec.ofNat (m + n) (x * 2 ^ n) := by
  apply BitVec.eq_of_toNat_eq
  rw [BitVec.toNat_ofNat, BitVec.toNat_ofNat, pow_add, Nat.mul_mod_mul_right, Nat.mul_mod_mul_right, Nat.mod_mod]

/-- The parts of an accumulator's access give its lines' value, as far as an accumulator reaches. -/
theorem accPieces_value {a : Nat} (sec : Bool) (ha : a % 128 = 0) (d : Nat → LineData) :
    BitVec.ofNat 4608 (piecesValue d ((List.range 5).map (accPiece a sec)) 0) =
      BitVec.ofNat 4608 ((List.range 5).foldl (fun v k => v + (d (a / 128 + k)).toNat * 2 ^ (1024 * k)) 0) := by
  rw [piecesValue, List.foldl_map]
  refine ofNat_foldl_add _ (fun k _ => ?_) 0 0 rfl
  have hoff : (a + 128 * k) % 128 = 0 := by omega
  have hbit : 8 * (128 * k) = 1024 * k := by omega
  rw [accPiece_lineNo sec k ha, pieceBytes, accPiece]
  dsimp only
  rw [hoff, hbit, Nat.mul_zero, Nat.pow_zero, Nat.div_one]
  split
  · rename_i h4
    rw [h4]
    exact ofNat_mod_mul_two_pow (8 * 64) (1024 * 4) _
  · rw [Nat.mod_eq_of_lt (d (a / 128 + k)).isLt]

/-- A load of an accumulator's five lines, which the core holds. -/
theorem loadBytes_acc {s : State} {n : Nat} {l : Nat → L2Line} {a : Word} (hreach : reaches s n a 576) (ha : a.toNat % 128 = 0)
    (hpage : a.toNat % 4096 + 576 ≤ 4096) (hheld : ∀ k, k < 5 → holdsLine s n (a.toNat / 128 + k) (l k)) :
    ∃ v evs s2, s.loadBytes n a 576 = (.ok (v, evs), s2) ∧ sided n s s2 ∧ BitVec.ofNat 4608 v = BitVec.ofNat 4608
      ((List.range 5).foldl (fun v k => v + (seenLine (s.core n) (a.toNat / 128 + k) (l k)).toNat * 2 ^ (1024 * k)) 0) := by
  obtain ⟨hflat, -, hlt, htag, hdbg, hen⟩ := hreach
  have hnoted := sided_noted s n a
  have harr : ((s.noted n a).core n).arrErr = 0 := by
    obtain ⟨p1, p2, hcore⟩ := noted_core s n a
    rw [hcore]
  have hparts := dataPieces_page hflat hlt (by decide) hpage hdbg needLoad .load
  rw [linePieces_acc _ ha] at hparts
  have hall : ∀ p ∈ (List.range 5).map (accPiece a.toNat (s.core n).dbgSec), p.inDram (s.core n).dbgSec ∧
      holdsLine (s.noted n a) n p.lineNo (linesFrom a.toNat l p.lineNo) := accPieces_all ha hlt fun k hk hdram hno => by
    rw [hno, linesFrom_add]
    exact ⟨hdram, holdsLine_noted a (hheld k hk)⟩
  obtain ⟨s2, hread, hside⟩ := readPieces_held (va := a) (L := linesFrom a.toNat l) _ (s.noted n a) 0 hall
    (accPieces_lineNo_nodup _ ha) (by exact htag) ((l2en_of_unseen hnoted.unseen).trans hen) harr
  have hsees : ∀ x, (((s.noted n a).core n).overlay x (s.core n).dbgSec ((linesFrom a.toNat l x).data, 0)).1 =
      seenLine (s.core n) x (linesFrom a.toNat l x) := fun x => by
    rw [seenLine, overlay_eq_foldl, noted_sbuf, ← overlay_eq_foldl]
  simp only [hsees] at hread
  have hvalue := accPieces_value (s.core n).dbgSec ha (fun x => seenLine (s.core n) x (linesFrom a.toNat l x))
  simp only [linesFrom_add] at hvalue
  refine ⟨_, (0x0D, 1) :: globEvents ((List.range 5).map (accPiece a.toNat (s.core n).dbgSec)), s2, ?_, sided_trans hnoted hside, hvalue⟩
  unfold State.loadBytes
  rw [hparts]
  unfold Res.bind
  dsimp only
  rw [storeOrder_dram (fun p hp => (hall p hp).1)]
  dsimp only
  rw [hread]

theorem sameSeen_putA {c d : Core} (h : sameSeen c d) (r : BitVec 5) (x : BitVec 4608) (f : Nat) : sameSeen (c.putA r x f) (d.putA r x f) := by
  have hwrite : sameSeen (c.wa r x) (d.wa r x) := by
    obtain ⟨hg, hp, hv, ha, hmode, hcreg⟩ := h
    exact ⟨hg, hp, hv, congrArg (fun a => a.set (r.toNat % 4) x) ha, hmode, hcreg⟩
  have hset : ∀ e : Core, e.putA r x f = (e.wa r x).setCr cACCST
      (setF (setF ((e.wa r x).cr cACCST) ⟨4 * (r.toNat % 4), 4⟩ f) ⟨16 + r.toNat % 4, 1⟩ 1) := fun _ => rfl
  rw [hset, hset, cr_of_sameSeen hwrite (k := cACCST) rfl]
  exact sameSeen_setCr hwrite _ _

theorem aflags_of_sameSeen {c d : Core} (h : sameSeen c d) (r : BitVec 5) : d.aflags r = c.aflags r :=
  congrArg (fun w : Word => (w.toNat >>> (4 * (r.toNat % 4))) % 16) (cr_of_sameSeen h (k := cACCST) rfl)

/-- ALOAD from five lines that the core holds. -/
theorem answers_aload_held {o : RRR} {s s1 : State} {l : Nat → L2Line} (h : Runs (.aload o) o.core o.pred o.pn s s1)
    {a : Word} (haddr : (s1.core o.core).rg o.s1 + (s1.core o.core).rg o.s2 = a) (hreach : reaches s1 o.core a 576)
    (ha : a.toNat % 128 = 0) (hpage : a.toNat % 4096 + 576 ≤ 4096)
    (hheld : ∀ k, k < 5 → holdsLine s1 o.core (a.toNat / 128 + k) (l k)) :
    Answers (.aload o) s (endsAs o.core ((s1.core o.core).putA o.d (BitVec.ofNat 4608 ((List.range 5).foldl (fun v k =>
        v + (seenLine (s1.core o.core) (a.toNat / 128 + k) (l k)).toNat * 2 ^ (1024 * k)) 0)) ((s1.core o.core).aflags o.d))
      ((s1.core o.core).pc + 4) s1) := by
  obtain ⟨v, evs, s2, hload, hside, hv⟩ := loadBytes_acc hreach ha hpage hheld
  rw [← haddr] at hload
  obtain ⟨t, ht, hends⟩ := answers_aload h hload (hside.unseen.2.2.1.trans h.dbg)
  refine ⟨t, ht, endsAs_of_unseen (f := fun c => c.putA o.d (BitVec.ofNat 4608 v) (c.aflags o.d)) hside.unseen ?_ hends⟩
  rw [← hv, aflags_of_sameSeen hside.unseen.1]
  exact sameSeen_putA hside.unseen.1 _ _ _

/-! APOST (04 R143; 05 R153, R159). -/

/-- A record's tag plays no part in what the pool makes of it. -/
theorem takeRecord_tag (s : State) (n : Nat) (r : Record) (i : Init) (t : Nat) : s.takeRecord n r { i with tag := t } = s.takeRecord n r i :=
  rfl

theorem apost_wf {o : AccF} {s s1 : State} (h : Runs (.apost o) o.core o.pred o.pn s s1) : (!accField o.s2 || o.sz) = false := by
  have hwf : (wfAcc o.s2 && !o.sz) = true := h.wf
  simpa [wfAcc, accField] using hwf

/-- APOST whose record the pool takes, with a status: the status goes to g[d]. -/
theorem exec_apost {o : AccF} {s s1 s3 : State} {code : Nat} (h : Runs (.apost o) o.core o.pred o.pn s s1)
    (htag : s1.tagBad o.core (s1.core o.core).dbgSec = false) (hreply : (s1.core o.core).reply = none)
    (hsb : (s1.core o.core).sbuf = [])
    (htake : (s1.modCore o.core Core.drainStores).takeRecord ((s1.core o.core).apostRecord o).slot ((s1.core o.core).apostRecord o)
      (s1.coreInit o.core (s1.core o.core).dbgSec (s1.coreTag o.core apostTag)) = some (code, s3)) :
    exec (.apost o) s = .next ((s3.modCore o.core (fun c => c.wg o.d (BitVec.ofNat 64 code))).retireInsn o.core (s1.core o.core)
      ((s1.core o.core).pc + 4) false []) := by
  have hrun := exec_eq_body (k := ⟨o.core, o.pred, o.pn, wAcc 0x0A o, preChk (!accField o.s2 || o.sz) .u⟩)
    (show exec (.apost o) s = execApost o s from rfl) rfl h (preChk_u_of (apost_wf h) (s1.core o.core))
  have htake' : ∀ tag, (s1.modCore o.core Core.drainStores).takeRecord ((s1.core o.core).apostRecord o).slot
      ((s1.core o.core).apostRecord o) (s1.coreInit o.core (s1.core o.core).dbgSec tag) = some (code, s3) := fun tag =>
    (takeRecord_tag _ _ _ (s1.coreInit o.core (s1.core o.core).dbgSec (s1.coreTag o.core apostTag)) tag).trans htake
  dsimp only at hrun
  rw [hreply, allStored_ok (sbDrain_empty hsb)] at hrun
  dsimp only [Res.andThen] at hrun
  rw [if_neg (by rw [htag]; exact Bool.false_ne_true), htake'] at hrun
  exact hrun

theorem poolSync_settled {s : State} (h : s.settled) : s.poolSync = s := by
  obtain ⟨hexpire, hgrant⟩ := h
  have hleases : s.leaseExpire = s := by
    rw [State.leaseExpire, hexpire]
    rfl
  rw [State.poolSync, hleases]
  dsimp only
  rw [hgrant]
  rfl

theorem recordRefuse_keeps (s : State) (n code : Nat) (i : Init) :
    (s.recordRefuse n code i).cores = s.cores ∧ (s.recordRefuse n code i).slots = s.slots := by
  unfold State.recordRefuse
  dsimp only
  split
  · unfold State.spoof
    dsimp only
    split <;> exact ⟨rfl, rfl⟩
  · exact ⟨rfl, rfl⟩

/-- A record that finds room in the queue of its slot gets its status, and joins the queue where the status is OK (05 R153). -/
theorem takeRecord_room {s : State} {n : Nat} {r : Record} {i : Init} (hsettled : s.settled) (hroom : recordCount (s.slot n).queue < 8) :
    ∃ t, s.takeRecord n r i = some (s.recordStatus n r i, t) ∧ t.cores = s.cores ∧
      (s.recordStatus n r i = 0 → (t.slot n).queue = (s.slot n).queue ++ [.record r]) ∧
      (s.recordStatus n r i ≠ 0 → (t.slot n).queue = (s.slot n).queue) := by
  unfold State.takeRecord
  dsimp only
  rw [poolSync_settled hsettled, if_neg (Nat.not_le.mpr hroom)]
  by_cases hok : s.recordStatus n r i = 0
  · rw [if_pos hok, hok]
    refine ⟨_, rfl, rfl, fun _ => ?_, fun hne => absurd rfl hne⟩
    rw [slot_setSlot_self]
  · rw [if_neg hok]
    obtain ⟨hcores, hslots⟩ := recordRefuse_keeps s n (s.recordStatus n r i) i
    exact ⟨_, rfl, hcores, fun h => absurd h hok, fun _ => by rw [State.slot, hslots, ← State.slot]⟩

/-- APOST whose record finds room at its slot. -/
theorem answers_apost {o : AccF} {s s1 : State} {r : Record} {code : Nat} (h : Runs (.apost o) o.core o.pred o.pn s s1)
    (hr : (s1.core o.core).apostRecord o = r)
    (hcode : s1.recordStatus r.slot r (s1.coreInit o.core (s1.core o.core).dbgSec (s1.coreTag o.core apostTag)) = code)
    (htag : s1.tagBad o.core (s1.core o.core).dbgSec = false) (hreply : (s1.core o.core).reply = none)
    (hsb : (s1.core o.core).sbuf = []) (hsettled : s1.settled) (hroom : recordCount (s1.slot r.slot).queue < 8) :
    Answers (.apost o) s (fun t => (t.core o.core).rg o.d = (if o.d = 0 then 0 else BitVec.ofNat 64 code) ∧
      (∀ x : BitVec 5, x ≠ o.d → (t.core o.core).rg x = (s1.core o.core).rg x) ∧ (t.core o.core).pc = (s1.core o.core).pc + 4 ∧
      (code = 0 → (t.slot r.slot).queue = (s1.slot r.slot).queue ++ [.record r]) ∧
      (code ≠ 0 → (t.slot r.slot).queue = (s1.slot r.slot).queue)) := by
  obtain ⟨s3, htake, hcores, hjoins, hstays⟩ := takeRecord_room (s := s1.modCore o.core Core.drainStores) (n := r.slot) (r := r)
    (i := s1.coreInit o.core (s1.core o.core).dbgSec (s1.coreTag o.core apostTag)) hsettled hroom
  have hstatus : (s1.modCore o.core Core.drainStores).recordStatus r.slot r
      (s1.coreInit o.core (s1.core o.core).dbgSec (s1.coreTag o.core apostTag)) = code := hcode
  rw [hstatus] at htake hjoins hstays
  have hcore : s3.core o.core = (s1.core o.core).drainStores := by
    rw [State.core, hcores, ← State.core, core_modCore_self]
  obtain ⟨d, hdrain⟩ := drainStores_eq (s1.core o.core)
  have hd : (s3.core o.core).dbg = false := by
    rw [hcore, hdrain]
    exact h.dbg
  have hg : (s3.core o.core).g = (s1.core o.core).g := by rw [hcore, hdrain]
  subst hr
  obtain ⟨⟨hrd, hrest, -⟩, hpc⟩ := done_wroteG (s := s3) (s1.core o.core) ((s1.core o.core).pc + 4) o.d (BitVec.ofNat 64 code) [] hd
  obtain ⟨-, -, -, hret⟩ := retire_core (s := s3.modCore o.core (fun c => c.wg o.d (BitVec.ofNat 64 code))) (n := o.core)
    (s1.core o.core) ((s1.core o.core).pc + 4) false [] (by rw [core_modCore_self, wg_dbg, hd])
  refine ⟨_, exec_apost h htag hreply hsb htake, hrd, fun x hx => (hrest x hx).trans (rg_of_g hg x), hpc, fun hc => ?_, fun hc => ?_⟩
  · rw [hret]
    exact hjoins hc
  · rw [hret]
    exact hstays hc

/-- Settles O14, form by form. -/
theorem accumulatorResults : Obligations.AccumulatorResults := by
  unfold Obligations.AccumulatorResults
  refine ⟨?_, ?_, ?_, ?_, ?_, ?_, ?_, ?_, ?_⟩
  · intro e he o s s1 h
    obtain ⟨hrow, hdbg⟩ := computes_accMoves o e he
    exact hrow.answers h hdbg
  · exact fun e he o s s1 h => ((numeric_accum o e he).cases h (fun _ _ => rfl)).1
  · exact fun o s s1 h => ((numeric_arnd o).cases h (fun _ d => arndWrite_dbg d o _)).1
  · exact fun o s s1 l h hreach ha hpage hown => answers_asave_held h rfl hreach ha hpage hown
  · exact fun o s s1 l h hreach ha hpage hheld => answers_aload_held h rfl hreach ha hpage hheld
  · exact fun o s s1 h htag hreply hsb _ hexpire hgrant hroom => answers_apost h rfl rfl htag hreply hsb ⟨hexpire, hgrant⟩ hroom
  · exact fun o s s1 s2 evs h hstore hd => ⟨_, exec_asave h hstore, (unseen_refl _ s2).endsAs_done _ hd evs⟩
  · exact fun o s s1 s2 v evs h hload hd => answers_aload h hload hd
  · exact fun o s s1 s3 code h htag hreply hsb htake hd =>
      ⟨_, exec_apost h htag hreply hsb htake, done_wroteG _ _ o.d _ [] hd⟩

end Sys2Proof.Machine
end

section
/-! The registers of the Praline pool (05): their places, what a write of one leaves of the others, and the parts of a slot. -/
namespace Sys2Proof.Machine
open Sys2Proof

/-- The registers that every slot has (05 R173). -/
def slotKinds : List RegKind := [.PRL_SLOT_CTL, .PRL_SLOT_STAT, .PRL_SLOT_LEASE, .PRL_SLOT_CNT, .PRL_SLOT_CMD, .PRL_SLOT_RES,
  .PRL_SLOT_RESX, .PRL_SLOT_DADDR, .PRL_SLOT_SPAN]

/-- Registers that stand once, below those of the slots: what the pool's operations read and write beside a slot. -/
def headKinds : List RegKind := [.PRL_STATUS, .PRL_LASTREF, .TCK_FRAME]

theorem slotReg_addr {k : RegKind} (hk : k ∈ slotKinds) (n : Nat) : k.addr 0 n = 0x1400000 + k.spec.off + n * 256 := by
  have hspec : ∀ k ∈ slotKinds, k.spec.blk.base 0 = 0x1400000 ∧ k.spec.s1 = 256 := by decide
  obtain ⟨hbase, hstride⟩ := hspec k hk
  rw [RegKind.addr, hbase, hstride, Nat.zero_mul, Nat.add_zero]

theorem slotReg_bounds {k : RegKind} (hk : k ∈ slotKinds) {n : Nat} : 0x1401000 ≤ k.addr 0 n ∧ (n < 32 → k.addr 0 n < 0x1403000) := by
  have hoff : ∀ k ∈ slotKinds, 0x1000 ≤ k.spec.off ∧ k.spec.off < 0x1100 := by decide
  have := hoff k hk
  rw [slotReg_addr hk]
  omega

theorem slotReg_ne {k k2 : RegKind} (hk : k ∈ slotKinds ∧ k2 ∈ slotKinds ∧ k2 ≠ k) (m n : Nat) : k2.addr 0 m ≠ k.addr 0 n := by
  obtain ⟨h1, h2, hne⟩ := hk
  have hoff : ∀ k ∈ slotKinds, ∀ k2 ∈ slotKinds, k2 ≠ k → k2.spec.off % 256 ≠ k.spec.off % 256 := by decide
  have := hoff k h1 k2 h2 hne
  rw [slotReg_addr h1, slotReg_addr h2]
  omega

theorem slotReg_ne_slot {k : RegKind} (hk : k ∈ slotKinds) {m n : Nat} (h : m ≠ n) : k.addr 0 m ≠ k.addr 0 n := by
  rw [slotReg_addr hk, slotReg_addr hk]
  omega

theorem headReg_lt {k : RegKind} (hk : k ∈ headKinds) : k.addr < 0x1401000 := by
  have : ∀ k ∈ headKinds, k.addr < 0x1401000 := by decide
  exact this k hk

theorem headReg_ne {k k2 : RegKind} (hk : k ∈ slotKinds ∧ k2 ∈ headKinds) (n : Nat) : k2.addr ≠ k.addr 0 n := by
  have hlow := headReg_lt hk.2
  have hhigh := (slotReg_bounds hk.1 (n := n)).1
  omega

/-! What a write of a slot's register leaves. -/

section
variable {k k2 : RegKind} (s : State) (w : Word) (f g : Fld) (v m n : Nat)

theorem rg_setRg_slotReg (hk : k ∈ slotKinds ∧ k2 ∈ slotKinds ∧ k2 ≠ k) : (s.setRg w k 0 n).rg k2 0 m = s.rg k2 0 m :=
  rg_setRg_ne s w k k2 0 n 0 0 m 0 (slotReg_ne hk m n)

theorem fd_setRg_slotReg (hk : k ∈ slotKinds ∧ k2 ∈ slotKinds ∧ k2 ≠ k) : (s.setRg w k 0 n).fd k2 g 0 m = s.fd k2 g 0 m := by
  rw [State.fd, rg_setRg_slotReg s w m n hk, State.fd]

theorem fd_setFd_slotReg (hk : k ∈ slotKinds ∧ k2 ∈ slotKinds ∧ k2 ≠ k) : (s.setFd k f v 0 n).fd k2 g 0 m = s.fd k2 g 0 m :=
  fd_setRg_slotReg s _ g m n hk

theorem rg_setFd_slotReg (hk : k ∈ slotKinds ∧ k2 ∈ slotKinds ∧ k2 ≠ k) : (s.setFd k f v 0 n).rg k2 0 m = s.rg k2 0 m :=
  rg_setRg_slotReg s _ m n hk

theorem fd_setRg_headReg (hk : k ∈ slotKinds ∧ k2 ∈ headKinds) : (s.setRg w k 0 n).fd k2 g = s.fd k2 g := by
  rw [State.fd, rg_setRg_ne s w k k2 0 n 0 0 0 0 (headReg_ne hk n), State.fd]

theorem fd_setFd_headReg (hk : k ∈ slotKinds ∧ k2 ∈ headKinds) : (s.setFd k f v 0 n).fd k2 g = s.fd k2 g :=
  fd_setRg_headReg s _ g n hk

theorem fd_setHeadReg (hk : k2 ∈ slotKinds ∧ k ∈ headKinds) : (s.setRg w k).fd k2 g 0 n = s.fd k2 g 0 n := by
  rw [State.fd, rg_setRg_ne s w k k2 0 0 0 0 n 0 (headReg_ne hk n).symm, State.fd]

theorem fd_setHeadFd (hk : k2 ∈ slotKinds ∧ k ∈ headKinds) : (s.setFd k f v).fd k2 g 0 n = s.fd k2 g 0 n :=
  fd_setHeadReg s _ g n hk

theorem fd_setRg_self (x i j : Nat) : (s.setRg w k x i j).fd k g x i j = getF w g := by
  rw [State.fd, rg_setRg_self]
end

/-! The parts of a slot beside its registers. -/

theorem kinsert_kinsert {α : Type} (k : Nat) (v w : α) (l : List (Nat × α)) : kinsert k w (kinsert k v l) = kinsert k w l := by
  induction l with
  | nil => simp [kinsert]
  | cons e l ih =>
    obtain ⟨a, u⟩ := e
    by_cases ha : a = k
    · simp [kinsert, ha]
    · by_cases hlt : k < a
      · simp [kinsert, ha, hlt]
      · simp [kinsert, ha, hlt, ih]

theorem setSlot_setSlot (s : State) (n : Nat) (v w : Slot) : (s.setSlot n v).setSlot n w = s.setSlot n w := by
  simp only [State.setSlot, KMap.set, kinsert_kinsert]

theorem slot_of_slots {s t : State} (h : t.slots = s.slots) (n : Nat) : t.slot n = s.slot n := by rw [State.slot, State.slot, h]

end Sys2Proof.Machine
end

section
/-! O28: the commands of a slot (05 R158, R165, R168 to R171). -/
namespace Sys2Proof.Machine
open Sys2Proof

/-! The world check. -/

theorem slotWorld_settled {s : State} {n : Nat} {i : Init} (hsettled : s.settled) (f : State → State)
    (hsec : s.slotFd n PRL_SLOT_STAT.SEC = b2n i.sec) : s.slotWorld n i f = f s := by
  unfold State.slotWorld
  dsimp only
  rw [poolSync_settled hsettled, hsec]
  cases i.sec <;> rfl

/-- The state in which a command takes effect: the slot is listed as it is. -/
abbrev State.listed (s : State) (n : Nat) : State := s.setSlot n (s.slot n)

/-- A command of a sender whose queue is empty takes effect at once (05 R158, R168). -/
theorem slotCommand_heard {s : State} {n : Nat} {i : Init} (h : s.hears n i) {c : SlotItem}
    (hready : Slot.ready { s.slot n with queue := [c] } = true) :
    s.slotCommand n i c = (s.listed n).slotCmd n c := by
  obtain ⟨-, hsettled, hqueue, hsec⟩ := h
  have hempty : ({ s.slot n with queue := [] } : Slot) = s.slot n := by rw [← hqueue]
  rw [State.slotCommand, slotWorld_settled hsettled _ hsec]
  unfold State.slotPut
  dsimp only
  rw [hqueue]
  dsimp only [List.length_nil, List.nil_append, State.slotRun]
  rw [slot_setSlot_self, if_pos hready, State.slotStep, slot_setSlot_self]
  dsimp only
  rw [setSlot_setSlot, hempty]

/-! Each command by the state of its slot. -/

section
variable {s : State} {n : Nat}

/-- A command that its slot ignores (05 R168). -/
theorem slotCerr_ignored (s : State) (n : Nat) : (s.slotCerr n).slotState n = s.slotState n ∧ (s.slotCerr n).slotFd n PRL_SLOT_STAT.CERR = 1 ∧
    (s.slotCerr n).slots = s.slots :=
  ⟨fd_setFd_disjoint s _ PRL_SLOT_STAT.CERR PRL_SLOT_STAT.STATE _ _ _ _ (by decide) (by decide),
    fd_setFd_self s _ PRL_SLOT_STAT.CERR 1 _ _ _ (by decide), rfl⟩

/-- SEAL without ADUMP of a slot that is no collective's (05 R169). -/
theorem slotComplete_plain (hdump : s.fb .PRL_SLOT_CTL PRL_SLOT_CTL.ADUMP 0 n = false) (hkind : s.slotFd n PRL_SLOT_STAT.OKIND ≠ 3) :
    s.slotComplete n = (s.setSlotState n 2).setSlotFd n PRL_SLOT_STAT.CEV 1 := by
  have hdump' : ((s.setSlotState n 2).setSlotFd n PRL_SLOT_STAT.CEV 1).fb .PRL_SLOT_CTL PRL_SLOT_CTL.ADUMP 0 n = false := by
    simpa (disch := decide) only [State.fb, State.setSlotFd, State.setSlotState, fd_setFd_slotReg] using hdump
  have hkind' : ((s.setSlotState n 2).setSlotFd n PRL_SLOT_STAT.CEV 1).slotFd n PRL_SLOT_STAT.OKIND ≠ 3 := by
    simpa (disch := decide) only [State.slotFd, State.setSlotFd, State.setSlotState, fd_setFd_disjoint] using hkind
  unfold State.slotComplete
  dsimp only
  rw [hdump', if_neg Bool.false_ne_true, if_neg hkind']

/-- The commands of a granted slot (05 R165, R168). -/
theorem slotCmd_clear (h : s.slotState n = 1 ∨ s.slotState n = 2) : (s.slotCmd n .clear).slotState n = 1 ∧
    ((s.slotCmd n .clear).slot n).value = 0 ∧ (s.slotCmd n .clear).slotFlags n = 0 ∧
    (s.slotCmd n .clear).fd .PRL_SLOT_CNT PRL_SLOT_CNT.COUNT 0 n = 0 := by
  have hcmd : s.slotCmd n .clear = ((((s.setSlot n { s.slot n with value := 0 }).setSlotFd n PRL_SLOT_STAT.FLAGS 0).setFd
      .PRL_SLOT_CNT PRL_SLOT_CNT.COUNT 0 0 n).setSlotState n 1) := if_pos h
  rw [hcmd]
  refine ⟨fd_setFd_self _ _ PRL_SLOT_STAT.STATE 1 _ _ _ (by decide), ?_, ?_, ?_⟩
  · exact congrArg Slot.value (slot_setSlot_self s n _)
  · simp (disch := decide) only [State.slotFlags, State.slotFd, State.setSlotState, State.setSlotFd, fd_setFd_slotReg,
      fd_setFd_disjoint, fd_setFd_self]
    rfl
  · simp (disch := decide) only [State.setSlotState, fd_setFd_slotReg, fd_setFd_self]
    rfl

theorem slotCmd_round (h : s.slotState n = 1 ∨ s.slotState n = 2) {rm : Nat} (hrm : rm ≤ 4) (tgt : Nat) :
    (s.slotCmd n (.round rm tgt)).rg .PRL_SLOT_RESX 0 n = 0 ∧ (s.slotCmd n (.round rm tgt)).slot n = { s.slot n with
      round := some (BitVec.ofNat 64 (accRound (tgtFmt tgt) rm (s.slot n).value (s.slotFlags n).toNat).1,
        (accRound (tgtFmt tgt) rm (s.slot n).value (s.slotFlags n).toNat).1 / 2 ^ 64,
        (accRound (tgtFmt tgt) rm (s.slot n).value (s.slotFlags n).toNat).2) } := by
  have hcmd : s.slotCmd n (.round rm tgt) = s.slotRoundNow n rm tgt := if_pos h
  rw [hcmd, State.slotRoundNow, if_neg (Nat.not_lt.mpr hrm)]
  exact ⟨rg_setRg_self .., slot_setSlot_self ..⟩

theorem slotCmd_dump (h : s.slotState n = 1 ∨ s.slotState n = 2) {a : Nat} (hidle : (s.slot n).dump = none) (hok : s.dumpOk a = true) :
    (s.slotCmd n (.dump a)).slot n = { s.slot n with dump := some ⟨(s.slot n).value, a⟩ } := by
  have hcmd : s.slotCmd n (.dump a) = s.dumpStart n a := if_pos h
  unfold State.dumpStart at hcmd
  rw [hok, Bool.not_true, if_neg Bool.false_ne_true] at hcmd
  dsimp only at hcmd
  rw [hidle] at hcmd
  rw [hcmd]
  exact slot_setSlot_self ..

theorem slotCmd_dump_bad (h : s.slotState n = 1 ∨ s.slotState n = 2) {a : Nat} (hbad : s.dumpOk a = false) :
    s.slotCmd n (.dump a) = s.slotCerr n := by
  have hcmd : s.slotCmd n (.dump a) = s.dumpStart n a := if_pos h
  rw [hcmd, State.dumpStart, hbad]
  rfl

theorem slotCmd_release (h : s.slotState n = 1 ∨ s.slotState n = 2) : (s.slotCmd n .release).slotState n = 3 ∧
    ((s.slotCmd n .release).slot n).released = true := by
  have hcmd : s.slotCmd n .release = (s.setSlot n { s.slot n with released := true }).setSlotState n 3 := if_pos h
  rw [hcmd]
  exact ⟨fd_setFd_self _ _ PRL_SLOT_STAT.STATE 3 _ _ _ (by decide), congrArg Slot.released (slot_setSlot_self s n _)⟩

theorem slotCmd_seal (h : s.slotState n = 1) (hdump : s.fb .PRL_SLOT_CTL PRL_SLOT_CTL.ADUMP 0 n = false)
    (hkind : s.slotFd n PRL_SLOT_STAT.OKIND ≠ 3) : (s.slotCmd n .seal).slotState n = 2 ∧
    (s.slotCmd n .seal).slotFd n PRL_SLOT_STAT.CEV = 1 ∧ (s.slotCmd n .seal).slots = s.slots := by
  have hcmd : s.slotCmd n .seal = s.slotComplete n := if_pos h
  rw [hcmd, slotComplete_plain hdump hkind]
  refine ⟨?_, fd_setFd_self _ _ PRL_SLOT_STAT.CEV 1 _ _ _ (by decide), rfl⟩
  simp (disch := decide) only [State.slotState, State.setSlotState, State.setSlotFd, fd_setFd_disjoint, fd_setFd_self]
  rfl

/-- RENEW (05 R165). -/
theorem slotRenew_heard {i : Init} (h : s.hears n i) (hlive : s.slotState n = 1 ∨ s.slotState n = 2) {lease : Nat} (hlease : lease ≠ 0) :
    s.slotRenew n i lease = s.setFd .PRL_SLOT_LEASE PRL_SLOT_LEASE.EXPF ((s.frameNo + lease) % 2 ^ 48) 0 n := by
  obtain ⟨-, hsettled, -, hsec⟩ := h
  have hgo : ¬ (lease = 0 ∨ (!(s.slotState n == 1 || s.slotState n == 2)) = true) := by
    rcases hlive with h1 | h2
    · simp [hlease, h1]
    · simp [hlease, h2]
  rw [State.slotRenew, slotWorld_settled hsettled _ hsec, if_neg hgo]

/-- A command of the normal world for a slot of the secure one (05 R150). -/
theorem slotCommand_denied {i : Init} (hsettled : s.settled) (hsec : s.slotFd n PRL_SLOT_STAT.SEC = 1) (hi : i.sec = false) (c : SlotItem) :
    s.slotCommand n i c = s.violate i.node 1 (RegKind.PRL_SLOT_CMD.addr 0 n) := by
  unfold State.slotCommand State.slotWorld
  dsimp only
  rw [poolSync_settled hsettled, hsec, hi]
  rfl

end

/-- What a logged world violation does: it sets VALID and leaves the pool alone (17 R454). -/
theorem violate_pool (s : State) (node kind addr : Nat) : (s.violate node kind addr).slots = s.slots ∧
    (s.violate node kind addr).fb .WLD_VIOL WLD_VIOL.VALID = true ∧
    ∀ k ∈ slotKinds, ∀ n, n < 32 → (s.violate node kind addr).rg k 0 n = s.rg k 0 n := by
  unfold State.violate
  dsimp only
  refine ⟨raiseSrc_slots .., ?_, fun k hk n hn => ?_⟩
  · simp (disch := decide) only [State.fb, State.fd, raiseSrc_rg, rg_setFd_ne]
    rw [← State.fd, fd_setFd_self _ _ _ _ _ _ _ (by decide)]
    rfl
  · have hlow := (slotReg_bounds hk).2 hn
    have hviol : RegKind.WLD_VIOL.addr = 0x1A00000 := by decide
    have haddr : RegKind.WLD_VADDR.addr = 0x1A00008 := by decide
    simp (disch := omega) only [raiseSrc_rg, State.satFd, rg_setFd_ne]

/-- A command is heard and only sets CERR. -/
theorem slotCommand_cerr {s : State} {n : Nat} {i : Init} (h : s.hears n i) {c : SlotItem}
    (hready : Slot.ready { s.slot n with queue := [c] } = true) (hcmd : (s.listed n).slotCmd n c = (s.listed n).slotCerr n) :
    (s.slotCommand n i c).slotState n = s.slotState n ∧ (s.slotCommand n i c).slotFd n PRL_SLOT_STAT.CERR = 1 ∧
      (s.slotCommand n i c).slot n = s.slot n := by
  obtain ⟨hstate, hcerr, hslots⟩ := slotCerr_ignored (s.listed n) n
  rw [slotCommand_heard h hready, hcmd]
  exact ⟨hstate, hcerr, (slot_of_slots hslots n).trans (slot_setSlot_self ..)⟩

theorem ready_dump {s : State} {n : Nat} (hidle : (s.slot n).dump = none) (a : Nat) :
    Slot.ready { s.slot n with queue := [.dump a] } = true := by
  rw [Slot.ready, hidle]
  rfl

theorem exec_slotDump {s : State} {slot : SlotNo} {i : Init} (h : s.hears slot i) :
    exec (.slotDump slot i) s = .next (s.slotCommand slot i (.dump (s.dumpAddr slot))) := by
  obtain ⟨halive, hsettled, -⟩ := h
  have hexec : exec (.slotDump slot i) s = .next (s.slotCommand slot i (.dump (s.poolSync.dumpAddr slot))) := if_pos halive
  rw [hexec, poolSync_settled hsettled]

theorem not_live {s : State} {n : Nat} (h : s.slotState n = 0 ∨ s.slotState n = 3) : ¬ (s.slotState n = 1 ∨ s.slotState n = 2) := by
  omega

/-- Settles O28, command by command. -/
theorem poolCommands : Obligations.PoolCommands := by
  unfold Obligations.PoolCommands
  refine ⟨fun slot i s h => ⟨fun hopen hdump hkind => ?_, fun hst => ?_⟩,
    fun slot i s h hlive => ⟨?_, fun rm tgt hrm => ?_, fun hidle hok => ?_, fun hbad hidle => ?_, fun lease hlease => ?_, ?_⟩,
    fun slot i s h hst => ⟨?_, ?_⟩, fun slot i s halive hsettled hsec hi => ?_⟩
  · refine ⟨s.slotCommand slot i .seal, if_pos h.1, ?_⟩
    obtain ⟨hstate, hcev, hslots⟩ := slotCmd_seal (s := s.listed slot) hopen hdump hkind
    rw [slotCommand_heard h rfl]
    exact ⟨hstate, hcev, (slot_of_slots hslots _).trans (slot_setSlot_self ..)⟩
  · obtain ⟨hstate, hcerr, -⟩ := slotCommand_cerr h (c := .seal) rfl (if_neg hst)
    exact ⟨_, if_pos h.1, hstate, hcerr⟩
  · refine ⟨s.slotCommand slot i .clear, if_pos h.1, ?_⟩
    rw [slotCommand_heard h rfl]
    exact slotCmd_clear hlive
  · refine ⟨s.slotCommand slot i (.round rm.toNat tgt.toNat), if_pos h.1, ?_⟩
    obtain ⟨hresx, hslot⟩ := slotCmd_round (s := s.listed slot) hlive hrm tgt.toNat
    rw [slot_setSlot_self] at hslot
    rw [slotCommand_heard h rfl, hslot]
    exact ⟨hresx, rfl, rfl⟩
  · refine ⟨_, exec_slotDump h, ?_⟩
    have hslot := slotCmd_dump (s := s.listed slot) hlive (by rwa [slot_setSlot_self]) hok
    rw [slot_setSlot_self] at hslot
    rw [slotCommand_heard h (ready_dump hidle _)]
    exact congrArg Slot.dump hslot
  · obtain ⟨-, hcerr, hslot⟩ := slotCommand_cerr h (ready_dump hidle (s.dumpAddr slot))
      (slotCmd_dump_bad (s := s.listed slot) hlive hbad)
    exact ⟨_, exec_slotDump h, hcerr, by rw [hslot, hidle]⟩
  · have hne : lease.toNat ≠ 0 := fun h0 => hlease (BitVec.eq_of_toNat_eq h0)
    refine ⟨s.slotRenew slot i lease.toNat, if_pos h.1, ?_⟩
    rw [slotRenew_heard h hlive hne]
    refine ⟨?_, fd_setFd_slotReg s _ _ _ _ _ (by decide)⟩
    rw [fd_setFd_self _ _ _ _ _ _ _ (by decide)]
    exact Nat.mod_mod _ _
  · refine ⟨s.slotCommand slot i .release, if_pos h.1, ?_⟩
    rw [slotCommand_heard h rfl]
    exact slotCmd_release hlive
  · obtain ⟨hstate, hcerr, -⟩ := slotCommand_cerr h (c := .clear) rfl (if_neg (not_live hst))
    exact ⟨_, if_pos h.1, hstate, hcerr⟩
  · obtain ⟨hstate, hcerr, -⟩ := slotCommand_cerr h (c := .release) rfl (if_neg (not_live hst))
    exact ⟨_, if_pos h.1, hstate, hcerr⟩
  · obtain ⟨hslots, hvalid, hregs⟩ := violate_pool s i.node 1 (RegKind.PRL_SLOT_CMD.addr 0 slot)
    refine ⟨s.slotCommand slot i .seal, if_pos halive, ?_⟩
    rw [slotCommand_denied hsettled hsec hi]
    exact ⟨hslots, congrArg (getF · PRL_SLOT_STAT.STATE) (hregs _ (by decide) _ slot.isLt), hvalid⟩

end Sys2Proof.Machine
end

section
/-! O29: contribution records and ports (05 R148, R152 to R156, R169). -/
namespace Sys2Proof.Machine
open Sys2Proof

/-! A record arrives. -/

section
variable {s : State} {n : Nat} {r : Record} {i : Init}

/-- The status of a record with a good format for an OPEN slot of the enabled pool (05 R153). -/
theorem recordStatus_open (hformat : r.mbz = true ∧ r.slot = n ∧ r.lo ≤ r.hi) (hen : s.fb .PRL_CTL PRL_CTL.EN = true)
    (hopen : s.slotState n = 1) : s.recordStatus n r i =
      if (!(r.epoch == s.slotFd n PRL_SLOT_STAT.EPOCH)) = true then 1
      else if ((s.slotFd n PRL_SLOT_STAT.SEC == 1) != i.sec) = true then 5
      else if s.slotForeign n i = true then 6
      else if (s.fd .PRL_SLOT_CNT PRL_SLOT_CNT.EXPECT 0 n != 0 &&
        s.fd .PRL_SLOT_CNT PRL_SLOT_CNT.COUNT 0 n == s.fd .PRL_SLOT_CNT PRL_SLOT_CNT.EXPECT 0 n) = true then 4 else 0 := by
  obtain ⟨hmbz, hslot, hspan⟩ := hformat
  simp [State.recordStatus, hmbz, hslot, Nat.not_lt.mpr hspan, hen, hopen]

theorem recordStatus_ok (hformat : r.mbz = true ∧ r.slot = n ∧ r.lo ≤ r.hi) (hen : s.fb .PRL_CTL PRL_CTL.EN = true)
    (hopen : s.slotState n = 1) (hepoch : r.epoch = s.slotFd n PRL_SLOT_STAT.EPOCH) (hsec : s.slotFd n PRL_SLOT_STAT.SEC = b2n i.sec)
    (hforeign : s.slotForeign n i = false) (hexpect : s.fd .PRL_SLOT_CNT PRL_SLOT_CNT.EXPECT 0 n = 0) : s.recordStatus n r i = 0 := by
  rw [recordStatus_open hformat hen hopen, hepoch, hsec, hforeign, hexpect]
  cases i.sec <;> simp [b2n]

/-- A format error, or the wrong epoch at an OPEN slot: FORMAT or STALE (05 R153). -/
theorem recordStatus_refused (hmbz : r.mbz = true) (hslot : r.slot = n)
    (h : r.hi < r.lo ∨ (s.fb .PRL_CTL PRL_CTL.EN = true ∧ s.slotState n = 1 ∧ r.epoch ≠ s.slotFd n PRL_SLOT_STAT.EPOCH)) :
    s.recordStatus n r i ≠ 0 ∧ s.recordStatus n r i ≠ 6 := by
  by_cases hspan : r.hi < r.lo
  · simp [State.recordStatus, hspan]
  · obtain ⟨hen, hopen, hepoch⟩ := h.resolve_left hspan
    rw [recordStatus_open ⟨hmbz, hslot, Nat.not_lt.mp hspan⟩ hen hopen]
    simp [hepoch]

/-- A refused record that is no slice's spoof counts in REFUSED and does nothing else (05 R153). -/
theorem recordRefuse_plain {code : Nat} (h : code ≠ 6) : s.recordRefuse n code i = s.satFd .PRL_SLOT_CNT PRL_SLOT_CNT.REFUSED 0 n := if_neg h

/-- The last refusal of a port is a register of its own (05 R156). -/
theorem lastRef_slot (s : State) (hdr code : Nat) {k : RegKind} (hk : k ∈ slotKinds) (f : Fld) (n : Nat) :
    (s.lastRef hdr code).fd k f 0 n = s.fd k f 0 n := fd_setHeadReg s _ f n ⟨hk, by decide⟩

theorem takeRecord_ok (hsettled : s.settled) (hroom : recordCount (s.slot n).queue < 8) (hok : s.recordStatus n r i = 0) :
    s.takeRecord n r i = some (0, (s.satFd .PRL_SLOT_CNT PRL_SLOT_CNT.COUNT 0 n).setSlot n
      { s.slot n with queue := (s.slot n).queue ++ [.record r] }) := by
  unfold State.takeRecord
  dsimp only
  rw [poolSync_settled hsettled, if_neg (Nat.not_le.mpr hroom), if_pos hok]

theorem takeRecord_refused (hsettled : s.settled) (hroom : recordCount (s.slot n).queue < 8) (hbad : s.recordStatus n r i ≠ 0) :
    s.takeRecord n r i = some (s.recordStatus n r i, s.recordRefuse n (s.recordStatus n r i) i) := by
  unfold State.takeRecord
  dsimp only
  rw [poolSync_settled hsettled, if_neg (Nat.not_le.mpr hroom), if_neg hbad]

end

theorem exec_contributionRecord {slot : SlotNo} {r : Record} {i : Init} {s t : State} {c : Nat} (port : Bool) (halive : s.alive = true)
    (htake : s.takeRecord slot r i = some (c, t)) :
    exec (.contributionRecord slot r i port) s = .next (if port && c != 0 then t.lastRef (recordHeader r) c else t) := by
  have hexec : exec (.contributionRecord slot r i port) s = execContributionRecord slot r i port s := rfl
  rw [hexec, execContributionRecord, halive, Bool.not_true, if_neg Bool.false_ne_true, htake]

/-! The adder. -/

/-- A slot without EXPECT never completes by count (05 R169). -/
theorem slotCountDone_open {s : State} {n : Nat} (h : s.fd .PRL_SLOT_CNT PRL_SLOT_CNT.EXPECT 0 n = 0) : s.slotCountDone n = s :=
  if_neg (fun ⟨_, hne, _⟩ => hne h)

/-- The last record in a queue is added (05 R154). -/
theorem recordAdded_last {s : State} {n : Nat} {r : Record} (hqueue : (s.slot n).queue = [.record r])
    (hexpect : s.fd .PRL_SLOT_CNT PRL_SLOT_CNT.EXPECT 0 n = 0) :
    (s.slotStep n).slotRun n 1 = (s.setSlot n { s.slot n with queue := [] }).slotAdd n r := by
  have hadd : s.slotStep n = (s.setSlot n { s.slot n with queue := [] }).slotAdd n r := by
    unfold State.slotStep
    dsimp only
    rw [hqueue]
    refine slotCountDone_open ?_
    unfold State.slotAdd
    dsimp only
    rw [fd_setRg_slotReg _ _ _ _ _ (by decide), State.setSlotFd, fd_setFd_slotReg _ _ _ _ _ _ (by decide)]
    exact hexpect
  have hempty : (((s.setSlot n { s.slot n with queue := [] }).slotAdd n r).slot n).ready = false := by
    unfold State.slotAdd
    dsimp only
    rw [slot_of_slots (setRg_slots ..), State.setSlotFd, slot_of_slots (setFd_slots ..), slot_setSlot_self, slot_setSlot_self]
    rfl
  rw [hadd, State.slotRun, hempty, if_neg Bool.false_ne_true]

/-- What adding a nonzero record does (05 R154). -/
theorem slotAdd_result {s : State} {n : Nat} {r : Record} (hzero : r.zero = false) :
    ((s.slotAdd n r).slot n).queue = (s.slot n).queue ∧ (s.slotAdd n r).slotState n = s.slotState n ∧
      ((s.slotAdd n r).slot n).value = (accAdd (s.slot n).value (fromSpan r.lo r.hi r.neg r.words).toInt).1 ∧
      ((accAdd (s.slot n).value (fromSpan r.lo r.hi r.neg r.words).toInt).2 = false →
        (s.slotAdd n r).slotFlags n = s.slotFlags n ||| r.flags) := by
  unfold State.slotAdd
  dsimp only
  rw [hzero, if_neg Bool.false_ne_true, slot_of_slots (setRg_slots ..), State.setSlotFd, slot_of_slots (setFd_slots ..), slot_setSlot_self]
  refine ⟨rfl, ?_, rfl, fun hov => ?_⟩
  · simp (disch := decide) only [State.slotState, fd_setRg_slotReg, fd_setFd_disjoint]
    rfl
  · rw [hov, if_neg Bool.false_ne_true, Nat.or_zero]
    have hsum : ((s.slotFlags n).toNat ||| r.flags.toNat) % 2 ^ PRL_SLOT_STAT.FLAGS.len = (s.slotFlags n ||| r.flags).toNat :=
      (Nat.mod_eq_of_lt (s.slotFlags n ||| r.flags).isLt)
    rw [State.slotFlags, State.slotFd, fd_setRg_slotReg _ _ _ _ _ (by decide), fd_setFd_self _ _ _ _ _ _ _ (by decide), hsum]
    exact (BitVec.ofNat_toNat ..).trans (BitVec.setWidth_eq _)

theorem exec_recordAdded {slot : SlotNo} {s : State} {r : Record} (hlive : s.dead = false) (hsettled : s.settled)
    (hqueue : (s.slot slot).queue = [.record r]) : exec (.recordAdded slot) s = .next ((s.slotStep slot).slotRun slot 1) := by
  have hexec : exec (.recordAdded slot) s = execRecordAdded slot s := rfl
  rw [hexec, execRecordAdded, hlive, if_neg Bool.false_ne_true, poolSync_settled hsettled]
  dsimp only
  rw [hqueue]
  rfl

/-! The ports. -/

/-- The first 8 bytes of a record begin its assembly (05 R156). -/
theorem portWrite_first {s : State} {i : Init} {n ch : Nat} {data : Word} (hsettled : s.settled) (hch : nodeDma i.node = some ch)
    (hport : (s.slot n).port = none) (hspan : data.toNat / 2 ^ 16 % 64 ≤ data.toNat / 2 ^ 24 % 64) :
    s.portWrite i n 0 64 data = some (.ok, s.setSlot n { s.slot n with port := some ⟨ch, data, 8, 0⟩ }) := by
  unfold State.portWrite
  dsimp only
  rw [poolSync_settled hsettled, hch]
  dsimp only
  rw [hport]
  dsimp only
  rw [if_neg (by decide), if_pos rfl, if_neg (Nat.not_lt.mpr hspan)]

/-- A write of a port by a node that is no DMA channel (05 R156). -/
theorem portWrite_stranger {s : State} {i : Init} (hsettled : s.settled) (hnode : nodeDma i.node = none) (n off width : Nat) (data : Word) :
    s.portWrite i n off width data = some (.decerr, s) := by
  unfold State.portWrite
  dsimp only
  rw [poolSync_settled hsettled, hnode]

theorem exec_portWrite {i : Init} {slot : SlotNo} {off width : Nat} {data : Word} {s t : State} {st : Status} (halive : s.alive = true)
    (h : s.portWrite i slot off width data = some (st, t)) : exec (.portWrite i slot off width data) s = .next t := by
  have hexec : exec (.portWrite i slot off width data) s = execPortWrite i slot off width data s := rfl
  rw [hexec, execPortWrite, halive, Bool.not_true, if_neg Bool.false_ne_true, h]

/-! ROUND_RESULT. -/

theorem exec_roundResult {slot : SlotNo} {s : State} {r : Word × Nat × Nat} (hlive : s.dead = false) (hround : (s.slot slot).round = some r) :
    exec (.roundResult slot) s = .next (((s.setSlot slot { s.slot slot with round := none }).setRg r.1 .PRL_SLOT_RES 0 slot).setRg
      (setF (setF (setF 0 PRL_SLOT_RESX.TOP r.2.1) PRL_SLOT_RESX.FLAGS r.2.2) PRL_SLOT_RESX.RVALID 1) .PRL_SLOT_RESX 0 slot) := by
  have hexec : exec (.roundResult slot) s = execRoundResult slot s := rfl
  rw [hexec, execRoundResult]
  dsimp only
  rw [hround]
  exact if_neg (by rw [hlive]; exact Bool.false_ne_true)

/-- Settles O29: the records, the adder, the ports and the rounded results, each by its own rule. -/
theorem poolRecords : Obligations.PoolRecords := by
  unfold Obligations.PoolRecords
  refine ⟨fun slot r i port s halive hsettled hroom hmbz hslot => ⟨fun hspan hen hopen hepoch hsec hforeign hexpect => ?_, fun hbad => ?_⟩,
    fun slot r s hlive hsettled hqueue hzero hexpect => ?_, fun i slot ch data s halive hsettled hch hport hspan => ?_,
    fun i slot off width data s halive hsettled hnode => exec_portWrite halive (portWrite_stranger hsettled hnode slot off width data),
    fun slot s r hlive hround => ⟨_, exec_roundResult hlive hround, ?_⟩⟩
  · have hok := recordStatus_ok ⟨hmbz, hslot, hspan⟩ hen hopen hepoch hsec hforeign hexpect
    refine ⟨_, exec_contributionRecord port halive (takeRecord_ok hsettled hroom hok), ?_⟩
    rw [show (port && (0 : Nat) != 0) = false from Bool.and_false port, if_neg Bool.false_ne_true]
    beta_reduce
    rw [slot_setSlot_self]
    exact ⟨rfl, rfl, fd_satFd_self s _ PRL_SLOT_CNT.COUNT _ _ _ (by decide)⟩
  · obtain ⟨hne, hspoof⟩ := recordStatus_refused (i := i) hmbz hslot hbad
    refine ⟨_, exec_contributionRecord port halive (takeRecord_refused hsettled hroom hne), ?_⟩
    rw [recordRefuse_plain hspoof]
    have hcount := fd_satFd_self s .PRL_SLOT_CNT PRL_SLOT_CNT.REFUSED 0 slot 0 (by decide)
    split
    · exact ⟨rfl, (lastRef_slot _ _ _ (by decide) _ _).trans hcount⟩
    · exact ⟨rfl, hcount⟩
  · refine ⟨_, exec_recordAdded hlive hsettled hqueue, ?_⟩
    have hadd := slotAdd_result (s := s.setSlot slot { s.slot slot with queue := [] }) (n := slot) hzero
    rw [slot_setSlot_self] at hadd
    obtain ⟨hqueue', hstate, hvalue, hflags⟩ := hadd
    rw [recordAdded_last hqueue hexpect]
    exact ⟨hqueue', hstate, hvalue, hflags⟩
  · refine ⟨_, exec_portWrite halive (portWrite_first hsettled hch hport hspan), ?_⟩
    beta_reduce
    rw [slot_setSlot_self]
    exact ⟨rfl, rfl⟩
  · refine ⟨?_, ?_, ?_⟩
    · rw [rg_setRg_slotReg _ _ _ _ (by decide), rg_setRg_self]
    · rw [fd_setRg_self, getF_setF_self _ _ _ (by decide)]
      rfl
    · rw [slot_of_slots (setRg_slots ..), slot_of_slots (setRg_slots ..), slot_setSlot_self]
      exact ⟨rfl, rfl⟩

end Sys2Proof.Machine
end

section
/-! O31: grants of slots, CANCEL and ACK (05 R160 to R165). -/
namespace Sys2Proof.Machine
open Sys2Proof

theorem getF_lt (w : Word) (f : Fld) : getF w f < 2 ^ f.len := Nat.mod_lt _ (Nat.two_pow_pos _)

/-! The registers that answer PRL_GRANT, one for each tag. -/

theorem grest_addr (t : Nat) : RegKind.PRL_GREST.addr 0 t = 0x1400100 + t * 8 := rfl

theorem grest_ne_slotReg {k : RegKind} (hk : k ∈ slotKinds) {t : Nat} (ht : t < 16) (n : Nat) : k.addr 0 n ≠ RegKind.PRL_GREST.addr 0 t := by
  have hbounds := (slotReg_bounds hk (n := n)).1
  rw [grest_addr]
  omega

/-- What an outcome is in the register of its tag (05 R161). -/
def grestWord (status slot epoch : Nat) : Word :=
  setF (setF (setF 0 PRL_GREST.STATUS status) PRL_GREST.SLOT slot) PRL_GREST.EPOCH epoch

theorem getF_grestWord (status slot epoch : Nat) : getF (grestWord status slot epoch) PRL_GREST.STATUS = status % 8 ∧
    getF (grestWord status slot epoch) PRL_GREST.SLOT = slot % 32 := by
  unfold grestWord
  simp (disch := decide) only [getF_setF_disjoint, getF_setF_self]
  exact ⟨rfl, rfl⟩

theorem grantOut_register {q : Waiter} (hdest : q.dest = 0) (s : State) (status slot epoch : Nat) :
    s.grantOut q status slot epoch = s.setRg (grestWord status slot epoch) .PRL_GREST 0 q.tag := by
  rw [State.grantOut, hdest]
  rfl

theorem grantOut_outcome {q : Waiter} (hdest : q.dest = 0) (s : State) (status slot epoch : Nat) :
    (s.grantOut q status slot epoch).fd .PRL_GREST PRL_GREST.STATUS 0 q.tag = status % 8 ∧
      (s.grantOut q status slot epoch).fd .PRL_GREST PRL_GREST.SLOT 0 q.tag = slot % 32 := by
  rw [grantOut_register hdest, fd_setRg_self, fd_setRg_self]
  exact getF_grestWord status slot epoch

theorem fd_grantOut {q : Waiter} (hdest : q.dest = 0) (htag : q.tag < 16) (s : State) (status slot epoch : Nat) {k : RegKind}
    (hk : k ∈ slotKinds) (f : Fld) (n : Nat) : (s.grantOut q status slot epoch).fd k f 0 n = s.fd k f 0 n := by
  rw [grantOut_register hdest, State.fd, rg_setRg_ne _ _ _ _ _ _ _ _ _ _ (grest_ne_slotReg hk htag n), State.fd]

/-! A slot is granted. -/

/-- What a grant leaves in the slot's status (05 R163). -/
theorem grantSlot_status (s : State) (n : Nat) (q : Waiter) : (s.grantSlot n q).slotState n = 1 ∧
    (s.grantSlot n q).slotFd n PRL_SLOT_STAT.EPOCH = wrapInc 8 (s.slotFd n PRL_SLOT_STAT.EPOCH) ∧
    (s.grantSlot n q).slotFd n PRL_SLOT_STAT.OKIND = q.okind % 4 ∧ (s.grantSlot n q).slotFd n PRL_SLOT_STAT.OID = q.oid % 256 ∧
    (s.grantSlot n q).slotFd n PRL_SLOT_STAT.SEC = b2n q.sec := by
  have hepoch : wrapInc 8 (s.slotFd n PRL_SLOT_STAT.EPOCH) % 2 ^ PRL_SLOT_STAT.EPOCH.len = wrapInc 8 (s.slotFd n PRL_SLOT_STAT.EPOCH) :=
    Nat.mod_mod _ _
  have hsec : b2n q.sec % 2 ^ PRL_SLOT_STAT.SEC.len = b2n q.sec := by cases q.sec <;> rfl
  unfold State.grantSlot
  simp (disch := decide) only [State.slotState, State.slotFd, fd_setRg_slotReg, fd_setFd_slotReg, fd_setRg_self, getF_setF_self,
    getF_setF_disjoint, fd_of_regs (setSlot_regs ..)]
  exact ⟨rfl, hepoch, rfl, rfl, hsec⟩

/-- Its lease and its count (05 R163, R165). -/
theorem grantSlot_lease (s : State) (n : Nat) (q : Waiter) : (s.grantSlot n q).fd .PRL_SLOT_CNT PRL_SLOT_CNT.COUNT 0 n = 0 ∧
    (s.grantSlot n q).fd .PRL_SLOT_LEASE PRL_SLOT_LEASE.EXPF 0 n = (s.frameNo + q.lease) % 2 ^ 48 := by
  unfold State.grantSlot
  simp (disch := decide) only [fd_setRg_slotReg, fd_setFd_self, fd_setRg_self, getF_setF_disjoint, fd_of_regs (setSlot_regs ..)]
  exact ⟨rfl, Nat.mod_mod _ _⟩

theorem grantFrom_some {s : State} {free : List Nat} {q : Waiter} {n : Nat} (h : free.find? (fun n => s.slotState n == 0) = some n) :
    s.grantFrom free q = some ((s.grantSlot n q).grantOut q 2 n ((s.grantSlot n q).slotFd n PRL_SLOT_STAT.EPOCH)) := by
  rw [State.grantFrom, h]

theorem grantFrom_none {s : State} {free : List Nat} {q : Waiter} (h : free.find? (fun n => s.slotState n == 0) = none) :
    s.grantFrom free q = none := by
  rw [State.grantFrom, h]

/-- The grant of a slot whose outcome goes to PRL_GREST, in the state it ends in. -/
structure Granted (s t : State) (n : Nat) (q : Waiter) : Prop where
  opened : t.slotState n = 1
  epoch : t.slotFd n PRL_SLOT_STAT.EPOCH = wrapInc 8 (s.slotFd n PRL_SLOT_STAT.EPOCH)
  okind : t.slotFd n PRL_SLOT_STAT.OKIND = q.okind % 4
  oid : t.slotFd n PRL_SLOT_STAT.OID = q.oid % 256
  sec : t.slotFd n PRL_SLOT_STAT.SEC = b2n q.sec
  count : t.fd .PRL_SLOT_CNT PRL_SLOT_CNT.COUNT 0 n = 0
  lease : t.fd .PRL_SLOT_LEASE PRL_SLOT_LEASE.EXPF 0 n = (s.frameNo + q.lease) % 2 ^ 48
  outcome : t.fd .PRL_GREST PRL_GREST.STATUS 0 q.tag = 2
  named : t.fd .PRL_GREST PRL_GREST.SLOT 0 q.tag = n % 32

theorem granted_grantOut {q : Waiter} (hdest : q.dest = 0) (htag : q.tag < 16) (s : State) (n epoch : Nat) :
    Granted s ((s.grantSlot n q).grantOut q 2 n epoch) n q := by
  have hkeep {k : RegKind} (hk : k ∈ slotKinds) (f : Fld) := fd_grantOut hdest htag (s.grantSlot n q) 2 n epoch hk f n
  obtain ⟨hopen, hepoch, hkind, hoid, hsec⟩ := grantSlot_status s n q
  obtain ⟨hcount, hlease⟩ := grantSlot_lease s n q
  obtain ⟨hstatus, hslot⟩ := grantOut_outcome hdest (s.grantSlot n q) 2 n epoch
  exact ⟨(hkeep (by decide) _).trans hopen, (hkeep (by decide) _).trans hepoch, (hkeep (by decide) _).trans hkind,
    (hkeep (by decide) _).trans hoid, (hkeep (by decide) _).trans hsec, (hkeep (by decide) _).trans hcount,
    (hkeep (by decide) _).trans hlease, hstatus, hslot⟩

/-! The outcomes of a request, in the order of R161. -/

section
variable {s : State} {q : Waiter} (hsettled : s.settled)
include hsettled

theorem grantRequest_disabled (hen : s.fb .PRL_CTL PRL_CTL.EN = false) (wait : Bool) : s.grantRequest q wait = s.grantOut q 6 0 0 := by
  unfold State.grantRequest
  dsimp only
  rw [poolSync_settled hsettled, hen]
  rfl

theorem grantRequest_badArgs (hen : s.fb .PRL_CTL PRL_CTL.EN = true) (hargs : grantArgsOk q = false) (wait : Bool) :
    s.grantRequest q wait = s.grantOut q 5 0 0 := by
  unfold State.grantRequest
  dsimp only
  rw [poolSync_settled hsettled, hen, hargs]
  rfl

/-- Past the checks of enabling, arguments and quota, with nobody waiting. -/
theorem grantRequest_checked (hen : s.fb .PRL_CTL PRL_CTL.EN = true) (hargs : grantArgsOk q = true)
    (hquota : s.prlHolding q.okind q.oid < s.prlQuota q.okind q.oid) (hnobody : s.waitq = []) (wait : Bool) :
    s.grantRequest q wait = match s.grantFrom (List.range 32) q with
      | some t => t
      | none => if wait then { s.grantOut q 1 0 0 with waitq := [q] } else s.grantOut q 3 0 0 := by
  unfold State.grantRequest
  dsimp only
  rw [poolSync_settled hsettled, hen, hargs, Bool.not_true, if_neg Bool.false_ne_true, if_neg Bool.false_ne_true,
    if_neg (Nat.not_le.mpr hquota), hnobody]
  cases s.grantFrom (List.range 32) q <;> cases wait <;> rfl

end

/-- The request that a write of PRL_GRANT makes (05 R160). -/
def grantOf (i : Init) (w : Word) : Waiter :=
  ⟨if getF w PRL_GRANT.OKIND = 1 then 1 else 0, getF w PRL_GRANT.OID, getF w PRL_GRANT.LEASE, getF w PRL_GRANT.EXPECT, i.sec, 0,
    getF w PRL_GRANT.TAG⟩

theorem exec_prlGrant {s : State} {i : Init} {w : Word} (halive : s.alive = true) (hsettled : s.settled)
    (hidle : s.fd .PRL_GREST PRL_GREST.STATUS 0 (getF w PRL_GRANT.TAG) ≠ 1) :
    exec (.prlGrant i w) s = .next (s.grantRequest (grantOf i w) (getF w PRL_GRANT.WAIT == 1)) := by
  have hexec : exec (.prlGrant i w) s = .next (s.prlGrantWrite i w) := if_pos halive
  rw [hexec]
  unfold State.prlGrantWrite
  dsimp only
  rw [poolSync_settled hsettled, if_neg hidle]
  rfl

theorem exec_prlGrant_waiting {s : State} {i : Init} {w : Word} (halive : s.alive = true) (hsettled : s.settled)
    (hwaiting : s.fd .PRL_GREST PRL_GREST.STATUS 0 (getF w PRL_GRANT.TAG) = 1) :
    exec (.prlGrant i w) s = .next (s.setFd .PRL_STATUS PRL_STATUS.GERR 1) := by
  have hexec : exec (.prlGrant i w) s = .next (s.prlGrantWrite i w) := if_pos halive
  rw [hexec]
  unfold State.prlGrantWrite
  dsimp only
  rw [poolSync_settled hsettled, if_pos hwaiting]

theorem exec_grantCancel {s : State} {tag : Fin 16} (halive : s.alive = true) (hsettled : s.settled)
    (hwaiting : s.fd .PRL_GREST PRL_GREST.STATUS 0 tag = 1) :
    exec (.grantCancel tag) s = .next { s.setFd .PRL_GREST PRL_GREST.STATUS 3 0 tag with
      waitq := s.waitq.filter (fun q => !(q.dest == 0 && q.tag == tag.val)) } := by
  have hexec : exec (.grantCancel tag) s = .next (s.poolSync.grantCancel tag) := if_pos halive
  rw [hexec, poolSync_settled hsettled, State.grantCancel, if_pos hwaiting]

theorem exec_grantAck {s : State} {tag : Fin 16} (halive : s.alive = true) (hsettled : s.settled) :
    exec (.grantAck tag) s = .next (s.grantAck tag) := by
  have hexec : exec (.grantAck tag) s = .next (s.poolSync.grantAck tag) := if_pos halive
  rw [hexec, poolSync_settled hsettled]

/-- Settles O31, outcome by outcome. -/
theorem poolGrants : Obligations.PoolGrants := by
  unfold Obligations.PoolGrants
  refine ⟨fun i w s halive hsettled hidle => ⟨fun hen => ?_, fun hen hlease => ?_, fun hen hlease hkind hoid hquota => ?_⟩,
    fun i w s halive hsettled hwaiting => ?_, fun tag s halive hsettled hwaiting => ?_,
    fun tag s halive hsettled => ⟨fun hidle => ?_, fun hwaiting => ?_⟩⟩
  · refine ⟨_, exec_prlGrant halive hsettled hidle, ?_⟩
    rw [grantRequest_disabled hsettled hen]
    exact ⟨(grantOut_outcome (q := grantOf i w) rfl s 6 0 0).1, rfl, rfl⟩
  · refine ⟨_, exec_prlGrant halive hsettled hidle, ?_⟩
    have hargs : grantArgsOk (grantOf i w) = false := by
      simp [grantArgsOk, grantOf, hlease]
    rw [grantRequest_badArgs hsettled hen hargs]
    exact ⟨(grantOut_outcome (q := grantOf i w) rfl s 5 0 0).1, rfl, rfl⟩
  · have hokind : (grantOf i w).okind = 1 := if_pos hkind
    have hargs : grantArgsOk (grantOf i w) = true := by
      simp [grantArgsOk, grantOf, hlease, hkind, hoid]
    have hexec := exec_prlGrant (i := i) halive hsettled hidle
    refine ⟨fun n hn hfree hlowest hnobody => ?_, fun hnone hnobody => ?_⟩
    · rw [grantRequest_checked hsettled hen hargs (by rw [hokind]; exact hquota) hnobody, grantFrom_some (n := n) (by
        rw [List.find?_range_eq_some]
        exact ⟨by simp [hfree], List.mem_range.mpr hn, fun k hk => by simp [hlowest k hk]⟩)] at hexec
      obtain ⟨hopen, hepoch, hkind', hoid', hsec, hcount, hlease', hstatus, hslot⟩ := granted_grantOut (q := grantOf i w) rfl
        (getF_lt w PRL_GRANT.TAG) s n ((s.grantSlot n (grantOf i w)).slotFd n PRL_SLOT_STAT.EPOCH)
      exact ⟨_, hexec, hopen, hepoch, hkind'.trans (by rw [hokind]), hoid'.trans (Nat.mod_eq_of_lt (getF_lt w PRL_GRANT.OID)), hsec, hcount,
        hlease', hstatus, hslot.trans (Nat.mod_eq_of_lt hn)⟩
    · rw [grantRequest_checked hsettled hen hargs (by rw [hokind]; exact hquota) hnobody, grantFrom_none (by
        rw [List.find?_range_eq_none]
        exact fun k hk => by simp [hnone k hk])] at hexec
      refine ⟨_, hexec, ?_⟩
      have hwait : getF w PRL_GRANT.WAIT = 0 ∨ getF w PRL_GRANT.WAIT = 1 := Nat.le_one_iff_eq_zero_or_eq_one.mp
        (Nat.le_of_lt_succ (getF_lt w PRL_GRANT.WAIT))
      rcases hwait with h0 | h1
      · rw [h0]
        exact ⟨rfl, (grantOut_outcome (q := grantOf i w) rfl s 3 0 0).1, congrArg List.length hnobody⟩
      · rw [h1]
        exact ⟨rfl, (grantOut_outcome (q := grantOf i w) rfl s 1 0 0).1, rfl⟩
  · refine ⟨_, exec_prlGrant_waiting halive hsettled hwaiting, ?_, rfl⟩
    rw [State.fb, fd_setFd_self _ _ _ _ _ _ _ (by decide)]
    rfl
  · refine ⟨_, exec_grantCancel halive hsettled hwaiting, fd_setFd_self s _ PRL_GREST.STATUS 3 _ _ _ (by decide), fun q => ?_⟩
    simp [imp_iff_not_or]
  · refine ⟨_, exec_grantAck halive hsettled, ?_⟩
    rw [State.grantAck, if_neg hidle]
    exact fd_setFd_self s _ PRL_GREST.STATUS 0 _ _ _ (by decide)
  · rw [exec_grantAck halive hsettled, State.grantAck, if_pos hwaiting]

end Sys2Proof.Machine
end

section
/-! The registers that memory, the caches and the homes write as they serve a write (10 R281, 11 R301 to R313, 16 R426), and what that
leaves: the pool, the gates of the power domains, and the system cache's lines in other sets. -/
namespace Sys2Proof.Machine
open Sys2Proof

/-! Places. -/

/-- The counters of a home, its system-cache slice and its channel, and the registers of memory's errors. -/
def workKinds : List RegKind := [.COH_CNT, .MSC_CNT, .MSC_ECNT, .MEM_ECCCNT, .MEM_ELAST, .MEM_INJ]

/-- What a home asks of its slice and its channel before it serves. -/
def serveKinds : List RegKind := [.MSC_CTL, .MEM_STATUS, .MEM_CFG]

/-- A register that serving a write may change: a counter of one of the sixteen homes, or any register from the pair's block on. -/
def workReg (a : Nat) : Prop := 0x1800000 ≤ a ∨ ∃ k ∈ workKinds, ∃ h < 16, a = k.addr h

theorem homeOf_lt (line : Nat) : homeOf line < 16 := by
  refine List.foldlRecOn (motive := fun h => h < 16) _ _ (by decide) (fun h hh i _ => ?_)
  exact Nat.xor_lt_two_pow (n := 4) hh (Nat.mod_lt _ (by decide))

/-- Blocks that stand once for every home: the block and the place in it. -/
theorem homeReg_place {k : RegKind} (hk : k ∈ workKinds ++ serveKinds) {h : Nat} (hh : h < 16) :
    k.addr h / 0x100000 = k.addr / 0x100000 ∧ k.addr h % 0x10000 = k.addr % 0x10000 := by
  have hplace : ∀ k ∈ workKinds ++ serveKinds, ∀ h : Fin 16,
      k.addr h / 0x100000 = k.addr / 0x100000 ∧ k.addr h % 0x10000 = k.addr % 0x10000 := by decide
  exact hplace k hk ⟨h, hh⟩

theorem homeReg_lt {k : RegKind} (hk : k ∈ workKinds ++ serveKinds) {h : Nat} (hh : h < 16) : k.addr h < 0x1000000 := by
  have hlow : ∀ k ∈ workKinds ++ serveKinds, k.addr / 0x100000 < 16 := by decide
  have := hlow k hk
  have := (homeReg_place hk hh).1
  omega

theorem not_workReg_slotReg {k : RegKind} (hk : k ∈ slotKinds) {n : Nat} (hn : n < 32) : ¬ workReg (k.addr 0 n) := by
  obtain ⟨hlow, hhigh⟩ := slotReg_bounds hk (n := n)
  rintro (hpair | ⟨k2, hk2, h, hh, heq⟩)
  · have := hhigh hn
    omega
  · have := homeReg_lt (List.mem_append_left serveKinds hk2) hh
    omega

theorem not_workReg_serve {k : RegKind} (hk : k ∈ serveKinds) {h : Nat} (hh : h < 16) : ¬ workReg (k.addr h) := by
  have hapart : ∀ k2 ∈ workKinds, ∀ k ∈ serveKinds, k2.addr / 0x100000 ≠ k.addr / 0x100000 ∨ k2.addr % 0x10000 ≠ k.addr % 0x10000 := by
    decide
  have hmem := List.mem_append_right workKinds hk
  obtain ⟨hblock, hoff⟩ := homeReg_place hmem hh
  rintro (hpair | ⟨k2, hk2, h2, hh2, heq⟩)
  · have := homeReg_lt hmem hh
    omega
  · obtain ⟨hblock2, hoff2⟩ := homeReg_place (List.mem_append_left serveKinds hk2) hh2
    rcases hapart k2 hk2 k hk with hne | hne
    · exact hne (by rw [← hblock2, ← heq, hblock])
    · exact hne (by rw [← hoff2, ← heq, hoff])

/-! The gates of the power domains (18 R467). -/

/-- An address outside the votes and the gates of the domains. -/
def offGates (a : Nat) : Prop := a < 0x1E08000 ∨ 0x1E0A828 ≤ a

theorem gateReg_addr (d : Nat) : RegKind.PWR_GATE.addr 0 d = 0x1E0A000 + d * 8 := rfl

theorem mem_of_kfind {α : Type} {k : Nat} {v : α} {l : List (Nat × α)} (h : kfind k l = some v) : (k, v) ∈ l := by
  induction l with
  | nil => exact absurd h nofun
  | cons e l ih =>
    obtain ⟨a, w⟩ := e
    rw [kfind] at h
    split at h
    · rename_i ha
      obtain rfl := ha
      obtain rfl := Option.some.inj h
      exact List.mem_cons_self
    · exact List.mem_cons_of_mem _ (ih h)

/-- A pair that answers a question as the one it replaces did, or that answers no, changes nothing of whether any pair answers yes. -/
theorem any_kinsert {α : Type} {p : Nat × α → Bool} {k : Nat} {v : α} {l : List (Nat × α)}
    (hsome : ∀ w, kfind k l = some w → p (k, v) = p (k, w)) (hnone : kfind k l = none → p (k, v) = false) :
    (kinsert k v l).any p = l.any p := by
  induction l with
  | nil => simp [kinsert, hnone rfl]
  | cons e l ih =>
    obtain ⟨a, w⟩ := e
    by_cases ha : a = k
    · subst ha
      have hsame := hsome w (if_pos rfl)
      simp [kinsert, hsame]
    · have hfind : kfind k ((a, w) :: l) = kfind k l := if_neg ha
      rw [hfind] at hsome hnone
      by_cases hlt : k < a
      · rw [kinsert, if_neg ha, if_pos hlt, List.any_cons]
        cases hp : p (k, v) with
        | false => rfl
        | true =>
          cases hl : kfind k l with
          | none => exact absurd (hp.symm.trans (hnone hl)) nofun
          | some u =>
            have hyes : ((a, w) :: l).any p = true :=
              List.any_eq_true.mpr ⟨(k, u), List.mem_cons_of_mem _ (mem_of_kfind hl), (hsome u hl).symm.trans hp⟩
            rw [hyes]
            rfl
      · rw [kinsert, if_neg ha, if_neg hlt, List.any_cons, List.any_cons, ih hsome hnone]

/-- A write outside the votes and the gates leaves every gate as it is. -/
theorem gateClosed_setRg {s : State} {w : Word} {k : RegKind} {x i j : Nat} (h : offGates (k.addr x i j)) {d : Nat} (hd : d < 261) :
    (s.setRg w k x i j).gateClosed d = s.gateClosed d := by
  have hne : RegKind.PWR_GATE.addr 0 d ≠ k.addr x i j := by
    rw [gateReg_addr]
    unfold offGates at h
    omega
  have hvotes : (decide (0x1E08000 ≤ k.addr x i j) && decide (k.addr x i j < 0x1E0A000)) = false := by
    unfold offGates at h
    rw [Bool.and_eq_false_iff, decide_eq_false_iff_not, decide_eq_false_iff_not]
    omega
  have hblocked : (s.setRg w k x i j).gateBlocked d = s.gateBlocked d := by
    unfold State.gateBlocked
    refine any_kinsert (fun u _ => ?_) (fun _ => ?_)
    · simp only [hvotes, Bool.false_and]
    · simp only [hvotes, Bool.false_and]
  rw [State.gateClosed, State.gateClosed, State.fb, State.fb, State.fd, State.fd, hblocked, rg_setRg_ne s w k .PWR_GATE x i j 0 d 0 hne]

/-- The count of copies before overwrites, in the upper bits of a register, is no vote and no gate, wherever it stands. -/
theorem gateClosed_cobw (s : State) (n d : Nat) : (s.satFd .PAIR_MP_CNT PAIR_MP_CNT.COBW 0 n).gateClosed d = s.gateClosed d := by
  have hlow (w : Word) (v : Nat) {f : Fld} (hf : f.lo + f.len ≤ 48) : getF (setF w PAIR_MP_CNT.COBW v) f = getF w f :=
    getF_setF_disjoint w PAIR_MP_CNT.COBW f v (.inr hf) (by omega)
  have hreset : RegKind.PAIR_MP_CNT.resetAt n = 0 := by
    have : RegKind.PAIR_MP_CNT.resetWord = 0 := by decide
    exact this
  have hgate : RegKind.PWR_GATE.resetAt d = 0 := by
    have : RegKind.PWR_GATE.resetWord = 0 := by decide
    exact this
  have hblocked : (s.satFd .PAIR_MP_CNT PAIR_MP_CNT.COBW 0 n).gateBlocked d = s.gateBlocked d := by
    unfold State.gateBlocked
    refine any_kinsert (fun u hu => ?_) (fun hu => ?_)
    · have hrg : s.rg .PAIR_MP_CNT 0 n = u := by rw [State.rg, KMap.getD, KMap.get?, hu]
      simp (disch := decide) only [hrg, hlow]
    · have hrg : s.rg .PAIR_MP_CNT 0 n = 0 := by rw [State.rg, KMap.getD, KMap.get?, hu, hreset]
      have hzero : getF 0 PWR_VOTE.V = 0 := rfl
      simp (disch := decide) only [hrg, hlow, hzero]
      simp
  have hoff : (s.satFd .PAIR_MP_CNT PAIR_MP_CNT.COBW 0 n).fb .PWR_GATE PWR_GATE.OFF 0 d = s.fb .PWR_GATE PWR_GATE.OFF 0 d := by
    rw [State.fb, State.fb, State.fd, State.fd]
    by_cases haddr : RegKind.PWR_GATE.addr 0 d = RegKind.PAIR_MP_CNT.addr 0 n
    · have hsame (t : State) : t.rg .PWR_GATE 0 d = t.rg .PAIR_MP_CNT 0 n := by
        rw [State.rg, State.rg, haddr, hreset, hgate]
      rw [hsame, hsame, State.satFd, State.setFd, rg_setRg_self, hlow _ _ (by decide)]
    · rw [State.satFd, rg_setFd_ne s _ _ _ _ _ _ _ _ _ _ haddr]
  rw [State.gateClosed, State.gateClosed, hblocked, hoff]

/-! The frame. -/

/-- Two lines lie in the same set of the same slice of the system cache (11 R313). -/
def sameSet (l line : Nat) : Prop := homeOf l = homeOf line ∧ mscSet l = mscSet line

/-- What serving a write of a line leaves. -/
structure Serves (line : Nat) (s t : State) : Prop where
  slots : t.slots = s.slots
  edge : t.poolEdge = s.poolEdge
  regs : ∀ a, ¬ workReg a → t.regs.get? a = s.regs.get? a
  gates : ∀ d, d < 261 → t.gateClosed d = s.gateClosed d
  msc : ∀ l, ¬ sameSet l line → t.msc.get? l = s.msc.get? l

section
variable {line : Nat} {s t u : State}

theorem Serves.refl (s : State) : Serves line s s := ⟨rfl, rfl, fun _ _ => rfl, fun _ _ => rfl, fun _ _ => rfl⟩

theorem Serves.trans (h1 : Serves line s t) (h2 : Serves line t u) : Serves line s u where
  slots := h2.slots.trans h1.slots
  edge := h2.edge.trans h1.edge
  regs a ha := (h2.regs a ha).trans (h1.regs a ha)
  gates d hd := (h2.gates d hd).trans (h1.gates d hd)
  msc l hl := (h2.msc l hl).trans (h1.msc l hl)

/-- A step that touches neither registers nor owners nor the pool, and the system cache in the line's set alone. -/
theorem serves_of_msc (hregs : t.regs = s.regs) (howners : t.owners = s.owners) (hslots : t.slots = s.slots) (hedge : t.poolEdge = s.poolEdge)
    (hmsc : ∀ l, ¬ sameSet l line → t.msc.get? l = s.msc.get? l) : Serves line s t where
  slots := hslots
  edge := hedge
  regs _ _ := by rw [hregs]
  gates _ _ := by rw [State.gateClosed, State.gateClosed, State.gateBlocked, State.gateBlocked, State.fb, State.fb, fd_of_regs hregs, hregs, howners]
  msc := hmsc

theorem serves_of_same (hregs : t.regs = s.regs) (howners : t.owners = s.owners) (hslots : t.slots = s.slots) (hedge : t.poolEdge = s.poolEdge)
    (hmsc : t.msc = s.msc) : Serves line s t := serves_of_msc hregs howners hslots hedge (fun _ _ => by rw [hmsc])

theorem serves_setRg {w : Word} {k : RegKind} {x i j : Nat} (hwork : workReg (k.addr x i j)) (hgate : offGates (k.addr x i j)) :
    Serves line s (s.setRg w k x i j) where
  slots := rfl
  edge := rfl
  regs _ ha := KMap.get?_set_ne _ _ (fun heq => ha (heq ▸ hwork))
  gates _ hd := gateClosed_setRg hgate hd
  msc _ _ := rfl

theorem serves_home {w : Word} {k : RegKind} (hk : k ∈ workKinds) {h : Nat} (hh : h < 16) : Serves line s (s.setRg w k h) :=
  serves_setRg (.inr ⟨k, hk, h, hh, rfl⟩) (.inl (Nat.lt_trans (homeReg_lt (List.mem_append_left serveKinds hk) hh) (by decide)))

theorem serves_errReg {w : Word} {k : RegKind} {x i : Nat} (h : inErrorBlock (k.addr x i)) : Serves line s (s.setRg w k x i) := by
  refine serves_setRg ?_ ?_
  · unfold workReg
    unfold inErrorBlock at h
    omega
  · unfold offGates
    unfold inErrorBlock at h
    omega

theorem serves_cobw (s : State) (n : Nat) : Serves line s (s.satFd .PAIR_MP_CNT PAIR_MP_CNT.COBW 0 n) where
  slots := rfl
  edge := rfl
  regs a ha := KMap.get?_set_ne _ _ (fun heq => ha (.inl (by
    rw [heq, show RegKind.PAIR_MP_CNT.addr 0 n = 0x1801058 + n * 128 from rfl]
    omega)))
  gates d _ := gateClosed_cobw s n d
  msc _ _ := rfl

theorem serves_foldl {α : Type} {f : State → α → State} (h : ∀ s a, Serves line s (f s a)) (l : List α) (s : State) :
    Serves line s (l.foldl f s) :=
  List.foldlRecOn (motive := fun t => Serves line s t) l f (Serves.refl s) (fun t ht a _ => ht.trans (h t a))

theorem serves_foldl_read {α : Type} {f : LineRead → α → LineRead} (h : ∀ r a, Serves line r.s (f r a).s) (l : List α) (r : LineRead) :
    Serves line r.s (l.foldl f r).s :=
  List.foldlRecOn (motive := fun t => Serves line r.s t.s) l f (Serves.refl r.s) (fun t ht a _ => ht.trans (h t a))

theorem serves_ite {p : Prop} [Decidable p] (h1 : Serves line s t) (h2 : Serves line s u) : Serves line s (if p then t else u) := by
  split
  · exact h1
  · exact h2

theorem serves_iteSnd {α : Type} {p : Prop} [Decidable p] {a b : α × State} (h1 : Serves line s a.2) (h2 : Serves line s b.2) :
    Serves line s (if p then a else b).2 := by
  split
  · exact h1
  · exact h2

theorem serves_iteRead {p : Prop} [Decidable p] {a b : LineRead} (h1 : Serves line s a.s) (h2 : Serves line s b.s) :
    Serves line s (if p then a else b).s := by
  split
  · exact h1
  · exact h2

theorem serves_expose (s : State) (key : Nat) : Serves line s (s.expose key) := serves_of_same rfl rfl rfl rfl rfl
theorem serves_drawNat (s : State) : Serves line s s.drawNat.2 := serves_of_same rfl rfl rfl rfl rfl
theorem serves_setChan (s : State) (h : Nat) (v : Chan) : Serves line s (s.setChan h v) := serves_of_same rfl rfl rfl rfl rfl
theorem serves_setHome (s : State) (h : Nat) (v : Home) : Serves line s (s.setHome h v) := serves_of_same rfl rfl rfl rfl rfl
theorem serves_setDie (s : State) (d : Nat) (v : Die) : Serves line s (s.setDie d v) := serves_of_same rfl rfl rfl rfl rfl
theorem serves_setMirror (s : State) (n : Nat) (v : Mirror) : Serves line s (s.setMirror n v) := serves_of_same rfl rfl rfl rfl rfl
theorem serves_modCore (s : State) (n : Nat) (f : Core → Core) : Serves line s (s.modCore n f) := serves_of_same rfl rfl rfl rfl rfl

end

end Sys2Proof.Machine
end

section
/-! Memory at work: channels, the system cache, error records and the pair's copies serve a write of a line of DRAM (11 R301 to R313,
16 R426, R427). -/
namespace Sys2Proof.Machine
open Sys2Proof

variable {line : Nat}

/-! Error records (20 R499, R508). -/

theorem serves_writeRec (s : State) (e : ErrEvent) (ovf : Nat) : Serves line s (s.writeRec e ovf) := by
  have hbank : ∀ k ∈ bankKinds, inErrorBlock (k.addr (bankLoc e.bank).1 (bankLoc e.bank).2) :=
    fun k hk => bankReg_inErrorBlock hk _ (bankLoc_lt e.bank)
  have hlog : ∀ (t : State) (err : Err), Serves line t { t with err := err } := fun t _ => serves_of_same rfl rfl rfl rfl rfl
  unfold State.writeRec
  exact (serves_errReg (hbank .ERB_REC (by decide))).trans ((serves_errReg (hbank .ERB_ADDR (by decide))).trans
    ((serves_errReg (hbank .ERB_MISC (by decide))).trans ((serves_errReg (hbank .ERB_TIME (by decide))).trans (hlog _ _))))

theorem serves_bumpOvf (s : State) (x : Nat) {b : Nat} (hb : b < 0x100) : Serves line s (s.bumpOvf x b) := by
  have hrec : Serves line s (s.satFd .ERB_REC ERB_REC.OVF x b) := serves_errReg (bankReg_inErrorBlock (by decide) x hb)
  exact serves_ite (hrec.trans (serves_errReg (bankReg_inErrorBlock (by decide) x hb))) hrec

theorem serves_stopTrigger (s : State) (cause bank : Nat) : Serves line s (s.stopTrigger cause bank) := by
  obtain ⟨hstop, htime⟩ := stopReg_inErrorBlock
  have hhalt : ∀ (t : State) (err : Err), Serves line t { t with err := err } := fun t _ => serves_of_same rfl rfl rfl rfl rfl
  refine serves_ite (serves_errReg hstop) ?_
  exact (serves_errReg hstop).trans ((serves_errReg hstop).trans ((serves_errReg hstop).trans ((serves_errReg hstop).trans
    ((serves_errReg htime).trans (hhalt _ _)))))

theorem serves_recordErr (s : State) (e : ErrEvent) : Serves line s (s.recordErr e) := by
  refine serves_ite (serves_errReg stopReg_inErrorBlock.1) (serves_ite ?_ (serves_ite (serves_bumpOvf s _ (bankLoc_lt e.bank))
    (serves_ite ?_ (serves_ite (serves_stopTrigger ..) (serves_stopTrigger ..)))))
  · exact serves_ite ((serves_writeRec ..).trans (serves_stopTrigger ..)) (serves_writeRec ..)
  · exact serves_ite ((serves_writeRec ..).trans (serves_stopTrigger ..)) (serves_writeRec ..)

/-! Channels. -/

section
variable {h : Nat} (hh : h < 16)
include hh

theorem serves_chanPut (s : State) (wa : Nat) (c : ChWord) : Serves line s (s.chanPut h wa c) := by
  have hput : ∀ (t : State) (d : ChWord), Serves line t (t.putRaw wa d) := fun t d => serves_of_same rfl rfl rfl rfl rfl
  exact serves_ite ((serves_home (k := .MEM_INJ) (by decide) hh).trans (hput _ _)) (hput s c)

theorem serves_countCls (s : State) (cls : Nat) : Serves line s (s.countCls h cls) := by
  have hcount : ∀ f : Fld, Serves line s (s.satFd .MEM_ECCCNT f h) := fun f => serves_home (by decide) hh
  unfold State.countCls
  split
  · exact hcount _
  · exact hcount _
  · exact hcount _
  · exact hcount _
  · exact .refl s

theorem serves_noteRead (s : State) (x k : Nat) (e : EccOut) : Serves line s (s.noteRead h x k e) :=
  serves_ite ((serves_countCls hh s e.cls).trans ((serves_home (k := .MEM_ELAST) (by decide) hh).trans (serves_recordErr ..)))
    (serves_countCls hh s e.cls)

theorem serves_readWordInto {x : Nat} {fix : State → Nat → EccOut → State} (hfix : ∀ s k e, Serves line s (fix s k e)) (a : LineRead) (k : Nat) :
    Serves line a.s (readWordInto h x fix a k).s :=
  serves_ite ((serves_noteRead hh ..).trans (hfix ..)) (serves_noteRead hh ..)

theorem serves_putLine (s : State) (x : Nat) (d : LineData) (p : BitVec 16) : Serves line s (s.putLine h x d p) :=
  serves_foldl (fun t _ => serves_chanPut hh t ..) _ s

theorem serves_retire (s : State) (e : MergeEntry) : Serves line s (s.retire h e) := by
  refine serves_ite ((serves_setChan ..).trans (serves_putLine hh ..)) ?_
  exact (serves_setChan ..).trans ((serves_foldl_read (serves_readWordInto hh (fun t _ _ => .refl t)) _ ⟨s.setChan h _, 0, 0, false⟩).trans
    (serves_putLine hh ..))

/-- The retirement of the oldest entry, if there is one. -/
theorem serves_retireOldest (s : State) : Serves line s (match (s.chan h).mbuf with | e :: _ => s.retire h e | [] => s) := by
  split
  · exact serves_retire hh ..
  · exact .refl s

theorem serves_retireDue (s : State) (x : Nat) : Serves line s (s.retireDue h x) := by
  have hfull : Serves line s (match s.mergeOf h x with
      | some e => if e.mask = BitVec.allOnes 128 then s.retire h e else s
      | none => s) := by
    split
    · exact serves_ite (serves_retire hh ..) (.refl s)
    · exact .refl s
  exact serves_ite (hfull.trans (serves_retireOldest hh _)) hfull

theorem serves_mbufRoom (s : State) (x : Nat) : Serves line s (s.mbufRoom h x) := serves_ite (.refl s) (serves_retireOldest hh s)

theorem serves_mergeInto (s : State) (x : Nat) (mask : BitVec 128) (d : LineData) (p : BitVec 16) : Serves line s (s.mergeInto h x mask d p) := by
  refine (serves_mbufRoom hh s x).trans ?_
  unfold State.mergeInto
  dsimp only
  split
  · exact serves_setChan ..
  · exact serves_setChan ..

theorem serves_chanWrite (s : State) (x : Nat) (mask : BitVec 128) (d : LineData) (p : BitVec 16) : Serves line s (s.chanWrite h x mask d p) :=
  (serves_mergeInto hh ..).trans (serves_retireDue hh ..)

theorem serves_rewriteWord (s : State) (x k : Nat) (e : EccOut) : Serves line s (s.rewriteWord h x k e) :=
  serves_ite (.refl s) (serves_chanWrite hh ..)

theorem serves_chanRead (s : State) (x : Nat) : Serves line s (s.chanRead h x).s := by
  unfold State.chanRead
  dsimp only
  split
  · exact serves_foldl_read (serves_readWordInto hh (fun t k e => serves_rewriteWord hh t x k e)) _ ⟨s, 0, 0, false⟩
  · exact serves_foldl_read (serves_readWordInto hh (fun t k e => serves_rewriteWord hh t x k e)) _ ⟨s, 0, 0, false⟩

theorem serves_mscEvent (s : State) {f : Fld} (x : Nat) : Serves line s (s.mscEvent f h x) :=
  (serves_home (k := .MSC_ECNT) (by decide) hh).trans ((serves_drawNat _).trans (serves_recordErr ..))

end

/-! The system cache: what happens in the set of a line. -/

theorem ne_of_not_sameSet {l line : Nat} (h : ¬ sameSet l line) : l ≠ line := fun heq => h (heq ▸ ⟨rfl, rfl⟩)

theorem KMap.get?_keep {α : Type} (m : KMap α) {p : Nat → Bool} {k : Nat} (hk : p k = true) : (m.keep p).get? k = m.get? k :=
  kfind_filter hk m.l

theorem serves_mscSet (s : State) (v : DcLine) : Serves line s { s with msc := s.msc.set line v } :=
  serves_of_msc rfl rfl rfl rfl (fun _ hl => KMap.get?_set_ne _ _ (ne_of_not_sameSet hl))

theorem serves_mscErase (s : State) : Serves line s { s with msc := s.msc.erase line } :=
  serves_of_msc rfl rfl rfl rfl (fun _ hl => KMap.get?_erase_ne _ (ne_of_not_sameSet hl))

/-- A set whose tags are lost loses its lines, and no other does. -/
theorem get?_otherSets {m : KMap DcLine} {l : Nat} (hl : ¬ sameSet l line) :
    (m.keep (fun l => !(homeOf l == homeOf line && mscSet l == mscSet line))).get? l = m.get? l := by
  refine KMap.get?_keep _ ?_
  by_cases hhome : homeOf l = homeOf line
  · have hset : mscSet l ≠ mscSet line := fun hset => hl ⟨hhome, hset⟩
    simp [hset]
  · simp [hhome]

/-- The line that leaves a full set is one of that set, or the new line itself. -/
theorem sameSet_victim (l : List (Nat × DcLine)) (line n : Nat) (v : DcLine) :
    sameSet ((l.filter (fun e => homeOf e.1 == homeOf line && mscSet e.1 == mscSet line)).getD n (line, v)).1 line := by
  generalize hout : l.filter (fun e => homeOf e.1 == homeOf line && mscSet e.1 == mscSet line) = out
  rw [List.getD_eq_getElem?_getD]
  cases hget : out[n]? with
  | none => exact ⟨rfl, rfl⟩
  | some e =>
    have hmem : e ∈ out := List.mem_of_getElem? hget
    rw [← hout, List.mem_filter, Bool.and_eq_true, beq_iff_eq, beq_iff_eq] at hmem
    exact hmem.2

theorem serves_mscPut (s : State) (v : DcLine) : Serves line s (s.mscPut line v) := by
  refine serves_ite (serves_mscSet s v) (serves_ite (serves_mscSet s v) ?_)
  refine (serves_drawNat s).trans (serves_of_msc rfl rfl rfl rfl (fun l hl => ?_))
  rw [KMap.get?_set_ne _ _ (ne_of_not_sameSet hl)]
  refine KMap.get?_erase_ne _ (fun heq => hl ?_)
  rw [heq]
  exact sameSet_victim ..

/-- What the read of an entry of the system cache's arrays has found is counted and recorded. -/
theorem serves_mscFound (s : State) (key : Nat) {m : KMap DcLine} (hm : ∀ l, ¬ sameSet l line → m.get? l = s.msc.get? l) (k : Nat) (f g : Fld) :
    Serves line s (if k = 0 then s.expose key
      else if k = 1 then (s.expose key).mscEvent f (homeOf line) line
      else { s.expose key with msc := m }.mscEvent g (homeOf line) line) := by
  have hcut : Serves line s { s.expose key with msc := m } := serves_of_msc rfl rfl rfl rfl hm
  exact serves_ite (serves_expose ..) (serves_ite ((serves_expose ..).trans (serves_mscEvent (homeOf_lt line) ..))
    (hcut.trans (serves_mscEvent (homeOf_lt line) ..)))

theorem serves_mscCheck (s : State) : Serves line s (s.mscCheck line) := by
  refine serves_ite ?_ (.refl s)
  exact (serves_mscFound s (upKey 10 (homeOf line) (mscSet line)) (fun _ hl => get?_otherSets hl) _ _ _).trans
    (serves_ite (serves_mscFound _ (upKey 9 (homeOf line) line) (fun _ hl => KMap.get?_erase_ne _ (ne_of_not_sameSet hl)) _ _ _) (.refl _))

theorem serves_pairMark (s : State) : Serves line s (s.pairMark line) :=
  serves_foldl (fun t _ => serves_ite (.refl t) (serves_setMirror ..)) _ s

section
variable (hdram : region (line * 128) = .dram)
include hdram

theorem serves_tgtRead (s : State) : Serves line s (s.tgtRead line).s := by
  rw [State.tgtRead, hdram]
  exact serves_chanRead (homeOf_lt line) s line

theorem serves_tgtWrite (s : State) (mask : BitVec 128) (d : LineData) (p : BitVec 16) : Serves line s (s.tgtWrite line mask d p) := by
  rw [State.tgtWrite, hdram]
  exact serves_chanWrite (homeOf_lt line) s line mask d p

theorem serves_memRead (s : State) : Serves line s (s.memRead line).s := by
  refine serves_iteRead ((serves_mscCheck s).trans ?_) (serves_tgtRead hdram s)
  split
  · exact serves_home (k := .MSC_CNT) (by decide) (homeOf_lt line)
  · have hmiss : Serves line (s.mscCheck line) (((s.mscCheck line).satFd .MSC_CNT MSC_CNT.MISS (homeOf line)).tgtRead line).s :=
      (serves_home (k := .MSC_CNT) (by decide) (homeOf_lt line)).trans (serves_tgtRead hdram _)
    exact serves_iteRead hmiss (hmiss.trans (serves_mscPut ..))

/-! The mirror pair's marks and copies. -/

theorem serves_shipOut (s : State) (n : Nat) : Serves line s (s.shipOut n line) :=
  (serves_memRead hdram s).trans (serves_of_same rfl rfl rfl rfl rfl)

theorem serves_pairTouch (s : State) : Serves line s (s.pairTouch line) :=
  (serves_foldl (fun t n => serves_ite ((serves_shipOut hdram t n).trans (serves_cobw _ n)) (.refl t)) _ s).trans (serves_pairMark _)

theorem serves_memWrite (s : State) (whole : Bool) (mask : BitVec 128) (d : LineData) (p : BitVec 16) :
    Serves line s (s.memWrite line whole mask d p) :=
  ((serves_pairTouch hdram s).trans (serves_tgtWrite hdram ..)).trans (serves_ite (serves_mscPut ..) (serves_mscErase _))

end

end Sys2Proof.Machine
end

section
/-! Homes at work: the snoops, the arrays and the RETRY of a request that writes its line (10 R281 to R290). -/
namespace Sys2Proof.Machine
open Sys2Proof

variable {line : Nat}

/-! Reads of the arrays of a die, and snoops at it. -/

theorem serves_arrayEvent (s : State) (bank kind node x way set : Nat) : Serves line s (s.arrayEvent bank kind node x way set) :=
  serves_recordErr ..

theorem serves_cacheCheck (s : State) (tagKey dataKey bank k1 kP node x way set : Nat) (dirty : Bool) :
    Serves line s (s.cacheCheck tagKey dataKey bank k1 kP node x way set dirty).2 := by
  have htag : Serves line s (if s.upsetOf tagKey = 2 then (s.expose tagKey).arrayEvent bank 8 node x way set else s.expose tagKey) :=
    serves_ite ((serves_expose ..).trans (serves_arrayEvent ..)) (serves_expose ..)
  have hdata := htag.trans (serves_expose _ dataKey)
  exact serves_iteSnd hdata (serves_iteSnd (hdata.trans ((serves_drawNat _).trans (serves_arrayEvent ..))) (hdata.trans (serves_arrayEvent ..)))

theorem serves_modCores (f : Core → Core) (l : List Nat) (s : State) : Serves line s (s.modCores l f) :=
  serves_foldl (fun t _ => serves_modCore t ..) l s

theorem serves_l2Check (s : State) (n x : Nat) : Serves line s (s.l2Check n x) := by
  unfold State.l2Check
  split
  · exact .refl s
  · dsimp only
    split
    · exact serves_cacheCheck ..
    · exact (serves_cacheCheck ..).trans (serves_modCore ..)

theorem serves_dcCheck (s : State) (d x : Nat) : Serves line s (s.dcCheck d x) := by
  unfold State.dcCheck
  split
  · exact .refl s
  · dsimp only
    split
    · exact (serves_drawNat s).trans (serves_cacheCheck ..)
    · exact (serves_drawNat s).trans ((serves_cacheCheck ..).trans (serves_setDie ..))

theorem serves_filtCheck (s : State) (d x : Nat) : Serves line s (s.filtCheck d x) :=
  serves_ite (serves_ite (serves_expose ..) ((serves_expose ..).trans ((serves_drawNat _).trans (serves_arrayEvent ..)))) (.refl s)

theorem serves_dieCheck (s : State) (d x : Nat) : Serves line s (s.dieCheck d x) :=
  (serves_filtCheck s d x).trans ((serves_foldl (fun t n => serves_l2Check t n x) _ _).trans (serves_dcCheck ..))

theorem serves_dieDropAll (s : State) (d x : Nat) : Serves line s (s.dieDropAll d x) := (serves_modCores ..).trans (serves_setDie ..)

theorem serves_dieSetAll (s : State) (d x : Nat) (st : CState) : Serves line s (s.dieSetAll d x st) :=
  (serves_modCores ..).trans (serves_setDie ..)

theorem serves_snoopDie (s : State) (kind d x : Nat) : Serves line s (s.snoopDie kind d x).2 := by
  have hchk : Serves line s (s.dieCheck d x) := serves_dieCheck s d x
  unfold State.snoopDie
  generalize s.dieCheck d x = u at hchk ⊢
  dsimp only
  split
  · exact hchk.trans (serves_setDie ..)
  · refine serves_iteSnd hchk ?_
    split
    · exact hchk.trans (serves_dieSetAll ..)
    · exact hchk
    · exact serves_iteSnd (hchk.trans (serves_dieSetAll ..)) hchk
    · exact hchk.trans (serves_dieDropAll ..)

theorem serves_consume (s : State) (p : Msg → Bool) : Serves line s (s.consume p) :=
  serves_of_same (consume_regs ..) (consume_owners ..) (consume_slots ..) (consume_poolEdge ..) (consume_msc ..)

theorem serves_snoopOne {h : Nat} (hh : h < 16) (x : Nat) (bcast : Bool) (a : Collected) (p : Nat × Nat) :
    Serves line a.s (State.snoopOne h x bcast a p).s := by
  have hsnp : Serves line a.s (a.s.snoopDie p.2 p.1 x).2 := serves_snoopDie a.s p.2 p.1 x
  unfold State.snoopOne
  generalize a.s.snoopDie p.2 p.1 x = r at hsnp ⊢
  split
  · split
    · exact .refl _
    · exact serves_recordErr ..
  · exact hsnp.trans (serves_ite ((serves_consume ..).trans ((serves_setDie ..).trans (serves_home (k := .COH_CNT) (by decide) hh))) (.refl _))

theorem serves_snoopAll {h : Nat} (hh : h < 16) (s : State) (x : Nat) (bcast : Bool) (l : List (Nat × Nat)) :
    Serves line s (s.snoopAll h x bcast l).s :=
  List.foldlRecOn (motive := fun a => Serves line s a.s) l _ (.refl s) (fun a ha p _ => ha.trans (serves_snoopOne hh x bcast a p))

/-! The home's own arrays and its reservations. -/

theorem serves_dirDrop (s : State) (h x : Nat) : Serves line s (s.dirDrop h x) := serves_setHome ..
theorem serves_dropRsv (s : State) (h node : Nat) : Serves line s (s.dropRsv h node) := serves_setHome ..

theorem serves_homeCheck (s : State) (h x : Nat) : Serves line s (s.homeCheck h x).2 := by
  have htrk : Serves line s (s.trkCheck h).2 :=
    serves_iteSnd (.refl s) (serves_iteSnd ((serves_expose ..).trans (serves_recordErr ..)) (serves_expose ..))
  have hdir (t : State) : Serves line t (t.dirCheck h x).2 :=
    serves_iteSnd (serves_iteSnd (serves_expose ..) ((serves_expose ..).trans (serves_recordErr ..))) (.refl t)
  exact serves_iteSnd htrk (htrk.trans (hdir _))

section
variable {h : Nat} (hh : h < 16)
include hh

theorem serves_grantRsv (s : State) (v : Rsv) : Serves line s (s.grantRsv h v) :=
  (serves_setHome ..).trans (serves_home (k := .COH_CNT) (by decide) hh)

theorem serves_noteRetry (s : State) (op : Nat) (r : CohReq) (cond : Nat) : Serves line s (s.noteRetry h op r cond).2 :=
  (serves_home (k := .COH_CNT) (by decide) hh).trans (serves_iteSnd (serves_setHome ..) ((serves_setHome ..).trans (serves_expose ..)))

end

/-! A write of bytes of a line: WRF or WRP (10 R281). -/

theorem serves_homeFinish {op : Nat} (hop : op = opWRF ∨ op = opWRP) {r : CohReq} (hdram : region (r.line * 128) = .dram) (s : State) (h : Nat)
    (got : Option (LineData × BitVec 16)) (ans : Nat) : Serves r.line s (s.homeFinish h op r got ans).2 := by
  rcases hop with rfl | rfl
  · exact (serves_memWrite hdram ..).trans (serves_dirDrop ..)
  · cases got with
    | none => exact (serves_memWrite hdram ..).trans (serves_dirDrop ..)
    | some v => exact (serves_memWrite hdram ..).trans (serves_dirDrop ..)

/-- A write of bytes snoops every holder, then is performed. -/
theorem homeServe_write {op : Nat} (hop : op = opWRF ∨ op = opWRP) (s : State) (h : Nat) (r : CohReq) (own : Nat) :
    s.homeServe h op r own = (s.snoopAll h r.line (s.isBcast h r.line) (s.homeSnoops h op r.node r.line)).s.homeFinish h op r
      (s.snoopAll h r.line (s.isBcast h r.line) (s.homeSnoops h op r.node r.line)).got
      (s.snoopAll h r.line (s.isBcast h r.line) (s.homeSnoops h op r.node r.line)).ans := by
  have heff : s.effOp h op r.node r.line = op := by rcases hop with rfl | rfl <;> rfl
  have hvictim : s.dirVictim h op r.line own = none := by rcases hop with rfl | rfl <;> rfl
  have hatom : ¬ ((op = opATOMF ∨ op = opATOMM) ∧ r.aoff % atomSize r.aop ≠ 0) := fun ⟨hc, _⟩ => by
    rcases hop with rfl | rfl <;> exact absurd hc (by decide)
  have hevc : ¬ (op = opEVC ∧ (!(s.isHolder h r.line ((dieOfNode r.node).getD 16))) = true) := fun ⟨hc, _⟩ => by
    rcases hop with rfl | rfl <;> exact absurd hc (by decide)
  have hwb : ¬ ((op = opWB ∨ op = opWBK) ∧ (!(s.isOwner h r.line ((dieOfNode r.node).getD 16))) = true) := fun ⟨hc, _⟩ => by
    rcases hop with rfl | rfl <;> exact absurd hc (by decide)
  unfold State.homeServe
  dsimp only
  rw [heff, hvictim, if_neg hatom, if_neg hevc, if_neg hwb]

section
variable {op : Nat} (hop : op = opWRF ∨ op = opWRP) {r : CohReq} (hdram : region (r.line * 128) = .dram)
include hop hdram

theorem serves_homeServe (s : State) (own : Nat) : Serves r.line s (s.homeServe (homeOf r.line) op r own).2 := by
  rw [homeServe_write hop]
  exact (serves_snoopAll (homeOf_lt r.line) ..).trans (serves_homeFinish hop hdram ..)

/-- Whatever the home answers, a write of bytes of a line of DRAM leaves what `Serves` names. -/
theorem serves_homeDo (s : State) : Serves r.line s (s.homeDo op r).2 := by
  have hh := homeOf_lt r.line
  have hchk : Serves r.line s (s.homeCheck (homeOf r.line) r.line).2 := serves_homeCheck ..
  have hguard : s.homeGuard op r.node r.sec r.line = .serve ∨ s.homeGuard op r.node r.sec r.line = .decerr := by
    rw [State.homeGuard, hdram]
    dsimp only
    split
    · exact .inl rfl
    · exact .inr rfl
  unfold State.homeDo
  dsimp only
  generalize s.homeCheck (homeOf r.line) r.line = u at hchk ⊢
  rcases hguard with hserve | hdecerr
  · rw [hserve]
    refine serves_iteSnd (.refl s) (serves_iteSnd hchk ?_)
    split
    · refine serves_iteSnd (hchk.trans ((serves_dropRsv ..).trans (serves_homeServe hop hdram ..))) (serves_iteSnd ?_ (.refl s))
      exact hchk.trans ((serves_grantRsv hh ..).trans ((serves_dropRsv ..).trans (serves_homeServe hop hdram ..)))
    · refine serves_iteSnd (.refl s) ?_
      split
      · exact hchk.trans ((serves_noteRetry hh ..).trans (serves_of_same rfl rfl rfl rfl rfl))
      · exact hchk.trans (serves_homeServe hop hdram ..)
  · rw [hdecerr]
    exact .refl s

end

end Sys2Proof.Machine
end

section
/-! The lines of a dump (05 R171): what writing them leaves of the pool, and their writing where the homes are free. -/
namespace Sys2Proof.Machine
open Sys2Proof

/-! The pool beside memory at work. -/

/-- The slots, the lease work that waits and the slots' registers are as before. -/
structure KeepsPool (s t : State) : Prop where
  slots : t.slots = s.slots
  edge : t.poolEdge = s.poolEdge
  regs : ∀ k ∈ slotKinds, ∀ n, n < 32 → t.rg k 0 n = s.rg k 0 n

theorem KeepsPool.refl (s : State) : KeepsPool s s := ⟨rfl, rfl, fun _ _ _ _ => rfl⟩

theorem KeepsPool.trans {s t u : State} (h1 : KeepsPool s t) (h2 : KeepsPool t u) : KeepsPool s u :=
  ⟨h2.slots.trans h1.slots, h2.edge.trans h1.edge, fun k hk n hn => (h2.regs k hk n hn).trans (h1.regs k hk n hn)⟩

theorem KeepsPool.slotFd {s t : State} (h : KeepsPool s t) {n : Nat} (hn : n < 32) (f : Fld) : t.slotFd n f = s.slotFd n f :=
  congrArg (getF · f) (h.regs .PRL_SLOT_STAT (by decide) n hn)

theorem rg_of_get? {s t : State} {k : RegKind} {x i j : Nat} (h : t.regs.get? (k.addr x i j) = s.regs.get? (k.addr x i j)) :
    t.rg k x i j = s.rg k x i j := by
  rw [State.rg, State.rg, KMap.getD, KMap.getD, h]

theorem Serves.pool {line : Nat} {s t : State} (h : Serves line s t) : KeepsPool s t :=
  ⟨h.slots, h.edge, fun _ hk _ hn => rg_of_get? (h.regs _ (not_workReg_slotReg hk hn))⟩

theorem Serves.fd {line : Nat} {s t : State} (hs : Serves line s t) {k : RegKind} (hk : k ∈ serveKinds) {h : Nat} (hh : h < 16) (f : Fld) :
    t.fd k f h = s.fd k f h := congrArg (getF · f) (rg_of_get? (hs.regs _ (not_workReg_serve hk hh)))

/-! One line. -/

theorem lt_of_region_dram {a : Nat} (h : region a = .dram) : a < 0x400000000000 := by
  unfold region at h
  split at h
  · assumption
  · split_ifs at h

/-- The request for a line of a dump. -/
def dumpReq (d : DumpRun) (sec : Bool) (k : Nat) : CohReq :=
  { CohReq.bare 0xF58 (d.addr / 128 + k) sec with mask := (dumpLine d.image k).2, data := (dumpLine d.image k).1, poison := 0 }

/-- Its operation: the four whole lines, then half a line. -/
def dumpOp (d : DumpRun) (k : Nat) : Nat := if (dumpLine d.image k).2 = fullMask then opWRF else opWRP

theorem dumpOp_write (d : DumpRun) (k : Nat) : dumpOp d k = opWRF ∨ dumpOp d k = opWRP := by
  unfold dumpOp
  split
  · exact .inl rfl
  · exact .inr rfl

theorem dumpWrite_dram {d : DumpRun} {k : Nat} (h : region (d.addr + 128 * k) = .dram) (s : State) (sec : Bool) :
    s.dumpWrite d sec k = ((s.homeDo (dumpOp d k) (dumpReq d sec k)).1.status, (s.homeDo (dumpOp d k) (dumpReq d sec k)).2) := by
  rw [State.dumpWrite, h]
  rfl

theorem dumpReq_dram {d : DumpRun} {k : Nat} (h : region (d.addr + 128 * k) = .dram) (sec : Bool) :
    region ((dumpReq d sec k).line * 128) = .dram := by
  have hlt := lt_of_region_dram h
  have hline : (dumpReq d sec k).line = d.addr / 128 + k := rfl
  rw [hline]
  exact region_dram (by omega)

theorem keepsPool_dumpWrite (s : State) (d : DumpRun) (sec : Bool) (k : Nat) : KeepsPool s (s.dumpWrite d sec k).2 := by
  by_cases h : region (d.addr + 128 * k) = .dram
  · rw [dumpWrite_dram h]
    exact (serves_homeDo (dumpOp_write d k) (dumpReq_dram h sec) s).pool
  · have hnone : s.dumpWrite d sec k = (.decerr, s) := if_pos (by simp [h])
    rw [hnone]
    exact .refl s

/-- A dump cut short leaves the pool alone, whichever lines it wrote (05 R167). -/
theorem keepsPool_dumpSome (s : State) (d : DumpRun) (sec : Bool) : KeepsPool s (s.dumpSome d sec) := by
  refine List.foldlRecOn (motive := fun t => KeepsPool s t) _ _ (.refl s) (fun t ht k _ => ht.trans ?_)
  have hdraw : KeepsPool t t.drawBit.2 := ⟨rfl, rfl, fun _ _ _ _ => rfl⟩
  dsimp only
  split
  · exact hdraw.trans (keepsPool_dumpWrite ..)
  · exact hdraw

/-! A line whose home is free and whose directory lists no die. -/

/-- The home serves a request for the line at once, and asks no die. -/
def unheld (s : State) (line : Nat) : Prop := homeFree s line ∧ (s.home (homeOf line)).dir.get? line = none

theorem homeDo_unheld {s : State} {op : Nat} {r : CohReq} (hop : op = opWRF ∨ op = opWRP) (hdram : region (r.line * 128) = .dram)
    (hin : r.line * 128 < s.installed) (h : unheld s r.line) : s.homeDo op r = s.homeFinish (homeOf r.line) op r none 0 := by
  obtain ⟨⟨htrk, hrsv, hgate⟩, hdir⟩ := h
  have hentry : needsEntry op = false := by rcases hop with rfl | rfl <;> rfl
  have hhas : (s.home (homeOf r.line)).dir.has r.line = false := by rw [KMap.has, hdir]; rfl
  have htrkCheck : s.trkCheck (homeOf r.line) = (true, s) := by
    rw [State.trkCheck, htrk, hrsv]
    rfl
  have hcheck : s.homeCheck (homeOf r.line) r.line = (true, s) := by
    unfold State.homeCheck
    rw [htrkCheck]
    dsimp only
    unfold State.dirCheck
    rw [hhas]
    rfl
  have hrsvOf : s.rsvOf (homeOf r.line) r = none := by rw [State.rsvOf, hrsv]; rfl
  have hsnoops : s.homeSnoops (homeOf r.line) op r.node r.line = [] := by rw [State.homeSnoops, hdir]
  have hserve : s.homeServe (homeOf r.line) op r = s.homeFinish (homeOf r.line) op r none 0 := by
    rw [homeServe_write hop, hsnoops]
    rfl
  unfold State.homeDo
  dsimp only
  rw [homeGuard_dram hdram hin]
  dsimp only
  rw [hcheck]
  dsimp only
  rw [hgate, if_neg Bool.false_ne_true, hrsvOf, hrsv, blocked_free htrk hrsv hentry]
  exact hserve

/-- The state after a line of a dump has been written at a home that no die shares it with (10 R281). -/
def State.dumpedLine (s : State) (d : DumpRun) (k : Nat) : State :=
  (s.memWrite (d.addr / 128 + k) (decide (k < 4)) (dumpLine d.image k).2 (dumpLine d.image k).1 0).dirDrop (homeOf (d.addr / 128 + k))
    (d.addr / 128 + k)

theorem dumpOp_eq (d : DumpRun) (k : Nat) : dumpOp d k = if k < 4 then opWRF else opWRP := by
  have hhalf : BitVec.ofNat 128 (2 ^ 64 - 1) ≠ fullMask := by decide
  unfold dumpOp dumpLine
  by_cases hk : k < 4
  · rw [if_pos hk, if_pos hk]
    exact if_pos rfl
  · rw [if_neg hk, if_neg hk]
    exact if_neg hhalf

theorem homeFinish_dump (s : State) (d : DumpRun) (sec : Bool) (k : Nat) :
    s.homeFinish (homeOf (dumpReq d sec k).line) (dumpOp d k) (dumpReq d sec k) none 0 = (HReply.cmp .ok, s.dumpedLine d k) := by
  rw [dumpOp_eq, State.dumpedLine]
  by_cases hk : k < 4
  · have hmask : (dumpLine d.image k).2 = fullMask := if_pos hk
    rw [if_pos hk, decide_eq_true hk, hmask]
    rfl
  · rw [if_neg hk, decide_eq_false hk]
    rfl

theorem dirDrop_home (s : State) (h x m : Nat) : ((s.dirDrop h x).home m).trk = (s.home m).trk ∧
    ((s.dirDrop h x).home m).rsv = (s.home m).rsv ∧ ∀ l, (s.home m).dir.get? l = none → ((s.dirDrop h x).home m).dir.get? l = none := by
  unfold State.dirDrop
  dsimp only
  by_cases hm : m = h
  · subst hm
    rw [home_setHome_self]
    refine ⟨rfl, rfl, fun l hl => ?_⟩
    by_cases hlx : l = x
    · rw [hlx]
      exact KMap.get?_erase_self ..
    · exact (KMap.get?_erase_ne _ hlx).trans hl
  · rw [home_setHome_ne _ _ hm]
    exact ⟨rfl, rfl, fun _ hl => hl⟩

/-- A whole line is in the system cache then, where it is enabled. -/
theorem dumpedLine_msc {s : State} {d : DumpRun} {k : Nat} (hk : k < 4) (hen : s.fb .MSC_CTL MSC_CTL.EN (homeOf (d.addr / 128 + k)) = true) :
    ((s.dumpedLine d k).msc.get? (d.addr / 128 + k)).map (fun v => v.data) = some (BitVec.setWidth 1024 (d.image >>> (1024 * k))) := by
  have hput := memWrite_msc hen (dumpLine d.image k).2 (dumpLine d.image k).1
  rw [← decide_eq_true hk] at hput
  exact congrArg (Option.map DcLine.data) hput

section
variable {s : State} {d : DumpRun} {k : Nat} (hdram : region (d.addr + 128 * k) = .dram)
include hdram

theorem dumpWrite_unheld (hin : (d.addr / 128 + k) * 128 < s.installed) (h : unheld s (d.addr / 128 + k)) (sec : Bool) :
    s.dumpWrite d sec k = (.ok, s.dumpedLine d k) := by
  rw [dumpWrite_dram hdram, homeDo_unheld (dumpOp_write d k) (dumpReq_dram hdram sec) hin h, homeFinish_dump]
  rfl

theorem serves_dumpedLine (s : State) : Serves (d.addr / 128 + k) s (s.dumpedLine d k) :=
  (serves_memWrite (dumpReq_dram hdram false) ..).trans (serves_dirDrop ..)

/-- Another line that no die holds stays so, and its home stays free. -/
theorem unheld_dumpedLine {l : Nat} (h : unheld s l) : unheld (s.dumpedLine d k) l := by
  have hserves := serves_dumpedLine hdram s
  have hhome := (keepsCaches_memWrite s (d.addr / 128 + k) (decide (k < 4)) (dumpLine d.image k).2 (dumpLine d.image k).1 0).home (homeOf l)
  obtain ⟨htrk', hrsv', hdir'⟩ := dirDrop_home (s.memWrite (d.addr / 128 + k) (decide (k < 4)) (dumpLine d.image k).2 (dumpLine d.image k).1 0)
    (homeOf (d.addr / 128 + k)) (d.addr / 128 + k) (homeOf l)
  rw [hhome] at htrk' hrsv' hdir'
  obtain ⟨⟨htrk, hrsv, hgate⟩, hdir⟩ := h
  have hgate' : (s.dumpedLine d k).memGated l = s.memGated l := by
    have hh := homeOf_lt l
    rw [State.memGated, State.memGated, hserves.gates _ (by omega), State.fb, State.fb, hserves.fd (by decide) hh]
  exact ⟨⟨htrk'.trans htrk, hrsv'.trans hrsv, hgate'.trans hgate⟩, hdir' l hdir⟩

end

/-! The five lines. -/

/-- The home of a line, from the lowest four bits of its number and from the others (10 R268). -/
theorem homeOf_eq (line : Nat) : homeOf line = line % 16 ^^^ (List.range 12).foldl (fun h i => h ^^^ ((line / 16) >>> (4 * i)) % 16) 0 := by
  have hxor : ∀ (f : Nat → Nat) (l : List Nat) (a : Nat), l.foldl (fun h i => h ^^^ f i) a = a ^^^ l.foldl (fun h i => h ^^^ f i) 0 := by
    intro f l
    induction l with
    | nil => simp
    | cons i l ih =>
      intro a
      rw [List.foldl_cons, List.foldl_cons, ih, ih (0 ^^^ f i), Nat.zero_xor, Nat.xor_assoc]
  have hshift (i : Nat) : line >>> (4 * (i + 1)) = (line / 16) >>> (4 * i) := by
    rw [Nat.shiftRight_eq_div_pow, Nat.shiftRight_eq_div_pow, Nat.div_div_eq_div_mul, Nat.mul_add, Nat.pow_add, Nat.mul_comm]
  rw [homeOf, List.range_succ_eq_map, List.foldl_cons, List.foldl_map, hxor]
  simp only [Nat.succ_eq_add_one, hshift]
  simp

/-- Two lines less than 16 apart lie in different sets of the system cache or at different homes. -/
theorem not_sameSet_of_near {a i j : Nat} (hij : i ≠ j) (hi : i < 16) (hj : j < 16) : ¬ sameSet (a + i) (a + j) := by
  rintro ⟨hhome, hset⟩
  have hblock : (a + i) / 16 = (a + j) / 16 := by
    unfold mscSet at hset
    omega
  rw [homeOf_eq, homeOf_eq, hblock, Nat.xor_left_inj] at hhome
  omega

/-- How far a dump has come: the lines written are in the system cache, and no line is held by a die. -/
structure Dumping (s : State) (d : DumpRun) (n : Nat) (t : State) : Prop where
  pool : KeepsPool s t
  serve : ∀ k ∈ serveKinds, ∀ h, h < 16 → ∀ f, t.fd k f h = s.fd k f h
  unheld : ∀ k, k < 5 → unheld t (d.addr / 128 + k)
  cached : ∀ k, k < n → k < 4 → s.fb .MSC_CTL MSC_CTL.EN (homeOf (d.addr / 128 + k)) = true →
    (t.msc.get? (d.addr / 128 + k)).map (fun v => v.data) = some (BitVec.setWidth 1024 (d.image >>> (1024 * k)))

theorem Dumping.step {s t : State} {d : DumpRun} {n : Nat} (h : Dumping s d n t) (hn : n < 5) (hdram : region (d.addr + 128 * n) = .dram) :
    Dumping s d (n + 1) (t.dumpedLine d n) := by
  have hserves := serves_dumpedLine hdram t
  refine ⟨h.pool.trans hserves.pool, fun k hk m hm f => (hserves.fd hk hm f).trans (h.serve k hk m hm f),
    fun k hk => unheld_dumpedLine hdram (h.unheld k hk), fun k hk hk4 hen => ?_⟩
  rcases Nat.lt_succ_iff_lt_or_eq.mp hk with hlt | rfl
  · rw [hserves.msc _ (not_sameSet_of_near (Nat.ne_of_lt hlt) (by omega) (by omega))]
    exact h.cached k hlt hk4 hen
  · refine dumpedLine_msc hk4 ?_
    rwa [State.fb, h.serve _ (by decide) _ (homeOf_lt _)]

/-- A dump to installed DRAM whose lines no die holds is written whole. -/
theorem dumpLines_unheld {s : State} {d : DumpRun} (sec : Bool) (hin : d.addr + 640 ≤ s.installed) (hdram : d.addr + 640 ≤ 0x400000000000)
    (hfree : ∀ k, k < 5 → unheld s (d.addr / 128 + k)) : ∃ u, s.dumpLines d sec = (true, false, u) ∧ Dumping s d 5 u := by
  have hsteps : ∀ n, n ≤ 5 → ∃ u, (List.range n).foldl (fun (a : Bool × Bool × State) k =>
      let w := a.2.2.dumpWrite d sec k
      (a.1 && w.1 == .ok, a.2.1 || w.1 == .retry, w.2)) (true, false, s) = (true, false, u) ∧ Dumping s d n u := by
    intro n
    induction n with
    | zero => exact fun _ => ⟨s, rfl, .refl s, fun _ _ _ _ _ => rfl, hfree, fun k hk => absurd hk (Nat.not_lt_zero k)⟩
    | succ n ih =>
      intro hn
      obtain ⟨u, hfold, hu⟩ := ih (by omega)
      have hregion : region (d.addr + 128 * n) = .dram := region_dram (by omega)
      have hcap : u.installed = s.installed := by
        rw [State.installed, State.installed, hu.serve .MEM_CFG (by decide) 0 (by decide)]
      have hwrite := dumpWrite_unheld hregion (by rw [hcap]; omega) (hu.unheld n (by omega)) sec
      refine ⟨u.dumpedLine d n, ?_, hu.step (by omega) hregion⟩
      rw [List.range_succ, List.foldl_append, hfold, List.foldl_cons, List.foldl_nil]
      dsimp only
      rw [hwrite]
      rfl
  exact hsteps 5 (Nat.le_refl 5)

end Sys2Proof.Machine
end

section
/-! O30: leases end, slots are wiped, dumps end, waiters are granted (05 R162 to R167, R171). -/
namespace Sys2Proof.Machine
open Sys2Proof

/-! The end of a lease (05 R166 step 1). -/

/-- The frame EXPF of a granted slot has just ended. -/
def leaseDue (s : State) (n : Nat) : Prop :=
  (s.slotState n = 1 ∨ s.slotState n = 2) ∧ (s.fd .PRL_SLOT_LEASE PRL_SLOT_LEASE.EXPF 0 n + 1) % 2 ^ 48 = s.frameNo

theorem leaseEnd_plain {s : State} {n : Nat} (hkind : s.slotFd n PRL_SLOT_STAT.OKIND ≠ 3) :
    s.leaseEnd n = (s.setSlotState n 3).setSlotFd n PRL_SLOT_STAT.LEV 1 := by
  refine if_neg ?_
  simpa (disch := decide) only [State.slotFd, State.setSlotFd, State.setSlotState, fd_setFd_disjoint] using hkind

/-- What the end of a lease makes of a slot's status: CLOSING, with LEV. -/
def endedWord (w : Word) : Word := setF (setF w PRL_SLOT_STAT.STATE 3) PRL_SLOT_STAT.LEV 1

/-- The slots below `m` have been looked at: those whose lease is due have ended, and nothing else has changed. -/
structure LeasesEnded (m : Nat) (s t : State) : Prop where
  slots : t.slots = s.slots
  due : ∀ k, k < m → leaseDue s k → t.rg .PRL_SLOT_STAT 0 k = endedWord (s.rg .PRL_SLOT_STAT 0 k)
  others : ∀ k, ¬ (k < m ∧ leaseDue s k) → t.rg .PRL_SLOT_STAT 0 k = s.rg .PRL_SLOT_STAT 0 k
  lease : ∀ k, t.rg .PRL_SLOT_LEASE 0 k = s.rg .PRL_SLOT_LEASE 0 k
  frame : t.frameNo = s.frameNo

theorem LeasesEnded.skip {m : Nat} {s t : State} (h : LeasesEnded m s t) (hdue : ¬ leaseDue s m) : LeasesEnded (m + 1) s t where
  slots := h.slots
  due k hk hd := h.due k (Nat.lt_of_le_of_ne (Nat.le_of_lt_succ hk) (fun heq => hdue (heq ▸ hd))) hd
  others k hk := h.others k (fun ⟨hlt, hd⟩ => hk ⟨Nat.lt_succ_of_lt hlt, hd⟩)
  lease := h.lease
  frame := h.frame

theorem LeasesEnded.expire {m : Nat} {s t : State} (h : LeasesEnded m s t) (hkind : s.slotFd m PRL_SLOT_STAT.OKIND ≠ 3) (hdue : leaseDue s m) :
    LeasesEnded (m + 1) s (t.leaseEnd m) := by
  have hsame : t.rg .PRL_SLOT_STAT 0 m = s.rg .PRL_SLOT_STAT 0 m := h.others m (fun ⟨hlt, _⟩ => Nat.lt_irrefl m hlt)
  have hkind' : t.slotFd m PRL_SLOT_STAT.OKIND ≠ 3 := by rwa [State.slotFd, State.fd, hsame]
  have hself : (t.leaseEnd m).rg .PRL_SLOT_STAT 0 m = endedWord (s.rg .PRL_SLOT_STAT 0 m) := by
    rw [leaseEnd_plain hkind', State.setSlotFd, State.setFd, rg_setRg_self, State.setSlotState, State.setFd, rg_setRg_self, hsame]
    rfl
  have hother {k : Nat} (hk : k ≠ m) : (t.leaseEnd m).rg .PRL_SLOT_STAT 0 k = t.rg .PRL_SLOT_STAT 0 k := by
    have haddr := slotReg_ne_slot (k := .PRL_SLOT_STAT) (by decide) hk
    rw [leaseEnd_plain hkind', State.setSlotFd, rg_setFd_ne _ _ _ _ _ _ _ _ _ _ _ haddr, State.setSlotState,
      rg_setFd_ne _ _ _ _ _ _ _ _ _ _ _ haddr]
  refine ⟨?_, fun k hk hd => ?_, fun k hk => ?_, fun k => ?_, ?_⟩
  · rw [leaseEnd_plain hkind']
    exact h.slots
  · rcases Nat.lt_succ_iff_lt_or_eq.mp hk with hlt | rfl
    · exact (hother (Nat.ne_of_lt hlt)).trans (h.due k hlt hd)
    · exact hself
  · have hne : k ≠ m := fun heq => hk ⟨heq ▸ Nat.lt_succ_self m, heq ▸ hdue⟩
    exact (hother hne).trans (h.others k (fun ⟨hlt, hd⟩ => hk ⟨Nat.lt_succ_of_lt hlt, hd⟩))
  · rw [leaseEnd_plain hkind', State.setSlotFd, rg_setFd_slotReg _ _ _ _ _ (by decide), State.setSlotState,
      rg_setFd_slotReg _ _ _ _ _ (by decide)]
    exact h.lease k
  · rw [leaseEnd_plain hkind', State.frameNo, State.setSlotFd, fd_setFd_headReg _ _ _ _ _ (by decide), State.setSlotState,
      fd_setFd_headReg _ _ _ _ _ (by decide)]
    exact h.frame

/-- A slot is looked at by the work of an edge. -/
def State.leaseLook (s : State) (n : Nat) : State :=
  if (s.slotState n = 1 ∨ s.slotState n = 2) ∧ (s.fd .PRL_SLOT_LEASE PRL_SLOT_LEASE.EXPF 0 n + 1) % 2 ^ 48 = s.frameNo then s.leaseEnd n else s

/-- Without an abandoned dump, the first work of an edge looks at every slot. -/
theorem leaseExpire_looks {s : State} (hexpire : s.poolEdge.expire = true) (hlate : s.poolEdge.late = []) :
    s.leaseExpire = (List.range 32).foldl State.leaseLook { s with poolEdge := { s.poolEdge with expire := false } } := by
  have hnone : s.poolEdge.late.foldl State.dumpAbandon s = s := by rw [hlate, List.foldl_nil]
  unfold State.leaseExpire
  dsimp only
  rw [hexpire, Bool.not_true, if_neg Bool.false_ne_true, hnone]
  rfl

theorem leasesEnded_looks {s t : State} (h0 : LeasesEnded 0 s t) (hkind : ∀ k, k < 32 → s.slotFd k PRL_SLOT_STAT.OKIND ≠ 3) (m : Nat)
    (hm : m ≤ 32) : LeasesEnded m s ((List.range m).foldl State.leaseLook t) := by
  induction m with
  | zero => exact h0
  | succ m ih =>
    have h := ih (Nat.le_of_succ_le hm)
    rw [List.range_succ, List.foldl_append, List.foldl_cons, List.foldl_nil]
    generalize (List.range m).foldl State.leaseLook t = u at h ⊢
    have hsame : u.rg .PRL_SLOT_STAT 0 m = s.rg .PRL_SLOT_STAT 0 m := h.others m (fun ⟨hlt, _⟩ => Nat.lt_irrefl m hlt)
    have hdue : leaseDue u m ↔ leaseDue s m := by
      rw [leaseDue, leaseDue, State.slotState, State.fd, State.fd, hsame, h.lease, h.frame, State.slotState, State.fd, State.fd]
    unfold State.leaseLook
    split
    · rename_i hyes
      exact h.expire (hkind m hm) (hdue.mp hyes)
    · rename_i hno
      exact h.skip (fun hd => hno (hdue.mpr hd))

theorem exec_leaseExpiry {s : State} (hlive : s.dead = false) : exec .leaseExpiry s = .next s.leaseExpire := by
  have hexec : exec .leaseExpiry s = execLeaseExpiry s := rfl
  rw [hexec, execLeaseExpiry, hlive, if_neg Bool.false_ne_true]

/-! A slot is wiped (05 R166 steps 2 and 3). -/

section
variable {s : State} {n : Nat}

/-- A CLOSING slot with nothing to add and no dump is wiped. -/
theorem slotFinish_wipes (hclosing : s.slotState n = 3) (hdump : (s.slot n).dump = none) (hqueue : (s.slot n).queue = []) :
    s.slotFinish n = s.slotWipe n := by
  rw [State.slotFinish, if_pos ⟨hclosing, by rw [hdump]; rfl⟩, hqueue]
  rfl

/-- What the wipe of a slot leaves in its status. -/
theorem slotFd_slotWipe {f : Fld} (hf : f = PRL_SLOT_STAT.EPOCH ∨ f = PRL_SLOT_STAT.DERR) : (s.slotWipe n).slotFd n f = s.slotFd n f := by
  unfold State.slotWipe State.slotFd
  dsimp only
  rw [fd_of_regs (setSlot_regs ..), fd_setRg_self]
  rcases hf with rfl | rfl <;> simp (disch := decide) only [getF_setF_disjoint] <;> rfl

theorem slotState_slotWipe (s : State) (n : Nat) : (s.slotWipe n).slotState n = 0 := by
  unfold State.slotWipe State.slotState
  dsimp only
  rw [fd_of_regs (setSlot_regs ..), fd_setRg_self]
  simp (disch := decide) only [getF_setF_disjoint, getF_setF_self]
  rfl

theorem slot_slotWipe (s : State) (n : Nat) : (s.slotWipe n).slot n =
    { Slot.reset with ended := if (s.slot n).released then 2 else 1, round := (s.slot n).round } := slot_setSlot_self ..

theorem lovr_slotWipe (s : State) (n : Nat) : (s.slotWipe n).fb .PRL_STATUS PRL_STATUS.LOVR = s.fb .PRL_STATUS PRL_STATUS.LOVR := by
  unfold State.slotWipe State.fb
  dsimp only
  rw [fd_of_regs (setSlot_regs ..), fd_setRg_headReg _ _ _ _ (by decide)]

end

theorem exec_slotWiped {slot : SlotNo} {s : State} (hlive : s.dead = false) (hsettled : s.settled) :
    exec (.slotWiped slot) s = .next (s.slotFinish slot) := by
  have hexec : exec (.slotWiped slot) s = execSlotWiped slot s := rfl
  rw [hexec, execSlotWiped, hlive, if_neg Bool.false_ne_true, poolSync_settled hsettled]

/-! The end of a dump (05 R171). -/

/-- The slot after its dump: DEV, and DERR where a line failed. -/
def State.dumpEnd (u : State) (n : Nat) (ok : Bool) : State :=
  if ok then (u.setSlot n { u.slot n with dump := none }).setSlotFd n PRL_SLOT_STAT.DEV 1
  else ((u.setSlot n { u.slot n with dump := none }).setSlotFd n PRL_SLOT_STAT.DEV 1).setSlotFd n PRL_SLOT_STAT.DERR 1

theorem dumpEnd_slot (u : State) (n : Nat) (ok : Bool) : (u.dumpEnd n ok).slot n = { u.slot n with dump := none } := by
  cases ok with
  | false => exact slot_setSlot_self ..
  | true => exact slot_setSlot_self ..

theorem dumpEnd_mem (u : State) (n : Nat) (ok : Bool) : (u.dumpEnd n ok).mem = u.mem ∧ (u.dumpEnd n ok).msc = u.msc := by
  cases ok with
  | false => exact ⟨rfl, rfl⟩
  | true => exact ⟨rfl, rfl⟩

theorem dumpEnd_status (u : State) (n : Nat) (ok : Bool) : (u.dumpEnd n ok).slotFd n PRL_SLOT_STAT.DEV = 1 ∧
    (u.dumpEnd n ok).slotFd n PRL_SLOT_STAT.DERR = if ok then u.slotFd n PRL_SLOT_STAT.DERR else 1 := by
  cases ok with
  | false =>
    refine ⟨?_, fd_setFd_self _ _ PRL_SLOT_STAT.DERR 1 _ _ _ (by decide)⟩
    exact (fd_setFd_disjoint _ _ PRL_SLOT_STAT.DERR PRL_SLOT_STAT.DEV _ _ _ _ (by decide) (by decide)).trans
      (fd_setFd_self _ _ PRL_SLOT_STAT.DEV 1 _ _ _ (by decide))
  | true =>
    exact ⟨fd_setFd_self _ _ PRL_SLOT_STAT.DEV 1 _ _ _ (by decide),
      fd_setFd_disjoint _ _ PRL_SLOT_STAT.DEV PRL_SLOT_STAT.DERR _ _ _ _ (by decide) (by decide)⟩

theorem exec_dumpDone {slot : SlotNo} {d : DumpRun} {ok : Bool} {s u : State} (hlive : s.dead = false) (hsettled : s.settled)
    (hdump : (s.slot slot).dump = some d) (hlines : s.dumpLines d (s.slotFd slot PRL_SLOT_STAT.SEC == 1) = (ok, false, u))
    (hqueue : (u.slot slot).queue = []) : exec (.dumpDone slot) s = .next (u.dumpEnd slot ok) := by
  have hempty : ((u.dumpEnd slot ok).slot slot).queue = [] := by
    rw [dumpEnd_slot]
    exact hqueue
  have hexec : exec (.dumpDone slot) s = execDumpDone slot s := rfl
  rw [hexec, execDumpDone]
  dsimp only
  rw [hlive, if_neg Bool.false_ne_true, poolSync_settled hsettled, hdump]
  dsimp only
  rw [hlines]
  dsimp only
  rw [if_neg Bool.false_ne_true, ← State.dumpEnd, hempty]
  rfl

/-! A dump is abandoned (05 R167). -/

theorem ovrRise_keeps (s old : State) : (s.ovrRise old).regs = s.regs ∧ (s.ovrRise old).slots = s.slots ∧ (s.ovrRise old).poolEdge = s.poolEdge := by
  unfold State.ovrRise
  split
  · exact ⟨raiseSrc_regs .., raiseSrc_slots .., raiseSrc_poolEdge ..⟩
  · exact ⟨rfl, rfl, rfl⟩

/-- The state in which the lines of the one dump that an edge has caught are cut short. -/
abbrev State.caught (s : State) : State := { s with poolEdge := { s.poolEdge with late := [] } }

/-- What is recorded of a dump that has been cut short: LOVR and DERR; the slot has no dump any more. -/
def State.dumpCut (u : State) (n : Nat) : State :=
  ((u.setFd .PRL_STATUS PRL_STATUS.LOVR 1).setSlotFd n PRL_SLOT_STAT.DERR 1).setSlot n { u.slot n with dump := none }

theorem slot_dumpCut (u : State) (n : Nat) : (u.dumpCut n).slot n = { u.slot n with dump := none } := slot_setSlot_self ..

theorem slotState_dumpCut (u : State) (n : Nat) : (u.dumpCut n).slotState n = u.slotState n := by
  unfold State.dumpCut
  simp (disch := decide) only [State.slotState, fd_of_regs (setSlot_regs ..), State.setSlotFd, fd_setFd_disjoint, fd_setHeadFd]

theorem recorded_dumpCut (u : State) (n : Nat) : (u.dumpCut n).fb .PRL_STATUS PRL_STATUS.LOVR = true ∧
    (u.dumpCut n).slotFd n PRL_SLOT_STAT.DERR = 1 := by
  unfold State.dumpCut
  rw [State.fb, State.slotFd, fd_of_regs (setSlot_regs ..), fd_of_regs (setSlot_regs ..), State.setSlotFd,
    fd_setFd_headReg _ _ _ _ _ (by decide), fd_setFd_self _ _ _ _ _ _ _ (by decide), fd_setFd_self _ _ _ _ _ _ _ (by decide)]
  exact ⟨rfl, rfl⟩

section
variable {s u : State} {n : Nat} {d : DumpRun} (hlate : s.poolEdge.late = [n]) (hdump : (s.slot n).dump = some d)
  (hu : s.caught.dumpSome d (s.slotFd n PRL_SLOT_STAT.SEC == 1) = u) (hclosing : u.slotState n = 3) (hqueue : (u.slot n).queue = [])
include hlate hdump hu hclosing hqueue

theorem dumpAbandon_eq : s.dumpAbandon n = (u.dumpCut n).slotWipe n := by
  have hfilter : [n].filter (fun m => m != n) = [] := by simp
  have hdump' : (s.caught.slot n).dump = some d := hdump
  have hcaught : s.dumpAbandon n = (u.dumpCut n).slotFinish n := by
    subst hu
    unfold State.dumpAbandon
    rw [hlate, hfilter]
    dsimp only
    rw [hdump']
    rfl
  rw [hcaught]
  refine slotFinish_wipes ((slotState_dumpCut u n).trans hclosing) ?_ ?_
  · rw [slot_dumpCut]
  · rw [slot_dumpCut]
    exact hqueue

/-- What an abandoned dump leaves (05 R167). -/
theorem dumpAbandon_result : (s.dumpAbandon n).fb .PRL_STATUS PRL_STATUS.LOVR = true ∧ (s.dumpAbandon n).slotState n = 0 ∧
    ((s.dumpAbandon n).slot n).dump = none ∧ (s.dumpAbandon n).slotFd n PRL_SLOT_STAT.DERR = 1 ∧ (s.dumpAbandon n).poolEdge = u.poolEdge := by
  obtain ⟨hlovr, hderr⟩ := recorded_dumpCut u n
  rw [dumpAbandon_eq hlate hdump hu hclosing hqueue]
  exact ⟨(lovr_slotWipe _ n).trans hlovr, slotState_slotWipe .., by rw [slot_slotWipe]; rfl, (slotFd_slotWipe (.inr rfl)).trans hderr, rfl⟩

end

theorem exec_dumpAbandon {slot : SlotNo} {s : State} (hlive : s.dead = false) (hlate : s.poolEdge.late = [slot.val]) :
    exec (.dumpAbandon slot) s = .next ((s.dumpAbandon slot).ovrRise s) := by
  have hcaught : (s.dead || !s.poolEdge.late.contains slot.val) = false := by simp [hlive, hlate]
  have hexec : exec (.dumpAbandon slot) s = execDumpAbandon slot s := rfl
  rw [hexec, execDumpAbandon, hcaught, if_neg Bool.false_ne_true]

/-- DUMP_ABANDON in terms of the state in which its lines have been cut short. -/
theorem answers_dumpAbandon {slot : SlotNo} {d : DumpRun} {s u : State} (hlive : s.dead = false) (hlate : s.poolEdge.late = [slot.val])
    (hdump : (s.slot slot).dump = some d) (hu : s.caught.dumpSome d (s.slotFd slot PRL_SLOT_STAT.SEC == 1) = u)
    (hclosing : u.slotState slot = 3) (hqueue : (u.slot slot).queue = []) :
    Answers (.dumpAbandon slot) s (fun t => t.fb .PRL_STATUS PRL_STATUS.LOVR = true ∧ t.slotState slot = 0 ∧ (t.slot slot).dump = none ∧
      t.slotFd slot PRL_SLOT_STAT.DERR = 1 ∧ t.poolEdge = u.poolEdge) := by
  obtain ⟨hlovr, hfree, hnone, hderr, hedge⟩ := dumpAbandon_result hlate hdump hu hclosing hqueue
  obtain ⟨hregs, hslots, hedge'⟩ := ovrRise_keeps (s.dumpAbandon slot) s
  exact ⟨_, exec_dumpAbandon hlive hlate, by rwa [State.fb, fd_of_regs hregs], (fd_of_regs hregs ..).trans hfree,
    by rwa [slot_of_slots hslots], (fd_of_regs hregs ..).trans hderr, hedge'.trans hedge⟩

/-! A waiter is granted (05 R164, R166 step 4). -/

/-- The one waiter gets the one slot that was FREE at the edge. -/
theorem poolSync_grants {s : State} {q : Waiter} {n : Nat} (hexpire : s.poolEdge.expire = false) (hgrant : s.poolEdge.grant = true)
    (hfree : s.poolEdge.free = [n]) (hwaits : s.waitq = [q]) (hdest : q.dest = 0) (hslot : s.slotState n = 0)
    (hquota : s.prlHolding q.okind q.oid < s.prlQuota q.okind q.oid) :
    ∃ t, s.poolSync = t ∧ t.waitq = [] ∧
      t.regs = ((s.grantSlot n q).grantOut q 2 n ((s.grantSlot n q).slotFd n PRL_SLOT_STAT.EPOCH)).regs := by
  have hleases : s.leaseExpire = s := by
    rw [State.leaseExpire, hexpire]
    rfl
  have hfind : [n].find? (fun n => s.slotState n == 0) = some n := by simp [hslot]
  have hwaitq : ((s.grantSlot n q).grantOut q 2 n ((s.grantSlot n q).slotFd n PRL_SLOT_STAT.EPOCH)).waitq = [q] := by
    rw [grantOut_register hdest]
    exact hwaits
  refine ⟨_, rfl, ?_⟩
  unfold State.poolSync
  dsimp only
  rw [hleases, hgrant, if_pos rfl, hfree, hwaits, State.grantWaiters, if_pos hquota, grantFrom_some hfind]
  dsimp only [State.grantWaiters]
  rw [hwaitq]
  exact ⟨by simp, rfl⟩

theorem exec_waiterGrant {s : State} (hlive : s.dead = false) : exec .waiterGrant s = .next s.poolSync := by
  have hexec : exec .waiterGrant s = execWaiterGrant s := rfl
  rw [hexec, execWaiterGrant, hlive, if_neg Bool.false_ne_true]

/-- Settles O30: leases, wipes, dumps, abandoned dumps and waiters. -/
theorem poolLeases : Obligations.PoolLeases := by
  unfold Obligations.PoolLeases
  refine ⟨fun s hlive hexpire hlate hkind => ⟨_, exec_leaseExpiry hlive, fun k hk => ?_⟩,
    fun slot s hlive hsettled hclosing hdump hqueue => ⟨_, exec_slotWiped hlive hsettled, ?_⟩,
    fun slot d s hlive hsettled hdump hqueue _ hin hdram _ hfree => ?_,
    fun slot d ok s u hlive hsettled hdump hlines hqueue => ⟨_, exec_dumpDone hlive hsettled hdump hlines hqueue, ?_⟩,
    fun slot d s hlive hlate hdump hu => ?_, fun slot d s hlive hlate hdump hclosing hqueue => ?_,
    fun s q n hlive hexpire hgrant hfree hwaits hdest htag hslot hn hquota => ?_⟩
  · have h0 : LeasesEnded 0 s { s with poolEdge := { s.poolEdge with expire := false } } :=
      ⟨rfl, fun k hk => absurd hk (Nat.not_lt_zero k), fun _ _ => rfl, fun _ => rfl, rfl⟩
    have hends := leasesEnded_looks h0 hkind 32 (Nat.le_refl 32)
    rw [← leaseExpire_looks hexpire hlate] at hends
    refine ⟨fun hdue => ?_, fun hdue => hends.others k (fun ⟨_, hd⟩ => hdue hd)⟩
    have hword := hends.due k hk hdue
    refine ⟨?_, ?_, slot_of_slots hends.slots k⟩
    · rw [State.slotState, State.fd, hword, endedWord, getF_setF_disjoint _ _ _ _ (by decide) (by decide), getF_setF_self _ _ _ (by decide)]
      rfl
    · rw [State.slotFd, State.fd, hword, endedWord, getF_setF_self _ _ _ (by decide)]
      rfl
  · rw [slotFinish_wipes hclosing hdump hqueue]
    exact ⟨slotState_slotWipe .., by rw [slot_slotWipe]; rfl, by rw [slot_slotWipe]; rfl, slotFd_slotWipe (.inl rfl), by rw [slot_slotWipe]⟩
  · obtain ⟨u, hlines, hdumped⟩ := dumpLines_unheld (s.slotFd slot PRL_SLOT_STAT.SEC == 1) hin hdram hfree
    have hslot : u.slot slot = s.slot slot := slot_of_slots hdumped.pool.slots slot
    obtain ⟨hdev, hderr⟩ := dumpEnd_status u slot true
    refine ⟨_, exec_dumpDone hlive hsettled hdump hlines (by rw [hslot, hqueue]), hdev, by rw [dumpEnd_slot],
      hderr.trans (hdumped.pool.slotFd slot.isLt _), fun k hk hen => ?_⟩
    rw [(dumpEnd_mem u slot true).2]
    exact hdumped.cached k (by omega) hk hen
  · obtain ⟨hdev, hderr⟩ := dumpEnd_status u slot ok
    exact ⟨hdev, by rw [dumpEnd_slot], (dumpEnd_mem u slot ok).1, hderr⟩
  · obtain ⟨t, hexec, hlovr, hst, hnone, hderr, -⟩ := answers_dumpAbandon hlive hlate hdump rfl hu.1 hu.2
    exact ⟨t, hexec, hlovr, hst, hnone, hderr⟩
  · have hpool := keepsPool_dumpSome s.caught d (s.slotFd slot PRL_SLOT_STAT.SEC == 1)
    obtain ⟨t, hexec, hlovr, hst, hnone, hderr, hedge⟩ := answers_dumpAbandon hlive hlate hdump rfl
      ((hpool.slotFd slot.isLt _).trans hclosing) (by rw [slot_of_slots hpool.slots]; exact hqueue)
    exact ⟨t, hexec, hlovr, hst, hnone, hderr, by rw [hedge, hpool.edge]⟩
  · obtain ⟨t, hsync, hempty, hregs⟩ := poolSync_grants hexpire hgrant hfree hwaits hdest hslot hquota
    have hgranted := granted_grantOut hdest htag s n ((s.grantSlot n q).slotFd n PRL_SLOT_STAT.EPOCH)
    refine ⟨t, (exec_waiterGrant hlive).trans (congrArg _ hsync), hempty, (fd_of_regs hregs ..).trans hgranted.opened,
      (fd_of_regs hregs ..).trans hgranted.epoch, (fd_of_regs hregs ..).trans hgranted.lease, (fd_of_regs hregs ..).trans hgranted.outcome,
      (fd_of_regs hregs ..).trans (hgranted.named.trans (Nat.mod_eq_of_lt hn))⟩

end Sys2Proof.Machine
end
